-- ==== Sys2Proof/Word.lean ====
section
/-! DEFINITION. The word types of the model: a byte of an addressed memory and the sparse tables that hold state by
number. -/
namespace Sys2Proof

/-- One byte of an addressed memory. -/
abbrev Byte := BitVec 8

/-- A sparse table from numbers to values: keys strictly rising, and no entry equal to what an unlisted key reads as. -/
abbrev SMap (α : Type) := List (Nat × α)

end Sys2Proof
end

