-- ==== Sys2Proof/Syntax.lean ====
section
/-! DEFINITION. The commands of the ER3234: one constructor of `Instr` for each row of the table of operations and
events, with the operands each command carries, and the plain-data types of those operands. Commands are what the
outside world or the device's own timers do to the block; spec/95_what_each_step_holds.md lists what comes about in each. -/
namespace Sys2Proof

/-- The three requesters of the management address space (chapter 13); codes 0, 1, 2 of GLB_WERR.FREQ (R417). -/
inductive Requester where
  | normal | secure | jtag
deriving DecidableEq, Repr

/-- Strap pins sampled at the release of a power-on or pin reset (R298, R330, R428). -/
structure Straps where
  addr : Nat
  bootsel : Nat
deriving DecidableEq, Repr

/-- What one MIRROR_REFRESH covers: the mirrors of a quad, or those of the core blocks PORT, CMP and SPARE (R406). -/
inductive MirrorUnit where
  | core
  | quad (q : Nat)
deriving DecidableEq, Repr

/-- A training set received on one side of a port, with what R85 to R97 and R121 let the device learn from it.
`state` is the code of R89 that the set leads the port to; `rates` has bit r for rate code r. -/
structure TrainSet where
  inner : Bool
  state : Nat
  ts2 : Bool
  rates : Nat
  rp : Bool
  trp : Bool
  l0p : Bool
  flit : Bool
  fmt : Nat
  width : Nat
  logical : List Nat
  inverted : List Nat
  rate : Nat
  presetUsp : Nat
  presetDsp : Nat
  /-- The link number; the receiver preset hints for the link's Upstream and Downstream Port, where they are given (R90);
  equalization bypass to the highest rate and no equalization needed (R95); the de-emphasis selected, −6 dB (R53); FS and LF,
  0 where the set carries none (R52). -/
  link : Nat := 0
  hintUsp : Option Nat := none
  hintDsp : Option Nat := none
  eqBypass : Bool := false
  noEq : Bool := false
  sixDb : Bool := false
  fs : Nat := 0
  lf : Nat := 0
deriving DecidableEq, Repr

/-- A parameter that Lane Margining reports (R65): steps, largest offsets in percent of a unit interval and in millivolts,
the four capabilities, and the symbols sampled of every 64. -/
inductive MarginParam where
  | timingSteps | timingOffset | voltageSteps | voltageOffset
  | leftRight | upDown | errorSampler | allLanes | sampleRate
deriving DecidableEq, Repr

/-- What a Lane Margining command asks (R104, R105): a step, the end of a step, a parameter; or it is another receiver's
response passing by. -/
inductive MarginAsk where
  | step | stop
  | report (p : MarginParam)
  | response
deriving DecidableEq, Repr

/-- A transmit setting asked for in equalization: a preset, or the four coefficient magnitudes (R52, R94). -/
inductive CoefReq where
  | preset (p : Nat)
  | coefs (cm2 cm1 c0 cp1 : Nat)
deriving DecidableEq, Repr

/-- The end of one Execution-mode trial (R91): the drips it has dwelt, its score (`none` when the lane-side was in RELOCK),
and the step that the pseudo port would take next from the best setting (`none` where no step improves the score). -/
structure Trial where
  dwelt : Nat
  score : Option Nat
  step : Option CoefReq
deriving DecidableEq, Repr

/-- What the FEC decode found in one codeword (R123, R127). -/
inductive Codeword where
  | clean
  | corrected (off mask : Nat)
  | uncorrectable
deriving DecidableEq, Repr

/-- The CXL.mem channels the heat parser tells apart (R220). -/
inductive MsgChannel where
  | m2sReq | m2sRwD | other
deriving DecidableEq, Repr

/-- The CXL.mem opcodes the heat parser tells apart (R220). -/
inductive MsgOp where
  | memRd | memRdData | memRdFwd | memSpecRd | memWrFwd | memWr | memWrPtl | other
deriving DecidableEq, Repr

/-- A message header found in a flit (R220, R221). -/
structure MemMsg where
  chan : MsgChannel
  op : MsgOp
  addr : Nat
  ldid : Nat
  pbr : Bool
deriving DecidableEq, Repr

/-- What the standards read out of a flit's content: sequence number, IDE start message, CXL.cache or CXL.mem content,
message headers (R128, R140, R141, R220). -/
structure FlitInfo where
  seq : Option Nat
  ideStart : Bool
  cacheMem : Bool
  msgs : List MemMsg
deriving DecidableEq, Repr

/-- A located flit at the end of its decode: the 256 bytes received, the decode of its three codewords, the flit CRC
after correction, what its content says, and when its first symbol came: the nanoseconds within its drip, and how many drip
boundaries have passed since (R122, R127, R148). -/
structure Flit where
  bytes : List Nat
  cw : List Codeword
  crcOk : Bool
  info : FlitInfo
  ns : Nat
  ago : Nat := 0
deriving DecidableEq, Repr

/-- The header of a sequenced CSB frame (R171). -/
structure CsbHdr where
  vc : Nat
  seq : Nat
  ack : Nat
deriving DecidableEq, Repr

/-- Why a sequenced CSB frame is discarded as unexpected (R174). -/
inductive BadFrame where
  | reservedType | misdirected | noPort
deriving DecidableEq, Repr

/-- The ECC outcome of a memory read, with the word index for an error (R384, R385). -/
inductive Ecc where
  | ok
  | ce (word : Nat)
  | ue (word : Nat)
deriving DecidableEq, Repr

/-- The arrival of a class-0 body: picoseconds from the last symbol of the failed flit to the last byte of the body,
the flit CRC over the body, and what its content says (R209, R210, R219). -/
structure BodyArrival where
  ps : Nat
  crcOk : Bool
  info : FlitInfo
deriving DecidableEq, Repr

/-- The PLLs whose lock is an event (R249, R251, R282). -/
inductive Pll where
  | crystal | mgmt | core
  | quadOuter (q : Nat)
  | quadInner (q : Nat)
deriving DecidableEq, Repr

/-- What the analog world presents at a drip boundary: rail samples in millivolts (R276), the ZREF reading in tenths of
an ohm (R286), the slices and transmitter legs whose trim failed in this drip, by lane-side and number (R48, R287), the cycles
each quad's phrase used (R83), the bits and errors that each locked pattern checker counted in the drip (R69), and whether the
10 ms from the release of the power-on reset still run (R276). -/
structure DripIn where
  vddc : Nat
  vdda : Nat
  vddh : Nat
  zref : Nat
  badSlices : List (Nat × Nat)
  badLegs : List (Nat × Nat)
  cycles : List Nat
  prbs : List (Nat × Nat × Nat)
  early : Bool
deriving DecidableEq, Repr

/-- The transport that carries an Efsia request into a view (R297, R303). Class 3 comes in a slot. -/
inductive Route where
  | i3c (eid tag : Nat)
  | smbus (eid tag : Nat)
  | csb (h : CsbHdr)
deriving DecidableEq, Repr

/-- A record of a Survey body (R344), as the boot ROM reads it. -/
inductive SvRec where
  | device (code format minFw : Nat)
  | clock (src div : Nat)
  | power (v : Nat)
  | debug (lock : Nat)
  | width (v : Nat)
  | regWrite (ps : List (Nat × Nat))
  | regRmw (ts : List (Nat × Nat × Nat))
  | release (mask spacing : Nat)
  | lock (v : Nat)
  | note
  | endRec
deriving DecidableEq, Repr

/-- What the crypto engine answers (R342, R347): lists of bytes with their SHA-384, and the signatures that verify, each with its
key slot and the digest signed. -/
structure Crypto where
  digests : List (List Nat × List Nat)
  sigs : List (Nat × List Nat × List Nat)
deriving DecidableEq, Repr

/-- The flash device: what SFDP says of it (R336, R366), its bytes by address, an unlisted one erased (R337), and the crypto
engine's answers about them. -/
structure Flash where
  jedec : Nat
  dens : Nat
  io : Nat
  suitable : Bool
  cells : SMap Nat
  crypto : Crypto
deriving DecidableEq, Repr

/-- What the boot ROM meets as it reads the flash: none that answers, the content as the device last read or wrote it, or a new
one (R336). -/
inductive FlashSeen where
  | absent
  | asLeft
  | holds (f : Flash)
deriving DecidableEq, Repr

/-- What a start-up stage meets: the flash where the stage reads it, and the microseconds since the release of the power-on
reset (R331, R332). -/
structure StageIn where
  flash : FlashSeen
  us : Nat
deriving DecidableEq, Repr

/-- The boundary-scan instructions of EXTEST (R431). -/
inductive TapIns where
  | extest | extestPulse | extestTrain
deriving DecidableEq, Repr

/-- The ways the TAP is reset (R420). -/
inductive TapRst where
  | trstLow | fiveTms | powerOn
deriving DecidableEq, Repr

/-- One command of the block: one constructor for each row of the table of operations and events, those that need none of their
operands last. An operand with a default is one that most events of the row do not bring: a command that leaves it out stands
for the plain event. -/
inductive Instr where
  /-- POWER_ON_RESET (R39): The internal detector holds and then releases the power-on reset, which initializes all registers and logic and starts the start-up sequence. -/
  | powerOnReset (st : Straps)
  /-- PIN_RESET (R39): RESET_N low starts a pin reset: transmitters idle within 500 ns, then start-up runs from the Survey read. -/
  | pinReset (st : Straps)
  /-- BROWN_OUT (R276): A rail below its bad threshold, or PGOOD low, for more than 1 µs starts a power-on reset with all transmitters idled within 500 ns. -/
  | brownOut (rail : Nat)
  /-- GLB_RST_DEVICE (R414): Writing 1 to GLB_RST.DEVICE starts a device software reset, unless GLB_LOCK.RST refuses it. -/
  | glbRstDevice (r : Requester)
  /-- GLB_RST_LANTERN (R39): Writing 1 to GLB_RST.LANTERN from view 0 starts a Lantern reset. -/
  | glbRstLantern (r : Requester)
  /-- PORT_CTL_EN (R115): Writing PORT_CTL.EN enables the port to train, or clears it to start a port reset and hold the port in RESET. -/
  | portCtlEn (r : Requester) (port : Nat) (en : Bool)
  /-- PORT_CTL_RST (R44): Writing 1 to PORT_CTL.RST starts a port reset: transmitters idle within 1 µs and in-flight work is settled. -/
  | portCtlRst (r : Requester) (port : Nat)
  /-- PORT_RESET_DONE (R44): The settling of a port reset ends and PORT_STAT.RSTDONE is set. -/
  | portResetDone (port : Nat)
  /-- PERST_ASSERT (R106): A filtered falling edge of PERST_Nn starts a port reset when PERST_EN is 1, and sets PERST_CHG. -/
  | perstAssert (port : Nat)
  /-- PERST_RELEASE (R106): A filtered rising edge of PERST_Nn takes the port out of reset into DETECT_QUIET, and sets PERST_CHG. -/
  | perstRelease (port : Nat)
  /-- PRESENCE_ACCEPTED (R107): A PRSNT_Nn level stable for PRSNT_DB is accepted; with PRSNT_EN set it starts a port reset and PRESENCE_WAIT, or moves the port to DETECT_QUIET. -/
  | presenceAccepted (port : Nat) (high : Bool)
  /-- QUAD_CTL_RST (R42): Writing 1 to QUAD_CTL.RST resets the quad if every port with lanes in it is held in reset or disabled, else sets GLB_WERR.QUAD. -/
  | quadCtlRst (r : Requester) (quad : Nat)
  /-- CMP_CSB_CTL_RST (R39): Writing 1 to CMP_CSB_CTL.RST resets the CSB link layer and message queues. -/
  | cmpCsbCtlRst (r : Requester)
  /-- CMP_CSB_CTL_EN (R170): Setting CMP_CSB_CTL.EN moves the CSB from OFF to ALIGN, and clearing it takes the CSB out of UP. -/
  | cmpCsbCtlEn (r : Requester) (en : Bool)
  /-- LANE_RX_CTL_FREEZE (R51): Writing LANE_RX_CTL.FREEZE holds adaptation, moving the lane-side to FROZEN, or releases it back to TRACK. -/
  | laneRxCtlFreeze (r : Requester) (ls : Nat) (frz : Bool)
  /-- LANE_RX_CTL_RESTART (R51): Writing 1 to LANE_RX_CTL.RESTART returns an adapting or tracking lane-side to LOCKED and discards its converged values. -/
  | laneRxCtlRestart (r : Requester) (ls : Nat)
  /-- LANE_RX_CTL_CNT_CLR (R80): Writing 1 to LANE_RX_CTL.CNT_CLR clears LANE_ERR_CNT. -/
  | laneRxCtlCntClr (r : Requester) (ls : Nat)
  /-- SIGNAL_DETECT (R50): After 1 µs of signal detect, an IDLE lane-side moves to ACQUIRE. -/
  | signalDetect (ls : Nat)
  /-- CDR_LOCK (R50): The CDR locks, moving an ACQUIRE lane-side to LOCKED or a RELOCK lane-side back to TRACK. -/
  | cdrLock (ls : Nat)
  /-- LOSS_OF_SIGNAL (R50): Electrical idle on the input returns the lane-side to IDLE. -/
  | lossOfSignal (ls : Nat)
  /-- ADAPT_CONVERGED (R50): The equalizer loops meet the convergence criterion and the lane-side moves from ADAPT to TRACK. -/
  | adaptConverged (ls : Nat) (ctle : Nat) (dfe1 : Nat) (ffeM1 : Nat) (ffeP1 : Nat)
  /-- LOSS_OF_LOCK (R50): Loss of CDR lock in TRACK or FROZEN moves the lane-side to RELOCK and increments LOCK_LOSS. -/
  | lossOfLock (ls : Nat)
  /-- RELOCK_TIMEOUT (R50): Lock not regained within 10 µs of RELOCK sends the lane-side to ACQUIRE. -/
  | relockTimeout (ls : Nat)
  /-- EB_WATERMARK_CROSSING (R59): The elastic-buffer fill crosses LANE_EB_CFG.HWM or LWM and the sticky flag sets. -/
  | ebWatermarkCrossing (ls : Nat) (fill : Nat)
  /-- ELASTIC_BUFFER_ERROR (R60): A fill of 0 or 64 re-centres the buffer, increments EB_ERR and reports LANE_EB. -/
  | elasticBufferError (ls : Nat) (full : Bool)
  /-- SKP_ORDERED_SET (R58): A SKP ordered set passes and the device adds or removes SKP symbols to keep the fill within 28 to 36. -/
  | skpOrderedSet (ls : Nat) (fill : Nat) (unit : Nat)
  /-- LANE_PRBS_CTL_CLR (R69): Writing 1 to LANE_PRBS_CTL.CLR clears the checker counters and SAT. -/
  | lanePrbsCtlClr (r : Requester) (ls : Nat)
  /-- PRBS_LOCK (R69): The pattern checker sees 256 consecutive correct bits and sets LOCK. -/
  | prbsLock (ls : Nat)
  /-- PRBS_LOCK_LOSS (R69): 32 errored bits within 1,024 end checker lock; the checker re-seeds. -/
  | prbsLockLoss (ls : Nat) (bits : Nat) (errs : Nat)
  /-- MARGIN_COMMAND (R104): A Lane Margining command for the device's receiver is answered, or answered not ready, or forwarded unchanged. -/
  | marginCommand (port : Nat) (lane : Nat) (rxnum : Nat) (ask : MarginAsk)
  /-- MARGIN_STEP_SETUP (R105): Within 2 drips of the command, plus any calibration wait, a spare slice moves to the margin offset and the lane-side is held FROZEN. -/
  | marginStepSetup (ls : Nat)
  /-- PHR_CTL_EN (R83): Writing PHR_CTL.EN starts the Phrase engine from the next drip, or stops it and clears a halt. -/
  | phrCtlEn (r : Requester) (quad : Nat) (en : Bool)
  /-- PHR_WDOG_CLR (R83): Writing 1 to PHR_WDOG.CLR clears OVR_CNT and MAX_CYC. -/
  | phrWdogClr (r : Requester) (quad : Nat)
  /-- PHRASE_OVERRUN (R71): A phrase still running at cycle 900 is stopped; OVR_CNT increments, PHR_WDOG is reported and the engine halts if WD_HALT is 1. -/
  | phraseOverrun (quad : Nat)
  /-- MIRROR_REFRESH (R406): In cycles 900 to 999 of a drip the hardware refreshes the quad's mirror registers and resets their AGE. -/
  | mirrorRefresh (unit : MirrorUnit)
  /-- PHRASE_MEMORY_WRITE (R72): A management write to Phrase-engine memory takes effect or is refused per EN and bank, and clears the bank's VALID bit. -/
  | phraseMemoryWrite (r : Requester) (addr : Nat) (val : Nat)
  /-- DETECT_RETRY (R86): Every 12 ms, then every 1 ms for up to 12 ms, the device repeats receiver detection on lanes still missing. -/
  | detectRetry (port : Nat) (outer : List Nat) (inner : List Nat)
  /-- TRAINING_SET (R85): A received training set is forwarded with ceilings and presence bits applied, and the device tracks the port state, rate, width and flit mode. -/
  | trainingSet (port : Nat) (ts : TrainSet)
  /-- COEFFICIENT_REQUEST (R94): A legal coefficient or preset request in a Forwarding-mode phase is applied within 500 ns, otherwise rejected. -/
  | coefficientRequest (ls : Nat) (req : CoefReq)
  /-- EQ_TRIAL_END (R91): A trial's dwell ends; the trial is scored and the next request is sent, or the best setting is requested and Execution mode ends. -/
  | eqTrialEnd (port : Nat) (inner : Bool) (tr : Trial)
  /-- EXEC_TMO (R92): The Execution-mode timer expires; the pseudo port requests the best setting scored, or leaves the phase-1 preset, and reports result 2 or 3. -/
  | execTmo (port : Nat) (inner : Bool)
  /-- L0P_TRANSITION (R99): An agreed L0p width change idles or wakes lanes at the flit boundary and updates AWIDTH. -/
  | l0pTransition (port : Nat) (width : Nat)
  /-- L1_ENTRY (R101): After forwarding EIOS for L1, the device holds both sides in electrical idle with receivers in IDLE. -/
  | l1Entry (port : Nat)
  /-- L1_EXIT (R101): A lane leaving electrical idle on either side starts the exit on the other side within 2 µs. -/
  | l1Exit (port : Nat) (inner : Bool) (lane : Nat := 0)
  /-- HOT_RESET (R89): After forwarded Hot Reset training sets, electrical idle on either side idles both sides and enters DETECT_QUIET. -/
  | hotReset (port : Nat) (inner : Bool)
  /-- DISABLED_EXIT (R89): In DISABLED, either side leaving electrical idle takes the port to DETECT_QUIET. -/
  | disabledExit (port : Nat) (inner : Bool)
  /-- TRAINING_WATCHDOG (R110): A port stays FWD_TMO in one training state; it enters TIMEOUT_IDLE with both sides idle and terminations off. -/
  | trainingWatchdog (port : Nat)
  /-- TIMEOUT_IDLE_END (R110): After 2 ms in TIMEOUT_IDLE the port enters DETECT_QUIET. -/
  | timeoutIdleEnd (port : Nat)
  /-- UNANNOUNCED_IDLE (R111): Loss of signal on all active lanes of one side for more than 1 µs without EIOS sends electrical idle to the other side. -/
  | unannouncedIdle (port : Nat) (inner : Bool)
  /-- PORT_CTL_RETRAIN (R112): Writing 1 to PORT_CTL.RETRAIN in L0 or L0p sends TS1 on both sides until both link ends are in Recovery.RcvrLock. -/
  | portCtlRetrain (r : Requester) (port : Nat)
  /-- PORT_CTL_CNT_CLR (R115): Writing 1 to PORT_CTL.CNT_CLR clears PORT_LDN_CNT and PORT_TRN_CNT. -/
  | portCtlCntClr (r : Requester) (port : Nat)
  /-- PORT_BIND_TAG_WRITE (R113): A write that changes PORT_BIND.TAG, allowed only while the port is disabled, increments PORT_BIND.GEN. -/
  | portBindTagWrite (r : Requester) (port : Nat) (tag : Nat)
  /-- DATA_STREAM_START (R124): At the first flit boundary of a data stream the flit engine takes provisional lock, rows start at row 0, and pending mode changes and exports take effect. -/
  | dataStreamStart (port : Nat) (skewOI : Nat := 0) (skewIO : Nat := 0)
  /-- DATA_STREAM_END (R125): The data stream ends; lock ends without loss, Correct stores flush, and rows stop with replay, Hold and errata settled. -/
  | dataStreamEnd (port : Nat)
  /-- FLIT_DECODED (R127): A located flit's decode and CRC check end; the device applies the correction mode, counts, tracks sequence and hands the flit to the parser and capture. -/
  | flitDecoded (port : Nat) (dir : Nat) (fl : Flit)
  /-- PROVISIONAL_LOCK_EXPIRY (R124): A provisional lock not confirmed within 64 flits is lost. -/
  | provisionalLockExpiry (port : Nat) (dir : Nat)
  /-- LOCK_LOSS (R125): LOSS_N consecutive failed flits end lock; PORT_FLIT_LOCK_CNT increments and FLIT_LOCK is reported. -/
  | lockLoss (port : Nat) (dir : Nat)
  /-- ORDERED_SET_MISPLACED (R125): An ordered set at a position the flit schedule does not allow ends the direction's lock. -/
  | orderedSetMisplaced (port : Nat) (dir : Nat)
  /-- PORT_FLIT_CTL_CNT_CLR (R143): Writing 1 to PORT_FLIT_CTL.CNT_CLR clears the flit engine and errata counters and LAG_MAX. -/
  | portFlitCtlCntClr (r : Requester) (port : Nat)
  /-- PORT_CAP_CTL_ARM (R145): Writing ARM in IDLE or DONE arms the capture, zeroes WPTR, WRAP and LOST, and increments GEN. -/
  | portCapCtlArm (r : Requester) (port : Nat)
  /-- PORT_CAP_CTL_FORCE (R145): Writing FORCE in ARMED triggers the capture into POST. -/
  | portCapCtlForce (r : Requester) (port : Nat)
  /-- PORT_CAP_CTL_STOP (R145): Writing STOP in ARMED or POST moves the capture to DONE. -/
  | portCapCtlStop (r : Requester) (port : Nat)
  /-- CAPTURE_RECORD_WRITE (R149): A queued capture record is written into the buffer and WPTR advances, wrapping at the end. -/
  | captureRecordWrite (port : Nat)
  /-- CAPTURE_DONE (R145): The post-trigger count is written and the capture moves to DONE. -/
  | captureDone (port : Nat)
  /-- CAPTURE_WINDOW_WRITE (R150): A management write to the capture window takes effect only while no capture is ARMED or POST, else sets GLB_WERR.PORT. -/
  | captureWindowWrite (r : Requester) (addr : Nat) (val : Nat)
  /-- JOIN_RSP (R159): A JOIN_RSP accepts association with ROWCAP recorded, refuses it with fallback cause 1, or is discarded as late. -/
  | joinRsp (h : CsbHdr) (port : Nat) (refuse : Bool) (rows : Bool)
  /-- JOIN_TMO (R159): No JOIN_RSP within CMP_CFG.JOIN_TMO of the JOIN gives fallback cause 2. -/
  | joinTmo (port : Nat)
  /-- LOCK_RPT (R162): A LOCK_RPT from the switch ASIC reports its locked inner lanes and may complete a lock test or release a fallback hold. -/
  | lockRpt (h : CsbHdr) (port : Nat) (rate : Nat) (companion : Bool) (lanes : Nat)
  /-- CLOCK_TMO (R162): The companion-rate lock test not passed within CLOCK_TMO gives fallback cause 4. -/
  | clockTmo (port : Nat)
  /-- CEQ_DONE (R163): A CEQ_DONE from the switch ASIC marks its end of companion equalization. -/
  | ceqDone (h : CsbHdr) (port : Nat) (none_ : Bool)
  /-- CEQ_TMO (R163): Companion equalization reaches CEQ_TMO; the best setting is requested or fallback cause 5 is given. -/
  | ceqTmo (port : Nat)
  /-- FALLBACK_ACK (R164): A FALLBACK_ACK lets the inner segment restart at the target rate. -/
  | fallbackAck (h : CsbHdr) (port : Nat)
  /-- FALLBACK_ACK_TIMEOUT (R164): No FALLBACK_ACK within 100 µs; the inner segment restarts at the target rate anyway. -/
  | fallbackAckTimeout (port : Nat)
  /-- FALLBACK_HOLD_TIMEOUT (R164): 2 ms after the first symbol at the target rate the device releases its hold on the outer segment. -/
  | fallbackHoldTimeout (port : Nat)
  /-- LEAVE (R166): A LEAVE records LVRSN and ends companion mode at the port's next Recovery with fallback cause 8. -/
  | leave (h : CsbHdr) (port : Nat) (reason : Nat)
  /-- ROW_LOSS (R158): ROWLOSS_N consecutive failed inbound slots declare a row loss, count it, report CMP_ROW and retrain the port. -/
  | rowLoss (port : Nat)
  /-- HELLO (R170): A valid HELLO moves the CSB to UP or MISMATCH; in UP it counts as a loss and restarts the link, and JOIN is resent for associated ports. -/
  | hello (major : Nat) (minor : Nat) (role : Nat) (cap : Nat)
  /-- ACK (R172): An ACK frame acknowledges sequenced frames of its VC, freeing them from retransmission. -/
  | ack (vc : Nat) (num : Nat)
  /-- RTX_TMO (R172): The oldest unacknowledged frame of a VC waits RTX_TMO and all unacknowledged frames of that VC are retransmitted. -/
  | rtxTmo (vc : Nat)
  /-- RESERVED_CSB_FRAME (R174): A frame of reserved type, misdirected VC, or naming an unassociated or absent port is discarded and counted in UNEXP. -/
  | reservedCsbFrame (h : CsbHdr) (why : BadFrame)
  /-- BEACON (R265): A received BEACON with the aligned bit set aligns the drip count to within ±2 drips or confirms agreement. -/
  | beacon (drip : Nat) (heartbeat : Nat) (tally : Nat) (flags : Nat)
  /-- SPARE_REQ (R177): A SPARE_REQ from the switch ASIC is granted, answered busy or refused. -/
  | spareReq (h : CsbHdr) (half : Nat) (lane : Nat) (port : Nat)
  /-- SPARE_RSP (R178): A SPARE_RSP grants, refuses or reports busy for the device's sparing request or release. -/
  | spareRsp (h : CsbHdr) (half : Nat) (lane : Nat) (res : Nat)
  /-- SPARE_RSP_TIMEOUT (R178): No SPARE_RSP within 1 ms; the request is treated as refused with LAST_RES 4. -/
  | spareRspTimeout (half : Nat)
  /-- SPARE_TRACK (R178): The spare receiver reaches TRACK and its arrival offset against lane l is measured. -/
  | spareTrack (half : Nat) (offset : Nat)
  /-- SPARE_SWITCHOVER (R178): At the next flit or SKP boundary the receiver takes the spare in place of lane l and sends SPARE_RX_ON. -/
  | spareSwitchover (half : Nat)
  /-- SPARE_RX_ON (R178): The peer's SPARE_RX_ON idles lane l's transmitter and makes the spare ACTIVE, or completes a release. -/
  | spareRxOn (h : CsbHdr) (half : Nat) (lane : Nat) (uses : Bool)
  /-- SPARE_TMO (R180): A sparing procedure not ACTIVE within SPARE_CFG.TMO is abandoned with SPARE_FAIL. -/
  | spareTmo (half : Nat)
  /-- LANE_HEALTH (R175): A LANE_HEALTH message supplies the switch ASIC's per-lane corrected-symbol counts for sparing. -/
  | laneHealth (h : CsbHdr) (port : Nat) (window : Nat) (counts : List Nat)
  /-- SPARE_CTL_REQ (R176): Writing SPARE_CTL.REQ requests a spare for LANE if the lane is eligible, else sets LAST_RES 7. -/
  | spareCtlReq (r : Requester) (lane : Nat)
  /-- SPARE_CTL_REL_S0 (R181): Writing SPARE_CTL.REL_S0 sends SPARE_REL to release spare S0. -/
  | spareCtlRelS0 (r : Requester)
  /-- SPARE_CTL_REL_S1 (R181): Writing SPARE_CTL.REL_S1 sends SPARE_REL to release spare S1. -/
  | spareCtlRelS1 (r : Requester)
  /-- SPARE_CTL_CNT_CLR (R189): Writing SPARE_CTL.CNT_CLR clears SPARE_CNT. -/
  | spareCtlCntClr (r : Requester)
  /-- CMP_CSB_CTL_CNT_CLR (R185): Writing CMP_CSB_CTL.CNT_CLR clears the CSB and per-port companion counters. -/
  | cmpCsbCtlCntClr (r : Requester)
  /-- SLOT_DECISION (R200): At an outbound slot's decision instant the device chooses erratum, Hold request, replay, port-view, heat export or fill content. -/
  | slotDecision (port : Nat) (young : Nat) (ecc : Ecc) (undecoded : Nat := 0) (unsent : Nat := 0)
  /-- REPLAY_SLOT (R209): An inbound class-0 slot returns a body for a pending Hold request, checked by its flit CRC, or is counted late or malformed. -/
  | replaySlot (port : Nat) (slot : List Nat) (arr : BodyArrival)
  /-- REPLAY_REQUEST_SLOT (R207): An inbound class-1 slot queues its replay requests, dropping those that find the queue full. -/
  | replayRequestSlot (port : Nat) (slot : List Nat)
  /-- PORT_VIEW_MESSAGE_SLOT (R204): An inbound class-3 slot is policed and passed to view n+1 or added to the refusal list. -/
  | portViewMessageSlot (port : Nat) (slot : List Nat)
  /-- FILL_SLOT (R199): An inbound class-7 slot is checked and its payload ignored. -/
  | fillSlot (port : Nat) (slot : List Nat)
  /-- BAD_SLOT (R192): An inbound slot failing its header, class, range or PCRC check is discarded and counted. -/
  | badSlot (port : Nat) (slot : List Nat)
  /-- HOLD_DEPARTURE (R209): A held flit reaches its Hold departure time and leaves as the replayed body or as received. -/
  | holdDeparture (port : Nat)
  /-- ERRATUM_DEADLINE (R135): An erratum entry not carried by its deadline slot is discarded and counted in DROP with ERRATA_DROP. -/
  | erratumDeadline (port : Nat)
  /-- CMP_SLOT_CTL_CNT_CLR (R215): Writing CMP_SLOT_CTL.CNT_CLR clears every slot counter of all ports. -/
  | cmpSlotCtlCntClr (r : Requester)
  /-- CACHE_WRITE_BACK (R227): A bucket-cache entry is written back to its bank by a read-modify-write applying its pending increments. -/
  | cacheWriteBack (port : Nat) (ecc : Ecc)
  /-- HEAT_CTL_REL (R234): Writing HEAT_CTL.REL releases the other bank to CLEARING or marks the release pending. -/
  | heatCtlRel (r : Requester)
  /-- HEAT_PCTL_CLR (R224): Writing HEAT_PCTL.CLR with EN left 0 starts clearing the partition in the live bank. -/
  | heatPctlClr (r : Requester) (part : Nat)
  /-- PARTITION_CLEAR_END (R224): A partition clear ends and CLR_BUSY reads 0. -/
  | partitionClearEnd (part : Nat)
  /-- HEAT_ZCTL_CLR (R238): Writing HEAT_ZCTL.CLR with EN left 0 starts clearing the zoom window's live table. -/
  | heatZctlClr (r : Requester) (win : Nat)
  /-- ZOOM_CLEAR_END (R238): A zoom window clear ends and CLR_BUSY reads 0. -/
  | zoomClearEnd (win : Nat)
  /-- HEAT_CTL_CNT_CLR (R245): Writing HEAT_CTL.CNT_CLR clears HEAT_SWAP_CNT and every HEAT_EXP_CNT. -/
  | heatCtlCntClr (r : Requester)
  /-- HEAT_PLFSR_WRITE (R246): A write to HEAT_PLFSR loads the parser LFSR, a value of 0 loading 0xACE1. -/
  | heatPlfsrWrite (r : Requester) (part : Nat) (val : Nat)
  /-- HEAT_WINDOW_WRITE (R240): A management write to a heat or zoom window takes effect only while every partition and window is disabled. -/
  | heatWindowWrite (r : Requester) (addr : Nat) (val : Nat)
  /-- CHUNK_READY (R201): All 60 entries of a class-4 chunk have been read from heat SRAM and the chunk becomes pending. -/
  | chunkReady (part : Nat) (ecc : List Nat)
  /-- DRIP_BOUNDARY (R261): At each drip boundary the counter advances and refills, schedule slots, heat swap, phrases, TIMESYNC, beacon and tally pass act in order. -/
  | dripBoundary (d : DripIn)
  /-- PLL_LOCK (R251): A PLL reports lock, letting the hand-over or the core domain proceed. -/
  | pllLock (pll : Pll)
  /-- CLK_SRC_SAFE (R252): Writing CLK_SRC.SAFE switches the safety domain's source with a 16-cycle pause, waiting for the source if absent. -/
  | clkSrcSafe (r : Requester) (v : Bool)
  /-- CLK_SRC_MGMT (R252): Writing CLK_SRC.MGMT switches the management domain's source with a 16-cycle pause, waiting for the source if absent. -/
  | clkSrcMgmt (r : Requester) (v : Bool)
  /-- CLK_SRC_CORE_REF (R250): A write changing CLK_SRC.CORE_REF after core PLL lock is ignored and sets GLB_WERR.CLK. -/
  | clkSrcCoreRef (r : Requester) (v : Nat)
  /-- CLK_SRC_OREF (R250): A change of CLK_SRC.OREF while every port is disabled relocks the outer quad PLLs within 200 µs. -/
  | clkSrcOref (r : Requester) (v : Bool)
  /-- CLK_SRC_IREF (R250): A change of CLK_SRC.IREF while every port is disabled relocks the inner quad PLLs within 200 µs. -/
  | clkSrcIref (r : Requester) (v : Bool)
  /-- SOURCE_LOSS (R255): A monitored clock source is declared lost and its dependent outputs go to safe states within 200 ns. -/
  | sourceLoss (src : Nat)
  /-- SOURCE_RETURN (R256): A lost source stays in range for 1 ms and is declared returned; PLLs relock and domains switch back. -/
  | sourceReturn (src : Nat)
  /-- CORE_RESTART (R257): The core domain restarts after a stop; the drip counter advances by the stopped time and ALIGNED clears. -/
  | coreRestart (ioscCycles : Nat)
  /-- CLK_FM_CTL_START (R259): Writing START while not BUSY begins a frequency measurement. -/
  | clkFmCtlStart (r : Requester)
  /-- FM_WINDOW_END (R259): The measurement window ends; CLK_FM_RES holds the count and DONE sets. -/
  | fmWindowEnd (count : Nat)
  /-- TIMESYNC_EDGE (R263): An accepted TIMESYNC edge marks a grid boundary and the device slews, steps or loads its drip count. -/
  | timesyncEdge (ns : Int)
  /-- CLK_TSYNC_CTL_LOAD (R263): Writing LOAD arms a count load for the next accepted edge. -/
  | clkTsyncCtlLoad (r : Requester)
  /-- CLK_SCHED_CTL_ARM (R267): Writing ARM in IDLE or DONE arms the slot and clears its result fields. -/
  | clkSchedCtlArm (r : Requester) (slot : Nat)
  /-- CLK_SCHED_CTL_CANCEL (R267): Writing CANCEL while ARMED returns the slot to DONE with RESULT 3. -/
  | clkSchedCtlCancel (r : Requester) (slot : Nat)
  /-- CLK_CTL_CNT_CLR (R270): Writing CLK_CTL.CNT_CLR clears CLK_LOSS_CNT and CLK_TSYNC_CNT. -/
  | clkCtlCntClr (r : Requester)
  /-- SNAPSHOT_LO_READ (R404): A read of the _LO register of a snapshot pair latches its _HI register for the requester. -/
  | snapshotLoRead (r : Requester) (addr : Nat) (ns : Nat)
  /-- PAIR_LO_WRITE (R405): A write to the _LO register of a writable pair is staged. -/
  | pairLoWrite (r : Requester) (addr : Nat) (val : Nat)
  /-- PAIR_HI_WRITE (R405): A write to the _HI register of a writable pair moves the staged and written words into the pair, subject to its access rule. -/
  | pairHiWrite (r : Requester) (addr : Nat) (val : Nat)
  /-- AVS_TARGET (R279): Every 1,000 drips or after a 4 °C rise the device computes a new VDDC target. -/
  | avsTarget (mv : Nat)
  /-- LDO_FAULT (R281): An LDO output outside ±4 % for more than 1 µs reports LDO_FAULT for the lane-sides it feeds. -/
  | ldoFault (inst : Nat)
  /-- BIFURCATION_WRITE (R28): A write to GLB_BIFUR changes quad width codes whose ports are disabled, gating quads coded 0b000 and starting ungating of others. -/
  | bifurcationWrite (r : Requester) (val : Nat)
  /-- QUAD_UNGATE (R282): Once AVS reaches its target the quad's LDOs turn on, its PLLs lock and its start-up calibration runs. -/
  | quadUngate (quad : Nat)
  /-- TEMPERATURE_SAMPLE (R283): Every 16 drips each sensor is sampled and TMAX compared with WARN and HIGH. -/
  | temperatureSample (temps : List Int)
  /-- PWR_CTL_CAL_RUN (R288): Writing bit q of PWR_CTL.CAL_RUN starts a calibration run of quad q at the next drip boundary. -/
  | pwrCtlCalRun (r : Requester) (mask : Nat)
  /-- CAL_RUN_END (R289): The last element of a quad returns; the run ends, LEN is recorded and a pending run may start. -/
  | calRunEnd (quad : Nat)
  /-- STEP_CORRECTION (R290): A step correction takes effect at the next flit boundary or SKP ordered set of the lane-side's port. -/
  | stepCorrection (ls : Nat)
  /-- PWR_CTL_CNT_CLR (R293): Writing PWR_CTL.CNT_CLR clears PWR_CNT and every PWR_TEMP.MAX. -/
  | pwrCtlCntClr (r : Requester)
  /-- SECURE_GATE_REQUEST (R34): A normal-partition request to gate the secure domain is acted on, or deferred with a busy status. -/
  | secureGateRequest (gate : Bool)
  /-- ENTDAA (R298): The I3C ENTDAA command assigns a dynamic address using the PID. -/
  | entdaa (addr : Nat)
  /-- SETDASA (R298): The I3C SETDASA command assigns a dynamic address from the static address. -/
  | setdasa (static : Nat) (addr : Nat)
  /-- SETNEWDA (R298): The I3C SETNEWDA command changes the dynamic address. -/
  | setnewda (addr : Nat) (new_ : Nat)
  /-- ENEC (R298): The I3C ENEC command enables in-band interrupts. -/
  | enec (ibi : Bool)
  /-- DISEC (R298): The I3C DISEC command disables in-band interrupts. -/
  | disec (ibi : Bool)
  /-- SETMWL (R298): The I3C SETMWL command sets the maximum write length, clamped to 69–256. -/
  | setmwl (len : Nat)
  /-- SETMRL (R298): The I3C SETMRL command sets the maximum read length, clamped to 69–256. -/
  | setmrl (len : Nat)
  /-- SMBUS_WRITE (R299): An I2C or SMBus write carrying an MCTP packet is taken, or discarded for missing or bad PEC. -/
  | smbusWrite (pec : Option Bool) (pkt : List Nat)
  /-- SET_ENDPOINT_ID (R300): The MCTP Set Endpoint ID control message assigns the endpoint ID. -/
  | setEndpointId (eid : Nat) (src : Nat) (tag : Nat)
  /-- GET_ENDPOINT_ID (R300): The MCTP Get Endpoint ID control message returns the endpoint ID. -/
  | getEndpointId (src : Nat) (tag : Nat)
  /-- GET_MCTP_VERSION_SUPPORT (R300): The MCTP Get MCTP Version Support control message is answered. -/
  | getMctpVersionSupport (src : Nat) (tag : Nat)
  /-- GET_MESSAGE_TYPE_SUPPORT (R300): The MCTP Get Message Type Support control message reports types 0x00, 0x01, 0x05 and 0x7F. -/
  | getMessageTypeSupport (src : Nat) (tag : Nat)
  /-- GET_VENDOR_DEFINED_MSG_SUPPORT (R300): The MCTP Get Vendor Defined Message Support control message reports the enterprise number. -/
  | getVendorDefinedMsgSupport (src : Nat) (tag : Nat)
  /-- EFSIA_REQUEST (R309): An Efsia request arriving at a view is checked, policed and sequence-checked, then accepted into the ring, answered by hardware or discarded. -/
  | efsiaRequest (rt : Route) (view : Nat) (entry : List Nat) (ecc : Ecc)
  /-- GET_INFO (R304): The Lantern core serves GET_INFO with identity, versions, binding, drip and tally. -/
  | getInfo (view : Nat)
  /-- READ (R304): The Lantern core serves READ of up to 28 words. -/
  | read (view : Nat) (ecc : List Nat) (ns : Nat := 0)
  /-- WRITE (R304): The Lantern core serves WRITE of up to 26 words and reports refused words. -/
  | write (view : Nat)
  /-- RMW (R304): The Lantern core serves RMW of one word and returns the old value. -/
  | rmw (view : Nat) (ue : Bool := false) (ns : Nat := 0)
  /-- RESYNC (R310): The Lantern core serves RESYNC, reporting the previous expected QSEQ and unanswered count. -/
  | resync (view : Nat)
  /-- PORT_SUMMARY (R304): The Lantern core serves PORT_SUMMARY with 14 status and counter words of a port. -/
  | portSummary (view : Nat)
  /-- HEAT_READ (R304): The Lantern core serves HEAT_READ of partition entries from a bank. -/
  | heatRead (view : Nat) (ecc : List Nat)
  /-- ZOOM_READ (R304): The Lantern core serves ZOOM_READ of zoom window entries from a bank. -/
  | zoomRead (view : Nat) (ecc : List Nat)
  /-- CAP_READ (R304): The Lantern core serves CAP_READ of one part of a capture record. -/
  | capRead (view : Nat) (ecc : List Nat)
  /-- VIEW_FREEZE (R319): Writing MGMT_VIEW_CTL.FREEZE 1 freezes a port view, stopping service and sending and its parser's counting. -/
  | viewFreeze (r : Requester) (view : Nat)
  /-- VIEW_THAW (R319): Writing MGMT_VIEW_CTL.FREEZE 0 thaws the view and resumes service, sending and counting. -/
  | viewThaw (r : Requester) (view : Nat)
  /-- MGMT_VIEW_CTL_SAVE (R321): Writing SAVE on a frozen view fills MGMT_VIEW_BLOB with the state record and sets SAVED. -/
  | mgmtViewCtlSave (r : Requester) (view : Nat)
  /-- MGMT_VIEW_CTL_RESTORE (R321): Writing RESTORE checks the blob and takes its sequence, pointer and counter state, setting RST_OK or RST_ERR. -/
  | mgmtViewCtlRestore (r : Requester) (view : Nat)
  /-- MGMT_VIEW_CTL_RING_RST (R329): Writing RING_RST on a frozen view empties both rings and zeroes its sequence state. -/
  | mgmtViewCtlRingRst (r : Requester) (view : Nat)
  /-- MGMT_VIEW_CTL_CNT_CLR (R329): Writing MGMT_VIEW_CTL.CNT_CLR clears the view's counters. -/
  | mgmtViewCtlCntClr (r : Requester) (view : Nat)
  /-- MGMT_CTL_CNT_CLR (R327): Writing MGMT_CTL.CNT_CLR clears MGMT_CNT, MGMT_SEC_CNT and every view's counters. -/
  | mgmtCtlCntClr (r : Requester)
  /-- MAILBOX_WRITE (R308): A management write into mailbox memory, unpredictable for the view if the entry is device-owned. -/
  | mailboxWrite (r : Requester) (addr : Nat) (val : Nat)
  /-- GET_VERSION (R324): The SPDM GET_VERSION request offers version 1.3 and restarts negotiation. -/
  | getVersion (src : Nat)
  /-- GET_CAPABILITIES (R324): The SPDM GET_CAPABILITIES request reports CERT, CHAL and MEAS capabilities. -/
  | getCapabilities (src : Nat)
  /-- NEGOTIATE_ALGORITHMS (R324): The SPDM NEGOTIATE_ALGORITHMS request accepts only ECDSA P-384 and SHA-384. -/
  | negotiateAlgorithms (src : Nat) (ok : Bool)
  /-- GET_DIGESTS (R324): The SPDM GET_DIGESTS request returns the digest of certificate slot 0. -/
  | getDigests (src : Nat)
  /-- GET_CERTIFICATE (R324): The SPDM GET_CERTIFICATE request returns the slot-0 certificate chain. -/
  | getCertificate (src : Nat) (slot : Nat) (off : Nat) (len : Nat)
  /-- CHALLENGE (R324): The SPDM CHALLENGE request is answered with a signed CHALLENGE_AUTH within 25 ms. -/
  | challenge (src : Nat) (slot : Nat)
  /-- GET_MEASUREMENTS (R325): The SPDM GET_MEASUREMENTS request returns the measurement blocks, signed on request. -/
  | getMeasurements (src : Nat) (index : Nat) (signed : Bool)
  /-- SPDM_UNSUPPORTED_REQUEST (R324): Any other SPDM request is answered with ERROR UnsupportedRequest. -/
  | spdmUnsupportedRequest (src : Nat)
  /-- STARTUP_STAGE_COMPLETE (R331): A start-up stage ends and the next stage of the sequence begins, or start-up stops with a BOOT_ERR code. -/
  | startupStageComplete (inp : StageIn)
  /-- QUERY_DEVICE_IDENTIFIERS (R352): The PLDM QueryDeviceIdentifiers command reports the enterprise number and device code. -/
  | queryDeviceIdentifiers (src : Nat)
  /-- GET_FIRMWARE_PARAMETERS (R352): The PLDM GetFirmwareParameters command reports the bank versions of each component. -/
  | getFirmwareParameters (src : Nat)
  /-- REQUEST_UPDATE (R352): The PLDM RequestUpdate command starts an update, refused while a window is open. -/
  | requestUpdate (src : Nat) (maxXfer : Nat)
  /-- PASS_COMPONENT_TABLE (R352): The PLDM PassComponentTable command names the components of the update. -/
  | passComponentTable (src : Nat) (last : Bool)
  /-- UPDATE_COMPONENT (R353): The PLDM UpdateComponent command starts the download of a component into the non-confirmed bank. -/
  | updateComponent (src : Nat) (comp : Nat) (size : Nat)
  /-- REQUEST_FIRMWARE_DATA (R354): The answer to a RequestFirmwareData arrives and its piece is written to the bank. -/
  | requestFirmwareData (src : Nat) (bytes : List Nat)
  /-- TRANSFER_COMPLETE (R354): The PLDM TransferComplete exchange ends the download stage. -/
  | transferComplete (src : Nat)
  /-- VERIFY_COMPLETE (R354): The PLDM VerifyComplete exchange reports the header, digest and content checks. -/
  | verifyComplete (src : Nat) (crypto : Crypto) (certOk : Bool := true)
  /-- APPLY_COMPLETE (R354): The PLDM ApplyComplete exchange follows writing the header and appending VERIFIED. -/
  | applyComplete (src : Nat) (flashOk : Bool)
  /-- ACTIVATE_FIRMWARE (R355): The PLDM ActivateFirmware command appends PENDING and optionally arms a self-contained activation. -/
  | activateFirmware (src : Nat) (selfContained : Bool)
  /-- GET_STATUS (R352): The PLDM GetStatus command reports the update state. -/
  | getStatus (src : Nat)
  /-- CANCEL_UPDATE_COMPONENT (R354): The PLDM CancelUpdateComponent command ends the component's update with LAST_RES 6. -/
  | cancelUpdateComponent (src : Nat)
  /-- CANCEL_UPDATE (R354): The PLDM CancelUpdate command ends the update with LAST_RES 6. -/
  | cancelUpdate (src : Nat)
  /-- BOOT_UPD_CTL_CONFIRM (R357): Writing CONFIRM while a window is open appends CONFIRMED for each component in trial. -/
  | bootUpdCtlConfirm (r : Requester)
  /-- BOOT_UPD_CTL_REVERT (R358): Writing REVERT while a window is open starts a Lantern reset that reverts the trial. -/
  | bootUpdCtlRevert (r : Requester)
  /-- BOOT_UPD_CTL_REACT (R355): Writing REACT appends PENDING for each verified non-confirmed bank. -/
  | bootUpdCtlReact (r : Requester)
  /-- BOOT_UPD_CTL_CONTINUE (R362): Writing CONTINUE in HOLD resumes start-up at stage 6. -/
  | bootUpdCtlContinue (r : Requester)
  /-- BOOT_UPD_CTL_CNT_CLR (R367): Writing BOOT_UPD_CTL.CNT_CLR clears the BOOT counters. -/
  | bootUpdCtlCntClr (r : Requester)
  /-- GLB_TALLY_CTL_COMMIT (R351): Writing COMMIT commits the staged tally at the next drip boundary. -/
  | glbTallyCtlCommit (r : Requester)
  /-- GLB_TALLY_CTL_ADOPT (R351): Writing ADOPT copies GLB_TALLY into the reference at the next drip boundary. -/
  | glbTallyCtlAdopt (r : Requester)
  /-- SOURCE_EVENT (R373): The sump accepts an event of a source, counts it and may make the source SEVERE with its reaction, capture and pins. -/
  | sourceEvent (src : Nat) (inst : Nat) (detail : Nat) (level : Bool)
  /-- WIRE_FAULT (R371): A source's wire pair agrees for 4 safety cycles; WIREF sets and SUMP_WIRE is raised. -/
  | wireFault (src : Nat)
  /-- SUMP_WINDOW_END (R373): A COUNTING source's window ends without reaching N and it returns to IDLE. -/
  | sumpWindowEnd (src : Nat)
  /-- SUMP_CLR (R380): Writing SUMP_CLR.SRC clears the source if its CAUSE is 0, lifting its reaction. -/
  | sumpClr (r : Requester) (src : Nat)
  /-- SUMP_CLR_ALL (R380): Writing SUMP_CLR.ALL clears every source whose CAUSE is 0. -/
  | sumpClrAll (r : Requester)
  /-- SUMP_FORCE (R381): Writing SUMP_FORCE injects one event on a source while GLB_LOCK.SUMP is 0. -/
  | sumpForce (r : Requester) (src : Nat) (inst : Nat) (detail : Nat)
  /-- SUMP_CTL_CNT_CLR (R392): Writing SUMP_CTL.CNT_CLR clears TOTAL, ECC, QSTOP and watchdog counters. -/
  | sumpCtlCntClr (r : Requester)
  /-- SUMP_CTL_AVAIL_CLR (R393): Writing SUMP_CTL.AVAIL_CLR clears every SUMP_ATTR_DOWN. -/
  | sumpCtlAvailClr (r : Requester)
  /-- SUMP_LWDOG_CTL_KICK (R387): Writing KICK from the normal partition restarts the Lantern watchdog count. -/
  | sumpLwdogCtlKick (r : Requester)
  /-- ECC_WRITE_BACK (R384): A corrected word is written back in the memory's next free cycle unless an agent writes it first. -/
  | eccWriteBack (mem : Nat) (word : Nat) (overtaken : Bool)
  /-- ECC_LEAK (R384): Every LEAK × 1,000 drips a memory's correctable-error bucket loses 1. -/
  | eccLeak (mem : Nat)
  /-- SCRUB_READ (R386): The scrubber reads the next word in a free cycle, advancing its lap and flagging a slow lap. -/
  | scrubRead (mem : Nat) (ecc : Ecc)
  /-- COMPAT_WRITE (R410): A write to the compatibility window is buffered, or discarded with OVF when the buffer is full. -/
  | compatWrite (r : Requester) (addr : Nat) (val : Nat)
  /-- CW_WBUF_READ (R411): A read of CW_WBUF returns the buffer level and clears its OVF flag. -/
  | cwWbufRead (r : Requester)
  /-- GLB_LOCK_WRITE (R403): Writing 1 to a GLB_LOCK bit locks the fields it governs until a resetting reset. -/
  | glbLockWrite (r : Requester) (val : Nat)
  /-- EXTEST (R431): Loading EXTEST, EXTEST_PULSE or EXTEST_TRAIN gives the boundary cells control of every output and transmitter. -/
  | extest (ins : TapIns)
  /-- TAP_RESET (R420): TRST_N low, five TCK cycles with TMS high, or a power-on reset resets the TAP. -/
  | tapReset (how : TapRst)
  /-- REGISTER_WRITE (R12): A management write to a register with no row of its own sets its fields under their access codes and may set a GLB_WERR bit. -/
  | registerWrite (r : Requester) (addr : Nat) (val : Nat)
  /-- QSTOP_DISAGREEMENT (R382): A filtered edge on one QSTOP channel makes the pair disagree; DISAG sets and the discrepancy time begins. -/
  | qstopDisagreement (chanB : Bool) (asserted : Bool)
  /-- PRSNT_LEVEL_CHANGE (R107): The filtered level of PRSNT_Nn changes and the presence debounce starts again. -/
  | prsntLevelChange (port : Nat) (high : Bool)
  /-- LDO_OUTPUT_IN_RANGE (R281): An LDO output returns within ±4 % and the CAUSE of LDO_FAULT for its instance reads 0. -/
  | ldoOutputInRange (inst : Nat)
  /-- WIRE_FAULT_END (R371): The two wires of a faulted sump pair disagree again; WIREF clears and the sump accepts the pair again. -/
  | wireFaultEnd (src : Nat)
  /-- SAVE_RESTORE_COMPLETE (R321): A view save or restore ends; BLOB_BUSY clears and SAVED, RST_OK or RST_ERR is set. -/
  | saveRestoreComplete (view : Nat)
  /-- SPARE_POWER_UP (R182): A gated spare domain finishes powering up and SPARE_STAT.STATE moves from OFF to IDLE, or the grant proceeds to SHADOW. -/
  | sparePowerUp (half : Nat)
  /-- I3C_PRIVATE_READ (R298): A private read collects a waiting MCTP packet after the IBI. -/
  | i3cPrivateRead (refused : Bool := false)
  /-- SMBUS_BLOCK_READ (R301): A Block Read at command 0x0F returns a waiting packet and clears SMB_PEND when the last is read. -/
  | smbusBlockRead (refused : Bool := false)
  /-- CSB_FRAME_CRC_BAD (R171): A received CSB frame whose CRC fails or whose length does not match its end is discarded and counted in CRC_BAD. -/
  | csbFrameCrcBad (bytes : List Nat := [])
  /-- LANTERN_RESTART (R316): Restarted firmware restores the view state, answers the in-progress request ABORTED and sets LRUN to 1. -/
  | lanternRestart
  /-- CSB_ALIGNED (R170): 64 consecutive valid idles move the CSB from ALIGN to HELLO. -/
  | csbAligned
  /-- HELLO_TIMER (R170): Every 10 µs in state HELLO the device sends a HELLO. -/
  | helloTimer
  /-- CSB_CODE_VIOLATION_LOSS (R170): 4 code violations within 256 characters take the CSB from UP to ALIGN. -/
  | csbCodeViolationLoss
  /-- LOSS_TMO (R170): No frame passing its CRC for LOSS_TMO takes the CSB from UP to ALIGN with the effects of R168. -/
  | lossTmo
  /-- SPARE_WINDOW (R175): At the end of each sparing window the device tests each inner lane and requests a spare after PERSIST failing windows. -/
  | spareWindow
  /-- FLUSH_END (R233): All old-epoch updates reach the bank; it becomes FROZEN and exports start, or goes to CLEARING if a release is pending. -/
  | flushEnd
  /-- AUTO_RELEASE (R243): With AUTO_REL set the device releases the frozen bank once every export is complete or waiting. -/
  | autoRelease
  /-- CLEAR_END (R234): Clearing of the released bank ends and it becomes CLEAN. -/
  | clearEnd
  /-- CRYSTAL_PRESENT (R251): The crystal stays in range for 1 ms and is declared present, letting the crystal and management PLLs start. -/
  | crystalPresent
  /-- TIMESYNC_MISS (R264): No edge within 1.5 × PERIOD sets MISS and a second consecutive miss clears ALIGNED. -/
  | timesyncMiss
  /-- AVS_COMMAND (R279): Every 100 µs the device sends one AVSBus write moving VDDC toward the target by at most 10 mV. -/
  | avsCommand
  /-- AVS_FAULT (R280): VDDC differs from the command by more than 25 mV for 16 drips; FAULT and HELD set and SAFE is commanded. -/
  | avsFault
  /-- THERMAL_TRIP (R285): A trip comparator fires at 160 °C; THERM_TRIP is raised and all transmitters idle within 500 ns. -/
  | thermalTrip
  /-- TRIP_RELEASE (R285): Every trip comparator falls below 150 °C and TRIP_NOW clears. -/
  | tripRelease
  /-- SECURE_DOMAIN_RELEASE (R34): The secure partition releases the secure domain and a deferred gating request takes effect. -/
  | secureDomainRelease
  /-- SECURE_ACCESS_VIOLATION (R323): A normal-partition access to secure resources ends in a bus error, increments VIOL and reports SEC_VIOL. -/
  | secureAccessViolation
  /-- SETAASA (R298): The I3C SETAASA command sets the static address as the dynamic address. -/
  | setaasa
  /-- RSTDAA (R299): The I3C RSTDAA command clears the dynamic address and returns the device to I2C and SMBus service. -/
  | rstdaa
  /-- GETPID (R298): The I3C GETPID command returns the provisioned ID. -/
  | getpid
  /-- GETBCR (R298): The I3C GETBCR command returns BCR 0x06. -/
  | getbcr
  /-- GETDCR (R298): The I3C GETDCR command returns DCR 0x00. -/
  | getdcr
  /-- GETSTATUS (R298): The I3C GETSTATUS command returns the target status. -/
  | getstatus
  /-- GETMWL (R298): The I3C GETMWL command returns the maximum write length. -/
  | getmwl
  /-- GETMRL (R298): The I3C GETMRL command returns the maximum read length. -/
  | getmrl
  /-- GETMXDS (R298): The I3C GETMXDS command reports no data-speed limitation. -/
  | getmxds
  /-- SCL_LOW_TIMEOUT (R299): SCL low for 30 ms releases SDA and resets the bus interface. -/
  | sclLowTimeout
  /-- ALERT_RESPONSE (R301): A read of the SMBus Alert Response Address is answered with the static address. -/
  | alertResponse
  /-- SMBUS_PACKET_TIMEOUT (R301): A packet not read within 1 s is discarded, a response counting in RSP_DROP. -/
  | smbusPacketTimeout
  /-- UPDATE_AGENT_TIMEOUT (R352): 120 s without a request or response from the update agent ends the update with LAST_RES 7. -/
  | updateAgentTimeout
  /-- CONFIRMATION_WINDOW_END (R358): The confirmation window ends without CONFIRMED and hardware starts a reverting Lantern reset. -/
  | confirmationWindowEnd
  /-- AUTO_CONFIRM (R357): With AUTO_CONF set, once all conditions hold after SOAK the firmware appends CONFIRMED. -/
  | autoConfirm
  /-- TALLY_PASS_END (R350): A tally pass ends; GLB_TALLY is written and compared with the reference. -/
  | tallyPassEnd
  /-- LANTERN_WATCHDOG (R387): The Lantern watchdog count reaches TMO; a Lantern reset starts and LANTERN_WDOG is raised. -/
  | lanternWatchdog
  /-- QSTOP_ASSERT (R382): Both QSTOP channels agree asserted; the device quiesces all transmitters and holds the ports. -/
  | qstopAssert
  /-- QSTOP_RELEASE (R382): Both QSTOP channels agree released; the quiesce ends and ports leave DETECT_QUIET. -/
  | qstopRelease
  /-- QSTOP_DISCREPANCY (R382): The QSTOP channels disagree for DISC; QSTOP_DISC is raised and the device enters the safe state. -/
  | qstopDiscrepancy
  /-- FLASH_PROGRAM_ERASE_COMPLETE (R360): The flash reports a program or erase complete; FBUSY clears and refused commands and mode entry are allowed again. -/
  | flashProgramEraseComplete
  /-- CSB_FRAME_BOUNDARY (R172): A CSB transmit frame ends and the transmitter starts the next frame in the order BEACON, ACK, VC0, VC1. -/
  | csbFrameBoundary
  /-- SIGNING_COMPLETE (R324): The secure partition finishes signing a CHALLENGE_AUTH or signed MEASUREMENTS response and sends it, leaving the signing state. -/
  | signingComplete
deriving DecidableEq, Repr

end Sys2Proof
end

