-- ==== Sys2Proof/Decode.lean ====
section
/-! DEFINITION. The decoder of the table's words. The rows of the table of operations and events give no bits: a command
reaches the block as an operation or an event, never as a word, so no word spells one (log entry 8). -/
namespace Sys2Proof

/-- The command that a word spells by the bits of its row: none, since no row gives bits. -/
def decodeTableWord (_nbits _w : Nat) : Option Instr := none

end Sys2Proof
end

