-- ==== Sys2Proof/Config.lean ====
section
/-! DEFINITION. What the spec leaves open: free values, on which no proof can rely, and the figures a single device fixes
(its die number, its boot ROM) or another standard gives (PCIe presets, FEC parity, patterns, SHA-384). -/
namespace Sys2Proof

/-- A free value (log entry 3): the n-th value that the spec leaves undefined. Nothing constrains it. -/
opaque Config.freeValue : Nat → Nat

/-- The 64-bit die number, fixed at manufacture (R414). -/
opaque Config.dieNumber : Nat

/-- The six FEC parity bytes of a flit body, as PCIe Base 7.0 computes them (R4, R122); the manual does not give the
code. The argument is flit bytes 0 to 249. -/
opaque Config.fecParity : List Nat → List Nat

/-- Whether PCIe Base 7.0 defines a transmitter preset at a rate code (R53); the companion rates use the set of the
corresponding outer rate. -/
opaque Config.presetDefined : Nat → Nat → Bool

/-- What fixes the coefficients of a preset at a rate (R53): the standard gives them; `Config.presetCoef` takes from this
number a set that satisfies R52. -/
opaque Config.presetSeed : Nat → Nat → Nat

/-- The coefficients of a preset at a rate (R53), packed as LANE_EQ_STAT bits 23:0 hold them: some set that satisfies the five
rules of R52, with c−2 only at 64 and 128 GT/s; which one the manual does not say. -/
def Config.presetCoef (rate p : Nat) : Nat :=
  let x := Config.presetSeed rate p
  let cm2 := if 5 ≤ rate then x % 7 else 0
  let cm1 := x / 7 % 13
  let cp1 := x / 91 % (min 16 (18 - cm1) + 1)
  cm2 + 64 * cm1 + 4096 * (48 - cm2 - cm1 - cp1) + 262144 * cp1

/-- The starting values of a receiver's CTLE, DFE and FFE at a rate (R50), from its preset hint where one is given (R90),
packed as LANE_RX_EQ bits 23:0 hold them; the manual gives no values. -/
opaque Config.startValues : Nat → Option Nat → Nat

/-- Bit k of the pattern of a code of LANE_PRBS_CTL.PATTERN other than the user pattern, at an NRZ or a PAM4 rate (R68): the
manual names the patterns and leaves codes 7 to 9 at NRZ rates and the reserved codes unspecified. -/
opaque Config.patternBit : Nat → Bool → Nat → Bool

/-- SHA-384 of a list of bytes, as 48 bytes (R325): the manual names the code only. -/
opaque Config.sha384 : List Nat → List Nat

/-- The boot ROM, which block 1 of R325 digests. -/
opaque Config.romBytes : List Nat

/-- The range of the flit sequence number (R128, "modulo the range of the sequence number"): PCIe's explicit sequence
number has ten bits, the width R148 records. PRESUMED, log entry 5. -/
def Config.seqRange : Nat := 1024

end Sys2Proof
end

