-- ==== Sys2Proof/Machine/Bits.lean ====
section
/-! DEFINITION. Bits, bytes and check codes: fields of words, little-endian bytes, CRC-16, CRC-32C, and the sparse tables
that hold state by number. -/
namespace Sys2Proof

/-- The entry of key `k`, or `d` where none is listed. -/
def SMap.get {α : Type} (m : SMap α) (k : Nat) (d : α) : α :=
  match m with
  | [] => d
  | (j, v) :: t => if j = k then v else SMap.get t k d

/-- The table without key `k`. -/
def SMap.erase {α : Type} (m : SMap α) (k : Nat) : SMap α :=
  m.filter fun e => decide (e.1 ≠ k)

/-- Insert an entry before the first key above its own. -/
def SMap.insert {α : Type} (m : SMap α) (k : Nat) (v : α) : SMap α :=
  match m with
  | [] => [(k, v)]
  | (j, u) :: t => if k < j then (k, v) :: (j, u) :: t else (j, u) :: SMap.insert t k v

/-- Set key `k` to `v`; the value an unlisted key reads as, `d`, is not listed. -/
def SMap.set {α : Type} [DecidableEq α] (m : SMap α) (k : Nat) (v d : α) : SMap α :=
  if v = d then m.erase k else (m.erase k).insert k v

/-- The canonical form: keys strictly rising, and no entry equal to what its key reads as when unlisted. -/
def SMap.wf {α : Type} [DecidableEq α] (dflt : Nat → α) (m : SMap α) : Bool :=
  match m with
  | [] => true
  | [(k, v)] => decide (v ≠ dflt k)
  | (k, v) :: (j, u) :: t => decide (v ≠ dflt k) && decide (k < j) && SMap.wf dflt ((j, u) :: t)

namespace Machine

/-- Bits lo to lo + w - 1 of a word. -/
def bits (x lo w : Nat) : Nat := x / 2 ^ lo % 2 ^ w

/-- Bit n of a word. -/
def bit (x n : Nat) : Bool := x / 2 ^ n % 2 = 1

/-- The number of a truth value. -/
def b2n (b : Bool) : Nat := if b then 1 else 0

/-- A word with bit n set. -/
def setBit (x n : Nat) : Nat := if bit x n then x else x + 2 ^ n

/-- A word with bit n clear. -/
def clrBit (x n : Nat) : Nat := if bit x n then x - 2 ^ n else x

/-- The number of bits set among the low n. -/
def popCount (x : Nat) : Nat → Nat
  | 0 => 0
  | n + 1 => b2n (bit x n) + popCount x n

/-- Saturating addition at the largest value of w bits. -/
def satAdd (w a b : Nat) : Nat := min (a + b) (2 ^ w - 1)

/-- Two's complement of a signed number in w bits. -/
def toTwos (w : Nat) (x : Int) : Nat := (x % (2 ^ w : Int)).toNat

/-- The n bytes of a number, least significant first. -/
def leBytes (x : Nat) : Nat → List Nat
  | 0 => []
  | n + 1 => x % 256 :: leBytes (x / 256) n

/-- The number whose bytes, least significant first, are listed. -/
def ofLeBytes : List Nat → Nat
  | [] => 0
  | b :: t => b % 256 + 256 * ofLeBytes t

/-- The bytes of a list at offset o, n of them, 0 past the end. -/
def sliceBytes (l : List Nat) (o n : Nat) : List Nat :=
  let t := (l.drop o).take n
  t ++ List.replicate (n - t.length) 0

/-- A little-endian number inside a list of bytes. -/
def leAt (l : List Nat) (o n : Nat) : Nat := ofLeBytes (sliceBytes l o n)

/-- The byte at offset o, 0 past the end. -/
def byteAt (l : List Nat) (o : Nat) : Nat := (l.drop o).headD 0 % 256

/-- Replace the byte at offset o. -/
def setByte (l : List Nat) (o b : Nat) : List Nat :=
  match l, o with
  | [], _ => []
  | _ :: t, 0 => b :: t
  | x :: t, o + 1 => x :: setByte t o b

/-- XOR a mask into the byte at an offset. -/
def xorByte (l : List Nat) (o mask : Nat) : List Nat := setByte l o ((byteAt l o) ^^^ mask)

/-- The list padded with zero bytes, or cut, to n bytes. -/
def padTo (l : List Nat) (n : Nat) : List Nat := l.take n ++ List.replicate (n - l.length) 0

/-- One bit of the CRC-16 of R191: polynomial 0x1021, most significant bit first. -/
def crc16Step (c : Nat) : Nat := if c / 2 ^ 15 % 2 = 1 then (c * 2 % 65536) ^^^ 0x1021 else c * 2 % 65536

/-- A function applied n times. -/
def iter {α : Type} (f : α → α) : Nat → α → α
  | 0, x => x
  | n + 1, x => iter f n (f x)

/-- CRC-16, polynomial 0x1021, initial value 0xFFFF, most significant bit first, no reflection and no final XOR (R191). -/
def crc16 (l : List Nat) : Nat :=
  l.foldl (fun c b => iter crc16Step 8 (c ^^^ (b % 256 * 256))) 0xFFFF

/-- One bit of CRC-32C (polynomial 0x1EDC6F41), reflected. -/
def crc32cStep (c : Nat) : Nat := if c % 2 = 1 then (c / 2) ^^^ 0x82F63B78 else c / 2

/-- CRC-32C of a list of bytes, in its usual reflected form with initial value and final XOR of all ones. PRESUMED where
the manual names the code only (log entry 6). -/
def crc32c (l : List Nat) : Nat :=
  (l.foldl (fun c b => iter crc32cStep 8 (c ^^^ (b % 256))) 0xFFFFFFFF) ^^^ 0xFFFFFFFF

/-- One bit of CRC-8, polynomial 0x07, most significant bit first. -/
def crc8Step (c : Nat) : Nat := if c / 128 % 2 = 1 then (c * 2 % 256) ^^^ 0x07 else c * 2 % 256

/-- The packet error code of SMBus: CRC-8 of a list of bytes. PRESUMED, log entry 109. -/
def crc8 (l : List Nat) : Nat := l.foldl (fun c b => iter crc8Step 8 (c ^^^ (b % 256))) 0

/-- Update the element at position n of a list. -/
def setAt {α : Type} (l : List α) (n : Nat) (v : α) : List α :=
  match l, n with
  | [], _ => []
  | _ :: t, 0 => v :: t
  | x :: t, n + 1 => x :: setAt t n v

/-- Run a state transformer for each number below n, rising. -/
def forUp {σ : Type} (n : Nat) (f : Nat → σ → σ) (s : σ) : σ := (List.range n).foldl (fun a i => f i a) s

/-- Run a state transformer for each element of a list, in order. -/
def forEach {σ α : Type} (l : List α) (f : α → σ → σ) (s : σ) : σ := l.foldl (fun a x => f x a) s

end Machine
end Sys2Proof
end

