-- ==== Sys2Proof/Machine/RegNames.lean ====
section
/-! DEFINITION. The names of the registers (chapter 13's index, R413 and R418) and the access codes of R12. -/
namespace Sys2Proof.Machine

/-- The access codes of R12. -/
inductive Acc where
  | rw | ro | wo | w1c | w1s | rwe | rwl
deriving DecidableEq, Repr

/-- A named field of a register: its number in this model, its lowest bit and width, its access code (R12), its reset
value where every instance has the same (R40), whether the configuration tally covers it, and whether its reset value
depends on the instance, the straps or the die. -/
structure Fld where
  id : Fin 4096
  lo : Nat
  w : Nat
  acc : Acc
  rst : Nat
  tally : Bool
  byInst : Bool := false
deriving DecidableEq, Repr

/-- The registers of the device, in the order of this manual's chapters. -/
inductive Reg where
  | LANE_RX_CTL | LANE_TX_CTL | LANE_TX_COEF | LANE_RX_STAT | LANE_RX_EQ | LANE_EQ_STAT | LANE_SLICE_STAT 
  | LANE_EB_STAT | LANE_EB_CFG | LANE_ERR_CNT | LANE_ECHO_CTL | LANE_PRBS_CTL | LANE_PRBS_STAT | LANE_PRBS_ERR 
  | LANE_PRBS_BITS_LO | LANE_PRBS_BITS_HI | QUAD_CTL | QUAD_STAT | PHR_CTL | PHR_STAT | PHR_WDOG | PHR_ID 
  | PORT_CTL | PORT_CFG | PORT_STAT | PORT_LINK_STAT | PORT_EQ_CFG | PORT_EQ_STAT | PORT_TMO_CFG | PORT_LDN_LOG 
  | PORT_LDN_CNT | PORT_LDN_DRIP_LO | PORT_LDN_DRIP_HI | PORT_TRN_CNT | PORT_HP_STAT | PORT_BIND | PORT_FLIT_CFG 
  | PORT_FLIT_STAT | PORT_FLIT_CTL | PORT_FLIT_LOCK_CNT | PORT_ERRATA_SENT | PORT_ERRATA_CNT | PORT_ERRATA_STAT 
  | PORT_CAP_CFG | PORT_CAP_CTL | PORT_CAP_STAT | PORT_CAP_TREC | PORT_CAP_LOST | CMP_CSB_CTL | CMP_CSB_CFG 
  | CMP_CSB_STAT | CMP_CSB_CNT | CMP_CSB_CNT2 | CMP_CFG | CMP_PORT_STAT | CMP_PORT_CNT | CMP_PORT_ROW 
  | SPARE_CFG | SPARE_CTL | SPARE_THR | SPARE_STAT | SPARE_CNT | CMP_SLOT_CTL | CMP_Q_WM | CMP_SHAPE_CFG 
  | CMP_POLICE_CFG | CMP_HOLD_CFG | CMP_TOKEN_STAT | CMP_RPL_SENT | CMP_RPL_CNT | CMP_RPL_CNT2 | CMP_HOLD_CNT 
  | CMP_HOLD_CNT2 | CMP_SLOT_CNT | CMP_POLICE_CNT | CMP_POLICE_LAST | CMP_Q_STAT | HEAT_CTL | HEAT_CFG 
  | HEAT_EPOCH_CFG | HEAT_STAT | HEAT_EPOCH | HEAT_EPOCH_AGE | HEAT_SWAP_CNT | HEAT_BANK_EPOCH 
  | HEAT_BANK_START_LO | HEAT_BANK_START_HI | HEAT_BANK_LEN | HEAT_PCTL | HEAT_PCFG | HEAT_PBASE | HEAT_PRANGE 
  | HEAT_EXP_STAT | HEAT_EXP_CNT | HEAT_PLFSR | HEAT_LOST | HEAT_UNMAP | HEAT_OPAQUE | HEAT_FOVF | HEAT_ZCTL 
  | HEAT_ZCFG | HEAT_ZBASE | CLK_SRC | CLK_STAT | CLK_LOSS_CNT | CLK_CTL | CLK_FM_CTL | CLK_FM_RES | CLK_DRIP_LO 
  | CLK_DRIP_HI | CLK_TSYNC_CFG | CLK_TSYNC_CTL | CLK_TSYNC_STAT | CLK_TSYNC_LOAD_LO | CLK_TSYNC_LOAD_HI 
  | CLK_TSYNC_CNT | CLK_SCHED_TGT_LO | CLK_SCHED_TGT_HI | CLK_SCHED_CTL | CLK_SCHED_STAT | PWR_CTL | PWR_STAT 
  | PWR_VMON0 | PWR_VMON1 | PWR_AVS_CFG | PWR_AVS_STAT | PWR_DOM_STAT | PWR_TEMP | PWR_THERM_CFG 
  | PWR_THERM_STAT | PWR_CAL_CFG | PWR_ZREF_STAT | PWR_CNT | PWR_CAL_STAT | PWR_TXSTOP_O | PWR_TXSTOP_I 
  | PWR_TXSTOP_S | MGMT_CTL | MGMT_STAT | MGMT_BUS_CFG | MGMT_BUS_STAT | MGMT_ACL_MCTP | MGMT_ACL_CSB 
  | MGMT_VDM_ID | MGMT_CNT | MGMT_SEC_STAT | MGMT_SEC_CNT | MGMT_VIEW_CTL | MGMT_VIEW_STAT | MGMT_VIEW_SEQ 
  | MGMT_VIEW_PTR | MGMT_VIEW_POL | MGMT_VIEW_CNT | MGMT_VIEW_CNT2 | MGMT_VIEW_CNT3 | MGMT_VIEW_LAST 
  | MGMT_VIEW_BLOB | BOOT_STAT | BOOT_ERR | BOOT_BANK | BOOT_FW_VER_A | BOOT_FW_VER_B | BOOT_SV_VER_A 
  | BOOT_SV_VER_B | BOOT_TIME | BOOT_SPI_CFG | BOOT_SPI_STAT | BOOT_FLASH_ID | BOOT_UPD_CFG | BOOT_UPD_CTL 
  | BOOT_UPD_STAT | BOOT_UPD_CNT | BOOT_LOG_STAT | GLB_TALLY | GLB_TALLY_REF | GLB_TALLY_STAGE | GLB_TALLY_CTL 
  | GLB_TALLY_STAT | GLB_TALLY_CDRIP_LO | GLB_TALLY_CDRIP_HI | GLB_TALLY_SNAP | GLB_TALLY_SNAP_DRIP_LO 
  | GLB_TALLY_SNAP_DRIP_HI | SUMP_CTL | SUMP_STAT | SUMP_FORCE | SUMP_CLR | SUMP_PEND | SUMP_SEV 
  | SUMP_QSTOP_CFG | SUMP_QSTOP_STAT | SUMP_QSTOP_CNT | SUMP_LWDOG_CFG | SUMP_LWDOG_CTL | SUMP_LWDOG_STAT 
  | SUMP_ECC_CFG | SUMP_ECC_STAT | SUMP_ECC_LAST | SUMP_SCRUB_LAP | SUMP_SCRUB_AGE | SUMP_ATTR_DOWN 
  | SUMP_SRC_CFG | SUMP_SRC_STAT | SUMP_CAP_INFO | SUMP_CAP_DRIP | GLB_ID | GLB_UID_LO | GLB_UID_HI | GLB_RST 
  | GLB_RST_CAUSE | GLB_BIFUR | GLB_MODE | GLB_LOCK | GLB_WERR | GLB_WERR_ADDR | PORT_FEC_FLITS_LO 
  | PORT_FEC_FLITS_HI | PORT_FEC_CORR | PORT_FEC_SYM | PORT_FEC_UNCORR | PORT_FEC_CRCBAD | PORT_FEC_OOS 
  | PORT_FEC_OPAQUE | PORT_FEC_LANE | PORT_CAP_MATCH_LO | PORT_CAP_MATCH_HI | PORT_CAP_MASK_LO 
  | PORT_CAP_MASK_HI | PORT_CAP_TDRIP_LO | PORT_CAP_TDRIP_HI | LANE_PRBS_USR_LO | LANE_PRBS_USR_HI | CW_WBUF 
  | CW_LANE_CTL | CW_LANE_COEF | CW_LANE_STAT | CW_LANE_ERR | CW_PORT_CTL | CW_PORT_CFG | CW_PORT_STAT 
  | CW_PORT_LDN | CW_ID | CW_BIFUR | CW_DRIP 
deriving DecidableEq, Repr

end Sys2Proof.Machine
end

