-- ==== Sys2Proof/Machine/RegTable.lean ====
section
/-! DEFINITION. The register tables of the manual: every named field with its place, access code, reset value and tally
mark, the fields of each register, and where each register lies in the management address space (R396, R413, R418). -/
namespace Sys2Proof.Machine

/-! LANE_RX_CTL (R75) -/
def F.LANE_RX_CTL_CNT_CLR : Fld := ⟨0, 11, 1, .wo, 0, false, false⟩
def F.LANE_RX_CTL_RESTART : Fld := ⟨1, 10, 1, .wo, 0, false, false⟩
def F.LANE_RX_CTL_CTLE_MAX : Fld := ⟨2, 4, 6, .rwe, 36, true, false⟩
def F.LANE_RX_CTL_DFE_EN : Fld := ⟨3, 3, 1, .rwe, 1, true, false⟩
def F.LANE_RX_CTL_POL_OVR : Fld := ⟨4, 2, 1, .rwe, 0, true, false⟩
def F.LANE_RX_CTL_POL_VAL : Fld := ⟨5, 1, 1, .rwe, 0, true, false⟩
def F.LANE_RX_CTL_FREEZE : Fld := ⟨6, 0, 1, .rw, 0, false, false⟩
/-! LANE_TX_CTL (R76) -/
def F.LANE_TX_CTL_SWING : Fld := ⟨7, 1, 1, .rwe, 0, true, false⟩
def F.LANE_TX_CTL_OVR : Fld := ⟨8, 0, 1, .rwe, 0, true, false⟩
/-! LANE_TX_COEF (R76) -/
def F.LANE_TX_COEF_CP1 : Fld := ⟨9, 24, 6, .rwe, 0, true, false⟩
def F.LANE_TX_COEF_C0 : Fld := ⟨10, 16, 6, .rwe, 48, true, false⟩
def F.LANE_TX_COEF_CM1 : Fld := ⟨11, 8, 6, .rwe, 0, true, false⟩
def F.LANE_TX_COEF_CM2 : Fld := ⟨12, 0, 6, .rwe, 0, true, false⟩
/-! LANE_RX_STAT (R77) -/
def F.LANE_RX_STAT_AGE : Fld := ⟨13, 28, 4, .ro, 15, false, false⟩
def F.LANE_RX_STAT_LOGICAL : Fld := ⟨14, 8, 5, .ro, 0, false, false⟩
def F.LANE_RX_STAT_POL_DET : Fld := ⟨15, 5, 1, .ro, 0, false, false⟩
def F.LANE_RX_STAT_CDR_LOCK : Fld := ⟨16, 4, 1, .ro, 0, false, false⟩
def F.LANE_RX_STAT_SIGDET : Fld := ⟨17, 3, 1, .ro, 0, false, false⟩
def F.LANE_RX_STAT_ASTATE : Fld := ⟨18, 0, 3, .ro, 0, false, false⟩
/-! LANE_RX_EQ (R77) -/
def F.LANE_RX_EQ_AGE : Fld := ⟨19, 28, 4, .ro, 15, false, false⟩
def F.LANE_RX_EQ_FFE_P1 : Fld := ⟨20, 18, 6, .ro, 0, false, false⟩
def F.LANE_RX_EQ_FFE_M1 : Fld := ⟨21, 12, 6, .ro, 0, false, false⟩
def F.LANE_RX_EQ_DFE1 : Fld := ⟨22, 6, 6, .ro, 0, false, false⟩
def F.LANE_RX_EQ_CTLE : Fld := ⟨23, 0, 6, .ro, 0, false, false⟩
/-! LANE_EQ_STAT (R78) -/
def F.LANE_EQ_STAT_AGE : Fld := ⟨24, 28, 4, .ro, 15, false, false⟩
def F.LANE_EQ_STAT_PRESET : Fld := ⟨25, 24, 4, .ro, 0, false, false⟩
def F.LANE_EQ_STAT_CP1 : Fld := ⟨26, 18, 6, .ro, 0, false, false⟩
def F.LANE_EQ_STAT_C0 : Fld := ⟨27, 12, 6, .ro, 0, false, false⟩
def F.LANE_EQ_STAT_CM1 : Fld := ⟨28, 6, 6, .ro, 0, false, false⟩
def F.LANE_EQ_STAT_CM2 : Fld := ⟨29, 0, 6, .ro, 0, false, false⟩
/-! LANE_SLICE_STAT (R79) -/
def F.LANE_SLICE_STAT_AGE : Fld := ⟨30, 28, 4, .ro, 15, false, false⟩
def F.LANE_SLICE_STAT_MARG : Fld := ⟨31, 24, 1, .ro, 0, false, false⟩
def F.LANE_SLICE_STAT_CALSTOP : Fld := ⟨32, 23, 1, .ro, 0, false, false⟩
def F.LANE_SLICE_STAT_CALSLICE : Fld := ⟨33, 16, 7, .ro, 127, false, false⟩
def F.LANE_SLICE_STAT_SUB1 : Fld := ⟨34, 8, 7, .ro, 127, false, false⟩
def F.LANE_SLICE_STAT_SUB0 : Fld := ⟨35, 0, 7, .ro, 127, false, false⟩
/-! LANE_EB_STAT (R80) -/
def F.LANE_EB_STAT_AGE : Fld := ⟨36, 28, 4, .ro, 15, false, false⟩
def F.LANE_EB_STAT_LWM : Fld := ⟨37, 17, 1, .w1c, 0, false, false⟩
def F.LANE_EB_STAT_HWM : Fld := ⟨38, 16, 1, .w1c, 0, false, false⟩
def F.LANE_EB_STAT_FILL : Fld := ⟨39, 0, 7, .ro, 32, false, false⟩
/-! LANE_EB_CFG (R80) -/
def F.LANE_EB_CFG_LWM : Fld := ⟨40, 8, 7, .rwe, 16, true, false⟩
def F.LANE_EB_CFG_HWM : Fld := ⟨41, 0, 7, .rwe, 48, true, false⟩
/-! LANE_ERR_CNT (R80) -/
def F.LANE_ERR_CNT_LOCK_LOSS : Fld := ⟨42, 16, 16, .ro, 0, false, false⟩
def F.LANE_ERR_CNT_EB_ERR : Fld := ⟨43, 0, 16, .ro, 0, false, false⟩
/-! LANE_ECHO_CTL (R81) -/
def F.LANE_ECHO_CTL_RATE : Fld := ⟨44, 2, 3, .rwe, 0, false, false⟩
def F.LANE_ECHO_CTL_MODE : Fld := ⟨45, 0, 2, .rwe, 0, false, false⟩
/-! LANE_PRBS_CTL (R81) -/
def F.LANE_PRBS_CTL_CLR : Fld := ⟨46, 7, 1, .wo, 0, false, false⟩
def F.LANE_PRBS_CTL_INV : Fld := ⟨47, 6, 1, .rwe, 0, false, false⟩
def F.LANE_PRBS_CTL_PATTERN : Fld := ⟨48, 2, 4, .rwe, 0, false, false⟩
def F.LANE_PRBS_CTL_CHK_EN : Fld := ⟨49, 1, 1, .rwe, 0, false, false⟩
def F.LANE_PRBS_CTL_GEN_EN : Fld := ⟨50, 0, 1, .rwe, 0, false, false⟩
/-! LANE_PRBS_STAT (R81) -/
def F.LANE_PRBS_STAT_AGE : Fld := ⟨51, 28, 4, .ro, 15, false, false⟩
def F.LANE_PRBS_STAT_SAT : Fld := ⟨52, 1, 1, .ro, 0, false, false⟩
def F.LANE_PRBS_STAT_LOCK : Fld := ⟨53, 0, 1, .ro, 0, false, false⟩
/-! LANE_PRBS_ERR (R81) -/
def F.LANE_PRBS_ERR_ERR : Fld := ⟨54, 0, 32, .ro, 0, false, false⟩
/-! LANE_PRBS_BITS_LO (R81) -/
def F.LANE_PRBS_BITS_LO_BITS_LO : Fld := ⟨55, 0, 32, .ro, 0, false, false⟩
/-! LANE_PRBS_BITS_HI (R81) -/
def F.LANE_PRBS_BITS_HI_BITS_HI : Fld := ⟨56, 0, 16, .ro, 0, false, false⟩
/-! QUAD_CTL (R82) -/
def F.QUAD_CTL_RST : Fld := ⟨57, 0, 1, .wo, 0, false, false⟩
/-! QUAD_STAT (R82) -/
def F.QUAD_STAT_AGE : Fld := ⟨58, 28, 4, .ro, 15, false, false⟩
def F.QUAD_STAT_GATED : Fld := ⟨59, 2, 1, .ro, 1, false, false⟩
def F.QUAD_STAT_PLL_I_LOCK : Fld := ⟨60, 1, 1, .ro, 0, false, false⟩
def F.QUAD_STAT_PLL_O_LOCK : Fld := ⟨61, 0, 1, .ro, 0, false, false⟩
/-! PHR_CTL (R83) -/
def F.PHR_CTL_WD_HALT : Fld := ⟨62, 1, 1, .rwe, 0, true, false⟩
def F.PHR_CTL_EN : Fld := ⟨63, 0, 1, .rw, 0, false, false⟩
/-! PHR_STAT (R83) -/
def F.PHR_STAT_AGE : Fld := ⟨64, 28, 4, .ro, 15, false, false⟩
def F.PHR_STAT_LAST_CYC : Fld := ⟨65, 8, 10, .ro, 0, false, false⟩
def F.PHR_STAT_HALTED : Fld := ⟨66, 4, 1, .ro, 0, false, false⟩
def F.PHR_STAT_VALID_B : Fld := ⟨67, 3, 1, .ro, 0, false, false⟩
def F.PHR_STAT_VALID_A : Fld := ⟨68, 2, 1, .ro, 0, false, false⟩
def F.PHR_STAT_ACT : Fld := ⟨69, 1, 1, .ro, 0, false, false⟩
def F.PHR_STAT_RUN : Fld := ⟨70, 0, 1, .ro, 0, false, false⟩
/-! PHR_WDOG (R83) -/
def F.PHR_WDOG_CLR : Fld := ⟨71, 31, 1, .wo, 0, false, false⟩
def F.PHR_WDOG_MAX_CYC : Fld := ⟨72, 16, 10, .ro, 0, false, false⟩
def F.PHR_WDOG_OVR_CNT : Fld := ⟨73, 0, 16, .ro, 0, false, false⟩
/-! PHR_ID (R83) -/
def F.PHR_ID_ID_B : Fld := ⟨74, 16, 16, .ro, 0, false, false⟩
def F.PHR_ID_ID_A : Fld := ⟨75, 0, 16, .ro, 0, false, false⟩
/-! PORT_CTL (R115) -/
def F.PORT_CTL_CNT_CLR : Fld := ⟨76, 3, 1, .wo, 0, false, false⟩
def F.PORT_CTL_RETRAIN : Fld := ⟨77, 2, 1, .wo, 0, false, false⟩
def F.PORT_CTL_RST : Fld := ⟨78, 1, 1, .wo, 0, false, false⟩
def F.PORT_CTL_EN : Fld := ⟨79, 0, 1, .rw, 0, false, false⟩
/-! PORT_CFG (R116) -/
def F.PORT_CFG_MARG_EN : Fld := ⟨80, 20, 1, .rwe, 1, true, false⟩
def F.PORT_CFG_L0P_EN : Fld := ⟨81, 19, 1, .rwe, 1, true, false⟩
def F.PORT_CFG_PRSNT_EN : Fld := ⟨82, 18, 1, .rwe, 0, true, false⟩
def F.PORT_CFG_PERST_EN : Fld := ⟨83, 17, 1, .rwe, 1, true, false⟩
def F.PORT_CFG_SRIS_I : Fld := ⟨84, 16, 1, .rwe, 0, true, false⟩
def F.PORT_CFG_SRIS_O : Fld := ⟨85, 15, 1, .rwe, 0, true, false⟩
def F.PORT_CFG_MAX_RATE : Fld := ⟨86, 12, 3, .rwe, 6, true, false⟩
def F.PORT_CFG_CMODE_IO : Fld := ⟨87, 4, 2, .rw, 0, true, false⟩
def F.PORT_CFG_CMODE_OI : Fld := ⟨88, 2, 2, .rw, 0, true, false⟩
def F.PORT_CFG_COMP : Fld := ⟨89, 1, 1, .rwe, 0, true, false⟩
def F.PORT_CFG_ORIENT : Fld := ⟨90, 0, 1, .rwe, 0, true, false⟩
/-! PORT_STAT (R117) -/
def F.PORT_STAT_AGE : Fld := ⟨91, 28, 4, .ro, 15, false, false⟩
def F.PORT_STAT_RSTDONE : Fld := ⟨92, 17, 1, .ro, 1, false, false⟩
def F.PORT_STAT_CMODE_PEND : Fld := ⟨93, 16, 1, .ro, 0, false, false⟩
def F.PORT_STAT_DGC_IO : Fld := ⟨94, 11, 3, .ro, 0, false, false⟩
def F.PORT_STAT_DGC_OI : Fld := ⟨95, 8, 3, .ro, 0, false, false⟩
def F.PORT_STAT_EMODE_IO : Fld := ⟨96, 2, 2, .ro, 0, false, false⟩
def F.PORT_STAT_EMODE_OI : Fld := ⟨97, 0, 2, .ro, 0, false, false⟩
/-! PORT_LINK_STAT (R117) -/
def F.PORT_LINK_STAT_AGE : Fld := ⟨98, 28, 4, .ro, 15, false, false⟩
def F.PORT_LINK_STAT_AWIDTH : Fld := ⟨99, 19, 5, .ro, 0, false, false⟩
def F.PORT_LINK_STAT_WIDTH : Fld := ⟨100, 14, 5, .ro, 0, false, false⟩
def F.PORT_LINK_STAT_XS_RTMR : Fld := ⟨101, 13, 1, .ro, 0, false, false⟩
def F.PORT_LINK_STAT_POS : Fld := ⟨102, 12, 1, .ro, 0, false, false⟩
def F.PORT_LINK_STAT_FLIT : Fld := ⟨103, 11, 1, .ro, 0, false, false⟩
def F.PORT_LINK_STAT_RATE : Fld := ⟨104, 8, 3, .ro, 0, false, false⟩
def F.PORT_LINK_STAT_LTSSM : Fld := ⟨105, 0, 6, .ro, 31, false, false⟩
/-! PORT_EQ_CFG (R118) -/
def F.PORT_EQ_CFG_SEARCH : Fld := ⟨106, 24, 4, .rwe, 0, true, false⟩
def F.PORT_EQ_CFG_MAX_TRIALS : Fld := ⟨107, 16, 8, .rwe, 160, true, false⟩
def F.PORT_EQ_CFG_DWELL : Fld := ⟨108, 8, 8, .rwe, 64, true, false⟩
def F.PORT_EQ_CFG_EXEC_TMO : Fld := ⟨109, 0, 8, .rwe, 20, true, false⟩
/-! PORT_EQ_STAT (R118) -/
def F.PORT_EQ_STAT_AGE : Fld := ⟨110, 28, 4, .ro, 15, false, false⟩
def F.PORT_EQ_STAT_RATE : Fld := ⟨111, 25, 3, .ro, 0, false, false⟩
def F.PORT_EQ_STAT_I_TRIALS : Fld := ⟨112, 16, 8, .ro, 0, false, false⟩
def F.PORT_EQ_STAT_O_TRIALS : Fld := ⟨113, 8, 8, .ro, 0, false, false⟩
def F.PORT_EQ_STAT_I_RESULT : Fld := ⟨114, 2, 2, .ro, 0, false, false⟩
def F.PORT_EQ_STAT_O_RESULT : Fld := ⟨115, 0, 2, .ro, 0, false, false⟩
/-! PORT_TMO_CFG (R119) -/
def F.PORT_TMO_CFG_PRSNT_DB : Fld := ⟨116, 16, 8, .rwe, 20, true, false⟩
def F.PORT_TMO_CFG_FWD_TMO : Fld := ⟨117, 0, 8, .rwe, 48, true, false⟩
/-! PORT_LDN_LOG (R119) -/
def F.PORT_LDN_LOG_TAG : Fld := ⟨118, 16, 16, .ro, 0, false, false⟩
def F.PORT_LDN_LOG_STATE : Fld := ⟨119, 8, 6, .ro, 0, false, false⟩
def F.PORT_LDN_LOG_RATE : Fld := ⟨120, 5, 3, .ro, 0, false, false⟩
def F.PORT_LDN_LOG_CAUSE : Fld := ⟨121, 0, 5, .ro, 0, false, false⟩
/-! PORT_LDN_CNT (R119) -/
def F.PORT_LDN_CNT_WDOG : Fld := ⟨122, 24, 8, .ro, 0, false, false⟩
def F.PORT_LDN_CNT_ATTR : Fld := ⟨123, 12, 12, .ro, 0, false, false⟩
def F.PORT_LDN_CNT_ALL : Fld := ⟨124, 0, 12, .ro, 0, false, false⟩
/-! PORT_LDN_DRIP_LO (R119) -/
def F.PORT_LDN_DRIP_LO_DRIP_LO : Fld := ⟨125, 0, 32, .ro, 0, false, false⟩
/-! PORT_LDN_DRIP_HI (R119) -/
def F.PORT_LDN_DRIP_HI_DRIP_HI : Fld := ⟨126, 0, 16, .ro, 0, false, false⟩
/-! PORT_TRN_CNT (R120) -/
def F.PORT_TRN_CNT_RECOV : Fld := ⟨127, 16, 16, .ro, 0, false, false⟩
def F.PORT_TRN_CNT_SPEED : Fld := ⟨128, 8, 8, .ro, 0, false, false⟩
def F.PORT_TRN_CNT_EQ : Fld := ⟨129, 0, 8, .ro, 0, false, false⟩
/-! PORT_HP_STAT (R120) -/
def F.PORT_HP_STAT_PERST_CHG : Fld := ⟨130, 3, 1, .w1c, 0, false, false⟩
def F.PORT_HP_STAT_PRSNT_CHG : Fld := ⟨131, 2, 1, .w1c, 0, false, false⟩
def F.PORT_HP_STAT_PERST : Fld := ⟨132, 1, 1, .ro, 0, false, false⟩
def F.PORT_HP_STAT_PRSNT : Fld := ⟨133, 0, 1, .ro, 0, false, false⟩
/-! PORT_BIND (R120) -/
def F.PORT_BIND_GEN : Fld := ⟨134, 16, 16, .ro, 0, false, false⟩
def F.PORT_BIND_TAG : Fld := ⟨135, 0, 16, .rwe, 0, false, false⟩
/-! PORT_FLIT_CFG (R152) -/
def F.PORT_FLIT_CFG_LOSS_N : Fld := ⟨136, 4, 4, .rwe, 8, true, false⟩
def F.PORT_FLIT_CFG_IDE_FORCE : Fld := ⟨137, 0, 1, .rwe, 0, true, false⟩
/-! PORT_FLIT_STAT (R152) -/
def F.PORT_FLIT_STAT_AGE : Fld := ⟨138, 28, 4, .ro, 15, false, false⟩
def F.PORT_FLIT_STAT_IDE_IO : Fld := ⟨139, 13, 1, .ro, 0, false, false⟩
def F.PORT_FLIT_STAT_IDE_OI : Fld := ⟨140, 12, 1, .ro, 0, false, false⟩
def F.PORT_FLIT_STAT_LOCK_IO : Fld := ⟨141, 10, 2, .ro, 0, false, false⟩
def F.PORT_FLIT_STAT_LOCK_OI : Fld := ⟨142, 8, 2, .ro, 0, false, false⟩
def F.PORT_FLIT_STAT_FMT : Fld := ⟨143, 0, 2, .ro, 0, false, false⟩
/-! PORT_FLIT_CTL (R152) -/
def F.PORT_FLIT_CTL_CNT_CLR : Fld := ⟨144, 0, 1, .wo, 0, false, false⟩
/-! PORT_FLIT_LOCK_CNT (R152) -/
def F.PORT_FLIT_LOCK_CNT_LOSS_IO : Fld := ⟨145, 16, 16, .ro, 0, false, false⟩
def F.PORT_FLIT_LOCK_CNT_LOSS_OI : Fld := ⟨146, 0, 16, .ro, 0, false, false⟩
/-! PORT_ERRATA_SENT (R153) -/
def F.PORT_ERRATA_SENT_SENT : Fld := ⟨147, 0, 32, .ro, 0, false, false⟩
/-! PORT_ERRATA_CNT (R153) -/
def F.PORT_ERRATA_CNT_DROP : Fld := ⟨148, 16, 16, .ro, 0, false, false⟩
def F.PORT_ERRATA_CNT_ABORT : Fld := ⟨149, 0, 16, .ro, 0, false, false⟩
/-! PORT_ERRATA_STAT (R153) -/
def F.PORT_ERRATA_STAT_LAG_MAX : Fld := ⟨150, 16, 2, .ro, 0, false, false⟩
def F.PORT_ERRATA_STAT_ERR_SEQ : Fld := ⟨151, 0, 16, .ro, 0, false, false⟩
/-! PORT_CAP_CFG (R154) -/
def F.PORT_CAP_CFG_SEG_BASE : Fld := ⟨152, 29, 3, .rwe, 0, false, false⟩
def F.PORT_CAP_CFG_SEG_CNT : Fld := ⟨153, 25, 4, .rwe, 1, false, false⟩
def F.PORT_CAP_CFG_DIR : Fld := ⟨154, 24, 1, .rwe, 0, false, false⟩
def F.PORT_CAP_CFG_TRIG : Fld := ⟨155, 21, 3, .rwe, 0, false, false⟩
def F.PORT_CAP_CFG_FILTER : Fld := ⟨156, 19, 2, .rwe, 0, false, false⟩
def F.PORT_CAP_CFG_PRE : Fld := ⟨157, 12, 7, .rwe, 0, false, false⟩
def F.PORT_CAP_CFG_MATCH_OFF : Fld := ⟨158, 7, 5, .rwe, 0, false, false⟩
/-! PORT_CAP_CTL (R154) -/
def F.PORT_CAP_CTL_STOP : Fld := ⟨159, 2, 1, .wo, 0, false, false⟩
def F.PORT_CAP_CTL_FORCE : Fld := ⟨160, 1, 1, .wo, 0, false, false⟩
def F.PORT_CAP_CTL_ARM : Fld := ⟨161, 0, 1, .wo, 0, false, false⟩
/-! PORT_CAP_STAT (R154) -/
def F.PORT_CAP_STAT_GEN : Fld := ⟨162, 24, 8, .ro, 0, false, false⟩
def F.PORT_CAP_STAT_STATE : Fld := ⟨163, 22, 2, .ro, 0, false, false⟩
def F.PORT_CAP_STAT_WRAP : Fld := ⟨164, 21, 1, .ro, 0, false, false⟩
def F.PORT_CAP_STAT_WPTR : Fld := ⟨165, 0, 13, .ro, 0, false, false⟩
/-! PORT_CAP_TREC (R154) -/
def F.PORT_CAP_TREC_TRIG_REC : Fld := ⟨166, 0, 13, .ro, 0, false, false⟩
/-! PORT_CAP_LOST (R154) -/
def F.PORT_CAP_LOST_LOST : Fld := ⟨167, 0, 32, .ro, 0, false, false⟩
/-! CMP_CSB_CTL (R185) -/
def F.CMP_CSB_CTL_CNT_CLR : Fld := ⟨168, 2, 1, .wo, 0, false, false⟩
def F.CMP_CSB_CTL_RST : Fld := ⟨169, 1, 1, .wo, 0, false, false⟩
def F.CMP_CSB_CTL_EN : Fld := ⟨170, 0, 1, .rw, 1, true, false⟩
/-! CMP_CSB_CFG (R185) -/
def F.CMP_CSB_CFG_RTX_TMO : Fld := ⟨171, 24, 8, .rwe, 20, true, false⟩
def F.CMP_CSB_CFG_BEACON : Fld := ⟨172, 16, 8, .rwe, 100, true, false⟩
def F.CMP_CSB_CFG_LOSS_TMO : Fld := ⟨173, 0, 16, .rwe, 500, true, false⟩
/-! CMP_CSB_STAT (R185) -/
def F.CMP_CSB_STAT_AGE : Fld := ⟨174, 28, 4, .ro, 15, false, false⟩
def F.CMP_CSB_STAT_PEER_MINOR : Fld := ⟨175, 16, 8, .ro, 0, false, false⟩
def F.CMP_CSB_STAT_PEER_MAJOR : Fld := ⟨176, 12, 4, .ro, 0, false, false⟩
def F.CMP_CSB_STAT_PEER_CAP : Fld := ⟨177, 8, 4, .ro, 0, false, false⟩
def F.CMP_CSB_STAT_STATE : Fld := ⟨178, 0, 3, .ro, 0, false, false⟩
/-! CMP_CSB_CNT (R185) -/
def F.CMP_CSB_CNT_CRC_BAD : Fld := ⟨179, 20, 12, .ro, 0, false, false⟩
def F.CMP_CSB_CNT_RTX : Fld := ⟨180, 8, 12, .ro, 0, false, false⟩
def F.CMP_CSB_CNT_DOWN : Fld := ⟨181, 0, 8, .ro, 0, false, false⟩
/-! CMP_CSB_CNT2 (R185) -/
def F.CMP_CSB_CNT2_LOST : Fld := ⟨182, 16, 16, .ro, 0, false, false⟩
def F.CMP_CSB_CNT2_UNEXP : Fld := ⟨183, 0, 16, .ro, 0, false, false⟩
/-! CMP_CFG (R186) -/
def F.CMP_CFG_CEQ_TMO : Fld := ⟨184, 16, 8, .rwe, 6, true, false⟩
def F.CMP_CFG_ROWLOSS_N : Fld := ⟨185, 12, 4, .rwe, 4, true, false⟩
def F.CMP_CFG_CLOCK_TMO : Fld := ⟨186, 8, 4, .rwe, 2, true, false⟩
def F.CMP_CFG_JOIN_TMO : Fld := ⟨187, 0, 8, .rwe, 100, true, false⟩
/-! CMP_PORT_STAT (R187) -/
def F.CMP_PORT_STAT_AGE : Fld := ⟨188, 28, 4, .ro, 15, false, false⟩
def F.CMP_PORT_STAT_LVRSN : Fld := ⟨189, 20, 8, .ro, 0, false, false⟩
def F.CMP_PORT_STAT_SP1 : Fld := ⟨190, 13, 1, .ro, 0, false, false⟩
def F.CMP_PORT_STAT_SP0 : Fld := ⟨191, 12, 1, .ro, 0, false, false⟩
def F.CMP_PORT_STAT_FB_CAUSE : Fld := ⟨192, 8, 4, .ro, 0, false, false⟩
def F.CMP_PORT_STAT_ROWLOCK : Fld := ⟨193, 7, 1, .ro, 0, false, false⟩
def F.CMP_PORT_STAT_ROWCAP : Fld := ⟨194, 6, 1, .ro, 0, false, false⟩
def F.CMP_PORT_STAT_SEG : Fld := ⟨195, 0, 3, .ro, 0, false, false⟩
/-! CMP_PORT_CNT (R187) -/
def F.CMP_PORT_CNT_FB : Fld := ⟨196, 24, 8, .ro, 0, false, false⟩
def F.CMP_PORT_CNT_ROWLOSS : Fld := ⟨197, 16, 8, .ro, 0, false, false⟩
def F.CMP_PORT_CNT_BADSLOT : Fld := ⟨198, 0, 16, .ro, 0, false, false⟩
/-! CMP_PORT_ROW (R187) -/
def F.CMP_PORT_ROW_ROW_IN : Fld := ⟨199, 16, 16, .ro, 0, false, false⟩
def F.CMP_PORT_ROW_ROW_OUT : Fld := ⟨200, 0, 16, .ro, 0, false, false⟩
/-! SPARE_CFG (R189) -/
def F.SPARE_CFG_WIN : Fld := ⟨201, 16, 16, .rwe, 1000, true, false⟩
def F.SPARE_CFG_TMO : Fld := ⟨202, 8, 8, .rwe, 20, true, false⟩
def F.SPARE_CFG_PERSIST : Fld := ⟨203, 4, 4, .rwe, 3, true, false⟩
def F.SPARE_CFG_SW_REQ_EN : Fld := ⟨204, 1, 1, .rwe, 1, true, false⟩
def F.SPARE_CFG_AUTO : Fld := ⟨205, 0, 1, .rwe, 1, true, false⟩
/-! SPARE_CTL (R189) -/
def F.SPARE_CTL_CNT_CLR : Fld := ⟨206, 8, 1, .wo, 0, false, false⟩
def F.SPARE_CTL_REL_S1 : Fld := ⟨207, 7, 1, .wo, 0, false, false⟩
def F.SPARE_CTL_REL_S0 : Fld := ⟨208, 6, 1, .wo, 0, false, false⟩
def F.SPARE_CTL_REQ : Fld := ⟨209, 5, 1, .wo, 0, false, false⟩
def F.SPARE_CTL_LANE : Fld := ⟨210, 0, 5, .wo, 0, false, false⟩
/-! SPARE_THR (R189) -/
def F.SPARE_THR_SYM_THR : Fld := ⟨211, 16, 16, .rwe, 2048, true, false⟩
def F.SPARE_THR_LOCK_THR : Fld := ⟨212, 8, 8, .rwe, 2, true, false⟩
/-! SPARE_STAT (R189) -/
def F.SPARE_STAT_AGE : Fld := ⟨213, 28, 4, .ro, 15, false, false⟩
def F.SPARE_STAT_LAST_RES : Fld := ⟨214, 20, 4, .ro, 0, false, false⟩
def F.SPARE_STAT_CAUSE : Fld := ⟨215, 16, 4, .ro, 0, false, false⟩
def F.SPARE_STAT_PORT : Fld := ⟨216, 12, 4, .ro, 0, false, false⟩
def F.SPARE_STAT_LANE : Fld := ⟨217, 3, 5, .ro, 0, false, false⟩
def F.SPARE_STAT_STATE : Fld := ⟨218, 0, 3, .ro, 0, false, false⟩
/-! SPARE_CNT (R189) -/
def F.SPARE_CNT_GRANT : Fld := ⟨219, 24, 8, .ro, 0, false, false⟩
def F.SPARE_CNT_FAIL : Fld := ⟨220, 16, 8, .ro, 0, false, false⟩
def F.SPARE_CNT_REFUSED : Fld := ⟨221, 8, 8, .ro, 0, false, false⟩
def F.SPARE_CNT_NOSPARE : Fld := ⟨222, 0, 8, .ro, 0, false, false⟩
/-! CMP_SLOT_CTL (R215) -/
def F.CMP_SLOT_CTL_CNT_CLR : Fld := ⟨223, 0, 1, .wo, 0, false, false⟩
/-! CMP_Q_WM (R215) -/
def F.CMP_Q_WM_DELAY_WM : Fld := ⟨224, 16, 8, .rw, 0, true, true⟩
def F.CMP_Q_WM_DEPTH_WM : Fld := ⟨225, 0, 13, .rw, 0, true, true⟩
/-! CMP_SHAPE_CFG (R216) -/
def F.CMP_SHAPE_CFG_BURST4 : Fld := ⟨226, 26, 6, .rw, 16, true, false⟩
def F.CMP_SHAPE_CFG_RATE4 : Fld := ⟨227, 16, 10, .rw, 64, true, false⟩
def F.CMP_SHAPE_CFG_BURST3 : Fld := ⟨228, 10, 6, .rw, 8, true, false⟩
def F.CMP_SHAPE_CFG_RATE3 : Fld := ⟨229, 0, 10, .rw, 32, true, false⟩
/-! CMP_POLICE_CFG (R216) -/
def F.CMP_POLICE_CFG_EN : Fld := ⟨230, 16, 1, .rw, 1, true, false⟩
def F.CMP_POLICE_CFG_BURST : Fld := ⟨231, 10, 6, .rw, 8, true, false⟩
def F.CMP_POLICE_CFG_RATE : Fld := ⟨232, 0, 10, .rw, 32, true, false⟩
/-! CMP_HOLD_CFG (R216) -/
def F.CMP_HOLD_CFG_DELAY : Fld := ⟨233, 0, 8, .rwe, 24, true, false⟩
/-! CMP_TOKEN_STAT (R216) -/
def F.CMP_TOKEN_STAT_AGE : Fld := ⟨234, 28, 4, .ro, 15, false, false⟩
def F.CMP_TOKEN_STAT_TOK_POL : Fld := ⟨235, 16, 8, .ro, 0, false, false⟩
def F.CMP_TOKEN_STAT_TOK4 : Fld := ⟨236, 8, 8, .ro, 0, false, false⟩
def F.CMP_TOKEN_STAT_TOK3 : Fld := ⟨237, 0, 8, .ro, 0, false, false⟩
/-! CMP_RPL_SENT (R217) -/
def F.CMP_RPL_SENT_SENT : Fld := ⟨238, 0, 32, .ro, 0, false, false⟩
/-! CMP_RPL_CNT (R217) -/
def F.CMP_RPL_CNT_GONE : Fld := ⟨239, 16, 16, .ro, 0, false, false⟩
def F.CMP_RPL_CNT_MALREQ : Fld := ⟨240, 8, 8, .ro, 0, false, false⟩
def F.CMP_RPL_CNT_OVF : Fld := ⟨241, 0, 8, .ro, 0, false, false⟩
/-! CMP_RPL_CNT2 (R217) -/
def F.CMP_RPL_CNT2_ABORT : Fld := ⟨242, 0, 16, .ro, 0, false, false⟩
/-! CMP_HOLD_CNT (R217) -/
def F.CMP_HOLD_CNT_REQ : Fld := ⟨243, 16, 16, .ro, 0, false, false⟩
def F.CMP_HOLD_CNT_OK : Fld := ⟨244, 0, 16, .ro, 0, false, false⟩
/-! CMP_HOLD_CNT2 (R217) -/
def F.CMP_HOLD_CNT2_LATE : Fld := ⟨245, 16, 16, .ro, 0, false, false⟩
def F.CMP_HOLD_CNT2_FAIL : Fld := ⟨246, 0, 16, .ro, 0, false, false⟩
/-! CMP_SLOT_CNT (R217) -/
def F.CMP_SLOT_CNT_PAYBAD : Fld := ⟨247, 16, 16, .ro, 0, false, false⟩
def F.CMP_SLOT_CNT_MALF : Fld := ⟨248, 0, 16, .ro, 0, false, false⟩
/-! CMP_POLICE_CNT (R217) -/
def F.CMP_POLICE_CNT_DROP : Fld := ⟨249, 16, 16, .ro, 0, false, false⟩
def F.CMP_POLICE_CNT_NOTICE : Fld := ⟨250, 0, 16, .ro, 0, false, false⟩
/-! CMP_POLICE_LAST (R217) -/
def F.CMP_POLICE_LAST_MSEQ : Fld := ⟨251, 0, 16, .ro, 0, false, false⟩
/-! CMP_Q_STAT (R217) -/
def F.CMP_Q_STAT_AGE : Fld := ⟨252, 28, 4, .ro, 15, false, false⟩
def F.CMP_Q_STAT_TWM : Fld := ⟨253, 27, 1, .w1c, 0, false, false⟩
def F.CMP_Q_STAT_DWM : Fld := ⟨254, 26, 1, .w1c, 0, false, false⟩
def F.CMP_Q_STAT_DELAY : Fld := ⟨255, 16, 8, .ro, 0, false, false⟩
def F.CMP_Q_STAT_DEPTH : Fld := ⟨256, 0, 13, .ro, 0, false, false⟩
/-! HEAT_CTL (R245) -/
def F.HEAT_CTL_CNT_CLR : Fld := ⟨257, 1, 1, .wo, 0, false, false⟩
def F.HEAT_CTL_REL : Fld := ⟨258, 0, 1, .wo, 0, false, false⟩
/-! HEAT_CFG (R245) -/
def F.HEAT_CFG_AUTO_REL : Fld := ⟨259, 0, 1, .rw, 0, true, false⟩
/-! HEAT_EPOCH_CFG (R245) -/
def F.HEAT_EPOCH_CFG_LEN : Fld := ⟨260, 0, 32, .rw, 100000, true, false⟩
/-! HEAT_STAT (R245) -/
def F.HEAT_STAT_REL_PEND : Fld := ⟨261, 6, 1, .ro, 0, false, false⟩
def F.HEAT_STAT_EXP_BUSY : Fld := ⟨262, 5, 1, .ro, 0, false, false⟩
def F.HEAT_STAT_SWAP_PEND : Fld := ⟨263, 4, 1, .ro, 0, false, false⟩
def F.HEAT_STAT_OSTATE : Fld := ⟨264, 1, 3, .ro, 3, false, false⟩
def F.HEAT_STAT_LIVE : Fld := ⟨265, 0, 1, .ro, 0, false, false⟩
/-! HEAT_EPOCH (R245) -/
def F.HEAT_EPOCH_EPOCH : Fld := ⟨266, 0, 32, .ro, 0, false, false⟩
/-! HEAT_EPOCH_AGE (R245) -/
def F.HEAT_EPOCH_AGE_DRIPS : Fld := ⟨267, 0, 32, .ro, 0, false, false⟩
/-! HEAT_SWAP_CNT (R245) -/
def F.HEAT_SWAP_CNT_SWAPS : Fld := ⟨268, 16, 16, .ro, 0, false, false⟩
def F.HEAT_SWAP_CNT_SWAP_SKIPPED : Fld := ⟨269, 0, 16, .ro, 0, false, false⟩
/-! HEAT_BANK_EPOCH (R245) -/
def F.HEAT_BANK_EPOCH_EPOCH : Fld := ⟨270, 0, 32, .ro, 0, false, true⟩
/-! HEAT_BANK_START_LO (R245) -/
def F.HEAT_BANK_START_LO_START_LO : Fld := ⟨271, 0, 32, .ro, 0, false, false⟩
/-! HEAT_BANK_START_HI (R245) -/
def F.HEAT_BANK_START_HI_START_HI : Fld := ⟨272, 0, 16, .ro, 0, false, false⟩
/-! HEAT_BANK_LEN (R245) -/
def F.HEAT_BANK_LEN_LEN : Fld := ⟨273, 0, 32, .ro, 0, false, false⟩
/-! HEAT_PCTL (R246) -/
def F.HEAT_PCTL_CLR_BUSY : Fld := ⟨274, 2, 1, .ro, 0, false, false⟩
def F.HEAT_PCTL_CLR : Fld := ⟨275, 1, 1, .wo, 0, false, false⟩
def F.HEAT_PCTL_EN : Fld := ⟨276, 0, 1, .rw, 0, false, false⟩
/-! HEAT_PCFG (R246) -/
def F.HEAT_PCFG_LDID : Fld := ⟨277, 16, 4, .rwe, 0, true, false⟩
def F.HEAT_PCFG_LDID_EN : Fld := ⟨278, 15, 1, .rwe, 0, true, false⟩
def F.HEAT_PCFG_EXPORT : Fld := ⟨279, 14, 1, .rwe, 0, true, false⟩
def F.HEAT_PCFG_SPEC : Fld := ⟨280, 13, 1, .rwe, 0, true, false⟩
def F.HEAT_PCFG_REGION : Fld := ⟨281, 8, 5, .rwe, 30, true, false⟩
def F.HEAT_PCFG_SPAN : Fld := ⟨282, 0, 6, .rwe, 48, true, false⟩
/-! HEAT_PBASE (R246) -/
def F.HEAT_PBASE_BASE : Fld := ⟨283, 0, 31, .rwe, 0, true, false⟩
/-! HEAT_PRANGE (R246) -/
def F.HEAT_PRANGE_FIRST : Fld := ⟨284, 0, 18, .rwe, 0, true, false⟩
/-! HEAT_EXP_STAT (R246) -/
def F.HEAT_EXP_STAT_EPOCH : Fld := ⟨285, 24, 8, .ro, 0, false, false⟩
def F.HEAT_EXP_STAT_ACTIVE : Fld := ⟨286, 23, 1, .ro, 0, false, false⟩
def F.HEAT_EXP_STAT_WAIT : Fld := ⟨287, 22, 1, .ro, 0, false, false⟩
def F.HEAT_EXP_STAT_ZPH : Fld := ⟨288, 21, 1, .ro, 0, false, false⟩
def F.HEAT_EXP_STAT_ZWIN : Fld := ⟨289, 16, 4, .ro, 0, false, false⟩
def F.HEAT_EXP_STAT_NEXT : Fld := ⟨290, 0, 13, .ro, 0, false, false⟩
/-! HEAT_EXP_CNT (R246) -/
def F.HEAT_EXP_CNT_DONE : Fld := ⟨291, 16, 16, .ro, 0, false, false⟩
def F.HEAT_EXP_CNT_ABORT : Fld := ⟨292, 0, 16, .ro, 0, false, false⟩
/-! HEAT_PLFSR (R246) -/
def F.HEAT_PLFSR_STATE : Fld := ⟨293, 0, 16, .rw, 44257, false, true⟩
/-! HEAT_LOST (R246) -/
def F.HEAT_LOST_LOST : Fld := ⟨294, 0, 32, .ro, 0, false, false⟩
/-! HEAT_UNMAP (R246) -/
def F.HEAT_UNMAP_UNMAP : Fld := ⟨295, 0, 32, .ro, 0, false, false⟩
/-! HEAT_OPAQUE (R246) -/
def F.HEAT_OPAQUE_OPAQUE : Fld := ⟨296, 0, 32, .ro, 0, false, false⟩
/-! HEAT_FOVF (R246) -/
def F.HEAT_FOVF_FOVF : Fld := ⟨297, 0, 32, .ro, 0, false, false⟩
/-! HEAT_ZCTL (R247) -/
def F.HEAT_ZCTL_CLR_BUSY : Fld := ⟨298, 2, 1, .ro, 0, false, false⟩
def F.HEAT_ZCTL_CLR : Fld := ⟨299, 1, 1, .wo, 0, false, false⟩
def F.HEAT_ZCTL_EN : Fld := ⟨300, 0, 1, .rw, 0, false, false⟩
/-! HEAT_ZCFG (R247) -/
def F.HEAT_ZCFG_EXPORT : Fld := ⟨301, 16, 1, .rwe, 0, true, false⟩
def F.HEAT_ZCFG_GRAN : Fld := ⟨302, 8, 5, .rwe, 12, true, false⟩
def F.HEAT_ZCFG_PORT : Fld := ⟨303, 0, 4, .rwe, 0, true, false⟩
/-! HEAT_ZBASE (R247) -/
def F.HEAT_ZBASE_BASE : Fld := ⟨304, 0, 28, .rwe, 0, true, false⟩
/-! CLK_SRC (R271) -/
def F.CLK_SRC_IREF : Fld := ⟨305, 5, 1, .rwe, 0, true, false⟩
def F.CLK_SRC_OREF : Fld := ⟨306, 4, 1, .rwe, 0, true, false⟩
def F.CLK_SRC_CORE_REF : Fld := ⟨307, 2, 2, .rwe, 0, true, false⟩
def F.CLK_SRC_MGMT : Fld := ⟨308, 1, 1, .rw, 0, false, false⟩
def F.CLK_SRC_SAFE : Fld := ⟨309, 0, 1, .rw, 0, false, false⟩
/-! CLK_STAT (R271) -/
def F.CLK_STAT_REFB_LOSS : Fld := ⟨310, 11, 1, .w1c, 0, false, false⟩
def F.CLK_STAT_REFA_LOSS : Fld := ⟨311, 10, 1, .w1c, 0, false, false⟩
def F.CLK_STAT_XTAL_LOSS : Fld := ⟨312, 9, 1, .w1c, 0, false, false⟩
def F.CLK_STAT_CORE_HELD : Fld := ⟨313, 8, 1, .ro, 0, false, false⟩
def F.CLK_STAT_SAFE_ON : Fld := ⟨314, 7, 1, .ro, 0, false, false⟩
def F.CLK_STAT_MGMT_ON : Fld := ⟨315, 6, 1, .ro, 0, false, false⟩
def F.CLK_STAT_MPLL_LOCK : Fld := ⟨316, 5, 1, .ro, 0, false, false⟩
def F.CLK_STAT_CPLL_LOCK : Fld := ⟨317, 4, 1, .ro, 0, false, false⟩
def F.CLK_STAT_XPLL_LOCK : Fld := ⟨318, 3, 1, .ro, 0, false, false⟩
def F.CLK_STAT_REFB_OK : Fld := ⟨319, 2, 1, .ro, 0, false, false⟩
def F.CLK_STAT_REFA_OK : Fld := ⟨320, 1, 1, .ro, 0, false, false⟩
def F.CLK_STAT_XTAL_OK : Fld := ⟨321, 0, 1, .ro, 0, false, false⟩
/-! CLK_LOSS_CNT (R271) -/
def F.CLK_LOSS_CNT_XTAL : Fld := ⟨322, 16, 8, .ro, 0, false, false⟩
def F.CLK_LOSS_CNT_REFA : Fld := ⟨323, 8, 8, .ro, 0, false, false⟩
def F.CLK_LOSS_CNT_REFB : Fld := ⟨324, 0, 8, .ro, 0, false, false⟩
/-! CLK_CTL (R271) -/
def F.CLK_CTL_CNT_CLR : Fld := ⟨325, 0, 1, .wo, 0, false, false⟩
/-! CLK_FM_CTL (R271) -/
def F.CLK_FM_CTL_START : Fld := ⟨326, 31, 1, .wo, 0, false, false⟩
def F.CLK_FM_CTL_BUSY : Fld := ⟨327, 30, 1, .ro, 0, false, false⟩
def F.CLK_FM_CTL_DONE : Fld := ⟨328, 29, 1, .ro, 0, false, false⟩
def F.CLK_FM_CTL_OVF : Fld := ⟨329, 28, 1, .ro, 0, false, false⟩
def F.CLK_FM_CTL_WIN : Fld := ⟨330, 16, 5, .rw, 20, false, false⟩
def F.CLK_FM_CTL_LSEL : Fld := ⟨331, 8, 7, .rw, 0, false, false⟩
def F.CLK_FM_CTL_TGT : Fld := ⟨332, 4, 4, .rw, 0, false, false⟩
def F.CLK_FM_CTL_REF : Fld := ⟨333, 0, 4, .rw, 1, false, false⟩
/-! CLK_FM_RES (R271) -/
def F.CLK_FM_RES_COUNT : Fld := ⟨334, 0, 32, .ro, 0, false, false⟩
/-! CLK_DRIP_LO (R272) -/
def F.CLK_DRIP_LO_DRIP_LO : Fld := ⟨335, 0, 32, .ro, 0, false, false⟩
/-! CLK_DRIP_HI (R272) -/
def F.CLK_DRIP_HI_NS : Fld := ⟨336, 16, 11, .ro, 0, false, false⟩
def F.CLK_DRIP_HI_DRIP_HI : Fld := ⟨337, 0, 16, .ro, 0, false, false⟩
/-! CLK_TSYNC_CFG (R272) -/
def F.CLK_TSYNC_CFG_MODE : Fld := ⟨338, 30, 2, .rw, 0, true, false⟩
def F.CLK_TSYNC_CFG_BCN_EN : Fld := ⟨339, 29, 1, .rw, 0, true, false⟩
def F.CLK_TSYNC_CFG_SLEW_MAX : Fld := ⟨340, 20, 9, .rwe, 100, true, false⟩
def F.CLK_TSYNC_CFG_DELAY : Fld := ⟨341, 12, 8, .rwe, 0, true, false⟩
def F.CLK_TSYNC_CFG_PERIOD : Fld := ⟨342, 0, 12, .rwe, 1000, true, false⟩
/-! CLK_TSYNC_CTL (R272) -/
def F.CLK_TSYNC_CTL_LOAD : Fld := ⟨343, 0, 1, .wo, 0, false, false⟩
/-! CLK_TSYNC_STAT (R272) -/
def F.CLK_TSYNC_STAT_ERR : Fld := ⟨344, 16, 16, .ro, 0, false, false⟩
def F.CLK_TSYNC_STAT_LOAD_PEND : Fld := ⟨345, 4, 1, .ro, 0, false, false⟩
def F.CLK_TSYNC_STAT_MISS : Fld := ⟨346, 3, 1, .w1c, 0, false, false⟩
def F.CLK_TSYNC_STAT_SRC : Fld := ⟨347, 1, 2, .ro, 0, false, false⟩
def F.CLK_TSYNC_STAT_ALIGNED : Fld := ⟨348, 0, 1, .ro, 0, false, false⟩
/-! CLK_TSYNC_LOAD_LO (R272) -/
def F.CLK_TSYNC_LOAD_LO_LOAD_LO : Fld := ⟨349, 0, 32, .rw, 0, false, false⟩
/-! CLK_TSYNC_LOAD_HI (R272) -/
def F.CLK_TSYNC_LOAD_HI_LOAD_HI : Fld := ⟨350, 0, 16, .rw, 0, false, false⟩
/-! CLK_TSYNC_CNT (R272) -/
def F.CLK_TSYNC_CNT_MISS : Fld := ⟨351, 24, 8, .ro, 0, false, false⟩
def F.CLK_TSYNC_CNT_BSTEP : Fld := ⟨352, 16, 8, .ro, 0, false, false⟩
def F.CLK_TSYNC_CNT_STEP : Fld := ⟨353, 0, 16, .ro, 0, false, false⟩
/-! CLK_SCHED_TGT_LO (R273) -/
def F.CLK_SCHED_TGT_LO_TGT_LO : Fld := ⟨354, 0, 32, .rwe, 0, false, false⟩
/-! CLK_SCHED_TGT_HI (R273) -/
def F.CLK_SCHED_TGT_HI_TGT_HI : Fld := ⟨355, 0, 16, .rwe, 0, false, false⟩
/-! CLK_SCHED_CTL (R273) -/
def F.CLK_SCHED_CTL_CANCEL : Fld := ⟨356, 17, 1, .wo, 0, false, false⟩
def F.CLK_SCHED_CTL_ARM : Fld := ⟨357, 16, 1, .wo, 0, false, false⟩
def F.CLK_SCHED_CTL_ARG : Fld := ⟨358, 8, 8, .rwe, 0, false, false⟩
def F.CLK_SCHED_CTL_ACTION : Fld := ⟨359, 0, 4, .rwe, 0, false, false⟩
/-! CLK_SCHED_STAT (R273) -/
def F.CLK_SCHED_STAT_LATENESS : Fld := ⟨360, 16, 16, .ro, 0, false, false⟩
def F.CLK_SCHED_STAT_FAILQ : Fld := ⟨361, 8, 8, .ro, 0, false, false⟩
def F.CLK_SCHED_STAT_RESULT : Fld := ⟨362, 3, 3, .ro, 0, false, false⟩
def F.CLK_SCHED_STAT_LATE : Fld := ⟨363, 2, 1, .ro, 0, false, false⟩
def F.CLK_SCHED_STAT_STATE : Fld := ⟨364, 0, 2, .ro, 0, false, false⟩
/-! PWR_CTL (R294) -/
def F.PWR_CTL_CAL_RUN : Fld := ⟨365, 8, 8, .wo, 0, false, false⟩
def F.PWR_CTL_CNT_CLR : Fld := ⟨366, 0, 1, .wo, 0, false, false⟩
/-! PWR_STAT (R294) -/
def F.PWR_STAT_VDDH_WARN : Fld := ⟨367, 6, 1, .w1c, 0, false, false⟩
def F.PWR_STAT_VDDA_WARN : Fld := ⟨368, 5, 1, .w1c, 0, false, false⟩
def F.PWR_STAT_VDDC_WARN : Fld := ⟨369, 4, 1, .w1c, 0, false, false⟩
def F.PWR_STAT_PGOOD : Fld := ⟨370, 3, 1, .ro, 1, false, false⟩
def F.PWR_STAT_VDDH_OK : Fld := ⟨371, 2, 1, .ro, 1, false, false⟩
def F.PWR_STAT_VDDA_OK : Fld := ⟨372, 1, 1, .ro, 1, false, false⟩
def F.PWR_STAT_VDDC_OK : Fld := ⟨373, 0, 1, .ro, 1, false, false⟩
/-! PWR_VMON0 (R294) -/
def F.PWR_VMON0_VDDA : Fld := ⟨374, 16, 16, .ro, 0, false, false⟩
def F.PWR_VMON0_VDDC : Fld := ⟨375, 0, 16, .ro, 0, false, false⟩
/-! PWR_VMON1 (R294) -/
def F.PWR_VMON1_VDDH : Fld := ⟨376, 0, 16, .ro, 0, false, false⟩
/-! PWR_AVS_CFG (R294) -/
def F.PWR_AVS_CFG_EN : Fld := ⟨377, 30, 1, .rw, 0, true, false⟩
def F.PWR_AVS_CFG_SAFE : Fld := ⟨378, 20, 10, .rwe, 850, true, false⟩
def F.PWR_AVS_CFG_VMAX : Fld := ⟨379, 10, 10, .rwe, 850, true, false⟩
def F.PWR_AVS_CFG_VMIN : Fld := ⟨380, 0, 10, .rwe, 700, true, false⟩
/-! PWR_AVS_STAT (R294) -/
def F.PWR_AVS_STAT_HELD : Fld := ⟨381, 21, 1, .ro, 0, false, false⟩
def F.PWR_AVS_STAT_FAULT : Fld := ⟨382, 20, 1, .w1c, 0, false, false⟩
def F.PWR_AVS_STAT_TARGET : Fld := ⟨383, 10, 10, .ro, 0, false, false⟩
def F.PWR_AVS_STAT_CMD : Fld := ⟨384, 0, 10, .ro, 0, false, false⟩
/-! PWR_DOM_STAT (R294) -/
def F.PWR_DOM_STAT_SEC_DEFER : Fld := ⟨385, 11, 1, .ro, 0, false, false⟩
def F.PWR_DOM_STAT_SEC_GATED : Fld := ⟨386, 10, 1, .ro, 0, false, false⟩
def F.PWR_DOM_STAT_SGATED : Fld := ⟨387, 8, 2, .ro, 3, false, false⟩
def F.PWR_DOM_STAT_QGATED : Fld := ⟨388, 0, 8, .ro, 255, false, false⟩
/-! PWR_TEMP (R295) -/
def F.PWR_TEMP_MAX : Fld := ⟨389, 16, 11, .ro, 1024, false, false⟩
def F.PWR_TEMP_TEMP : Fld := ⟨390, 0, 11, .ro, 0, false, false⟩
/-! PWR_THERM_CFG (R295) -/
def F.PWR_THERM_CFG_HYST : Fld := ⟨391, 16, 4, .rw, 5, true, false⟩
def F.PWR_THERM_CFG_HIGH : Fld := ⟨392, 8, 8, .rw, 150, true, false⟩
def F.PWR_THERM_CFG_WARN : Fld := ⟨393, 0, 8, .rw, 140, true, false⟩
/-! PWR_THERM_STAT (R295) -/
def F.PWR_THERM_STAT_TRIP_NOW : Fld := ⟨394, 21, 1, .ro, 0, false, false⟩
def F.PWR_THERM_STAT_HIGH_NOW : Fld := ⟨395, 20, 1, .ro, 0, false, false⟩
def F.PWR_THERM_STAT_WARN_NOW : Fld := ⟨396, 19, 1, .ro, 0, false, false⟩
def F.PWR_THERM_STAT_TRIP : Fld := ⟨397, 18, 1, .w1c, 0, false, false⟩
def F.PWR_THERM_STAT_HIGH : Fld := ⟨398, 17, 1, .w1c, 0, false, false⟩
def F.PWR_THERM_STAT_WARN : Fld := ⟨399, 16, 1, .w1c, 0, false, false⟩
def F.PWR_THERM_STAT_HOT : Fld := ⟨400, 12, 4, .ro, 0, false, false⟩
def F.PWR_THERM_STAT_TMAX : Fld := ⟨401, 0, 11, .ro, 0, false, false⟩
/-! PWR_CAL_CFG (R296) -/
def F.PWR_CAL_CFG_GRAD : Fld := ⟨402, 12, 2, .rwe, 0, true, false⟩
def F.PWR_CAL_CFG_DT : Fld := ⟨403, 4, 8, .rwe, 8, true, false⟩
def F.PWR_CAL_CFG_AUTO : Fld := ⟨404, 0, 1, .rw, 1, true, false⟩
/-! PWR_ZREF_STAT (R296) -/
def F.PWR_ZREF_STAT_FAULT : Fld := ⟨405, 16, 1, .ro, 0, false, false⟩
def F.PWR_ZREF_STAT_OHMS : Fld := ⟨406, 0, 16, .ro, 0, false, false⟩
/-! PWR_CNT (R296) -/
def F.PWR_CNT_LEG_FAIL : Fld := ⟨407, 24, 8, .ro, 0, false, false⟩
def F.PWR_CNT_SLICE_FAIL : Fld := ⟨408, 16, 8, .ro, 0, false, false⟩
def F.PWR_CNT_RUNS : Fld := ⟨409, 0, 16, .ro, 0, false, false⟩
/-! PWR_CAL_STAT (R296) -/
def F.PWR_CAL_STAT_TREF : Fld := ⟨410, 16, 11, .ro, 0, false, false⟩
def F.PWR_CAL_STAT_LEN : Fld := ⟨411, 4, 12, .ro, 0, false, false⟩
def F.PWR_CAL_STAT_GRADUAL : Fld := ⟨412, 3, 1, .ro, 0, false, false⟩
def F.PWR_CAL_STAT_PEND : Fld := ⟨413, 2, 1, .ro, 0, false, false⟩
def F.PWR_CAL_STAT_STATE : Fld := ⟨414, 0, 2, .ro, 0, false, false⟩
/-! PWR_TXSTOP_O (R296) -/
def F.PWR_TXSTOP_O_LANES : Fld := ⟨415, 0, 32, .ro, 0, false, false⟩
/-! PWR_TXSTOP_I (R296) -/
def F.PWR_TXSTOP_I_LANES : Fld := ⟨416, 0, 32, .ro, 0, false, false⟩
/-! PWR_TXSTOP_S (R296) -/
def F.PWR_TXSTOP_S_SPARES : Fld := ⟨417, 0, 2, .ro, 0, false, false⟩
/-! MGMT_CTL (R328) -/
def F.MGMT_CTL_CNT_CLR : Fld := ⟨418, 0, 1, .wo, 0, false, false⟩
/-! MGMT_STAT (R328) -/
def F.MGMT_STAT_SMB_PEND : Fld := ⟨419, 2, 1, .ro, 0, false, false⟩
def F.MGMT_STAT_BUS_MODE : Fld := ⟨420, 1, 1, .ro, 0, false, false⟩
def F.MGMT_STAT_LRUN : Fld := ⟨421, 0, 1, .ro, 0, false, false⟩
/-! MGMT_BUS_CFG (R328) -/
def F.MGMT_BUS_CFG_I2C_DIS : Fld := ⟨422, 1, 1, .rw, 0, true, false⟩
def F.MGMT_BUS_CFG_PEC_REQ : Fld := ⟨423, 0, 1, .rw, 1, true, false⟩
/-! MGMT_BUS_STAT (R328) -/
def F.MGMT_BUS_STAT_EID : Fld := ⟨424, 24, 8, .ro, 0, false, false⟩
def F.MGMT_BUS_STAT_DA_VALID : Fld := ⟨425, 23, 1, .ro, 0, false, false⟩
def F.MGMT_BUS_STAT_DYN_ADDR : Fld := ⟨426, 16, 7, .ro, 0, false, false⟩
def F.MGMT_BUS_STAT_STATIC_ADDR : Fld := ⟨427, 0, 7, .ro, 88, false, true⟩
/-! MGMT_ACL_MCTP (R328) -/
def F.MGMT_ACL_MCTP_VIEWS : Fld := ⟨428, 0, 17, .rw, 131071, true, false⟩
/-! MGMT_ACL_CSB (R328) -/
def F.MGMT_ACL_CSB_VIEWS : Fld := ⟨429, 0, 17, .rw, 131071, true, false⟩
/-! MGMT_VDM_ID (R328) -/
def F.MGMT_VDM_ID_PEN : Fld := ⟨430, 0, 32, .ro, 112581, false, false⟩
/-! MGMT_CNT (R328) -/
def F.MGMT_CNT_NOVIEW : Fld := ⟨431, 16, 16, .ro, 0, false, false⟩
def F.MGMT_CNT_BADHDR : Fld := ⟨432, 0, 16, .ro, 0, false, false⟩
/-! MGMT_SEC_STAT (R328) -/
def F.MGMT_SEC_STAT_SPDM : Fld := ⟨433, 4, 2, .ro, 0, false, false⟩
def F.MGMT_SEC_STAT_SEC_HOLD : Fld := ⟨434, 3, 1, .ro, 0, false, false⟩
def F.MGMT_SEC_STAT_CERT0_OK : Fld := ⟨435, 2, 1, .ro, 0, false, false⟩
def F.MGMT_SEC_STAT_KEY_OK : Fld := ⟨436, 1, 1, .ro, 0, false, false⟩
def F.MGMT_SEC_STAT_SEC_RUN : Fld := ⟨437, 0, 1, .ro, 0, false, false⟩
/-! MGMT_SEC_CNT (R328) -/
def F.MGMT_SEC_CNT_VIOL : Fld := ⟨438, 24, 8, .ro, 0, false, false⟩
def F.MGMT_SEC_CNT_MEAS : Fld := ⟨439, 12, 12, .ro, 0, false, false⟩
def F.MGMT_SEC_CNT_CHAL : Fld := ⟨440, 0, 12, .ro, 0, false, false⟩
/-! MGMT_VIEW_CTL (R329) -/
def F.MGMT_VIEW_CTL_RING_RST : Fld := ⟨441, 7, 1, .wo, 0, false, false⟩
def F.MGMT_VIEW_CTL_RESTORE : Fld := ⟨442, 6, 1, .wo, 0, false, false⟩
def F.MGMT_VIEW_CTL_SAVE : Fld := ⟨443, 5, 1, .wo, 0, false, false⟩
def F.MGMT_VIEW_CTL_CNT_CLR : Fld := ⟨444, 4, 1, .wo, 0, false, false⟩
def F.MGMT_VIEW_CTL_FREEZE : Fld := ⟨445, 1, 1, .rw, 0, false, false⟩
def F.MGMT_VIEW_CTL_EN : Fld := ⟨446, 0, 1, .rw, 1, true, false⟩
/-! MGMT_VIEW_STAT (R329) -/
def F.MGMT_VIEW_STAT_INPROG : Fld := ⟨447, 9, 1, .ro, 0, false, false⟩
def F.MGMT_VIEW_STAT_RST_ERR : Fld := ⟨448, 8, 1, .ro, 0, false, false⟩
def F.MGMT_VIEW_STAT_RST_OK : Fld := ⟨449, 7, 1, .ro, 0, false, false⟩
def F.MGMT_VIEW_STAT_SAVED : Fld := ⟨450, 6, 1, .ro, 0, false, false⟩
def F.MGMT_VIEW_STAT_BLOB_BUSY : Fld := ⟨451, 5, 1, .ro, 0, false, false⟩
def F.MGMT_VIEW_STAT_FROZEN : Fld := ⟨452, 4, 1, .ro, 0, false, false⟩
def F.MGMT_VIEW_STAT_GAP_SENT : Fld := ⟨453, 3, 1, .ro, 0, false, false⟩
def F.MGMT_VIEW_STAT_RSP_FULL : Fld := ⟨454, 2, 1, .ro, 0, false, false⟩
def F.MGMT_VIEW_STAT_REQ_FULL : Fld := ⟨455, 1, 1, .ro, 0, false, false⟩
def F.MGMT_VIEW_STAT_PRESENT : Fld := ⟨456, 0, 1, .ro, 0, false, false⟩
/-! MGMT_VIEW_SEQ (R329) -/
def F.MGMT_VIEW_SEQ_RSEQ_NEXT : Fld := ⟨457, 16, 16, .ro, 0, false, false⟩
def F.MGMT_VIEW_SEQ_QSEQ_NEXT : Fld := ⟨458, 0, 16, .ro, 0, false, false⟩
/-! MGMT_VIEW_PTR (R329) -/
def F.MGMT_VIEW_PTR_RSP_TX : Fld := ⟨459, 24, 7, .ro, 0, false, false⟩
def F.MGMT_VIEW_PTR_RSP_WR : Fld := ⟨460, 16, 7, .ro, 0, false, false⟩
def F.MGMT_VIEW_PTR_REQ_RD : Fld := ⟨461, 8, 7, .ro, 0, false, false⟩
def F.MGMT_VIEW_PTR_REQ_WR : Fld := ⟨462, 0, 7, .ro, 0, false, false⟩
/-! MGMT_VIEW_POL (R329) -/
def F.MGMT_VIEW_POL_EN : Fld := ⟨463, 16, 1, .rw, 1, true, true⟩
def F.MGMT_VIEW_POL_BURST : Fld := ⟨464, 10, 6, .rw, 32, true, false⟩
def F.MGMT_VIEW_POL_RATE : Fld := ⟨465, 0, 10, .rw, 16, true, false⟩
/-! MGMT_VIEW_CNT (R329) -/
def F.MGMT_VIEW_CNT_SENT : Fld := ⟨466, 16, 16, .ro, 0, false, false⟩
def F.MGMT_VIEW_CNT_ACCEPTED : Fld := ⟨467, 0, 16, .ro, 0, false, false⟩
/-! MGMT_VIEW_CNT2 (R329) -/
def F.MGMT_VIEW_CNT2_POLICED : Fld := ⟨468, 24, 8, .ro, 0, false, false⟩
def F.MGMT_VIEW_CNT2_OOS : Fld := ⟨469, 16, 8, .ro, 0, false, false⟩
def F.MGMT_VIEW_CNT2_FULL : Fld := ⟨470, 8, 8, .ro, 0, false, false⟩
def F.MGMT_VIEW_CNT2_RSP_DROP : Fld := ⟨471, 0, 8, .ro, 0, false, false⟩
/-! MGMT_VIEW_CNT3 (R329) -/
def F.MGMT_VIEW_CNT3_CRC : Fld := ⟨472, 24, 8, .ro, 0, false, false⟩
def F.MGMT_VIEW_CNT3_DENIED : Fld := ⟨473, 16, 8, .ro, 0, false, false⟩
def F.MGMT_VIEW_CNT3_BUSY : Fld := ⟨474, 8, 8, .ro, 0, false, false⟩
def F.MGMT_VIEW_CNT3_ABORTED : Fld := ⟨475, 0, 8, .ro, 0, false, false⟩
/-! MGMT_VIEW_LAST (R329) -/
def F.MGMT_VIEW_LAST_POL_SEQ : Fld := ⟨476, 16, 16, .ro, 0, false, false⟩
def F.MGMT_VIEW_LAST_INPROG_SEQ : Fld := ⟨477, 0, 16, .ro, 0, false, false⟩
/-! MGMT_VIEW_BLOB (R329) -/
def F.MGMT_VIEW_BLOB_WORD : Fld := ⟨478, 0, 32, .rw, 0, false, false⟩
/-! BOOT_STAT (R365) -/
def F.BOOT_STAT_STAGE : Fld := ⟨479, 24, 4, .ro, 1, false, false⟩
def F.BOOT_STAT_BOOTSEL : Fld := ⟨480, 22, 2, .ro, 0, false, true⟩
def F.BOOT_STAT_RECOV : Fld := ⟨481, 21, 1, .ro, 0, false, false⟩
def F.BOOT_STAT_DBG_LOCK : Fld := ⟨482, 20, 1, .ro, 0, false, false⟩
def F.BOOT_STAT_SV_TRIAL : Fld := ⟨483, 3, 1, .ro, 0, false, false⟩
def F.BOOT_STAT_FW_TRIAL : Fld := ⟨484, 2, 1, .ro, 0, false, false⟩
def F.BOOT_STAT_SV_BANK : Fld := ⟨485, 1, 1, .ro, 0, false, false⟩
def F.BOOT_STAT_FW_BANK : Fld := ⟨486, 0, 1, .ro, 0, false, false⟩
/-! BOOT_ERR (R365) -/
def F.BOOT_ERR_COMP : Fld := ⟨487, 9, 1, .ro, 0, false, false⟩
def F.BOOT_ERR_BANK : Fld := ⟨488, 8, 1, .ro, 0, false, false⟩
def F.BOOT_ERR_CODE : Fld := ⟨489, 0, 8, .ro, 0, false, false⟩
/-! BOOT_BANK (R365) -/
def F.BOOT_BANK_SV_B : Fld := ⟨490, 12, 4, .ro, 0, false, false⟩
def F.BOOT_BANK_SV_A : Fld := ⟨491, 8, 4, .ro, 0, false, false⟩
def F.BOOT_BANK_FW_B : Fld := ⟨492, 4, 4, .ro, 0, false, false⟩
def F.BOOT_BANK_FW_A : Fld := ⟨493, 0, 4, .ro, 0, false, false⟩
/-! BOOT_FW_VER_A (R365) -/
def F.BOOT_FW_VER_A_VERSION : Fld := ⟨494, 0, 32, .ro, 0, false, false⟩
/-! BOOT_FW_VER_B (R365) -/
def F.BOOT_FW_VER_B_VERSION : Fld := ⟨495, 0, 32, .ro, 0, false, false⟩
/-! BOOT_SV_VER_A (R365) -/
def F.BOOT_SV_VER_A_VERSION : Fld := ⟨496, 0, 32, .ro, 0, false, false⟩
/-! BOOT_SV_VER_B (R365) -/
def F.BOOT_SV_VER_B_VERSION : Fld := ⟨497, 0, 32, .ro, 0, false, false⟩
/-! BOOT_TIME (R365) -/
def F.BOOT_TIME_TIME : Fld := ⟨498, 0, 32, .ro, 0, false, false⟩
/-! BOOT_SPI_CFG (R366) -/
def F.BOOT_SPI_CFG_IO : Fld := ⟨499, 8, 2, .ro, 0, false, false⟩
def F.BOOT_SPI_CFG_DIV : Fld := ⟨500, 0, 8, .ro, 10, false, false⟩
/-! BOOT_SPI_STAT (R366) -/
def F.BOOT_SPI_STAT_REFUSED : Fld := ⟨501, 16, 16, .ro, 0, false, false⟩
def F.BOOT_SPI_STAT_ADDR4 : Fld := ⟨502, 2, 1, .ro, 0, false, false⟩
def F.BOOT_SPI_STAT_FBUSY : Fld := ⟨503, 1, 1, .ro, 0, false, false⟩
def F.BOOT_SPI_STAT_MMAP : Fld := ⟨504, 0, 1, .ro, 0, false, false⟩
/-! BOOT_FLASH_ID (R366) -/
def F.BOOT_FLASH_ID_DENS : Fld := ⟨505, 24, 8, .ro, 0, false, false⟩
def F.BOOT_FLASH_ID_JEDEC : Fld := ⟨506, 0, 24, .ro, 0, false, false⟩
/-! BOOT_UPD_CFG (R367) -/
def F.BOOT_UPD_CFG_AUTO_CONF : Fld := ⟨507, 24, 1, .rw, 1, true, false⟩
def F.BOOT_UPD_CFG_SOAK : Fld := ⟨508, 16, 8, .rw, 10, true, false⟩
def F.BOOT_UPD_CFG_ACT_DELAY : Fld := ⟨509, 0, 16, .rw, 1000, true, false⟩
/-! BOOT_UPD_CTL (R367) -/
def F.BOOT_UPD_CTL_CNT_CLR : Fld := ⟨510, 4, 1, .wo, 0, false, false⟩
def F.BOOT_UPD_CTL_CONTINUE : Fld := ⟨511, 3, 1, .wo, 0, false, false⟩
def F.BOOT_UPD_CTL_REACT : Fld := ⟨512, 2, 1, .wo, 0, false, false⟩
def F.BOOT_UPD_CTL_REVERT : Fld := ⟨513, 1, 1, .wo, 0, false, false⟩
def F.BOOT_UPD_CTL_CONFIRM : Fld := ⟨514, 0, 1, .wo, 0, false, false⟩
/-! BOOT_UPD_STAT (R367) -/
def F.BOOT_UPD_STAT_CONF_LEFT : Fld := ⟨515, 26, 6, .ro, 0, false, false⟩
def F.BOOT_UPD_STAT_NOTCONF : Fld := ⟨516, 25, 1, .w1c, 0, false, false⟩
def F.BOOT_UPD_STAT_WINDOW : Fld := ⟨517, 24, 1, .ro, 0, false, false⟩
def F.BOOT_UPD_STAT_PSTATE : Fld := ⟨518, 20, 4, .ro, 0, false, false⟩
def F.BOOT_UPD_STAT_COMP : Fld := ⟨519, 18, 2, .ro, 0, false, false⟩
def F.BOOT_UPD_STAT_BANK : Fld := ⟨520, 17, 1, .ro, 0, false, false⟩
def F.BOOT_UPD_STAT_LAST_RES : Fld := ⟨521, 8, 8, .ro, 0, false, false⟩
/-! BOOT_UPD_CNT (R367) -/
def F.BOOT_UPD_CNT_REVERTS : Fld := ⟨522, 24, 8, .ro, 0, false, false⟩
def F.BOOT_UPD_CNT_CONFIRMS : Fld := ⟨523, 16, 8, .ro, 0, false, false⟩
def F.BOOT_UPD_CNT_ABORTS : Fld := ⟨524, 8, 8, .ro, 0, false, false⟩
def F.BOOT_UPD_CNT_APPLIED : Fld := ⟨525, 0, 8, .ro, 0, false, false⟩
/-! BOOT_LOG_STAT (R367) -/
def F.BOOT_LOG_STAT_TORN : Fld := ⟨526, 24, 8, .ro, 0, false, false⟩
def F.BOOT_LOG_STAT_FREE : Fld := ⟨527, 12, 12, .ro, 0, false, false⟩
def F.BOOT_LOG_STAT_AREA : Fld := ⟨528, 0, 1, .ro, 0, false, false⟩
/-! GLB_TALLY (R369) -/
def F.GLB_TALLY_VALUE : Fld := ⟨529, 0, 32, .ro, 0, false, false⟩
/-! GLB_TALLY_REF (R369) -/
def F.GLB_TALLY_REF_REF : Fld := ⟨530, 0, 32, .ro, 0, false, false⟩
/-! GLB_TALLY_STAGE (R369) -/
def F.GLB_TALLY_STAGE_STAGE : Fld := ⟨531, 0, 32, .rw, 0, false, false⟩
/-! GLB_TALLY_CTL (R369) -/
def F.GLB_TALLY_CTL_SUSP : Fld := ⟨532, 2, 1, .rw, 0, false, false⟩
def F.GLB_TALLY_CTL_ADOPT : Fld := ⟨533, 1, 1, .wo, 0, false, false⟩
def F.GLB_TALLY_CTL_COMMIT : Fld := ⟨534, 0, 1, .wo, 0, false, false⟩
/-! GLB_TALLY_STAT (R369) -/
def F.GLB_TALLY_STAT_COMMIT_FAIL : Fld := ⟨535, 3, 1, .w1c, 0, false, false⟩
def F.GLB_TALLY_STAT_REF_VALID : Fld := ⟨536, 2, 1, .ro, 0, false, false⟩
def F.GLB_TALLY_STAT_MISM : Fld := ⟨537, 1, 1, .w1c, 0, false, false⟩
def F.GLB_TALLY_STAT_MATCH_NOW : Fld := ⟨538, 0, 1, .ro, 0, false, false⟩
/-! GLB_TALLY_CDRIP_LO (R369) -/
def F.GLB_TALLY_CDRIP_LO_DRIP_LO : Fld := ⟨539, 0, 32, .ro, 0, false, false⟩
/-! GLB_TALLY_CDRIP_HI (R369) -/
def F.GLB_TALLY_CDRIP_HI_DRIP_HI : Fld := ⟨540, 0, 16, .ro, 0, false, false⟩
/-! GLB_TALLY_SNAP (R369) -/
def F.GLB_TALLY_SNAP_SNAP : Fld := ⟨541, 0, 32, .ro, 0, false, false⟩
/-! GLB_TALLY_SNAP_DRIP_LO (R369) -/
def F.GLB_TALLY_SNAP_DRIP_LO_DRIP_LO : Fld := ⟨542, 0, 32, .ro, 0, false, false⟩
/-! GLB_TALLY_SNAP_DRIP_HI (R369) -/
def F.GLB_TALLY_SNAP_DRIP_HI_DRIP_HI : Fld := ⟨543, 0, 16, .ro, 0, false, false⟩
/-! SUMP_CTL (R393) -/
def F.SUMP_CTL_AVAIL_CLR : Fld := ⟨544, 1, 1, .wo, 0, false, false⟩
def F.SUMP_CTL_CNT_CLR : Fld := ⟨545, 0, 1, .wo, 0, false, false⟩
/-! SUMP_STAT (R393) -/
def F.SUMP_STAT_NSEV : Fld := ⟨546, 8, 8, .ro, 0, false, false⟩
def F.SUMP_STAT_IRQ : Fld := ⟨547, 4, 1, .ro, 0, false, false⟩
def F.SUMP_STAT_FAULT : Fld := ⟨548, 3, 1, .ro, 0, false, false⟩
def F.SUMP_STAT_ALIVE_RUN : Fld := ⟨549, 2, 1, .ro, 0, false, false⟩
def F.SUMP_STAT_QUIESCED : Fld := ⟨550, 1, 1, .ro, 0, false, false⟩
def F.SUMP_STAT_SAFE : Fld := ⟨551, 0, 1, .ro, 0, false, false⟩
/-! SUMP_FORCE (R393) -/
def F.SUMP_FORCE_DETAIL : Fld := ⟨552, 16, 8, .wo, 0, false, false⟩
def F.SUMP_FORCE_INST : Fld := ⟨553, 8, 8, .wo, 0, false, false⟩
def F.SUMP_FORCE_SRC : Fld := ⟨554, 0, 7, .wo, 0, false, false⟩
/-! SUMP_CLR (R393) -/
def F.SUMP_CLR_ALL : Fld := ⟨555, 7, 1, .wo, 0, false, false⟩
def F.SUMP_CLR_SRC : Fld := ⟨556, 0, 7, .wo, 0, false, false⟩
/-! SUMP_PEND (R393) -/
def F.SUMP_PEND_PEND : Fld := ⟨557, 0, 32, .w1c, 0, false, false⟩
/-! SUMP_SEV (R393) -/
def F.SUMP_SEV_SEV : Fld := ⟨558, 0, 32, .ro, 0, false, false⟩
/-! SUMP_QSTOP_CFG (R393) -/
def F.SUMP_QSTOP_CFG_DISC : Fld := ⟨559, 0, 8, .rwl, 20, true, false⟩
/-! SUMP_QSTOP_STAT (R393) -/
def F.SUMP_QSTOP_STAT_DISAG : Fld := ⟨560, 3, 1, .ro, 0, false, false⟩
def F.SUMP_QSTOP_STAT_QUIESCED : Fld := ⟨561, 2, 1, .ro, 0, false, false⟩
def F.SUMP_QSTOP_STAT_B : Fld := ⟨562, 1, 1, .ro, 0, false, false⟩
def F.SUMP_QSTOP_STAT_A : Fld := ⟨563, 0, 1, .ro, 0, false, false⟩
/-! SUMP_QSTOP_CNT (R393) -/
def F.SUMP_QSTOP_CNT_QUIESCE : Fld := ⟨564, 16, 16, .ro, 0, false, false⟩
def F.SUMP_QSTOP_CNT_SHORT : Fld := ⟨565, 0, 16, .ro, 0, false, false⟩
/-! SUMP_LWDOG_CFG (R393) -/
def F.SUMP_LWDOG_CFG_TMO : Fld := ⟨566, 0, 16, .rwl, 250, true, false⟩
/-! SUMP_LWDOG_CTL (R393) -/
def F.SUMP_LWDOG_CTL_KICK : Fld := ⟨567, 0, 1, .wo, 0, false, false⟩
/-! SUMP_LWDOG_STAT (R393) -/
def F.SUMP_LWDOG_STAT_EXP : Fld := ⟨568, 24, 8, .ro, 0, false, false⟩
def F.SUMP_LWDOG_STAT_RUN : Fld := ⟨569, 16, 1, .ro, 0, false, false⟩
def F.SUMP_LWDOG_STAT_AGE : Fld := ⟨570, 0, 16, .ro, 0, false, false⟩
/-! SUMP_ECC_CFG (R394) -/
def F.SUMP_ECC_CFG_LAP_WM : Fld := ⟨571, 16, 16, .rw, 1000, true, false⟩
def F.SUMP_ECC_CFG_LEAK : Fld := ⟨572, 8, 8, .rw, 60, true, false⟩
def F.SUMP_ECC_CFG_THR : Fld := ⟨573, 0, 8, .rw, 16, true, false⟩
/-! SUMP_ECC_STAT (R394) -/
def F.SUMP_ECC_STAT_CE : Fld := ⟨574, 20, 12, .ro, 0, false, false⟩
def F.SUMP_ECC_STAT_UE : Fld := ⟨575, 12, 8, .ro, 0, false, false⟩
def F.SUMP_ECC_STAT_LEVEL : Fld := ⟨576, 4, 8, .ro, 0, false, false⟩
def F.SUMP_ECC_STAT_SLOW : Fld := ⟨577, 1, 1, .w1c, 0, false, false⟩
def F.SUMP_ECC_STAT_OVF : Fld := ⟨578, 0, 1, .w1c, 0, false, false⟩
/-! SUMP_ECC_LAST (R394) -/
def F.SUMP_ECC_LAST_UE : Fld := ⟨579, 31, 1, .ro, 0, false, false⟩
def F.SUMP_ECC_LAST_WORD : Fld := ⟨580, 0, 24, .ro, 0, false, false⟩
/-! SUMP_SCRUB_LAP (R394) -/
def F.SUMP_SCRUB_LAP_LAP : Fld := ⟨581, 0, 32, .ro, 0, false, false⟩
/-! SUMP_SCRUB_AGE (R394) -/
def F.SUMP_SCRUB_AGE_AGE : Fld := ⟨582, 0, 32, .ro, 0, false, false⟩
/-! SUMP_ATTR_DOWN (R394) -/
def F.SUMP_ATTR_DOWN_DRIPS : Fld := ⟨583, 0, 32, .ro, 0, false, false⟩
/-! SUMP_SRC_CFG (R395) -/
def F.SUMP_SRC_CFG_W : Fld := ⟨584, 16, 16, .rwl, 0, true, true⟩
def F.SUMP_SRC_CFG_WUNIT : Fld := ⟨585, 15, 1, .rwl, 0, true, true⟩
def F.SUMP_SRC_CFG_REACT : Fld := ⟨586, 13, 2, .rwl, 0, true, true⟩
def F.SUMP_SRC_CFG_FLT : Fld := ⟨587, 12, 1, .rwl, 0, true, true⟩
def F.SUMP_SRC_CFG_IRQ : Fld := ⟨588, 10, 2, .rwl, 0, true, true⟩
def F.SUMP_SRC_CFG_N : Fld := ⟨589, 0, 8, .rwl, 0, true, true⟩
/-! SUMP_SRC_STAT (R395) -/
def F.SUMP_SRC_STAT_COUNT : Fld := ⟨590, 24, 8, .ro, 0, false, false⟩
def F.SUMP_SRC_STAT_TOTAL : Fld := ⟨591, 8, 16, .ro, 0, false, false⟩
def F.SUMP_SRC_STAT_WIREF : Fld := ⟨592, 7, 1, .ro, 0, false, false⟩
def F.SUMP_SRC_STAT_CAUSE : Fld := ⟨593, 6, 1, .ro, 0, false, false⟩
def F.SUMP_SRC_STAT_HELD : Fld := ⟨594, 5, 1, .ro, 0, false, false⟩
def F.SUMP_SRC_STAT_STATE : Fld := ⟨595, 0, 2, .ro, 0, false, false⟩
/-! SUMP_CAP_INFO (R395) -/
def F.SUMP_CAP_INFO_DRIP_HI : Fld := ⟨596, 16, 16, .ro, 0, false, false⟩
def F.SUMP_CAP_INFO_FORCED : Fld := ⟨597, 15, 1, .ro, 0, false, false⟩
def F.SUMP_CAP_INFO_DETAIL : Fld := ⟨598, 8, 7, .ro, 0, false, false⟩
def F.SUMP_CAP_INFO_INST : Fld := ⟨599, 0, 8, .ro, 0, false, false⟩
/-! SUMP_CAP_DRIP (R395) -/
def F.SUMP_CAP_DRIP_DRIP_LO : Fld := ⟨600, 0, 32, .ro, 0, false, false⟩
/-! GLB_ID (R414) -/
def F.GLB_ID_DEVICE : Fld := ⟨601, 16, 16, .ro, 12852, false, false⟩
def F.GLB_ID_STEP_MAJ : Fld := ⟨602, 12, 4, .ro, 1, false, false⟩
def F.GLB_ID_STEP_MIN : Fld := ⟨603, 8, 4, .ro, 0, false, false⟩
def F.GLB_ID_PKG : Fld := ⟨604, 0, 8, .ro, 1, false, false⟩
/-! GLB_UID_LO (R414) -/
def F.GLB_UID_LO_UID_LO : Fld := ⟨605, 0, 32, .ro, 0, false, true⟩
/-! GLB_UID_HI (R414) -/
def F.GLB_UID_HI_UID_HI : Fld := ⟨606, 0, 32, .ro, 0, false, true⟩
/-! GLB_RST (R414) -/
def F.GLB_RST_LANTERN : Fld := ⟨607, 1, 1, .wo, 0, false, false⟩
def F.GLB_RST_DEVICE : Fld := ⟨608, 0, 1, .wo, 0, false, false⟩
/-! GLB_RST_CAUSE (R415) -/
def F.GLB_RST_CAUSE_PORT : Fld := ⟨609, 16, 16, .w1c, 0, false, false⟩
def F.GLB_RST_CAUSE_LAN_REG : Fld := ⟨610, 5, 1, .w1c, 0, false, false⟩
def F.GLB_RST_CAUSE_LAN_WDOG : Fld := ⟨611, 4, 1, .w1c, 0, false, false⟩
def F.GLB_RST_CAUSE_LAN_ACT : Fld := ⟨612, 3, 1, .w1c, 0, false, false⟩
def F.GLB_RST_CAUSE_DEVICE : Fld := ⟨613, 2, 1, .w1c, 0, false, false⟩
def F.GLB_RST_CAUSE_PIN : Fld := ⟨614, 1, 1, .w1c, 0, false, false⟩
def F.GLB_RST_CAUSE_POR : Fld := ⟨615, 0, 1, .w1c, 1, false, false⟩
/-! GLB_BIFUR (R416) -/
def F.GLB_BIFUR_QUAD7 : Fld := ⟨616, 21, 3, .rwe, 0, true, false⟩
def F.GLB_BIFUR_QUAD6 : Fld := ⟨617, 18, 3, .rwe, 0, true, false⟩
def F.GLB_BIFUR_QUAD5 : Fld := ⟨618, 15, 3, .rwe, 0, true, false⟩
def F.GLB_BIFUR_QUAD4 : Fld := ⟨619, 12, 3, .rwe, 0, true, false⟩
def F.GLB_BIFUR_QUAD3 : Fld := ⟨620, 9, 3, .rwe, 0, true, false⟩
def F.GLB_BIFUR_QUAD2 : Fld := ⟨621, 6, 3, .rwe, 0, true, false⟩
def F.GLB_BIFUR_QUAD1 : Fld := ⟨622, 3, 3, .rwe, 0, true, false⟩
def F.GLB_BIFUR_QUAD0 : Fld := ⟨623, 0, 3, .rwe, 0, true, false⟩
/-! GLB_MODE (R416) -/
def F.GLB_MODE_COMPAT_EN : Fld := ⟨624, 0, 1, .rwl, 0, true, false⟩
/-! GLB_LOCK (R416) -/
def F.GLB_LOCK_RST : Fld := ⟨625, 2, 1, .w1s, 0, false, false⟩
def F.GLB_LOCK_COMPAT : Fld := ⟨626, 1, 1, .w1s, 0, false, false⟩
def F.GLB_LOCK_SUMP : Fld := ⟨627, 0, 1, .w1s, 0, false, false⟩
/-! GLB_WERR (R417) -/
def F.GLB_WERR_FREQ : Fld := ⟨628, 16, 2, .ro, 0, false, false⟩
def F.GLB_WERR_ADDR_V : Fld := ⟨629, 12, 1, .ro, 0, false, false⟩
def F.GLB_WERR_COMPAT : Fld := ⟨630, 11, 1, .w1c, 0, false, false⟩
def F.GLB_WERR_MGMT : Fld := ⟨631, 10, 1, .w1c, 0, false, false⟩
def F.GLB_WERR_HEAT : Fld := ⟨632, 9, 1, .w1c, 0, false, false⟩
def F.GLB_WERR_CMP : Fld := ⟨633, 8, 1, .w1c, 0, false, false⟩
def F.GLB_WERR_SPARE : Fld := ⟨634, 7, 1, .w1c, 0, false, false⟩
def F.GLB_WERR_QUAD : Fld := ⟨635, 6, 1, .w1c, 0, false, false⟩
def F.GLB_WERR_PORT : Fld := ⟨636, 5, 1, .w1c, 0, false, false⟩
def F.GLB_WERR_BOOT : Fld := ⟨637, 4, 1, .w1c, 0, false, false⟩
def F.GLB_WERR_SUMP : Fld := ⟨638, 3, 1, .w1c, 0, false, false⟩
def F.GLB_WERR_PWR : Fld := ⟨639, 2, 1, .w1c, 0, false, false⟩
def F.GLB_WERR_CLK : Fld := ⟨640, 1, 1, .w1c, 0, false, false⟩
def F.GLB_WERR_GLB : Fld := ⟨641, 0, 1, .w1c, 0, false, false⟩
/-! GLB_WERR_ADDR (R417) -/
def F.GLB_WERR_ADDR_ADDR : Fld := ⟨642, 0, 32, .ro, 0, false, false⟩
/-! PORT_FEC_FLITS_LO (R151) -/
def F.PORT_FEC_FLITS_LO_FLITS_LO : Fld := ⟨643, 0, 32, .ro, 0, false, false⟩
/-! PORT_FEC_FLITS_HI (R151) -/
def F.PORT_FEC_FLITS_HI_FLITS_HI : Fld := ⟨644, 0, 16, .ro, 0, false, false⟩
/-! PORT_FEC_CORR (R151) -/
def F.PORT_FEC_CORR_CORR : Fld := ⟨645, 0, 32, .ro, 0, false, false⟩
/-! PORT_FEC_SYM (R151) -/
def F.PORT_FEC_SYM_SYM : Fld := ⟨646, 0, 32, .ro, 0, false, false⟩
/-! PORT_FEC_UNCORR (R151) -/
def F.PORT_FEC_UNCORR_UNCORR : Fld := ⟨647, 0, 32, .ro, 0, false, false⟩
/-! PORT_FEC_CRCBAD (R151) -/
def F.PORT_FEC_CRCBAD_CRCBAD : Fld := ⟨648, 0, 32, .ro, 0, false, false⟩
/-! PORT_FEC_OOS (R151) -/
def F.PORT_FEC_OOS_OOS : Fld := ⟨649, 0, 32, .ro, 0, false, false⟩
/-! PORT_FEC_OPAQUE (R151) -/
def F.PORT_FEC_OPAQUE_OPAQUE : Fld := ⟨650, 0, 32, .ro, 0, false, false⟩
/-! PORT_FEC_LANE (R151) -/
def F.PORT_FEC_LANE_ODD : Fld := ⟨651, 16, 16, .ro, 0, false, false⟩
def F.PORT_FEC_LANE_EVEN : Fld := ⟨652, 0, 16, .ro, 0, false, false⟩
/-! PORT_CAP_MATCH_LO (R151) -/
def F.PORT_CAP_MATCH_LO_MATCH_LO : Fld := ⟨653, 0, 32, .rwe, 0, false, false⟩
/-! PORT_CAP_MATCH_HI (R151) -/
def F.PORT_CAP_MATCH_HI_MATCH_HI : Fld := ⟨654, 0, 32, .rwe, 0, false, false⟩
/-! PORT_CAP_MASK_LO (R151) -/
def F.PORT_CAP_MASK_LO_MASK_LO : Fld := ⟨655, 0, 32, .rwe, 0, false, false⟩
/-! PORT_CAP_MASK_HI (R151) -/
def F.PORT_CAP_MASK_HI_MASK_HI : Fld := ⟨656, 0, 32, .rwe, 0, false, false⟩
/-! PORT_CAP_TDRIP_LO (R151) -/
def F.PORT_CAP_TDRIP_LO_TDRIP_LO : Fld := ⟨657, 0, 32, .rwe, 0, false, false⟩
/-! PORT_CAP_TDRIP_HI (R151) -/
def F.PORT_CAP_TDRIP_HI_TDRIP_HI : Fld := ⟨658, 0, 16, .rwe, 0, false, false⟩
/-! LANE_PRBS_USR_LO (R81) -/
def F.LANE_PRBS_USR_LO_USR_LO : Fld := ⟨659, 0, 32, .rwe, 0, false, false⟩
/-! LANE_PRBS_USR_HI (R81) -/
def F.LANE_PRBS_USR_HI_USR_HI : Fld := ⟨660, 0, 32, .rwe, 0, false, false⟩
/-! CW_WBUF (R411) -/
def F.CW_WBUF_OVF : Fld := ⟨661, 8, 1, .ro, 0, false, false⟩
def F.CW_WBUF_WAITING : Fld := ⟨662, 0, 6, .ro, 0, false, false⟩

/-- The named fields of a register, highest bits first. Bits that no field covers are reserved and read 0. -/
def Reg.fields : Reg → List Fld
  | .LANE_RX_CTL => [F.LANE_RX_CTL_CNT_CLR, F.LANE_RX_CTL_RESTART, F.LANE_RX_CTL_CTLE_MAX, F.LANE_RX_CTL_DFE_EN, F.LANE_RX_CTL_POL_OVR, F.LANE_RX_CTL_POL_VAL, F.LANE_RX_CTL_FREEZE]
  | .LANE_TX_CTL => [F.LANE_TX_CTL_SWING, F.LANE_TX_CTL_OVR]
  | .LANE_TX_COEF => [F.LANE_TX_COEF_CP1, F.LANE_TX_COEF_C0, F.LANE_TX_COEF_CM1, F.LANE_TX_COEF_CM2]
  | .LANE_RX_STAT => [F.LANE_RX_STAT_AGE, F.LANE_RX_STAT_LOGICAL, F.LANE_RX_STAT_POL_DET, F.LANE_RX_STAT_CDR_LOCK, F.LANE_RX_STAT_SIGDET, F.LANE_RX_STAT_ASTATE]
  | .LANE_RX_EQ => [F.LANE_RX_EQ_AGE, F.LANE_RX_EQ_FFE_P1, F.LANE_RX_EQ_FFE_M1, F.LANE_RX_EQ_DFE1, F.LANE_RX_EQ_CTLE]
  | .LANE_EQ_STAT => [F.LANE_EQ_STAT_AGE, F.LANE_EQ_STAT_PRESET, F.LANE_EQ_STAT_CP1, F.LANE_EQ_STAT_C0, F.LANE_EQ_STAT_CM1, F.LANE_EQ_STAT_CM2]
  | .LANE_SLICE_STAT => [F.LANE_SLICE_STAT_AGE, F.LANE_SLICE_STAT_MARG, F.LANE_SLICE_STAT_CALSTOP, F.LANE_SLICE_STAT_CALSLICE, F.LANE_SLICE_STAT_SUB1, F.LANE_SLICE_STAT_SUB0]
  | .LANE_EB_STAT => [F.LANE_EB_STAT_AGE, F.LANE_EB_STAT_LWM, F.LANE_EB_STAT_HWM, F.LANE_EB_STAT_FILL]
  | .LANE_EB_CFG => [F.LANE_EB_CFG_LWM, F.LANE_EB_CFG_HWM]
  | .LANE_ERR_CNT => [F.LANE_ERR_CNT_LOCK_LOSS, F.LANE_ERR_CNT_EB_ERR]
  | .LANE_ECHO_CTL => [F.LANE_ECHO_CTL_RATE, F.LANE_ECHO_CTL_MODE]
  | .LANE_PRBS_CTL => [F.LANE_PRBS_CTL_CLR, F.LANE_PRBS_CTL_INV, F.LANE_PRBS_CTL_PATTERN, F.LANE_PRBS_CTL_CHK_EN, F.LANE_PRBS_CTL_GEN_EN]
  | .LANE_PRBS_STAT => [F.LANE_PRBS_STAT_AGE, F.LANE_PRBS_STAT_SAT, F.LANE_PRBS_STAT_LOCK]
  | .LANE_PRBS_ERR => [F.LANE_PRBS_ERR_ERR]
  | .LANE_PRBS_BITS_LO => [F.LANE_PRBS_BITS_LO_BITS_LO]
  | .LANE_PRBS_BITS_HI => [F.LANE_PRBS_BITS_HI_BITS_HI]
  | .QUAD_CTL => [F.QUAD_CTL_RST]
  | .QUAD_STAT => [F.QUAD_STAT_AGE, F.QUAD_STAT_GATED, F.QUAD_STAT_PLL_I_LOCK, F.QUAD_STAT_PLL_O_LOCK]
  | .PHR_CTL => [F.PHR_CTL_WD_HALT, F.PHR_CTL_EN]
  | .PHR_STAT => [F.PHR_STAT_AGE, F.PHR_STAT_LAST_CYC, F.PHR_STAT_HALTED, F.PHR_STAT_VALID_B, F.PHR_STAT_VALID_A, F.PHR_STAT_ACT, F.PHR_STAT_RUN]
  | .PHR_WDOG => [F.PHR_WDOG_CLR, F.PHR_WDOG_MAX_CYC, F.PHR_WDOG_OVR_CNT]
  | .PHR_ID => [F.PHR_ID_ID_B, F.PHR_ID_ID_A]
  | .PORT_CTL => [F.PORT_CTL_CNT_CLR, F.PORT_CTL_RETRAIN, F.PORT_CTL_RST, F.PORT_CTL_EN]
  | .PORT_CFG => [F.PORT_CFG_MARG_EN, F.PORT_CFG_L0P_EN, F.PORT_CFG_PRSNT_EN, F.PORT_CFG_PERST_EN, F.PORT_CFG_SRIS_I, F.PORT_CFG_SRIS_O, F.PORT_CFG_MAX_RATE, F.PORT_CFG_CMODE_IO, F.PORT_CFG_CMODE_OI, F.PORT_CFG_COMP, F.PORT_CFG_ORIENT]
  | .PORT_STAT => [F.PORT_STAT_AGE, F.PORT_STAT_RSTDONE, F.PORT_STAT_CMODE_PEND, F.PORT_STAT_DGC_IO, F.PORT_STAT_DGC_OI, F.PORT_STAT_EMODE_IO, F.PORT_STAT_EMODE_OI]
  | .PORT_LINK_STAT => [F.PORT_LINK_STAT_AGE, F.PORT_LINK_STAT_AWIDTH, F.PORT_LINK_STAT_WIDTH, F.PORT_LINK_STAT_XS_RTMR, F.PORT_LINK_STAT_POS, F.PORT_LINK_STAT_FLIT, F.PORT_LINK_STAT_RATE, F.PORT_LINK_STAT_LTSSM]
  | .PORT_EQ_CFG => [F.PORT_EQ_CFG_SEARCH, F.PORT_EQ_CFG_MAX_TRIALS, F.PORT_EQ_CFG_DWELL, F.PORT_EQ_CFG_EXEC_TMO]
  | .PORT_EQ_STAT => [F.PORT_EQ_STAT_AGE, F.PORT_EQ_STAT_RATE, F.PORT_EQ_STAT_I_TRIALS, F.PORT_EQ_STAT_O_TRIALS, F.PORT_EQ_STAT_I_RESULT, F.PORT_EQ_STAT_O_RESULT]
  | .PORT_TMO_CFG => [F.PORT_TMO_CFG_PRSNT_DB, F.PORT_TMO_CFG_FWD_TMO]
  | .PORT_LDN_LOG => [F.PORT_LDN_LOG_TAG, F.PORT_LDN_LOG_STATE, F.PORT_LDN_LOG_RATE, F.PORT_LDN_LOG_CAUSE]
  | .PORT_LDN_CNT => [F.PORT_LDN_CNT_WDOG, F.PORT_LDN_CNT_ATTR, F.PORT_LDN_CNT_ALL]
  | .PORT_LDN_DRIP_LO => [F.PORT_LDN_DRIP_LO_DRIP_LO]
  | .PORT_LDN_DRIP_HI => [F.PORT_LDN_DRIP_HI_DRIP_HI]
  | .PORT_TRN_CNT => [F.PORT_TRN_CNT_RECOV, F.PORT_TRN_CNT_SPEED, F.PORT_TRN_CNT_EQ]
  | .PORT_HP_STAT => [F.PORT_HP_STAT_PERST_CHG, F.PORT_HP_STAT_PRSNT_CHG, F.PORT_HP_STAT_PERST, F.PORT_HP_STAT_PRSNT]
  | .PORT_BIND => [F.PORT_BIND_GEN, F.PORT_BIND_TAG]
  | .PORT_FLIT_CFG => [F.PORT_FLIT_CFG_LOSS_N, F.PORT_FLIT_CFG_IDE_FORCE]
  | .PORT_FLIT_STAT => [F.PORT_FLIT_STAT_AGE, F.PORT_FLIT_STAT_IDE_IO, F.PORT_FLIT_STAT_IDE_OI, F.PORT_FLIT_STAT_LOCK_IO, F.PORT_FLIT_STAT_LOCK_OI, F.PORT_FLIT_STAT_FMT]
  | .PORT_FLIT_CTL => [F.PORT_FLIT_CTL_CNT_CLR]
  | .PORT_FLIT_LOCK_CNT => [F.PORT_FLIT_LOCK_CNT_LOSS_IO, F.PORT_FLIT_LOCK_CNT_LOSS_OI]
  | .PORT_ERRATA_SENT => [F.PORT_ERRATA_SENT_SENT]
  | .PORT_ERRATA_CNT => [F.PORT_ERRATA_CNT_DROP, F.PORT_ERRATA_CNT_ABORT]
  | .PORT_ERRATA_STAT => [F.PORT_ERRATA_STAT_LAG_MAX, F.PORT_ERRATA_STAT_ERR_SEQ]
  | .PORT_CAP_CFG => [F.PORT_CAP_CFG_SEG_BASE, F.PORT_CAP_CFG_SEG_CNT, F.PORT_CAP_CFG_DIR, F.PORT_CAP_CFG_TRIG, F.PORT_CAP_CFG_FILTER, F.PORT_CAP_CFG_PRE, F.PORT_CAP_CFG_MATCH_OFF]
  | .PORT_CAP_CTL => [F.PORT_CAP_CTL_STOP, F.PORT_CAP_CTL_FORCE, F.PORT_CAP_CTL_ARM]
  | .PORT_CAP_STAT => [F.PORT_CAP_STAT_GEN, F.PORT_CAP_STAT_STATE, F.PORT_CAP_STAT_WRAP, F.PORT_CAP_STAT_WPTR]
  | .PORT_CAP_TREC => [F.PORT_CAP_TREC_TRIG_REC]
  | .PORT_CAP_LOST => [F.PORT_CAP_LOST_LOST]
  | .CMP_CSB_CTL => [F.CMP_CSB_CTL_CNT_CLR, F.CMP_CSB_CTL_RST, F.CMP_CSB_CTL_EN]
  | .CMP_CSB_CFG => [F.CMP_CSB_CFG_RTX_TMO, F.CMP_CSB_CFG_BEACON, F.CMP_CSB_CFG_LOSS_TMO]
  | .CMP_CSB_STAT => [F.CMP_CSB_STAT_AGE, F.CMP_CSB_STAT_PEER_MINOR, F.CMP_CSB_STAT_PEER_MAJOR, F.CMP_CSB_STAT_PEER_CAP, F.CMP_CSB_STAT_STATE]
  | .CMP_CSB_CNT => [F.CMP_CSB_CNT_CRC_BAD, F.CMP_CSB_CNT_RTX, F.CMP_CSB_CNT_DOWN]
  | .CMP_CSB_CNT2 => [F.CMP_CSB_CNT2_LOST, F.CMP_CSB_CNT2_UNEXP]
  | .CMP_CFG => [F.CMP_CFG_CEQ_TMO, F.CMP_CFG_ROWLOSS_N, F.CMP_CFG_CLOCK_TMO, F.CMP_CFG_JOIN_TMO]
  | .CMP_PORT_STAT => [F.CMP_PORT_STAT_AGE, F.CMP_PORT_STAT_LVRSN, F.CMP_PORT_STAT_SP1, F.CMP_PORT_STAT_SP0, F.CMP_PORT_STAT_FB_CAUSE, F.CMP_PORT_STAT_ROWLOCK, F.CMP_PORT_STAT_ROWCAP, F.CMP_PORT_STAT_SEG]
  | .CMP_PORT_CNT => [F.CMP_PORT_CNT_FB, F.CMP_PORT_CNT_ROWLOSS, F.CMP_PORT_CNT_BADSLOT]
  | .CMP_PORT_ROW => [F.CMP_PORT_ROW_ROW_IN, F.CMP_PORT_ROW_ROW_OUT]
  | .SPARE_CFG => [F.SPARE_CFG_WIN, F.SPARE_CFG_TMO, F.SPARE_CFG_PERSIST, F.SPARE_CFG_SW_REQ_EN, F.SPARE_CFG_AUTO]
  | .SPARE_CTL => [F.SPARE_CTL_CNT_CLR, F.SPARE_CTL_REL_S1, F.SPARE_CTL_REL_S0, F.SPARE_CTL_REQ, F.SPARE_CTL_LANE]
  | .SPARE_THR => [F.SPARE_THR_SYM_THR, F.SPARE_THR_LOCK_THR]
  | .SPARE_STAT => [F.SPARE_STAT_AGE, F.SPARE_STAT_LAST_RES, F.SPARE_STAT_CAUSE, F.SPARE_STAT_PORT, F.SPARE_STAT_LANE, F.SPARE_STAT_STATE]
  | .SPARE_CNT => [F.SPARE_CNT_GRANT, F.SPARE_CNT_FAIL, F.SPARE_CNT_REFUSED, F.SPARE_CNT_NOSPARE]
  | .CMP_SLOT_CTL => [F.CMP_SLOT_CTL_CNT_CLR]
  | .CMP_Q_WM => [F.CMP_Q_WM_DELAY_WM, F.CMP_Q_WM_DEPTH_WM]
  | .CMP_SHAPE_CFG => [F.CMP_SHAPE_CFG_BURST4, F.CMP_SHAPE_CFG_RATE4, F.CMP_SHAPE_CFG_BURST3, F.CMP_SHAPE_CFG_RATE3]
  | .CMP_POLICE_CFG => [F.CMP_POLICE_CFG_EN, F.CMP_POLICE_CFG_BURST, F.CMP_POLICE_CFG_RATE]
  | .CMP_HOLD_CFG => [F.CMP_HOLD_CFG_DELAY]
  | .CMP_TOKEN_STAT => [F.CMP_TOKEN_STAT_AGE, F.CMP_TOKEN_STAT_TOK_POL, F.CMP_TOKEN_STAT_TOK4, F.CMP_TOKEN_STAT_TOK3]
  | .CMP_RPL_SENT => [F.CMP_RPL_SENT_SENT]
  | .CMP_RPL_CNT => [F.CMP_RPL_CNT_GONE, F.CMP_RPL_CNT_MALREQ, F.CMP_RPL_CNT_OVF]
  | .CMP_RPL_CNT2 => [F.CMP_RPL_CNT2_ABORT]
  | .CMP_HOLD_CNT => [F.CMP_HOLD_CNT_REQ, F.CMP_HOLD_CNT_OK]
  | .CMP_HOLD_CNT2 => [F.CMP_HOLD_CNT2_LATE, F.CMP_HOLD_CNT2_FAIL]
  | .CMP_SLOT_CNT => [F.CMP_SLOT_CNT_PAYBAD, F.CMP_SLOT_CNT_MALF]
  | .CMP_POLICE_CNT => [F.CMP_POLICE_CNT_DROP, F.CMP_POLICE_CNT_NOTICE]
  | .CMP_POLICE_LAST => [F.CMP_POLICE_LAST_MSEQ]
  | .CMP_Q_STAT => [F.CMP_Q_STAT_AGE, F.CMP_Q_STAT_TWM, F.CMP_Q_STAT_DWM, F.CMP_Q_STAT_DELAY, F.CMP_Q_STAT_DEPTH]
  | .HEAT_CTL => [F.HEAT_CTL_CNT_CLR, F.HEAT_CTL_REL]
  | .HEAT_CFG => [F.HEAT_CFG_AUTO_REL]
  | .HEAT_EPOCH_CFG => [F.HEAT_EPOCH_CFG_LEN]
  | .HEAT_STAT => [F.HEAT_STAT_REL_PEND, F.HEAT_STAT_EXP_BUSY, F.HEAT_STAT_SWAP_PEND, F.HEAT_STAT_OSTATE, F.HEAT_STAT_LIVE]
  | .HEAT_EPOCH => [F.HEAT_EPOCH_EPOCH]
  | .HEAT_EPOCH_AGE => [F.HEAT_EPOCH_AGE_DRIPS]
  | .HEAT_SWAP_CNT => [F.HEAT_SWAP_CNT_SWAPS, F.HEAT_SWAP_CNT_SWAP_SKIPPED]
  | .HEAT_BANK_EPOCH => [F.HEAT_BANK_EPOCH_EPOCH]
  | .HEAT_BANK_START_LO => [F.HEAT_BANK_START_LO_START_LO]
  | .HEAT_BANK_START_HI => [F.HEAT_BANK_START_HI_START_HI]
  | .HEAT_BANK_LEN => [F.HEAT_BANK_LEN_LEN]
  | .HEAT_PCTL => [F.HEAT_PCTL_CLR_BUSY, F.HEAT_PCTL_CLR, F.HEAT_PCTL_EN]
  | .HEAT_PCFG => [F.HEAT_PCFG_LDID, F.HEAT_PCFG_LDID_EN, F.HEAT_PCFG_EXPORT, F.HEAT_PCFG_SPEC, F.HEAT_PCFG_REGION, F.HEAT_PCFG_SPAN]
  | .HEAT_PBASE => [F.HEAT_PBASE_BASE]
  | .HEAT_PRANGE => [F.HEAT_PRANGE_FIRST]
  | .HEAT_EXP_STAT => [F.HEAT_EXP_STAT_EPOCH, F.HEAT_EXP_STAT_ACTIVE, F.HEAT_EXP_STAT_WAIT, F.HEAT_EXP_STAT_ZPH, F.HEAT_EXP_STAT_ZWIN, F.HEAT_EXP_STAT_NEXT]
  | .HEAT_EXP_CNT => [F.HEAT_EXP_CNT_DONE, F.HEAT_EXP_CNT_ABORT]
  | .HEAT_PLFSR => [F.HEAT_PLFSR_STATE]
  | .HEAT_LOST => [F.HEAT_LOST_LOST]
  | .HEAT_UNMAP => [F.HEAT_UNMAP_UNMAP]
  | .HEAT_OPAQUE => [F.HEAT_OPAQUE_OPAQUE]
  | .HEAT_FOVF => [F.HEAT_FOVF_FOVF]
  | .HEAT_ZCTL => [F.HEAT_ZCTL_CLR_BUSY, F.HEAT_ZCTL_CLR, F.HEAT_ZCTL_EN]
  | .HEAT_ZCFG => [F.HEAT_ZCFG_EXPORT, F.HEAT_ZCFG_GRAN, F.HEAT_ZCFG_PORT]
  | .HEAT_ZBASE => [F.HEAT_ZBASE_BASE]
  | .CLK_SRC => [F.CLK_SRC_IREF, F.CLK_SRC_OREF, F.CLK_SRC_CORE_REF, F.CLK_SRC_MGMT, F.CLK_SRC_SAFE]
  | .CLK_STAT => [F.CLK_STAT_REFB_LOSS, F.CLK_STAT_REFA_LOSS, F.CLK_STAT_XTAL_LOSS, F.CLK_STAT_CORE_HELD, F.CLK_STAT_SAFE_ON, F.CLK_STAT_MGMT_ON, F.CLK_STAT_MPLL_LOCK, F.CLK_STAT_CPLL_LOCK, F.CLK_STAT_XPLL_LOCK, F.CLK_STAT_REFB_OK, F.CLK_STAT_REFA_OK, F.CLK_STAT_XTAL_OK]
  | .CLK_LOSS_CNT => [F.CLK_LOSS_CNT_XTAL, F.CLK_LOSS_CNT_REFA, F.CLK_LOSS_CNT_REFB]
  | .CLK_CTL => [F.CLK_CTL_CNT_CLR]
  | .CLK_FM_CTL => [F.CLK_FM_CTL_START, F.CLK_FM_CTL_BUSY, F.CLK_FM_CTL_DONE, F.CLK_FM_CTL_OVF, F.CLK_FM_CTL_WIN, F.CLK_FM_CTL_LSEL, F.CLK_FM_CTL_TGT, F.CLK_FM_CTL_REF]
  | .CLK_FM_RES => [F.CLK_FM_RES_COUNT]
  | .CLK_DRIP_LO => [F.CLK_DRIP_LO_DRIP_LO]
  | .CLK_DRIP_HI => [F.CLK_DRIP_HI_NS, F.CLK_DRIP_HI_DRIP_HI]
  | .CLK_TSYNC_CFG => [F.CLK_TSYNC_CFG_MODE, F.CLK_TSYNC_CFG_BCN_EN, F.CLK_TSYNC_CFG_SLEW_MAX, F.CLK_TSYNC_CFG_DELAY, F.CLK_TSYNC_CFG_PERIOD]
  | .CLK_TSYNC_CTL => [F.CLK_TSYNC_CTL_LOAD]
  | .CLK_TSYNC_STAT => [F.CLK_TSYNC_STAT_ERR, F.CLK_TSYNC_STAT_LOAD_PEND, F.CLK_TSYNC_STAT_MISS, F.CLK_TSYNC_STAT_SRC, F.CLK_TSYNC_STAT_ALIGNED]
  | .CLK_TSYNC_LOAD_LO => [F.CLK_TSYNC_LOAD_LO_LOAD_LO]
  | .CLK_TSYNC_LOAD_HI => [F.CLK_TSYNC_LOAD_HI_LOAD_HI]
  | .CLK_TSYNC_CNT => [F.CLK_TSYNC_CNT_MISS, F.CLK_TSYNC_CNT_BSTEP, F.CLK_TSYNC_CNT_STEP]
  | .CLK_SCHED_TGT_LO => [F.CLK_SCHED_TGT_LO_TGT_LO]
  | .CLK_SCHED_TGT_HI => [F.CLK_SCHED_TGT_HI_TGT_HI]
  | .CLK_SCHED_CTL => [F.CLK_SCHED_CTL_CANCEL, F.CLK_SCHED_CTL_ARM, F.CLK_SCHED_CTL_ARG, F.CLK_SCHED_CTL_ACTION]
  | .CLK_SCHED_STAT => [F.CLK_SCHED_STAT_LATENESS, F.CLK_SCHED_STAT_FAILQ, F.CLK_SCHED_STAT_RESULT, F.CLK_SCHED_STAT_LATE, F.CLK_SCHED_STAT_STATE]
  | .PWR_CTL => [F.PWR_CTL_CAL_RUN, F.PWR_CTL_CNT_CLR]
  | .PWR_STAT => [F.PWR_STAT_VDDH_WARN, F.PWR_STAT_VDDA_WARN, F.PWR_STAT_VDDC_WARN, F.PWR_STAT_PGOOD, F.PWR_STAT_VDDH_OK, F.PWR_STAT_VDDA_OK, F.PWR_STAT_VDDC_OK]
  | .PWR_VMON0 => [F.PWR_VMON0_VDDA, F.PWR_VMON0_VDDC]
  | .PWR_VMON1 => [F.PWR_VMON1_VDDH]
  | .PWR_AVS_CFG => [F.PWR_AVS_CFG_EN, F.PWR_AVS_CFG_SAFE, F.PWR_AVS_CFG_VMAX, F.PWR_AVS_CFG_VMIN]
  | .PWR_AVS_STAT => [F.PWR_AVS_STAT_HELD, F.PWR_AVS_STAT_FAULT, F.PWR_AVS_STAT_TARGET, F.PWR_AVS_STAT_CMD]
  | .PWR_DOM_STAT => [F.PWR_DOM_STAT_SEC_DEFER, F.PWR_DOM_STAT_SEC_GATED, F.PWR_DOM_STAT_SGATED, F.PWR_DOM_STAT_QGATED]
  | .PWR_TEMP => [F.PWR_TEMP_MAX, F.PWR_TEMP_TEMP]
  | .PWR_THERM_CFG => [F.PWR_THERM_CFG_HYST, F.PWR_THERM_CFG_HIGH, F.PWR_THERM_CFG_WARN]
  | .PWR_THERM_STAT => [F.PWR_THERM_STAT_TRIP_NOW, F.PWR_THERM_STAT_HIGH_NOW, F.PWR_THERM_STAT_WARN_NOW, F.PWR_THERM_STAT_TRIP, F.PWR_THERM_STAT_HIGH, F.PWR_THERM_STAT_WARN, F.PWR_THERM_STAT_HOT, F.PWR_THERM_STAT_TMAX]
  | .PWR_CAL_CFG => [F.PWR_CAL_CFG_GRAD, F.PWR_CAL_CFG_DT, F.PWR_CAL_CFG_AUTO]
  | .PWR_ZREF_STAT => [F.PWR_ZREF_STAT_FAULT, F.PWR_ZREF_STAT_OHMS]
  | .PWR_CNT => [F.PWR_CNT_LEG_FAIL, F.PWR_CNT_SLICE_FAIL, F.PWR_CNT_RUNS]
  | .PWR_CAL_STAT => [F.PWR_CAL_STAT_TREF, F.PWR_CAL_STAT_LEN, F.PWR_CAL_STAT_GRADUAL, F.PWR_CAL_STAT_PEND, F.PWR_CAL_STAT_STATE]
  | .PWR_TXSTOP_O => [F.PWR_TXSTOP_O_LANES]
  | .PWR_TXSTOP_I => [F.PWR_TXSTOP_I_LANES]
  | .PWR_TXSTOP_S => [F.PWR_TXSTOP_S_SPARES]
  | .MGMT_CTL => [F.MGMT_CTL_CNT_CLR]
  | .MGMT_STAT => [F.MGMT_STAT_SMB_PEND, F.MGMT_STAT_BUS_MODE, F.MGMT_STAT_LRUN]
  | .MGMT_BUS_CFG => [F.MGMT_BUS_CFG_I2C_DIS, F.MGMT_BUS_CFG_PEC_REQ]
  | .MGMT_BUS_STAT => [F.MGMT_BUS_STAT_EID, F.MGMT_BUS_STAT_DA_VALID, F.MGMT_BUS_STAT_DYN_ADDR, F.MGMT_BUS_STAT_STATIC_ADDR]
  | .MGMT_ACL_MCTP => [F.MGMT_ACL_MCTP_VIEWS]
  | .MGMT_ACL_CSB => [F.MGMT_ACL_CSB_VIEWS]
  | .MGMT_VDM_ID => [F.MGMT_VDM_ID_PEN]
  | .MGMT_CNT => [F.MGMT_CNT_NOVIEW, F.MGMT_CNT_BADHDR]
  | .MGMT_SEC_STAT => [F.MGMT_SEC_STAT_SPDM, F.MGMT_SEC_STAT_SEC_HOLD, F.MGMT_SEC_STAT_CERT0_OK, F.MGMT_SEC_STAT_KEY_OK, F.MGMT_SEC_STAT_SEC_RUN]
  | .MGMT_SEC_CNT => [F.MGMT_SEC_CNT_VIOL, F.MGMT_SEC_CNT_MEAS, F.MGMT_SEC_CNT_CHAL]
  | .MGMT_VIEW_CTL => [F.MGMT_VIEW_CTL_RING_RST, F.MGMT_VIEW_CTL_RESTORE, F.MGMT_VIEW_CTL_SAVE, F.MGMT_VIEW_CTL_CNT_CLR, F.MGMT_VIEW_CTL_FREEZE, F.MGMT_VIEW_CTL_EN]
  | .MGMT_VIEW_STAT => [F.MGMT_VIEW_STAT_INPROG, F.MGMT_VIEW_STAT_RST_ERR, F.MGMT_VIEW_STAT_RST_OK, F.MGMT_VIEW_STAT_SAVED, F.MGMT_VIEW_STAT_BLOB_BUSY, F.MGMT_VIEW_STAT_FROZEN, F.MGMT_VIEW_STAT_GAP_SENT, F.MGMT_VIEW_STAT_RSP_FULL, F.MGMT_VIEW_STAT_REQ_FULL, F.MGMT_VIEW_STAT_PRESENT]
  | .MGMT_VIEW_SEQ => [F.MGMT_VIEW_SEQ_RSEQ_NEXT, F.MGMT_VIEW_SEQ_QSEQ_NEXT]
  | .MGMT_VIEW_PTR => [F.MGMT_VIEW_PTR_RSP_TX, F.MGMT_VIEW_PTR_RSP_WR, F.MGMT_VIEW_PTR_REQ_RD, F.MGMT_VIEW_PTR_REQ_WR]
  | .MGMT_VIEW_POL => [F.MGMT_VIEW_POL_EN, F.MGMT_VIEW_POL_BURST, F.MGMT_VIEW_POL_RATE]
  | .MGMT_VIEW_CNT => [F.MGMT_VIEW_CNT_SENT, F.MGMT_VIEW_CNT_ACCEPTED]
  | .MGMT_VIEW_CNT2 => [F.MGMT_VIEW_CNT2_POLICED, F.MGMT_VIEW_CNT2_OOS, F.MGMT_VIEW_CNT2_FULL, F.MGMT_VIEW_CNT2_RSP_DROP]
  | .MGMT_VIEW_CNT3 => [F.MGMT_VIEW_CNT3_CRC, F.MGMT_VIEW_CNT3_DENIED, F.MGMT_VIEW_CNT3_BUSY, F.MGMT_VIEW_CNT3_ABORTED]
  | .MGMT_VIEW_LAST => [F.MGMT_VIEW_LAST_POL_SEQ, F.MGMT_VIEW_LAST_INPROG_SEQ]
  | .MGMT_VIEW_BLOB => [F.MGMT_VIEW_BLOB_WORD]
  | .BOOT_STAT => [F.BOOT_STAT_STAGE, F.BOOT_STAT_BOOTSEL, F.BOOT_STAT_RECOV, F.BOOT_STAT_DBG_LOCK, F.BOOT_STAT_SV_TRIAL, F.BOOT_STAT_FW_TRIAL, F.BOOT_STAT_SV_BANK, F.BOOT_STAT_FW_BANK]
  | .BOOT_ERR => [F.BOOT_ERR_COMP, F.BOOT_ERR_BANK, F.BOOT_ERR_CODE]
  | .BOOT_BANK => [F.BOOT_BANK_SV_B, F.BOOT_BANK_SV_A, F.BOOT_BANK_FW_B, F.BOOT_BANK_FW_A]
  | .BOOT_FW_VER_A => [F.BOOT_FW_VER_A_VERSION]
  | .BOOT_FW_VER_B => [F.BOOT_FW_VER_B_VERSION]
  | .BOOT_SV_VER_A => [F.BOOT_SV_VER_A_VERSION]
  | .BOOT_SV_VER_B => [F.BOOT_SV_VER_B_VERSION]
  | .BOOT_TIME => [F.BOOT_TIME_TIME]
  | .BOOT_SPI_CFG => [F.BOOT_SPI_CFG_IO, F.BOOT_SPI_CFG_DIV]
  | .BOOT_SPI_STAT => [F.BOOT_SPI_STAT_REFUSED, F.BOOT_SPI_STAT_ADDR4, F.BOOT_SPI_STAT_FBUSY, F.BOOT_SPI_STAT_MMAP]
  | .BOOT_FLASH_ID => [F.BOOT_FLASH_ID_DENS, F.BOOT_FLASH_ID_JEDEC]
  | .BOOT_UPD_CFG => [F.BOOT_UPD_CFG_AUTO_CONF, F.BOOT_UPD_CFG_SOAK, F.BOOT_UPD_CFG_ACT_DELAY]
  | .BOOT_UPD_CTL => [F.BOOT_UPD_CTL_CNT_CLR, F.BOOT_UPD_CTL_CONTINUE, F.BOOT_UPD_CTL_REACT, F.BOOT_UPD_CTL_REVERT, F.BOOT_UPD_CTL_CONFIRM]
  | .BOOT_UPD_STAT => [F.BOOT_UPD_STAT_CONF_LEFT, F.BOOT_UPD_STAT_NOTCONF, F.BOOT_UPD_STAT_WINDOW, F.BOOT_UPD_STAT_PSTATE, F.BOOT_UPD_STAT_COMP, F.BOOT_UPD_STAT_BANK, F.BOOT_UPD_STAT_LAST_RES]
  | .BOOT_UPD_CNT => [F.BOOT_UPD_CNT_REVERTS, F.BOOT_UPD_CNT_CONFIRMS, F.BOOT_UPD_CNT_ABORTS, F.BOOT_UPD_CNT_APPLIED]
  | .BOOT_LOG_STAT => [F.BOOT_LOG_STAT_TORN, F.BOOT_LOG_STAT_FREE, F.BOOT_LOG_STAT_AREA]
  | .GLB_TALLY => [F.GLB_TALLY_VALUE]
  | .GLB_TALLY_REF => [F.GLB_TALLY_REF_REF]
  | .GLB_TALLY_STAGE => [F.GLB_TALLY_STAGE_STAGE]
  | .GLB_TALLY_CTL => [F.GLB_TALLY_CTL_SUSP, F.GLB_TALLY_CTL_ADOPT, F.GLB_TALLY_CTL_COMMIT]
  | .GLB_TALLY_STAT => [F.GLB_TALLY_STAT_COMMIT_FAIL, F.GLB_TALLY_STAT_REF_VALID, F.GLB_TALLY_STAT_MISM, F.GLB_TALLY_STAT_MATCH_NOW]
  | .GLB_TALLY_CDRIP_LO => [F.GLB_TALLY_CDRIP_LO_DRIP_LO]
  | .GLB_TALLY_CDRIP_HI => [F.GLB_TALLY_CDRIP_HI_DRIP_HI]
  | .GLB_TALLY_SNAP => [F.GLB_TALLY_SNAP_SNAP]
  | .GLB_TALLY_SNAP_DRIP_LO => [F.GLB_TALLY_SNAP_DRIP_LO_DRIP_LO]
  | .GLB_TALLY_SNAP_DRIP_HI => [F.GLB_TALLY_SNAP_DRIP_HI_DRIP_HI]
  | .SUMP_CTL => [F.SUMP_CTL_AVAIL_CLR, F.SUMP_CTL_CNT_CLR]
  | .SUMP_STAT => [F.SUMP_STAT_NSEV, F.SUMP_STAT_IRQ, F.SUMP_STAT_FAULT, F.SUMP_STAT_ALIVE_RUN, F.SUMP_STAT_QUIESCED, F.SUMP_STAT_SAFE]
  | .SUMP_FORCE => [F.SUMP_FORCE_DETAIL, F.SUMP_FORCE_INST, F.SUMP_FORCE_SRC]
  | .SUMP_CLR => [F.SUMP_CLR_ALL, F.SUMP_CLR_SRC]
  | .SUMP_PEND => [F.SUMP_PEND_PEND]
  | .SUMP_SEV => [F.SUMP_SEV_SEV]
  | .SUMP_QSTOP_CFG => [F.SUMP_QSTOP_CFG_DISC]
  | .SUMP_QSTOP_STAT => [F.SUMP_QSTOP_STAT_DISAG, F.SUMP_QSTOP_STAT_QUIESCED, F.SUMP_QSTOP_STAT_B, F.SUMP_QSTOP_STAT_A]
  | .SUMP_QSTOP_CNT => [F.SUMP_QSTOP_CNT_QUIESCE, F.SUMP_QSTOP_CNT_SHORT]
  | .SUMP_LWDOG_CFG => [F.SUMP_LWDOG_CFG_TMO]
  | .SUMP_LWDOG_CTL => [F.SUMP_LWDOG_CTL_KICK]
  | .SUMP_LWDOG_STAT => [F.SUMP_LWDOG_STAT_EXP, F.SUMP_LWDOG_STAT_RUN, F.SUMP_LWDOG_STAT_AGE]
  | .SUMP_ECC_CFG => [F.SUMP_ECC_CFG_LAP_WM, F.SUMP_ECC_CFG_LEAK, F.SUMP_ECC_CFG_THR]
  | .SUMP_ECC_STAT => [F.SUMP_ECC_STAT_CE, F.SUMP_ECC_STAT_UE, F.SUMP_ECC_STAT_LEVEL, F.SUMP_ECC_STAT_SLOW, F.SUMP_ECC_STAT_OVF]
  | .SUMP_ECC_LAST => [F.SUMP_ECC_LAST_UE, F.SUMP_ECC_LAST_WORD]
  | .SUMP_SCRUB_LAP => [F.SUMP_SCRUB_LAP_LAP]
  | .SUMP_SCRUB_AGE => [F.SUMP_SCRUB_AGE_AGE]
  | .SUMP_ATTR_DOWN => [F.SUMP_ATTR_DOWN_DRIPS]
  | .SUMP_SRC_CFG => [F.SUMP_SRC_CFG_W, F.SUMP_SRC_CFG_WUNIT, F.SUMP_SRC_CFG_REACT, F.SUMP_SRC_CFG_FLT, F.SUMP_SRC_CFG_IRQ, F.SUMP_SRC_CFG_N]
  | .SUMP_SRC_STAT => [F.SUMP_SRC_STAT_COUNT, F.SUMP_SRC_STAT_TOTAL, F.SUMP_SRC_STAT_WIREF, F.SUMP_SRC_STAT_CAUSE, F.SUMP_SRC_STAT_HELD, F.SUMP_SRC_STAT_STATE]
  | .SUMP_CAP_INFO => [F.SUMP_CAP_INFO_DRIP_HI, F.SUMP_CAP_INFO_FORCED, F.SUMP_CAP_INFO_DETAIL, F.SUMP_CAP_INFO_INST]
  | .SUMP_CAP_DRIP => [F.SUMP_CAP_DRIP_DRIP_LO]
  | .GLB_ID => [F.GLB_ID_DEVICE, F.GLB_ID_STEP_MAJ, F.GLB_ID_STEP_MIN, F.GLB_ID_PKG]
  | .GLB_UID_LO => [F.GLB_UID_LO_UID_LO]
  | .GLB_UID_HI => [F.GLB_UID_HI_UID_HI]
  | .GLB_RST => [F.GLB_RST_LANTERN, F.GLB_RST_DEVICE]
  | .GLB_RST_CAUSE => [F.GLB_RST_CAUSE_PORT, F.GLB_RST_CAUSE_LAN_REG, F.GLB_RST_CAUSE_LAN_WDOG, F.GLB_RST_CAUSE_LAN_ACT, F.GLB_RST_CAUSE_DEVICE, F.GLB_RST_CAUSE_PIN, F.GLB_RST_CAUSE_POR]
  | .GLB_BIFUR => [F.GLB_BIFUR_QUAD7, F.GLB_BIFUR_QUAD6, F.GLB_BIFUR_QUAD5, F.GLB_BIFUR_QUAD4, F.GLB_BIFUR_QUAD3, F.GLB_BIFUR_QUAD2, F.GLB_BIFUR_QUAD1, F.GLB_BIFUR_QUAD0]
  | .GLB_MODE => [F.GLB_MODE_COMPAT_EN]
  | .GLB_LOCK => [F.GLB_LOCK_RST, F.GLB_LOCK_COMPAT, F.GLB_LOCK_SUMP]
  | .GLB_WERR => [F.GLB_WERR_FREQ, F.GLB_WERR_ADDR_V, F.GLB_WERR_COMPAT, F.GLB_WERR_MGMT, F.GLB_WERR_HEAT, F.GLB_WERR_CMP, F.GLB_WERR_SPARE, F.GLB_WERR_QUAD, F.GLB_WERR_PORT, F.GLB_WERR_BOOT, F.GLB_WERR_SUMP, F.GLB_WERR_PWR, F.GLB_WERR_CLK, F.GLB_WERR_GLB]
  | .GLB_WERR_ADDR => [F.GLB_WERR_ADDR_ADDR]
  | .PORT_FEC_FLITS_LO => [F.PORT_FEC_FLITS_LO_FLITS_LO]
  | .PORT_FEC_FLITS_HI => [F.PORT_FEC_FLITS_HI_FLITS_HI]
  | .PORT_FEC_CORR => [F.PORT_FEC_CORR_CORR]
  | .PORT_FEC_SYM => [F.PORT_FEC_SYM_SYM]
  | .PORT_FEC_UNCORR => [F.PORT_FEC_UNCORR_UNCORR]
  | .PORT_FEC_CRCBAD => [F.PORT_FEC_CRCBAD_CRCBAD]
  | .PORT_FEC_OOS => [F.PORT_FEC_OOS_OOS]
  | .PORT_FEC_OPAQUE => [F.PORT_FEC_OPAQUE_OPAQUE]
  | .PORT_FEC_LANE => [F.PORT_FEC_LANE_ODD, F.PORT_FEC_LANE_EVEN]
  | .PORT_CAP_MATCH_LO => [F.PORT_CAP_MATCH_LO_MATCH_LO]
  | .PORT_CAP_MATCH_HI => [F.PORT_CAP_MATCH_HI_MATCH_HI]
  | .PORT_CAP_MASK_LO => [F.PORT_CAP_MASK_LO_MASK_LO]
  | .PORT_CAP_MASK_HI => [F.PORT_CAP_MASK_HI_MASK_HI]
  | .PORT_CAP_TDRIP_LO => [F.PORT_CAP_TDRIP_LO_TDRIP_LO]
  | .PORT_CAP_TDRIP_HI => [F.PORT_CAP_TDRIP_HI_TDRIP_HI]
  | .LANE_PRBS_USR_LO => [F.LANE_PRBS_USR_LO_USR_LO]
  | .LANE_PRBS_USR_HI => [F.LANE_PRBS_USR_HI_USR_HI]
  | .CW_WBUF => [F.CW_WBUF_OVF, F.CW_WBUF_WAITING]
  | .CW_LANE_CTL => []
  | .CW_LANE_COEF => []
  | .CW_LANE_STAT => []
  | .CW_LANE_ERR => []
  | .CW_PORT_CTL => []
  | .CW_PORT_CFG => []
  | .CW_PORT_STAT => []
  | .CW_PORT_LDN => []
  | .CW_ID => []
  | .CW_BIFUR => []
  | .CW_DRIP => []

/-- A place of a register in the management address space: the address of instance `inst0`, and for each dimension of its
array the number of elements, the address stride and the step of the instance number. -/
structure RegRow where
  reg : Reg
  base : Nat
  inst0 : Nat
  dims : List (Nat × Nat × Nat)
deriving DecidableEq, Repr

/-- The registers of the QUAD range (R396). -/
def RegMap.quad : List RegRow := [
  ⟨.LANE_RX_CTL, 0x20400, 0, [(8, 0x2000, 4), (4, 0x400, 1), (2, 0x200, 32)]⟩,
  ⟨.LANE_TX_CTL, 0x20404, 0, [(8, 0x2000, 4), (4, 0x400, 1), (2, 0x200, 32)]⟩,
  ⟨.LANE_TX_COEF, 0x20408, 0, [(8, 0x2000, 4), (4, 0x400, 1), (2, 0x200, 32)]⟩,
  ⟨.LANE_RX_STAT, 0x20410, 0, [(8, 0x2000, 4), (4, 0x400, 1), (2, 0x200, 32)]⟩,
  ⟨.LANE_RX_EQ, 0x20418, 0, [(8, 0x2000, 4), (4, 0x400, 1), (2, 0x200, 32)]⟩,
  ⟨.LANE_EQ_STAT, 0x20414, 0, [(8, 0x2000, 4), (4, 0x400, 1), (2, 0x200, 32)]⟩,
  ⟨.LANE_SLICE_STAT, 0x2041c, 0, [(8, 0x2000, 4), (4, 0x400, 1), (2, 0x200, 32)]⟩,
  ⟨.LANE_EB_STAT, 0x20420, 0, [(8, 0x2000, 4), (4, 0x400, 1), (2, 0x200, 32)]⟩,
  ⟨.LANE_EB_CFG, 0x20424, 0, [(8, 0x2000, 4), (4, 0x400, 1), (2, 0x200, 32)]⟩,
  ⟨.LANE_ERR_CNT, 0x20428, 0, [(8, 0x2000, 4), (4, 0x400, 1), (2, 0x200, 32)]⟩,
  ⟨.LANE_ECHO_CTL, 0x20430, 0, [(8, 0x2000, 4), (4, 0x400, 1), (2, 0x200, 32)]⟩,
  ⟨.LANE_PRBS_CTL, 0x20434, 0, [(8, 0x2000, 4), (4, 0x400, 1), (2, 0x200, 32)]⟩,
  ⟨.LANE_PRBS_STAT, 0x20440, 0, [(8, 0x2000, 4), (4, 0x400, 1), (2, 0x200, 32)]⟩,
  ⟨.LANE_PRBS_ERR, 0x20444, 0, [(8, 0x2000, 4), (4, 0x400, 1), (2, 0x200, 32)]⟩,
  ⟨.LANE_PRBS_BITS_LO, 0x20448, 0, [(8, 0x2000, 4), (4, 0x400, 1), (2, 0x200, 32)]⟩,
  ⟨.LANE_PRBS_BITS_HI, 0x2044c, 0, [(8, 0x2000, 4), (4, 0x400, 1), (2, 0x200, 32)]⟩,
  ⟨.QUAD_CTL, 0x20000, 0, [(8, 0x2000, 1)]⟩,
  ⟨.QUAD_STAT, 0x20004, 0, [(8, 0x2000, 1)]⟩,
  ⟨.PHR_CTL, 0x21800, 0, [(8, 0x2000, 1)]⟩,
  ⟨.PHR_STAT, 0x21804, 0, [(8, 0x2000, 1)]⟩,
  ⟨.PHR_WDOG, 0x21808, 0, [(8, 0x2000, 1)]⟩,
  ⟨.PHR_ID, 0x2180c, 0, [(8, 0x2000, 1)]⟩,
  ⟨.LANE_PRBS_USR_LO, 0x20438, 0, [(8, 0x2000, 4), (4, 0x400, 1), (2, 0x200, 32)]⟩,
  ⟨.LANE_PRBS_USR_HI, 0x2043c, 0, [(8, 0x2000, 4), (4, 0x400, 1), (2, 0x200, 32)]⟩]

/-- The registers of the SPARE range (R396). -/
def RegMap.spare : List RegRow := [
  ⟨.LANE_RX_CTL, 0x30400, 64, [(2, 0x200, 1)]⟩,
  ⟨.LANE_TX_CTL, 0x30404, 64, [(2, 0x200, 1)]⟩,
  ⟨.LANE_TX_COEF, 0x30408, 64, [(2, 0x200, 1)]⟩,
  ⟨.LANE_RX_STAT, 0x30410, 64, [(2, 0x200, 1)]⟩,
  ⟨.LANE_RX_EQ, 0x30418, 64, [(2, 0x200, 1)]⟩,
  ⟨.LANE_EQ_STAT, 0x30414, 64, [(2, 0x200, 1)]⟩,
  ⟨.LANE_SLICE_STAT, 0x3041c, 64, [(2, 0x200, 1)]⟩,
  ⟨.LANE_EB_STAT, 0x30420, 64, [(2, 0x200, 1)]⟩,
  ⟨.LANE_EB_CFG, 0x30424, 64, [(2, 0x200, 1)]⟩,
  ⟨.LANE_ERR_CNT, 0x30428, 64, [(2, 0x200, 1)]⟩,
  ⟨.LANE_ECHO_CTL, 0x30430, 64, [(2, 0x200, 1)]⟩,
  ⟨.LANE_PRBS_CTL, 0x30434, 64, [(2, 0x200, 1)]⟩,
  ⟨.LANE_PRBS_STAT, 0x30440, 64, [(2, 0x200, 1)]⟩,
  ⟨.LANE_PRBS_ERR, 0x30444, 64, [(2, 0x200, 1)]⟩,
  ⟨.LANE_PRBS_BITS_LO, 0x30448, 64, [(2, 0x200, 1)]⟩,
  ⟨.LANE_PRBS_BITS_HI, 0x3044c, 64, [(2, 0x200, 1)]⟩,
  ⟨.SPARE_CFG, 0x30000, 0, []⟩,
  ⟨.SPARE_CTL, 0x30004, 0, []⟩,
  ⟨.SPARE_THR, 0x30008, 0, []⟩,
  ⟨.SPARE_STAT, 0x30010, 0, [(2, 0x4, 1)]⟩,
  ⟨.SPARE_CNT, 0x30018, 0, []⟩,
  ⟨.LANE_PRBS_USR_LO, 0x30438, 64, [(2, 0x200, 1)]⟩,
  ⟨.LANE_PRBS_USR_HI, 0x3043c, 64, [(2, 0x200, 1)]⟩]

/-- The registers of the PORT range (R396). -/
def RegMap.port : List RegRow := [
  ⟨.PORT_CTL, 0x10000, 0, [(16, 0x1000, 1)]⟩,
  ⟨.PORT_CFG, 0x10004, 0, [(16, 0x1000, 1)]⟩,
  ⟨.PORT_STAT, 0x10010, 0, [(16, 0x1000, 1)]⟩,
  ⟨.PORT_LINK_STAT, 0x10014, 0, [(16, 0x1000, 1)]⟩,
  ⟨.PORT_EQ_CFG, 0x10020, 0, [(16, 0x1000, 1)]⟩,
  ⟨.PORT_EQ_STAT, 0x10024, 0, [(16, 0x1000, 1)]⟩,
  ⟨.PORT_TMO_CFG, 0x10028, 0, [(16, 0x1000, 1)]⟩,
  ⟨.PORT_LDN_LOG, 0x10030, 0, [(16, 0x1000, 1)]⟩,
  ⟨.PORT_LDN_CNT, 0x10034, 0, [(16, 0x1000, 1)]⟩,
  ⟨.PORT_LDN_DRIP_LO, 0x10038, 0, [(16, 0x1000, 1)]⟩,
  ⟨.PORT_LDN_DRIP_HI, 0x1003c, 0, [(16, 0x1000, 1)]⟩,
  ⟨.PORT_TRN_CNT, 0x10040, 0, [(16, 0x1000, 1)]⟩,
  ⟨.PORT_HP_STAT, 0x10044, 0, [(16, 0x1000, 1)]⟩,
  ⟨.PORT_BIND, 0x10048, 0, [(16, 0x1000, 1)]⟩,
  ⟨.PORT_FLIT_CFG, 0x10080, 0, [(16, 0x1000, 1)]⟩,
  ⟨.PORT_FLIT_STAT, 0x10084, 0, [(16, 0x1000, 1)]⟩,
  ⟨.PORT_FLIT_CTL, 0x10088, 0, [(16, 0x1000, 1)]⟩,
  ⟨.PORT_FLIT_LOCK_CNT, 0x1008c, 0, [(16, 0x1000, 1)]⟩,
  ⟨.PORT_ERRATA_SENT, 0x10120, 0, [(16, 0x1000, 1)]⟩,
  ⟨.PORT_ERRATA_CNT, 0x10124, 0, [(16, 0x1000, 1)]⟩,
  ⟨.PORT_ERRATA_STAT, 0x10128, 0, [(16, 0x1000, 1)]⟩,
  ⟨.PORT_CAP_CFG, 0x10140, 0, [(16, 0x1000, 1)]⟩,
  ⟨.PORT_CAP_CTL, 0x10144, 0, [(16, 0x1000, 1)]⟩,
  ⟨.PORT_CAP_STAT, 0x10148, 0, [(16, 0x1000, 1)]⟩,
  ⟨.PORT_CAP_TREC, 0x1014c, 0, [(16, 0x1000, 1)]⟩,
  ⟨.PORT_CAP_LOST, 0x10150, 0, [(16, 0x1000, 1)]⟩,
  ⟨.PORT_FEC_FLITS_LO, 0x100a0, 0, [(16, 0x1000, 2), (2, 0x40, 1)]⟩,
  ⟨.PORT_FEC_FLITS_HI, 0x100a4, 0, [(16, 0x1000, 2), (2, 0x40, 1)]⟩,
  ⟨.PORT_FEC_CORR, 0x100a8, 0, [(16, 0x1000, 2), (2, 0x40, 1)]⟩,
  ⟨.PORT_FEC_SYM, 0x100ac, 0, [(16, 0x1000, 2), (2, 0x40, 1)]⟩,
  ⟨.PORT_FEC_UNCORR, 0x100b0, 0, [(16, 0x1000, 2), (2, 0x40, 1)]⟩,
  ⟨.PORT_FEC_CRCBAD, 0x100b4, 0, [(16, 0x1000, 2), (2, 0x40, 1)]⟩,
  ⟨.PORT_FEC_OOS, 0x100b8, 0, [(16, 0x1000, 2), (2, 0x40, 1)]⟩,
  ⟨.PORT_FEC_OPAQUE, 0x100bc, 0, [(16, 0x1000, 2), (2, 0x40, 1)]⟩,
  ⟨.PORT_FEC_LANE, 0x100c0, 0, [(16, 0x1000, 16), (2, 0x40, 8), (8, 0x4, 1)]⟩,
  ⟨.PORT_CAP_MATCH_LO, 0x10154, 0, [(16, 0x1000, 1)]⟩,
  ⟨.PORT_CAP_MATCH_HI, 0x10158, 0, [(16, 0x1000, 1)]⟩,
  ⟨.PORT_CAP_MASK_LO, 0x1015c, 0, [(16, 0x1000, 1)]⟩,
  ⟨.PORT_CAP_MASK_HI, 0x10160, 0, [(16, 0x1000, 1)]⟩,
  ⟨.PORT_CAP_TDRIP_LO, 0x10164, 0, [(16, 0x1000, 1)]⟩,
  ⟨.PORT_CAP_TDRIP_HI, 0x10168, 0, [(16, 0x1000, 1)]⟩]

/-- The registers of the CMP range (R396). -/
def RegMap.cmp : List RegRow := [
  ⟨.CMP_CSB_CTL, 0x40000, 0, []⟩,
  ⟨.CMP_CSB_CFG, 0x40004, 0, []⟩,
  ⟨.CMP_CSB_STAT, 0x40008, 0, []⟩,
  ⟨.CMP_CSB_CNT, 0x4000c, 0, []⟩,
  ⟨.CMP_CSB_CNT2, 0x40010, 0, []⟩,
  ⟨.CMP_CFG, 0x40014, 0, []⟩,
  ⟨.CMP_PORT_STAT, 0x40100, 0, [(16, 0x10, 1)]⟩,
  ⟨.CMP_PORT_CNT, 0x40104, 0, [(16, 0x10, 1)]⟩,
  ⟨.CMP_PORT_ROW, 0x40108, 0, [(16, 0x10, 1)]⟩,
  ⟨.CMP_SLOT_CTL, 0x40400, 0, []⟩,
  ⟨.CMP_Q_WM, 0x40404, 0, [(5, 0x4, 1)]⟩,
  ⟨.CMP_SHAPE_CFG, 0x40800, 0, [(16, 0x80, 1)]⟩,
  ⟨.CMP_POLICE_CFG, 0x40804, 0, [(16, 0x80, 1)]⟩,
  ⟨.CMP_HOLD_CFG, 0x40808, 0, [(16, 0x80, 1)]⟩,
  ⟨.CMP_TOKEN_STAT, 0x4080c, 0, [(16, 0x80, 1)]⟩,
  ⟨.CMP_RPL_SENT, 0x40810, 0, [(16, 0x80, 1)]⟩,
  ⟨.CMP_RPL_CNT, 0x40814, 0, [(16, 0x80, 1)]⟩,
  ⟨.CMP_RPL_CNT2, 0x40818, 0, [(16, 0x80, 1)]⟩,
  ⟨.CMP_HOLD_CNT, 0x4081c, 0, [(16, 0x80, 1)]⟩,
  ⟨.CMP_HOLD_CNT2, 0x40820, 0, [(16, 0x80, 1)]⟩,
  ⟨.CMP_SLOT_CNT, 0x40824, 0, [(16, 0x80, 1)]⟩,
  ⟨.CMP_POLICE_CNT, 0x40828, 0, [(16, 0x80, 1)]⟩,
  ⟨.CMP_POLICE_LAST, 0x4082c, 0, [(16, 0x80, 1)]⟩,
  ⟨.CMP_Q_STAT, 0x40840, 0, [(16, 0x80, 5), (5, 0x4, 1)]⟩]

/-- The registers of the HEAT range (R396). -/
def RegMap.heat : List RegRow := [
  ⟨.HEAT_CTL, 0x50000, 0, []⟩,
  ⟨.HEAT_CFG, 0x50004, 0, []⟩,
  ⟨.HEAT_EPOCH_CFG, 0x50008, 0, []⟩,
  ⟨.HEAT_STAT, 0x50010, 0, []⟩,
  ⟨.HEAT_EPOCH, 0x50014, 0, []⟩,
  ⟨.HEAT_EPOCH_AGE, 0x50018, 0, []⟩,
  ⟨.HEAT_SWAP_CNT, 0x5001c, 0, []⟩,
  ⟨.HEAT_BANK_EPOCH, 0x50020, 0, [(2, 0x10, 1)]⟩,
  ⟨.HEAT_BANK_START_LO, 0x50024, 0, [(2, 0x10, 1)]⟩,
  ⟨.HEAT_BANK_START_HI, 0x50028, 0, [(2, 0x10, 1)]⟩,
  ⟨.HEAT_BANK_LEN, 0x5002c, 0, [(2, 0x10, 1)]⟩,
  ⟨.HEAT_PCTL, 0x50100, 0, [(16, 0x40, 1)]⟩,
  ⟨.HEAT_PCFG, 0x50104, 0, [(16, 0x40, 1)]⟩,
  ⟨.HEAT_PBASE, 0x50108, 0, [(16, 0x40, 1)]⟩,
  ⟨.HEAT_PRANGE, 0x5010c, 0, [(16, 0x40, 1)]⟩,
  ⟨.HEAT_EXP_STAT, 0x50110, 0, [(16, 0x40, 1)]⟩,
  ⟨.HEAT_EXP_CNT, 0x50114, 0, [(16, 0x40, 1)]⟩,
  ⟨.HEAT_PLFSR, 0x50118, 0, [(16, 0x40, 1)]⟩,
  ⟨.HEAT_LOST, 0x50120, 0, [(16, 0x40, 2), (2, 0x10, 1)]⟩,
  ⟨.HEAT_UNMAP, 0x50124, 0, [(16, 0x40, 2), (2, 0x10, 1)]⟩,
  ⟨.HEAT_OPAQUE, 0x50128, 0, [(16, 0x40, 2), (2, 0x10, 1)]⟩,
  ⟨.HEAT_FOVF, 0x5012c, 0, [(16, 0x40, 2), (2, 0x10, 1)]⟩,
  ⟨.HEAT_ZCTL, 0x50500, 0, [(16, 0x10, 1)]⟩,
  ⟨.HEAT_ZCFG, 0x50504, 0, [(16, 0x10, 1)]⟩,
  ⟨.HEAT_ZBASE, 0x50508, 0, [(16, 0x10, 1)]⟩]

/-- The registers of the CLK range (R396). -/
def RegMap.clk : List RegRow := [
  ⟨.CLK_SRC, 0x1000, 0, []⟩,
  ⟨.CLK_STAT, 0x1004, 0, []⟩,
  ⟨.CLK_LOSS_CNT, 0x1008, 0, []⟩,
  ⟨.CLK_CTL, 0x100c, 0, []⟩,
  ⟨.CLK_FM_CTL, 0x1010, 0, []⟩,
  ⟨.CLK_FM_RES, 0x1014, 0, []⟩,
  ⟨.CLK_DRIP_LO, 0x1020, 0, []⟩,
  ⟨.CLK_DRIP_HI, 0x1024, 0, []⟩,
  ⟨.CLK_TSYNC_CFG, 0x1030, 0, []⟩,
  ⟨.CLK_TSYNC_CTL, 0x1034, 0, []⟩,
  ⟨.CLK_TSYNC_STAT, 0x1038, 0, []⟩,
  ⟨.CLK_TSYNC_LOAD_LO, 0x103c, 0, []⟩,
  ⟨.CLK_TSYNC_LOAD_HI, 0x1040, 0, []⟩,
  ⟨.CLK_TSYNC_CNT, 0x1044, 0, []⟩,
  ⟨.CLK_SCHED_TGT_LO, 0x1100, 0, [(8, 0x10, 1)]⟩,
  ⟨.CLK_SCHED_TGT_HI, 0x1104, 0, [(8, 0x10, 1)]⟩,
  ⟨.CLK_SCHED_CTL, 0x1108, 0, [(8, 0x10, 1)]⟩,
  ⟨.CLK_SCHED_STAT, 0x110c, 0, [(8, 0x10, 1)]⟩]

/-- The registers of the PWR range (R396). -/
def RegMap.pwr : List RegRow := [
  ⟨.PWR_CTL, 0x2000, 0, []⟩,
  ⟨.PWR_STAT, 0x2004, 0, []⟩,
  ⟨.PWR_VMON0, 0x2008, 0, []⟩,
  ⟨.PWR_VMON1, 0x200c, 0, []⟩,
  ⟨.PWR_AVS_CFG, 0x2010, 0, []⟩,
  ⟨.PWR_AVS_STAT, 0x2014, 0, []⟩,
  ⟨.PWR_DOM_STAT, 0x2018, 0, []⟩,
  ⟨.PWR_TEMP, 0x2020, 0, [(10, 0x4, 1)]⟩,
  ⟨.PWR_THERM_CFG, 0x2048, 0, []⟩,
  ⟨.PWR_THERM_STAT, 0x204c, 0, []⟩,
  ⟨.PWR_CAL_CFG, 0x2060, 0, []⟩,
  ⟨.PWR_ZREF_STAT, 0x2064, 0, []⟩,
  ⟨.PWR_CNT, 0x2068, 0, []⟩,
  ⟨.PWR_CAL_STAT, 0x2080, 0, [(8, 0x4, 1)]⟩,
  ⟨.PWR_TXSTOP_O, 0x20a0, 0, []⟩,
  ⟨.PWR_TXSTOP_I, 0x20a4, 0, []⟩,
  ⟨.PWR_TXSTOP_S, 0x20a8, 0, []⟩]

/-- The registers of the MGMT range (R396). -/
def RegMap.mgmt : List RegRow := [
  ⟨.MGMT_CTL, 0x60000, 0, []⟩,
  ⟨.MGMT_STAT, 0x60004, 0, []⟩,
  ⟨.MGMT_BUS_CFG, 0x60008, 0, []⟩,
  ⟨.MGMT_BUS_STAT, 0x6000c, 0, []⟩,
  ⟨.MGMT_ACL_MCTP, 0x60010, 0, []⟩,
  ⟨.MGMT_ACL_CSB, 0x60014, 0, []⟩,
  ⟨.MGMT_VDM_ID, 0x60018, 0, []⟩,
  ⟨.MGMT_CNT, 0x6001c, 0, []⟩,
  ⟨.MGMT_SEC_STAT, 0x60020, 0, []⟩,
  ⟨.MGMT_SEC_CNT, 0x60024, 0, []⟩,
  ⟨.MGMT_VIEW_CTL, 0x60100, 0, [(17, 0x40, 1)]⟩,
  ⟨.MGMT_VIEW_STAT, 0x60104, 0, [(17, 0x40, 1)]⟩,
  ⟨.MGMT_VIEW_SEQ, 0x60108, 0, [(17, 0x40, 1)]⟩,
  ⟨.MGMT_VIEW_PTR, 0x6010c, 0, [(17, 0x40, 1)]⟩,
  ⟨.MGMT_VIEW_POL, 0x60110, 0, [(17, 0x40, 1)]⟩,
  ⟨.MGMT_VIEW_CNT, 0x60114, 0, [(17, 0x40, 1)]⟩,
  ⟨.MGMT_VIEW_CNT2, 0x60118, 0, [(17, 0x40, 1)]⟩,
  ⟨.MGMT_VIEW_CNT3, 0x6011c, 0, [(17, 0x40, 1)]⟩,
  ⟨.MGMT_VIEW_LAST, 0x60120, 0, [(17, 0x40, 1)]⟩,
  ⟨.MGMT_VIEW_BLOB, 0x60800, 0, [(17, 0x40, 16), (16, 0x4, 1)]⟩]

/-- The registers of the BOOT range (R396). -/
def RegMap.boot : List RegRow := [
  ⟨.BOOT_STAT, 0x4000, 0, []⟩,
  ⟨.BOOT_ERR, 0x4004, 0, []⟩,
  ⟨.BOOT_BANK, 0x4008, 0, []⟩,
  ⟨.BOOT_FW_VER_A, 0x400c, 0, []⟩,
  ⟨.BOOT_FW_VER_B, 0x4010, 0, []⟩,
  ⟨.BOOT_SV_VER_A, 0x4014, 0, []⟩,
  ⟨.BOOT_SV_VER_B, 0x4018, 0, []⟩,
  ⟨.BOOT_TIME, 0x401c, 0, []⟩,
  ⟨.BOOT_SPI_CFG, 0x4020, 0, []⟩,
  ⟨.BOOT_SPI_STAT, 0x4024, 0, []⟩,
  ⟨.BOOT_FLASH_ID, 0x4028, 0, []⟩,
  ⟨.BOOT_UPD_CFG, 0x4030, 0, []⟩,
  ⟨.BOOT_UPD_CTL, 0x4034, 0, []⟩,
  ⟨.BOOT_UPD_STAT, 0x4038, 0, []⟩,
  ⟨.BOOT_UPD_CNT, 0x403c, 0, []⟩,
  ⟨.BOOT_LOG_STAT, 0x4040, 0, []⟩]

/-- The registers of the GLB range (R396). -/
def RegMap.glb : List RegRow := [
  ⟨.GLB_TALLY, 0x100, 0, []⟩,
  ⟨.GLB_TALLY_REF, 0x104, 0, []⟩,
  ⟨.GLB_TALLY_STAGE, 0x108, 0, []⟩,
  ⟨.GLB_TALLY_CTL, 0x10c, 0, []⟩,
  ⟨.GLB_TALLY_STAT, 0x110, 0, []⟩,
  ⟨.GLB_TALLY_CDRIP_LO, 0x114, 0, []⟩,
  ⟨.GLB_TALLY_CDRIP_HI, 0x118, 0, []⟩,
  ⟨.GLB_TALLY_SNAP, 0x11c, 0, []⟩,
  ⟨.GLB_TALLY_SNAP_DRIP_LO, 0x120, 0, []⟩,
  ⟨.GLB_TALLY_SNAP_DRIP_HI, 0x124, 0, []⟩,
  ⟨.GLB_ID, 0x0, 0, []⟩,
  ⟨.GLB_UID_LO, 0x4, 0, []⟩,
  ⟨.GLB_UID_HI, 0x8, 0, []⟩,
  ⟨.GLB_RST, 0x10, 0, []⟩,
  ⟨.GLB_RST_CAUSE, 0x14, 0, []⟩,
  ⟨.GLB_BIFUR, 0x18, 0, []⟩,
  ⟨.GLB_MODE, 0x1c, 0, []⟩,
  ⟨.GLB_LOCK, 0x20, 0, []⟩,
  ⟨.GLB_WERR, 0x24, 0, []⟩,
  ⟨.GLB_WERR_ADDR, 0x28, 0, []⟩]

/-- The registers of the SUMP range (R396). -/
def RegMap.sump : List RegRow := [
  ⟨.SUMP_CTL, 0x3000, 0, []⟩,
  ⟨.SUMP_STAT, 0x3004, 0, []⟩,
  ⟨.SUMP_FORCE, 0x3008, 0, []⟩,
  ⟨.SUMP_CLR, 0x300c, 0, []⟩,
  ⟨.SUMP_PEND, 0x3010, 0, [(4, 0x4, 1)]⟩,
  ⟨.SUMP_SEV, 0x3020, 0, [(4, 0x4, 1)]⟩,
  ⟨.SUMP_QSTOP_CFG, 0x3040, 0, []⟩,
  ⟨.SUMP_QSTOP_STAT, 0x3044, 0, []⟩,
  ⟨.SUMP_QSTOP_CNT, 0x3048, 0, []⟩,
  ⟨.SUMP_LWDOG_CFG, 0x3050, 0, []⟩,
  ⟨.SUMP_LWDOG_CTL, 0x3054, 0, []⟩,
  ⟨.SUMP_LWDOG_STAT, 0x3058, 0, []⟩,
  ⟨.SUMP_ECC_CFG, 0x3100, 0, [(9, 0x20, 1)]⟩,
  ⟨.SUMP_ECC_STAT, 0x3104, 0, [(9, 0x20, 1)]⟩,
  ⟨.SUMP_ECC_LAST, 0x3108, 0, [(9, 0x20, 1)]⟩,
  ⟨.SUMP_SCRUB_LAP, 0x310c, 0, [(9, 0x20, 1)]⟩,
  ⟨.SUMP_SCRUB_AGE, 0x3110, 0, [(9, 0x20, 1)]⟩,
  ⟨.SUMP_ATTR_DOWN, 0x3300, 0, [(16, 0x4, 1)]⟩,
  ⟨.SUMP_SRC_CFG, 0x3800, 0, [(128, 0x10, 1)]⟩,
  ⟨.SUMP_SRC_STAT, 0x3804, 0, [(128, 0x10, 1)]⟩,
  ⟨.SUMP_CAP_INFO, 0x3808, 0, [(128, 0x10, 1)]⟩,
  ⟨.SUMP_CAP_DRIP, 0x380c, 0, [(128, 0x10, 1)]⟩]

/-- The registers of the COMPAT range (R396). -/
def RegMap.compat : List RegRow := [
  ⟨.CW_WBUF, 0xf00c, 0, []⟩,
  ⟨.CW_LANE_CTL, 0x8000, 0, [(16, 0x400, 1), (2, 0x200, 32)]⟩,
  ⟨.CW_LANE_COEF, 0x8004, 0, [(16, 0x400, 1), (2, 0x200, 32)]⟩,
  ⟨.CW_LANE_STAT, 0x8010, 0, [(16, 0x400, 1), (2, 0x200, 32)]⟩,
  ⟨.CW_LANE_ERR, 0x8014, 0, [(16, 0x400, 1), (2, 0x200, 32)]⟩,
  ⟨.CW_PORT_CTL, 0xc000, 0, [(8, 0x100, 1)]⟩,
  ⟨.CW_PORT_CFG, 0xc004, 0, [(8, 0x100, 1)]⟩,
  ⟨.CW_PORT_STAT, 0xc010, 0, [(8, 0x100, 1)]⟩,
  ⟨.CW_PORT_LDN, 0xc014, 0, [(8, 0x100, 1)]⟩,
  ⟨.CW_ID, 0xf000, 0, []⟩,
  ⟨.CW_BIFUR, 0xf004, 0, []⟩,
  ⟨.CW_DRIP, 0xf008, 0, []⟩]

end Sys2Proof.Machine
end

