-- ==== Sys2Proof/Machine/State.lean ====
section
/-! DEFINITION. The state of the ER3234: its registers (field by field, sparse), its addressed memories, and the state of
its engines that no register holds; the reasons a command can stop; and the state after reset. All of it is plain data. -/
namespace Sys2Proof.Machine

/-- A sump event on its way to the sump: source, instance, detail, and whether SUMP_FORCE made it (R370, R381). -/
structure Ev where
  src : Nat
  inst : Nat
  detail : Nat
  forced : Bool
deriving DecidableEq, Repr

/-- A CSB frame to send or sent and not yet acknowledged (R171, R172); `ring` names the view and the ring pointer of the
response entry that a MGMT frame carries (R311), `hw` the view of a hardware response (R312). -/
structure CsbFrame where
  type : Nat
  vc : Nat
  seq : Nat
  payload : List Nat
  ring : Option (Nat × Nat)
  hw : Option Nat
deriving DecidableEq, Repr

/-- How a transmitter drives its lane: the de-emphasis (−6 dB or −3.5 dB) and swing of 2.5 and 5 GT/s, or the four taps of
R52 as magnitudes (R53, R54). -/
inductive Drive where
  | deemphasis (sixDb reduced : Bool)
  | fir (cm2 cm1 c0 cp1 : Nat)
deriving DecidableEq, Repr

/-- What the device drives in one command: the observable answers and actions of the command. -/
inductive Out where
  /-- A training set forwarded on a side of a port: as received but for what R85, R87 and R52 let the device decide. -/
  | trainSet (port : Nat) (inner : Bool) (set : TrainSet)
  /-- The device's own TS1 ordered sets on a side (R112, R163, R167). -/
  | ts1 (port : Nat) (inner : Bool)
  /-- Training sets of the current phase with the hold indication (R93, R162). -/
  | holdPhase (port : Nat) (inner : Bool)
  /-- A transmitter of a lane-side entering or leaving electrical idle. -/
  | txIdle (ls : Nat) (idle : Bool)
  /-- A coefficient or preset request sent to the link partner by the pseudo port of a side (R91). -/
  | eqRequest (port : Nat) (inner : Bool) (req : CoefReq)
  /-- A coefficient request answered: applied or rejected (R94). -/
  | eqAnswer (ls : Nat) (applied : Bool)
  /-- A Lane Margining command answered by the device: 0 ready, 1 lane not ready, 2 not supported (R104, R105, R66). -/
  | margin (port lane rxnum : Nat) (answer : Nat)
  /-- A parameter of Lane Margining reported (R65, R104). -/
  | marginReport (port lane rxnum : Nat) (param : MarginParam) (value : Nat)
  /-- A Lane Margining command for another receiver, or a response, forwarded unchanged (R104). -/
  | marginFwd (port lane rxnum : Nat) (ask : MarginAsk)
  /-- What a lane-side's transmitter drives after a change of its settings (R53, R54). -/
  | drive (ls : Nat) (d : Drive)
  /-- A pattern generator's stream begins on a lane-side, at a rate: its first 64 bits, one to a symbol at an NRZ rate, two to a
  symbol at a PAM4 rate (R68). -/
  | pattern (ls rate : Nat) (symbols : List Nat)
  /-- A flit sent on: the bytes that leave (R130, R209), as one flit of the direction. -/
  | flit (port dir : Nat) (bytes : List Nat)
  /-- A surplus slot sent (R190). -/
  | slot (port : Nat) (bytes : List Nat)
  /-- SKP symbols added (positive) or removed in an ordered set (R58). -/
  | skp (ls : Nat) (added : Int)
  /-- A CSB frame sent: its bytes between K27.7 and K29.7 (R171). -/
  | csb (bytes : List Nat)
  /-- A receiver termination of a lane of a side switched (R86). -/
  | term (ls : Nat) (on : Bool)
  /-- The answer to a management read: the word read. -/
  | readData (value : Nat)
  /-- A management access that ends in a bus error (R14, R255, R385, R397, R408). -/
  | busError
  /-- A management write acknowledged (R401). -/
  | writeAck
  /-- Bytes returned on the management bus (I3C, SMBus), or a message answered through it. -/
  | bus (bytes : List Nat)
  /-- The bus interface does not acknowledge a command. -/
  | nack
  /-- A gating request is deferred, and answered busy (R34). -/
  | busy
  /-- An I3C in-band interrupt for a waiting packet, with its Mandatory Data Byte (R298). -/
  | ibi (mdb : Nat)
  /-- A message of a management protocol answered: MCTP control, SPDM or PLDM, by its response code and content. -/
  | message (dest tag code : Nat) (bytes : List Nat)
  /-- The request for regulator voltage on the AVSBus (R278). -/
  | avsCommand (mv : Nat)
  /-- The boundary cells take over the balls (R431). -/
  | extest (ins : TapIns)
  /-- The TIMESYNC pulse of mode 2 (R262). -/
  | timesync
deriving DecidableEq, Repr

/-- A request of a pseudo port in Execution mode: its progress through the trials of R91, the setting under trial, and the
presets not yet tried. -/
structure Exec where
  trials : Nat
  scored : Nat
  best : Option (CoefReq × Nat)
  repeated : Bool
  cur : CoefReq
  untried : List Nat
deriving DecidableEq, Repr

/-- A pending erratum entry (R133): the flit it names, its issue, its pairs, the number of the row (counted from row 0 of
the data stream) of the flit, the row whose slot is its deadline, the first row whose slot may carry it, and how many slots
have passed since it became complete (R212). -/
structure ErrEntry where
  row : Nat
  index : Nat
  issue : Nat
  pairs : List (Nat × Nat)
  born : Nat
  first : Nat
  due : Nat
  age : Nat
deriving DecidableEq, Repr

/-- An accepted replay request (R207). -/
structure RplReq where
  row : Nat
  index : Nat
  age : Nat
deriving DecidableEq, Repr

/-- A flit kept in the replay store (R136, R206): its position, body bytes, correction pairs once its decode has ended, and
how often it has been replayed. -/
structure RplEntry where
  pos : Nat
  body : List Nat
  pairs : List (Nat × Nat)
  issues : Nat
deriving DecidableEq, Repr

/-- A Hold request (R209, R210): the flit it names, whether it has been sent, and whether its flit still is in the Hold
store. -/
structure HoldReq where
  row : Nat
  index : Nat
  sent : Bool
  held : Bool
  age : Nat
deriving DecidableEq, Repr

/-- The outcome of a flit's decode (R127). -/
inductive Outcome where
  | clean | corrected | uncorrectable | crcBad
deriving DecidableEq, Repr

/-- A flit in the Hold store: as received, its outcome and corrections, its place on the inbound stream, and the replay
body that will leave in its place; the drip of its first symbol (R148). -/
structure HeldFlit where
  flit : Flit
  drip : Nat
  outcome : Outcome
  pairs : List (Nat × Nat)
  row : Nat
  index : Nat
  /-- The direction had lock at its decode; without, it leaves as received and is not handed over (R126). -/
  locked : Bool
  body : Option (List Nat × FlitInfo)
deriving DecidableEq, Repr

/-- How far an entry attempt to rows, or a fallback, has come (R161 to R164, R167). -/
inductive Attempt where
  | none
  /-- The lock test of R162; the flag says whether it runs in Recovery.RcvrLock (R163). -/
  | lock (bypass : Bool)
  /-- Companion equalization (R163). -/
  | ceq
  /-- FALLBACK sent; FALLBACK_ACK awaited (R164 step 2). -/
  | fbAck
  /-- The inner segment restarted at the target rate; locks awaited (R164 step 4, R167 step 3). -/
  | fbHold
  /-- The same in a fallback at a Recovery, which has stopped forwarding (R167). -/
  | fbStop
deriving DecidableEq, Repr

/-- The state of a port that its registers do not hold. -/
structure PortSt where
  /-- Start-up stage 11 has released the port (R106, R331). -/
  released : Bool := false
  /-- The port has reached L0 since its last entry to DETECT_QUIET (R108). -/
  reachedL0 : Bool := false
  /-- The cause that started a loss in progress and not yet recorded, with its drip (R109, R111, R375). -/
  noted : Option (Nat × Nat) := Option.none
  /-- The link-down recorded for the present loss, with its drip, until the port next reaches L0 (R109, R119). -/
  down : Option (Nat × Nat) := Option.none
  /-- Lanes found by receiver detection on each side, as bit maps of lane offsets; a side's termination is on where the
  other side found a receiver. Repeats since both sides of a lane were first found (R86). -/
  foundO : Nat := 0
  foundI : Nat := 0
  detectRetries : Nat := 0
  /-- Execution mode of the outer and inner pseudo ports (R84). -/
  execO : Option Exec := Option.none
  execI : Option Exec := Option.none
  /-- A phase transition held back by R93 or R162: the training set that leads to it. -/
  heldPhase : Option TrainSet := Option.none
  /-- The device sends TS1 on both sides, and the link ends seen in Recovery.RcvrLock since (R112). -/
  retraining : Bool := false
  retrO : Bool := false
  retrI : Bool := false
  /-- The flit format negotiated for the link, codes of R121. -/
  fmt : Nat := 0
  /-- The lanes of the trained width, by lane offset (R56, R89). -/
  trained : Nat := 0
  /-- The lanes that L0p has turned off, by lane offset (R99). -/
  offLanes : Nat := 0
  /-- The port entered CONFIG from POLLING_CONFIG since COMP last changed, its last reset or link-down (R389). -/
  configSeen : Bool := false
  /-- Drip of the last exit from L0 and whether attributable down time runs (R391). -/
  l0Exit : Nat := 0
  attrRun : Bool := false
  /-- PRSNT_Nn level now at the filter, 1 high (R107). -/
  prsntHigh : Bool := true
  /-- The correction mode each direction is to take, and whether the event of R24 that lets it has occurred. -/
  wantOI : Nat := 0
  wantIO : Nat := 0
  armedOI : Bool := false
  armedIO : Bool := false
  /-- A data stream runs (R124, R156). -/
  stream : Bool := false
  /-- Rows run (R156); flits sent and received since row 0, and slots of each stream decided or received. -/
  rows : Bool := false
  outPos : Nat := 0
  inPos : Nat := 0
  slotsOut : Nat := 0
  slotsIn : Nat := 0
  /-- The association asked for: a JOIN awaits its answer, and whether it was sent again after a CSB return (R159, R168). -/
  joinWait : Bool := false
  rejoin : Bool := false
  /-- A LEAVE waits for the next entry to Recovery (R166). -/
  leavePend : Bool := false
  /-- The inner segment runs at the companion rate (R165). -/
  innerComp : Bool := false
  /-- The entry attempt or fallback in progress, and what has been seen of it (R162 to R164). -/
  attempt : Attempt := .none
  peerLock : Bool := false
  ownLock : Bool := false
  ownCeq : Bool := false
  peerCeq : Bool := false
  /-- Consecutive inbound slots that failed their header check (R158). -/
  badRun : Nat := 0
  /-- Surplus-slot queues (R200, R205 to R211). -/
  errata : List ErrEntry := []
  errNum : Nat := 0
  rqn : Nat := 0
  rplReqs : List RplReq := []
  store : List RplEntry := []
  holdReqs : List HoldReq := []
  held : List HeldFlit := []
  refused : List Nat := []
  refOvf : Bool := false
  refAge : Nat := 0
  chunkAge : Nat := 0
  /-- Token buckets in sixteenths of a slot (R202) and the shaper and policer settings in force (R203). -/
  tok3 : Nat := 0
  tok4 : Nat := 0
  tokP : Nat := 0
  shape : Nat := 0x40402020
  police : Nat := 0x00012020
  /-- The capture records queued for writing, and the records still to queue after the trigger (R145, R149). -/
  capQueue : List (List Nat) := []
  capLeft : Nat := 0
  /-- The drip target had passed when the capture was armed (R146). -/
  capLate : Bool := false
deriving DecidableEq, Repr

/-- The state of a flit engine (one port, one direction) that registers do not hold (R124 to R128, R140). -/
structure FlitSt where
  goodRun : Nat := 0
  provFlits : Nat := 0
  failRun : Nat := 0
  expected : Option Nat := none
  ide : Bool := false
deriving DecidableEq, Repr

/-- The state of a lane-side that registers do not hold. -/
structure LaneSt where
  /-- The transmitter sends (it is not in electrical idle) (R89). -/
  tx : Bool := false
  /-- The rate code the lane-side runs at, and whether at the companion rate of it (R46). -/
  rate : Nat := 0
  comp : Bool := false
  /-- The equalizer holds converged values, not starting values (R51). -/
  converged : Bool := false
  /-- A margining step has been accepted and waits for its set-up (R105). -/
  marginReq : Bool := false
  /-- The receiver inverts the lane (R55); the preset hint its receiver starts from (R90); the −6 dB de-emphasis of 2.5 and
  5 GT/s (R53). -/
  invert : Bool := false
  hint : Option Nat := none
  sixDb : Bool := false
  /-- Failed ADC slices and failed transmitter legs, and the legs now out of service as replicas, the next to trim first
  (R48, R287, R289). -/
  badSlices : List Nat := []
  badLegs : List Nat := []
  spareLegs : List Nat := [48, 49]
  /-- Stored coefficients per rate, 1 + (preset × 2^24 + LANE_EQ_STAT bits 23:0), 0 for none; the companion rate of code r
  is key r + 8 (R95, R163). -/
  stored : SMap Nat := []
  /-- RELOCK entries in the sparing window, windows in a row that met the failure criterion, the latest LANE_HEALTH count with
  the windows since it came, and the symbols corrected in the window on the lane's logical lane (R175). -/
  relocks : Nat := 0
  badWindows : Nat := 0
  health : Nat := 0
  healthAge : Nat := 2
  syms : Nat := 0
  /-- Step corrections of calibration that wait, and the drip boundaries left of each gradual one (R290). -/
  corr : Nat := 0
  ramps : List Nat := []
  /-- The calibration run (R289): the slices and the number of legs still to go, whether a replica is being trimmed, and whether
  the slice and the leg in hand are in the first of their two drips. -/
  calSlices : List Nat := []
  calLegs : Nat := 0
  legTrim : Bool := false
  sliceHalf : Bool := false
  legHalf : Bool := false
deriving DecidableEq, Repr

/-- The state of the CSB link layer that registers do not hold (R170 to R173). -/
structure CsbSt where
  /-- Frames queued and not yet started, per virtual channel, and frames sent and not yet acknowledged, oldest first. -/
  q0 : List CsbFrame := []
  q1 : List CsbFrame := []
  un0 : List CsbFrame := []
  un1 : List CsbFrame := []
  /-- Sequence number of the next new frame, and the one expected next from the peer, per virtual channel. -/
  seq0 : Nat := 0
  seq1 : Nat := 0
  rx0 : Nat := 0
  rx1 : Nat := 0
  /-- The last sequence number received in order, 255 before any, and whether an acknowledgement is owed. -/
  last0 : Nat := 255
  last1 : Nat := 255
  ackDue0 : Bool := false
  ackDue1 : Bool := false
  /-- Heartbeat count of the next beacon, and the drip count of a beacon due (R173, R174). -/
  heartbeat : Nat := 0
  beaconDue : Option Nat := none
deriving DecidableEq, Repr

/-- The state of a spare that registers do not hold (R176 to R182). -/
structure SpareSt where
  /-- The device's own receiver, and the switch ASIC's by its latest SPARE_RX_ON, use the spare in place of the lane. -/
  rxOwn : Bool := false
  rxPeer : Bool := false
  /-- A SPARE_REQ or SPARE_REL of the device awaits its SPARE_RSP. -/
  asked : Bool := false
  /-- Steps of R178 reached: the spare sends the lane's copy; its receiver tracks; the measured offset (R178 step 4). -/
  copying : Bool := false
  tracked : Bool := false
  offset : Nat := 0
  /-- Drip of step 1 (R178). -/
  start : Nat := 0
  /-- The requests of this drip: the device's own by lane, port and cause, and those of the switch ASIC by lane and port
  (R177). -/
  wanted : List (Nat × Nat × Nat) := []
  peerWanted : List (Nat × Nat) := []
  /-- A spare granted waits for the end of a calibration step of its own (R291). -/
  waits : Bool := false
  /-- The procedure is abandoned, and the copy lasts until the receivers have returned (R180). -/
  ending : Bool := false
deriving DecidableEq, Repr

/-- An entry of a parser's bucket cache (R227): its memory, bank and index (zoom window z's entry e has index 4096 z + e),
its pending counts, and whether it is queued for write-back. -/
structure CacheEnt where
  zoom : Bool
  bank : Nat
  idx : Nat
  rd : Nat
  wr : Nat
  queued : Bool
deriving DecidableEq, Repr

/-- A lookup in a parser's input queue (R227). -/
structure Lookup where
  zoom : Bool
  bank : Nat
  idx : Nat
  isRead : Bool
deriving DecidableEq, Repr

/-- The state of a heat parser and partition that registers do not hold: cache and write-back queue in order (R227, R228),
input queue, the clear in progress with its bank, first entry and length (R224), and the export latched with its zoom
windows still to send and the chunk that is ready (R241, R201). -/
structure HeatP where
  cache : List CacheEnt := []
  wbq : List (Bool × Nat × Nat) := []
  queue : List Lookup := []
  clr : Option (Nat × Nat × Nat) := none
  exBank : Nat := 0
  exFirst : Nat := 0
  exLen : Nat := 0
  exZooms : List Nat := []
  chunk : Option (List Nat) := none
deriving DecidableEq, Repr

/-- An item of a port's class-3 queue (R200, R312): a response entry of the view's ring, by its pointer, or the bytes of a
hardware response, marked as one (R312); and how many slots have passed since it became complete (R212). -/
structure C3Item where
  ptr : Option Nat
  bytes : List Nat
  age : Nat
  hw : Bool
deriving DecidableEq, Repr

/-- The state of a view that registers do not hold (R308 to R321). -/
structure ViewSt where
  /-- Response ring: the next entry to hand to its transport, and handed entries already finished ahead of RSP_TX. -/
  handed : Nat := 0
  done : List Nat := []
  /-- The responses posted in the ring's entries and not yet overwritten, by entry number (R308, R310). -/
  past : SMap (List Nat) := []
  /-- Accepted GAP and RESYNC entries by ring pointer, with the QSEQ_NEXT each met; a RESYNC also with the requests then
  unanswered, times 65,536 (R304, R310). -/
  gaps : List (Nat × Nat) := []
  /-- The class-3 queue of the view's port (R200). -/
  q3 : List C3Item := []
  /-- The policer's bucket in sixteenths, and its settings in force, the reset value where none were written (R318). -/
  tok : Nat := 0
  pol : Option Nat := none
  /-- A save (true) or restore (false) under way, and the drip of the freeze (R320, R321). -/
  blobOp : Option Bool := none
  frozenAt : Nat := 0
  /-- A save of the view has completed (R304, R321); the view has been restored since its freeze (R239). -/
  savedOnce : Bool := false
  restored : Bool := false
deriving DecidableEq, Repr

/-- An MCTP packet that waits to be read on the management bus (R298, R301): whether it waits for an SMBus read, the view
whose response it belongs to with its ring pointer (none for a hardware response, which is marked), and whether it is its
message's last. -/
structure BusPkt where
  smbus : Bool
  view : Option Nat
  ptr : Option Nat
  hw : Bool
  last : Bool
  bytes : List Nat
deriving DecidableEq, Repr

/-- The state of the management bus target that registers do not hold (R298 to R301). -/
structure BusSt where
  mwl : Nat := 69
  mrl : Nat := 69
  ibi : Bool := false
  pkts : List BusPkt := []
deriving DecidableEq, Repr

/-- The state of the SPDM responder that registers do not hold (R324, R326): the endpoint whose response is being signed,
whether it is a CHALLENGE_AUTH, the measurement asked for, and the number of messages in the transcript. -/
structure SpdmSt where
  signing : Option (Nat × Bool) := none
  index : Nat := 0
  transcript : Nat := 0
deriving DecidableEq, Repr

/-- The state of the clocks and the timebase that registers do not hold (R250, R255 to R269). -/
structure ClkSt where
  /-- The sources lost and not returned: 0 crystal, 1 REFCLK_A, 2 REFCLK_B. -/
  lost : List Nat := []
  /-- The core PLL has locked since the latest reset (R250). -/
  coreLocked : Bool := false
  /-- The count of the last drip boundary, before any advance that is yet to act (R257, R266). -/
  last : Nat := 0
  /-- The counts of the drips before the one in progress, the latest first, two at most (R148). -/
  prev : List Nat := []
  /-- Nanoseconds from the last accepted (or missed) TIMESYNC edge to the start of the drip in progress (R262, R264). -/
  edgeAgo : Option Int := none
  /-- Accepted edges in a row with an error of at most 4 ns, and misses in a row (R264). -/
  good : Nat := 0
  missed : Nat := 0
  /-- The nanoseconds still to slew, and a step: the count of the next boundary and the length of the drip (R263). -/
  slew : Int := 0
  stepTo : Option (Nat × Int) := none
  /-- The correction that a beacon asked for at the next boundary, and beacons in a row that agreed (R265). -/
  beaconAdd : Option Int := none
  beaconGood : Nat := 0
  /-- The schedule slots armed with a target in the past (R269). -/
  late : List Nat := []
deriving DecidableEq, Repr

/-- The calibration of a quad beyond PWR_CAL_STAT (R282, R288, R289): drips of the run in progress, whether it is a start-up
run, whether a start-up run is still to come, whether a run starts at the next boundary, whether the quad's phrase has
overrun in this drip (R71), and the quads whose ungating comes before this quad's (R282). -/
structure CalSt where
  after : List Nat := []
  overrun : Bool := false
  drips : Nat := 0
  startup : Bool := false
  need : Bool := false
  req : Bool := false
deriving DecidableEq, Repr

/-- A PLDM firmware update in progress (R352 to R355): the update agent's endpoint and its largest transfer, the length of
the image being downloaded, how many of its bytes have arrived, and its header, which the Lantern SRAM holds; the components
applied and whether the agent has passed its last component. -/
structure PldmSt where
  agent : Nat := 0
  maxXfer : Nat := 1024
  size : Nat := 0
  got : Nat := 0
  header : List Nat := []
  applied : List Nat := []
  tableDone : Bool := false
deriving DecidableEq, Repr

/-- A tally pass under way (R349): the registers as the pass began, the drip boundaries since, and whether it began with
LRUN = 1. -/
structure TallyPass where
  regs : SMap Nat
  age : Nat
  lrun : Bool
deriving DecidableEq, Repr

/-- The state of start-up, update and the configuration tally that registers do not hold (R330 to R363). -/
structure BootSt where
  /-- What the flash holds, once read; the Survey key slots written, 2 and 3; the log area in use; the Survey shadow (R337 to
  R344). -/
  flash : Option Flash := none
  keys : List Nat := []
  area : Nat := 0
  survey : List SvRec := []
  svTally : Nat := 0
  /-- The banks chosen, with whether each runs as a trial (R340). -/
  fw : Option (Nat × Bool) := none
  sv : Option (Nat × Bool) := none
  /-- The start-up has ended early (R346). -/
  failed : Bool := false
  /-- A Lantern reset is under way since this drip; its firmware is another bank's than before (R333, R356). -/
  lantern : Option Nat := none
  newFw : Bool := false
  /-- Drips left of the confirmation window, and whether its first boundary is still to come (R357). -/
  window : Option Nat := none
  winNew : Bool := false
  /-- The conditions of an automatic confirmation: the trial began with an activation; the commit of stage 10 passed, or a
  pass matched; the swaps armed; a watchdog has fired (R357). -/
  byAct : Bool := false
  tallyOk : Bool := false
  swaps : List Nat := []
  wdog : Bool := false
  /-- The tally pass under way, and the commit and adopt asked for (R349, R351). -/
  pass : Option TallyPass := none
  /-- The ports still to be enabled at stage 11, the spacing, and the drips until the next one (R335). -/
  toRelease : List Nat := []
  relGap : Nat := 0
  relWait : Nat := 0
  commit : Bool := false
  adopt : Bool := false
  pldm : PldmSt := {}
deriving DecidableEq, Repr

/-- Why a command stops with a fault: behaviour that the spec calls unpredictable and gives no effect. All are safe. -/
inductive Fault where
  /-- A width map that R27 calls illegal is written at run time: "gives unpredictable results". Raised by writes of GLB_BIFUR. Safe. -/
  | illegalWidthMap
  /-- A management write lands in a ring entry the device owns: "unpredictable for that view" (R308, R390). Safe. -/
  | ringEntryOwned
  /-- A blob is restored into a view that is not frozen: "unpredictable for that view" (R321, R390). Safe. -/
  | blobNotFrozen
  /-- A write gives a reserved bit another value than it reads: "gives unpredictable results" (R14). Safe. -/
  | reservedBits
deriving DecidableEq, Repr

/-- Why a command is refused: it has no meaning in this model. -/
inductive Refusal where
  /-- The command has no meaning yet; raised by the dispatch alone. Safe. -/
  | notModelled (mnemonic : String)
  /-- The operands name no object of the device (a lane 99, a 300-byte slot): no such command exists. Raised by every meaning. Safe. -/
  | illFormed
deriving DecidableEq, Repr

/-- The state of the block. -/
structure State where
  /-- The commands that wait, first in, first out. -/
  pending : List Instr := []
  /-- Register fields that do not hold their reset values: the values the device works with, keyed by field and instance. -/
  regs : SMap Nat := []
  /-- The fields of mirror registers as a management read returns them (R15, R406), keyed as `regs`. -/
  mirr : SMap Nat := []
  /-- The addressed memories, by management address (R35, R396); an unlisted byte reads 0. -/
  mem : List Host.Cell := []
  ports : SMap PortSt := []
  flits : SMap FlitSt := []
  lanes : SMap LaneSt := []
  csb : CsbSt := {}
  spares : SMap SpareSt := []
  /-- Heat parsers by port; the bank of a zoom window's clear in progress, 1 + its number (R238). -/
  heats : SMap HeatP := []
  zclr : SMap Nat := []
  /-- LEN has been written since the last drip boundary (R235); the pairs of entry ranges, first entry and length, that two enabled
  partitions have shared since the reset (R223). -/
  lenWritten : Bool := false
  shared : List ((Nat × Nat) × (Nat × Nat)) := []
  clk : ClkSt := {}
  /-- A brown-out's power-on reset is held until its release (R275, R276). -/
  held : Bool := false
  /-- Calibration by quad; drips since the power-on reset, for the 10 ms of R276; the deferred request to gate the secure
  domain (R34). -/
  cals : SMap CalSt := []
  porDrips : Nat := 0
  secDefer : Option Bool := none
  /-- The numbers that the Lantern core's next visit may have, from 0; none while every visit passes (R314). -/
  visits : List Nat := []
  /-- Views 0 to 16, the management bus target and the SPDM responder. -/
  views : SMap ViewSt := []
  bus : BusSt := {}
  spdm : SpdmSt := {}
  /-- Start-up, update and tally; the snapshot latches by requester and register (R404); the staging words of writable pairs
  (R405); the writes buffered for the compatibility window, oldest first (R410). -/
  boot : BootSt := {}
  snaps : SMap Nat := []
  staged : SMap Nat := []
  compat : List (Nat × Nat) := []
  /-- Drips that a mismatch of R389 has lasted, by unit × 256 + instance. -/
  misAge : SMap Nat := []
  /-- Start of the counting window of each source, in drips (R373), and the conditions that last now: source, and
  instance + 256 × detail (R370). -/
  winStart : SMap Nat := []
  causes : List (Nat × Nat) := []
  /-- Corrected words waiting for their write-back: memory and word (R384); the scrubber's place in each memory (R386). -/
  eccPend : List (Nat × Nat) := []
  scrubPos : SMap Nat := []
  /-- ALIVE toggles, and its level (R379). -/
  aliveRun : Bool := false
  /-- Drips counted by the Lantern watchdog since its last kick, below a unit of 1,000 (R387). -/
  lwTicks : Nat := 0
  alive : Bool := false
  /-- Transmitters held in electrical idle by a source's lane reaction: source and lane-side (R375). -/
  holds : List (Nat × Nat) := []
  /-- The boundary-scan instruction that controls the balls, until the TAP is reset (R420, R431). -/
  tap : Option TapIns := none
  /-- The safe state (R376). -/
  safe : Bool := false
  /-- Sump events raised in the command under way and not yet counted; empty between commands. -/
  raised : List Ev := []
  /-- A write of the word in hand has been refused (the model's own field; R304 asks for it word by word). -/
  refusedNow : Bool := false
  /-- What the device drove in the latest command (the model's own field). -/
  out : List Out := []
  /-- How many free values have been used (the model's own field, log entry 3). -/
  fresh : Nat := 0
deriving DecidableEq, Repr

/-- The machine right after reset: every register at its reset value, nothing queued, no engine at work (R39, R40). -/
def State.reset : State := {}

end Sys2Proof.Machine
end

