-- ==== Sys2Proof/Machine/Ops.lean ====
section
/-! DEFINITION. The shared operations over the state: registers by field and instance, the addressed memories, the parts of
the state kept per port, direction and lane-side, sump events, outputs, free values, and the layout of lanes and ports. -/
namespace Sys2Proof.Machine

/-- What a command answers with. -/
abbrev Res := Host.Outcome State Fault Refusal

/-! Registers -/

/-- The key of a field of an instance in the register tables. -/
def Fld.key (f : Fld) (i : Nat) : Nat := f.id.val + 4096 * i

/-- Reset values of SUMP_SRC_CFG (R372, R418): per source N, W, WUNIT, REACT, FLT, IRQ. -/
def srcDefaults : List (Nat × Nat × Nat × Nat × Nat × Nat × Nat) := [
  (0, 1, 1, 0, 0, 1, 1), (1, 1, 1, 0, 2, 1, 1), (2, 1, 1, 0, 2, 1, 1), (3, 1, 1, 0, 0, 0, 1), (4, 1, 1, 0, 0, 0, 1),
  (5, 1, 1, 0, 0, 0, 1), (6, 1, 1, 0, 0, 1, 1), (7, 1, 1, 0, 1, 1, 1), (8, 1, 1, 0, 0, 0, 1), (9, 1, 1, 0, 0, 0, 2),
  (10, 1, 1, 0, 0, 0, 2), (11, 1, 1, 0, 0, 0, 2), (12, 1, 1, 0, 0, 0, 2), (13, 1, 1, 0, 0, 0, 1), (14, 1, 1, 0, 0, 0, 2),
  (15, 1, 1, 0, 0, 0, 1), (16, 1, 1, 0, 0, 0, 1), (17, 1, 1, 0, 0, 1, 1), (18, 1, 1, 0, 0, 0, 1), (19, 1, 1, 0, 0, 0, 2)]
  ++ [
  (32, 1, 1, 0, 0, 0, 1), (33, 1, 1, 0, 1, 1, 1), (34, 1, 1, 0, 0, 0, 1), (35, 1, 1, 0, 1, 1, 1), (36, 16, 1000, 0, 0, 0, 1),
  (37, 8, 1000, 0, 0, 0, 1), (48, 4, 1000, 1, 0, 0, 2), (49, 4, 1000, 0, 0, 0, 1), (50, 64, 1000, 0, 0, 0, 1),
  (51, 1, 1, 0, 0, 0, 1), (52, 1, 1, 0, 0, 0, 2), (53, 1, 1, 0, 0, 0, 1), (54, 1, 1, 0, 0, 0, 2), (55, 1, 1, 0, 0, 0, 1),
  (56, 1, 1, 0, 0, 0, 1), (57, 255, 250, 0, 0, 0, 1), (58, 1, 1, 0, 0, 0, 1)]

/-- The row of a source in the table of R372; none for a reserved number. -/
def srcRow (s : Nat) : Option (Nat × Nat × Nat × Nat × Nat × Nat) :=
  (srcDefaults.find? fun r => r.1 == s).map fun r => r.2

/-- Reset values that depend on the instance, the straps or the die (R40, R215, R246, R329, R372, R414, R418). The strap
values are those of pins read as 0; a reset command writes the sampled ones. -/
def Fld.instReset (f : Fld) (i : Nat) : Nat :=
  if f.id = F.HEAT_BANK_EPOCH_EPOCH.id then (if i = 1 then 0xFFFFFFFF else 0)
  else if f.id = F.HEAT_PLFSR_STATE.id then 0xACE1 ^^^ i
  else if f.id = F.CMP_Q_WM_DEPTH_WM.id then [8, 60, 24, 32, 8191].getD i 0
  else if f.id = F.CMP_Q_WM_DELAY_WM.id then [4, 2, 2, 64, 255].getD i 0
  else if f.id = F.MGMT_VIEW_POL_EN.id then (if i = 0 then 0 else 1)
  else if f.id = F.GLB_UID_LO_UID_LO.id then bits Config.dieNumber 0 32
  else if f.id = F.GLB_UID_HI_UID_HI.id then bits Config.dieNumber 32 32
  else if f.id = F.SUMP_SRC_CFG_N.id then ((srcRow i).map fun r => r.1).getD 0
  else if f.id = F.SUMP_SRC_CFG_W.id then ((srcRow i).map fun r => r.2.1).getD 0
  else if f.id = F.SUMP_SRC_CFG_WUNIT.id then ((srcRow i).map fun r => r.2.2.1).getD 0
  else if f.id = F.SUMP_SRC_CFG_REACT.id then ((srcRow i).map fun r => r.2.2.2.1).getD 0
  else if f.id = F.SUMP_SRC_CFG_FLT.id then ((srcRow i).map fun r => r.2.2.2.2.1).getD 0
  else if f.id = F.SUMP_SRC_CFG_IRQ.id then ((srcRow i).map fun r => r.2.2.2.2.2).getD 0
  else f.rst

/-- The reset value of a field of an instance (R40). -/
def Fld.reset (f : Fld) (i : Nat) : Nat := if f.byInst then f.instReset i else f.rst

/-- The value the device works with of a field of an instance. -/
def State.rd (s : State) (f : Fld) (i : Nat) : Nat := s.regs.get (f.key i) (f.reset i)

/-- Set a field of an instance; a field holds as many bits as it has. -/
def State.wr (s : State) (f : Fld) (i v : Nat) : State :=
  { s with regs := s.regs.set (f.key i) (v % 2 ^ f.w) (f.reset i) }

/-- Whether a one-bit field reads 1. -/
def State.flag (s : State) (f : Fld) (i : Nat) : Bool := s.rd f i == 1

/-- Set a field to the value it has after reset. -/
def State.rst (s : State) (f : Fld) (i : Nat) : State := s.wr f i (f.reset i)

/-- Set every field of a list to its reset value. -/
def State.rstAll (s : State) (fs : List Fld) (i : Nat) : State := fs.foldl (fun a f => a.rst f i) s

/-- The value of a mirrored field as management reads it (R15). -/
def State.rdMirror (s : State) (f : Fld) (i : Nat) : Nat := s.mirr.get (f.key i) (f.reset i)

/-- Set the mirrored value of a field. -/
def State.wrMirror (s : State) (f : Fld) (i v : Nat) : State :=
  { s with mirr := s.mirr.set (f.key i) (v % 2 ^ f.w) (f.reset i) }

/-- Set a live field and its mirrored value together. -/
def State.wrBoth (s : State) (f : Fld) (i v : Nat) : State := (s.wr f i v).wrMirror f i v

/-- Set a live field and its mirrored value to the reset value. -/
def State.rstBoth (s : State) (f : Fld) (i : Nat) : State := s.wrBoth f i (f.reset i)

/-! The addressed memories -/

/-- The byte at a management address; a byte nothing has written reads 0 (log entry 2). -/
def State.rdByte (s : State) (a : Nat) : Byte := SMap.get s.mem a 0

/-- Write one byte. -/
def State.wrByte (s : State) (a : Nat) (b : Byte) : State := { s with mem := SMap.set s.mem a b 0 }

/-- Write bytes at rising addresses. -/
def State.wrBytes (s : State) (a : Nat) : List Nat → State
  | [] => s
  | b :: t => (s.wrByte a (BitVec.ofNat 8 b)).wrBytes (a + 1) t

/-- Read n bytes at rising addresses. -/
def State.rdBytes (s : State) (a : Nat) : Nat → List Nat
  | 0 => []
  | n + 1 => (s.rdByte a).toNat :: s.rdBytes (a + 1) n

/-- The 32-bit little-endian word at an address. -/
def State.rdWord32 (s : State) (a : Nat) : Nat := ofLeBytes (s.rdBytes a 4)

/-- Write a 32-bit word, least significant byte at the lowest address. -/
def State.wrWord32 (s : State) (a v : Nat) : State := s.wrBytes a (leBytes v 4)

/-- The memories keep their canonical form: addresses strictly rising and no byte of value 0 listed. -/
def Memory.wf (m : List Host.Cell) : Bool := SMap.wf (fun _ => (0 : Byte)) m

/-! The parts kept per port, direction and lane-side -/

def State.port (s : State) (n : Nat) : PortSt := s.ports.get n {}
def State.setPort (s : State) (n : Nat) (p : PortSt) : State := { s with ports := s.ports.set n p {} }
def State.modPort (s : State) (n : Nat) (f : PortSt → PortSt) : State := s.setPort n (f (s.port n))

def State.fl (s : State) (k : Nat) : FlitSt := s.flits.get k {}
def State.setFl (s : State) (k : Nat) (p : FlitSt) : State := { s with flits := s.flits.set k p {} }
def State.modFl (s : State) (k : Nat) (f : FlitSt → FlitSt) : State := s.setFl k (f (s.fl k))

def State.lane (s : State) (k : Nat) : LaneSt := s.lanes.get k {}
def State.setLane (s : State) (k : Nat) (p : LaneSt) : State := { s with lanes := s.lanes.set k p {} }
def State.modLane (s : State) (k : Nat) (f : LaneSt → LaneSt) : State := s.setLane k (f (s.lane k))

def State.heat (s : State) (k : Nat) : HeatP := s.heats.get k {}
def State.setHeat (s : State) (k : Nat) (p : HeatP) : State := { s with heats := s.heats.set k p {} }
def State.modHeat (s : State) (k : Nat) (f : HeatP → HeatP) : State := s.setHeat k (f (s.heat k))

def State.view (s : State) (k : Nat) : ViewSt := s.views.get k {}
def State.setView (s : State) (k : Nat) (p : ViewSt) : State := { s with views := s.views.set k p {} }
def State.modView (s : State) (k : Nat) (f : ViewSt → ViewSt) : State := s.setView k (f (s.view k))

/-! Replacing one part of the state -/

def State.putCsb (s : State) (x : CsbSt) : State := { s with csb := x }
def State.putBus (s : State) (x : BusSt) : State := { s with bus := x }
def State.putSpdm (s : State) (x : SpdmSt) : State := { s with spdm := x }
def State.putHolds (s : State) (x : List (Nat × Nat)) : State := { s with holds := x }
def State.putCauses (s : State) (x : List (Nat × Nat)) : State := { s with causes := x }
def State.putWinStart (s : State) (x : SMap Nat) : State := { s with winStart := x }
def State.putEccPend (s : State) (x : List (Nat × Nat)) : State := { s with eccPend := x }
def State.putScrubPos (s : State) (x : SMap Nat) : State := { s with scrubPos := x }
def State.putLwTicks (s : State) (x : Nat) : State := { s with lwTicks := x }
def State.putSnaps (s : State) (x : SMap Nat) : State := { s with snaps := x }
def State.putStaged (s : State) (x : SMap Nat) : State := { s with staged := x }
def State.putCompat (s : State) (x : List (Nat × Nat)) : State := { s with compat := x }
def State.putSafe (s : State) (x : Bool) : State := { s with safe := x }
def State.putAliveRun (s : State) (x : Bool) : State := { s with aliveRun := x }
def State.putAlive (s : State) (x : Bool) : State := { s with alive := x }
def State.putTap (s : State) (x : Option TapIns) : State := { s with tap := x }
def State.putMisAge (s : State) (x : SMap Nat) : State := { s with misAge := x }
def State.putZclr (s : State) (x : SMap Nat) : State := { s with zclr := x }
def State.putSecDefer (s : State) (x : Option Bool) : State := { s with secDefer := x }
def State.putRaised (s : State) (x : List Ev) : State := { s with raised := x }
def State.putRefused (s : State) (x : Bool) : State := { s with refusedNow := x }
def State.putVisits (s : State) (x : List Nat) : State := { s with visits := x }
def State.putMem (s : State) (x : List Host.Cell) : State := { s with mem := x }
def State.putFresh (s : State) (x : Nat) : State := { s with fresh := x }
def State.putLenWritten (s : State) (x : Bool) : State := { s with lenWritten := x }
def State.putShared (s : State) (x : List ((Nat × Nat) × (Nat × Nat))) : State := { s with shared := x }
def State.putHeld (s : State) (x : Bool) : State := { s with held := x }

/-! Events, outputs and free values -/

/-- Report a sump event (R370). It is counted when the command ends (log entry 7). -/
def State.raise (s : State) (src inst detail : Nat) : State :=
  { s with raised := s.raised ++ [⟨src, inst, detail, false⟩] }

/-- A command begins: nothing answered and no write refused yet. -/
def State.begun (s : State) : State := { s with out := [], refusedNow := false }

/-- The device drives an output. -/
def State.emit (s : State) (o : Out) : State := { s with out := s.out ++ [o] }

/-- Use the next free value: what it is, nothing says (log entry 3). -/
def State.free (s : State) : Nat × State := (Config.freeValue s.fresh, { s with fresh := s.fresh + 1 })

/-! Time -/

/-- The drip counter, 48 bits (R260). -/
def State.drip (s : State) : Nat := s.rd F.CLK_DRIP_LO_DRIP_LO 0 + 2 ^ 32 * s.rd F.CLK_DRIP_HI_DRIP_HI 0

/-- Set the drip counter. -/
def State.setDrip (s : State) (d : Nat) : State :=
  (s.wr F.CLK_DRIP_LO_DRIP_LO 0 (d % 2 ^ 32)).wr F.CLK_DRIP_HI_DRIP_HI 0 (d / 2 ^ 32 % 2 ^ 16)

/-- Counts the boundary reaches: its own, and those that a forward jump since the last boundary skipped (R266). -/
def State.reached (s : State) (t : Nat) : Bool :=
  let d := (s.drip + 2 ^ 48 - s.clk.last) % 2 ^ 48
  t == s.drip || (decide (d < 2 ^ 47) && decide ((t + 2 ^ 48 - s.clk.last - 1) % 2 ^ 48 < d))

/-- A count lies in the past of the counter: at most half its range behind (R267, R269). -/
def State.passed (s : State) (t : Nat) : Bool := decide ((s.drip + 2 ^ 48 - t) % 2 ^ 48 < 2 ^ 47)

/-- The count of the drip that began `ago` boundaries before the one in progress (R148). -/
def State.dripAgo (s : State) (ago : Nat) : Nat :=
  match ago with
  | 0 => s.drip
  | k + 1 => s.clk.prev.getD k s.drip

/-! The layout of lanes and ports (R8, R9, R26, R370) -/

/-- The width code field of a quad (R26). -/
def F.quadCode (q : Nat) : Fld :=
  [F.GLB_BIFUR_QUAD0, F.GLB_BIFUR_QUAD1, F.GLB_BIFUR_QUAD2, F.GLB_BIFUR_QUAD3,
   F.GLB_BIFUR_QUAD4, F.GLB_BIFUR_QUAD5, F.GLB_BIFUR_QUAD6, F.GLB_BIFUR_QUAD7].getD q F.GLB_BIFUR_QUAD7

/-- The width code of a quad. -/
def State.qcode (s : State) (q : Nat) : Nat := s.rd (F.quadCode q) 0

/-- The ports that a width code places on quad q (R26). -/
def codePorts (q code : Nat) : List Nat :=
  if code = 1 then [2 * q]
  else if code = 2 then [2 * q, 2 * q + 1]
  else if code = 3 then [2 * q]
  else if code = 4 then [2 * q + 1]
  else if code = 5 then [4 * (q / 2)]
  else if code = 6 then [8 * (q / 4)]
  else []

/-- The configured width of a port, 0 for an absent port (R9, R26). -/
def State.width (s : State) (n : Nat) : Nat :=
  let q := n / 2
  let c := s.qcode q
  if n % 2 = 0 then
    if c = 1 then 4 else if c = 2 ∨ c = 3 then 2
    else if c = 5 ∧ q % 2 = 0 then 8
    else if c = 6 ∧ q % 4 = 0 then 16 else 0
  else if c = 2 ∨ c = 4 then 2 else 0

/-- Whether a port is present (R9). -/
def State.present (s : State) (n : Nat) : Bool := s.width n != 0

/-- A quad is power-gated (R33, R82). -/
def State.quadGated (s : State) (q : Nat) : Bool := bit (s.rd F.PWR_DOM_STAT_QGATED 0) q

/-- The first lane of a port (R9). -/
def firstLane (n : Nat) : Nat := 2 * n

/-- The lanes of a port's configured width. -/
def State.portLanes (s : State) (n : Nat) : List Nat := (List.range (s.width n)).map (· + firstLane n)

/-- The port that GLB_BIFUR places on a lane (R73). -/
def State.portOfLane (s : State) (l : Nat) : Option Nat :=
  let q := l / 4
  let c := s.qcode q
  if c = 1 then some (2 * q)
  else if c = 2 then some (l / 2)
  else if c = 3 then (if l % 4 < 2 then some (2 * q) else none)
  else if c = 4 then (if l % 4 < 2 then none else some (2 * q + 1))
  else if c = 5 then some (4 * (q / 2))
  else if c = 6 then some (8 * (q / 4))
  else none

/-- The outer and inner lane-side numbers of a lane (R370). -/
def outerLs (l : Nat) : Nat := l
def innerLs (l : Nat) : Nat := l + 32

/-- The half of a lane: 0 for S0, 1 for S1 (R8). -/
def halfOf (l : Nat) : Nat := l / 16

/-- The states of a spare, the lane it serves and its port (R189). -/
def State.spareState (s : State) (h : Nat) : Nat := s.rd F.SPARE_STAT_STATE h
def State.spareLane (s : State) (h : Nat) : Nat := s.rd F.SPARE_STAT_LANE h

/-- The lane-side that serves the inner side of a lane: the spare where one is ACTIVE for it (R56, R179). -/
def State.innerOf (s : State) (l : Nat) : Nat :=
  if s.spareState (halfOf l) = 4 ∧ s.spareLane (halfOf l) = l then 64 + halfOf l else innerLs l

/-- The lane-sides of one side of a port. -/
def State.sideLs (s : State) (n : Nat) (inner : Bool) : List Nat :=
  (s.portLanes n).map fun l => if inner then s.innerOf l else outerLs l

/-- The lane-sides of both sides of a port. -/
def State.portLs (s : State) (n : Nat) : List Nat := s.sideLs n false ++ s.sideLs n true

/-- The lane a lane-side carries; for a spare, the lane it serves. -/
def State.laneOfLs (s : State) (ls : Nat) : Nat :=
  if ls < 32 then ls else if ls < 64 then ls - 32 else s.spareLane (ls - 64)

/-- The port a lane-side serves: none for an idle spare or an unoccupied lane. -/
def State.portOfLs (s : State) (ls : Nat) : Option Nat :=
  if ls < 64 then s.portOfLane (s.laneOfLs ls)
  else if s.spareState (ls - 64) ≥ 2 then s.portOfLane (s.spareLane (ls - 64)) else none

/-- The ports with lanes in a quad (R26). -/
def State.quadPorts (s : State) (q : Nat) : List Nat := codePorts q (s.qcode q)

/-- The port state code of R89. -/
def State.ltssm (s : State) (n : Nat) : Nat := s.rd F.PORT_LINK_STAT_LTSSM n

/-- Whether a port's PORT block is enabled (R114). An absent port's is held disabled (R9). -/
def State.portEn (s : State) (n : Nat) : Bool := s.flag F.PORT_CTL_EN n && s.present n

/-- Whether a port is host-facing (R18). -/
def State.hostFacing (s : State) (n : Nat) : Bool := s.rd F.PORT_CFG_ORIENT n == 0

/-- Whether the Upstream Pseudo Port of a port is on the inner side (R18). -/
def State.uspInner (s : State) (n : Nat) : Bool := !s.hostFacing n

/-- The direction that feeds the heat parser: 0 outer→inner, 1 inner→outer (R18). -/
def State.reqDir (s : State) (n : Nat) : Nat := if s.hostFacing n then 0 else 1

/-- The rate a port runs at (R117). -/
def State.rate (s : State) (n : Nat) : Nat := s.rd F.PORT_LINK_STAT_RATE n

/-- Whether a rate code has rows in companion mode: 64 or 128 GT/s (R3). -/
def rowRate (r : Nat) : Bool := r == 5 || r == 6

/-- The flit time of a width and rate code in picoseconds (R61): 2,048 bits over w lanes, with the coding of the rate. -/
def flitPs (w r : Nat) : Nat :=
  if w = 0 then 0
  else if r = 6 then 2048000 / (w * 128)
  else if r = 5 then 2048000 / (w * 64)
  else if r = 4 then 2048000 * 130 / (w * 32 * 128)
  else if r = 3 then 2048000 * 130 / (w * 16 * 128)
  else if r = 2 then 2048000 * 130 / (w * 8 * 128)
  else if r = 1 then 2048000 / (w * 4)
  else 2048000 / (w * 2)

/-- A width and rate allow companion mode with rows: the flit time is at most 8 ns (R62). -/
def rowsFit (w r : Nat) : Bool := w != 0 && decide (flitPs w r ≤ 8000)

/-- The port has a link: states in which the flit engines or training run, and a Recovery state (R89). -/
def isRecovery (c : Nat) : Bool := 0x10 ≤ c && c ≤ 0x17

end Sys2Proof.Machine
end

