-- ==== Sys2Proof/Machine/Flags.lean ====
section
/-! DEFINITION. Flags, counters and the fields that exist once per direction or side: saturating and wrapping counters,
sticky flags, and the selection of a field by direction (0 outer→inner, 1 inner→outer) or side. -/
namespace Sys2Proof.Machine

/-- Add n to a counter, saturating at its maximum (R80, R119, R143, R185, R392). -/
def State.incBy (s : State) (f : Fld) (i n : Nat) : State := s.wr f i (satAdd f.w (s.rd f i) n)

/-- Count one, saturating. -/
def State.inc (s : State) (f : Fld) (i : Nat) : State := s.incBy f i 1

/-- Count one, wrapping (R113, R145). -/
def State.incWrap (s : State) (f : Fld) (i : Nat) : State := s.wr f i (s.rd f i + 1)

/-- Set a flag. -/
def State.setF (s : State) (f : Fld) (i : Nat) : State := s.wr f i 1

/-- Clear a flag or a counter. -/
def State.clr (s : State) (f : Fld) (i : Nat) : State := s.wr f i 0

/-- Clear the fields listed. -/
def State.clrAll (s : State) (fs : List Fld) (i : Nat) : State := fs.foldl (fun a f => a.clr f i) s

/-- Write a flag from a truth value. -/
def State.wrB (s : State) (f : Fld) (i : Nat) (b : Bool) : State := s.wr f i (b2n b)

/-- Raise a sticky maximum (R83, R134). -/
def State.wrMax (s : State) (f : Fld) (i v : Nat) : State := s.wr f i (max (s.rd f i) v)

def F.emode (d : Nat) : Fld := if d = 0 then F.PORT_STAT_EMODE_OI else F.PORT_STAT_EMODE_IO
def F.dgc (d : Nat) : Fld := if d = 0 then F.PORT_STAT_DGC_OI else F.PORT_STAT_DGC_IO
def F.cmode (d : Nat) : Fld := if d = 0 then F.PORT_CFG_CMODE_OI else F.PORT_CFG_CMODE_IO
def F.lock (d : Nat) : Fld := if d = 0 then F.PORT_FLIT_STAT_LOCK_OI else F.PORT_FLIT_STAT_LOCK_IO
def F.ideStat (d : Nat) : Fld := if d = 0 then F.PORT_FLIT_STAT_IDE_OI else F.PORT_FLIT_STAT_IDE_IO
def F.lockLoss (d : Nat) : Fld := if d = 0 then F.PORT_FLIT_LOCK_CNT_LOSS_OI else F.PORT_FLIT_LOCK_CNT_LOSS_IO
def F.trials (inner : Bool) : Fld := if inner then F.PORT_EQ_STAT_I_TRIALS else F.PORT_EQ_STAT_O_TRIALS
def F.result (inner : Bool) : Fld := if inner then F.PORT_EQ_STAT_I_RESULT else F.PORT_EQ_STAT_O_RESULT

/-- The number of a flit engine: port and direction (R16, R151). -/
def flKey (n d : Nat) : Nat := 2 * n + d

/-- The counters of R142 kept per direction. -/
def F.fecCounters : List Fld :=
  [F.PORT_FEC_FLITS_LO_FLITS_LO, F.PORT_FEC_FLITS_HI_FLITS_HI, F.PORT_FEC_CORR_CORR, F.PORT_FEC_SYM_SYM,
   F.PORT_FEC_UNCORR_UNCORR, F.PORT_FEC_CRCBAD_CRCBAD, F.PORT_FEC_OOS_OOS, F.PORT_FEC_OPAQUE_OPAQUE]

/-- Add to a 48-bit counter held as a LO and HI field, saturating (R69, R142). -/
def State.inc48 (s : State) (lo hi : Fld) (i n : Nat) : State :=
  let v := min (s.rd lo i + 2 ^ 32 * s.rd hi i + n) (2 ^ 48 - 1)
  (s.wr lo i (v % 2 ^ 32)).wr hi i (v / 2 ^ 32)

/-- Clear the counters of R142 of both directions of a port, with the errata counters and LAG_MAX (R143). -/
def State.clrFlitCounters (s : State) (n : Nat) : State :=
  let s := (s.clrAll F.fecCounters (flKey n 0)).clrAll F.fecCounters (flKey n 1)
  let s := forUp 16 (fun m a => a.clrAll [F.PORT_FEC_LANE_ODD, F.PORT_FEC_LANE_EVEN] (16 * n + m)) s
  s.clrAll [F.PORT_FLIT_LOCK_CNT_LOSS_IO, F.PORT_FLIT_LOCK_CNT_LOSS_OI, F.PORT_ERRATA_SENT_SENT,
    F.PORT_ERRATA_CNT_DROP, F.PORT_ERRATA_CNT_ABORT, F.PORT_ERRATA_STAT_LAG_MAX] n

/-- The requester codes of GLB_WERR.FREQ (R417); code 3 is the compatibility buffer. -/
def reqCode : Requester → Nat
  | .normal => 0
  | .secure => 1
  | .jtag => 2

/-- Whether any refusal flag of GLB_WERR bits 11:0 is set (R402). -/
def State.werrAny (s : State) : Bool :=
  [F.GLB_WERR_COMPAT, F.GLB_WERR_MGMT, F.GLB_WERR_HEAT, F.GLB_WERR_CMP, F.GLB_WERR_SPARE, F.GLB_WERR_QUAD,
   F.GLB_WERR_PORT, F.GLB_WERR_BOOT, F.GLB_WERR_SUMP, F.GLB_WERR_PWR, F.GLB_WERR_CLK, F.GLB_WERR_GLB].any
    fun f => s.flag f 0

/-- A refused write sets its block's bit in GLB_WERR; the first refusal is captured with its address and requester (R402). -/
def State.refuse (s : State) (f : Fld) (req addr : Nat) : State :=
  let s' := ((s.setF f 0).putRefused true)
  if s.werrAny then s'
  else ((s'.wr F.GLB_WERR_ADDR_ADDR 0 addr).wr F.GLB_WERR_FREQ 0 req).setF F.GLB_WERR_ADDR_V 0

end Sys2Proof.Machine
end

