-- ==== Sys2Proof/Machine/HeatCore.lean ====
section
/-! DEFINITION. The heat map (chapter 7), as the flit engines and the ports use it: where an address counts, the counter
format, the parser with its queue and bucket cache, and the class-4 exports. -/
namespace Sys2Proof.Machine

/-! Where an address counts (R222, R237) -/

/-- A value kept between two limits. -/
def clampNat (x lo hi : Nat) : Nat := max lo (min x hi)

/-- log2 of the span of a partition (R222). -/
def State.partSpan (s : State) (p : Nat) : Nat := clampNat (s.rd F.HEAT_PCFG_SPAN p) 21 48

/-- log2 of the region size of a partition (R222). -/
def State.partRegion (s : State) (p : Nat) : Nat :=
  clampNat (s.rd F.HEAT_PCFG_REGION p) (max 21 (s.partSpan p - 18)) (min 30 (s.partSpan p))

/-- The number of entries of a partition (R222). -/
def State.partLen (s : State) (p : Nat) : Nat := 2 ^ (s.partSpan p - s.partRegion p)

/-- The entry of a bank that an address counts in, none where the partition's span does not hold it (R222). -/
def State.partEntry (s : State) (p a : Nat) : Option Nat :=
  let sp := s.partSpan p
  let base := s.rd F.HEAT_PBASE_BASE p * 2 ^ 21 / 2 ^ sp * 2 ^ sp
  if a / 2 ^ sp * 2 ^ sp ≠ base then none
  else some ((s.rd F.HEAT_PRANGE_FIRST p + (a - base) / 2 ^ s.partRegion p) % 262144)

/-- The entry of the zoom memory of a bank, 4096 z + e, that an address counts in for window z (R237). -/
def State.zoomEntry (s : State) (z a : Nat) : Option Nat :=
  let g := clampNat (s.rd F.HEAT_ZCFG_GRAN z) 12 21
  let base := s.rd F.HEAT_ZBASE_BASE z * 2 ^ 24 / 2 ^ (g + 12) * 2 ^ (g + 12)
  if a / 2 ^ (g + 12) * 2 ^ (g + 12) ≠ base then none else some (4096 * z + (a - base) / 2 ^ g)

/-- The management address of an entry (R225, R237). -/
def heatAddr (zoom : Bool) (bank idx : Nat) : Nat :=
  if zoom then 0x400000 + bank * 0x40000 + 4 * idx else 0x200000 + bank * 0x100000 + 4 * idx

/-- The memory of an entry (R383) and its word there: two entries a word, the zoom memory holding both halves. -/
def heatMem (zoom : Bool) (bank : Nat) : Nat := if zoom then 2 else bank
def heatWord (zoom : Bool) (bank idx : Nat) : Nat := if zoom then bank * 32768 + idx / 2 else idx / 2

/-! The counter format (R225, R226) -/

/-- One step of the parser's LFSR (R226). -/
def lfsrStep (x : Nat) : Nat :=
  x / 2 + (x ^^^ (x / 4) ^^^ (x / 8) ^^^ (x / 32)) % 2 * 2 ^ 15

/-- Apply k increments to a counter of exponent e and mantissa m; the counter and the LFSR after it (R226). -/
def countUp : Nat → Nat → Nat → Nat → Nat → Nat × Nat × Nat
  | 0, e, m, x, _ => (e, m, x)
  | fuel + 1, e, m, x, k =>
    if k = 0 ∨ (e = 15 ∧ m = 4095) then (e, m, x)
    else
      let step := if e = 0 then 1 else 2 ^ (e - 1)
      if k ≥ step * (4096 - m) then
        if e = 15 then (e, 4095, x) else countUp fuel (e + 1) 0 x (k - step * (4096 - m))
      else
        let rem := k % step
        let m := m + k / step
        if rem = 0 then (e, m, x)
        else
          let x := lfsrStep x
          let m := if x % step < rem then m + 1 else m
          if m = 4096 then (if e = 15 then (15, 4095, x) else (e + 1, 0, x)) else (e, m, x)

/-- A 16-bit counter after k increments, with the LFSR after them (R225, R226). -/
def counterAdd (c x k : Nat) : Nat × Nat :=
  let r := countUp 17 (c / 4096 % 16) (c % 4096) x k
  (r.1 * 4096 + r.2.1, r.2.2)

/-- An entry after pending reads and then writes, with the LFSR after them (R225, R226). -/
def entryAdd (v x rd wr : Nat) : Nat × Nat :=
  let a := counterAdd (v / 65536 % 65536) x rd
  let b := counterAdd (v % 65536) a.2 wr
  (a.1 * 65536 + b.1, b.2)

/-! The parser's queue and cache (R227 to R229) -/

def CacheEnt.key (c : CacheEnt) : Bool × Nat × Nat := (c.zoom, c.bank, c.idx)
def Lookup.key (l : Lookup) : Bool × Nat × Nat := (l.zoom, l.bank, l.idx)

/-- Queue an entry of the cache for write-back, once (R228). -/
def HeatP.queueWb (h : HeatP) (k : Bool × Nat × Nat) : HeatP :=
  { h with
    cache := h.cache.map fun c => if c.key = k then { c with queued := true } else c
    wbq := if h.wbq.contains k then h.wbq else h.wbq ++ [k] }

/-- Queue the entries that a test picks, oldest first (R228, R233). -/
def HeatP.queueIf (h : HeatP) (t : CacheEnt → Bool) : HeatP :=
  ((h.cache.filter t).map CacheEnt.key).foldl HeatP.queueWb h

/-- Serve the head of the input queue: a hit adds to its entry, a miss takes a free entry, and with none free the oldest
entry is queued for write-back and the lookup waits (R227). Answers whether the head was served. -/
def HeatP.serve (h : HeatP) : Bool × HeatP :=
  match h.queue with
  | [] => (false, h)
  | l :: t =>
    match h.cache.find? fun c => c.key == l.key with
    | some c =>
      let n := if l.isRead then c.rd else c.wr
      if n ≥ 65535 then (false, h)
      else
        let h := { h with
          queue := t
          cache := h.cache.map fun e =>
            if e.key = l.key then
              (if l.isRead then { e with rd := e.rd + 1 } else { e with wr := e.wr + 1 })
            else e }
        (true, if n + 1 = 65535 then h.queueWb l.key else h)
    | none =>
      if h.cache.length < 64 then
        (true, { h with queue := t, cache := h.cache ++ [⟨l.zoom, l.bank, l.idx, b2n l.isRead, b2n (!l.isRead), false⟩] })
      else
        (false, match h.cache with
          | c :: _ => h.queueWb c.key
          | [] => h)

/-- Serve the input queue until its head must wait (R227). Cycles are not modelled (log entry 15). -/
def HeatP.drain : Nat → HeatP → HeatP
  | 0, h => h
  | n + 1, h => let r := h.serve; if r.1 then r.2.drain n else r.2

/-- The live bank (R230). -/
def State.liveBank (s : State) : Nat := s.rd F.HEAT_STAT_LIVE 0

/-- A lookup enters the input queue of parser p, or is dropped, counted and reported (R227, R229). -/
def State.lookup (s : State) (p : Nat) (zoom : Bool) (idx : Nat) (isRead : Bool) : State :=
  let h := s.heat p
  if h.queue.length ≥ 64 then (s.inc F.HEAT_LOST_LOST (2 * p + s.liveBank)).raise 57 p 0
  else s.setHeat p (HeatP.drain 65 { h with queue := h.queue ++ [⟨zoom, s.liveBank, idx, isRead⟩] })

/-- How a message counts: as a read, a write, or not (R220). -/
def State.msgKind (s : State) (p : Nat) (m : MemMsg) : Option Bool :=
  if m.pbr then none
  else match m.chan, m.op with
    | .m2sReq, .memRd => some true
    | .m2sReq, .memRdData => some true
    | .m2sReq, .memRdFwd => some true
    | .m2sReq, .memSpecRd => if s.flag F.HEAT_PCFG_SPEC p then some true else none
    | .m2sReq, .memWrFwd => some false
    | .m2sRwD, .memWr => some false
    | .m2sRwD, .memWrPtl => some false
    | _, _ => none

/-- A message counts under the LD-ID filter (R221). -/
def State.ldidOk (s : State) (p : Nat) (m : MemMsg) : Bool :=
  !s.flag F.HEAT_PCFG_LDID_EN p || s.rd F.HEAT_PCFG_LDID p == m.ldid

/-- The lookups of a counted message: the partition's where it is enabled, and each window's of the port (R224, R227,
R237). The address is that of bits 51:6. -/
def State.countMsg (s : State) (p : Nat) (m : MemMsg) (isRead : Bool) : State :=
  let a := m.addr / 64 * 64 % 2 ^ 52
  let s :=
    if s.flag F.HEAT_PCTL_EN p then
      match s.partEntry p a with
      | some e => s.lookup p false e isRead
      | none => s.inc F.HEAT_UNMAP_UNMAP (2 * p + s.liveBank)
    else s
  forUp 16 (fun z t =>
    if t.flag F.HEAT_ZCTL_EN z ∧ t.rd F.HEAT_ZCFG_PORT z = p then
      match t.zoomEntry z a with
      | some e => t.lookup p true e isRead
      | none => t
    else t) s

/-- View p + 1 is frozen, so that parser p makes no lookups, until it is thawed or restored (R239). -/
def State.viewFrozen (s : State) (p : Nat) : Bool := s.flag F.MGMT_VIEW_STAT_FROZEN (p + 1) && !(s.view (p + 1)).restored

/-- A message of a parsed flit (R220, R221, R239). -/
def State.parseMsg (s : State) (p : Nat) (m : MemMsg) : State :=
  match s.msgKind p m with
  | none => s
  | some isRead =>
    if !s.ldidOk p m then s
    else if s.viewFrozen p then
      (if s.flag F.HEAT_PCTL_EN p then s.inc F.HEAT_FOVF_FOVF (2 * p + s.liveBank) else s)
    else s.countMsg p m isRead

/-- The parser of a port takes a flit with its status (R218, R239). -/
def State.heatFlit (s : State) (p : Nat) (good inSeq ide : Bool) (info : FlitInfo) : State :=
  if !(good && inSeq) then s
  else if ide then
    (if s.flag F.HEAT_PCTL_EN p && !s.viewFrozen p then s.inc F.HEAT_OPAQUE_OPAQUE (2 * p + s.liveBank) else s)
  else forEach info.msgs (fun m t => t.parseMsg p m) s

/-! Exports (R241, R242) -/

/-- EXP_BUSY: some export is in progress or waits (R242). -/
def State.expBusy (s : State) : State :=
  s.wrB F.HEAT_STAT_EXP_BUSY 0 ((List.range 16).any fun p => s.flag F.HEAT_EXP_STAT_ACTIVE p)

/-- An export of a partition ends: ACTIVE, WAIT, ZPH and ZWIN read 0 (R242). -/
def State.endExport (s : State) (p : Nat) : State :=
  ((s.clrAll [F.HEAT_EXP_STAT_ACTIVE, F.HEAT_EXP_STAT_WAIT, F.HEAT_EXP_STAT_ZPH, F.HEAT_EXP_STAT_ZWIN] p).modHeat p
    fun h => { h with chunk := none, exZooms := [] }).expBusy

/-- An export not complete is abandoned and counted (R44, R242). -/
def State.abandonExport (s : State) (p : Nat) : State :=
  if s.flag F.HEAT_EXP_STAT_ACTIVE p then (s.endExport p).inc F.HEAT_EXP_CNT_ABORT p else s

/-- The rows of a port stop: its export pauses after the last chunk sent (R211, R242). -/
def State.pauseExport (s : State) (p : Nat) : State :=
  if s.flag F.HEAT_EXP_STAT_ACTIVE p then s.setF F.HEAT_EXP_STAT_WAIT p else s

/-- The rows of a port start: its export resumes with the next chunk (R242). -/
def State.resumeExport (s : State) (p : Nat) : State :=
  if s.flag F.HEAT_EXP_STAT_ACTIVE p then s.clr F.HEAT_EXP_STAT_WAIT p else s

/-- Chunks of a partition of E entries (R198). -/
def partChunks (e : Nat) : Nat := (e + 59) / 60

/-- The chunks of an export not yet sent (R212). -/
def State.chunksLeft (s : State) (p : Nat) : Nat :=
  let h := s.heat p
  if !s.flag F.HEAT_EXP_STAT_ACTIVE p then 0
  else if s.flag F.HEAT_EXP_STAT_ZPH p then 69 * h.exZooms.length - s.rd F.HEAT_EXP_STAT_NEXT p
  else partChunks h.exLen - s.rd F.HEAT_EXP_STAT_NEXT p + 69 * h.exZooms.length

/-- A chunk of the export has been sent: the next one, the first zoom window, or the end (R241, R242). -/
def State.chunkSent (s : State) (p : Nat) : State :=
  let next := s.rd F.HEAT_EXP_STAT_NEXT p + 1
  let h := s.heat p
  let s := (s.wr F.HEAT_EXP_STAT_NEXT p next).modHeat p fun h => { h with chunk := none }
  let done := fun (a : State) => (a.endExport p).inc F.HEAT_EXP_CNT_DONE p
  if s.flag F.HEAT_EXP_STAT_ZPH p then
    if next < 69 then s
    else match h.exZooms.drop 1 with
      | [] => done s
      | z :: t => ((s.wr F.HEAT_EXP_STAT_ZWIN p z).wr F.HEAT_EXP_STAT_NEXT p 0).modHeat p fun h => { h with exZooms := z :: t }
  else if next < partChunks h.exLen then s
  else match h.exZooms with
    | [] => done s
    | z :: _ => ((s.setF F.HEAT_EXP_STAT_ZPH p).wr F.HEAT_EXP_STAT_ZWIN p z).wr F.HEAT_EXP_STAT_NEXT p 0

/-- The next chunk of the export is its last (R241). -/
def State.lastChunk (s : State) (p : Nat) : Bool := s.chunksLeft p == 1

/-! Port reset (R44) -/

/-- A port reset starts: every entry of the port's bucket cache is queued for write-back (R44). -/
def State.flushCache (s : State) (p : Nat) : State := s.modHeat p fun h => h.queueIf fun _ => true

/-- Count updates of bank b as lost (R44, R235). -/
def State.loseUpdates (s : State) (p b n : Nat) : State := s.incBy F.HEAT_LOST_LOST (2 * p + b) n

/-- The settling of a port reset ends: what is left in the cache and the input queue is counted as lost in its own bank
(R44, R235). -/
def State.dropCache (s : State) (p : Nat) : State :=
  let h := s.heat p
  let s := forEach h.cache (fun c a => a.loseUpdates p c.bank (c.rd + c.wr)) s
  let s := forEach h.queue (fun l a => a.loseUpdates p l.bank 1) s
  s.modHeat p fun h => { h with cache := [], wbq := [], queue := [] }

end Sys2Proof.Machine
end

