-- ==== Sys2Proof/Machine/ViewCore.lean ====
section
/-! DEFINITION. The rings of the views (chapter 10), as the ports and transports use them: pointers, freeing an entry, and
discarding responses. -/
namespace Sys2Proof.Machine

/-- The pointer after another, a 7-bit count (R308). -/
def ptrNext (p : Nat) : Nat := (p + 1) % 128

/-- How far pointer b lies ahead of pointer a (R308). -/
def ptrDist (a b : Nat) : Nat := (b + 128 - a) % 128

/-- The management addresses of a view's rings and of an entry (R307). -/
def viewBase (v : Nat) : Nat := 0x140000 + v * 0x4000
def reqAddr (v p : Nat) : Nat := viewBase v + 128 * (p % 64)
def rspAddr (v p : Nat) : Nat := viewBase v + 0x2000 + 128 * (p % 64)

/-- The entry of a response ring at a pointer. -/
def State.rspEntry (s : State) (v p : Nat) : List Nat := s.rdBytes (rspAddr v p) 128

/-- A ring is empty, or full (R308). -/
def State.reqEmpty (s : State) (v : Nat) : Bool := s.rd F.MGMT_VIEW_PTR_REQ_RD v == s.rd F.MGMT_VIEW_PTR_REQ_WR v
def State.reqFull (s : State) (v : Nat) : Bool := ptrDist (s.rd F.MGMT_VIEW_PTR_REQ_RD v) (s.rd F.MGMT_VIEW_PTR_REQ_WR v) == 64
def State.rspFull (s : State) (v : Nat) : Bool := ptrDist (s.rd F.MGMT_VIEW_PTR_RSP_TX v) (s.rd F.MGMT_VIEW_PTR_RSP_WR v) == 64

/-- A pointer names an entry that the device owns, from RSP_TX up to RSP_WR (R308). -/
def State.rspOwned (s : State) (v p : Nat) : Bool :=
  decide (ptrDist (s.rd F.MGMT_VIEW_PTR_RSP_TX v) p < ptrDist (s.rd F.MGMT_VIEW_PTR_RSP_TX v) (s.rd F.MGMT_VIEW_PTR_RSP_WR v))

/-- RSP_TX passes the entries that their transports have finished with, in ring order (R308, R311). -/
def State.advanceTx : Nat → State → Nat → State
  | 0, s, _ => s
  | n + 1, s, v =>
    let tx := s.rd F.MGMT_VIEW_PTR_RSP_TX v
    if (s.view v).done.contains tx then
      State.advanceTx n ((s.wr F.MGMT_VIEW_PTR_RSP_TX v (ptrNext tx)).modView v fun w =>
        { w with done := w.done.filter (· != tx) }) v
    else s

/-- A transport has finished with a response entry: it becomes free (R311). -/
def State.rspFree (s : State) (v p : Nat) : State :=
  if s.rspOwned v p then State.advanceTx 65 (s.modView v fun w => { w with done := w.done ++ [p] }) v else s

/-- A response entry has been sent: counted, and free (R311, R329). -/
def State.rspSent (s : State) (v p : Nat) : State := (s.inc F.MGMT_VIEW_CNT_SENT v).rspFree v p

/-- A response that will not be sent is counted, and its entry freed (R44, R301, R311). -/
def State.rspDrop (s : State) (v : Nat) (p : Option Nat) : State :=
  let s := s.inc F.MGMT_VIEW_CNT2_RSP_DROP v
  match p with
  | some q => s.rspFree v q
  | none => s

/-- Responses of view n + 1 queued for class-3 slots are discarded and counted (R44, R211). -/
def State.dropClass3 (s : State) (n : Nat) : State :=
  let q := (s.view (n + 1)).q3
  forEach q (fun i a => a.rspDrop (n + 1) i.ptr) (s.modView (n + 1) fun w => { w with q3 := [] })

end Sys2Proof.Machine
end

