-- ==== Sys2Proof/Machine/Settle.lean ====
section
/-! DEFINITION. What leaving association discards beside the link's own work (R211, R242): the refusal list, the class-3
responses and the heat export of the port. -/
namespace Sys2Proof.Machine

/-- The port leaves association: its class-3 traffic is discarded and its export abandoned (R211, R242). -/
def State.leaveSlots (s : State) (n : Nat) : State :=
  ((s.modPort n fun p => { p with refused := [], refOvf := false, refAge := 0 }).dropClass3 n).abandonExport n

end Sys2Proof.Machine
end

