-- ==== Sys2Proof/Machine/CaptureCore.lean ====
section
/-! DEFINITION. The capture buffer (R144 to R149): triggers, filters, records and their queue. -/
namespace Sys2Proof.Machine

/-- A flit as the flit engine hands it to its consumers (R129), with what a capture record adds (R148). -/
structure Handed where
  bytes : List Nat
  content : List Nat
  outcome : Outcome
  inSeq : Bool
  oos : Bool
  ide : Bool
  pairs : List (Nat × Nat)
  unc : Nat
  seq : Nat
  place : Option (Nat × Nat)
  drip : Nat
  ns : Nat
deriving DecidableEq, Repr

/-- The code of an outcome (R127). -/
def Outcome.code : Outcome → Nat
  | .clean => 0
  | .corrected => 1
  | .uncorrectable => 2
  | .crcBad => 3

/-- CLEAN or CORRECTED. -/
def Outcome.good : Outcome → Bool
  | .clean => true
  | .corrected => true
  | _ => false

/-- Segments of a capture: 0 acts as 1, values above 8 as 8 (R154). -/
def State.capSegs (s : State) (n : Nat) : Nat := clampNat (s.rd F.PORT_CAP_CFG_SEG_CNT n) 1 8

/-- Records that a capture holds (R144). -/
def State.capTotal (s : State) (n : Nat) : Nat := 910 * s.capSegs n

/-- Records to write from the trigger on (R145). -/
def State.capPost (s : State) (n : Nat) : Nat :=
  s.capTotal n - min (64 * s.rd F.PORT_CAP_CFG_PRE n) (s.capTotal n - 1)

/-- The state of a capture (R145). -/
def State.capState (s : State) (n : Nat) : Nat := s.rd F.PORT_CAP_STAT_STATE n

/-- The capture of port n records direction d now. -/
def State.capRuns (s : State) (n d : Nat) : Bool :=
  (s.capState n == 1 || s.capState n == 2) && s.rd F.PORT_CAP_CFG_DIR n == d

/-- The index that the next record queued will have. -/
def State.capNext (s : State) (n : Nat) : Nat :=
  (s.rd F.PORT_CAP_STAT_WPTR n + (s.port n).capQueue.length) % s.capTotal n

/-- The pattern of R146 matches. -/
def State.capMatch (s : State) (n : Nat) (h : Handed) : Bool :=
  let b := leAt h.content (8 * s.rd F.PORT_CAP_CFG_MATCH_OFF n) 8
  let m := s.rd F.PORT_CAP_MATCH_LO_MATCH_LO n + 2 ^ 32 * s.rd F.PORT_CAP_MATCH_HI_MATCH_HI n
  let k := s.rd F.PORT_CAP_MASK_LO_MASK_LO n + 2 ^ 32 * s.rd F.PORT_CAP_MASK_HI_MASK_HI n
  (b ^^^ m) &&& k == 0

/-- The flit is a trigger (R146). -/
def State.capTriggers (s : State) (n : Nat) (h : Handed) : Bool :=
  let t := s.rd F.PORT_CAP_CFG_TRIG n
  if t = 1 then h.outcome == .corrected
  else if t = 2 then h.outcome == .uncorrectable
  else if t = 3 then !h.outcome.good
  else if t = 5 then s.capMatch n h
  else if t = 7 then h.oos
  else false

/-- The filter admits the flit (R147). -/
def State.capAdmits (s : State) (n : Nat) (h : Handed) : Bool :=
  let f := s.rd F.PORT_CAP_CFG_FILTER n
  if f = 1 then h.outcome != .clean || h.oos
  else if f = 2 then s.capMatch n h
  else true

/-- Offset and mask of a correction, 0 where there is none (R148). -/
def pairWord (ps : List (Nat × Nat)) (k : Nat) : Nat :=
  match (ps.drop k).head? with
  | some p => p.1 * 256 + p.2
  | none => 0

/-- A capture record: 32 header bytes and the flit as received (R148). -/
def State.capRecord (s : State) (n d : Nat) (h : Handed) (trig : Bool) : List Nat :=
  let w1 := h.ns * 2 ^ 21 + bits h.drip 32 16
  let w2 := s.rd F.PORT_CAP_STAT_GEN n * 2 ^ 24 + d * 2 ^ 23 + n * 2 ^ 19 + h.outcome.code * 2 ^ 16 + b2n h.inSeq * 2 ^ 15
    + b2n h.oos * 2 ^ 14 + b2n h.ide * 2 ^ 13 + (s.port n).fmt * 2 ^ 11 + s.rd (F.emode d) n * 2 ^ 9 + b2n trig * 2 ^ 8
    + h.pairs.length * 2 ^ 6 + h.unc * 2 ^ 3
  let w3 := match h.place with
    | some p => p.1 * 2 ^ 16 + p.2 * 2 ^ 11 + 2 ^ 10 + h.seq % 1024
    | none => h.seq % 1024
  let w4 := pairWord h.pairs 0 * 2 ^ 16 + pairWord h.pairs 1
  let w5 := pairWord h.pairs 2 * 2 ^ 16 + s.rd F.PORT_CAP_LOST_LOST n % 2 ^ 16
  leBytes h.drip 4 ++ leBytes w1 4 ++ leBytes w2 4 ++ leBytes w3 4 ++ leBytes w4 4 ++ leBytes w5 4 ++ leBytes 0 8 ++ h.bytes

/-- Queue a record, or lose it where four wait already (R149). Answers whether it was queued. -/
def State.capQueueRec (s : State) (n d : Nat) (h : Handed) (trig : Bool) : Bool × State :=
  if (s.port n).capQueue.length ≥ 4 then (false, s.inc F.PORT_CAP_LOST_LOST n)
  else (true, s.modPort n fun p => { p with capQueue := p.capQueue ++ [s.capRecord n d h trig] })

/-- The capture enters POST, with the index of the trigger (R145, R146). -/
def State.capPostStart (s : State) (n idx left : Nat) : State :=
  ((s.wr F.PORT_CAP_STAT_STATE n 2).wr F.PORT_CAP_TREC_TRIG_REC n idx).modPort n fun p => { p with capLeft := left }

/-- A trigger that is no flit: FORCE, a loss of lock, the drip target (R146). TREC then holds WPTR, under FORCE also where a
flit trigger is configured, for which the manual gives no value (DESIGN CHOICE, log entry 101). -/
def State.capTrigger (s : State) (n : Nat) : State :=
  if s.capState n = 1 then s.capPostStart n (s.rd F.PORT_CAP_STAT_WPTR n) (s.capPost n) else s

/-- The capture takes a flit handed over (R145 to R147). A trigger flit lost at a full queue still triggers (log entry 16). -/
def State.captureFlit (s : State) (n d : Nat) (h : Handed) : State :=
  if !s.capRuns n d then s
  else if s.capState n = 1 then
    if s.capTriggers n h then
      let idx := s.capNext n
      let r := s.capQueueRec n d h true
      r.2.capPostStart n idx (s.capPost n - b2n r.1)
    else if s.capAdmits n h then (s.capQueueRec n d h false).2
    else s
  else if (s.port n).capLeft > 0 ∧ s.capAdmits n h then
    let r := s.capQueueRec n d h false
    if r.1 then r.2.modPort n fun p => { p with capLeft := p.capLeft - 1 } else r.2
  else s

/-- The target of trigger 6. -/
def State.capTarget (s : State) (n : Nat) : Nat :=
  s.rd F.PORT_CAP_TDRIP_LO_TDRIP_LO n + 2 ^ 32 * s.rd F.PORT_CAP_TDRIP_HI_TDRIP_HI n

/-- The drip trigger (R146, R266): at the boundary of its count or the first after a jump past it, or at the next boundary
where the count had passed at arming. -/
def State.capDrip (s : State) (n : Nat) : State :=
  if s.rd F.PORT_CAP_CFG_TRIG n = 6 ∧ ((s.port n).capLate ∨ s.reached (s.capTarget n)) then s.capTrigger n else s

/-- The segments of two captures overlap (R144). -/
def State.capOverlap (s : State) (n m : Nat) : Bool :=
  let a := s.rd F.PORT_CAP_CFG_SEG_BASE n
  let b := s.rd F.PORT_CAP_CFG_SEG_BASE m
  decide (a < b + s.capSegs m) && decide (b < a + s.capSegs n)

/-- The records of the capture are unpredictable (R144): its segments pass the end of the buffer, or another capture that
has been armed uses one of them. -/
def State.capBad (s : State) (n : Nat) : Bool :=
  decide (s.rd F.PORT_CAP_CFG_SEG_BASE n + s.capSegs n > 8) ||
    (List.range 16).any fun m => m != n && s.capState m != 0 && s.capOverlap n m

/-- n free values, each a byte (log entry 3). -/
def State.freeBytes (s : State) (n : Nat) : List Nat × State :=
  ((List.range n).map fun i => Config.freeValue (s.fresh + i) % 256, (s.putFresh (s.fresh + n)))

/-- The management address of record i of a capture (R144). -/
def State.capAddr (s : State) (n i : Nat) : Nat :=
  0x500000 + (s.rd F.PORT_CAP_CFG_SEG_BASE n + i / 910) % 8 * 0x40000 + i % 910 * 288

/-- WPTR moves past a record; past the last it returns to 0 and sets WRAP (R145). -/
def State.capAdvance (s : State) (n : Nat) : State :=
  let w := s.rd F.PORT_CAP_STAT_WPTR n + 1
  if w ≥ s.capTotal n then (s.clr F.PORT_CAP_STAT_WPTR n).setF F.PORT_CAP_STAT_WRAP n else s.wr F.PORT_CAP_STAT_WPTR n w

/-- The oldest queued record is written (R144, R145, R149), also after a STOP or a port reset, which leave the queue as it is
(DESIGN CHOICE, log entry 102). -/
def State.capWrite (s : State) (n : Nat) : State :=
  match (s.port n).capQueue with
  | [] => s
  | r :: t =>
    let a := s.capAddr n (s.rd F.PORT_CAP_STAT_WPTR n)
    let s := s.modPort n fun p => { p with capQueue := t }
    let s := if s.capBad n then let f := s.freeBytes 288; f.2.wrBytes a f.1 else s.wrBytes a r
    s.capAdvance n

/-- ARM in IDLE or DONE (R145). Records still queued then are dropped (DESIGN CHOICE, log entry 102). -/
def State.capArm (s : State) (n : Nat) : State :=
  if s.capState n = 0 ∨ s.capState n = 3 then
    let s := (s.clrAll [F.PORT_CAP_STAT_WPTR, F.PORT_CAP_STAT_WRAP, F.PORT_CAP_LOST_LOST] n).incWrap F.PORT_CAP_STAT_GEN n
    (s.wr F.PORT_CAP_STAT_STATE n 1).modPort n fun p =>
      { p with capQueue := [], capLeft := 0, capLate := s.passed (s.capTarget n) }
  else s

/-- STOP in ARMED or POST (R145). -/
def State.capStop (s : State) (n : Nat) : State :=
  if s.capState n = 1 ∨ s.capState n = 2 then s.wr F.PORT_CAP_STAT_STATE n 3 else s

/-- The post-trigger count is written (R145). -/
def State.capDone (s : State) (n : Nat) : State :=
  if s.capState n = 2 ∧ (s.port n).capLeft = 0 ∧ (s.port n).capQueue = [] then s.wr F.PORT_CAP_STAT_STATE n 3 else s

/-- Some capture is ARMED or POST, so that the window refuses writes (R150). -/
def State.capBusy (s : State) : Bool := (List.range 16).any fun n => s.capState n == 1 || s.capState n == 2

end Sys2Proof.Machine
end

