-- ==== Sys2Proof/Machine/FlitCore.lean ====
section
/-! DEFINITION. What a flit engine makes of a flit (R122 to R130, R140, R141, R219), and the Hold store (R209 to R211): decode,
lock, sequence, hand-over and departure. -/
namespace Sys2Proof.Machine

/-! Decoding (R123, R127) -/

/-- Insert a correction before the first of a higher offset (R133). -/
def insertPair (p : Nat × Nat) : List (Nat × Nat) → List (Nat × Nat)
  | [] => [p]
  | q :: t => if p.1 < q.1 then p :: q :: t else q :: insertPair p t

/-- The corrections that the codewords' decode found, by rising offset. -/
def cwPairs (cw : List Codeword) : List (Nat × Nat) :=
  cw.foldr (fun c l => match c with
    | .corrected o m => insertPair (o, m) l
    | _ => l) []

/-- The codewords whose syndrome names no single symbol, codeword 0 in bit 0. -/
def cwUnc (cw : List Codeword) : Nat :=
  cw.foldr (fun c a => b2n (c == .uncorrectable) + 2 * a) 0

/-- The outcome of a flit (R127). -/
def flitOutcome (f : Flit) : Outcome :=
  if cwUnc f.cw ≠ 0 then .uncorrectable
  else if !f.crcOk then .crcBad
  else if cwPairs f.cw = [] then .clean
  else .corrected

/-- The corrections that the flit CRC confirms: those of a CORRECTED flit. -/
def flitPairs (f : Flit) : List (Nat × Nat) := if (flitOutcome f) = .corrected then cwPairs f.cw else []

/-- The content handed on: corrected where the CRC confirms it, else as received (R129). -/
def flitContent (f : Flit) : List Nat := (flitPairs f).foldl (fun b p => xorByte b p.1 p.2) f.bytes

/-- The bytes 0 to 249 of a replay body with the six parity bytes that the device computes (R4, R209). -/
def withParity (b : List Nat) : List Nat := b.take 250 ++ padTo (Config.fecParity (b.take 250)) 6

/-! Lock (R124, R125) -/

/-- Consecutive failed flits that end lock; 0 acts as 1 (R152). -/
def State.lossN (s : State) (n : Nat) : Nat := max (s.rd F.PORT_FLIT_CFG_LOSS_N n) 1

/-- A provisional lock has run out unconfirmed (R124). -/
def State.provOver (s : State) (n d : Nat) : Bool := s.rd (F.lock d) n == 1 && decide ((s.fl (flKey n d)).provFlits ≥ 64)

/-- LOSS_N flits in a row have failed (R125). -/
def State.lossDue (s : State) (n d : Nat) : Bool :=
  s.rd (F.lock d) n != 0 && decide ((s.fl (flKey n d)).failRun ≥ s.lossN n)

/-- The direction has lock (R126). -/
def State.locked (s : State) (n d : Nat) : Bool :=
  s.rd (F.lock d) n != 0 && !s.provOver n d && !s.lossDue n d

/-! Sequence, IDE and hand-over (R128, R129, R140, R141, R219) -/

/-- PORT_FLIT_STAT.IDE: the flag of the direction, or IDE_FORCE (R140). -/
def State.showIde (s : State) (n : Nat) : State :=
  let force := s.flag F.PORT_FLIT_CFG_IDE_FORCE n
  (s.wrB F.PORT_FLIT_STAT_IDE_OI n ((s.fl (flKey n 0)).ide || force)).wrB F.PORT_FLIT_STAT_IDE_IO n
    ((s.fl (flKey n 1)).ide || force)

/-- IN_SEQ and OOS of a flit (R128). -/
def FlitSt.judge (e : FlitSt) (good : Bool) (seq : Option Nat) : Bool × Bool :=
  match seq with
  | none => (false, false)
  | some q =>
    if !good then (false, false)
    else match e.expected with
      | none => (true, false)
      | some x => if q = x then (true, false) else (false, true)

/-- The flit is handed to the heat parser and the capture, with its sequence judged; the start message of IDE sets the
flag for the flits that follow (R128, R129, R140, R141). -/
def State.handOver (s : State) (n d : Nat) (h : Handed) (info : FlitInfo) : State :=
  let k := flKey n d
  let e := s.fl k
  let j := e.judge h.outcome.good info.seq
  let ide := info.cacheMem && (e.ide || s.flag F.PORT_FLIT_CFG_IDE_FORCE n)
  let h := { h with inSeq := j.1, oos := j.2, ide := ide, seq := info.seq.getD 0 }
  let s := if j.2 then s.inc F.PORT_FEC_OOS_OOS k else s
  let s := if ide then s.inc F.PORT_FEC_OPAQUE_OPAQUE k else s
  let s := if d = s.reqDir n then s.heatFlit n h.outcome.good j.1 ide info else s
  let s := s.captureFlit n d h
  let s := s.modFl k fun e => { e with
    expected := if j.1 then info.seq.map fun q => (q + 1) % Config.seqRange else e.expected
    ide := e.ide || (j.1 && info.ideStart) }
  s.showIde n

/-- What the flit engine knows of a flit as received. -/
def flitHanded (f : Flit) (drip : Nat) (place : Option (Nat × Nat)) : Handed :=
  { bytes := f.bytes, content := (flitContent f), outcome := (flitOutcome f), inSeq := false, oos := false, ide := false,
    pairs := (flitPairs f), unc := cwUnc f.cw, seq := 0, place := place, drip := drip, ns := f.ns }

/-- A replay body as a new flit with outcome CLEAN (R219). -/
def HeldFlit.bodyHanded (h : HeldFlit) (b : List Nat) : Handed :=
  { bytes := withParity b, content := withParity b, outcome := .clean, inSeq := false, oos := false, ide := false,
    pairs := [], unc := 0, seq := 0, place := some (h.row, h.index), drip := h.drip, ns := h.flit.ns }

/-! The Hold store (R209 to R211, R219) -/

/-- A flit leaves the Hold store: its pending request, if it has one, counts as failed and stays pending (R210). -/
def State.holdLeft (s : State) (n row index : Nat) : State :=
  let mine := fun (r : HoldReq) => r.held && r.row == row && r.index == index
  let s := s.incBy F.CMP_HOLD_CNT2_FAIL n ((s.port n).holdReqs.filter mine).length
  s.modPort n fun p => { p with holdReqs := p.holdReqs.map fun r => if mine r then { r with held := false } else r }

/-- The oldest flit of the Hold store departs, replaced where `replace` allows it and a body came in time (R209, R219). Without
lock it leaves as received and is not handed over (R126). -/
def State.departHeld (s : State) (n : Nat) (replace : Bool) : State :=
  match (s.port n).held with
  | [] => s
  | h :: t =>
    let s := s.modPort n fun p => { p with held := t }
    let s := s.holdLeft n h.row h.index
    let lock := h.locked && s.locked n 1
    let s := if lock then s.handOver n 1 (flitHanded h.flit h.drip (some (h.row, h.index))) h.flit.info else s
    match h.body, replace && lock with
    | some (b, info), true => (s.handOver n 1 (h.bodyHanded b) info).emit (.flit n 1 (withParity b))
    | _, _ => s.emit (.flit n 1 h.flit.bytes)

/-- Every held flit is forwarded as received, in order (R211). -/
def State.departAll : Nat → State → Nat → State
  | 0, s, _ => s
  | k + 1, s, n => State.departAll k (s.departHeld n false) n

end Sys2Proof.Machine
end

