-- ==== Sys2Proof/Machine/PortCore.lean ====
section
/-! DEFINITION. What every unit may do to a port: electrical idle, the correction mode in force, the recording of a
link-down, the settling of its in-flight work, the entry to Detect, and the port reset. -/
namespace Sys2Proof.Machine

/-! Transmitters -/

/-- What a transmitter drives: LANE_TX_COEF where OVR = 1, at every rate; at 2.5 and 5 GT/s the de-emphasis selected and the
swing of LANE_TX_CTL.SWING; else the coefficients in use (R53, R54, R78). -/
def State.drive (s : State) (ls : Nat) : Drive :=
  if s.flag F.LANE_TX_CTL_OVR ls then
    .fir (s.rd F.LANE_TX_COEF_CM2 ls) (s.rd F.LANE_TX_COEF_CM1 ls) (s.rd F.LANE_TX_COEF_C0 ls) (s.rd F.LANE_TX_COEF_CP1 ls)
  else if (s.lane ls).rate < 2 then .deemphasis (s.lane ls).sixDb (s.flag F.LANE_TX_CTL_SWING ls)
  else .fir (s.rd F.LANE_EQ_STAT_CM2 ls) (s.rd F.LANE_EQ_STAT_CM1 ls) (s.rd F.LANE_EQ_STAT_C0 ls) (s.rd F.LANE_EQ_STAT_CP1 ls)

/-- The transmitter drives its lane with its settings as they are now. -/
def State.showDrive (s : State) (ls : Nat) : State := s.emit (.drive ls (s.drive ls))

/-- The transmitter of a lane-side is silent: it does not send, a source holds it, or the safe state or a quiesce does
(R375, R376, R382), or a thermal trip does (R285). -/
def State.silent (s : State) (ls : Nat) : Bool :=
  !(s.lane ls).tx || s.holds.any (fun h => h.2 == ls) || s.safe || s.flag F.SUMP_QSTOP_STAT_QUIESCED 0 || s.flag F.PWR_THERM_STAT_TRIP_NOW 0

/-- Start or stop the transmitter of a lane-side. -/
def State.setTx (s : State) (on : Bool) (ls : Nat) : State :=
  if (s.lane ls).tx = on then s
  else (s.modLane ls fun l => { l with tx := on }).emit (.txIdle ls (!on))

/-- Both sides of a port enter electrical idle, or send. -/
def State.portTx (s : State) (n : Nat) (on : Bool) : State := forEach (s.portLs n) (fun ls a => a.setTx on ls) s

/-- Move a receiving lane-side to an adaptation state (R50). A lane-side that a spare stands in for reports OFF (R179). -/
def State.setAstate (s : State) (ls v : Nat) : State :=
  if s.rd F.LANE_RX_STAT_ASTATE ls = v then s else s.wr F.LANE_RX_STAT_ASTATE ls v

/-- A lane-side leaves the states in which a margining step can run: the step ends (R105). -/
def State.endMargin (s : State) (ls : Nat) : State :=
  let s := s.modLane ls fun l => { l with marginReq := false }
  if s.flag F.LANE_SLICE_STAT_MARG ls then
    (s.clr F.LANE_SLICE_STAT_MARG ls).wr F.LANE_SLICE_STAT_CALSLICE ls 0x7F
  else s

/-- A lane-side goes to IDLE, its equalizer values kept: electrical idle at its input (R50, R99, R101). -/
def State.laneIdle (s : State) (ls : Nat) : State :=
  if s.rd F.LANE_RX_STAT_ASTATE ls = 0 then s
  else ((s.endMargin ls).setAstate ls 1).clrAll [F.LANE_RX_STAT_CDR_LOCK, F.LANE_RX_STAT_SIGDET] ls

/-- A lane-side is powered down or not occupied: OFF (R50). -/
def State.laneOff (s : State) (ls : Nat) : State :=
  ((s.endMargin ls).setAstate ls 0).clrAll [F.LANE_RX_STAT_CDR_LOCK, F.LANE_RX_STAT_SIGDET] ls

/-- The lane-sides that send on a side: those of the trained width, or those with a receiver on both sides, without the
lanes that L0p turned off (R29, R86, R99). -/
def State.sendLs (s : State) (n : Nat) (inner : Bool) : List Nat :=
  let p := s.port n
  let m := if p.trained = 0 then p.foundO &&& p.foundI else p.trained
  ((List.range (s.width n)).filter fun i => bit m i && !bit p.offLanes i).map fun i =>
    if inner then s.innerOf (firstLane n + i) else outerLs (firstLane n + i)

/-! The correction mode in force (R22 to R25) -/

/-- Whether a mode needs rows: Patch or Hold (R22). -/
def needsRows (m : Nat) : Bool := m == 2 || m == 3

/-- The reason that a configured mode is not in force, 0 for none, the lowest code that applies (R23). A port that has
negotiated no format since its last entry to DETECT_QUIET counts as one without flit mode (DESIGN CHOICE, log entry 92). -/
def State.modeReason (s : State) (n d : Nat) : Nat :=
  let m := s.rd (F.cmode d) n
  let seg := s.rd F.CMP_PORT_STAT_SEG n
  let fmt := (s.port n).fmt
  if m = 0 then 0
  else if (m = 3 ∧ d = 0) ∨ (m = 2 ∧ d ≠ 0) then 1
  else if needsRows m ∧ ¬(seg = 2 ∨ seg = 3) then 2
  else if ¬(fmt = 1 ∨ fmt = 2) then 3
  else if needsRows m ∧ seg ≠ 3 then 4
  else 0

/-- The mode that a direction is to run: the configured mode, or Pass while a reason stands (R23). -/
def State.modeTarget (s : State) (n d : Nat) : Nat := if s.modeReason n d = 0 then s.rd (F.cmode d) n else 0

/-- A change between Pass and Patch, which takes effect at a row boundary (R24). -/
def passPatch (a b : Nat) : Bool := (a == 0 || a == 2) && (b == 0 || b == 2)

def PortSt.want (p : PortSt) (d : Nat) : Nat := if d = 0 then p.wantOI else p.wantIO
def PortSt.armed (p : PortSt) (d : Nat) : Bool := if d = 0 then p.armedOI else p.armedIO
def PortSt.setWant (p : PortSt) (d v : Nat) (a : Bool) : PortSt :=
  if d = 0 then { p with wantOI := v, armedOI := a } else { p with wantIO := v, armedIO := a }

/-- CMODE_PEND: a change of a mode in force waits (R24). -/
def State.updPend (s : State) (n : Nat) : State :=
  s.wrB F.PORT_STAT_CMODE_PEND n
    ((s.port n).wantOI != s.rd F.PORT_STAT_EMODE_OI n || (s.port n).wantIO != s.rd F.PORT_STAT_EMODE_IO n)

/-- A mode field was written, or a reason appeared or cleared: the reason is reported, and a new target replaces the one
that waited. A reason that changes outside a data stream counts as arising at the entry to the passage (R24), through Detect as through
Recovery (DESIGN CHOICE, log entry 93). -/
def State.retargetDir (s : State) (n d : Nat) (written : Bool) : State :=
  let t := s.modeTarget n d
  let s := s.wr (F.dgc d) n (s.modeReason n d)
  if (s.port n).want d = t then s
  else s.modPort n fun p => p.setWant d t (!written && !p.stream)

/-- Both directions of a port are retargeted (R24). -/
def State.retarget (s : State) (n : Nat) (written : Bool) : State :=
  ((s.retargetDir n 0 written).retargetDir n 1 written).updPend n

/-- An entry to Recovery or Detect, or a scheduled retrain, has occurred: waiting changes may act at the next data stream
(R24). -/
def State.armModes (s : State) (n : Nat) : State := s.modPort n fun p => { p with armedOI := true, armedIO := true }

/-- A waiting change takes effect in one direction. -/
def State.applyMode (s : State) (n d : Nat) : State := s.wr (F.emode d) n ((s.port n).want d)

/-- At a data stream start the changes that may act take effect; the start of row 0 is a row boundary (R24). -/
def State.modesAtStart (s : State) (n : Nat) : State :=
  let f := fun d (a : State) =>
    if passPatch (a.rd (F.emode d) n) ((a.port n).want d) || (a.port n).armed d then a.applyMode n d else a
  ((f 1 (f 0 s)).modPort n fun p => { p with armedOI := false, armedIO := false }).updPend n

/-- At a row boundary changes between Pass and Patch take effect (R24). -/
def State.modesAtRow (s : State) (n : Nat) : State :=
  let f := fun d (a : State) => if passPatch (a.rd (F.emode d) n) ((a.port n).want d) then a.applyMode n d else a
  (f 1 (f 0 s)).updPend n

/-! Rows and in-flight work -/

/-- Pending errata are discarded and counted (R137). -/
def State.abortErrata (s : State) (n : Nat) : State :=
  (s.incBy F.PORT_ERRATA_CNT_ABORT n (s.port n).errata.length).modPort n fun p => { p with errata := [] }

/-- Queued replay requests and bodies not yet sent are discarded and counted (R44, R211). -/
def State.abortReplay (s : State) (n : Nat) : State :=
  (s.incBy F.CMP_RPL_CNT2_ABORT n (s.port n).rplReqs.length).modPort n fun p => { p with rplReqs := [], store := [] }

/-- Pending Hold requests end; those whose flit was still held count as failed (R44, R210, R211). -/
def State.endHoldReqs (s : State) (n : Nat) : State :=
  (s.incBy F.CMP_HOLD_CNT2_FAIL n ((s.port n).holdReqs.filter fun r => r.held).length).modPort n
    fun p => { p with holdReqs := [] }

/-- The rows of a port stop: numbering restarts with the next rows (R156, R165, R211). -/
def State.stopRows (s : State) (n : Nat) : State :=
  (s.clr F.CMP_PORT_STAT_ROWLOCK n).modPort n fun p =>
    { p with rows := false, outPos := 0, inPos := 0, slotsOut := 0, slotsIn := 0, badRun := 0, errNum := 0, rqn := 0 }

/-- The in-flight work of a port whose reset starts is settled as R44 gives; the flits of a Hold store are discarded. -/
def State.settlePort (s : State) (n : Nat) : State :=
  let s := ((s.abortErrata n).abortReplay n).endHoldReqs n
  let s := s.modPort n fun p => { p with held := [], stream := false }
  let s := (s.stopRows n).clrAll [F.lock 0, F.lock 1, F.PORT_FLIT_STAT_FMT] n
  (s.dropClass3 n).abandonExport n

/-- The in-flight work of a port is settled at a link-down that is no reset (R109). While the port stays associated, the slot
traffic of its rows follows R211: held flits are forwarded, class-3 traffic is kept and the export pauses (R242); else R44
(log entry 104). -/
def State.settleDown (s : State) (n : Nat) : State :=
  if s.rd F.CMP_PORT_STAT_SEG n = 2 ∨ s.rd F.CMP_PORT_STAT_SEG n = 3 then
    let s := State.departAll (s.port n).held.length s n
    let s := (((s.abortErrata n).abortReplay n).endHoldReqs n).modPort n fun p => { p with stream := false }
    ((s.stopRows n).clrAll [F.lock 0, F.lock 1, F.PORT_FLIT_STAT_FMT] n).pauseExport n
  else s.settlePort n

/-! Link-down (R108, R109, R119, R391) -/

/-- Whether a cause is device-attributable (R108). -/
def attributable (c : Nat) : Bool := 10 ≤ c && c ≤ 12

/-- Write the record of a link-down: cause, state left, rate, tag, drip, the counts, the sump event, and the start of
attributable down time. -/
def State.logDown (s : State) (n cause state rate : Nat) : State :=
  let s := (((s.wr F.PORT_LDN_LOG_CAUSE n cause).wr F.PORT_LDN_LOG_STATE n state).wr F.PORT_LDN_LOG_RATE n rate).wr
    F.PORT_LDN_LOG_TAG n (s.rd F.PORT_BIND_TAG n)
  let s := (s.wr F.PORT_LDN_DRIP_LO_DRIP_LO n (s.drip % 2 ^ 32)).wr F.PORT_LDN_DRIP_HI_DRIP_HI n (s.drip / 2 ^ 32)
  let s := s.inc F.PORT_LDN_CNT_ALL n
  let s := if attributable cause then
      ((s.inc F.PORT_LDN_CNT_ATTR n).incBy F.SUMP_ATTR_DOWN_DRIPS n
        (if s.ltssm n = 8 then 0 else s.drip - (s.port n).l0Exit)).modPort n fun p => { p with attrRun := true }
    else s
  (s.modPort n fun p => { p with down := some (s.drip, cause), noted := none }).raise 48 n cause

/-- A root cause of a loss that the link-down to come will record (R109): the first one, or the lower code of two that
arise in one drip. -/
def State.noteCause (s : State) (n cause : Nat) : State :=
  s.modPort n fun p => match p.noted with
    | none => { p with noted := some (s.drip, cause) }
    | some (d, c) => if d = s.drip ∧ cause < c then { p with noted := some (d, cause) } else p

/-- A lane of the port is held by a lane reaction (R375). -/
def State.portHeld (s : State) (n : Nat) : Bool := s.holds.any fun h => (s.portLs n).contains h.2

/-- The cause to record when a cause leads to a link-down: the first cause, and cause 11 while a lane of the port is held
(R109, R375). Cause 9 only ever follows from another. -/
def State.rootCause (s : State) (n cause : Nat) : Nat :=
  if s.portHeld n then 11 else
  match (s.port n).noted with
  | none => cause
  | some (d, c) => if d = s.drip ∧ cause ≠ 9 ∧ cause < c then cause else c

/-- Whether a cause replaces one recorded in the same drip (R109). -/
def State.replaces (s : State) (n cause : Nat) : Bool :=
  match (s.port n).down with
  | none => false
  | some (d, c) => d == s.drip && cause != 9 && decide (cause < c)

/-- The counts follow the cause that replaces another of the same drip (R108, R109, R391). -/
def State.recount (s : State) (n old new : Nat) : State :=
  let d := s.drip - (s.port n).l0Exit
  if attributable new && !attributable old then
    ((s.inc F.PORT_LDN_CNT_ATTR n).incBy F.SUMP_ATTR_DOWN_DRIPS n d).modPort n fun p => { p with attrRun := true }
  else if attributable old && !attributable new then
    ((s.wr F.PORT_LDN_CNT_ATTR n (s.rd F.PORT_LDN_CNT_ATTR n - 1)).wr F.SUMP_ATTR_DOWN_DRIPS n
      (s.rd F.SUMP_ATTR_DOWN_DRIPS n - d)).modPort n fun p => { p with attrRun := false }
  else s

/-- A link-down other than a port reset: recorded once for a loss, with the in-flight work settled (R108, R109). -/
def State.linkDown (s : State) (n cause : Nat) : State :=
  if (s.port n).down.isSome then
    if s.replaces n cause then
      let s := (s.recount n (s.rd F.PORT_LDN_LOG_CAUSE n) cause).wr F.PORT_LDN_LOG_CAUSE n cause
      s.modPort n fun p => { p with down := some (s.drip, cause) }
    else s
  else if !(s.port n).reachedL0 then s
  else
    (s.logDown n (s.rootCause n cause) (s.ltssm n) (s.rate n)).settleDown n

/-! Entry to Detect and port reset -/

/-- A step correction still waiting when the port leaves L0 is applied gradually; where steps are forced, at once, as the lane-side
then carries no traffic (R290). -/
def State.rampWaiting (s : State) (ls : Nat) : State :=
  if (s.lane ls).corr = 0 then s
  else if s.rd F.PWR_CAL_CFG_GRAD 0 = 1 then s.modLane ls fun l => { l with corr := 0 }
  else s.modLane ls fun l => { l with corr := 0, ramps := l.ramps ++ List.replicate l.corr 64 }

/-- Record the state of a port (R89). Leaving L0 dates the down time of R391 and ends the wait of step corrections (R290); FMT
reads 0 outside L0 (R121). -/
def State.setLtssm (s : State) (n v : Nat) : State :=
  let s := if s.ltssm n = 8 ∧ v ≠ 8 then
      forEach (s.portLs n) (fun ls a => a.rampWaiting ls) (s.modPort n fun p => { p with l0Exit := s.drip })
    else s
  (s.wr F.PORT_FLIT_STAT_FMT n (if v = 8 then (s.port n).fmt else 0)).wr F.PORT_LINK_STAT_LTSSM n v

/-- Terminations of both sides go off (R86). -/
def State.termsOff (s : State) (n : Nat) : State :=
  if (s.port n).foundO = 0 ∧ (s.port n).foundI = 0 then s
  else forEach (s.portLs n) (fun ls a => a.emit (.term ls false))
    (s.modPort n fun p => { p with foundO := 0, foundI := 0, detectRetries := 0 })

/-- What training has learned is forgotten: rate, widths, flit mode, Execution modes, the inner rate and any attempt. That
RATE and FLIT read 0 then is the model's choice (DESIGN CHOICE, log entry 94). The format stays in force until the port enters
DETECT_QUIET (R121). -/
def State.forgetLink (s : State) (n : Nat) : State :=
  let s := s.clrAll [F.PORT_LINK_STAT_RATE, F.PORT_LINK_STAT_WIDTH, F.PORT_LINK_STAT_AWIDTH, F.PORT_LINK_STAT_FLIT,
    F.PORT_FLIT_STAT_FMT, F.lock 0, F.lock 1] n
  let s := s.modPort n fun p => { p with
    execO := none, execI := none, heldPhase := none, retraining := false, retrO := false, retrI := false, trained := 0, offLanes := 0, stream := false,
    joinWait := false, rejoin := false, leavePend := false, innerComp := false, attempt := .none, peerLock := false,
    ownLock := false, ownCeq := false, peerCeq := false, configSeen := false }
  let s := (s.modFl (flKey n 0) fun e => { e with ide := false, expected := none }).modFl (flKey n 1)
    fun e => { e with ide := false, expected := none }
  forEach (s.portLs n) (fun ls a => (a.laneIdle ls).modLane ls fun l => { l with rate := 0, comp := false, sixDb := false })
    (s.showIde n)

/-- Entry to DETECT_QUIET: both sides idle, terminations off, IDE flags clear, the negotiated format ends (R86, R89, R121,
R140). The port has not reached L0 since; a loss that a port reset recorded is over (R119). A port with rows is associated without rows at 2.5 GT/s (log entry 12). -/
def State.enterDetect (s : State) (n : Nat) : State :=
  let held := s.ltssm n = 0x1F ∨ s.ltssm n = 0x1D
  let s := (((s.portTx n false).termsOff n).forgetLink n).setLtssm n 0
  let s := s.modPort n fun p => { p with
    reachedL0 := false, noted := none, fmt := 0, down := if held then none else p.down }
  let s := if s.rd F.CMP_PORT_STAT_SEG n = 3 then s.wr F.CMP_PORT_STAT_SEG n 2 else s
  ((s.stopRows n).armModes n).retarget n false

/-- A port goes to a down state by a link-down cause, or simply trains again where it had not reached L0 (R108). -/
def State.downToDetect (s : State) (n cause : Nat) : State := (s.linkDown n cause).enterDetect n

/-- The registers of port n that a port reset initializes and that are mirrors (R117, R118, R187). -/
def F.resetMirrors : List Fld :=
  [F.PORT_STAT_CMODE_PEND, F.PORT_STAT_DGC_IO, F.PORT_STAT_DGC_OI, F.PORT_STAT_EMODE_IO, F.PORT_STAT_EMODE_OI,
   F.PORT_LINK_STAT_AWIDTH, F.PORT_LINK_STAT_WIDTH, F.PORT_LINK_STAT_XS_RTMR, F.PORT_LINK_STAT_POS,
   F.PORT_LINK_STAT_FLIT, F.PORT_LINK_STAT_RATE, F.PORT_LINK_STAT_LTSSM, F.PORT_EQ_STAT_RATE, F.PORT_EQ_STAT_I_TRIALS,
   F.PORT_EQ_STAT_O_TRIALS, F.PORT_EQ_STAT_I_RESULT, F.PORT_EQ_STAT_O_RESULT, F.CMP_PORT_STAT_SEG,
   F.CMP_PORT_STAT_ROWLOCK, F.CMP_PORT_ROW_ROW_IN, F.CMP_PORT_ROW_ROW_OUT, F.PORT_FLIT_STAT_LOCK_IO,
   F.PORT_FLIT_STAT_LOCK_OI, F.PORT_FLIT_STAT_FMT, F.PORT_FLIT_STAT_IDE_IO, F.PORT_FLIT_STAT_IDE_OI]

/-- The AGE fields of the mirrors that a port reset initializes (R117, R118). -/
def F.resetAges : List Fld := [F.PORT_STAT_AGE, F.PORT_LINK_STAT_AGE, F.PORT_EQ_STAT_AGE]

/-- The capture of a port is disarmed, whatever its state; records already captured are kept (R44, R145, R154). -/
def State.disarmCapture (s : State) (n : Nat) : State := s.wr F.PORT_CAP_STAT_STATE n 3

/-- The depth and delay of a class's queue read 0 (R214). -/
def State.zeroQueues (s : State) (n : Nat) : State :=
  forUp 5 (fun c a => (a.wrBoth F.CMP_Q_STAT_DEPTH (5 * n + c) 0).wrBoth F.CMP_Q_STAT_DELAY (5 * n + c) 0) s

/-- A port reset starts (R43, R44, R119, R120, R143, R187, R202, R415): counters and log are initialized, the port's own
link-down is recorded, the work in flight is settled, and the port is held in the state given, RESET or PRESENCE_WAIT. -/
def State.portReset (s : State) (n cause hold : Nat) : State :=
  let state := s.ltssm n
  let rate := s.rate n
  let had := (s.port n).reachedL0 || (s.port n).down.isSome
  let s := s.wr F.GLB_RST_CAUSE_PORT 0 (setBit (s.rd F.GLB_RST_CAUSE_PORT 0) n)
  let s := s.clrAll [F.PORT_LDN_LOG_TAG, F.PORT_LDN_LOG_STATE, F.PORT_LDN_LOG_RATE, F.PORT_LDN_LOG_CAUSE,
    F.PORT_LDN_CNT_WDOG, F.PORT_LDN_CNT_ATTR, F.PORT_LDN_CNT_ALL, F.PORT_LDN_DRIP_LO_DRIP_LO,
    F.PORT_LDN_DRIP_HI_DRIP_HI, F.PORT_TRN_CNT_RECOV, F.PORT_TRN_CNT_SPEED, F.PORT_TRN_CNT_EQ,
    F.PORT_HP_STAT_PERST_CHG, F.PORT_HP_STAT_PRSNT_CHG, F.PORT_ERRATA_STAT_ERR_SEQ] n
  let s := s.clrFlitCounters n
  let s := if had then s.logDown n cause state rate else s
  let s := ((s.settlePort n).disarmCapture n).flushCache n
  let s := s.modPort n fun p => { p with
    refused := [], refOvf := false, refAge := 0, chunkAge := 0, noted := none, reachedL0 := had, tok3 := 0, tok4 := 0, tokP := 0, wantOI := 0, wantIO := 0,
    armedOI := false, armedIO := false }
  let s := ((s.portTx n false).termsOff n).forgetLink n
  let s := forEach (s.portLs n) (fun ls a => a.modLane ls fun l => { l with stored := [] }) s
  let s := F.resetMirrors.foldl (fun a f => a.rstBoth f n) s
  let s := F.resetAges.foldl (fun a f => a.wrMirror f n 0xF) s
  let s := (s.zeroQueues n).showIde n
  let s := if s.flag F.PORT_CTL_EN n then s else forEach (s.portLs n) (fun ls a => a.laneOff ls) s
  ((s.wrBoth F.PORT_STAT_RSTDONE n 0).setLtssm n hold).retarget n false

/-- The port may leave reset: enabled, released by start-up, and PERST_Nn high where it acts (R106). -/
def State.mayRun (s : State) (n : Nat) : Bool :=
  s.portEn n && (s.port n).released && !(s.flag F.PORT_CFG_PERST_EN n && s.flag F.PORT_HP_STAT_PERST n)

/-- The accepted presence level holds the port in PRESENCE_WAIT (R107). -/
def State.slotEmpty (s : State) (n : Nat) : Bool := s.flag F.PORT_CFG_PRSNT_EN n && !s.flag F.PORT_HP_STAT_PRSNT n

/-- A port held in RESET whose settling has ended leaves it where nothing holds it (R44, R106, R107). The lane-sides of an
enabled port in a powered quad leave OFF for IDLE (R50). -/
def State.leaveReset (s : State) (n : Nat) : State :=
  if s.mayRun n && s.flag F.PORT_STAT_RSTDONE n && (s.ltssm n == 0x1F || s.ltssm n == 0x1D) then
    if s.slotEmpty n then s.setLtssm n 0x1D
    else s.enterDetect n
  else s

/-- The lane-sides of an enabled port leave OFF for IDLE where their quad is powered (R50); a lane-side that an ACTIVE spare
replaces stays OFF (R179). -/
def State.lanesOn (s : State) (n : Nat) : State :=
  forEach (s.portLs n) (fun ls a =>
    if a.rd F.LANE_RX_STAT_ASTATE ls = 0 ∧ ¬ bit (a.rd F.PWR_DOM_STAT_QGATED 0) (a.laneOfLs ls / 4) then
      a.setAstate ls 1 else a) s

end Sys2Proof.Machine
end

