-- ==== Sys2Proof/Machine/CsbCore.lean ====
section
/-! DEFINITION. What other units ask of the companion sideband: queueing a message, leaving UP, and abandoning a sparing
procedure, which the CSB's loss and the sump can cause (R168, R172, R180). -/
namespace Sys2Proof.Machine

/-- The CSB is UP (R170). -/
def State.csbUp (s : State) : Bool := s.rd F.CMP_CSB_STAT_STATE 0 == 3

/-- Queue a sequenced message on its virtual channel (R172). While the CSB is not UP nothing is sent. -/
def State.csbQueue (s : State) (type vc : Nat) (payload : List Nat) (ring : Option (Nat × Nat)) (hw : Option Nat) : State :=
  if s.csbUp then
    if vc = 0 then
      (s.putCsb ({ s.csb with
          q0 := s.csb.q0 ++ [⟨type, 0, s.csb.seq0, payload, ring, hw⟩], seq0 := (s.csb.seq0 + 1) % 256 }))
    else
      (s.putCsb ({ s.csb with
          q1 := s.csb.q1 ++ [⟨type, 1, s.csb.seq1, payload, ring, hw⟩], seq1 := (s.csb.seq1 + 1) % 256 }))
  else s

/-- Queue a coordination or management message that carries no ring entry. -/
def State.csbSend (s : State) (type vc : Nat) (payload : List Nat) : State := s.csbQueue type vc payload none none

/-- The bytes of a frame between K27.7 and K29.7, with the acknowledgement it carries (R171). -/
def CsbFrame.bytes (f : CsbFrame) (ack : Nat) : List Nat :=
  let b := [f.type, 128 * f.vc, f.seq, ack] ++ leBytes f.payload.length 2 ++ f.payload
  b ++ leBytes (crc32c b) 4

/-- A received frame whose length matches its end and whose CRC-32C holds (R171). -/
def csbFrameOk (b : List Nat) : Bool :=
  b.length == leAt b 4 2 + 10 && leAt b (b.length - 4) 4 == crc32c (b.take (b.length - 4))

/-- A frame goes out. -/
def State.sendFrame (s : State) (f : CsbFrame) (ack : Nat) : State := s.emit (.csb (f.bytes ack))

def State.spare (s : State) (h : Nat) : SpareSt := s.spares.get h {}
def State.setSpare (s : State) (h : Nat) (p : SpareSt) : State := { s with spares := s.spares.set h p {} }
def State.modSpare (s : State) (h : Nat) (f : SpareSt → SpareSt) : State := s.setSpare h (f (s.spare h))

/-- SPARE_RX_ON: which lane-side the device's receiver uses (R174, R178). -/
def State.sendRxOn (s : State) (h l on : Nat) : State := s.csbSend 0x32 0 [h, l, on]

/-- SP0 or SP1 of the port of the lane served: 1 while the spare is ACTIVE (R187). -/
def State.markSpare (s : State) (h : Nat) (on : Bool) : State :=
  match s.portOfLane (s.spareLane h) with
  | some n => s.wrB (if h = 0 then F.CMP_PORT_STAT_SP0 else F.CMP_PORT_STAT_SP1) n on
  | none => s

/-- The spare stops sending its copy and serves no lane; the lane's own transmitter and receiver are in use (R180, R181). -/
def State.spareIdle (s : State) (h : Nat) : State :=
  let l := s.spareLane h
  let sends := (s.lane (64 + h)).tx && !(s.lane (innerLs l)).tx
  let s := s.setTx false (64 + h)
  let s := if sends then s.setTx true (innerLs l) else s
  let s := (s.laneOff (64 + h)).wr F.SPARE_STAT_STATE h 1
  -- the lane's own receiver is in service again (R181)
  let s := match s.portOfLane l with
    | some n => if s.rd F.LANE_RX_STAT_ASTATE (innerLs l) = 0 ∧ s.portEn n then s.setAstate (innerLs l) 1 else s
    | none => s
  (s.markSpare h false).setSpare h {}

/-- An abandoned procedure is over once no receiver uses the spare: only then does the copy stop (R180). -/
def State.spareEnd (s : State) (h : Nat) : State :=
  if (s.spare h).ending && !(s.spare h).rxOwn && !(s.spare h).rxPeer then s.spareIdle h else s

/-- A sparing procedure not yet ACTIVE is abandoned: the steps made are reversed, the failure is counted and reported, and
LAST_RES reads 5 for a timeout and 6 otherwise (R180). The copy lasts until the receivers have returned to the lane, each at its next
boundary; a receiver of the peer is not waited for while the CSB is not UP, and where the lane leaves service (`now`) no
boundary is to come (DESIGN CHOICE, log entry 106). A release under way returns to ACTIVE (log entry 14). -/
def State.abandonSpare (s : State) (h res : Nat) (now : Bool) : State :=
  let st := s.spareState h
  if st = 2 ∨ st = 3 then
    let s := if (s.spare h).ending then s
      else ((s.inc F.SPARE_CNT_FAIL 0).wr F.SPARE_STAT_LAST_RES h res).raise 55 h 0
    let s := if now && (s.spare h).rxOwn then s.sendRxOn h (s.spareLane h) 0 else s
    let s := if (s.spare h).rxPeer then s.setTx true (innerLs (s.spareLane h)) else s
    (s.modSpare h fun p => { p with
      asked := false, waits := false, ending := true, rxOwn := p.rxOwn && !now
      rxPeer := p.rxPeer && !now && s.csbUp }).spareEnd h
  else if st = 5 then
    let l := s.spareLane h
    let s := if (s.spare h).copying then (s.setTx false (innerLs l)).laneOff (innerLs l) else s
    let s := if (s.spare h).rxOwn then s else s.sendRxOn h l 1
    let s := ((s.wr F.SPARE_STAT_STATE h 4).markSpare h true).modSpare h fun p =>
      { p with asked := false, rxOwn := true, rxPeer := true, tracked := false, copying := false }
    ((s.inc F.SPARE_CNT_FAIL 0).wr F.SPARE_STAT_LAST_RES h res).raise 55 h 0
  else s

/-- Abandon the procedures that serve lanes of a port (R180). -/
def State.abandonPortSpares (s : State) (n : Nat) : State :=
  forUp 2 (fun h a => if a.spareState h ≥ 2 ∧ a.portOfLane (a.spareLane h) = some n then a.abandonSpare h 6 true else a) s

/-- The messages of a queue that are counted as lost: frames that carry a ring entry are sent again instead (R168, R311). -/
def lostFrames (l : List CsbFrame) : Nat := (l.filter fun f => f.ring.isNone).length

/-- The CSB leaves UP: queued and unacknowledged frames are discarded and counted, procedures are abandoned, and sequence
numbers will restart at 0. Associations, rows and spares in force stay (R168, R170). -/
def State.csbLeaveUp (s : State) (next : Nat) : State :=
  let c := s.csb
  let s := s.incBy F.CMP_CSB_CNT2_LOST 0 (lostFrames c.q0 + lostFrames c.q1 + lostFrames c.un0 + lostFrames c.un1)
  let s := (s.putCsb ({ s.csb with
    q0 := [], q1 := [], un0 := [], un1 := [], seq0 := 0, seq1 := 0, rx0 := 0, rx1 := 0, last0 := 255, last1 := 255,
    ackDue0 := false, ackDue1 := false, beaconDue := none }))
  let s := forUp 16 (fun n a => a.modPort n fun p => if p.rejoin then { p with joinWait := false, rejoin := false } else p) s
  let s := s.wr F.CMP_CSB_STAT_STATE 0 next
  forUp 2 (fun h a => (a.modSpare h fun p => { p with peerWanted := [] }).abandonSpare h 6 false) s

/-- A loss from UP: counted and reported (R170). -/
def State.csbLoss (s : State) (next : Nat) : State :=
  if s.csbUp then ((s.csbLeaveUp next).inc F.CMP_CSB_CNT_DOWN 0).raise 54 0 0 else s

end Sys2Proof.Machine
end

