-- ==== Sys2Proof/WellFormed.lean ====
section
/-! DEFINITION. Which commands exist: every operand names an object the device has and a value its encoding admits. -/
namespace Sys2Proof

/-- Every number is a byte. -/
def bytesWf (l : List Nat) : Bool := l.all fun b => decide (b < 256)

/-- The first byte of a slot. -/
def byte0 (l : List Nat) : Nat := l.headD 0

/-- Every number fits 16 bits. -/
def wordsWf (l : List Nat) : Bool := l.all fun b => decide (b < 2 ^ 16)

/-- Lane offsets within a port. -/
def offsWf (l : List Nat) : Bool := l.all fun b => decide (b < 16)

/-- A trained or active width (R117). -/
def widthWf (w : Nat) : Bool := [1, 2, 4, 8, 16].contains w

def CsbHdr.wf (h : CsbHdr) : Bool := decide (h.vc < 2) && decide (h.seq < 256) && decide (h.ack < 256)

def Straps.wf (s : Straps) : Bool := decide (s.addr < 8) && decide (s.bootsel < 4)

def MirrorUnit.wf : MirrorUnit → Bool
  | .core => true
  | .quad q => decide (q < 8)

/-- The states of R89 that the link ends can lead a port to. -/
def linkStates : List Nat :=
  [0x00, 0x02, 0x03, 0x04, 0x05, 0x08, 0x10, 0x11, 0x12, 0x13, 0x14, 0x15, 0x16, 0x17, 0x18, 0x19, 0x1A]

/-- A receiver preset hint (R90): three bits. -/
def hintWf : Option Nat → Bool
  | none => true
  | some h => decide (h < 8)

def TrainSet.wf (t : TrainSet) : Bool :=
  linkStates.contains t.state && decide (t.rates < 2 ^ 7) && decide (t.fmt < 4) && (t.width == 0 || widthWf t.width)
    && offsWf t.logical && offsWf t.inverted && decide (t.rate < 7) && decide (t.presetUsp < 16)
    && decide (t.presetDsp < 16) && decide (t.link < 256) && hintWf t.hintUsp && hintWf t.hintDsp && decide (t.fs < 64)
    && decide (t.lf < 64)

def CoefReq.wf : CoefReq → Bool
  | .preset p => decide (p < 16)
  | .coefs a b c d => decide (a < 64) && decide (b < 64) && decide (c < 64) && decide (d < 64)

def Trial.wf (t : Trial) : Bool :=
  match t.step with
  | none => true
  | some c => c.wf

def Codeword.wf : Codeword → Bool
  | .corrected off mask => decide (off < 256) && decide (0 < mask) && decide (mask < 256)
  | _ => true

/-- Codeword c corrects only bytes of its own: byte i belongs to codeword i mod 3 (R123). -/
def codewordsWf : Nat → List Codeword → Bool
  | _, [] => true
  | c, w :: t => w.wf && (match w with | .corrected off _ => off % 3 == c | _ => true) && codewordsWf (c + 1) t

def Flit.wf (f : Flit) : Bool :=
  f.bytes.length == 256 && bytesWf f.bytes && f.cw.length == 3 && codewordsWf 0 f.cw && decide (f.ns < 1999) && decide (f.ago < 3)

def Ecc.wf : Ecc → Bool
  | .ok => true
  | .ce w => decide (w < 2 ^ 24)
  | .ue w => decide (w < 2 ^ 24)

def Pll.wf : Pll → Bool
  | .quadOuter q => decide (q < 8)
  | .quadInner q => decide (q < 8)
  | _ => true

def DripIn.wf (d : DripIn) : Bool :=
  decide (d.vddc < 2 ^ 16) && decide (d.vdda < 2 ^ 16) && decide (d.vddh < 2 ^ 16) && decide (d.zref < 2 ^ 16)
    && d.badSlices.all (fun p => decide (p.1 < 66) && decide (p.2 < 66)) && d.badLegs.all (fun p => decide (p.1 < 66) && decide (p.2 < 50))
    && d.cycles.length == 8 && d.cycles.all (fun c => decide (c < 901))
    && d.prbs.all (fun p => decide (p.1 < 66) && decide (p.2.2 ≤ p.2.1))

def Route.wf : Route → Bool
  | .i3c eid tag => decide (eid < 256) && decide (tag < 8)
  | .smbus eid tag => decide (eid < 256) && decide (tag < 8)
  | .csb h => h.wf

def Flash.wf (f : Flash) : Bool := SMap.wf (fun _ => (0xFF : Nat)) f.cells && f.cells.all fun c => decide (c.2 < 256)

def StageIn.wf (x : StageIn) : Bool :=
  match x.flash with
  | .holds f => f.wf
  | _ => true

/-- Operands of POWER_ON_RESET. -/
def Wf.powerOnReset (st : Straps) : Bool := st.wf
/-- Operands of PIN_RESET. -/
def Wf.pinReset (st : Straps) : Bool := st.wf
/-- Operands of BROWN_OUT. -/
def Wf.brownOut (rail : Nat) : Bool := decide (rail < 4)
/-- Operands of GLB_RST_DEVICE. -/
def Wf.glbRstDevice (_r : Requester) : Bool := true
/-- Operands of GLB_RST_LANTERN. -/
def Wf.glbRstLantern (_r : Requester) : Bool := true
/-- Operands of LANTERN_RESTART. -/
def Wf.lanternRestart : Bool := true
/-- Operands of PORT_CTL_EN. -/
def Wf.portCtlEn (_r : Requester) (port : Nat) (_en : Bool) : Bool := decide (port < 16)
/-- Operands of PORT_CTL_RST. -/
def Wf.portCtlRst (_r : Requester) (port : Nat) : Bool := decide (port < 16)
/-- Operands of PORT_RESET_DONE. -/
def Wf.portResetDone (port : Nat) : Bool := decide (port < 16)
/-- Operands of PERST_ASSERT. -/
def Wf.perstAssert (port : Nat) : Bool := decide (port < 16)
/-- Operands of PERST_RELEASE. -/
def Wf.perstRelease (port : Nat) : Bool := decide (port < 16)
/-- Operands of PRESENCE_ACCEPTED. -/
def Wf.presenceAccepted (port : Nat) (_high : Bool) : Bool := decide (port < 16)
/-- Operands of QUAD_CTL_RST. -/
def Wf.quadCtlRst (_r : Requester) (quad : Nat) : Bool := decide (quad < 8)
/-- Operands of CMP_CSB_CTL_RST. -/
def Wf.cmpCsbCtlRst (_r : Requester) : Bool := true
/-- Operands of CMP_CSB_CTL_EN. -/
def Wf.cmpCsbCtlEn (_r : Requester) (_en : Bool) : Bool := true
/-- Operands of LANE_RX_CTL_FREEZE. -/
def Wf.laneRxCtlFreeze (_r : Requester) (ls : Nat) (_frz : Bool) : Bool := decide (ls < 66)
/-- Operands of LANE_RX_CTL_RESTART. -/
def Wf.laneRxCtlRestart (_r : Requester) (ls : Nat) : Bool := decide (ls < 66)
/-- Operands of LANE_RX_CTL_CNT_CLR. -/
def Wf.laneRxCtlCntClr (_r : Requester) (ls : Nat) : Bool := decide (ls < 66)
/-- Operands of SIGNAL_DETECT. -/
def Wf.signalDetect (ls : Nat) : Bool := decide (ls < 66)
/-- Operands of CDR_LOCK. -/
def Wf.cdrLock (ls : Nat) : Bool := decide (ls < 66)
/-- Operands of LOSS_OF_SIGNAL. -/
def Wf.lossOfSignal (ls : Nat) : Bool := decide (ls < 66)
/-- Operands of ADAPT_CONVERGED. -/
def Wf.adaptConverged (ls : Nat) (ctle : Nat) (dfe1 : Nat) (ffeM1 : Nat) (ffeP1 : Nat) : Bool := decide (ls < 66) && decide (ctle < 64) && decide (dfe1 < 64) && decide (ffeM1 < 64) && decide (ffeP1 < 64)
/-- Operands of LOSS_OF_LOCK. -/
def Wf.lossOfLock (ls : Nat) : Bool := decide (ls < 66)
/-- Operands of RELOCK_TIMEOUT. -/
def Wf.relockTimeout (ls : Nat) : Bool := decide (ls < 66)
/-- Operands of EB_WATERMARK_CROSSING. -/
def Wf.ebWatermarkCrossing (ls : Nat) (fill : Nat) : Bool := decide (ls < 66) && decide (fill < 65)
/-- Operands of ELASTIC_BUFFER_ERROR. -/
def Wf.elasticBufferError (ls : Nat) (_full : Bool) : Bool := decide (ls < 66)
/-- Operands of SKP_ORDERED_SET. -/
def Wf.skpOrderedSet (ls : Nat) (fill : Nat) (unit : Nat) : Bool := decide (ls < 66) && decide (fill < 65) && decide (0 < unit ∧ unit < 65)
/-- Operands of LANE_PRBS_CTL_CLR. -/
def Wf.lanePrbsCtlClr (_r : Requester) (ls : Nat) : Bool := decide (ls < 66)
/-- Operands of PRBS_LOCK. -/
def Wf.prbsLock (ls : Nat) : Bool := decide (ls < 66)
/-- Operands of PRBS_LOCK_LOSS. -/
def Wf.prbsLockLoss (ls : Nat) (bits : Nat) (errs : Nat) : Bool := decide (ls < 66) && decide (errs ≤ bits)
/-- Operands of MARGIN_COMMAND. -/
def Wf.marginCommand (port : Nat) (lane : Nat) (rxnum : Nat) (_ask : MarginAsk) : Bool := decide (port < 16) && decide (lane < 32) && decide (rxnum < 8)
/-- Operands of MARGIN_STEP_SETUP. -/
def Wf.marginStepSetup (ls : Nat) : Bool := decide (ls < 66)
/-- Operands of PHR_CTL_EN. -/
def Wf.phrCtlEn (_r : Requester) (quad : Nat) (_en : Bool) : Bool := decide (quad < 8)
/-- Operands of PHR_WDOG_CLR. -/
def Wf.phrWdogClr (_r : Requester) (quad : Nat) : Bool := decide (quad < 8)
/-- Operands of PHRASE_OVERRUN. -/
def Wf.phraseOverrun (quad : Nat) : Bool := decide (quad < 8)
/-- Operands of MIRROR_REFRESH. -/
def Wf.mirrorRefresh (unit : MirrorUnit) : Bool := unit.wf
/-- Operands of PHRASE_MEMORY_WRITE. -/
def Wf.phraseMemoryWrite (_r : Requester) (addr : Nat) (val : Nat) : Bool := decide (0x100000 ≤ addr ∧ addr < 0x140000 ∧ addr % 4 = 0) && decide (val < 2 ^ 32)
/-- Operands of DETECT_RETRY. -/
def Wf.detectRetry (port : Nat) (outer : List Nat) (inner : List Nat) : Bool := decide (port < 16) && offsWf outer && offsWf inner
/-- Operands of TRAINING_SET. -/
def Wf.trainingSet (port : Nat) (ts : TrainSet) : Bool := decide (port < 16) && ts.wf
/-- Operands of COEFFICIENT_REQUEST. -/
def Wf.coefficientRequest (ls : Nat) (req : CoefReq) : Bool := decide (ls < 66) && req.wf
/-- Operands of EQ_TRIAL_END. -/
def Wf.eqTrialEnd (port : Nat) (_inner : Bool) (tr : Trial) : Bool := decide (port < 16) && tr.wf
/-- Operands of EXEC_TMO. -/
def Wf.execTmo (port : Nat) (_inner : Bool) : Bool := decide (port < 16)
/-- Operands of L0P_TRANSITION. -/
def Wf.l0pTransition (port : Nat) (width : Nat) : Bool := decide (port < 16) && widthWf width
/-- Operands of L1_ENTRY. -/
def Wf.l1Entry (port : Nat) : Bool := decide (port < 16)
/-- Operands of L1_EXIT. -/
def Wf.l1Exit (port : Nat) (_inner : Bool) (lane : Nat) : Bool := decide (port < 16) && decide (lane < 32)
/-- Operands of HOT_RESET. -/
def Wf.hotReset (port : Nat) (_inner : Bool) : Bool := decide (port < 16)
/-- Operands of DISABLED_EXIT. -/
def Wf.disabledExit (port : Nat) (_inner : Bool) : Bool := decide (port < 16)
/-- Operands of TRAINING_WATCHDOG. -/
def Wf.trainingWatchdog (port : Nat) : Bool := decide (port < 16)
/-- Operands of TIMEOUT_IDLE_END. -/
def Wf.timeoutIdleEnd (port : Nat) : Bool := decide (port < 16)
/-- Operands of UNANNOUNCED_IDLE. -/
def Wf.unannouncedIdle (port : Nat) (_inner : Bool) : Bool := decide (port < 16)
/-- Operands of PORT_CTL_RETRAIN. -/
def Wf.portCtlRetrain (_r : Requester) (port : Nat) : Bool := decide (port < 16)
/-- Operands of PORT_CTL_CNT_CLR. -/
def Wf.portCtlCntClr (_r : Requester) (port : Nat) : Bool := decide (port < 16)
/-- Operands of PORT_BIND_TAG_WRITE. -/
def Wf.portBindTagWrite (_r : Requester) (port : Nat) (tag : Nat) : Bool := decide (port < 16) && decide (tag < 2 ^ 16)
/-- Operands of DATA_STREAM_START. -/
def Wf.dataStreamStart (port skewOI skewIO : Nat) : Bool := decide (port < 16) && decide (skewOI < 2 ^ 32) && decide (skewIO < 2 ^ 32)
/-- Operands of DATA_STREAM_END. -/
def Wf.dataStreamEnd (port : Nat) : Bool := decide (port < 16)
/-- Operands of FLIT_DECODED. -/
def Wf.flitDecoded (port : Nat) (dir : Nat) (fl : Flit) : Bool := decide (port < 16) && decide (dir < 2) && fl.wf
/-- Operands of PROVISIONAL_LOCK_EXPIRY. -/
def Wf.provisionalLockExpiry (port : Nat) (dir : Nat) : Bool := decide (port < 16) && decide (dir < 2)
/-- Operands of LOCK_LOSS. -/
def Wf.lockLoss (port : Nat) (dir : Nat) : Bool := decide (port < 16) && decide (dir < 2)
/-- Operands of ORDERED_SET_MISPLACED. -/
def Wf.orderedSetMisplaced (port : Nat) (dir : Nat) : Bool := decide (port < 16) && decide (dir < 2)
/-- Operands of PORT_FLIT_CTL_CNT_CLR. -/
def Wf.portFlitCtlCntClr (_r : Requester) (port : Nat) : Bool := decide (port < 16)
/-- Operands of PORT_CAP_CTL_ARM. -/
def Wf.portCapCtlArm (_r : Requester) (port : Nat) : Bool := decide (port < 16)
/-- Operands of PORT_CAP_CTL_FORCE. -/
def Wf.portCapCtlForce (_r : Requester) (port : Nat) : Bool := decide (port < 16)
/-- Operands of PORT_CAP_CTL_STOP. -/
def Wf.portCapCtlStop (_r : Requester) (port : Nat) : Bool := decide (port < 16)
/-- Operands of CAPTURE_RECORD_WRITE. -/
def Wf.captureRecordWrite (port : Nat) : Bool := decide (port < 16)
/-- Operands of CAPTURE_DONE. -/
def Wf.captureDone (port : Nat) : Bool := decide (port < 16)
/-- Operands of CAPTURE_WINDOW_WRITE. -/
def Wf.captureWindowWrite (_r : Requester) (addr : Nat) (val : Nat) : Bool := decide (0x500000 ≤ addr ∧ addr < 0x700000 ∧ addr % 4 = 0) && decide (val < 2 ^ 32)
/-- Operands of JOIN_RSP. -/
def Wf.joinRsp (h : CsbHdr) (port : Nat) (_refuse : Bool) (_rows : Bool) : Bool := h.wf && decide (port < 16)
/-- Operands of JOIN_TMO. -/
def Wf.joinTmo (port : Nat) : Bool := decide (port < 16)
/-- Operands of LOCK_RPT. -/
def Wf.lockRpt (h : CsbHdr) (port : Nat) (rate : Nat) (_companion : Bool) (lanes : Nat) : Bool := h.wf && decide (port < 16) && decide (rate < 8) && decide (lanes < 2 ^ 16)
/-- Operands of CLOCK_TMO. -/
def Wf.clockTmo (port : Nat) : Bool := decide (port < 16)
/-- Operands of CEQ_DONE. -/
def Wf.ceqDone (h : CsbHdr) (port : Nat) (_none_ : Bool) : Bool := h.wf && decide (port < 16)
/-- Operands of CEQ_TMO. -/
def Wf.ceqTmo (port : Nat) : Bool := decide (port < 16)
/-- Operands of FALLBACK_ACK. -/
def Wf.fallbackAck (h : CsbHdr) (port : Nat) : Bool := h.wf && decide (port < 16)
/-- Operands of FALLBACK_ACK_TIMEOUT. -/
def Wf.fallbackAckTimeout (port : Nat) : Bool := decide (port < 16)
/-- Operands of FALLBACK_HOLD_TIMEOUT. -/
def Wf.fallbackHoldTimeout (port : Nat) : Bool := decide (port < 16)
/-- Operands of LEAVE. -/
def Wf.leave (h : CsbHdr) (port : Nat) (reason : Nat) : Bool := h.wf && decide (port < 16) && decide (reason < 256)
/-- Operands of ROW_LOSS. -/
def Wf.rowLoss (port : Nat) : Bool := decide (port < 16)
/-- Operands of CSB_ALIGNED. -/
def Wf.csbAligned : Bool := true
/-- Operands of HELLO. -/
def Wf.hello (major : Nat) (minor : Nat) (role : Nat) (cap : Nat) : Bool := decide (major < 256) && decide (minor < 256) && decide (role < 256) && decide (cap < 256)
/-- Operands of HELLO_TIMER. -/
def Wf.helloTimer : Bool := true
/-- Operands of CSB_CODE_VIOLATION_LOSS. -/
def Wf.csbCodeViolationLoss : Bool := true
/-- Operands of LOSS_TMO. -/
def Wf.lossTmo : Bool := true
/-- Operands of ACK. -/
def Wf.ack (vc : Nat) (num : Nat) : Bool := decide (vc < 2) && decide (num < 256)
/-- Operands of RTX_TMO. -/
def Wf.rtxTmo (vc : Nat) : Bool := decide (vc < 2)
/-- Operands of RESERVED_CSB_FRAME. -/
def Wf.reservedCsbFrame (h : CsbHdr) (_why : BadFrame) : Bool := h.wf
/-- Operands of BEACON. -/
def Wf.beacon (drip : Nat) (heartbeat : Nat) (tally : Nat) (flags : Nat) : Bool := decide (drip < 2 ^ 48) && decide (heartbeat < 2 ^ 16) && decide (tally < 2 ^ 32) && decide (flags < 256)
/-- Operands of SPARE_REQ. -/
def Wf.spareReq (h : CsbHdr) (half : Nat) (lane : Nat) (port : Nat) : Bool := h.wf && decide (half < 2) && decide (lane < 256) && decide (port < 256)
/-- Operands of SPARE_RSP. -/
def Wf.spareRsp (h : CsbHdr) (half : Nat) (lane : Nat) (res : Nat) : Bool := h.wf && decide (half < 2) && decide (lane < 256) && decide (res < 256)
/-- Operands of SPARE_RSP_TIMEOUT. -/
def Wf.spareRspTimeout (half : Nat) : Bool := decide (half < 2)
/-- Operands of SPARE_TRACK. -/
def Wf.spareTrack (half : Nat) (_offset : Nat) : Bool := decide (half < 2)
/-- Operands of SPARE_SWITCHOVER. -/
def Wf.spareSwitchover (half : Nat) : Bool := decide (half < 2)
/-- Operands of SPARE_RX_ON. -/
def Wf.spareRxOn (h : CsbHdr) (half : Nat) (lane : Nat) (_uses : Bool) : Bool := h.wf && decide (half < 2) && decide (lane < 256)
/-- Operands of SPARE_TMO. -/
def Wf.spareTmo (half : Nat) : Bool := decide (half < 2)
/-- Operands of LANE_HEALTH. -/
def Wf.laneHealth (h : CsbHdr) (port : Nat) (window : Nat) (counts : List Nat) : Bool := h.wf && decide (port < 16) && decide (window < 256) && (counts.length == 16 && wordsWf counts)
/-- Operands of SPARE_WINDOW. -/
def Wf.spareWindow : Bool := true
/-- Operands of SPARE_CTL_REQ. -/
def Wf.spareCtlReq (_r : Requester) (lane : Nat) : Bool := decide (lane < 32)
/-- Operands of SPARE_CTL_REL_S0. -/
def Wf.spareCtlRelS0 (_r : Requester) : Bool := true
/-- Operands of SPARE_CTL_REL_S1. -/
def Wf.spareCtlRelS1 (_r : Requester) : Bool := true
/-- Operands of SPARE_CTL_CNT_CLR. -/
def Wf.spareCtlCntClr (_r : Requester) : Bool := true
/-- Operands of CMP_CSB_CTL_CNT_CLR. -/
def Wf.cmpCsbCtlCntClr (_r : Requester) : Bool := true
/-- Operands of SLOT_DECISION. -/
def Wf.slotDecision (port : Nat) (_young : Nat) (ecc : Ecc) (undecoded : Nat) (unsent : Nat) : Bool := decide (port < 16) && decide (undecoded ≤ 32) && decide (unsent ≤ 32) && ecc.wf
/-- Operands of REPLAY_SLOT. -/
def Wf.replaySlot (port : Nat) (slot : List Nat) (_arr : BodyArrival) : Bool := decide (port < 16) && decide (slot.length = 256 ∧ bytesWf slot ∧ byte0 slot / 32 = 0)
/-- Operands of REPLAY_REQUEST_SLOT. -/
def Wf.replayRequestSlot (port : Nat) (slot : List Nat) : Bool := decide (port < 16) && decide (slot.length = 256 ∧ bytesWf slot ∧ byte0 slot / 32 = 1)
/-- Operands of PORT_VIEW_MESSAGE_SLOT. -/
def Wf.portViewMessageSlot (port : Nat) (slot : List Nat) : Bool := decide (port < 16) && decide (slot.length = 256 ∧ bytesWf slot ∧ byte0 slot / 32 = 3)
/-- Operands of FILL_SLOT. -/
def Wf.fillSlot (port : Nat) (slot : List Nat) : Bool := decide (port < 16) && decide (slot.length = 256 ∧ bytesWf slot ∧ byte0 slot / 32 = 7)
/-- Operands of BAD_SLOT. -/
def Wf.badSlot (port : Nat) (slot : List Nat) : Bool := decide (port < 16) && decide (slot.length = 256 ∧ bytesWf slot ∧ byte0 slot / 32 ≠ 0)
/-- Operands of HOLD_DEPARTURE. -/
def Wf.holdDeparture (port : Nat) : Bool := decide (port < 16)
/-- Operands of ERRATUM_DEADLINE. -/
def Wf.erratumDeadline (port : Nat) : Bool := decide (port < 16)
/-- Operands of CMP_SLOT_CTL_CNT_CLR. -/
def Wf.cmpSlotCtlCntClr (_r : Requester) : Bool := true
/-- Operands of CACHE_WRITE_BACK. -/
def Wf.cacheWriteBack (port : Nat) (_ecc : Ecc) : Bool := decide (port < 16)
/-- Operands of FLUSH_END. -/
def Wf.flushEnd : Bool := true
/-- Operands of HEAT_CTL_REL. -/
def Wf.heatCtlRel (_r : Requester) : Bool := true
/-- Operands of AUTO_RELEASE. -/
def Wf.autoRelease : Bool := true
/-- Operands of CLEAR_END. -/
def Wf.clearEnd : Bool := true
/-- Operands of HEAT_PCTL_CLR. -/
def Wf.heatPctlClr (_r : Requester) (part : Nat) : Bool := decide (part < 16)
/-- Operands of PARTITION_CLEAR_END. -/
def Wf.partitionClearEnd (part : Nat) : Bool := decide (part < 16)
/-- Operands of HEAT_ZCTL_CLR. -/
def Wf.heatZctlClr (_r : Requester) (win : Nat) : Bool := decide (win < 16)
/-- Operands of ZOOM_CLEAR_END. -/
def Wf.zoomClearEnd (win : Nat) : Bool := decide (win < 16)
/-- Operands of HEAT_CTL_CNT_CLR. -/
def Wf.heatCtlCntClr (_r : Requester) : Bool := true
/-- Operands of HEAT_PLFSR_WRITE. -/
def Wf.heatPlfsrWrite (_r : Requester) (part : Nat) (val : Nat) : Bool := decide (part < 16) && decide (val < 2 ^ 32)
/-- Operands of HEAT_WINDOW_WRITE. -/
def Wf.heatWindowWrite (_r : Requester) (addr : Nat) (val : Nat) : Bool := decide (0x200000 ≤ addr ∧ addr < 0x480000 ∧ addr % 4 = 0) && decide (val < 2 ^ 32)
/-- Operands of CHUNK_READY. -/
def Wf.chunkReady (part : Nat) (_ecc : List Nat) : Bool := decide (part < 16)
/-- Operands of DRIP_BOUNDARY. -/
def Wf.dripBoundary (d : DripIn) : Bool := d.wf
/-- Operands of CRYSTAL_PRESENT. -/
def Wf.crystalPresent : Bool := true
/-- Operands of PLL_LOCK. -/
def Wf.pllLock (pll : Pll) : Bool := pll.wf
/-- Operands of CLK_SRC_SAFE. -/
def Wf.clkSrcSafe (_r : Requester) (_v : Bool) : Bool := true
/-- Operands of CLK_SRC_MGMT. -/
def Wf.clkSrcMgmt (_r : Requester) (_v : Bool) : Bool := true
/-- Operands of CLK_SRC_CORE_REF. -/
def Wf.clkSrcCoreRef (_r : Requester) (v : Nat) : Bool := decide (v < 4)
/-- Operands of CLK_SRC_OREF. -/
def Wf.clkSrcOref (_r : Requester) (_v : Bool) : Bool := true
/-- Operands of CLK_SRC_IREF. -/
def Wf.clkSrcIref (_r : Requester) (_v : Bool) : Bool := true
/-- Operands of SOURCE_LOSS. -/
def Wf.sourceLoss (src : Nat) : Bool := decide (src < 3)
/-- Operands of SOURCE_RETURN. -/
def Wf.sourceReturn (src : Nat) : Bool := decide (src < 3)
/-- Operands of CORE_RESTART. -/
def Wf.coreRestart (_ioscCycles : Nat) : Bool := true
/-- Operands of CLK_FM_CTL_START. -/
def Wf.clkFmCtlStart (_r : Requester) : Bool := true
/-- Operands of FM_WINDOW_END. -/
def Wf.fmWindowEnd (_count : Nat) : Bool := true
/-- Operands of TIMESYNC_EDGE. -/
def Wf.timesyncEdge (ns : Int) : Bool := decide (0 ≤ ns ∧ ns < 2000)
/-- Operands of TIMESYNC_MISS. -/
def Wf.timesyncMiss : Bool := true
/-- Operands of CLK_TSYNC_CTL_LOAD. -/
def Wf.clkTsyncCtlLoad (_r : Requester) : Bool := true
/-- Operands of CLK_SCHED_CTL_ARM. -/
def Wf.clkSchedCtlArm (_r : Requester) (slot : Nat) : Bool := decide (slot < 8)
/-- Operands of CLK_SCHED_CTL_CANCEL. -/
def Wf.clkSchedCtlCancel (_r : Requester) (slot : Nat) : Bool := decide (slot < 8)
/-- Operands of CLK_CTL_CNT_CLR. -/
def Wf.clkCtlCntClr (_r : Requester) : Bool := true
/-- Operands of SNAPSHOT_LO_READ. -/
def Wf.snapshotLoRead (_r : Requester) (addr : Nat) (ns : Nat) : Bool := decide (addr < 2 ^ 32) && decide (ns < 2000)
/-- Operands of PAIR_LO_WRITE. -/
def Wf.pairLoWrite (_r : Requester) (addr : Nat) (val : Nat) : Bool := decide (addr < 2 ^ 32) && decide (val < 2 ^ 32)
/-- Operands of PAIR_HI_WRITE. -/
def Wf.pairHiWrite (_r : Requester) (addr : Nat) (val : Nat) : Bool := decide (addr < 2 ^ 32) && decide (val < 2 ^ 32)
/-- Operands of AVS_TARGET. -/
def Wf.avsTarget (mv : Nat) : Bool := decide (mv < 1024)
/-- Operands of AVS_COMMAND. -/
def Wf.avsCommand : Bool := true
/-- Operands of AVS_FAULT. -/
def Wf.avsFault : Bool := true
/-- Operands of LDO_FAULT. -/
def Wf.ldoFault (inst : Nat) : Bool := decide (inst < 10)
/-- Operands of BIFURCATION_WRITE. -/
def Wf.bifurcationWrite (_r : Requester) (val : Nat) : Bool := decide (val < 2 ^ 32)
/-- Operands of QUAD_UNGATE. -/
def Wf.quadUngate (quad : Nat) : Bool := decide (quad < 8)
/-- Operands of TEMPERATURE_SAMPLE. -/
def Wf.temperatureSample (temps : List Int) : Bool := (temps.length == 10 && temps.all (fun t => decide (-1024 ≤ t ∧ t < 1024)))
/-- Operands of THERMAL_TRIP. -/
def Wf.thermalTrip : Bool := true
/-- Operands of TRIP_RELEASE. -/
def Wf.tripRelease : Bool := true
/-- Operands of PWR_CTL_CAL_RUN. -/
def Wf.pwrCtlCalRun (_r : Requester) (mask : Nat) : Bool := decide (mask < 256)
/-- Operands of CAL_RUN_END. -/
def Wf.calRunEnd (quad : Nat) : Bool := decide (quad < 8)
/-- Operands of STEP_CORRECTION. -/
def Wf.stepCorrection (ls : Nat) : Bool := decide (ls < 66)
/-- Operands of PWR_CTL_CNT_CLR. -/
def Wf.pwrCtlCntClr (_r : Requester) : Bool := true
/-- Operands of SECURE_GATE_REQUEST. -/
def Wf.secureGateRequest (_gate : Bool) : Bool := true
/-- Operands of SECURE_DOMAIN_RELEASE. -/
def Wf.secureDomainRelease : Bool := true
/-- Operands of SECURE_ACCESS_VIOLATION. -/
def Wf.secureAccessViolation : Bool := true
/-- Operands of ENTDAA. -/
def Wf.entdaa (addr : Nat) : Bool := decide (addr < 128)
/-- Operands of SETDASA. -/
def Wf.setdasa (static : Nat) (addr : Nat) : Bool := decide (static < 128) && decide (addr < 128)
/-- Operands of SETAASA. -/
def Wf.setaasa : Bool := true
/-- Operands of SETNEWDA. -/
def Wf.setnewda (addr : Nat) (new_ : Nat) : Bool := decide (addr < 128) && decide (new_ < 128)
/-- Operands of RSTDAA. -/
def Wf.rstdaa : Bool := true
/-- Operands of ENEC. -/
def Wf.enec (_ibi : Bool) : Bool := true
/-- Operands of DISEC. -/
def Wf.disec (_ibi : Bool) : Bool := true
/-- Operands of GETPID. -/
def Wf.getpid : Bool := true
/-- Operands of GETBCR. -/
def Wf.getbcr : Bool := true
/-- Operands of GETDCR. -/
def Wf.getdcr : Bool := true
/-- Operands of GETSTATUS. -/
def Wf.getstatus : Bool := true
/-- Operands of GETMWL. -/
def Wf.getmwl : Bool := true
/-- Operands of SETMWL. -/
def Wf.setmwl (len : Nat) : Bool := decide (len < 2 ^ 16)
/-- Operands of GETMRL. -/
def Wf.getmrl : Bool := true
/-- Operands of SETMRL. -/
def Wf.setmrl (len : Nat) : Bool := decide (len < 2 ^ 16)
/-- Operands of GETMXDS. -/
def Wf.getmxds : Bool := true
/-- Operands of I3C_PRIVATE_READ. -/
def Wf.i3cPrivateRead (_refused : Bool) : Bool := true
/-- Operands of SMBUS_WRITE. -/
def Wf.smbusWrite (_pec : Option Bool) (pkt : List Nat) : Bool := bytesWf pkt
/-- Operands of SCL_LOW_TIMEOUT. -/
def Wf.sclLowTimeout : Bool := true
/-- Operands of ALERT_RESPONSE. -/
def Wf.alertResponse : Bool := true
/-- Operands of SMBUS_BLOCK_READ. -/
def Wf.smbusBlockRead (_refused : Bool) : Bool := true
/-- Operands of SMBUS_PACKET_TIMEOUT. -/
def Wf.smbusPacketTimeout : Bool := true
/-- Operands of SET_ENDPOINT_ID. -/
def Wf.setEndpointId (eid : Nat) (src : Nat) (tag : Nat) : Bool := decide (eid < 256) && decide (src < 256) && decide (tag < 8)
/-- Operands of GET_ENDPOINT_ID. -/
def Wf.getEndpointId (src : Nat) (tag : Nat) : Bool := decide (src < 256) && decide (tag < 8)
/-- Operands of GET_MCTP_VERSION_SUPPORT. -/
def Wf.getMctpVersionSupport (src : Nat) (tag : Nat) : Bool := decide (src < 256) && decide (tag < 8)
/-- Operands of GET_MESSAGE_TYPE_SUPPORT. -/
def Wf.getMessageTypeSupport (src : Nat) (tag : Nat) : Bool := decide (src < 256) && decide (tag < 8)
/-- Operands of GET_VENDOR_DEFINED_MSG_SUPPORT. -/
def Wf.getVendorDefinedMsgSupport (src : Nat) (tag : Nat) : Bool := decide (src < 256) && decide (tag < 8)
/-- Operands of EFSIA_REQUEST. -/
def Wf.efsiaRequest (rt : Route) (view : Nat) (entry : List Nat) (ecc : Ecc) : Bool := rt.wf && decide (view < 256) && (entry.length == 128 && bytesWf entry) && ecc.wf
/-- Operands of GET_INFO. -/
def Wf.getInfo (view : Nat) : Bool := decide (view < 17)
/-- Operands of READ. -/
def Wf.read (view : Nat) (_ecc : List Nat) (ns : Nat) : Bool := decide (view < 17) && decide (ns < 2000)
/-- Operands of WRITE. -/
def Wf.write (view : Nat) : Bool := decide (view < 17)
/-- Operands of RMW. -/
def Wf.rmw (view : Nat) (_ue : Bool) (ns : Nat) : Bool := decide (view < 17) && decide (ns < 2000)
/-- Operands of RESYNC. -/
def Wf.resync (view : Nat) : Bool := decide (view < 17)
/-- Operands of PORT_SUMMARY. -/
def Wf.portSummary (view : Nat) : Bool := decide (view < 17)
/-- Operands of HEAT_READ. -/
def Wf.heatRead (view : Nat) (_ecc : List Nat) : Bool := decide (view < 17)
/-- Operands of ZOOM_READ. -/
def Wf.zoomRead (view : Nat) (_ecc : List Nat) : Bool := decide (view < 17)
/-- Operands of CAP_READ. -/
def Wf.capRead (view : Nat) (_ecc : List Nat) : Bool := decide (view < 17)
/-- Operands of VIEW_FREEZE. -/
def Wf.viewFreeze (_r : Requester) (view : Nat) : Bool := decide (view < 17)
/-- Operands of VIEW_THAW. -/
def Wf.viewThaw (_r : Requester) (view : Nat) : Bool := decide (view < 17)
/-- Operands of MGMT_VIEW_CTL_SAVE. -/
def Wf.mgmtViewCtlSave (_r : Requester) (view : Nat) : Bool := decide (view < 17)
/-- Operands of MGMT_VIEW_CTL_RESTORE. -/
def Wf.mgmtViewCtlRestore (_r : Requester) (view : Nat) : Bool := decide (view < 17)
/-- Operands of MGMT_VIEW_CTL_RING_RST. -/
def Wf.mgmtViewCtlRingRst (_r : Requester) (view : Nat) : Bool := decide (view < 17)
/-- Operands of MGMT_VIEW_CTL_CNT_CLR. -/
def Wf.mgmtViewCtlCntClr (_r : Requester) (view : Nat) : Bool := decide (view < 17)
/-- Operands of MGMT_CTL_CNT_CLR. -/
def Wf.mgmtCtlCntClr (_r : Requester) : Bool := true
/-- Operands of MAILBOX_WRITE. -/
def Wf.mailboxWrite (_r : Requester) (addr : Nat) (val : Nat) : Bool := decide (0x140000 ≤ addr ∧ addr < 0x184000 ∧ addr % 4 = 0) && decide (val < 2 ^ 32)
/-- Operands of GET_VERSION. -/
def Wf.getVersion (src : Nat) : Bool := decide (src < 256)
/-- Operands of GET_CAPABILITIES. -/
def Wf.getCapabilities (src : Nat) : Bool := decide (src < 256)
/-- Operands of NEGOTIATE_ALGORITHMS. -/
def Wf.negotiateAlgorithms (src : Nat) (_ok : Bool) : Bool := decide (src < 256)
/-- Operands of GET_DIGESTS. -/
def Wf.getDigests (src : Nat) : Bool := decide (src < 256)
/-- Operands of GET_CERTIFICATE. -/
def Wf.getCertificate (src : Nat) (slot : Nat) (off : Nat) (len : Nat) : Bool := decide (src < 256) && decide (slot < 8) && decide (off < 2 ^ 16) && decide (len < 2 ^ 16)
/-- Operands of CHALLENGE. -/
def Wf.challenge (src : Nat) (slot : Nat) : Bool := decide (src < 256) && decide (slot < 8)
/-- Operands of GET_MEASUREMENTS. -/
def Wf.getMeasurements (src : Nat) (index : Nat) (_signed : Bool) : Bool := decide (src < 256) && decide (index < 256)
/-- Operands of SPDM_UNSUPPORTED_REQUEST. -/
def Wf.spdmUnsupportedRequest (src : Nat) : Bool := decide (src < 256)
/-- Operands of STARTUP_STAGE_COMPLETE. -/
def Wf.startupStageComplete (inp : StageIn) : Bool := inp.wf
/-- Operands of QUERY_DEVICE_IDENTIFIERS. -/
def Wf.queryDeviceIdentifiers (src : Nat) : Bool := decide (src < 256)
/-- Operands of GET_FIRMWARE_PARAMETERS. -/
def Wf.getFirmwareParameters (src : Nat) : Bool := decide (src < 256)
/-- Operands of REQUEST_UPDATE. -/
def Wf.requestUpdate (src : Nat) (_maxXfer : Nat) : Bool := decide (src < 256)
/-- Operands of PASS_COMPONENT_TABLE. -/
def Wf.passComponentTable (src : Nat) (_last : Bool) : Bool := decide (src < 256)
/-- Operands of UPDATE_COMPONENT. -/
def Wf.updateComponent (src : Nat) (comp : Nat) (_size : Nat) : Bool := decide (src < 256) && decide (comp < 2 ^ 16)
/-- Operands of REQUEST_FIRMWARE_DATA. -/
def Wf.requestFirmwareData (src : Nat) (bytes : List Nat) : Bool := decide (src < 256) && bytesWf bytes
/-- Operands of TRANSFER_COMPLETE. -/
def Wf.transferComplete (src : Nat) : Bool := decide (src < 256)
/-- Operands of VERIFY_COMPLETE. -/
def Wf.verifyComplete (src : Nat) (_crypto : Crypto) (_certOk : Bool) : Bool := decide (src < 256)
/-- Operands of APPLY_COMPLETE. -/
def Wf.applyComplete (src : Nat) (_flashOk : Bool) : Bool := decide (src < 256)
/-- Operands of ACTIVATE_FIRMWARE. -/
def Wf.activateFirmware (src : Nat) (_selfContained : Bool) : Bool := decide (src < 256)
/-- Operands of GET_STATUS. -/
def Wf.getStatus (src : Nat) : Bool := decide (src < 256)
/-- Operands of CANCEL_UPDATE_COMPONENT. -/
def Wf.cancelUpdateComponent (src : Nat) : Bool := decide (src < 256)
/-- Operands of CANCEL_UPDATE. -/
def Wf.cancelUpdate (src : Nat) : Bool := decide (src < 256)
/-- Operands of UPDATE_AGENT_TIMEOUT. -/
def Wf.updateAgentTimeout : Bool := true
/-- Operands of BOOT_UPD_CTL_CONFIRM. -/
def Wf.bootUpdCtlConfirm (_r : Requester) : Bool := true
/-- Operands of BOOT_UPD_CTL_REVERT. -/
def Wf.bootUpdCtlRevert (_r : Requester) : Bool := true
/-- Operands of BOOT_UPD_CTL_REACT. -/
def Wf.bootUpdCtlReact (_r : Requester) : Bool := true
/-- Operands of BOOT_UPD_CTL_CONTINUE. -/
def Wf.bootUpdCtlContinue (_r : Requester) : Bool := true
/-- Operands of BOOT_UPD_CTL_CNT_CLR. -/
def Wf.bootUpdCtlCntClr (_r : Requester) : Bool := true
/-- Operands of CONFIRMATION_WINDOW_END. -/
def Wf.confirmationWindowEnd : Bool := true
/-- Operands of AUTO_CONFIRM. -/
def Wf.autoConfirm : Bool := true
/-- Operands of TALLY_PASS_END. -/
def Wf.tallyPassEnd : Bool := true
/-- Operands of GLB_TALLY_CTL_COMMIT. -/
def Wf.glbTallyCtlCommit (_r : Requester) : Bool := true
/-- Operands of GLB_TALLY_CTL_ADOPT. -/
def Wf.glbTallyCtlAdopt (_r : Requester) : Bool := true
/-- Operands of SOURCE_EVENT. -/
def Wf.sourceEvent (src : Nat) (inst : Nat) (detail : Nat) (_level : Bool) : Bool := decide (src < 128) && decide (inst < 256) && decide (detail < 256)
/-- Operands of WIRE_FAULT. -/
def Wf.wireFault (src : Nat) : Bool := decide (src < 128)
/-- Operands of SUMP_WINDOW_END. -/
def Wf.sumpWindowEnd (src : Nat) : Bool := decide (src < 128)
/-- Operands of SUMP_CLR. -/
def Wf.sumpClr (_r : Requester) (src : Nat) : Bool := decide (src < 128)
/-- Operands of SUMP_CLR_ALL. -/
def Wf.sumpClrAll (_r : Requester) : Bool := true
/-- Operands of SUMP_FORCE. -/
def Wf.sumpForce (_r : Requester) (src : Nat) (inst : Nat) (detail : Nat) : Bool := decide (src < 128) && decide (inst < 256) && decide (detail < 256)
/-- Operands of SUMP_CTL_CNT_CLR. -/
def Wf.sumpCtlCntClr (_r : Requester) : Bool := true
/-- Operands of SUMP_CTL_AVAIL_CLR. -/
def Wf.sumpCtlAvailClr (_r : Requester) : Bool := true
/-- Operands of SUMP_LWDOG_CTL_KICK. -/
def Wf.sumpLwdogCtlKick (_r : Requester) : Bool := true
/-- Operands of LANTERN_WATCHDOG. -/
def Wf.lanternWatchdog : Bool := true
/-- Operands of QSTOP_ASSERT. -/
def Wf.qstopAssert : Bool := true
/-- Operands of QSTOP_RELEASE. -/
def Wf.qstopRelease : Bool := true
/-- Operands of QSTOP_DISCREPANCY. -/
def Wf.qstopDiscrepancy : Bool := true
/-- Operands of ECC_WRITE_BACK. -/
def Wf.eccWriteBack (mem : Nat) (word : Nat) (_overtaken : Bool) : Bool := decide (mem < 9) && decide (word < 2 ^ 24)
/-- Operands of ECC_LEAK. -/
def Wf.eccLeak (mem : Nat) : Bool := decide (mem < 9)
/-- Operands of SCRUB_READ. -/
def Wf.scrubRead (mem : Nat) (ecc : Ecc) : Bool := decide (mem < 9) && ecc.wf
/-- Operands of COMPAT_WRITE. -/
def Wf.compatWrite (_r : Requester) (addr : Nat) (val : Nat) : Bool := decide (0x8000 ≤ addr ∧ addr < 0x10000 ∧ addr % 4 = 0) && decide (val < 2 ^ 32)
/-- Operands of CW_WBUF_READ. -/
def Wf.cwWbufRead (_r : Requester) : Bool := true
/-- Operands of GLB_LOCK_WRITE. -/
def Wf.glbLockWrite (_r : Requester) (val : Nat) : Bool := decide (val < 2 ^ 32)
/-- Operands of EXTEST. -/
def Wf.extest (_ins : TapIns) : Bool := true
/-- Operands of TAP_RESET. -/
def Wf.tapReset (_how : TapRst) : Bool := true
/-- Operands of REGISTER_WRITE. -/
def Wf.registerWrite (_r : Requester) (addr : Nat) (val : Nat) : Bool := decide (addr < 2 ^ 32) && decide (val < 2 ^ 32)
/-- Operands of QSTOP_DISAGREEMENT. -/
def Wf.qstopDisagreement (_chanB : Bool) (_asserted : Bool) : Bool := true
/-- Operands of PRSNT_LEVEL_CHANGE. -/
def Wf.prsntLevelChange (port : Nat) (_high : Bool) : Bool := decide (port < 16)
/-- Operands of LDO_OUTPUT_IN_RANGE. -/
def Wf.ldoOutputInRange (inst : Nat) : Bool := decide (inst < 10)
/-- Operands of WIRE_FAULT_END. -/
def Wf.wireFaultEnd (src : Nat) : Bool := decide (src < 128)
/-- Operands of FLASH_PROGRAM_ERASE_COMPLETE. -/
def Wf.flashProgramEraseComplete : Bool := true
/-- Operands of CSB_FRAME_CRC_BAD. -/
def Wf.csbFrameCrcBad (bytes : List Nat) : Bool := bytesWf bytes
/-- Operands of CSB_FRAME_BOUNDARY. -/
def Wf.csbFrameBoundary : Bool := true
/-- Operands of SAVE_RESTORE_COMPLETE. -/
def Wf.saveRestoreComplete (view : Nat) : Bool := decide (view < 17)
/-- Operands of SIGNING_COMPLETE. -/
def Wf.signingComplete : Bool := true
/-- Operands of SPARE_POWER_UP. -/
def Wf.sparePowerUp (half : Nat) : Bool := decide (half < 2)

/-- The command exists: its operands name objects the device has, with values their encodings admit. -/
def Instr.wf : Instr → Bool
  | .powerOnReset st => Wf.powerOnReset st
  | .pinReset st => Wf.pinReset st
  | .brownOut rail => Wf.brownOut rail
  | .glbRstDevice r => Wf.glbRstDevice r
  | .glbRstLantern r => Wf.glbRstLantern r
  | .lanternRestart => Wf.lanternRestart
  | .portCtlEn r port en => Wf.portCtlEn r port en
  | .portCtlRst r port => Wf.portCtlRst r port
  | .portResetDone port => Wf.portResetDone port
  | .perstAssert port => Wf.perstAssert port
  | .perstRelease port => Wf.perstRelease port
  | .presenceAccepted port high => Wf.presenceAccepted port high
  | .quadCtlRst r quad => Wf.quadCtlRst r quad
  | .cmpCsbCtlRst r => Wf.cmpCsbCtlRst r
  | .cmpCsbCtlEn r en => Wf.cmpCsbCtlEn r en
  | .laneRxCtlFreeze r ls frz => Wf.laneRxCtlFreeze r ls frz
  | .laneRxCtlRestart r ls => Wf.laneRxCtlRestart r ls
  | .laneRxCtlCntClr r ls => Wf.laneRxCtlCntClr r ls
  | .signalDetect ls => Wf.signalDetect ls
  | .cdrLock ls => Wf.cdrLock ls
  | .lossOfSignal ls => Wf.lossOfSignal ls
  | .adaptConverged ls ctle dfe1 ffeM1 ffeP1 => Wf.adaptConverged ls ctle dfe1 ffeM1 ffeP1
  | .lossOfLock ls => Wf.lossOfLock ls
  | .relockTimeout ls => Wf.relockTimeout ls
  | .ebWatermarkCrossing ls fill => Wf.ebWatermarkCrossing ls fill
  | .elasticBufferError ls full => Wf.elasticBufferError ls full
  | .skpOrderedSet ls fill unit => Wf.skpOrderedSet ls fill unit
  | .lanePrbsCtlClr r ls => Wf.lanePrbsCtlClr r ls
  | .prbsLock ls => Wf.prbsLock ls
  | .prbsLockLoss ls bits errs => Wf.prbsLockLoss ls bits errs
  | .marginCommand port lane rxnum ask => Wf.marginCommand port lane rxnum ask
  | .marginStepSetup ls => Wf.marginStepSetup ls
  | .phrCtlEn r quad en => Wf.phrCtlEn r quad en
  | .phrWdogClr r quad => Wf.phrWdogClr r quad
  | .phraseOverrun quad => Wf.phraseOverrun quad
  | .mirrorRefresh unit => Wf.mirrorRefresh unit
  | .phraseMemoryWrite r addr val => Wf.phraseMemoryWrite r addr val
  | .detectRetry port outer inner => Wf.detectRetry port outer inner
  | .trainingSet port ts => Wf.trainingSet port ts
  | .coefficientRequest ls req => Wf.coefficientRequest ls req
  | .eqTrialEnd port inner tr => Wf.eqTrialEnd port inner tr
  | .execTmo port inner => Wf.execTmo port inner
  | .l0pTransition port width => Wf.l0pTransition port width
  | .l1Entry port => Wf.l1Entry port
  | .l1Exit port inner lane => Wf.l1Exit port inner lane
  | .hotReset port inner => Wf.hotReset port inner
  | .disabledExit port inner => Wf.disabledExit port inner
  | .trainingWatchdog port => Wf.trainingWatchdog port
  | .timeoutIdleEnd port => Wf.timeoutIdleEnd port
  | .unannouncedIdle port inner => Wf.unannouncedIdle port inner
  | .portCtlRetrain r port => Wf.portCtlRetrain r port
  | .portCtlCntClr r port => Wf.portCtlCntClr r port
  | .portBindTagWrite r port tag => Wf.portBindTagWrite r port tag
  | .dataStreamStart port skewOI skewIO => Wf.dataStreamStart port skewOI skewIO
  | .dataStreamEnd port => Wf.dataStreamEnd port
  | .flitDecoded port dir fl => Wf.flitDecoded port dir fl
  | .provisionalLockExpiry port dir => Wf.provisionalLockExpiry port dir
  | .lockLoss port dir => Wf.lockLoss port dir
  | .orderedSetMisplaced port dir => Wf.orderedSetMisplaced port dir
  | .portFlitCtlCntClr r port => Wf.portFlitCtlCntClr r port
  | .portCapCtlArm r port => Wf.portCapCtlArm r port
  | .portCapCtlForce r port => Wf.portCapCtlForce r port
  | .portCapCtlStop r port => Wf.portCapCtlStop r port
  | .captureRecordWrite port => Wf.captureRecordWrite port
  | .captureDone port => Wf.captureDone port
  | .captureWindowWrite r addr val => Wf.captureWindowWrite r addr val
  | .joinRsp h port refuse rows => Wf.joinRsp h port refuse rows
  | .joinTmo port => Wf.joinTmo port
  | .lockRpt h port rate companion lanes => Wf.lockRpt h port rate companion lanes
  | .clockTmo port => Wf.clockTmo port
  | .ceqDone h port none_ => Wf.ceqDone h port none_
  | .ceqTmo port => Wf.ceqTmo port
  | .fallbackAck h port => Wf.fallbackAck h port
  | .fallbackAckTimeout port => Wf.fallbackAckTimeout port
  | .fallbackHoldTimeout port => Wf.fallbackHoldTimeout port
  | .leave h port reason => Wf.leave h port reason
  | .rowLoss port => Wf.rowLoss port
  | .csbAligned => Wf.csbAligned
  | .hello major minor role cap => Wf.hello major minor role cap
  | .helloTimer => Wf.helloTimer
  | .csbCodeViolationLoss => Wf.csbCodeViolationLoss
  | .lossTmo => Wf.lossTmo
  | .ack vc num => Wf.ack vc num
  | .rtxTmo vc => Wf.rtxTmo vc
  | .reservedCsbFrame h why => Wf.reservedCsbFrame h why
  | .beacon drip heartbeat tally flags => Wf.beacon drip heartbeat tally flags
  | .spareReq h half lane port => Wf.spareReq h half lane port
  | .spareRsp h half lane res => Wf.spareRsp h half lane res
  | .spareRspTimeout half => Wf.spareRspTimeout half
  | .spareTrack half offset => Wf.spareTrack half offset
  | .spareSwitchover half => Wf.spareSwitchover half
  | .spareRxOn h half lane uses => Wf.spareRxOn h half lane uses
  | .spareTmo half => Wf.spareTmo half
  | .laneHealth h port window counts => Wf.laneHealth h port window counts
  | .spareWindow => Wf.spareWindow
  | .spareCtlReq r lane => Wf.spareCtlReq r lane
  | .spareCtlRelS0 r => Wf.spareCtlRelS0 r
  | .spareCtlRelS1 r => Wf.spareCtlRelS1 r
  | .spareCtlCntClr r => Wf.spareCtlCntClr r
  | .cmpCsbCtlCntClr r => Wf.cmpCsbCtlCntClr r
  | .slotDecision port young ecc undecoded unsent => Wf.slotDecision port young ecc undecoded unsent
  | .replaySlot port slot arr => Wf.replaySlot port slot arr
  | .replayRequestSlot port slot => Wf.replayRequestSlot port slot
  | .portViewMessageSlot port slot => Wf.portViewMessageSlot port slot
  | .fillSlot port slot => Wf.fillSlot port slot
  | .badSlot port slot => Wf.badSlot port slot
  | .holdDeparture port => Wf.holdDeparture port
  | .erratumDeadline port => Wf.erratumDeadline port
  | .cmpSlotCtlCntClr r => Wf.cmpSlotCtlCntClr r
  | .cacheWriteBack port ecc => Wf.cacheWriteBack port ecc
  | .flushEnd => Wf.flushEnd
  | .heatCtlRel r => Wf.heatCtlRel r
  | .autoRelease => Wf.autoRelease
  | .clearEnd => Wf.clearEnd
  | .heatPctlClr r part => Wf.heatPctlClr r part
  | .partitionClearEnd part => Wf.partitionClearEnd part
  | .heatZctlClr r win => Wf.heatZctlClr r win
  | .zoomClearEnd win => Wf.zoomClearEnd win
  | .heatCtlCntClr r => Wf.heatCtlCntClr r
  | .heatPlfsrWrite r part val => Wf.heatPlfsrWrite r part val
  | .heatWindowWrite r addr val => Wf.heatWindowWrite r addr val
  | .chunkReady part ecc => Wf.chunkReady part ecc
  | .dripBoundary d => Wf.dripBoundary d
  | .crystalPresent => Wf.crystalPresent
  | .pllLock pll => Wf.pllLock pll
  | .clkSrcSafe r v => Wf.clkSrcSafe r v
  | .clkSrcMgmt r v => Wf.clkSrcMgmt r v
  | .clkSrcCoreRef r v => Wf.clkSrcCoreRef r v
  | .clkSrcOref r v => Wf.clkSrcOref r v
  | .clkSrcIref r v => Wf.clkSrcIref r v
  | .sourceLoss src => Wf.sourceLoss src
  | .sourceReturn src => Wf.sourceReturn src
  | .coreRestart ioscCycles => Wf.coreRestart ioscCycles
  | .clkFmCtlStart r => Wf.clkFmCtlStart r
  | .fmWindowEnd count => Wf.fmWindowEnd count
  | .timesyncEdge ns => Wf.timesyncEdge ns
  | .timesyncMiss => Wf.timesyncMiss
  | .clkTsyncCtlLoad r => Wf.clkTsyncCtlLoad r
  | .clkSchedCtlArm r slot => Wf.clkSchedCtlArm r slot
  | .clkSchedCtlCancel r slot => Wf.clkSchedCtlCancel r slot
  | .clkCtlCntClr r => Wf.clkCtlCntClr r
  | .snapshotLoRead r addr ns => Wf.snapshotLoRead r addr ns
  | .pairLoWrite r addr val => Wf.pairLoWrite r addr val
  | .pairHiWrite r addr val => Wf.pairHiWrite r addr val
  | .avsTarget mv => Wf.avsTarget mv
  | .avsCommand => Wf.avsCommand
  | .avsFault => Wf.avsFault
  | .ldoFault inst => Wf.ldoFault inst
  | .bifurcationWrite r val => Wf.bifurcationWrite r val
  | .quadUngate quad => Wf.quadUngate quad
  | .temperatureSample temps => Wf.temperatureSample temps
  | .thermalTrip => Wf.thermalTrip
  | .tripRelease => Wf.tripRelease
  | .pwrCtlCalRun r mask => Wf.pwrCtlCalRun r mask
  | .calRunEnd quad => Wf.calRunEnd quad
  | .stepCorrection ls => Wf.stepCorrection ls
  | .pwrCtlCntClr r => Wf.pwrCtlCntClr r
  | .secureGateRequest gate => Wf.secureGateRequest gate
  | .secureDomainRelease => Wf.secureDomainRelease
  | .secureAccessViolation => Wf.secureAccessViolation
  | .entdaa addr => Wf.entdaa addr
  | .setdasa static addr => Wf.setdasa static addr
  | .setaasa => Wf.setaasa
  | .setnewda addr new_ => Wf.setnewda addr new_
  | .rstdaa => Wf.rstdaa
  | .enec ibi => Wf.enec ibi
  | .disec ibi => Wf.disec ibi
  | .getpid => Wf.getpid
  | .getbcr => Wf.getbcr
  | .getdcr => Wf.getdcr
  | .getstatus => Wf.getstatus
  | .getmwl => Wf.getmwl
  | .setmwl len => Wf.setmwl len
  | .getmrl => Wf.getmrl
  | .setmrl len => Wf.setmrl len
  | .getmxds => Wf.getmxds
  | .i3cPrivateRead refused => Wf.i3cPrivateRead refused
  | .smbusWrite pec pkt => Wf.smbusWrite pec pkt
  | .sclLowTimeout => Wf.sclLowTimeout
  | .alertResponse => Wf.alertResponse
  | .smbusBlockRead refused => Wf.smbusBlockRead refused
  | .smbusPacketTimeout => Wf.smbusPacketTimeout
  | .setEndpointId eid src tag => Wf.setEndpointId eid src tag
  | .getEndpointId src tag => Wf.getEndpointId src tag
  | .getMctpVersionSupport src tag => Wf.getMctpVersionSupport src tag
  | .getMessageTypeSupport src tag => Wf.getMessageTypeSupport src tag
  | .getVendorDefinedMsgSupport src tag => Wf.getVendorDefinedMsgSupport src tag
  | .efsiaRequest rt view entry ecc => Wf.efsiaRequest rt view entry ecc
  | .getInfo view => Wf.getInfo view
  | .read view ecc ns => Wf.read view ecc ns
  | .write view => Wf.write view
  | .rmw view ue ns => Wf.rmw view ue ns
  | .resync view => Wf.resync view
  | .portSummary view => Wf.portSummary view
  | .heatRead view ecc => Wf.heatRead view ecc
  | .zoomRead view ecc => Wf.zoomRead view ecc
  | .capRead view ecc => Wf.capRead view ecc
  | .viewFreeze r view => Wf.viewFreeze r view
  | .viewThaw r view => Wf.viewThaw r view
  | .mgmtViewCtlSave r view => Wf.mgmtViewCtlSave r view
  | .mgmtViewCtlRestore r view => Wf.mgmtViewCtlRestore r view
  | .mgmtViewCtlRingRst r view => Wf.mgmtViewCtlRingRst r view
  | .mgmtViewCtlCntClr r view => Wf.mgmtViewCtlCntClr r view
  | .mgmtCtlCntClr r => Wf.mgmtCtlCntClr r
  | .mailboxWrite r addr val => Wf.mailboxWrite r addr val
  | .getVersion src => Wf.getVersion src
  | .getCapabilities src => Wf.getCapabilities src
  | .negotiateAlgorithms src ok => Wf.negotiateAlgorithms src ok
  | .getDigests src => Wf.getDigests src
  | .getCertificate src slot off len => Wf.getCertificate src slot off len
  | .challenge src slot => Wf.challenge src slot
  | .getMeasurements src index signed => Wf.getMeasurements src index signed
  | .spdmUnsupportedRequest src => Wf.spdmUnsupportedRequest src
  | .startupStageComplete inp => Wf.startupStageComplete inp
  | .queryDeviceIdentifiers src => Wf.queryDeviceIdentifiers src
  | .getFirmwareParameters src => Wf.getFirmwareParameters src
  | .requestUpdate src maxXfer => Wf.requestUpdate src maxXfer
  | .passComponentTable src last => Wf.passComponentTable src last
  | .updateComponent src comp size => Wf.updateComponent src comp size
  | .requestFirmwareData src bytes => Wf.requestFirmwareData src bytes
  | .transferComplete src => Wf.transferComplete src
  | .verifyComplete src crypto certOk => Wf.verifyComplete src crypto certOk
  | .applyComplete src flashOk => Wf.applyComplete src flashOk
  | .activateFirmware src selfContained => Wf.activateFirmware src selfContained
  | .getStatus src => Wf.getStatus src
  | .cancelUpdateComponent src => Wf.cancelUpdateComponent src
  | .cancelUpdate src => Wf.cancelUpdate src
  | .updateAgentTimeout => Wf.updateAgentTimeout
  | .bootUpdCtlConfirm r => Wf.bootUpdCtlConfirm r
  | .bootUpdCtlRevert r => Wf.bootUpdCtlRevert r
  | .bootUpdCtlReact r => Wf.bootUpdCtlReact r
  | .bootUpdCtlContinue r => Wf.bootUpdCtlContinue r
  | .bootUpdCtlCntClr r => Wf.bootUpdCtlCntClr r
  | .confirmationWindowEnd => Wf.confirmationWindowEnd
  | .autoConfirm => Wf.autoConfirm
  | .tallyPassEnd => Wf.tallyPassEnd
  | .glbTallyCtlCommit r => Wf.glbTallyCtlCommit r
  | .glbTallyCtlAdopt r => Wf.glbTallyCtlAdopt r
  | .sourceEvent src inst detail level => Wf.sourceEvent src inst detail level
  | .wireFault src => Wf.wireFault src
  | .sumpWindowEnd src => Wf.sumpWindowEnd src
  | .sumpClr r src => Wf.sumpClr r src
  | .sumpClrAll r => Wf.sumpClrAll r
  | .sumpForce r src inst detail => Wf.sumpForce r src inst detail
  | .sumpCtlCntClr r => Wf.sumpCtlCntClr r
  | .sumpCtlAvailClr r => Wf.sumpCtlAvailClr r
  | .sumpLwdogCtlKick r => Wf.sumpLwdogCtlKick r
  | .lanternWatchdog => Wf.lanternWatchdog
  | .qstopAssert => Wf.qstopAssert
  | .qstopRelease => Wf.qstopRelease
  | .qstopDiscrepancy => Wf.qstopDiscrepancy
  | .eccWriteBack mem word overtaken => Wf.eccWriteBack mem word overtaken
  | .eccLeak mem => Wf.eccLeak mem
  | .scrubRead mem ecc => Wf.scrubRead mem ecc
  | .compatWrite r addr val => Wf.compatWrite r addr val
  | .cwWbufRead r => Wf.cwWbufRead r
  | .glbLockWrite r val => Wf.glbLockWrite r val
  | .extest ins => Wf.extest ins
  | .tapReset how => Wf.tapReset how
  | .registerWrite r addr val => Wf.registerWrite r addr val
  | .qstopDisagreement chanB asserted => Wf.qstopDisagreement chanB asserted
  | .prsntLevelChange port high => Wf.prsntLevelChange port high
  | .ldoOutputInRange inst => Wf.ldoOutputInRange inst
  | .wireFaultEnd src => Wf.wireFaultEnd src
  | .flashProgramEraseComplete => Wf.flashProgramEraseComplete
  | .csbFrameCrcBad bytes => Wf.csbFrameCrcBad bytes
  | .csbFrameBoundary => Wf.csbFrameBoundary
  | .saveRestoreComplete view => Wf.saveRestoreComplete view
  | .signingComplete => Wf.signingComplete
  | .sparePowerUp half => Wf.sparePowerUp half

end Sys2Proof
end

