-- ==== Sys2Proof/Machine/Sump.lean ====
section
/-! DEFINITION. The fault sump (chapter 12): counting, severity, reactions, the safe state, clearing, QSTOP, memory error
records, and the frame every command runs in (its events are counted when it ends). -/
namespace Sys2Proof.Machine

/-- The kinds of instance a source carries (R372, R375). -/
inductive InstKind where
  | laneSide | quad | port | other
deriving DecidableEq, Repr

/-- What the instance of a source names (R372). -/
def instKind (src : Nat) : InstKind :=
  if src = 7 ∨ src = 37 then .quad
  else if 32 ≤ src ∧ src ≤ 36 then .laneSide
  else if 48 ≤ src ∧ src ≤ 53 then .port
  else .other

/-- Condition sources (R370, R372). -/
def isCondition (src : Nat) : Bool := [0, 1, 2, 3, 4, 7, 8, 13, 15, 32, 33, 34, 35].contains src

/-- Sources marked "fixed" act as their table values whatever their fields hold (R372). -/
def srcFixed (src : Nat) : Bool := src == 1 || src == 2

/-- A setting of a source in force (R372, R373, R374). -/
def State.srcCfg (s : State) (f : Fld) (src : Nat) : Nat := if srcFixed src then f.reset src else s.rd f src

/-- Events that make the source severe; 0 acts as 1 (R395). -/
def State.srcN (s : State) (src : Nat) : Nat := max (s.srcCfg F.SUMP_SRC_CFG_N src) 1

/-- The window of a source in drips; 0 acts as 1 (R373, R395). -/
def State.srcWindow (s : State) (src : Nat) : Nat :=
  max (s.srcCfg F.SUMP_SRC_CFG_W src) 1 * (if s.srcCfg F.SUMP_SRC_CFG_WUNIT src = 1 then 1000 else 1)

/-- The source is SEVERE (R373). -/
def State.severe (s : State) (src : Nat) : Bool := s.rd F.SUMP_SRC_STAT_STATE src == 2

/-- The reaction of a source: 0 none, 1 lane, 2 device; 3 acts as 2 (R374). -/
def State.srcReact (s : State) (src : Nat) : Nat := min (s.srcCfg F.SUMP_SRC_CFG_REACT src) 2

/-- Some device-scoped source is SEVERE (R376). -/
def State.deviceSevere (s : State) : Bool := (List.range 128).any fun k => s.severe k && s.srcReact k == 2

/-! Reactions -/

/-- A spare stands in for its lane: ACTIVE, or in SHADOW or RELEASING with a receiver of either part using it (R375). -/
def State.standsIn (s : State) (h : Nat) : Bool :=
  let st := s.spareState h
  st == 4 || ((st == 3 || st == 5) && ((s.spare h).rxOwn || (s.spare h).rxPeer))

/-- The transmitters that carry a lane: outer, inner, and the spare where it stands in (R375). -/
def State.laneTxs (s : State) (l : Nat) : List Nat :=
  [outerLs l, innerLs l] ++ (if s.standsIn (halfOf l) && s.spareLane (halfOf l) == l then [64 + halfOf l] else [])

/-- The transmitters that a lane reaction holds for a lane-side instance (R375). -/
def State.lsTxs (s : State) (ls : Nat) : List Nat :=
  if ls < 32 then s.laneTxs ls
  else if ls < 64 then
    if s.spareState (halfOf (ls - 32)) = 4 ∧ s.spareLane (halfOf (ls - 32)) = ls - 32 then [] else s.laneTxs (ls - 32)
  else if ls < 66 then (if s.standsIn (ls - 64) then s.laneTxs (s.spareLane (ls - 64)) else [ls])
  else []

/-- The transmitters that a lane reaction of a source holds for an instance (R375). -/
def State.reactTxs (s : State) (src inst : Nat) : List Nat :=
  match instKind src with
  | .laneSide => s.lsTxs inst
  | .quad =>
    if inst < 8 then (List.range 4).flatMap fun k => s.laneTxs (4 * inst + k)
    else if src = 7 ∧ inst < 10 then s.lsTxs (64 + (inst - 8)) else []
  | .port => if inst < 16 then (s.portLanes inst).flatMap s.laneTxs else []
  | .other => []

/-- Hold a transmitter in electrical idle for a source. -/
def State.holdTx (s : State) (src ls : Nat) : State :=
  if s.holds.contains (src, ls) then s else (s.putHolds (s.holds ++ [(src, ls)]))

/-- The spare that an instance names, where it does (R375). -/
def spareInst (src inst : Nat) : Option Nat :=
  match instKind src with
  | .laneSide => if 64 ≤ inst ∧ inst < 66 then some (inst - 64) else none
  | .quad => if src = 7 ∧ 8 ≤ inst ∧ inst < 10 then some (inst - 8) else none
  | _ => none

/-- A lane reaction (R375): the transmitters are held; a spare that only copies is held alone and its procedure abandoned;
the ports concerned will record cause 11 for a loss that follows. -/
def State.laneReaction (s : State) (src inst : Nat) : State :=
  let txs := s.reactTxs src inst
  let s := forEach txs (fun ls a => a.holdTx src ls) s
  let s := forEach txs (fun ls a => match a.portOfLs ls with
    | some n => if (a.port n).reachedL0 && (a.port n).down.isNone then a.noteCause n 11 else a
    | none => a) s
  match spareInst src inst with
  | some h => if s.standsIn h then s else s.abandonSpare h 6 true
  | none => s

/-- Every port that runs goes to DETECT_QUIET by a cause; a port in reset or held by presence stays there (R376, R382). -/
def State.allPortsDown (s : State) (cause : Nat) : State :=
  forUp 16 (fun n a =>
    if a.ltssm n = 0x1F ∨ a.ltssm n = 0x1D then a
    -- a port already in DETECT_QUIET may still take the lower of two causes of one drip (R109)
    else if a.ltssm n = 0 then a.linkDown n cause else (a.abandonPortSpares n).downToDetect n cause) s

/-- The safe state begins (R376). ALIVE stops and holds its level; the corrections of calibration that wait apply at once, as no
lane-side carries traffic (R291). -/
def State.enterSafe (s : State) : State :=
  if s.safe then s
  else
    let s := forUp 66 (fun ls a => if (a.lane ls).corr = 0 then a else a.modLane ls fun l => { l with corr := 0 }) s
    ((s.allPortsDown 12).putSafe true).putAliveRun false

/-- The reaction of a SEVERE source to an event (R374). -/
def State.react (s : State) (src inst : Nat) : State :=
  if s.srcReact src = 2 then s.enterSafe
  else if s.srcReact src = 1 then s.laneReaction src inst
  else s

/-! Counting (R373, R378, R379) -/

/-- The PEND bit of a source sets (R379). -/
def State.setPend (s : State) (src : Nat) : State :=
  s.wr F.SUMP_PEND_PEND (src / 32) (setBit (s.rd F.SUMP_PEND_PEND (src / 32)) (src % 32))

/-- The capture record of a source, filled by the first event accepted while none is held (R378). -/
def State.capture (s : State) (e : Ev) : State :=
  if s.flag F.SUMP_SRC_STAT_HELD e.src then s
  else
    let s := (((s.wr F.SUMP_CAP_INFO_INST e.src e.inst).wr F.SUMP_CAP_INFO_DETAIL e.src e.detail).wrB
      F.SUMP_CAP_INFO_FORCED e.src e.forced).wr F.SUMP_CAP_INFO_DRIP_HI e.src (s.drip / 2 ^ 32)
    (s.wr F.SUMP_CAP_DRIP_DRIP_LO e.src s.drip).setF F.SUMP_SRC_STAT_HELD e.src

/-- The source becomes SEVERE when its count reaches N (R373, R374, R379). -/
def State.judge (s : State) (e : Ev) : State :=
  if s.rd F.SUMP_SRC_STAT_COUNT e.src ≥ s.srcN e.src then
    let s := s.wr F.SUMP_SRC_STAT_STATE e.src 2
    let s := if s.srcCfg F.SUMP_SRC_CFG_IRQ e.src = 1 then s.setPend e.src else s
    s.react e.src e.inst
  else s

/-- Count an event in the window of its source (R373). -/
def State.countEv (s : State) (e : Ev) : State :=
  let fresh := s.rd F.SUMP_SRC_STAT_STATE e.src = 0 ∨
    s.drip - s.winStart.get e.src 0 ≥ s.srcWindow e.src
  let s := if fresh then
      ((s.clr F.SUMP_SRC_STAT_COUNT e.src).putWinStart (s.winStart.set e.src s.drip 0))
    else s
  ((s.inc F.SUMP_SRC_STAT_COUNT e.src).wr F.SUMP_SRC_STAT_STATE e.src 1).judge e

/-- The sump accepts an event: total, capture record, PEND, and classification; a SEVERE source repeats its reaction
(R373, R374, R378, R379). -/
def State.acceptEv (s : State) (e : Ev) : State :=
  let s := (s.inc F.SUMP_SRC_STAT_TOTAL e.src).capture e
  let s := if s.srcCfg F.SUMP_SRC_CFG_IRQ e.src ≥ 2 then s.setPend e.src else s
  if s.severe e.src then s.react e.src e.inst else s.countEv e

/-- An event on its way: a reserved source is never raised (R370), and a faulted pair cannot report, but that of SUMP_WIRE, which
is built in duplicate (R371). -/
def State.sumpEv (s : State) (e : Ev) : State :=
  if (srcRow e.src).isNone then s
  else if s.flag F.SUMP_SRC_STAT_WIREF e.src && !e.forced && e.src != 0 then s
  else s.acceptEv e

/-- Count the events raised, in order, with those that their reactions raise in turn (log entry 7). -/
def State.settleEvs : Nat → State → State
  | 0, s => (s.putRaised [])
  | k + 1, s =>
    match s.raised with
    | [] => s
    | e :: t => State.settleEvs k (((s.putRaised t)).sumpEv e)

/-- All events raised in the command are counted. -/
def State.settle (s : State) : State := s.settleEvs (s.raised.length + 64)

/-- The end of a command: its events are counted. -/
def finish : Res → Res
  | .next t => .next t.settle
  | .fault f => .fault f
  | .refused r => .refused r

/-- The frame of every command: refused where its operands name nothing (`ok` is false), else its effect, with the outputs
it drives. -/
def guarded (ok : Bool) (s : State) (k : State → Res) : Res :=
  if ok then finish (k s.begun) else .refused .illFormed

/-- The frame of a command whose effect is one next state. -/
def effect (ok : Bool) (s : State) (k : State → State) : Res := guarded ok s fun a => .next (k a)

/-! Conditions (R370) -/

/-- CAUSE of a source: some condition of it lasts. -/
def State.updCause (s : State) (src : Nat) : State :=
  s.wrB F.SUMP_SRC_STAT_CAUSE src (s.causes.any fun c => c.1 == src)

/-- A condition begins: one event, and CAUSE reads 1 while it lasts (R370). -/
def State.condOn (s : State) (src inst detail : Nat) : State :=
  if s.causes.contains (src, inst + 256 * detail) then s
  else (((s.putCauses (s.causes ++ [(src, inst + 256 * detail)]))).updCause src).raise src inst detail

/-- A condition ends (R370). -/
def State.condOff (s : State) (src inst detail : Nat) : State :=
  if s.causes.contains (src, inst + 256 * detail) then
    ((s.putCauses (s.causes.filter fun c => c != (src, inst + 256 * detail)))).updCause src
  else s

/-- A condition has the level given. -/
def State.cond (s : State) (src inst detail : Nat) (on : Bool) : State :=
  if on then s.condOn src inst detail else s.condOff src inst detail

/-! Pins and derived status (R379, R393) -/

def State.nSevere (s : State) : Nat := ((List.range 128).filter s.severe).length
def State.faultPin (s : State) : Bool :=
  s.safe || (List.range 128).any fun k => s.severe k && s.srcCfg F.SUMP_SRC_CFG_FLT k == 1
def State.irqPin (s : State) : Bool :=
  s.flag F.MGMT_STAT_SMB_PEND 0 || (List.range 4).any fun i => s.rd F.SUMP_PEND_PEND i != 0

/-- SUMP_SEVi: the sources that are SEVERE (R393). -/
def State.sevWord (s : State) (i : Nat) : Nat :=
  (List.range 32).foldl (fun a b => if s.severe (32 * i + b) then a + 2 ^ b else a) 0

/-! The effects of the sump's commands -/

/-- A source reports: an event of an event source, or the level of a condition (R370). -/
def State.sourceEvent (s : State) (src inst detail : Nat) (level : Bool) : State :=
  if isCondition src then s.cond src inst detail level else s.raise src inst detail

/-- A wire fault of a source's pair (R371). -/
def State.wireFault (s : State) (src : Nat) : State :=
  if (srcRow src).isNone then s else (s.setF F.SUMP_SRC_STAT_WIREF src).condOn 0 src 0

/-- The wires of a faulted pair disagree again (R371). -/
def State.wireFaultEnd (s : State) (src : Nat) : State :=
  if (srcRow src).isNone then s else (s.clr F.SUMP_SRC_STAT_WIREF src).condOff 0 src 0

/-- A COUNTING source whose window ends without reaching N returns to IDLE (R373). -/
def State.windowEnd (s : State) (src : Nat) : State :=
  if s.rd F.SUMP_SRC_STAT_STATE src = 1 ∧ s.drip - s.winStart.get src 0 ≥ s.srcWindow src then
    s.clrAll [F.SUMP_SRC_STAT_STATE, F.SUMP_SRC_STAT_COUNT] src
  else s

/-- A source is cleared: idle, its record released, its holds lifted (R380). -/
def State.clearSrc (s : State) (src : Nat) : State :=
  let s := s.clrAll [F.SUMP_SRC_STAT_STATE, F.SUMP_SRC_STAT_COUNT, F.SUMP_SRC_STAT_HELD] src
  (s.putHolds (s.holds.filter fun h => h.1 != src))

/-- SUMP_CLR with a source (R380); a reserved number is ignored (R370). -/
def State.sumpClr (s : State) (req addr src : Nat) : State :=
  if (srcRow src).isNone then s
  else if s.flag F.SUMP_SRC_STAT_CAUSE src then s.refuse F.GLB_WERR_SUMP req addr
  else s.clearSrc src

/-- SUMP_CLR.ALL: every source whose CAUSE is 0 is cleared, with no flag (R380). -/
def State.sumpClrAll (s : State) : State :=
  forUp 128 (fun k a => if (srcRow k).isNone ∨ a.flag F.SUMP_SRC_STAT_CAUSE k then a else a.clearSrc k) s

/-- SUMP_FORCE injects an event, unless GLB_LOCK.SUMP is set (R381). -/
def State.sumpForce (s : State) (req addr src inst detail : Nat) : State :=
  if s.flag F.GLB_LOCK_SUMP 0 then s.refuse F.GLB_WERR_SUMP req addr
  else (s.putRaised (s.raised ++ [⟨src, inst, detail, true⟩]))

/-- SUMP_CTL.CNT_CLR (R392). -/
def State.sumpCntClr (s : State) : State :=
  let s := forUp 128 (fun k a => a.clr F.SUMP_SRC_STAT_TOTAL k) s
  let s := forUp 9 (fun m a => a.clrAll [F.SUMP_ECC_STAT_CE, F.SUMP_ECC_STAT_UE] m) s
  s.clrAll [F.SUMP_QSTOP_CNT_QUIESCE, F.SUMP_QSTOP_CNT_SHORT, F.SUMP_LWDOG_STAT_EXP] 0

/-- SUMP_CTL.AVAIL_CLR (R393). -/
def State.availClr (s : State) : State := forUp 16 (fun n a => a.clr F.SUMP_ATTR_DOWN_DRIPS n) s

/-- A kick of the Lantern watchdog; only the normal partition's counts (R387). -/
def State.lwdogKick (s : State) (req addr : Nat) : State :=
  if req = 0 then ((s.clr F.SUMP_LWDOG_STAT_AGE 0).putLwTicks 0) else s.refuse F.GLB_WERR_SUMP req addr

/-- A correctable error of a memory read: counted, recorded, and added to the leaky bucket (R384). -/
def State.eccCe (s : State) (mem word : Nat) : State :=
  let s := ((s.inc F.SUMP_ECC_STAT_CE mem).wr F.SUMP_ECC_LAST_WORD mem word).clr F.SUMP_ECC_LAST_UE mem
  let s := if s.eccPend.contains (mem, word) then s else (s.putEccPend (s.eccPend ++ [(mem, word)]))
  let lv := s.rd F.SUMP_ECC_STAT_LEVEL mem + 1
  if lv ≥ max (s.rd F.SUMP_ECC_CFG_THR mem) 1 then
    ((s.clr F.SUMP_ECC_STAT_LEVEL mem).setF F.SUMP_ECC_STAT_OVF mem).raise 11 mem 0
  else s.wr F.SUMP_ECC_STAT_LEVEL mem lv

/-- An uncorrectable error of a memory read (R385). -/
def State.eccUe (s : State) (mem word : Nat) : State :=
  (((s.inc F.SUMP_ECC_STAT_UE mem).wr F.SUMP_ECC_LAST_WORD mem word).setF F.SUMP_ECC_LAST_UE mem).raise 12 mem 0

/-- The ECC outcome of a read is recorded (R384, R385). -/
def State.eccRead (s : State) (mem : Nat) : Ecc → State
  | .ok => s
  | .ce w => s.eccCe mem w
  | .ue w => s.eccUe mem w

/-- The read returned an uncorrectable word. -/
def Ecc.isUe : Ecc → Bool
  | .ue _ => true
  | _ => false

/-- A quiesce begins (R382). -/
def State.quiesce (s : State) : State :=
  if s.flag F.SUMP_QSTOP_STAT_QUIESCED 0 then s
  else ((s.allPortsDown 13).setF F.SUMP_QSTOP_STAT_QUIESCED 0).inc F.SUMP_QSTOP_CNT_QUIESCE 0

/-- The filtered levels of the pair change (R382): a disagreement that ends before DISC counts as short; an agreement
quiesces or releases; QSTOP_DISC's cause ends with the disagreement. -/
def State.qstopLevels (s : State) (a b : Bool) : State :=
  let was := s.flag F.SUMP_QSTOP_STAT_DISAG 0
  let s := (s.wrB F.SUMP_QSTOP_STAT_A 0 a).wrB F.SUMP_QSTOP_STAT_B 0 b
  let s := s.wrB F.SUMP_QSTOP_STAT_DISAG 0 (a != b)
  if a != b then s
  else
    let s := if was && !s.flag F.SUMP_SRC_STAT_CAUSE 1 then s.inc F.SUMP_QSTOP_CNT_SHORT 0 else s
    let s := s.condOff 1 0 0
    if a then s.quiesce else s.clr F.SUMP_QSTOP_STAT_QUIESCED 0

/-- A disagreement has lasted DISC: the safe state (R382). -/
def State.qstopDisc (s : State) : State :=
  if s.flag F.SUMP_QSTOP_STAT_DISAG 0 then s.condOn 1 0 0 else s

/-- The leaky bucket of a memory loses 1 (R384). -/
def State.eccLeak (s : State) (mem : Nat) : State :=
  s.wr F.SUMP_ECC_STAT_LEVEL mem (s.rd F.SUMP_ECC_STAT_LEVEL mem - 1)

/-- A lap longer than LAP_WM × 1,000 drips is slow; LAP_WM of 0 acts as 1 (R386, R394). -/
def State.lapLimit (s : State) (mem : Nat) : Nat := max (s.rd F.SUMP_ECC_CFG_LAP_WM mem) 1 * 1000

/-- The slow-lap flag and condition of a memory after its ages changed (R386). -/
def State.lapJudge (s : State) (mem : Nat) : State :=
  let slow := s.rd F.SUMP_SCRUB_AGE_AGE mem > s.lapLimit mem
  let s := if slow ∨ s.rd F.SUMP_SCRUB_LAP_LAP mem > s.lapLimit mem then s.setF F.SUMP_ECC_STAT_SLOW mem else s
  s.cond 13 mem 0 slow

end Sys2Proof.Machine
end

