-- ==== Sys2Proof/Machine/SumpCmds.lean ====
section
/-! DEFINITION. The commands of the fault sump, of QSTOP and of memory protection (chapter 12), and the condition under
which a management access reaches a core-domain block. -/
namespace Sys2Proof.Machine

/-- The core domain runs: its PLL is locked and no loss holds it (R30, R255). -/
def State.coreRuns (s : State) : Bool := s.flag F.CLK_STAT_CPLL_LOCK 0 && !s.flag F.CLK_STAT_CORE_HELD 0

/-- The access exists: with BOOT_STAT.DBG_LOCK the vendor instructions of the TAP act as BYPASS (R361), and while the core domain
is stopped only its boundary scan runs (R253); in a power-on reset that is held there is none (R276). -/
def State.reaches (s : State) (r : Requester) : Bool :=
  !s.held && (r != .jtag || (!s.flag F.BOOT_STAT_DBG_LOCK 0 && s.coreRuns))

/-- A management access to an always-on or management-domain block. -/
def State.viaBus (s : State) (r : Requester) (k : State → State) : State :=
  if s.reaches r then (k s).emit .writeAck else s

/-- A management access to a core-domain block: a bus error while the core domain is stopped (R255). -/
def State.viaCore (s : State) (r : Requester) (k : State → State) : State :=
  if !s.reaches r then s else if s.coreRuns then (k s).emit .writeAck else s.emit .busError

/-- Words of each memory (R35, R383). -/
def memWords (m : Nat) : Nat := [131072, 131072, 65536, 65536, 262144, 131072, 32768, 34816, 16384].getD m 1

/-- SOURCE_EVENT (R370, R373). -/
def execSourceEvent (src inst detail : Nat) (level : Bool) (s : State) : Res :=
  effect (Wf.sourceEvent src inst detail level) s fun s => s.sourceEvent src inst detail level

/-- WIRE_FAULT (R371). -/
def execWireFault (src : Nat) (s : State) : Res := effect (Wf.wireFault src) s fun s => s.wireFault src

/-- WIRE_FAULT_END (R371). -/
def execWireFaultEnd (src : Nat) (s : State) : Res := effect (Wf.wireFaultEnd src) s fun s => s.wireFaultEnd src

/-- SUMP_WINDOW_END (R373). -/
def execSumpWindowEnd (src : Nat) (s : State) : Res := effect (Wf.sumpWindowEnd src) s fun s => s.windowEnd src

/-- SUMP_CLR with ALL = 0 (R380). -/
def execSumpClr (r : Requester) (src : Nat) (s : State) : Res :=
  effect (Wf.sumpClr r src) s fun s => s.viaBus r fun s => s.sumpClr (reqCode r) 0x300C src

/-- SUMP_CLR.ALL (R380). -/
def execSumpClrAll (r : Requester) (s : State) : Res := effect (Wf.sumpClrAll r) s fun s => s.viaBus r State.sumpClrAll

/-- SUMP_FORCE (R381). -/
def execSumpForce (r : Requester) (src inst detail : Nat) (s : State) : Res :=
  effect (Wf.sumpForce r src inst detail) s fun s => s.viaBus r fun s => s.sumpForce (reqCode r) 0x3008 src inst detail

/-- SUMP_CTL.CNT_CLR (R392). -/
def execSumpCtlCntClr (r : Requester) (s : State) : Res := effect (Wf.sumpCtlCntClr r) s fun s => s.viaBus r State.sumpCntClr

/-- SUMP_CTL.AVAIL_CLR (R393). -/
def execSumpCtlAvailClr (r : Requester) (s : State) : Res :=
  effect (Wf.sumpCtlAvailClr r) s fun s => s.viaBus r State.availClr

/-- SUMP_LWDOG_CTL.KICK (R387). -/
def execSumpLwdogCtlKick (r : Requester) (s : State) : Res :=
  effect (Wf.sumpLwdogCtlKick r) s fun s => s.viaBus r fun s => s.lwdogKick (reqCode r) 0x3054

/-- Both QSTOP channels agree asserted (R382). -/
def execQstopAssert (s : State) : Res := effect Wf.qstopAssert s fun s => s.qstopLevels true true

/-- Both QSTOP channels agree released (R382). -/
def execQstopRelease (s : State) : Res := effect Wf.qstopRelease s fun s => s.qstopLevels false false

/-- A disagreement lasts DISC (R382). -/
def execQstopDiscrepancy (s : State) : Res := effect Wf.qstopDiscrepancy s State.qstopDisc

/-- A filtered edge on one QSTOP channel (R382, R434). -/
def execQstopDisagreement (chanB asserted : Bool) (s : State) : Res :=
  effect (Wf.qstopDisagreement chanB asserted) s fun s =>
    if chanB then s.qstopLevels (s.flag F.SUMP_QSTOP_STAT_A 0) asserted
    else s.qstopLevels asserted (s.flag F.SUMP_QSTOP_STAT_B 0)

/-- A corrected word is written back, or abandoned because an agent wrote it first (R384): the word's content is the
corrected data either way, or the agent's. -/
def execEccWriteBack (mem word : Nat) (overtaken : Bool) (s : State) : Res :=
  effect (Wf.eccWriteBack mem word overtaken) s fun s => (s.putEccPend (s.eccPend.filter fun p => p != (mem, word)))

/-- The bucket of a memory loses 1 (R384). -/
def execEccLeak (mem : Nat) (s : State) : Res := effect (Wf.eccLeak mem) s fun s => s.eccLeak mem

/-- The scrubber of a memory reads its next word; the lap ends with the last one (R386). A core-domain memory is scrubbed
only while the core domain runs. -/
def State.scrub (s : State) (mem : Nat) (ecc : Ecc) : State :=
  if mem ≠ 5 ∧ mem ≠ 8 ∧ !s.coreRuns then s
  else
    let pos := s.scrubPos.get mem 0
    let s := match ecc with
      | .ok => s
      | .ce _ => s.eccCe mem pos
      | .ue _ => s.eccUe mem pos
    if pos + 1 = memWords mem then
      let s := (s.wr F.SUMP_SCRUB_LAP_LAP mem (s.rd F.SUMP_SCRUB_AGE_AGE mem)).clr F.SUMP_SCRUB_AGE_AGE mem
      ((s.putScrubPos (s.scrubPos.set mem 0 0))).lapJudge mem
    else (s.putScrubPos (s.scrubPos.set mem (pos + 1) 0))

/-- SCRUB_READ (R386). -/
def execScrubRead (mem : Nat) (ecc : Ecc) (s : State) : Res := effect (Wf.scrubRead mem ecc) s fun s => s.scrub mem ecc

end Sys2Proof.Machine
end

