-- ==== Sys2Proof/Machine/Lane.lean ====
section
/-! DEFINITION. Lane-sides (chapter 2): adaptation states, elastic buffers, pattern checkers, margining and ADC slices. -/
namespace Sys2Proof.Machine

/-- The adaptation state of a lane-side (R50). -/
def State.astate (s : State) (ls : Nat) : Nat := s.rd F.LANE_RX_STAT_ASTATE ls

/-- Port states in which the training state enables adaptation (R50, R90; log entry 10): L0, the Recovery states that
forward, and equalization phases 1 to 3. -/
def adaptState (c : Nat) : Bool := [0x08, 0x10, 0x11, 0x12, 0x15, 0x16, 0x17].contains c

/-- The training state of a lane-side's port enables adaptation (R50). -/
def State.adaptEnabled (s : State) (ls : Nat) : Bool :=
  match s.portOfLs ls with
  | some n => adaptState (s.ltssm n)
  | none => false

/-- A LOCKED lane-side starts to adapt where its port's state enables it; with FREEZE it goes to FROZEN instead (R50, R51). -/
def State.startAdapt (s : State) (ls : Nat) : State :=
  if s.astate ls = 3 ∧ s.adaptEnabled ls then
    if s.flag F.LANE_RX_CTL_FREEZE ls then s.setAstate ls 6 else s.setAstate ls 4
  else s

/-- A lane-side that no margining step and no FREEZE holds leaves FROZEN for TRACK (R50). -/
def State.unfreeze (s : State) (ls : Nat) : State :=
  if s.astate ls = 6 ∧ !s.flag F.LANE_RX_CTL_FREEZE ls ∧ !s.flag F.LANE_SLICE_STAT_MARG ls then s.setAstate ls 5 else s

/-- LANE_RX_CTL.FREEZE (R51). -/
def State.setFreeze (s : State) (ls : Nat) (on : Bool) : State :=
  let s := s.wrB F.LANE_RX_CTL_FREEZE ls on
  if on then (if s.astate ls = 5 ∨ s.astate ls = 4 then s.setAstate ls 6 else s) else s.unfreeze ls

/-- The correction of a received lane's polarity: POL_VAL where POL_OVR = 1, else the inversion detected (R49, R55, R75). -/
def State.setPolarity (s : State) (ls : Nat) : State :=
  s.modLane ls fun l => { l with
    invert := if s.flag F.LANE_RX_CTL_POL_OVR ls then s.flag F.LANE_RX_CTL_POL_VAL ls else s.flag F.LANE_RX_STAT_POL_DET ls }

/-- The receiver takes the starting values of its rate: CTLE_MAX caps the peaking code, and the DFE tap is 0 while the DFE is
off (R49, R50, R51, R90). -/
def State.startEq (s : State) (ls : Nat) : State :=
  let v := Config.startValues (s.lane ls).rate (s.lane ls).hint
  let s := s.wr F.LANE_RX_EQ_CTLE ls (min (bits v 0 6) (min (s.rd F.LANE_RX_CTL_CTLE_MAX ls) 36))
  let s := s.wr F.LANE_RX_EQ_DFE1 ls (if s.flag F.LANE_RX_CTL_DFE_EN ls then bits v 6 6 else 0)
  (s.wr F.LANE_RX_EQ_FFE_M1 ls (bits v 12 6)).wr F.LANE_RX_EQ_FFE_P1 ls (bits v 18 6)

/-- LANE_RX_CTL.RESTART: converged values are discarded, and the lane-side holds the starting values in LOCKED (R51); where its
port's state enables adaptation it goes on at the next drip boundary (`State.adaptDrip`; log entry 10). A margining step under
way ends and its spare is freed (DESIGN CHOICE, log entry 95). -/
def State.restartLane (s : State) (ls : Nat) : State :=
  if [3, 4, 5, 6].contains (s.astate ls) then
    (((s.endMargin ls).setAstate ls 3).modLane ls fun l => { l with converged := false }).startEq ls
  else s

/-- At a drip boundary the phrases take the LOCKED lane-sides whose ports enable adaptation on to ADAPT, or to FROZEN under
FREEZE (R50, R51, R70). -/
def State.adaptDrip (s : State) : State := forUp 66 (fun ls a => a.startAdapt ls) s

/-- LANE_RX_CTL.CNT_CLR (R80). -/
def State.clrLaneErr (s : State) (ls : Nat) : State := s.clrAll [F.LANE_ERR_CNT_LOCK_LOSS, F.LANE_ERR_CNT_EB_ERR] ls

/-- The lane-side on the other side of the same lane (R56). -/
def State.oppositeLs (s : State) (ls : Nat) : Nat := if ls < 32 then s.innerOf ls else outerLs (s.laneOfLs ls)

/-- A port forwards in this state, so that electrical idle of a lane is forwarded lane by lane (R85, R111). -/
def forwards (c : Nat) : Bool := [0x02, 0x03, 0x04, 0x05, 0x08, 0x10, 0x11, 0x12, 0x14, 0x15, 0x16, 0x17, 0x18, 0x19, 0x1A].contains c

/-- Electrical idle of a lane-side's input, or its end, is forwarded on the other side of the lane (R85, R111); the lanes
outside the trained width, and those that L0p turned off, stay in electrical idle (R29, R99). -/
def State.forwardIdle (s : State) (ls : Nat) (idle : Bool) : State :=
  match s.portOfLs ls with
  | some n =>
    let o := s.oppositeLs ls
    if forwards (s.ltssm n) ∧ (idle ∨ (s.sendLs n (decide (32 ≤ o))).contains o) then s.setTx (!idle) o else s
  | none => s

/-- The owning block of a lane-side's registers is disabled (R73, R188). -/
def State.laneOwnerOff (s : State) (ls : Nat) : Bool :=
  if ls < 64 then match s.portOfLane (s.laneOfLs ls) with
    | some n => !s.portEn n
    | none => true
  else decide (s.spareState (ls - 64) ≤ 1)

/-- The loopback of a lane-side, by the codes of R67: it takes effect only while the owner is disabled; 3 is reserved and does
nothing. -/
def State.loopback (s : State) (ls : Nat) : Nat :=
  let m := s.rd F.LANE_ECHO_CTL_MODE ls
  if s.laneOwnerOff ls ∧ m ≤ 2 then m else 0

/-- A change of the signal at a lane-side's input reaches its receiver: always from the receive pads, but in near-end Echo
the receiver hears the serializer alone, which sends while the generator is on (R67). -/
def State.hears (s : State) (ls : Nat) (signal : Bool) : Bool :=
  s.loopback ls != 1 || s.flag F.LANE_PRBS_CTL_GEN_EN ls == signal

/-- Signal detect for 1 µs: SIGDET, and an IDLE lane-side goes to ACQUIRE (R50, R77). -/
def State.signalDetect (s : State) (ls : Nat) : State :=
  if s.astate ls = 0 ∨ !s.hears ls true then s
  else
    let s := s.setF F.LANE_RX_STAT_SIGDET ls
    if s.astate ls = 1 then (s.setAstate ls 2).forwardIdle ls false else s

/-- The CDR locks: ACQUIRE to LOCKED, with the starting values of the rate or those kept (R50, R99), and RELOCK to TRACK. -/
def State.cdrLocked (s : State) (ls : Nat) : State :=
  if s.astate ls = 2 then
    let s := (s.setAstate ls 3).setF F.LANE_RX_STAT_CDR_LOCK ls
    if (s.lane ls).converged then s else s.startEq ls
  else if s.astate ls = 7 then ((s.setAstate ls 5).setF F.LANE_RX_STAT_CDR_LOCK ls).setFreeze ls (s.flag F.LANE_RX_CTL_FREEZE ls)
  else s

/-- Electrical idle on the input returns a lane-side to IDLE; it is forwarded (R50, R111). -/
def State.lossOfSignal (s : State) (ls : Nat) : State :=
  if s.astate ls = 0 ∨ !s.hears ls false then s else (s.laneIdle ls).forwardIdle ls true

/-- The loops converge: ADAPT to TRACK, with the values found; CTLE_MAX caps the peaking code, and the DFE tap is 0 while
the DFE is off (R49, R50, R77). -/
def State.adaptConverged (s : State) (ls ctle dfe1 m1 p1 : Nat) : State :=
  if s.astate ls = 4 then
    let s := s.wr F.LANE_RX_EQ_CTLE ls (min ctle (min (s.rd F.LANE_RX_CTL_CTLE_MAX ls) 36))
    let s := s.wr F.LANE_RX_EQ_DFE1 ls (if s.flag F.LANE_RX_CTL_DFE_EN ls then dfe1 else 0)
    let s := (s.wr F.LANE_RX_EQ_FFE_M1 ls m1).wr F.LANE_RX_EQ_FFE_P1 ls p1
    (s.setAstate ls 5).modLane ls fun l => { l with converged := true }
  else s

/-- Lock is lost in TRACK or FROZEN: RELOCK, counted (R50). A margining step ends (log entry 10). -/
def State.lossOfLock (s : State) (ls : Nat) : State :=
  if s.astate ls = 5 ∨ s.astate ls = 6 then
    let s := (((s.endMargin ls).setAstate ls 7).clr F.LANE_RX_STAT_CDR_LOCK ls).inc F.LANE_ERR_CNT_LOCK_LOSS ls
    s.modLane ls fun l => { l with relocks := l.relocks + 1 }
  else s

/-- Lock not regained within 10 µs (R50). -/
def State.relockTimeout (s : State) (ls : Nat) : State := if s.astate ls = 7 then s.setAstate ls 2 else s

/-- The fill of an elastic buffer is known; the sticky watermark flags follow (R59). -/
def State.ebFill (s : State) (ls fill : Nat) : State :=
  let s := s.wr F.LANE_EB_STAT_FILL ls fill
  let s := if fill > s.rd F.LANE_EB_CFG_HWM ls then s.setF F.LANE_EB_STAT_HWM ls else s
  if fill < s.rd F.LANE_EB_CFG_LWM ls then s.setF F.LANE_EB_STAT_LWM ls else s

/-- A fill of 0 or 64 is an error: the buffer is re-centred, counted and reported (R60). The excursion crosses a watermark. -/
def State.ebError (s : State) (ls : Nat) (full : Bool) : State :=
  (((s.ebFill ls (if full then 64 else 0)).wr F.LANE_EB_STAT_FILL ls 32).inc F.LANE_ERR_CNT_EB_ERR ls).raise 36 ls 0

/-- A SKP ordered set passes with the buffer at a fill: one unit is removed above 36, added below 28 (R58). -/
def State.skp (s : State) (ls fill unit : Nat) : State :=
  let s := s.ebFill ls fill
  if fill > 36 then (s.wr F.LANE_EB_STAT_FILL ls (fill - unit)).emit (.skp ls (-(unit : Int)))
  else if fill < 28 then (s.wr F.LANE_EB_STAT_FILL ls (min (fill + unit) 64)).emit (.skp ls unit)
  else s

/-- The quad or spare of a lane-side is powered (R33, R176). -/
def State.lsPowered (s : State) (ls : Nat) : Bool :=
  if ls < 64 then !s.quadGated (s.laneOfLs ls / 4) else s.spareState (ls - 64) != 0

/-- LANE_PRBS_CTL.CLR (R69). -/
def State.prbsClr (s : State) (ls : Nat) : State :=
  s.clrAll [F.LANE_PRBS_ERR_ERR, F.LANE_PRBS_BITS_LO_BITS_LO, F.LANE_PRBS_BITS_HI_BITS_HI, F.LANE_PRBS_STAT_SAT] ls

/-- The rate a lane-side's pattern runs at: the Echo rate in Echo (R67); outside Echo the lane-side's own last rate, for which
the manual gives none (DESIGN CHOICE, log entry 96). -/
def State.patternRate (s : State) (ls : Nat) : Nat :=
  if s.rd F.LANE_ECHO_CTL_MODE ls = 0 then (s.lane ls).rate else s.rd F.LANE_ECHO_CTL_RATE ls

/-- The PAM4 rates (R46). -/
def pam4Rate (rate : Nat) : Bool := 5 ≤ rate

/-- Bit k of the stream of a lane-side's generator: of the user pattern, high bit first, or of the pattern that its code names,
inverted where INV = 1 (R68). -/
def State.patternBit (s : State) (ls k : Nat) : Bool :=
  let p := s.rd F.LANE_PRBS_CTL_PATTERN ls
  let usr := s.rd F.LANE_PRBS_USR_LO_USR_LO ls + 2 ^ 32 * s.rd F.LANE_PRBS_USR_HI_USR_HI ls
  let b := if p = 10 then bit usr (63 - k % 64) else Config.patternBit p (pam4Rate (s.patternRate ls)) k
  b != s.flag F.LANE_PRBS_CTL_INV ls

/-- The level of two bits, the earlier one first, under Gray mapping: 00, 01, 11, 10 in rising order. PRESUMED, log entry 97. -/
def grayLevel (a b : Bool) : Nat := if a then (if b then 2 else 3) else (if b then 1 else 0)

/-- The symbols that carry the first 64 bits of a generator's stream (R68). -/
def State.patternSymbols (s : State) (ls : Nat) : List Nat :=
  if pam4Rate (s.patternRate ls) then
    (List.range 32).map fun k => grayLevel (s.patternBit ls (2 * k)) (s.patternBit ls (2 * k + 1))
  else (List.range 64).map fun k => b2n (s.patternBit ls k)

/-- The checker can lock: enabled with its owner disabled, on a defined pattern that the rate allows (R68). -/
def State.prbsCan (s : State) (ls : Nat) : Bool :=
  let p := s.rd F.LANE_PRBS_CTL_PATTERN ls
  s.flag F.LANE_PRBS_CTL_CHK_EN ls && s.laneOwnerOff ls && decide (p ≤ 10)
    && !(decide (7 ≤ p) && decide (p ≤ 9) && decide (s.patternRate ls < 5))

/-- A checker that can no longer run holds no lock (R68). -/
def State.dropPrbsLock (s : State) (ls : Nat) : State :=
  if s.prbsCan ls then s else s.clr F.LANE_PRBS_STAT_LOCK ls

/-- The generator of a lane-side drives its serializer: enabled, powered, its owner disabled (R67, R68). -/
def State.generates (s : State) (ls : Nat) : Bool :=
  s.flag F.LANE_PRBS_CTL_GEN_EN ls && s.laneOwnerOff ls && s.lsPowered ls

/-- While its owner is disabled, a powered lane-side's transmitter sends the pattern of its generator or a far-end Echo;
near-end Echo leaves the pads idle (R67, R68). -/
def State.patternTx (s : State) (ls : Nat) : State :=
  let m := s.loopback ls
  let s := s.dropPrbsLock ls
  if s.laneOwnerOff ls then s.setTx (s.lsPowered ls && ((s.flag F.LANE_PRBS_CTL_GEN_EN ls && m != 1) || m == 2)) ls else s

/-- A write of a lane-side's pattern or Echo controls: its transmitter follows, and a generator that runs starts its stream
(R67, R68). -/
def State.patternCtl (s : State) (ls : Nat) : State :=
  let s := s.patternTx ls
  if s.generates ls then s.emit (.pattern ls (s.patternRate ls) (s.patternSymbols ls)) else s

/-- Bits checked while locked are counted (R69). -/
def State.prbsCount (s : State) (ls bits errs : Nat) : State :=
  if s.flag F.LANE_PRBS_STAT_LOCK ls ∧ s.prbsCan ls then
    let s := s.incBy F.LANE_PRBS_ERR_ERR ls errs
    let full := s.rd F.LANE_PRBS_BITS_LO_BITS_LO ls + 2 ^ 32 * s.rd F.LANE_PRBS_BITS_HI_BITS_HI ls + bits ≥ 2 ^ 48 - 1
    let s := s.inc48 F.LANE_PRBS_BITS_LO_BITS_LO F.LANE_PRBS_BITS_HI_BITS_HI ls bits
    if full then s.setF F.LANE_PRBS_STAT_SAT ls else s
  else s

/-- 256 consecutive correct bits (R69). -/
def State.prbsLock (s : State) (ls : Nat) : State := if s.prbsCan ls then s.setF F.LANE_PRBS_STAT_LOCK ls else s

/-- 32 errored bits within 1,024 end the lock; the bits counted since the last drip boundary come with it (R69). -/
def State.prbsLockLoss (s : State) (ls bits errs : Nat) : State := (s.prbsCount ls bits errs).clr F.LANE_PRBS_STAT_LOCK ls

/-! ADC slices (R47, R48) -/

/-- The slice replaced by each spare: failed active slices take the spares that have not failed, in order (R48, R79). -/
def slicePlan (bad : List Nat) : Nat × Nat :=
  let act := bad.filter (· < 64)
  let second := if bad.contains 64 then act else act.drop 1
  (if bad.contains 64 then 0x7F else act.headD 0x7F, if bad.contains 65 then 0x7F else second.headD 0x7F)

/-- Calibration marks a slice failed (R48). -/
def State.failSlice (s : State) (ls k : Nat) : State :=
  let bad := (s.lane ls).badSlices
  if bad.contains k then s
  else
    let bad' := bad ++ [k]
    let s := s.modLane ls fun l => { l with badSlices := bad' }
    let s := (s.wr F.LANE_SLICE_STAT_SUB0 ls (slicePlan bad').1).wr F.LANE_SLICE_STAT_SUB1 ls (slicePlan bad').2
    let s := s.inc F.PWR_CNT_SLICE_FAIL 0
    -- calibration and margining of the lane-side stop with the second failed slice; a failed slice is no longer out for its trim
    let s := if bad'.length ≥ 2 then (s.endMargin ls).unfreeze ls else s
    let s := if !s.flag F.LANE_SLICE_STAT_MARG ls && (decide (bad'.length ≥ 2) || s.rd F.LANE_SLICE_STAT_CALSLICE ls == k) then
        (s.wr F.LANE_SLICE_STAT_CALSLICE ls 0x7F).modLane ls fun l => { l with sliceHalf := false }
      else s
    let s := if bad'.length ≥ 2 then (s.setF F.LANE_SLICE_STAT_CALSTOP ls).condOn 32 ls 0 else s
    if bad'.length ≥ 3 then s.condOn 33 ls 0 else s

/-! Margining (R65, R66, R104, R105) -/

/-- The spare slice that can serve a margining step: one that stands in for no slice (R48). -/
def State.freeSpare (s : State) (ls : Nat) : Nat :=
  if s.rd F.LANE_SLICE_STAT_SUB1 ls = 0x7F ∧ ¬ (s.lane ls).badSlices.contains 65 then 65 else 64

/-- The receiver of the device that a Receiver Number names: its side, by the position of R87. The numbers of PCIe's
retimer receivers go to the Upstream Pseudo Port first. PRESUMED, log entry 11. -/
def State.marginSide (s : State) (n rxnum : Nat) : Option Bool :=
  let base := if s.flag F.PORT_LINK_STAT_POS n then 4 else 2
  if rxnum = base then some (s.uspInner n)
  else if rxnum = base + 1 then some (!s.uspInner n) else none

/-- L0p has turned a lane of a port off (R66, R99). -/
def State.laneOffL0p (s : State) (n lane : Nat) : Bool := bit (s.port n).offLanes (lane - firstLane n)

/-- A parameter that the device reports at a rate code, 16 GT/s or more (R65): steps, offsets in percent of a unit interval
and in millivolts, 1 for a capability, and 64 symbols sampled of every 64. A companion rate has the parameters of its outer
rate. -/
def marginValue (rate : Nat) : MarginParam → Nat
  | .timingSteps => 16
  | .timingOffset => if pam4Rate rate then 25 else 50
  | .voltageSteps => 32
  | .voltageOffset => if rate = 3 then 200 else if rate = 4 then 160 else if rate = 5 then 100 else 80
  | .leftRight => 1
  | .upDown => 1
  | .errorSampler => 1
  | .allLanes => 1
  | .sampleRate => 64

/-- A Lane Margining command arrives (R88, R104, R105, R66); a response passes through. Where margining is not supported that
is the answer in every state of the port (DESIGN CHOICE, log entry 98). The cases of R66 concern a step: a report of a
parameter is answered in L0 whatever they say. -/
def State.marginCommand (s : State) (n lane rxnum : Nat) (ask : MarginAsk) : State :=
  if ask = .response then s.emit (.marginFwd n lane rxnum ask) else
  match s.marginSide n rxnum with
  | none => s.emit (.marginFwd n lane rxnum ask)
  | some inner =>
    if !(s.portLanes n).contains lane then s
    else if s.flag F.PORT_LINK_STAT_XS_RTMR n then s
    else if !s.flag F.PORT_CFG_MARG_EN n || decide (s.rate n < 3) then s.emit (.margin n lane rxnum 2)
    else
      let ls := if inner then s.innerOf lane else outerLs lane
      if s.ltssm n ≠ 8 then s.emit (.margin n lane rxnum 1) else
      match ask with
      | .report p => s.emit (.marginReport n lane rxnum p (marginValue (s.rate n) p))
      | _ =>
      if s.flag F.LANE_SLICE_STAT_CALSTOP ls ∨ s.laneOffL0p n lane then s.emit (.margin n lane rxnum 1)
      else if ask = .step then (s.modLane ls fun l => { l with marginReq := true }).emit (.margin n lane rxnum 0)
      else ((s.endMargin ls).unfreeze ls).emit (.margin n lane rxnum 0)

/-- The quad of a lane-side, and what the registers do not hold of it; the phrase that serves the lane-side has overrun in
this drip, or its engine is halted (R71). -/
def State.cal (s : State) (q : Nat) : CalSt := s.cals.get q {}
def State.modCal (s : State) (q : Nat) (f : CalSt → CalSt) : State := { s with cals := s.cals.set q (f (s.cal q)) {} }
def State.phraseLate (s : State) (ls : Nat) : Bool :=
  let q := s.laneOfLs ls / 4
  (s.cal q).overrun || s.flag F.PHR_STAT_HALTED q

/-- A margining step is set up: the spare slice moves to the margin offset, and the lane-side, in TRACK or ADAPT, is held in
FROZEN (R51); a calibration rotation under way finishes first (R66, R105), and a phrase overrun of the drip or a halt of the
quad's engine delays the step (R71). A lane-side that has no lock has its step wait (log entry 10). -/
def State.marginSetup (s : State) (ls : Nat) : State :=
  match s.portOfLs ls with
  | none => s
  | some n =>
    if (s.lane ls).marginReq && s.ltssm n == 8 && s.rd F.LANE_SLICE_STAT_CALSLICE ls == 0x7F
        && !s.flag F.LANE_SLICE_STAT_CALSTOP ls && [4, 5, 6].contains (s.astate ls) && !s.phraseLate ls then
      let s := (s.setF F.LANE_SLICE_STAT_MARG ls).wr F.LANE_SLICE_STAT_CALSLICE ls (s.freeSpare ls)
      let s := s.modLane ls fun l => { l with marginReq := false }
      s.setAstate ls 6
    else s

/-- A port leaves L0: its margining steps end, and the lane-sides return from FROZEN to TRACK (R105). -/
def State.endPortMargins (s : State) (n : Nat) : State :=
  forEach (s.portLs n) (fun ls a =>
    if a.flag F.LANE_SLICE_STAT_MARG ls || (a.lane ls).marginReq then (a.endMargin ls).unfreeze ls else a) s

/-! Commands -/

def execLaneRxCtlFreeze (r : Requester) (ls : Nat) (frz : Bool) (s : State) : Res :=
  effect (Wf.laneRxCtlFreeze r ls frz) s fun s => s.viaCore r fun s => s.setFreeze ls frz

def execLaneRxCtlRestart (r : Requester) (ls : Nat) (s : State) : Res :=
  effect (Wf.laneRxCtlRestart r ls) s fun s => s.viaCore r fun s => s.restartLane ls

def execLaneRxCtlCntClr (r : Requester) (ls : Nat) (s : State) : Res :=
  effect (Wf.laneRxCtlCntClr r ls) s fun s => s.viaCore r fun s => s.clrLaneErr ls

def execSignalDetect (ls : Nat) (s : State) : Res := effect (Wf.signalDetect ls) s fun s => s.signalDetect ls

def execLossOfSignal (ls : Nat) (s : State) : Res := effect (Wf.lossOfSignal ls) s fun s => s.lossOfSignal ls

def execAdaptConverged (ls ctle dfe1 ffeM1 ffeP1 : Nat) (s : State) : Res :=
  effect (Wf.adaptConverged ls ctle dfe1 ffeM1 ffeP1) s fun s => s.adaptConverged ls ctle dfe1 ffeM1 ffeP1

def execLossOfLock (ls : Nat) (s : State) : Res := effect (Wf.lossOfLock ls) s fun s => s.lossOfLock ls

def execRelockTimeout (ls : Nat) (s : State) : Res := effect (Wf.relockTimeout ls) s fun s => s.relockTimeout ls

def execEbWatermarkCrossing (ls fill : Nat) (s : State) : Res :=
  effect (Wf.ebWatermarkCrossing ls fill) s fun s => s.ebFill ls fill

def execElasticBufferError (ls : Nat) (full : Bool) (s : State) : Res :=
  effect (Wf.elasticBufferError ls full) s fun s => s.ebError ls full

def execSkpOrderedSet (ls fill unit : Nat) (s : State) : Res :=
  effect (Wf.skpOrderedSet ls fill unit) s fun s => s.skp ls fill unit

def execLanePrbsCtlClr (r : Requester) (ls : Nat) (s : State) : Res :=
  effect (Wf.lanePrbsCtlClr r ls) s fun s => s.viaCore r fun s => s.prbsClr ls

def execPrbsLock (ls : Nat) (s : State) : Res := effect (Wf.prbsLock ls) s fun s => s.prbsLock ls

def execPrbsLockLoss (ls bits errs : Nat) (s : State) : Res :=
  effect (Wf.prbsLockLoss ls bits errs) s fun s => s.prbsLockLoss ls bits errs

def execMarginCommand (port lane rxnum : Nat) (ask : MarginAsk) (s : State) : Res :=
  effect (Wf.marginCommand port lane rxnum ask) s fun s => s.marginCommand port lane rxnum ask

def execMarginStepSetup (ls : Nat) (s : State) : Res := effect (Wf.marginStepSetup ls) s fun s => s.marginSetup ls

end Sys2Proof.Machine
end

