-- ==== Sys2Proof/Machine/Capture.lean ====
section
/-! DEFINITION. The capture commands (R145, R149, R150). -/
namespace Sys2Proof.Machine

/-- PORT_CAP_CTL.ARM (R145). -/
def execPortCapCtlArm (r : Requester) (port : Nat) (s : State) : Res :=
  effect (Wf.portCapCtlArm r port) s fun s => s.viaCore r fun s => s.capArm port

/-- PORT_CAP_CTL.FORCE (R145). -/
def execPortCapCtlForce (r : Requester) (port : Nat) (s : State) : Res :=
  effect (Wf.portCapCtlForce r port) s fun s => s.viaCore r fun s => s.capTrigger port

/-- PORT_CAP_CTL.STOP (R145). -/
def execPortCapCtlStop (r : Requester) (port : Nat) (s : State) : Res :=
  effect (Wf.portCapCtlStop r port) s fun s => s.viaCore r fun s => s.capStop port

/-- CAPTURE_RECORD_WRITE (R149). -/
def execCaptureRecordWrite (port : Nat) (s : State) : Res :=
  effect (Wf.captureRecordWrite port) s fun s => s.capWrite port

/-- CAPTURE_DONE (R145). -/
def execCaptureDone (port : Nat) (s : State) : Res := effect (Wf.captureDone port) s fun s => s.capDone port

/-- A management write to the capture window (R150). -/
def State.capWindow (s : State) (req addr val : Nat) : State :=
  if s.capBusy then s.refuse F.GLB_WERR_PORT req addr else s.wrWord32 addr val

/-- CAPTURE_WINDOW_WRITE (R150). -/
def execCaptureWindowWrite (r : Requester) (addr val : Nat) (s : State) : Res :=
  effect (Wf.captureWindowWrite r addr val) s fun s => s.viaCore r fun s => s.capWindow (reqCode r) addr val

end Sys2Proof.Machine
end

