-- ==== Sys2Proof/Machine/Flit.lean ====
section
/-! DEFINITION. The flit engines (R121 to R143): lock, counters, rows, the bytes that leave, and the start and end of a data
stream. -/
namespace Sys2Proof.Machine

/-! Lock (R124, R125) -/

/-- A located flit can arrive: a data stream of 256-byte flits runs in L0 (R121, R124, R138). -/
def State.located (s : State) (n : Nat) : Bool :=
  (s.port n).stream && s.ltssm n == 8 && ((s.port n).fmt == 1 || (s.port n).fmt == 2)

/-- A loss of lock (R125): counted, reported, and a capture trigger where the capture watches that direction (DESIGN CHOICE,
log entry 100); lock returns with the next data stream only. -/
def State.loseLock (s : State) (n d : Nat) : State :=
  let s := ((s.clr (F.lock d) n).inc (F.lockLoss d) n).raise 49 n d
  let s := s.modFl (flKey n d) fun e => { e with goodRun := 0, provFlits := 0, failRun := 0, expected := none }
  if s.rd F.PORT_CAP_CFG_TRIG n = 4 ∧ s.rd F.PORT_CAP_CFG_DIR n = d then s.capTrigger n else s

/-- The run of good and failed flits after one more; 4 good flits in a row confirm the lock (R124, R125). -/
def State.stepLock (s : State) (n d : Nat) (good : Bool) : State :=
  let k := flKey n d
  let s := s.modFl k fun e =>
    if good then { e with goodRun := e.goodRun + 1, failRun := 0, provFlits := e.provFlits + 1 }
    else { e with goodRun := 0, failRun := e.failRun + 1, provFlits := e.provFlits + 1 }
  if s.rd (F.lock d) n = 1 ∧ (s.fl k).goodRun ≥ 4 then s.wr (F.lock d) n 2 else s

/-! Counters (R142) -/

/-- The symbols of a sparing window, kept with the inner lane-side that carries the logical lane (R143, R175). -/
def State.countWindow (s : State) (n m : Nat) : State :=
  forEach (s.portLanes n) (fun l a =>
    if a.rd F.LANE_RX_STAT_LOGICAL (a.innerOf l) = m then a.modLane (a.innerOf l) fun x => { x with syms := x.syms + 1 } else a) s

/-- One corrected symbol, by logical lane i mod w (R123). -/
def State.countLane (s : State) (n d off : Nat) : State :=
  let w := max (s.rd F.PORT_LINK_STAT_AWIDTH n) 1
  let m := off % w
  let s := if d = 1 then s.countWindow n m else s
  s.inc (if m % 2 = 0 then F.PORT_FEC_LANE_EVEN else F.PORT_FEC_LANE_ODD) (8 * flKey n d + m / 2)

/-- The counters of a decoded flit (R142, R143). -/
def State.countFlit (s : State) (n d : Nat) (f : Flit) : State :=
  let k := flKey n d
  let s := s.inc48 F.PORT_FEC_FLITS_LO_FLITS_LO F.PORT_FEC_FLITS_HI_FLITS_HI k 1
  match flitOutcome f with
  | .clean => s
  | .corrected =>
    forEach (flitPairs f) (fun p a => a.countLane n d p.1) ((s.inc F.PORT_FEC_CORR_CORR k).incBy F.PORT_FEC_SYM_SYM k (flitPairs f).length)
  | .uncorrectable => (s.inc F.PORT_FEC_UNCORR_UNCORR k).raise 50 n d
  | .crcBad => (s.inc F.PORT_FEC_CRCBAD_CRCBAD k).raise 50 n d

/-! Rows (R133 to R136, R155, R206) -/

/-- The size of a port's replay window (R37, R206). -/
def State.replayShare (s : State) (n : Nat) : Nat := 64 * s.width n

/-- The place in the replay store of the flit at a position: the port's share is the flit range from 64 L (R37). -/
def State.replayPlace (s : State) (n pos : Nat) : Nat := 64 * firstLane n + pos % max (s.replayShare n) 1

/-- The number of the last row of a stream of `pos` flits (R187). -/
def lastRow (pos : Nat) : Nat := (pos - 1) / 32

/-- The numbers of the last rows of the two streams (R187). -/
def State.showRows (s : State) (n : Nat) : State :=
  (s.wr F.CMP_PORT_ROW_ROW_OUT n (lastRow (s.port n).outPos)).wr F.CMP_PORT_ROW_ROW_IN n (lastRow (s.port n).inPos)

/-- Data flit 31 of the row in hand has passed, and its slot has not: no data flit stands here (R155, R157; log entry 103). -/
def State.slotNext (s : State) (n d : Nat) : Bool :=
  let p := s.port n
  p.rows && (if d = 0 then decide (p.outPos ≥ 32 * (p.slotsOut + 1)) else decide (p.inPos ≥ 32 * (p.slotsIn + 1)))

/-- A flit sent on the inner stream: kept in the replay store, and described by an erratum entry where Patch, with lock, found
a correction (R126, R131, R132, R134, R136, R206). -/
def State.sentRowFlit (s : State) (n : Nat) (f : Flit) (sent : List Nat) (lock : Bool) : State :=
  if !(s.port n).rows then s
  else
    let q := (s.port n).outPos
    let patch := s.rd F.PORT_STAT_EMODE_OI n == 2 && lock
    let pairs := if patch then (flitPairs f) else []
    let e : RplEntry := { pos := q, body := sent.take 250, pairs := pairs, issues := 0 }
    let s := s.modPort n fun p => { p with
      outPos := q + 1
      store := (p.store ++ [e]).drop ((p.store.length + 1) - s.replayShare n) }
    let s := if patch && (flitOutcome f) == .corrected then
        s.modPort n fun p => { p with errata := p.errata ++
          [{ row := q / 32 % 65536, index := q % 32, issue := 0, pairs := pairs, born := q / 32, first := q / 32,
             due := q / 32 + 2, age := 0 }] }
      else s
    s.showRows n

/-- The place of the next inbound flit on the inner stream (R129). -/
def State.inPlace (s : State) (n : Nat) : Option (Nat × Nat) :=
  if (s.port n).rows then some ((s.port n).inPos / 32 % 65536, (s.port n).inPos % 32) else none

/-- The place of the next outbound flit. -/
def State.outPlace (s : State) (n : Nat) : Option (Nat × Nat) :=
  if (s.port n).rows then some ((s.port n).outPos / 32 % 65536, (s.port n).outPos % 32) else none

/-- One more inbound flit. -/
def State.gotRowFlit (s : State) (n : Nat) : State :=
  if (s.port n).rows then (s.modPort n fun p => { p with inPos := p.inPos + 1 }).showRows n else s

/-! A decoded flit -/

/-- The bytes a flit leaves with in Pass, Patch and Correct (R4, R126, R130): Correct restores the symbols that the decode
corrected, in the parity too, so that the parity which leaves is the sending link end's. -/
def State.sentBytes (s : State) (n d : Nat) (f : Flit) : List Nat :=
  if s.rd (F.emode d) n = 1 ∧ (flitOutcome f).good then flitContent f else f.bytes

/-- A flit enters the Hold store; with lock, a failed one creates a Hold request (R126, R209). -/
def State.holdFlit (s : State) (n : Nat) (f : Flit) (lock : Bool) : State :=
  let row := (s.port n).inPos / 32 % 65536
  let idx := (s.port n).inPos % 32
  let h : HeldFlit := {
    flit := f, drip := s.dripAgo f.ago, outcome := flitOutcome f, pairs := flitPairs f, row := row, index := idx
    locked := lock, body := none }
  let s := s.modPort n fun p => { p with held := p.held ++ [h] }
  if (flitOutcome f).good ∨ !lock then s
  else (s.inc F.CMP_HOLD_CNT_REQ n).modPort n fun p => { p with
    holdReqs := p.holdReqs ++ [{ row := row, index := idx, sent := false, held := true, age := 0 }] }

/-- A flit that passes while its direction has no lock (R126): forwarded as received, in Hold with the latency of Hold; it
takes its place in the row and in the replay store (R155, R206), and nothing counts. -/
def State.flitUnlocked (s : State) (n d : Nat) (f : Flit) : State :=
  if d = 1 ∧ s.rd F.PORT_STAT_EMODE_IO n = 3 then (s.holdFlit n f false).gotRowFlit n
  else (if d = 0 then s.sentRowFlit n f f.bytes false else s.gotRowFlit n).emit (.flit n d f.bytes)

/-- A located flit's decode ends (R127 to R136, R141 to R143). -/
def State.flitDecoded (s : State) (n d : Nat) (f : Flit) : State :=
  if !s.located n || s.slotNext n d then s
  else if !s.locked n d then s.flitUnlocked n d f
  else
    let s := if d = 0 ∧ (s.port n).rows ∧ (s.port n).outPos % 32 = 0 then s.modesAtRow n else s
    let s := (s.countFlit n d f).stepLock n d (flitOutcome f).good
    if d = 1 ∧ s.rd F.PORT_STAT_EMODE_IO n = 3 then (s.holdFlit n f true).gotRowFlit n
    else
      let place := if d = 0 then s.outPlace n else s.inPlace n
      let s := s.handOver n d (flitHanded f (s.dripAgo f.ago) place) f.info
      let sent := s.sentBytes n d f
      let s := if d = 0 then s.sentRowFlit n f sent true else s.gotRowFlit n
      s.emit (.flit n d sent)

/-! The data stream (R24, R124, R125, R131, R156, R165, R211) -/

/-- A data stream ends: the Correct and Hold stores empty in order, lock ends without a loss, and the rows stop with
replay, Hold and errata settled (R125, R137, R211). -/
def State.streamEnd (s : State) (n : Nat) : State :=
  if !(s.port n).stream then s
  else
    let s := State.departAll (s.port n).held.length s n
    let s := s.clrAll [F.lock 0, F.lock 1] n
    let s := ((((s.abortErrata n).abortReplay n).endHoldReqs n).stopRows n).pauseExport n
    s.modPort n fun p => { p with stream := false }

/-- Rows start with the data stream: the port is associated, its inner segment runs at the companion rate, and no attempt
or fallback is under way (R165). -/
def State.rowsStart (s : State) (n : Nat) : Bool :=
  let g := s.rd F.CMP_PORT_STAT_SEG n
  (g == 2 || g == 3) && (s.port n).innerComp && (s.port n).attempt == .none

/-- The receive skew of a direction, in picoseconds, is within the tolerance of the port's configured width; above it the flit
engine gains no lock (R57). -/
def State.skewFits (s : State) (n skew : Nat) : Bool := decide (skew ≤ 800 * (s.width n - 1))

/-- A data stream starts (R24, R124, R156, R165, R242). -/
def State.streamStart (s : State) (n skewOI skewIO : Nat) : State :=
  if s.ltssm n ≠ 8 ∨ (s.port n).stream then s
  else
    let prov := if (s.port n).fmt = 1 ∨ (s.port n).fmt = 2 then 1 else 0
    let s := (s.wr (F.lock 0) n (if s.skewFits n skewOI then prov else 0)).wr (F.lock 1) n (if s.skewFits n skewIO then prov else 0)
    let s := forUp 2 (fun d a => a.modFl (flKey n d) fun e =>
      { e with goodRun := 0, provFlits := 0, failRun := 0, expected := none }) s
    let s := s.stopRows n
    let s := if s.rowsStart n then
        ((s.wr F.CMP_PORT_STAT_SEG n 3).modPort n fun p => { p with rows := true }).resumeExport n
      else s
    let s := (s.retarget n false).modPort n fun p => { p with stream := true }
    (s.modesAtStart n).showRows n

/-! Commands -/

/-- DATA_STREAM_START (R124). -/
def execDataStreamStart (port : Nat) (s : State) (skewOI skewIO : Nat := 0) : Res :=
  effect (Wf.dataStreamStart port skewOI skewIO) s fun s => s.streamStart port skewOI skewIO

/-- DATA_STREAM_END (R125). -/
def execDataStreamEnd (port : Nat) (s : State) : Res := effect (Wf.dataStreamEnd port) s fun s => s.streamEnd port

/-- FLIT_DECODED (R127). -/
def execFlitDecoded (port dir : Nat) (fl : Flit) (s : State) : Res :=
  effect (Wf.flitDecoded port dir fl) s fun s => s.flitDecoded port dir fl

/-- PROVISIONAL_LOCK_EXPIRY (R124): a loss where 64 flits have passed unconfirmed. -/
def execProvisionalLockExpiry (port dir : Nat) (s : State) : Res :=
  effect (Wf.provisionalLockExpiry port dir) s fun s => if s.provOver port dir then s.loseLock port dir else s

/-- LOCK_LOSS (R125): a loss where LOSS_N flits in a row have failed. -/
def execLockLoss (port dir : Nat) (s : State) : Res :=
  effect (Wf.lockLoss port dir) s fun s => if s.lossDue port dir then s.loseLock port dir else s

/-- ORDERED_SET_MISPLACED (R125). -/
def execOrderedSetMisplaced (port dir : Nat) (s : State) : Res :=
  effect (Wf.orderedSetMisplaced port dir) s fun s => if s.rd (F.lock dir) port = 0 then s else s.loseLock port dir

/-- PORT_FLIT_CTL.CNT_CLR (R143). -/
def execPortFlitCtlCntClr (r : Requester) (port : Nat) (s : State) : Res :=
  effect (Wf.portFlitCtlCntClr r port) s fun s => s.viaCore r fun s => s.clrFlitCounters port

/-- HOLD_DEPARTURE (R209). -/
def execHoldDeparture (port : Nat) (s : State) : Res :=
  effect (Wf.holdDeparture port) s fun s => s.departHeld port true

end Sys2Proof.Machine
end

