-- ==== Sys2Proof/Machine/CompCore.lean ====
section
/-! DEFINITION. The companion segment as training uses it (R159 to R168): fallback, the release of spares, association, the
lock test and its messages. -/
namespace Sys2Proof.Machine

/-- CMP_PORT_STAT.SEG of a port (R187). -/
def State.seg (s : State) (n : Nat) : Nat := s.rd F.CMP_PORT_STAT_SEG n

/-- The port is associated (R159). -/
def State.associated (s : State) (n : Nat) : Bool := s.seg n == 2 || s.seg n == 3

/-! Power and release of the spares (R181, R182) -/

/-- The spare of a half is to be powered (R182). -/
def State.spareNeeded (s : State) (h : Nat) : Bool :=
  decide (s.spareState h ≥ 2) ||
    (List.range 16).any fun n => s.present n && halfOf (firstLane n) == h && s.flag F.PORT_CFG_COMP n && s.seg n != 4

/-- An idle spare that nothing needs is gated, and SGATED follows (R32, R182). -/
def State.gateSpares (s : State) : State :=
  let s := forUp 2 (fun h a =>
    if a.spareState h = 1 ∧ ¬a.spareNeeded h then (a.laneOff (64 + h)).wr F.SPARE_STAT_STATE h 0 else a) s
  s.wr F.PWR_DOM_STAT_SGATED 0 (b2n (s.spareState 0 == 0) + 2 * b2n (s.spareState 1 == 0))

/-- A spare that serves a port which leaves companion mode is released; a procedure not yet ACTIVE is abandoned (R180,
R181). -/
def State.releaseSpare (s : State) (h : Nat) : State :=
  if s.spareState h ≥ 4 then s.spareIdle h else s.abandonSpare h 6 true

/-- The spares that serve lanes of a port are released (R181). -/
def State.releasePortSpares (s : State) (n : Nat) : State :=
  forUp 2 (fun h a =>
    if a.spareState h ≥ 2 ∧ a.portOfLane (a.spareLane h) = some n then a.releaseSpare h else a) s

/-! Fallback (R160, R164, R167) -/

/-- A fallback: cause, count, report, SEG 4, and none of the functions of companion mode (R160). -/
def State.fallback (s : State) (n cause : Nat) : State :=
  let s := ((s.wr F.CMP_PORT_STAT_SEG n 4).wr F.CMP_PORT_STAT_FB_CAUSE n cause).inc F.CMP_PORT_CNT_FB n
  let s := (s.raise 52 n cause).leaveSlots n
  let s := (s.releasePortSpares n).modPort n fun p => { p with joinWait := false, rejoin := false, leavePend := false }
  (s.gateSpares).retarget n false

/-- A lane-side is sent through electrical idle to a rate, where it acquires anew (R96, R164). -/
def State.laneToRate (s : State) (rate : Nat) (comp : Bool) (ls : Nat) : State :=
  let s := (s.endMargin ls).modLane ls fun l => { l with rate := rate, comp := comp, converged := false, hint := none }
  if s.astate ls = 0 then s else (s.setAstate ls 2).clr F.LANE_RX_STAT_CDR_LOCK ls

/-- The inner segment restarts at the outer rate, on the lanes that send (R29), and the hold on the outer segment lasts until
both parts have locked (R164 steps 3 and 4); in a fallback at a Recovery, forwarding has stopped (R167). -/
def State.restartInner (s : State) (n : Nat) (stopped : Bool) : State :=
  let s := forEach (s.sideLs n true) (fun l a => (a.setTx false l).laneToRate (a.rate n) false l) s
  let s := forEach (s.sendLs n true) (fun l a => a.setTx true l) s
  s.modPort n fun p => { p with
    innerComp := false, attempt := if stopped then .fbStop else .fbHold, ownLock := false, peerLock := false
    execI := if p.attempt = .ceq then none else p.execI }

/-- FALLBACK goes over the CSB where it is UP (R164, R167). -/
def State.sendFallback (s : State) (n cause : Nat) : State := s.csbSend 0x22 0 [n, cause]

/-- A fallback during an entry attempt (R164): FALLBACK and its answer, or at once the restart of the inner segment. -/
def State.attemptFallback (s : State) (n cause : Nat) : State :=
  let s := s.fallback n cause
  if s.csbUp then
    (s.sendFallback n cause).modPort n fun p => { p with attempt := .fbAck, execI := if p.attempt = .ceq then none else p.execI }
  else s.restartInner n false

/-- A fallback that ends rows at a Recovery which does not change the rate (R167); without the companion rate there is
nothing to change. -/
def State.recoveryFallback (s : State) (n cause : Nat) : State :=
  let comp := (s.port n).innerComp
  let s := s.fallback n cause
  if comp then ((s.sendFallback n cause).emit (.ts1 n false)).restartInner n true else s

/-! The lock test (R162, R163) -/

/-- Lane offsets of the port's trained width (R162); before training, of its configured width. -/
def State.trainedOffs (s : State) (n : Nat) : List Nat :=
  (List.range (s.width n)).filter fun i => (s.port n).trained == 0 || bit (s.port n).trained i

/-- The bitmap of the trained inner lane-sides that are LOCKED. -/
def State.lockMap (s : State) (n : Nat) : Nat :=
  (s.trainedOffs n).foldl (fun a i =>
    if s.flag F.LANE_RX_STAT_CDR_LOCK (s.innerOf (firstLane n + i)) then a + 2 ^ i else a) 0

/-- All of them are. -/
def State.innerLocked (s : State) (n : Nat) : Bool :=
  (s.trainedOffs n).all fun i => s.flag F.LANE_RX_STAT_CDR_LOCK (s.innerOf (firstLane n + i))

/-- A bitmap received reports every trained lane (R162). -/
def State.mapFull (s : State) (n map : Nat) : Bool := (s.trainedOffs n).all fun i => bit map i

/-- The device's LOCK_RPT (R162, R164). -/
def State.sendLockRpt (s : State) (n : Nat) (comp : Bool) : State :=
  s.csbSend 0x20 0 [n, s.rate n + (if comp then 128 else 0), s.lockMap n % 256, s.lockMap n / 256]

/-- The attempt waits for locks: at the companion rate, or at the target rate in a fallback. -/
def Attempt.wantsLock : Attempt → Option Bool
  | .lock _ => some true
  | .fbHold => some false
  | .fbStop => some false
  | _ => Option.none

/-- The device's own lanes have just locked: LOCK_RPT is sent once (R162, R164). -/
def State.reportLock (s : State) (n : Nat) : State :=
  match (s.port n).attempt.wantsLock with
  | some comp =>
    if s.innerLocked n && !(s.port n).ownLock then
      (s.sendLockRpt n comp).modPort n fun p => { p with ownLock := true }
    else s
  | none => s

/-- Both halves of the lock test hold. -/
def State.bothLocked (s : State) (n : Nat) : Bool := s.innerLocked n && (s.port n).ownLock && (s.port n).peerLock

/-! Association (R159, R174, R179) -/

/-- A spare is ACTIVE for a lane of the port. -/
def State.spareFor (s : State) (n h : Nat) : Bool :=
  s.spareState h == 4 && s.portOfLane (s.spareLane h) == some n

/-- JOIN (R174, R179). -/
def State.sendJoin (s : State) (n : Nat) : State :=
  s.csbSend 0x10 0 [n, firstLane n, s.width n, b2n (!s.hostFacing n),
    b2n (s.spareFor n 0) + 2 * b2n (s.spareFor n 1),
    if s.spareFor n 0 then s.spareLane 0 else 0, if s.spareFor n 1 then s.spareLane 1 else 0]

/-- The port seeks association at its entry to CONFIG from POLLING_CONFIG (R159); with COMP = 0 it leaves companion mode
(R166). -/
def State.seekAssociation (s : State) (n : Nat) : State :=
  if !s.flag F.PORT_CFG_COMP n then
    let s := if s.associated n || s.seg n == 1 then s.leaveSlots n else s
    (((s.releasePortSpares n).wr F.CMP_PORT_STAT_SEG n 0).gateSpares).retarget n false
  else if !s.csbUp then s.fallback n 3
  else
    -- an associated port leaves association here, and with it its class-3 traffic (R166, R211)
    let s := if s.associated n then (s.modPort n fun p => { p with refused := [], refOvf := false, refAge := 0 }).dropClass3 n
      else s
    let s := ((s.wr F.CMP_PORT_STAT_SEG n 1).sendJoin n).modPort n fun p => { p with joinWait := true, rejoin := false }
    s.retarget n false

end Sys2Proof.Machine
end

