-- ==== Sys2Proof/Machine/Training.lean ====
section
/-! DEFINITION. Link training (R84 to R101, R110 to R112, R161 to R167): training sets, equalization, speed changes, the
entry to rows, retrains, L0p, L1 and the down states. -/
namespace Sys2Proof.Machine

/-! Transmit coefficients (R52 to R54, R78, R94, R95) -/

/-- The coefficients of a lane-side, packed as LANE_EQ_STAT bits 23:0 hold them. -/
def State.coefWord (s : State) (ls : Nat) : Nat :=
  s.rd F.LANE_EQ_STAT_CM2 ls + 64 * s.rd F.LANE_EQ_STAT_CM1 ls + 4096 * s.rd F.LANE_EQ_STAT_C0 ls
    + 262144 * s.rd F.LANE_EQ_STAT_CP1 ls

/-- A transmitter takes coefficients, unless LANE_TX_COEF overrides them (R54, R78). -/
def State.setCoefs (s : State) (ls preset word : Nat) : State :=
  if s.flag F.LANE_TX_CTL_OVR ls then s
  else ((((s.wr F.LANE_EQ_STAT_PRESET ls preset).wr F.LANE_EQ_STAT_CM2 ls (bits word 0 6)).wr F.LANE_EQ_STAT_CM1 ls
    (bits word 6 6)).wr F.LANE_EQ_STAT_C0 ls (bits word 12 6)).wr F.LANE_EQ_STAT_CP1 ls (bits word 18 6)

/-- The rate whose preset set a lane-side uses: a companion rate uses that of its outer rate (R53). -/
def State.presetRate (s : State) (ls : Nat) : Nat := (s.lane ls).rate

/-- A transmitter takes a preset that is defined at its rate, 8 GT/s or more (R53, R90); below, it has de-emphasis and swing in
place of coefficients (`State.drive`). -/
def State.setPreset (s : State) (ls p : Nat) : State :=
  let r := s.presetRate ls
  if r ≥ 2 ∧ Config.presetDefined r p then s.setCoefs ls p (Config.presetCoef r p) else s

/-- A coefficient set is legal (R52). -/
def coefsLegal (rate cm2 cm1 c0 cp1 : Nat) : Bool :=
  cm2 + cm1 + c0 + cp1 == 48 && decide (c0 + cm2 ≥ 12 + cm1 + cp1) && decide (cm1 ≤ 12) && decide (cp1 ≤ 16)
    && decide (cm2 ≤ 6) && (cm2 == 0 || decide (5 ≤ rate))

/-- The key of the store of R95: the companion rate is a rate of its own (R163). -/
def State.storeKey (s : State) (ls : Nat) : Nat := (s.lane ls).rate + (if (s.lane ls).comp then 8 else 0)

/-- The final coefficients of a rate are stored (R95). -/
def State.storeCoefs (s : State) (ls : Nat) : State :=
  let v := 1 + s.rd F.LANE_EQ_STAT_PRESET ls * 2 ^ 24 + s.coefWord ls
  let k := s.storeKey ls
  s.modLane ls fun l => { l with stored := l.stored.set k v 0 }

/-- The stored coefficients of the rate are used, or else the preset that the training sets name (R95). -/
def State.recallCoefs (s : State) (ls preset : Nat) : State :=
  let v := (s.lane ls).stored.get (s.storeKey ls) 0
  if v = 0 then s.setPreset ls preset else s.setCoefs ls ((v - 1) / 2 ^ 24) ((v - 1) % 2 ^ 24)

/-- Every trained inner lane-side holds stored coefficients at its rate (R163). -/
def State.innerStored (s : State) (n : Nat) : Bool :=
  (s.trainedOffs n).all fun i =>
    let ls := s.innerOf (firstLane n + i)
    (s.lane ls).stored.get (s.storeKey ls) 0 != 0

/-- The side of the USP, and the preset of R90 for the transmitter of a side. -/
def State.sidePreset (s : State) (n : Nat) (inner : Bool) (ts : TrainSet) : Nat :=
  if inner == s.uspInner n then ts.presetUsp else ts.presetDsp

/-! Forwarding (R85, R87, R97, R99) -/

/-- The highest rate code of a port (R97, R116). -/
def State.maxRate (s : State) (n : Nat) : Nat := min (s.rd F.PORT_CFG_MAX_RATE n) 6

/-- The set that goes out for one received: every relayed item as it came, the rates under the ceiling, the presence bits set
in a TS2, the L0p capability under its mask, true polarity, and in the equalization phases of 8 GT/s and above the device's own
FS = 48 and LF = 12 (R52, R55, R85, R87, R95, R97, R99). -/
def State.sentSet (s : State) (n : Nat) (ts : TrainSet) : TrainSet :=
  let eq := decide (0x14 ≤ ts.state ∧ ts.state ≤ 0x17 ∧ 2 ≤ s.rate n)
  { ts with
    inner := !ts.inner
    rates := ts.rates % 2 ^ (s.maxRate n + 1)
    rp := ts.rp || ts.ts2
    trp := ts.trp || (ts.ts2 && ts.rp)
    l0p := ts.l0p && s.flag F.PORT_CFG_L0P_EN n
    inverted := []
    fs := if eq then 48 else ts.fs
    lf := if eq then 12 else ts.lf }

/-- A training set goes out on the other side. -/
def State.sendSet (s : State) (n : Nat) (ts : TrainSet) : State := s.emit (.trainSet n (!ts.inner) (s.sentSet n ts))

/-- A training set is forwarded by the transmitters of the other side that send (R29, R85). -/
def State.forwardSet (s : State) (n : Nat) (ts : TrainSet) : State :=
  (forEach (s.sendLs n (!ts.inner)) (fun ls a => a.setTx true ls) s).sendSet n ts

/-- The position is relearned from the TS2 that arrive at the USP (R87, R88). -/
def State.learnPos (s : State) (n : Nat) (ts : TrainSet) : State :=
  if ts.ts2 ∧ ts.inner = s.uspInner n ∧ (ts.state = 0x03 ∨ ts.state = 0x05 ∨ ts.state = 0x11) then
    (s.wrB F.PORT_LINK_STAT_POS n ts.rp).wrB F.PORT_LINK_STAT_XS_RTMR n ts.trp
  else s

/-- Inverted polarity is detected in Polling, and corrected unless POL_OVR decides the correction (R55, R89). -/
def State.learnPolarity (s : State) (n : Nat) (ts : TrainSet) : State :=
  if ts.state = 0x02 ∨ ts.state = 0x03 then
    forUp (s.width n) (fun i a =>
      let ls := if ts.inner then a.innerOf (firstLane n + i) else outerLs (firstLane n + i)
      (a.wrB F.LANE_RX_STAT_POL_DET ls (ts.inverted.contains i)).setPolarity ls) s
  else s

/-- Logical lanes and width (R56, R89): lane offset i carries logical lane `logical[i]`, or i where none are listed. -/
def State.learnWidth (s : State) (n : Nat) (ts : TrainSet) : State :=
  if (ts.state = 0x05 ∨ ts.state = 0x11) ∧ ts.width ≠ 0 then
    let lg := fun i => (ts.logical.drop i).headD i
    let s := forUp (s.width n) (fun i a =>
      (a.wr F.LANE_RX_STAT_LOGICAL (outerLs (firstLane n + i)) (lg i)).wr F.LANE_RX_STAT_LOGICAL
        (a.innerOf (firstLane n + i)) (lg i)) s
    let m := (List.range (s.width n)).foldl (fun a i => if lg i < ts.width then a + 2 ^ i else a) 0
    let s := (s.wr F.PORT_LINK_STAT_WIDTH n ts.width).wr F.PORT_LINK_STAT_AWIDTH n ts.width
    let s := s.modPort n fun p => { p with trained := m }
    -- the transmitters of the lanes left out stay in electrical idle (R29)
    forEach (s.portLs n) (fun ls a =>
      if (a.sendLs n false).contains ls || (a.sendLs n true).contains ls then a else a.setTx false ls) s
  else s

/-- Flit mode and format are learned in CONFIG (R121). -/
def State.learnFlit (s : State) (n : Nat) (ts : TrainSet) : State :=
  if ts.state = 0x05 then
    ((s.wrB F.PORT_LINK_STAT_FLIT n ts.flit).modPort n fun p => { p with fmt := if ts.flit then ts.fmt else 0 }).retarget n false
  else s

/-! Leaving and entering states -/

/-- The port leaves L0: margining ends, the data stream ends, L0p ends, and sparing procedures are abandoned (R105, R125,
R180). -/
def State.leaveL0 (s : State) (n : Nat) : State :=
  if s.ltssm n ≠ 8 then s
  else
    let s := ((s.endPortMargins n).streamEnd n).abandonPortSpares n
    (s.wr F.PORT_LINK_STAT_AWIDTH n (s.rd F.PORT_LINK_STAT_WIDTH n)).modPort n fun p => { p with offLanes := 0 }

/-- The port enters Recovery: counted, waiting mode changes may act, and a LEAVE takes effect (R24, R120, R166, R167). -/
def State.enterRecovery (s : State) (n : Nat) : State :=
  let s := (s.inc F.PORT_TRN_CNT_RECOV n).armModes n
  if (s.port n).leavePend then s.recoveryFallback n 8 else s

/-- LOCKED lane-sides of the port start to adapt where its state enables it (R50, R90). -/
def State.adaptPort (s : State) (n : Nat) : State := forEach (s.portLs n) (fun ls a => a.startAdapt ls) s

/-- The end of an equalization phase ends adaptation at full gain (R50). -/
def State.endAdapt (s : State) (n : Nat) : State :=
  forEach (s.portLs n) (fun ls a => if a.astate ls = 4 then (a.setAstate ls 5).modLane ls fun l => { l with converged := true } else a) s

/-- Equalization ends (R95): the final coefficients are stored, and a passage through phase 3 counts. -/
def State.leaveEq (s : State) (n old : Nat) : State :=
  let s := forEach (s.portLs n) (fun ls a => a.storeCoefs ls) s
  if old = 0x17 then s.inc F.PORT_TRN_CNT_EQ n else s

/-- Execution mode of a side. -/
def PortSt.exec (p : PortSt) (inner : Bool) : Option Exec := if inner then p.execI else p.execO
def PortSt.setExec (p : PortSt) (inner : Bool) (e : Option Exec) : PortSt :=
  if inner then { p with execI := e } else { p with execO := e }

/-- The presets that the standard defines at a rate (R53). -/
def ratePresets (rate : Nat) : List Nat := (List.range 16).filter fun p => Config.presetDefined rate p

/-- A pseudo port enters Execution mode: it requests the first preset of the rate (R84, R91). -/
def State.startExec (s : State) (n : Nat) (inner : Bool) : State :=
  let s := (s.clr (F.trials inner) n).wr F.PORT_EQ_STAT_RATE n (s.rate n)
  let ps := ratePresets (s.rate n)
  let s := s.modPort n fun p => p.setExec inner (some
    { trials := 0, scored := 0, best := none, repeated := false, cur := .preset (ps.headD 0), untried := ps.drop 1 })
  s.emit (.eqRequest n inner (.preset (ps.headD 0)))

/-! Speed changes and the entry to rows (R96, R161, R163, R165) -/

/-- The decision at the entry to Recovery.Speed with a new rate (R161, R165): the rate of the inner segment follows. -/
def State.speedDecision (s : State) (n old new : Nat) : State :=
  if !s.associated n then s.modPort n fun p => { p with innerComp := false, attempt := .none }
  else if !rowRate new then
    (s.wr F.CMP_PORT_STAT_SEG n 2).modPort n fun p => { p with innerComp := false, attempt := .none }
  else if old = new ∧ (s.port n).innerComp ∧ (s.port n).attempt = .none then s
  else
    let out := fun (a : State) (c : Nat) => (a.fallback n c).modPort n fun p => { p with innerComp := false, attempt := .none }
    if !s.csbUp then out s 3
    else if !s.flag F.CMP_PORT_STAT_ROWCAP n then out s 7
    else if !rowsFit (s.rd F.PORT_LINK_STAT_WIDTH n) new then out s 6
    else (s.wr F.CMP_PORT_STAT_SEG n 2).modPort n fun p =>
      { p with innerComp := true, attempt := .lock false, ownLock := false, peerLock := false, ownCeq := false, peerCeq := false }

/-- Recovery.Speed: electrical idle on both sides, and every lane-side moves to the new rate (R96). -/
def State.speedChange (s : State) (n : Nat) (ts : TrainSet) : State :=
  let old := s.rate n
  let s := s.portTx n false
  let s := (s.wr F.PORT_LINK_STAT_RATE n ts.rate)
  let s := if old = ts.rate then s else s.inc F.PORT_TRN_CNT_SPEED n
  let s := s.speedDecision n old ts.rate
  let comp := (s.port n).innerComp
  let side := fun (inner : Bool) (a : State) =>
    forEach (a.sideLs n inner) (fun ls b =>
      ((b.laneToRate ts.rate (comp && inner) ls).recallCoefs ls (b.sidePreset n inner ts)).modLane ls fun l =>
        { l with sixDb := ts.sixDb }) a
  (side true (side false s)).retarget n false

/-- The transmitters of both sides take the presets that the training sets name (R89, R90). -/
def State.namedPresets (s : State) (n : Nat) (ts : TrainSet) : State :=
  let side := fun (inner : Bool) (a : State) =>
    forEach (a.sideLs n inner) (fun ls b => b.setPreset ls (b.sidePreset n inner ts)) a
  side true (side false s)

/-- The receiver preset hint for the receivers of a side (R90). -/
def State.sideHint (s : State) (n : Nat) (inner : Bool) (ts : TrainSet) : Option Nat :=
  if inner == s.uspInner n then ts.hintUsp else ts.hintDsp

/-- Phase 0: the transmitters take the presets that the training sets name, and the receivers will start from the hints given
(R90). -/
def State.phase0 (s : State) (n : Nat) (ts : TrainSet) : State :=
  let hints := fun (inner : Bool) (a : State) =>
    forEach (a.sideLs n inner) (fun ls b => b.modLane ls fun l => { l with hint := s.sideHint n inner ts }) a
  (hints true (hints false (s.namedPresets n ts))).wr F.PORT_EQ_STAT_RATE n (s.rate n)

/-- A compliance pattern names its rate, preset and de-emphasis: the transmitters use them (R53, R89; the rate is that of the
set, log entry 99). -/
def State.compliance (s : State) (n : Nat) (ts : TrainSet) : State :=
  let s := if s.rate n = ts.rate then s else (s.wr F.PORT_LINK_STAT_RATE n ts.rate).inc F.PORT_TRN_CNT_SPEED n
  (forEach (s.portLs n) (fun ls a => a.modLane ls fun l => { l with rate := ts.rate, comp := false, sixDb := ts.sixDb })
    s).namedPresets n ts

/-! Holding a transition (R93, R112, R162, R163, R167) -/

/-- States between which an attempt or fallback holds the outer segment. -/
def heldFrom (c : Nat) : Bool := [0x10, 0x11, 0x12, 0x15].contains c

/-- The side on which the device keeps the current phase, where the transition is held: the upstream segment while the USP
executes phase 2, the downstream segment while the DSP executes phase 3, the outer one during an attempt or fallback. -/
def State.heldSide (s : State) (n new : Nat) : Option Bool :=
  let p := s.port n
  let old := s.ltssm n
  let on := new == 0x10 || new == 0x11 || new == 0x12 || new == 0x08 || new == 0x16 || new == 0x17
  if new = old then none
  else if p.attempt ≠ .none ∧ heldFrom old ∧ on then some false
  else if old = 0x16 ∧ new = 0x17 ∧ (p.exec (s.uspInner n)).isSome then some (s.uspInner n)
  else if old = 0x17 ∧ new ≠ 0x16 ∧ new ≠ 0 ∧ (p.exec (!s.uspInner n)).isSome then some (!s.uspInner n)
  else none

/-- The device keeps sending on the side held: its own TS1 in a Recovery without phases, else the current phase with the
hold indication. -/
def State.keepPhase (s : State) (n : Nat) (side : Bool) : State :=
  if [0x15, 0x16, 0x17].contains (s.ltssm n) then s.emit (.holdPhase n side) else s.emit (.ts1 n side)

/-! A training set -/

/-- What the port does on the entry to a state (R89). -/
def State.onEntry (s : State) (n old : Nat) (ts : TrainSet) : State :=
  if ts.state = 0x13 then s.speedChange n ts
  else if ts.state = 0x14 then s.phase0 n ts
  else if ts.state = 0x16 then s.startExec n (s.uspInner n)
  else if ts.state = 0x17 then s.startExec n (!s.uspInner n)
  else if ts.state = 0x18 then s.linkDown n 4
  else if ts.state = 0x19 then s.linkDown n 5
  else if ts.state = 0x08 then
    s.modPort n fun p => { p with reachedL0 := true, noted := none, down := none, attrRun := false }
  else if ts.state = 0x10 ∧ old = 0x13 ∧ (s.port n).attempt = .lock false then
    (s.modPort n fun p => { p with attempt := .lock true }).emit (.ts1 n false)
  else if ts.state = 0x05 ∧ old = 0x03 then
    (s.modPort n fun p => { p with configSeen := true }).seekAssociation n
  else s

/-- Rows end where a Recovery that keeps the rate trains to a width whose flit time exceeds 8 ns (R166, R167). -/
def State.widthFallback (s : State) (n : Nat) (ts : TrainSet) : State :=
  if ts.state = 0x11 ∧ (s.port n).innerComp ∧ s.associated n ∧ ¬rowsFit (s.rd F.PORT_LINK_STAT_WIDTH n) (s.rate n) then
    s.recoveryFallback n 6
  else s

/-- A transition to a new state: the old one is left, the new one entered and reported (R89). -/
def State.moveTo (s : State) (n : Nat) (ts : TrainSet) : State :=
  let old := s.ltssm n
  let s := s.leaveL0 n
  let s := if old = 0x15 ∨ old = 0x16 ∨ old = 0x17 then s.endAdapt n else s
  let s := if 0x14 ≤ old ∧ old ≤ 0x17 ∧ (ts.state = 0x10 ∨ ts.state = 0x11 ∨ ts.state = 0x12 ∨ ts.state = 0x08) then
      s.leaveEq n old else s
  let keep := ts.state = 0x16 ∨ ts.state = 0x17
  let s := if keep then s else s.modPort n fun p => { p with execO := none, execI := if p.attempt = .ceq then p.execI else none }
  let s := s.modPort n fun p => { p with heldPhase := none }
  let s := if isRecovery ts.state ∧ ¬isRecovery old then s.enterRecovery n else s
  let s := s.onEntry n old ts
  (s.setLtssm n ts.state).adaptPort n

/-- A quad is ungated, its PLLs are locked and its start-up calibration has ended (R282). -/
def State.quadReady (s : State) (q : Nat) : Bool :=
  !s.quadGated q && s.flag F.QUAD_STAT_PLL_O_LOCK q && s.flag F.QUAD_STAT_PLL_I_LOCK q && !(s.cal q).need
    && !((s.cal q).startup && s.rd F.PWR_CAL_STAT_STATE q != 0)

/-- The clocks and quads of a port run (R30, R255, R282). -/
def State.portClocked (s : State) (n : Nat) : Bool :=
  s.coreRuns && (s.portLanes n).all fun l => s.quadReady (l / 4)

/-- The port follows training sets: clocked, not in reset, presence wait or timeout idle, not while the device holds every
transmitter, and in Detect only where a lane has a receiver on both sides (R86, R89, R255, R376, R382). -/
def State.follows (s : State) (n : Nat) : Bool :=
  let c := s.ltssm n
  s.portClocked n && c != 0x1F && c != 0x1D && c != 0x1C && !s.safe && !s.flag F.SUMP_QSTOP_STAT_QUIESCED 0
    && (decide (c > 1) || ((s.port n).foundO &&& (s.port n).foundI) != 0)

/-- A set that the device lets through: learned from, acted on and forwarded. -/
def State.takeSet (s : State) (n : Nat) (ts : TrainSet) : State :=
  if ts.state = 0 then (if s.ltssm n ≤ 1 then s else (s.abandonPortSpares n).downToDetect n 9)
  else
    let s := if s.ltssm n = ts.state then s else s.moveTo n ts
    let s := (((s.learnPos n ts).learnPolarity n ts).learnWidth n ts).learnFlit n ts
    let s := s.widthFallback n ts
    let s := if ts.state = 0x04 then s.compliance n ts else s
    -- a fallback at a Recovery has stopped forwarding: TS1 goes outward, nothing inward (R167)
    if (s.port n).attempt = .fbStop then s.emit (.ts1 n false)
    else if ts.state = 0x13 then s.sendSet n ts
    else if (s.port n).attempt ≠ .none ∧ s.ltssm n = 0x10 ∧ ts.inner then s.emit (.ts1 n false)
    else s.forwardSet n ts

/-- A training set during a retrain: TS1 goes out on both sides until both link ends are in Recovery.RcvrLock (R112). -/
def State.retrainSet (s : State) (n : Nat) (ts : TrainSet) : State :=
  if ts.state = 0 ∨ ts.state = 0x18 ∨ ts.state = 0x19 then
    (s.modPort n fun p => { p with retraining := false, retrO := false, retrI := false }).takeSet n ts
  else if ts.state = 0x10 then
    let s := s.modPort n fun p => if ts.inner then { p with retrI := true } else { p with retrO := true }
    if (s.port n).retrO ∧ (s.port n).retrI then
      (s.modPort n fun p => { p with retraining := false, retrO := false, retrI := false }).takeSet n ts
    else s.emit (.ts1 n (!ts.inner))
  else s.emit (.ts1 n (!ts.inner))

/-- A training set arrives (R85 to R97). -/
def State.trainSet (s : State) (n : Nat) (ts : TrainSet) : State :=
  if !s.follows n then s
  else if (s.port n).retraining then s.retrainSet n ts
  else match s.heldSide n ts.state with
    | some side => (s.modPort n fun p => { p with heldPhase := some ts }).keepPhase n side
    | none => s.takeSet n ts

/-- A hold has ended: the transition held back takes place (R93, R162, R164). -/
def State.releaseHeld (s : State) (n : Nat) : State :=
  match (s.port n).heldPhase with
  | some ts => (s.modPort n fun p => { p with heldPhase := none }).trainSet n ts
  | none => s

/-! The entry attempt goes on (R162 to R165) -/

/-- The attempt or fallback ends, and its hold with it. -/
def State.endAttempt (s : State) (n : Nat) : State :=
  (s.modPort n fun p => { p with attempt := .none, ownLock := false, peerLock := false, ownCeq := false, peerCeq := false }).releaseHeld n

/-- The lock test has been passed: companion equalization follows where the link ends skipped equalization and nothing is
stored (R162, R163). -/
def State.lockPassed (s : State) (n : Nat) : State :=
  if (s.port n).attempt = .lock true ∧ ¬s.innerStored n then
    (s.modPort n fun p => { p with attempt := .ceq, ownCeq := false }).startExec n true
  else s.endAttempt n

/-- After a lock or a LOCK_RPT: the device reports its own lock, and the test or hold ends where both hold. -/
def State.lockProgress (s : State) (n : Nat) : State :=
  let s := s.reportLock n
  match (s.port n).attempt with
  | .lock _ => if s.bothLocked n then s.lockPassed n else s
  | .fbHold => if s.bothLocked n then s.endAttempt n else s
  | .fbStop => if s.bothLocked n then s.endAttempt n else s
  | _ => s

/-- Companion equalization is over: without a scored trial the result is a fallback with cause 5 (R163). -/
def State.ceqOver (s : State) (n : Nat) : State :=
  if s.rd (F.trials true) n = 0 then s.attemptFallback n 5 else s.endAttempt n

/-- The device ends its companion equalization (R163). -/
def State.ownCeqEnd (s : State) (n : Nat) (scored : Nat) : State :=
  let s := (s.csbSend 0x21 0 [n, b2n (scored == 0)]).modPort n fun p => { p with ownCeq := true, execI := none }
  if (s.port n).peerCeq then s.ceqOver n else s

/-- The peer has ended its own (R163). -/
def State.peerCeqEnd (s : State) (n : Nat) : State :=
  if (s.port n).attempt = .ceq ∨ (s.port n).attempt = .lock true then
    let s := s.modPort n fun p => { p with peerCeq := true }
    if (s.port n).attempt = .ceq ∧ (s.port n).ownCeq then s.ceqOver n else s
  else s

/-! Execution mode (R91, R92) -/

/-- A Phrase engine of the port's quads is halted, so that its trials stop (R92). -/
def State.trialsHalted (s : State) (n : Nat) : Bool :=
  (s.portLanes n).any fun l => s.flag F.PHR_STAT_HALTED (l / 4)

/-- A pseudo port leaves Execution mode with a result code (R91, R92, R118). -/
def State.endExec (s : State) (n : Nat) (inner : Bool) (result : Nat) : State :=
  match (s.port n).exec inner with
  | none => s
  | some e =>
    let s := match e.best with
      | some b => s.emit (.eqRequest n inner b.1)
      | none => s
    let s := (s.wr (F.result inner) n result).modPort n fun p => p.setExec inner none
    if inner ∧ (s.port n).attempt = .ceq then s.ownCeqEnd n e.scored else s.releaseHeld n

/-- The better of two settings: the lower error. -/
def betterTrial (best : Option (CoefReq × Nat)) (c : CoefReq) (v : Nat) : Option (CoefReq × Nat) :=
  match best with
  | none => some (c, v)
  | some b => if v < b.2 then some (c, v) else some b

/-- The drips that a trial dwells (R91, R118). -/
def State.dwell (s : State) (n : Nat) : Nat := max (s.rd F.PORT_EQ_CFG_DWELL n) 16

/-- The limit of trials (R91, R118). -/
def State.trialLimit (s : State) (n : Nat) : Nat := max (s.rd F.PORT_EQ_CFG_MAX_TRIALS n) 1

/-- The search tries presets only: SEARCH = 1, and companion equalization (R91, R118, R163). -/
def State.presetsOnly (s : State) (n : Nat) (inner : Bool) : Bool :=
  s.rd F.PORT_EQ_CFG_SEARCH n == 1 || (inner && (s.port n).attempt == .ceq)

/-- The progress of a trial that has ended: counted, and the better setting kept. -/
def Exec.scoredTrial (e : Exec) (score : Option Nat) (again : Bool) : Exec :=
  { e with
    trials := e.trials + 1
    scored := e.scored + b2n score.isSome
    best := match score with
      | some v => betterTrial e.best e.cur v
      | none => e.best
    repeated := again }

/-- What the search tries next: each preset of the rate once, then, unless it tries presets only, the next step toward a lower
error; none where the search is over (R91). -/
def Exec.next (e : Exec) (presetsOnly : Bool) (step : Option CoefReq) : Option (CoefReq × List Nat) :=
  match e.untried with
  | p :: rest => some (.preset p, rest)
  | [] => if presetsOnly then none else step.map fun c => (c, [])

/-- A trial's dwell ends (R91): a trial without a score is repeated once, and else the search goes on or ends. A trial that has
not dwelt as long as DWELL asks has not ended. -/
def State.trialEnd (s : State) (n : Nat) (inner : Bool) (tr : Trial) : State :=
  match (s.port n).exec inner with
  | none => s
  | some e =>
    if s.trialsHalted n ∨ tr.dwelt < s.dwell n then s
    else
      let again := tr.score.isNone && !e.repeated && decide (e.trials + 1 < s.trialLimit n)
      let e := e.scoredTrial tr.score again
      let put := fun (a : State) (x : Exec) => (a.wr (F.trials inner) n (min x.scored 255)).modPort n fun p => p.setExec inner (some x)
      if again then (put s e).emit (.eqRequest n inner e.cur)
      else if e.trials ≥ s.trialLimit n then (put s e).endExec n inner 1
      else match e.next (s.presetsOnly n inner) tr.step with
        | some (c, rest) => (put s { e with cur := c, untried := rest }).emit (.eqRequest n inner c)
        | none => (put s e).endExec n inner 1

/-- The Execution-mode timer expires (R92). Companion equalization has a limit of its own (R163). -/
def State.execTimeout (s : State) (n : Nat) (inner : Bool) : State :=
  if inner ∧ (s.port n).attempt = .ceq then s
  else match (s.port n).exec inner with
    | none => s
    | some e => s.endExec n inner (if e.scored = 0 then 3 else 2)

/-- CEQ_TMO ends companion equalization: the best setting scored is requested; a lock test still under way within the same
limit has failed (R163). -/
def State.ceqTimeout (s : State) (n : Nat) : State :=
  match (s.port n).attempt with
  | .ceq =>
    let s := match (s.port n).execI with
      | none => s
      | some e =>
        let s := match e.best with
          | some b => s.emit (.eqRequest n true b.1)
          | none => s
        ((s.wr (F.result true) n 2).csbSend 0x21 0 [n, b2n (e.scored == 0)]).modPort n fun p =>
          { p with ownCeq := true, execI := none }
    s.ceqOver n
  | .lock true => if s.innerStored n then s else s.attemptFallback n 5
  | _ => s

/-- A lane-side's transmitter is in a Forwarding-mode phase: the DSP's in phase 2, the USP's in phase 3, and the inner one
during companion equalization (R90, R94, R163). -/
def State.takesRequests (s : State) (n ls : Nat) : Bool :=
  let inner := decide (32 ≤ ls)
  let usp := inner == s.uspInner n
  (s.ltssm n == 0x16 && !usp) || (s.ltssm n == 0x17 && usp) || (inner && (s.port n).attempt == .ceq)

/-- A coefficient or preset request is applied, or rejected (R52, R54, R94). -/
def State.coefRequest (s : State) (ls : Nat) (req : CoefReq) : State :=
  match s.portOfLs ls with
  | none => s
  | some n =>
    if !s.takesRequests n ls then s
    else if s.flag F.LANE_TX_CTL_OVR ls then s.emit (.eqAnswer ls false)
    else match req with
      | .preset p =>
        if Config.presetDefined (s.presetRate ls) p then (s.setPreset ls p).emit (.eqAnswer ls true)
        else s.emit (.eqAnswer ls false)
      | .coefs a b c d =>
        if coefsLegal (s.presetRate ls) a b c d then
          (s.setCoefs ls 0xF (a + 64 * b + 4096 * c + 262144 * d)).emit (.eqAnswer ls true)
        else s.emit (.eqAnswer ls false)

/-! Retrain, L0p, L1 and the down states (R89, R99 to R101, R110 to R112) -/

/-- A retrain is carried out (R112); answers whether the port was in L0 or L0p. -/
def State.retrain (s : State) (n : Nat) : Bool × State :=
  if s.ltssm n ≠ 8 then (false, s)
  else
    let s := ((s.leaveL0 n).setLtssm n 0x10).enterRecovery n
    let s := s.modPort n fun p => { p with retraining := true, retrO := false, retrI := false }
    (true, ((s.adaptPort n).emit (.ts1 n false)).emit (.ts1 n true))

/-- The lanes that an active width leaves out, by lane offset (R99). -/
def State.offFor (s : State) (n width : Nat) : Nat :=
  (s.trainedOffs n).foldl (fun a i =>
    if s.rd F.LANE_RX_STAT_LOGICAL (outerLs (firstLane n + i)) ≥ width then a + 2 ^ i else a) 0

/-- A lane-side that L0p turns off, or on again (R99). A lane turned on acquires from its kept values at its first symbol. -/
def State.l0pLane (s : State) (off : Bool) (ls : Nat) : State :=
  if off then (s.setTx false ls).laneIdle ls else s.setTx true ls

/-- A sparing procedure of a lane that L0p turns off is abandoned (R180). -/
def State.l0pSpare (s : State) (n off : Nat) : State :=
  forUp 2 (fun h a =>
    let l := a.spareLane h
    if a.spareState h ≥ 2 ∧ a.portOfLane l = some n ∧ bit off (l - firstLane n) then a.abandonSpare h 6 true else a) s

/-- An agreed L0p width change (R99, R100). -/
def State.l0p (s : State) (n width : Nat) : State :=
  if s.ltssm n ≠ 8 ∨ ¬s.flag F.PORT_CFG_L0P_EN n ∨ width > s.rd F.PORT_LINK_STAT_WIDTH n then s
  else if (s.port n).innerComp ∧ s.associated n ∧ ¬rowsFit width (s.rate n) then
    (s.retrain n).2.recoveryFallback n 6
  else
    let was := (s.port n).offLanes
    let off := s.offFor n width
    let s := (s.l0pSpare n off).wr F.PORT_LINK_STAT_AWIDTH n width
    let s := s.modPort n fun p => { p with offLanes := off }
    forUp (s.width n) (fun i a =>
      if bit was i = bit off i then a
      else (a.l0pLane (bit off i) (outerLs (firstLane n + i))).l0pLane (bit off i) (a.innerOf (firstLane n + i))) s

/-- L1: both sides idle, receivers in IDLE with their values kept (R101). -/
def State.l1Entry (s : State) (n : Nat) : State :=
  if s.ltssm n ≠ 8 then s
  else
    let s := ((s.leaveL0 n).portTx n false).setLtssm n 0x0A
    forEach (s.portLs n) (fun ls a => a.laneIdle ls) s

/-- A lane leaves electrical idle on one side: the exit starts on the same lane of the other (R101). -/
def State.l1Exit (s : State) (n : Nat) (inner : Bool) (lane : Nat) : State :=
  let o := if inner then outerLs lane else s.innerOf lane
  if s.ltssm n = 0x0A ∧ (s.sendLs n (!inner)).contains o then s.setTx true o else s

/-- The training watchdog (R110). -/
def State.watchdog (s : State) (n : Nat) : State :=
  let c := s.ltssm n
  if c = 2 ∨ c = 3 ∨ c = 5 ∨ isRecovery c then
    let s := (s.inc F.PORT_LDN_CNT_WDOG n).linkDown n 10
    ((((s.portTx n false).termsOff n).forgetLink n).setLtssm n 0x1C).retarget n false
  else s

/-- Unannounced electrical idle on one side (R111): the cause is noted, the other side goes idle, and the stream ends. -/
def State.unannounced (s : State) (n : Nat) (inner : Bool) : State :=
  if s.ltssm n = 8 ∨ isRecovery (s.ltssm n) then
    let s := if (s.port n).reachedL0 ∧ (s.port n).down = none then s.noteCause n (if inner then 8 else 7) else s
    let s := s.streamEnd n
    let s := forEach (s.sideLs n inner) (fun ls a => a.laneIdle ls) s
    forEach (s.sideLs n (!inner)) (fun ls a => a.setTx false ls) s
  else s

/-- Bits of a list of lane offsets. -/
def offBits (l : List Nat) (w : Nat) : Nat := (List.range w).foldl (fun a i => if l.contains i then a + 2 ^ i else a) 0

/-- Receiver detection runs again (R86, R106): in Detect, until 12 repeats after both sides of a lane were first found. -/
def State.detect (s : State) (n : Nat) (outer inner : List Nat) : State :=
  let p := s.port n
  if s.ltssm n > 1 ∨ !s.portClocked n ∨ s.safe ∨ s.flag F.SUMP_QSTOP_STAT_QUIESCED 0 ∨ p.detectRetries > 12 then s
  else
    let o := p.foundO ||| offBits outer (s.width n)
    let i := p.foundI ||| offBits inner (s.width n)
    let both := o &&& i ≠ 0
    let s := forUp (s.width n) (fun k a =>
      let a := if bit i k ∧ ¬bit p.foundI k then a.emit (.term (outerLs (firstLane n + k)) true) else a
      if bit o k ∧ ¬bit p.foundO k then a.emit (.term (a.innerOf (firstLane n + k)) true) else a) s
    let s := s.modPort n fun q => { q with foundO := o, foundI := i, detectRetries := if both then q.detectRetries + 1 else 0 }
    if s.ltssm n = 0 then s.setLtssm n 1 else s

/-! Commands -/

/-- DETECT_RETRY (R86). -/
def execDetectRetry (port : Nat) (outer inner : List Nat) (s : State) : Res :=
  effect (Wf.detectRetry port outer inner) s fun s => s.detect port outer inner

/-- TRAINING_SET (R85). -/
def execTrainingSet (port : Nat) (ts : TrainSet) (s : State) : Res :=
  effect (Wf.trainingSet port ts) s fun s => s.trainSet port ts

/-- COEFFICIENT_REQUEST (R94). -/
def execCoefficientRequest (ls : Nat) (req : CoefReq) (s : State) : Res :=
  effect (Wf.coefficientRequest ls req) s fun s => s.coefRequest ls req

/-- EQ_TRIAL_END (R91). -/
def execEqTrialEnd (port : Nat) (inner : Bool) (tr : Trial) (s : State) : Res :=
  effect (Wf.eqTrialEnd port inner tr) s fun s => s.trialEnd port inner tr

/-- EXEC_TMO (R92). -/
def execExecTmo (port : Nat) (inner : Bool) (s : State) : Res :=
  effect (Wf.execTmo port inner) s fun s => s.execTimeout port inner

/-- CDR_LOCK (R50, R90, R162, R164): a lane-side that locks may start to adapt, and may complete a lock test or a hold. -/
def execCdrLock (ls : Nat) (s : State) : Res :=
  effect (Wf.cdrLock ls) s fun s =>
    let s := (s.cdrLocked ls).startAdapt ls
    match s.portOfLs ls with
    | some n => if 32 ≤ ls then s.lockProgress n else s
    | none => s

/-- L0P_TRANSITION (R99). -/
def execL0pTransition (port width : Nat) (s : State) : Res :=
  effect (Wf.l0pTransition port width) s fun s => s.l0p port width

/-- L1_ENTRY (R101, R103). -/
def execL1Entry (port : Nat) (s : State) : Res := effect (Wf.l1Entry port) s fun s => s.l1Entry port

/-- L1_EXIT (R101). -/
def execL1Exit (port : Nat) (inner : Bool) (s : State) (lane : Nat := 0) : Res :=
  effect (Wf.l1Exit port inner lane) s fun s => s.l1Exit port inner lane

/-- HOT_RESET (R89): electrical idle after the forwarded Hot Reset training sets. -/
def execHotReset (port : Nat) (inner : Bool) (s : State) : Res :=
  effect (Wf.hotReset port inner) s fun s => if s.ltssm port = 0x18 then s.enterDetect port else s

/-- DISABLED_EXIT (R89). -/
def execDisabledExit (port : Nat) (inner : Bool) (s : State) : Res :=
  effect (Wf.disabledExit port inner) s fun s => if s.ltssm port = 0x19 then s.enterDetect port else s

/-- TRAINING_WATCHDOG (R110). -/
def execTrainingWatchdog (port : Nat) (s : State) : Res :=
  effect (Wf.trainingWatchdog port) s fun s => s.watchdog port

/-- TIMEOUT_IDLE_END (R110). -/
def execTimeoutIdleEnd (port : Nat) (s : State) : Res :=
  effect (Wf.timeoutIdleEnd port) s fun s => if s.ltssm port = 0x1C then s.enterDetect port else s

/-- UNANNOUNCED_IDLE (R111). -/
def execUnannouncedIdle (port : Nat) (inner : Bool) (s : State) : Res :=
  effect (Wf.unannouncedIdle port inner) s fun s => s.unannounced port inner

/-- PORT_CTL.RETRAIN (R112). -/
def execPortCtlRetrain (r : Requester) (port : Nat) (s : State) : Res :=
  effect (Wf.portCtlRetrain r port) s fun s => s.viaCore r fun s => (s.retrain port).2

end Sys2Proof.Machine
end

