-- ==== Sys2Proof/Machine/Ports.lean ====
section
/-! DEFINITION. Enabling, resetting and holding ports (R43, R44, R106, R107, R113, R115, R120), and the resets of quads and
the Phrase engines as management sees them (R42, R71, R72, R83). -/
namespace Sys2Proof.Machine

/-! Port resets -/

/-- A port reset of a present port (R44); sparing procedures of the port are abandoned as it leaves L0 (R180). The
lane-sides of a disabled port go on with a pattern test (R68). -/
def State.resetPort (s : State) (n cause hold : Nat) : State :=
  if s.present n then
    let s := (s.abandonPortSpares n).portReset n cause hold
    forEach (s.portLs n) (fun ls a => a.patternTx ls) s
  else s

/-- The state that a port reset holds an enabled port in: PRESENCE_WAIT where the accepted level says the slot is empty, else
RESET (R44, R107). -/
def State.holdState (s : State) (n : Nat) : Nat := if s.portEn n && s.slotEmpty n && s.mayRun n then 0x1D else 0x1F

/-- PORT_CTL.EN is written (R115); pattern checkers of its lanes stop (R68). An absent port is held disabled (R9): the write
does nothing, and EN reads 0 (DESIGN CHOICE, log entry 51). -/
def State.enablePort (s : State) (n : Nat) (en : Bool) : State :=
  if !s.present n ∨ s.flag F.PORT_CTL_EN n = en then s
  else if en then
    let s := ((s.setF F.PORT_CTL_EN n).portTx n false).lanesOn n
    (forEach (s.portLs n) (fun ls a => a.dropPrbsLock ls) s).leaveReset n
  else (s.clr F.PORT_CTL_EN n).resetPort n 3 0x1F

/-- PORT_CTL.RST (R44). -/
def State.rstPort (s : State) (n : Nat) : State := s.resetPort n 2 (s.holdState n)

/-- The settling of a port reset ends: what the bucket cache still holds is lost, RSTDONE sets, and the port goes on where
nothing holds it (R44). -/
def State.portResetDone (s : State) (n : Nat) : State :=
  if s.flag F.PORT_STAT_RSTDONE n then s
  else ((s.dropCache n).setF F.PORT_STAT_RSTDONE n).leaveReset n

/-- The filtered level of PERST_Nn changes; a reset that its fall starts initializes the change flag (R106, R120). -/
def State.perst (s : State) (n : Nat) (low : Bool) : State :=
  if s.flag F.PORT_HP_STAT_PERST n = low then s
  else
    let s := (s.wrB F.PORT_HP_STAT_PERST n low).setF F.PORT_HP_STAT_PERST_CHG n
    if !s.flag F.PORT_CFG_PERST_EN n then s
    else if low then s.resetPort n 1 0x1F
    else s.leaveReset n

/-- The accepted presence level acts on a port (R107): an empty slot holds it, a card lets it train. -/
def State.presenceActs (s : State) (n : Nat) : State :=
  if !s.flag F.PORT_CFG_PRSNT_EN n then s
  else if !s.flag F.PORT_HP_STAT_PRSNT n then s.resetPort n 6 (s.holdState n)
  else s.leaveReset n

/-- A presence level is accepted (R107, R120). Where an empty slot starts a port reset, that reset initializes PRSNT_CHG too
(DEDUCED, log entry 40). -/
def State.presence (s : State) (n : Nat) (high : Bool) : State :=
  if s.flag F.PORT_HP_STAT_PRSNT n = !high then s
  else ((s.wrB F.PORT_HP_STAT_PRSNT n (!high)).setF F.PORT_HP_STAT_PRSNT_CHG n).presenceActs n

/-- PORT_CTL_EN (R115). -/
def execPortCtlEn (r : Requester) (port : Nat) (en : Bool) (s : State) : Res :=
  effect (Wf.portCtlEn r port en) s fun s => s.viaCore r fun s => s.enablePort port en

/-- PORT_CTL.RST (R44). -/
def execPortCtlRst (r : Requester) (port : Nat) (s : State) : Res :=
  effect (Wf.portCtlRst r port) s fun s => s.viaCore r fun s => s.rstPort port

/-- PORT_RESET_DONE (R44). -/
def execPortResetDone (port : Nat) (s : State) : Res := effect (Wf.portResetDone port) s fun s => s.portResetDone port

/-- PERST_ASSERT (R106). -/
def execPerstAssert (port : Nat) (s : State) : Res := effect (Wf.perstAssert port) s fun s => s.perst port true

/-- PERST_RELEASE (R106). -/
def execPerstRelease (port : Nat) (s : State) : Res := effect (Wf.perstRelease port) s fun s => s.perst port false

/-- PRESENCE_ACCEPTED (R107). -/
def execPresenceAccepted (port : Nat) (high : Bool) (s : State) : Res :=
  effect (Wf.presenceAccepted port high) s fun s => s.presence port high

/-- PRSNT_LEVEL_CHANGE (R107): the debounce starts with the new level. -/
def execPrsntLevelChange (port : Nat) (high : Bool) (s : State) : Res :=
  effect (Wf.prsntLevelChange port high) s fun s => s.modPort port fun p => { p with prsntHigh := high }

/-- PORT_CTL.CNT_CLR (R115, R119, R120). -/
def State.clrPortCnt (s : State) (n : Nat) : State :=
  s.clrAll [F.PORT_LDN_CNT_WDOG, F.PORT_LDN_CNT_ATTR, F.PORT_LDN_CNT_ALL, F.PORT_TRN_CNT_RECOV, F.PORT_TRN_CNT_SPEED,
    F.PORT_TRN_CNT_EQ] n

/-- PORT_CTL.CNT_CLR (R115, R119, R120). -/
def execPortCtlCntClr (r : Requester) (port : Nat) (s : State) : Res :=
  effect (Wf.portCtlCntClr r port) s fun s => s.viaCore r fun s => s.clrPortCnt port

/-- A write of PORT_BIND.TAG (R12, R113): refused while the port is enabled where it would change the tag; GEN counts the
writes that change it. -/
def State.bindTag (s : State) (req n tag : Nat) : State :=
  if s.rd F.PORT_BIND_TAG n = tag then s
  else if s.portEn n then s.refuse F.GLB_WERR_PORT req (0x10048 + n * 0x1000)
  else (s.wr F.PORT_BIND_TAG n tag).incWrap F.PORT_BIND_GEN n

/-- PORT_BIND_TAG_WRITE (R113). -/
def execPortBindTagWrite (r : Requester) (port tag : Nat) (s : State) : Res :=
  effect (Wf.portBindTagWrite r port tag) s fun s => s.viaCore r fun s => s.bindTag (reqCode r) port tag

/-! Quads and Phrase engines -/

/-- The lane-sides of a quad (R70). -/
def quadLs (q : Nat) : List Nat := (List.range 4).map (fun k => 4 * q + k) ++ (List.range 4).map (fun k => 32 + 4 * q + k)

/-- The status of a lane-side returns to its reset values: all but the slice replacements, which last (R39, R48). -/
def State.resetLaneStatus (s : State) (ls : Nat) : State :=
  let on := s.rd F.LANE_RX_STAT_ASTATE ls != 0
  let s := (s.endMargin ls).rstAll [F.LANE_RX_STAT_LOGICAL, F.LANE_RX_STAT_POL_DET, F.LANE_RX_STAT_CDR_LOCK,
    F.LANE_RX_STAT_SIGDET, F.LANE_RX_STAT_ASTATE, F.LANE_RX_EQ_FFE_P1, F.LANE_RX_EQ_FFE_M1, F.LANE_RX_EQ_DFE1,
    F.LANE_RX_EQ_CTLE, F.LANE_EQ_STAT_PRESET, F.LANE_EQ_STAT_CP1, F.LANE_EQ_STAT_C0, F.LANE_EQ_STAT_CM1,
    F.LANE_EQ_STAT_CM2, F.LANE_EB_STAT_LWM, F.LANE_EB_STAT_HWM, F.LANE_EB_STAT_FILL, F.LANE_PRBS_STAT_LOCK] ls
  let s := s.setPolarity ls
  if on then s.setAstate ls 1 else s

/-- Every byte of a range of the memories reads 0. -/
def State.zeroMem (s : State) (lo n : Nat) : State :=
  (s.putMem (s.mem.filter fun c => !(decide (lo ≤ c.1) && decide (c.1 < lo + n))))

/-- The ports with lanes in a quad are all held in port reset or disabled (R42). -/
def State.quadFree (s : State) (q : Nat) : Bool :=
  (s.quadPorts q).all fun n => !s.portEn n || s.ltssm n == 0x1F || s.ltssm n == 0x1D

/-- The lowest present lane of a half (R182). -/
def State.lowestLane (s : State) (h : Nat) : Option Nat :=
  (List.range 16).find? (fun k => (s.portOfLane (16 * h + k)).isSome) |>.map (· + 16 * h)

/-- The quad that a spare is calibrated with: that of the lane it serves, else that of its half's lowest present lane. -/
def State.spareQuad (s : State) (h : Nat) : Option Nat :=
  if s.spareState h ≥ 2 then some (s.spareLane h / 4)
  else if s.spareState h = 1 then (s.lowestLane h).map (· / 4) else none

/-- The lane-sides that a run of a quad covers (R288). -/
def State.calLs (s : State) (q : Nat) : List Nat :=
  quadLs q ++ ((List.range 2).filter fun h => s.spareQuad h == some q).map (· + 64)

/-- The calibration run of a quad is abandoned, on every lane-side it covers: elements out of service return with their old trim,
and ramps stop where they are (R288, R291). -/
def State.abandonCal (s : State) (q : Nat) : State :=
  let s := s.clrAll [F.PWR_CAL_STAT_STATE, F.PWR_CAL_STAT_PEND] q
  let s := s.modCal q fun c => { c with drips := 0, startup := false, req := false, overrun := false }
  forEach (s.calLs q) (fun ls a =>
    let a := if a.flag F.LANE_SLICE_STAT_MARG ls then a else a.wr F.LANE_SLICE_STAT_CALSLICE ls 0x7F
    a.modLane ls fun l => { l with
      ramps := [], calSlices := [], calLegs := 0, legTrim := false, sliceHalf := false, legHalf := false }) s

/-- A quad reset (R39, R42, R72, R296): the engine's run state, the live state of its data area and the lane status; the
program banks, their VALID bits and the configuration stay. -/
def State.quadReset (s : State) (req q : Nat) : State :=
  if !s.quadFree q then s.refuse F.GLB_WERR_QUAD req (0x20000 + q * 0x2000)
  else
    let s := (s.abandonCal q).clrAll [F.PHR_STAT_RUN, F.PHR_STAT_HALTED, F.PHR_STAT_LAST_CYC] q
    (forEach (quadLs q) (fun ls a => a.resetLaneStatus ls) s).zeroMem (0x106000 + q * 0x8000) 0x2000

/-- QUAD_CTL.RST (R42). -/
def execQuadCtlRst (r : Requester) (quad : Nat) (s : State) : Res :=
  effect (Wf.quadCtlRst r quad) s fun s => s.viaCore r fun s => s.quadReset (reqCode r) quad

/-- PHR_CTL.EN is written (R71, R83): with 1 the engine runs from the next drip and a halt ends; with 0 it stops. -/
def State.phraseEnable (s : State) (q : Nat) (en : Bool) : State :=
  let s := s.wrB F.PHR_CTL_EN q en
  if en then s.clr F.PHR_STAT_HALTED q else s.clr F.PHR_STAT_RUN q

/-- PHR_CTL_EN (R83). -/
def execPhrCtlEn (r : Requester) (quad : Nat) (en : Bool) (s : State) : Res :=
  effect (Wf.phrCtlEn r quad en) s fun s => s.viaCore r fun s => s.phraseEnable quad en

/-- PHR_WDOG.CLR (R83). -/
def State.clrPhrWdog (s : State) (q : Nat) : State := s.clrAll [F.PHR_WDOG_OVR_CNT, F.PHR_WDOG_MAX_CYC] q

/-- PHR_WDOG.CLR (R83). -/
def execPhrWdogClr (r : Requester) (quad : Nat) (s : State) : Res :=
  effect (Wf.phrWdogClr r quad) s fun s => s.viaCore r fun s => s.clrPhrWdog quad

/-- A phrase still running at cycle 900 (R71). -/
def State.phraseOverrun (s : State) (q : Nat) : State :=
  if !s.flag F.PHR_STAT_RUN q then s
  else
    let s := s.modCal q fun c => { c with overrun := true }
    let s := (((s.inc F.PHR_WDOG_OVR_CNT q).wr F.PHR_STAT_LAST_CYC q 900).wrMax F.PHR_WDOG_MAX_CYC q 900).raise 37 q 0
    if s.flag F.PHR_CTL_WD_HALT q then (s.setF F.PHR_STAT_HALTED q).clr F.PHR_STAT_RUN q else s

/-- PHRASE_OVERRUN (R71). -/
def execPhraseOverrun (quad : Nat) (s : State) : Res := effect (Wf.phraseOverrun quad) s fun s => s.phraseOverrun quad

/-- The phrase of a drip has ended in a number of cycles (R70, R83). -/
def State.phraseRan (s : State) (q cycles : Nat) : State :=
  let run := s.flag F.PHR_CTL_EN q && !s.flag F.PHR_STAT_HALTED q && !s.quadGated q
  let s := if s.flag F.PHR_STAT_RUN q then
      (s.wr F.PHR_STAT_LAST_CYC q cycles).wrMax F.PHR_WDOG_MAX_CYC q cycles
    else s
  s.wrB F.PHR_STAT_RUN q run

/-- The quad of an address of Phrase-engine memory, and the part of its memory: 0 bank A, 1 bank B, 2 the data area (R72). -/
def phrQuad (addr : Nat) : Nat := (addr - 0x100000) / 0x8000
def phrPart (addr : Nat) : Nat := (addr - 0x100000) % 0x8000 / 0x3000

/-- A management write to Phrase-engine memory (R72): the active bank and the data area of a running engine are protected, and
a write to a bank makes it invalid. -/
def State.phraseWrite (s : State) (req addr val : Nat) : State :=
  let q := phrQuad addr
  let region := phrPart addr
  if s.flag F.PHR_CTL_EN q ∧ (region = 2 ∨ region = s.rd F.PHR_STAT_ACT q) then s.refuse F.GLB_WERR_QUAD req addr
  else
    let s := s.wrWord32 addr val
    if region = 0 then s.clrAll [F.PHR_STAT_VALID_A, F.PHR_ID_ID_A] q
    else if region = 1 then s.clrAll [F.PHR_STAT_VALID_B, F.PHR_ID_ID_B] q
    else s

/-- PHRASE_MEMORY_WRITE (R72). -/
def execPhraseMemoryWrite (r : Requester) (addr val : Nat) (s : State) : Res :=
  effect (Wf.phraseMemoryWrite r addr val) s fun s => s.viaCore r fun s => s.phraseWrite (reqCode r) addr val

end Sys2Proof.Machine
end

