-- ==== Sys2Proof/Machine/Heat.lean ====
section
/-! DEFINITION. The commands of the access heat map (chapter 7): write-back, epochs and banks, clears, exports, and writes of
the windows. -/
namespace Sys2Proof.Machine

/-- The other bank (R230). -/
def State.otherBank (s : State) : Nat := 1 - s.liveBank

/-- Entry i lies in a range of entries, given by its first one and its length; indices wrap (R222, R223). -/
def inRange (r : Nat × Nat) (i : Nat) : Bool := decide ((i + 262144 - r.1) % 262144 < r.2)

/-- The entries of a partition. -/
def State.partRange (s : State) (p : Nat) : Nat × Nat := (s.rd F.HEAT_PRANGE_FIRST p, s.partLen p)

/-- Entry i of a bank lies in the range of an enabled partition (R222). -/
def State.inPart (s : State) (p i : Nat) : Bool := s.flag F.HEAT_PCTL_EN p && inRange (s.partRange p) i

/-- An entry that two enabled partitions share, or have shared since the reset: its contents, and every read of it, are
unpredictable (R223), until the condition is removed and the block is reset. -/
def State.sharedEntry (s : State) (zoom : Bool) (i : Nat) : Bool :=
  !zoom && (decide (1 < ((List.range 16).filter fun p => s.inPart p i).length)
    || s.shared.any fun r => inRange r.1 i && inRange r.2 i)

/-- A partition is enabled: the entries that it now shares with another one are noted (R223). -/
def State.noteShared (s : State) (p : Nat) : State :=
  let r := s.partRange p
  let others := ((List.range 16).filter fun k => k != p && s.flag F.HEAT_PCTL_EN k).map s.partRange
  let new := (others.filter fun q => inRange r q.1 || inRange q r.1).map fun q => (r, q)
  s.putShared (s.shared ++ new.filter fun x => !s.shared.contains x)

/-- What a read of an entry returns: a free value where it is shared (R223). -/
def State.readEntry (s : State) (zoom : Bool) (bank i : Nat) : Nat × State :=
  if s.sharedEntry zoom i then (s.free.1 % 2 ^ 32, s.free.2) else (s.rdWord32 (heatAddr zoom bank i), s)

/-- Write an entry; a shared one then holds a free value (R223). -/
def State.writeEntry (s : State) (zoom : Bool) (bank i v : Nat) : State :=
  if s.sharedEntry zoom i then s.free.2.wrWord32 (heatAddr zoom bank i) (s.free.1 % 2 ^ 32)
  else s.wrWord32 (heatAddr zoom bank i) v

/-! Write-back (R226 to R228) -/

/-- The read-modify-write of an entry with its pending increments (R226, R385). -/
def State.mergeEntry (s : State) (p : Nat) (c : CacheEnt) (ecc : Ecc) : State :=
  let s := match ecc with
    | .ok => s
    | .ce _ => s.eccCe (heatMem c.zoom c.bank) (heatWord c.zoom c.bank c.idx)
    | .ue _ => s.eccUe (heatMem c.zoom c.bank) (heatWord c.zoom c.bank c.idx)
  let old := if Ecc.isUe ecc then 0 else s.rdWord32 (heatAddr c.zoom c.bank c.idx)
  let r := entryAdd old (s.rd F.HEAT_PLFSR_STATE p) c.rd c.wr
  let s := if Ecc.isUe ecc then
      s.wrWord32 (heatAddr c.zoom c.bank (if c.idx % 2 = 0 then c.idx + 1 else c.idx - 1)) 0 else s
  (s.writeEntry c.zoom c.bank c.idx r.1).wr F.HEAT_PLFSR_STATE p r.2

/-- The oldest queued entry of a parser reaches its bank, and lookups that waited are served (R227). -/
def State.writeBack (s : State) (p : Nat) (ecc : Ecc) : State :=
  match (s.heat p).wbq with
  | [] => s
  | k :: t =>
    let s := match (s.heat p).cache.find? fun c => c.key == k with
      | some c => s.mergeEntry p c ecc
      | none => s
    s.modHeat p fun h => HeatP.drain 65 { h with wbq := t, cache := h.cache.filter fun c => c.key != k }

/-- CACHE_WRITE_BACK (R227). -/
def execCacheWriteBack (port : Nat) (ecc : Ecc) (s : State) : Res :=
  effect (Wf.cacheWriteBack port ecc) s fun s => if s.coreRuns then s.writeBack port ecc else s

/-! Releasing and clearing a bank (R234) -/

/-- The per-bank counters of a partition. -/
def F.bankCounters : List Fld := [F.HEAT_LOST_LOST, F.HEAT_UNMAP_UNMAP, F.HEAT_OPAQUE_OPAQUE, F.HEAT_FOVF_FOVF]

/-- A bank, its zoom-table half and its counters are cleared; the entries read 0 from the start of the clearing (log
entry 20). -/
def State.clearBank (s : State) (b : Nat) : State :=
  forUp 16 (fun p a => a.clrAll F.bankCounters (2 * p + b))
    ((s.zeroMem (heatAddr false b 0) 0x100000).zeroMem (heatAddr true b 0) 0x40000)

/-- The other bank enters CLEARING; exports not complete are abandoned (R234, R242). -/
def State.startClearing (s : State) : State :=
  ((forUp 16 (fun p a => a.abandonExport p) s).clearBank s.otherBank).wr F.HEAT_STAT_OSTATE 0 2

/-- A release of the other bank (R234). -/
def State.releaseBank (s : State) : State :=
  let o := s.rd F.HEAT_STAT_OSTATE 0
  if o = 1 then s.startClearing
  else if o = 0 then s.setF F.HEAT_STAT_REL_PEND 0
  else s

/-- HEAT_CTL.REL (R234). -/
def execHeatCtlRel (r : Requester) (s : State) : Res :=
  effect (Wf.heatCtlRel r) s fun s => s.viaCore r State.releaseBank

/-- AUTO_RELEASE: the bank is FROZEN and every export of it is complete or waiting (R243). -/
def execAutoRelease (s : State) : Res :=
  effect Wf.autoRelease s fun s =>
    if s.flag F.HEAT_CFG_AUTO_REL 0 && s.rd F.HEAT_STAT_OSTATE 0 == 1 && (List.range 16).all (fun p =>
        !s.flag F.HEAT_EXP_STAT_ACTIVE p || s.flag F.HEAT_EXP_STAT_WAIT p)
    then s.startClearing else s

/-- CLEAR_END (R234). -/
def execClearEnd (s : State) : Res :=
  effect Wf.clearEnd s fun s => if s.rd F.HEAT_STAT_OSTATE 0 = 2 then s.wr F.HEAT_STAT_OSTATE 0 3 else s

/-! The end of FLUSHING, and exports (R233, R241) -/

/-- Nothing of a bank waits in a parser. -/
def State.flushed (s : State) (b : Nat) : Bool :=
  (List.range 16).all fun p => !((s.heat p).cache.any (·.bank == b) || (s.heat p).queue.any (·.bank == b))

/-- The zoom windows that an export of partition p takes in (R241). -/
def State.exportZooms (s : State) (p : Nat) : List Nat :=
  (List.range 16).filter fun z =>
    s.flag F.HEAT_ZCTL_EN z && s.rd F.HEAT_ZCFG_PORT z == p && s.flag F.HEAT_ZCFG_EXPORT z

/-- The export of a partition starts with its configuration latched, or waits for rows (R241, R242). -/
def State.startExport (s : State) (p : Nat) : State :=
  let seg := s.rd F.CMP_PORT_STAT_SEG p
  if !(s.flag F.HEAT_PCTL_EN p && s.flag F.HEAT_PCFG_EXPORT p && (seg == 2 || seg == 3)) then s
  else
    let b := s.otherBank
    let s := s.clrAll [F.HEAT_EXP_STAT_ZPH, F.HEAT_EXP_STAT_ZWIN, F.HEAT_EXP_STAT_NEXT] p
    let s := (s.wr F.HEAT_EXP_STAT_EPOCH p (s.rd F.HEAT_BANK_EPOCH_EPOCH b)).setF F.HEAT_EXP_STAT_ACTIVE p
    let s := s.wrB F.HEAT_EXP_STAT_WAIT p !(s.port p).rows
    s.modHeat p fun h => { h with
      exBank := b, exFirst := s.rd F.HEAT_PRANGE_FIRST p, exLen := s.partLen p, exZooms := s.exportZooms p, chunk := none }

/-- FLUSHING ends: the bank is FROZEN and its exports start, or a release that waited takes effect (R233, R234, R241). -/
def State.flushEnd (s : State) : State :=
  if s.rd F.HEAT_STAT_OSTATE 0 ≠ 0 ∨ !s.flushed s.otherBank then s
  else if s.flag F.HEAT_STAT_REL_PEND 0 then
    ((s.clr F.HEAT_STAT_REL_PEND 0).clearBank s.otherBank).wr F.HEAT_STAT_OSTATE 0 2
  else (forUp 16 (fun p a => a.startExport p) (s.wr F.HEAT_STAT_OSTATE 0 1)).expBusy

/-- FLUSH_END (R233). -/
def execFlushEnd (s : State) : Res := effect Wf.flushEnd s fun s => if s.coreRuns then s.flushEnd else s

/-- The entries of the next chunk of an export: memory, and entry number, none past the end (R198). -/
def State.chunkEntries (s : State) (p : Nat) : List (Option (Bool × Nat)) :=
  let h := s.heat p
  let c := s.rd F.HEAT_EXP_STAT_NEXT p
  (List.range 60).map fun k =>
    if s.flag F.HEAT_EXP_STAT_ZPH p then
      (if 60 * c + k < 4096 then some (true, 4096 * s.rd F.HEAT_EXP_STAT_ZWIN p + 60 * c + k) else none)
    else if 60 * c + k < h.exLen then some (false, (h.exFirst + 60 * c + k) % 262144) else none

/-- Read the entries of a chunk, in order; those of a word with an uncorrectable error are 0 (R385). -/
def State.readChunk (ue : List Nat) (bank : Nat) : List (Option (Bool × Nat)) → State → List Nat × State
  | [], s => ([], s)
  | none :: t, s => let r := State.readChunk ue bank t s; (leBytes 0 4 ++ r.1, r.2)
  | some (zoom, i) :: t, s =>
    if ue.contains (heatWord zoom bank i) then
      let r := State.readChunk ue bank t s
      (leBytes 0 4 ++ r.1, r.2)
    else
      let v := s.readEntry zoom bank i
      let r := State.readChunk ue bank t v.2
      (leBytes v.1 4 ++ r.1, r.2)

/-- The uncorrectable words among those of a chunk, each once. -/
def chunkUes (bank : Nat) (es : List (Option (Bool × Nat))) (ue : List Nat) : List Nat :=
  (ue.filter fun w => es.any fun e => match e with
    | some (zoom, i) => heatWord zoom bank i == w
    | none => false).eraseDups

/-- All entries of the export's next chunk have been read (R201). -/
def State.chunkReady (s : State) (p : Nat) (ue : List Nat) : State :=
  if !s.flag F.HEAT_EXP_STAT_ACTIVE p || (s.heat p).chunk.isSome then s
  else
    let b := (s.heat p).exBank
    let es := s.chunkEntries p
    let r := State.readChunk ue b es s
    let s := forEach (chunkUes b es ue) (fun w a => a.eccUe (heatMem (s.flag F.HEAT_EXP_STAT_ZPH p) b) w) r.2
    (s.modHeat p fun h => { h with chunk := some r.1 }).modPort p fun q => { q with chunkAge := 0 }

/-- CHUNK_READY (R201, R241). -/
def execChunkReady (part : Nat) (ecc : List Nat) (s : State) : Res :=
  effect (Wf.chunkReady part ecc) s fun s => if s.coreRuns then s.chunkReady part ecc else s

/-! Clears of a partition or a window (R224, R238) -/

/-- A run of n entries of a bank from entry i on reads 0. -/
def State.clearEntries (s : State) (b i n : Nat) : State :=
  let n1 := min n (262144 - i)
  (s.zeroMem (heatAddr false b i) (4 * n1)).zeroMem (heatAddr false b 0) (4 * (n - n1))

/-- A partition clear ends, on the bank where it began (R224, R235). -/
def State.partClearEnd (s : State) (p : Nat) : State :=
  match (s.heat p).clr with
  | none => s
  | some (b, i, n) =>
    (((s.clearEntries b i n).clrAll F.bankCounters (2 * p + b)).clr F.HEAT_PCTL_CLR_BUSY p).modHeat p
      fun h => { h with clr := none }

/-- A partition clear starts in the live bank; one under way is completed first (R224, log entry 21). -/
def State.partClear (s : State) (p : Nat) : State :=
  let s := s.partClearEnd p
  (s.setF F.HEAT_PCTL_CLR_BUSY p).modHeat p fun h => { h with
    clr := some (s.liveBank, s.rd F.HEAT_PRANGE_FIRST p, s.partLen p) }

/-- HEAT_PCTL is written (R224): CLR acts under the EN that the same write leaves. -/
def State.pctlWrite (s : State) (req addr p : Nat) (en clr : Bool) : State :=
  let s := s.wrB F.HEAT_PCTL_EN p en
  let s := if en then s.noteShared p else s
  if !clr then s else if en then s.refuse F.GLB_WERR_HEAT req addr else s.partClear p

/-- A window clear ends (R238). -/
def State.zoomClearEnd (s : State) (z : Nat) : State :=
  match s.zclr.get z 0 with
  | 0 => s
  | b + 1 => (((s.zeroMem (heatAddr true b (4096 * z)) 0x4000).clr F.HEAT_ZCTL_CLR_BUSY z).putZclr (s.zclr.set z 0 0))

/-- A window clear starts in the live half; one under way is completed first (R238, log entry 21). -/
def State.zoomClear (s : State) (z : Nat) : State :=
  let s := s.zoomClearEnd z
  ((s.setF F.HEAT_ZCTL_CLR_BUSY z).putZclr (s.zclr.set z (1 + s.liveBank) 0))

/-- HEAT_ZCTL is written (R238). -/
def State.zctlWrite (s : State) (req addr z : Nat) (en clr : Bool) : State :=
  let s := s.wrB F.HEAT_ZCTL_EN z en
  if !clr then s else if en then s.refuse F.GLB_WERR_HEAT req addr else s.zoomClear z

/-- HEAT_PCTL.CLR with EN left 0 (R224). -/
def execHeatPctlClr (r : Requester) (part : Nat) (s : State) : Res :=
  effect (Wf.heatPctlClr r part) s fun s => s.viaCore r fun s =>
    s.pctlWrite (reqCode r) (0x50100 + 0x40 * part) part false true

/-- PARTITION_CLEAR_END (R224). -/
def execPartitionClearEnd (part : Nat) (s : State) : Res :=
  effect (Wf.partitionClearEnd part) s fun s => if s.coreRuns then s.partClearEnd part else s

/-- HEAT_ZCTL.CLR with EN left 0 (R238). -/
def execHeatZctlClr (r : Requester) (win : Nat) (s : State) : Res :=
  effect (Wf.heatZctlClr r win) s fun s => s.viaCore r fun s =>
    s.zctlWrite (reqCode r) (0x50500 + 0x10 * win) win false true

/-- ZOOM_CLEAR_END (R238). -/
def execZoomClearEnd (win : Nat) (s : State) : Res :=
  effect (Wf.zoomClearEnd win) s fun s => if s.coreRuns then s.zoomClearEnd win else s

/-! Registers and windows -/

/-- HEAT_CTL.CNT_CLR (R244, R245). -/
def State.clrHeatCnt (s : State) : State :=
  forUp 16 (fun p a => a.clrAll [F.HEAT_EXP_CNT_DONE, F.HEAT_EXP_CNT_ABORT] p)
    (s.clrAll [F.HEAT_SWAP_CNT_SWAPS, F.HEAT_SWAP_CNT_SWAP_SKIPPED] 0)

/-- HEAT_CTL.CNT_CLR (R245). -/
def execHeatCtlCntClr (r : Requester) (s : State) : Res :=
  effect (Wf.heatCtlCntClr r) s fun s => s.viaCore r State.clrHeatCnt

/-- HEAT_PLFSR is written; 0 loads 0xACE1 (R246). -/
def State.loadLfsr (s : State) (p v : Nat) : State :=
  s.wr F.HEAT_PLFSR_STATE p (if v % 65536 = 0 then 0xACE1 else v)

/-- HEAT_PLFSR_WRITE (R246). -/
def execHeatPlfsrWrite (r : Requester) (part val : Nat) (s : State) : Res :=
  effect (Wf.heatPlfsrWrite r part val) s fun s => s.viaCore r fun s => s.loadLfsr part val

/-- A write to a heat or zoom window takes effect only while every partition and every zoom window is disabled (R240). -/
def State.heatWrite (s : State) (req addr val : Nat) : State :=
  if (List.range 16).any fun i => s.flag F.HEAT_PCTL_EN i || s.flag F.HEAT_ZCTL_EN i then
    s.refuse F.GLB_WERR_HEAT req addr
  else s.wrWord32 addr val

/-- HEAT_WINDOW_WRITE (R240). -/
def execHeatWindowWrite (r : Requester) (addr val : Nat) (s : State) : Res :=
  effect (Wf.heatWindowWrite r addr val) s fun s => s.viaCore r fun s => s.heatWrite (reqCode r) addr val

/-! Drip boundaries (R228, R231 to R236) -/

/-- The epoch grows by a drip, and the answer says whether a swap is due by epoch length at this boundary: DRIPS reaches LEN, or
LEN has been written since the last boundary and DRIPS is at or above it (R231, R235). -/
def State.epochTick (s : State) : Bool × State :=
  let old := s.rd F.HEAT_EPOCH_AGE_DRIPS 0
  let d := satAdd 32 old 1
  let len := s.rd F.HEAT_EPOCH_CFG_LEN 0
  let due := len != 0 && ((d == len && old != len) || (s.lenWritten && decide (len ≤ d)))
  (due, ((s.wr F.HEAT_EPOCH_AGE_DRIPS 0 d).putLenWritten false))

/-- Make a swap (R231, R233, R236). -/
def State.makeSwap (s : State) : State :=
  let old := s.liveBank
  let new := 1 - old
  let s := s.wr F.HEAT_BANK_LEN_LEN old (s.rd F.HEAT_EPOCH_AGE_DRIPS 0)
  let s := (s.wr F.HEAT_STAT_LIVE 0 new).incWrap F.HEAT_EPOCH_EPOCH 0
  let s := ((s.wr F.HEAT_STAT_OSTATE 0 0).clr F.HEAT_EPOCH_AGE_DRIPS 0).clr F.HEAT_STAT_SWAP_PEND 0
  let s := (s.inc F.HEAT_SWAP_CNT_SWAPS 0).wr F.HEAT_BANK_EPOCH_EPOCH new (s.rd F.HEAT_EPOCH_EPOCH 0)
  let s := s.wr F.HEAT_BANK_START_LO_START_LO new (s.drip % 2 ^ 32)
  let s := s.wr F.HEAT_BANK_START_HI_START_HI new (s.drip / 2 ^ 32)
  forUp 16 (fun p a => a.modHeat p fun h => h.queueIf fun c => c.bank == old) s

/-- A swap that is due, by epoch length or schedule (`due`) or as one that waits: made where the other bank is CLEAN,
else a due one is skipped and waits (R231, R232). Answers whether it was made. -/
def State.trySwap (s : State) (due : Bool) : Bool × State :=
  if !(due || s.flag F.HEAT_STAT_SWAP_PEND 0) then (false, s)
  else if s.rd F.HEAT_STAT_OSTATE 0 = 3 then (true, s.makeSwap)
  else if due then
    (false, ((s.inc F.HEAT_SWAP_CNT_SWAP_SKIPPED 0).setF F.HEAT_STAT_SWAP_PEND 0).raise 58 0 0)
  else (false, s)

/-- Every cache entry allocated before a drip boundary is queued for write-back at it (R228). -/
def State.queueCaches (s : State) : State := forUp 16 (fun p a => a.modHeat p fun h => h.queueIf fun _ => true) s

end Sys2Proof.Machine
end

