-- ==== Sys2Proof/Machine/Views.lean ====
section
/-! DEFINITION. The views (chapter 10): entries of the rings, the management bus's packets, the checks on an arriving
request, posting and handing over responses, and freezing, saving and restoring a view. -/
namespace Sys2Proof.Machine

/-- The word of a register whose fields are held as they work, not as a mirror shows them. -/
def State.word (s : State) (r : Reg) (i : Nat) : Nat := r.fields.foldl (fun a f => a + s.rd f i * 2 ^ f.lo) 0

/-- Set every field of a register from a word. -/
def State.setWord (s : State) (r : Reg) (i v : Nat) : State := r.fields.foldl (fun a f => a.wr f i (bits v f.lo f.w)) s

/-! Entries (R302, R309) -/

def entrySeq (e : List Nat) : Nat := leAt e 0 2
def entryEcho (e : List Nat) : Nat := leAt e 2 2
def entryOpc (e : List Nat) : Nat := byteAt e 4
def entryFlags (e : List Nat) : Nat := byteAt e 5
def entryStatus (e : List Nat) : Nat := byteAt e 6
def entryLen (e : List Nat) : Nat := byteAt e 7
def entryPayload (e : List Nat) : List Nat := sliceBytes e 8 112
def entryRoute (e : List Nat) : List Nat := sliceBytes e 120 4

/-- The CRC of an entry matches (R302). -/
def entryCrcOk (e : List Nat) : Bool := crc32c (e.take 120) == leAt e 124 4

/-- A response entry (R302). -/
def mkEntry (seq echo opc flags status : Nat) (payload route : List Nat) : List Nat :=
  let b := leBytes seq 2 ++ leBytes echo 2 ++ [opc, flags, status, payload.length] ++ padTo payload 112
  b ++ padTo route 4 ++ leBytes (crc32c b) 4

/-- The ROUTE bytes of an accepted request (R309). -/
def routeBytes (route eid tag : Nat) : List Nat := [route, if route ≤ 2 then eid else 0, if route ≤ 2 then tag % 8 else 0, 0]

/-! Packets of the management bus (R298, R300, R301) -/

/-- A list cut into pieces of n elements. -/
def pieces {α : Type} (n : Nat) : Nat → List α → List (List α)
  | 0, _ => []
  | k + 1, l => if l.length ≤ n then [l] else l.take n :: pieces n k (l.drop n)

/-- A number of n bytes, most significant first. -/
def beBytes (x n : Nat) : List Nat := (leBytes x n).reverse

/-- The packets of an MCTP message: the four header bytes of the base specification and at most `unit` bytes each. PRESUMED,
log entry 17. -/
def mctpPackets (unit dest src tag : Nat) (body : List Nat) : List (List Nat) :=
  let ps := pieces unit (body.length + 1) body
  (ps.zipIdx).map fun p =>
    [1, dest, src, 128 * b2n (p.2 == 0) + 64 * b2n (p.2 + 1 == ps.length) + 16 * (p.2 % 4) + tag % 8] ++ p.1

/-- The unit size of a binding (R298, R303): over I3C a packet with its 4 header bytes and its PEC fills at most MRL bytes; over
SMBus it is the 64 bytes of the base specification. PRESUMED, log entry 17. -/
def State.mctpUnit (s : State) (smbus : Bool) : Nat := if smbus then 64 else s.bus.mrl - 5

/-- MGMT_STAT.SMB_PEND follows the waiting SMBus packets (R301). -/
def State.showPend (s : State) : State := s.wrB F.MGMT_STAT_SMB_PEND 0 (s.bus.pkts.any fun p => p.smbus)

/-- A message waits on the bus as its packets: an SMBus packet sets SMB_PEND, an I3C packet raises an IBI where they are
enabled, with the data byte of the MCTP I3C binding (R298, R301; PRESUMED, log entry 109). -/
def State.busQueue (s : State) (smbus : Bool) (view ptr : Option Nat) (dest tag : Nat) (body : List Nat) : State :=
  let ps := mctpPackets (s.mctpUnit smbus) dest (s.rd F.MGMT_BUS_STAT_EID 0) tag body
  let hw := view.isSome && ptr.isNone
  let pk := ps.zipIdx.map fun p => (⟨smbus, view, ptr, hw, p.2 + 1 == ps.length, p.1⟩ : BusPkt)
  let s := (s.putBus ({ s.bus with pkts := s.bus.pkts ++ pk }))
  let s := if !smbus && s.bus.ibi then s.emit (.ibi 0xAE) else s
  s.showPend

/-- The body of an Efsia message over MCTP (R303). -/
def State.vdmBody (s : State) (v : Nat) (e : List Nat) : List Nat :=
  [0x7F] ++ beBytes (s.rd F.MGMT_VDM_ID_PEN 0) 4 ++ [v, 0] ++ e

/-! Responses (R311, R312) -/

/-- A response entry goes to its transport (R311). One for the CSB waits there while the CSB is not UP. -/
def State.handEntry (s : State) (v p : Nat) : State :=
  let e := s.rspEntry v p
  let route := byteAt e 120
  if route = 4 then s.modView v fun w => { w with q3 := w.q3 ++ [⟨some p, [], 0, false⟩] }
  else if route = 3 then s.csbQueue 0x40 1 ([v, 0] ++ e) (some (v, p)) none
  else if route = 1 ∨ route = 2 then s.busQueue (route == 2) (some v) (some p) (byteAt e 121) (byteAt e 122) (s.vdmBody v e)
  else s

/-- The view has traffic: the manager view, or a port view of a present port (R10). -/
def State.viewLive (s : State) (v : Nat) : Bool := v == 0 || s.present (v - 1)

/-- Responses posted and not yet handed over go to their transports, unless the view is frozen or its port absent (R10, R311,
R319). -/
def State.handOut : Nat → State → Nat → State
  | 0, s, _ => s
  | n + 1, s, v =>
    let p := (s.view v).handed
    if p = s.rd F.MGMT_VIEW_PTR_RSP_WR v ∨ s.flag F.MGMT_VIEW_STAT_FROZEN v ∨ !s.viewLive v then s
    else State.handOut n ((s.handEntry v p).modView v fun w => { w with handed := ptrNext p }) v

/-- The Lantern core posts a response with the next RSEQ (R311). -/
def State.post (s : State) (v echo opc repeat_ status : Nat) (payload route : List Nat) : State :=
  let e := mkEntry (s.rd F.MGMT_VIEW_SEQ_RSEQ_NEXT v) echo opc (1 + 4 * repeat_) status payload route
  let s := s.wrBytes (rspAddr v (s.rd F.MGMT_VIEW_PTR_RSP_WR v)) e
  let s := s.modView v fun w => { w with past := w.past.set (s.rd F.MGMT_VIEW_PTR_RSP_WR v % 64) e [] }
  let s := (s.incWrap F.MGMT_VIEW_SEQ_RSEQ_NEXT v).incWrap F.MGMT_VIEW_PTR_RSP_WR v
  s.handOut 65 v

/-- The hardware responses that a view has queued (R312). -/
def State.hwQueued (s : State) (v : Nat) : Nat :=
  ((s.view v).q3.filter fun i => i.hw).length + (s.csb.q1.filter fun f => f.hw == some v).length
    + (s.bus.pkts.filter fun p => p.view == some v && p.hw && p.last).length

/-- A hardware response goes straight out on the request's transport; a fifth queued one is dropped (R312). -/
def State.hwRsp (s : State) (v route eid tag : Nat) (req : List Nat) (status : Nat) : State :=
  if s.hwQueued v ≥ 4 then s.inc F.MGMT_VIEW_CNT2_RSP_DROP v
  else
    let e := mkEntry 0 (entrySeq req) (entryOpc req) 3 status [] (routeBytes route eid tag)
    if route = 4 then s.modView v fun w => { w with q3 := w.q3 ++ [⟨none, e, 0, true⟩] }
    else if route = 3 then s.csbQueue 0x40 1 ([v, 0] ++ e) none (some v)
    else s.busQueue (route == 2) (some v) none eid tag (s.vdmBody v e)

/-- The CSB is UP again: the responses handed to it and not yet acknowledged are sent in new frames (R168, R311). -/
def State.requeueCsb (s : State) : State :=
  forUp 17 (fun v a =>
    let tx := a.rd F.MGMT_VIEW_PTR_RSP_TX v
    let w := a.view v
    forUp (ptrDist tx w.handed) (fun k b =>
      let p := (tx + k) % 128
      let e := b.rspEntry v p
      if byteAt e 120 = 3 ∧ ¬w.done.contains p then b.csbQueue 0x40 1 ([v, 0] ++ e) (some (v, p)) none else b) a) s

/-! An arriving request (R303, R309, R310) -/

/-- A sequence number joins the refusal list of a port, or is left out of a full one (R204, R205). -/
def State.refuseMsg (s : State) (n mseq : Nat) : State :=
  ((s.inc F.CMP_POLICE_CNT_DROP n).wr F.CMP_POLICE_LAST_MSEQ n mseq).modPort n fun p =>
    if p.refused.length < 64 then { p with refused := p.refused ++ [mseq], refAge := if p.refused = [] then 0 else p.refAge }
    else { p with refOvf := true }

/-- The transport may reach the view (R297). -/
def State.mayReach (s : State) (v route : Nat) : Bool :=
  if route = 4 then true
  else if route = 3 then bit (s.rd F.MGMT_ACL_CSB_VIEWS 0) v
  else bit (s.rd F.MGMT_ACL_MCTP_VIEWS 0) v

/-- The view policer in force: EN, BURST and RATE as MGMT_VIEW_POL holds them (R318). -/
def State.viewPol (s : State) (v : Nat) : Nat :=
  match (s.view v).pol with
  | some x => x
  | none => F.MGMT_VIEW_POL_RATE.reset v + F.MGMT_VIEW_POL_BURST.reset v * 2 ^ 10 + F.MGMT_VIEW_POL_EN.reset v * 2 ^ 16

/-- How a request's sequence number is judged (R310). -/
inductive SeqMark where
  | ok | resync | dup | gap | drop
deriving DecidableEq, Repr

def State.seqMark (s : State) (v : Nat) (e : List Nat) : SeqMark :=
  let d := (entrySeq e + 65536 - s.rd F.MGMT_VIEW_SEQ_QSEQ_NEXT v) % 65536
  if entryOpc e = 5 then .resync
  else if d = 0 then .ok
  else if d ≥ 65472 then .dup
  else if s.flag F.MGMT_VIEW_STAT_GAP_SENT v then .drop
  else .gap

/-- An accepted request is written at REQ_WR (R309). FLAGS bits 3 and 4 mark it (R310). -/
def State.acceptReq (s : State) (v : Nat) (e route : List Nat) (mark : SeqMark) : State :=
  let w := s.rd F.MGMT_VIEW_PTR_REQ_WR v
  let flags := entryFlags e % 8 + 8 * b2n (mark == .dup) + 16 * b2n (mark == .gap) + entryFlags e / 32 * 32
  let s := s.wrBytes (reqAddr v w) ((setByte e 5 flags).take 120 ++ route ++ e.drop 124)
  (s.incWrap F.MGMT_VIEW_PTR_REQ_WR v).inc F.MGMT_VIEW_CNT_ACCEPTED v

/-- Step 7 of R309: the sequence check. -/
def State.seqStep (s : State) (v : Nat) (e route : List Nat) : State :=
  let next := s.rd F.MGMT_VIEW_SEQ_QSEQ_NEXT v
  match s.seqMark v e with
  | .resync =>
    -- the earlier expected QSEQ and the count of unanswered requests are kept for the response (R304)
    let left := ptrDist (s.rd F.MGMT_VIEW_PTR_REQ_RD v) (s.rd F.MGMT_VIEW_PTR_REQ_WR v) + s.rd F.MGMT_VIEW_STAT_INPROG v
    let s := s.modView v fun w => { w with gaps := (s.rd F.MGMT_VIEW_PTR_REQ_WR v, next + 65536 * left) :: w.gaps }
    ((s.acceptReq v e route .ok).wr F.MGMT_VIEW_SEQ_QSEQ_NEXT v (entrySeq e + 1)).clr F.MGMT_VIEW_STAT_GAP_SENT v
  | .ok => ((s.acceptReq v e route .ok).wr F.MGMT_VIEW_SEQ_QSEQ_NEXT v (next + 1)).clr F.MGMT_VIEW_STAT_GAP_SENT v
  | .dup => s.acceptReq v e route .dup
  | .gap =>
    let s := s.modView v fun w => { w with gaps := (s.rd F.MGMT_VIEW_PTR_REQ_WR v, next) :: w.gaps }
    (s.acceptReq v e route .gap).setF F.MGMT_VIEW_STAT_GAP_SENT v
  | .drop => s.inc F.MGMT_VIEW_CNT2_OOS v

/-- A request meets the checks of R309 in order. An entry whose read meets an uncorrectable word is treated as failing its CRC
(R385). -/
def State.request (s : State) (v route eid tag : Nat) (e : List Nat) (ue : Bool) : State :=
  if v > 16 then s.inc F.MGMT_CNT_BADHDR 0
  else if v ≠ 0 ∧ ¬s.present (v - 1) then s.inc F.MGMT_CNT_NOVIEW 0
  else if !s.mayReach v route || !s.flag F.MGMT_VIEW_CTL_EN v then
    (s.hwRsp v route eid tag e 2).inc F.MGMT_VIEW_CNT3_DENIED v
  else if ue || !entryCrcOk e || bit (entryFlags e) 0 then s.inc F.MGMT_VIEW_CNT3_CRC v
  else
    let polices := decide (route ≠ 4) && bit (s.viewPol v) 16
    if polices && decide ((s.view v).tok < 16) then
      (s.inc F.MGMT_VIEW_CNT2_POLICED v).wr F.MGMT_VIEW_LAST_POL_SEQ v (entrySeq e)
    else
      let s := if polices then s.modView v fun w => { w with tok := w.tok - 16 } else s
      if !s.flag F.MGMT_STAT_LRUN 0 || s.flag F.MGMT_VIEW_STAT_FROZEN v then
        (s.hwRsp v route eid tag e 1).inc F.MGMT_VIEW_CNT3_BUSY v
      else if s.reqFull v then
        let s := s.inc F.MGMT_VIEW_CNT2_FULL v
        if route = 4 then s.refuseMsg (v - 1) (entrySeq e) else s
      else s.seqStep v e (routeBytes route eid tag)

/-! Freeze, save and restore (R319 to R321) -/

/-- RST_ERR, RST_OK and SAVED clear (R329). -/
def State.clrBlobFlags (s : State) (v : Nat) : State :=
  s.clrAll [F.MGMT_VIEW_STAT_RST_ERR, F.MGMT_VIEW_STAT_RST_OK, F.MGMT_VIEW_STAT_SAVED] v

/-- MGMT_VIEW_CTL.FREEZE of a port view is written: any such write clears the blob flags (R319, R329); view 0 cannot be frozen. -/
def State.freezeView (s : State) (v : Nat) (on : Bool) : State :=
  if v = 0 then s
  else if s.flag F.MGMT_VIEW_CTL_FREEZE v = on then s.clrBlobFlags v
  else
    let s := ((s.clrBlobFlags v).wrB F.MGMT_VIEW_CTL_FREEZE v on).wrB F.MGMT_VIEW_STAT_FROZEN v on
    let s := s.modView v fun w => { w with restored := false }
    if on then s.modView v fun w => { w with frozenAt := s.drip } else s.handOut 65 v

/-- The address of MGMT_VIEW_CTL of a view. -/
def viewCtlAddr (v : Nat) : Nat := 0x60100 + v * 0x40

/-- SAVE (R321): starts on a frozen view only. -/
def State.saveView (s : State) (req v : Nat) : State :=
  if !s.flag F.MGMT_VIEW_STAT_FROZEN v then s.refuse F.GLB_WERR_MGMT req (viewCtlAddr v)
  else ((s.clrBlobFlags v).setF F.MGMT_VIEW_STAT_BLOB_BUSY v).modView v fun w => { w with blobOp := some true }

/-- RESTORE starts (R321). -/
def State.restoreView (s : State) (v : Nat) : State :=
  ((s.clrBlobFlags v).setF F.MGMT_VIEW_STAT_BLOB_BUSY v).modView v fun w => { w with blobOp := some false }

/-- The words 0 to 14 of a view's state record (R320). -/
def State.blobWords (s : State) (v : Nat) : List Nat := [
  0xEF5A * 2 ^ 16 + 2 ^ 8 + v,
  s.rd F.MGMT_VIEW_SEQ_RSEQ_NEXT v * 2 ^ 16 + s.rd F.MGMT_VIEW_SEQ_QSEQ_NEXT v,
  s.word .MGMT_VIEW_PTR v,
  s.rd F.MGMT_VIEW_STAT_GAP_SENT v,
  if v = 0 then 0 else s.word .PORT_BIND (v - 1),
  (s.view v).frozenAt % 2 ^ 32,
  (s.view v).frozenAt / 2 ^ 32 % 2 ^ 16,
  s.word .MGMT_VIEW_CNT v, s.word .MGMT_VIEW_CNT2 v, s.word .MGMT_VIEW_CNT3 v, 0, 0, 0, 0, 0]

/-- The CRC of a record and a region (R320). -/
def State.blobCrc (s : State) (v : Nat) (ws : List Nat) : Nat :=
  crc32c (ws.flatMap (fun w => leBytes w 4) ++ s.rdBytes (viewBase v) 16384)

/-- MGMT_VIEW_BLOB of a view. -/
def State.blob (s : State) (v k : Nat) : Nat := s.rd F.MGMT_VIEW_BLOB_WORD (16 * v + k)

/-- A save fills MGMT_VIEW_BLOB with the record (R320, R321). -/
def State.finishSave (s : State) (v : Nat) : State :=
  let ws := s.blobWords v
  let ws := ws ++ [s.blobCrc v ws]
  let s := (ws.zipIdx).foldl (fun a p => a.wr F.MGMT_VIEW_BLOB_WORD (16 * v + p.2) p.1) s
  (s.setF F.MGMT_VIEW_STAT_SAVED v).modView v fun x => { x with savedOnce := true }

/-- What the transports still hold of a view's ring no longer names its entries: the ring was emptied or replaced. -/
def State.detachView (s : State) (v : Nat) : State :=
  let cut := fun (l : List CsbFrame) => l.map fun f => match f.ring with
    | some (u, _) => if u = v then { f with ring := none } else f
    | none => f
  let loose : C3Item → C3Item := fun i => match i.ptr with
    | some p => C3Item.mk none (s.rspEntry v p) i.age false
    | none => i
  let s := s.modView v fun w => { w with q3 := w.q3.map loose, done := [], gaps := [] }
  (s.putCsb { s.csb with q1 := cut s.csb.q1, un1 := cut s.csb.un1 }).putBus
    { s.bus with pkts := s.bus.pkts.map (fun p => if p.view = some v then { p with ptr := none } else p) }

/-- A restore checks the record and takes its sequence, pointer and counter state, or fails (R321). -/
def State.finishRestore (s : State) (v : Nat) : State :=
  let w := s.blob v
  if w 0 / 2 ^ 8 = 0xEF5A01 ∧ w 15 = s.blobCrc v ((List.range 15).map w) then
    let s := s.detachView v
    let s := (s.wr F.MGMT_VIEW_SEQ_RSEQ_NEXT v (w 1 / 2 ^ 16)).wr F.MGMT_VIEW_SEQ_QSEQ_NEXT v (w 1 % 2 ^ 16)
    let s := (s.setWord .MGMT_VIEW_PTR v (w 2)).wr F.MGMT_VIEW_STAT_GAP_SENT v (w 3 % 2)
    let s := ((s.setWord .MGMT_VIEW_CNT v (w 7)).setWord .MGMT_VIEW_CNT2 v (w 8)).setWord .MGMT_VIEW_CNT3 v (w 9)
    (s.modView v fun x => { x with
      handed := s.rd F.MGMT_VIEW_PTR_RSP_TX v, restored := true
      past := (List.range 64).map fun k => (k, s.rspEntry v k) }).setF F.MGMT_VIEW_STAT_RST_OK v
  else s.setF F.MGMT_VIEW_STAT_RST_ERR v

/-- A save or restore ends (R321). -/
def State.blobDone (s : State) (v : Nat) : State :=
  match (s.view v).blobOp with
  | none => s
  | some save =>
    let s := (s.modView v fun w => { w with blobOp := none }).clr F.MGMT_VIEW_STAT_BLOB_BUSY v
    if save then s.finishSave v else s.finishRestore v

/-- Both rings of a view are emptied: neither holds a request or a response. -/
def State.emptyRings (s : State) (v : Nat) : State :=
  let s := s.detachView v
  let s := (s.wr F.MGMT_VIEW_PTR_REQ_RD v (s.rd F.MGMT_VIEW_PTR_REQ_WR v)).wr F.MGMT_VIEW_PTR_RSP_TX v
    (s.rd F.MGMT_VIEW_PTR_RSP_WR v)
  s.modView v fun w => { w with handed := s.rd F.MGMT_VIEW_PTR_RSP_WR v, past := [] }

/-- RING_RST (R322, R329): the rings of a frozen view are emptied, and its freeze ends. -/
def State.ringReset (s : State) (req v : Nat) : State :=
  if !s.flag F.MGMT_VIEW_STAT_FROZEN v then s.refuse F.GLB_WERR_MGMT req (viewCtlAddr v)
  else
    let s := (s.emptyRings v).clrAll
      [F.MGMT_VIEW_SEQ_QSEQ_NEXT, F.MGMT_VIEW_SEQ_RSEQ_NEXT, F.MGMT_VIEW_STAT_GAP_SENT] v
    s.clrAll [F.MGMT_VIEW_CTL_FREEZE, F.MGMT_VIEW_STAT_FROZEN] v

/-- The port of a view is taken away: the view holds no traffic (R10). What its rings and transports held is gone, uncounted
(DESIGN CHOICE, log entry 111). -/
def State.dropView (s : State) (v : Nat) : State :=
  let mine := fun (f : CsbFrame) => f.payload.headD 99 == v && f.type == 0x40
  let s := ((s.emptyRings v).modView v fun w => { w with q3 := [] }).clr F.MGMT_VIEW_STAT_INPROG v
  ((s.putCsb { s.csb with q1 := s.csb.q1.filter fun f => !mine f }).putBus
    { s.bus with pkts := s.bus.pkts.filter fun p => p.view != some v }).showPend

/-- MGMT_VIEW_CTL.CNT_CLR (R329). -/
def State.clrViewCnt (s : State) (v : Nat) : State :=
  s.clrAll (Reg.MGMT_VIEW_CNT.fields ++ Reg.MGMT_VIEW_CNT2.fields ++ Reg.MGMT_VIEW_CNT3.fields) v

/-- MGMT_CTL.CNT_CLR (R327). -/
def State.clrMgmtCnt (s : State) : State :=
  forUp 17 (fun v a => a.clrViewCnt v) (s.clrAll (Reg.MGMT_CNT.fields ++ Reg.MGMT_SEC_CNT.fields) 0)

/-- The device owns the ring entry at an address of mailbox memory (R308). -/
def State.ringOwned (s : State) (addr : Nat) : Bool :=
  let v := (addr - 0x140000) / 0x4000
  let off := (addr - 0x140000) % 0x4000
  let k := off % 0x2000 / 128
  let rd := if off < 0x2000 then s.rd F.MGMT_VIEW_PTR_REQ_RD v else s.rd F.MGMT_VIEW_PTR_RSP_TX v
  let wr := if off < 0x2000 then s.rd F.MGMT_VIEW_PTR_REQ_WR v else s.rd F.MGMT_VIEW_PTR_RSP_WR v
  decide ((k + 128 - rd) % 64 < ptrDist rd wr)

/-! Commands -/

/-- VIEW_FREEZE (R319). -/
def execViewFreeze (r : Requester) (view : Nat) (s : State) : Res :=
  effect (Wf.viewFreeze r view) s fun s => s.viaBus r fun s => s.freezeView view true

/-- VIEW_THAW (R319). -/
def execViewThaw (r : Requester) (view : Nat) (s : State) : Res :=
  effect (Wf.viewThaw r view) s fun s => s.viaBus r fun s => s.freezeView view false

/-- MGMT_VIEW_CTL.SAVE (R321). -/
def execMgmtViewCtlSave (r : Requester) (view : Nat) (s : State) : Res :=
  effect (Wf.mgmtViewCtlSave r view) s fun s => s.viaBus r fun s => s.saveView (reqCode r) view

/-- MGMT_VIEW_CTL.RESTORE (R321): into a view that is not frozen it is unpredictable. -/
def execMgmtViewCtlRestore (r : Requester) (view : Nat) (s : State) : Res :=
  guarded (Wf.mgmtViewCtlRestore r view) s fun s =>
    if s.reaches r && !s.flag F.MGMT_VIEW_STAT_FROZEN view then .fault .blobNotFrozen
    else .next (s.viaBus r fun s => s.restoreView view)

/-- SAVE_RESTORE_COMPLETE (R321). -/
def execSaveRestoreComplete (view : Nat) (s : State) : Res :=
  effect (Wf.saveRestoreComplete view) s fun s => s.blobDone view

/-- MGMT_VIEW_CTL.RING_RST (R329). -/
def execMgmtViewCtlRingRst (r : Requester) (view : Nat) (s : State) : Res :=
  effect (Wf.mgmtViewCtlRingRst r view) s fun s => s.viaBus r fun s => s.ringReset (reqCode r) view

/-- MGMT_VIEW_CTL.CNT_CLR (R329). -/
def execMgmtViewCtlCntClr (r : Requester) (view : Nat) (s : State) : Res :=
  effect (Wf.mgmtViewCtlCntClr r view) s fun s => s.viaBus r fun s => s.clrViewCnt view

/-- MGMT_CTL.CNT_CLR (R327). -/
def execMgmtCtlCntClr (r : Requester) (s : State) : Res :=
  effect (Wf.mgmtCtlCntClr r) s fun s => s.viaBus r State.clrMgmtCnt

/-- MAILBOX_WRITE (R308): unpredictable for the view where the device owns the entry. -/
def execMailboxWrite (r : Requester) (addr val : Nat) (s : State) : Res :=
  guarded (Wf.mailboxWrite r addr val) s fun s =>
    if s.reaches r && s.coreRuns && s.ringOwned addr then .fault .ringEntryOwned
    else .next (s.viaCore r fun s => s.wrWord32 addr val)

end Sys2Proof.Machine
end

