-- ==== Sys2Proof/Machine/Csb.lean ====
section
/-! DEFINITION. The companion sideband (R168 to R174) and the companion messages that ports exchange over it (R158 to R167). -/
namespace Sys2Proof.Machine

/-! Sequenced frames (R172) -/

/-- The frames acknowledged by a number: those up to the newest frame that carries it. -/
def ackedBy (num : Nat) (un : List CsbFrame) : List CsbFrame × List CsbFrame :=
  if un.any fun f => f.seq == num then
    let rest := (un.dropWhile fun f => f.seq != num).drop 1
    (un.take (un.length - rest.length), rest)
  else ([], un)

/-- An acknowledgement frees the frames it covers; a ring entry that a frame carried is finished with (R172, R311). -/
def State.csbAck (s : State) (vc num : Nat) : State :=
  let r := ackedBy num (if vc = 0 then s.csb.un0 else s.csb.un1)
  let s := if vc = 0 then (s.putCsb ({ s.csb with un0 := r.2 })) else (s.putCsb ({ s.csb with un1 := r.2 }))
  forEach r.1 (fun f a => match f.ring with
    | some (v, p) => a.rspSent v p
    | none => a) s

/-- An acknowledgement is owed on a virtual channel. -/
def State.csbOwe (s : State) (vc : Nat) : State :=
  if vc = 0 then (s.putCsb ({ s.csb with ackDue0 := true })) else (s.putCsb ({ s.csb with ackDue1 := true }))

/-- A frame in sequence is taken: the next number is expected, and an acknowledgement is owed. -/
def State.csbTake (s : State) (h : CsbHdr) : State :=
  let s := if h.vc = 0 then (s.putCsb ({ s.csb with rx0 := (h.seq + 1) % 256, last0 := h.seq }))
    else (s.putCsb ({ s.csb with rx1 := (h.seq + 1) % 256, last1 := h.seq }))
  s.csbOwe h.vc

/-- A sequenced frame that passes its CRC arrives (R172): its acknowledgement counts, and its message is acted on where it is
the next in order. A duplicate is acknowledged again. Outside UP nothing is exchanged. -/
def State.csbAccept (s : State) (h : CsbHdr) (k : State → State) : State :=
  if !s.csbUp then s
  else
    let s := s.csbAck h.vc h.ack
    let rx := if h.vc = 0 then s.csb.rx0 else s.csb.rx1
    if h.seq = rx then k (s.csbTake h)
    else if (rx + 256 - h.seq) % 256 ≤ 32 then s.csbOwe h.vc
    else s

/-- A message is discarded as unexpected (R159, R174). -/
def State.unexp (s : State) : State := s.inc F.CMP_CSB_CNT2_UNEXP 0

/-- A message that belongs on a virtual channel: on the other one it is discarded as misdirected (R174). -/
def State.csbMsg (s : State) (h : CsbHdr) (vc : Nat) (k : State → State) : State :=
  s.csbAccept h fun s => if h.vc = vc then k s else s.unexp

/-- A message that names a port: it is discarded where the port is neither associated nor in an attempt or fallback (R174). -/
def State.portMsg (s : State) (h : CsbHdr) (n : Nat) (k : State → State) : State :=
  s.csbMsg h 0 fun s =>
    if s.present n && (s.associated n || (s.port n).attempt != .none) then k s else s.unexp

/-! The link (R169, R170, R173) -/

/-- An unsequenced frame. -/
def State.emitPlain (s : State) (type : Nat) (payload : List Nat) : State := s.sendFrame ⟨type, 0, 0, payload, none, none⟩ 0

/-- HELLO: major version 1, minor 0, role retimer, rows and sparing offered (R174). -/
def State.sendHello (s : State) : State := s.emitPlain 1 [1, 0, 0, 3]

/-- The CSB leaves OFF where it is enabled, the crystal PLL is locked and the core domain runs (R170, R251, R256). -/
def State.csbStart (s : State) : State :=
  if s.rd F.CMP_CSB_STAT_STATE 0 = 0 ∧ s.flag F.CMP_CSB_CTL_EN 0 ∧ s.flag F.CLK_STAT_XPLL_LOCK 0 ∧ s.coreRuns then
    s.wr F.CMP_CSB_STAT_STATE 0 1
  else s

/-- The CSB is taken to OFF: from UP, what is under way is lost (R168). -/
def State.csbOff (s : State) : State := if s.csbUp then s.csbLeaveUp 0 else s.wr F.CMP_CSB_STAT_STATE 0 0

/-- The CSB enters UP: sequence numbers start at 0, responses handed over are sent again, and every associated port joins
again (R168, R170, R311). -/
def State.csbEnterUp (s : State) : State :=
  let s := (s.putCsb ({ s.csb with
    q0 := [], q1 := [], un0 := [], un1 := [], seq0 := 0, seq1 := 0, rx0 := 0, rx1 := 0, last0 := 255, last1 := 255,
    ackDue0 := false, ackDue1 := false, beaconDue := none }))
  let s := (s.wr F.CMP_CSB_STAT_STATE 0 3).requeueCsb
  forUp 16 (fun n a =>
    if a.associated n then (a.sendJoin n).modPort n fun p => { p with joinWait := true, rejoin := true } else a) s

/-- The major version of the peer's HELLO. PEER_MAJOR has 4 bits of the byte's 8: what it holds of a larger version is free
(log entry 91). -/
def State.peerMajor (s : State) (major : Nat) : State :=
  if major < 16 then s.wr F.CMP_CSB_STAT_PEER_MAJOR 0 major else s.free.2.wr F.CMP_CSB_STAT_PEER_MAJOR 0 s.free.1

/-- A valid HELLO is handled in state HELLO (R170). -/
def State.takeHello (s : State) (major minor cap : Nat) : State :=
  let s := ((s.peerMajor major).wr F.CMP_CSB_STAT_PEER_MINOR 0 minor).wr F.CMP_CSB_STAT_PEER_CAP 0 cap
  if major = 1 then s.csbEnterUp else s.wr F.CMP_CSB_STAT_STATE 0 4

/-- HELLO arrives (R170): in UP it is a loss first, and is answered at once. -/
def State.hello (s : State) (major minor cap : Nat) : State :=
  if s.csbUp then ((s.csbLoss 2).sendHello).takeHello major minor cap
  else if s.rd F.CMP_CSB_STAT_STATE 0 = 2 then s.takeHello major minor cap
  else s

/-- A CSB reset (R39, R168). -/
def State.csbReset (s : State) : State := (((s.csbOff).putCsb {})).csbStart

/-- CMP_CSB_CTL.EN is written (R170). -/
def State.csbEnable (s : State) (en : Bool) : State :=
  if s.flag F.CMP_CSB_CTL_EN 0 = en then s
  else if en then (s.setF F.CMP_CSB_CTL_EN 0).csbStart
  else (s.clr F.CMP_CSB_CTL_EN 0).csbOff

/-- The payload of a beacon (R174): drip count, heartbeat, tally, and whether the device is safe and its drip counter aligned. -/
def State.beaconBytes (s : State) (drip : Nat) : List Nat :=
  leBytes drip 6 ++ leBytes s.csb.heartbeat 2 ++ leBytes (s.rd F.GLB_TALLY_VALUE 0) 4
    ++ [b2n s.safe + 2 * s.rd F.CLK_TSYNC_STAT_ALIGNED 0, 0, 0, 0]

/-- Start the next frame of a virtual channel: it acknowledges what was received on it (R171, R172). -/
def State.startFrame (s : State) (f : CsbFrame) : State :=
  if f.vc = 0 then
    ((s.putCsb ({ s.csb with q0 := s.csb.q0.drop 1, un0 := s.csb.un0 ++ [f], ackDue0 := false }))).sendFrame f s.csb.last0
  else
    ((s.putCsb ({ s.csb with q1 := s.csb.q1.drop 1, un1 := s.csb.un1 ++ [f], ackDue1 := false }))).sendFrame f s.csb.last1

/-- At a frame boundary in UP the transmitter sends a BEACON, an ACK, a VC0 frame or a VC1 frame, in that order (R172). -/
def State.frameBoundary (s : State) : State :=
  if !s.csbUp then s
  else match s.csb.beaconDue with
    | some d =>
      let s := s.emitPlain 2 (s.beaconBytes d)
      (s.putCsb ({ s.csb with heartbeat := (s.csb.heartbeat + 1) % 65536, beaconDue := none }))
    | none =>
      if s.csb.ackDue0 then
        ((s.putCsb ({ s.csb with ackDue0 := false }))).sendFrame ⟨0, 0, 0, [], none, none⟩ s.csb.last0
      else if s.csb.ackDue1 then
        ((s.putCsb ({ s.csb with ackDue1 := false }))).sendFrame ⟨0, 1, 0, [], none, none⟩ s.csb.last1
      else
        let c0 := if s.csb.un0.length < 32 then s.csb.q0.head? else none
        let c1 := if s.csb.un1.length < 32 then s.csb.q1.head? else none
        match c0, c1 with
        | some f, _ => s.startFrame f
        | none, some f => s.startFrame f
        | none, none => s

/-- The retransmission timeout of a virtual channel (R172). -/
def State.retransmit (s : State) (vc : Nat) : State :=
  if !s.csbUp then s
  else
    let un := if vc = 0 then s.csb.un0 else s.csb.un1
    let last := if vc = 0 then s.csb.last0 else s.csb.last1
    forEach un (fun f a => a.sendFrame f last) (s.incBy F.CMP_CSB_CNT_RTX 0 un.length)

/-- CMP_CSB_CTL.CNT_CLR (R185). -/
def State.clrCsbCnt (s : State) : State :=
  let s := s.clrAll (Reg.CMP_CSB_CNT.fields ++ Reg.CMP_CSB_CNT2.fields) 0
  forUp 16 (fun n a => a.clrAll Reg.CMP_PORT_CNT.fields n) s

/-! Messages of the ports -/

/-- JOIN_RSP (R159, R168, R179): late, it is unexpected. -/
def State.joinRsp (s : State) (n : Nat) (refuse rows : Bool) : State :=
  if !s.present n ∨ !(s.port n).joinWait then s.unexp
  else
    let again := (s.port n).rejoin
    let s := s.modPort n fun p => { p with joinWait := false, rejoin := false }
    if refuse then
      if again then (s.releasePortSpares n).modPort n fun p => { p with leavePend := true } else s.fallback n 1
    else
      let s := s.wrB F.CMP_PORT_STAT_ROWCAP n rows
      if again then s else (s.wr F.CMP_PORT_STAT_SEG n 2).retarget n false

/-- No answer to a JOIN in time (R159, R168). -/
def State.joinTimeout (s : State) (n : Nat) : State :=
  if !(s.port n).joinWait then s
  else
    let again := (s.port n).rejoin
    let s := s.modPort n fun p => { p with joinWait := false, rejoin := false }
    if again then s else s.fallback n 2

/-- LOCK_RPT (R162, R164): a report for the rate that the attempt or fallback waits at. -/
def State.lockRpt (s : State) (n rate : Nat) (companion : Bool) (lanes : Nat) : State :=
  if (s.port n).attempt.wantsLock = some companion ∧ rate = s.rate n then
    (s.modPort n fun p => { p with peerLock := s.mapFull n lanes }).lockProgress n
  else s

/-- FALLBACK_ACK, or its timeout (R164). -/
def State.fallbackAnswered (s : State) (n : Nat) : State :=
  if (s.port n).attempt = .fbAck then s.restartInner n false else s

/-- The hold of a fallback reaches its bound (R164, R167). -/
def State.fallbackHoldEnd (s : State) (n : Nat) : State :=
  if (s.port n).attempt = .fbHold ∨ (s.port n).attempt = .fbStop then s.endAttempt n else s

/-- CLOCK_TMO: the lock test has failed (R162, R163). -/
def State.lockTimeout (s : State) (n : Nat) : State :=
  match (s.port n).attempt with
  | .lock _ => s.attemptFallback n 4
  | _ => s

/-- LEAVE (R166): the reason is recorded, and the port leaves at its next entry to Recovery. -/
def State.leave (s : State) (n reason : Nat) : State :=
  if s.associated n then (s.wr F.CMP_PORT_STAT_LVRSN n reason).modPort n fun p => { p with leavePend := true } else s.unexp

/-- The inbound slots of a port have failed ROWLOSS_N times in a row (R158). -/
def State.rowLoss (s : State) (n : Nat) : State :=
  if (s.port n).rows ∧ (s.port n).badRun ≥ max (s.rd F.CMP_CFG_ROWLOSS_N 0) 1 then
    let s := ((s.inc F.CMP_PORT_CNT_ROWLOSS n).raise 53 n 0).clr F.CMP_PORT_STAT_ROWLOCK n
    ((s.modPort n fun p => { p with badRun := 0 }).retrain n).2
  else s

/-! Commands -/

/-- JOIN_RSP (R159). -/
def execJoinRsp (h : CsbHdr) (port : Nat) (refuse rows : Bool) (s : State) : Res :=
  effect (Wf.joinRsp h port refuse rows) s fun s => s.csbMsg h 0 fun s => s.joinRsp port refuse rows

/-- JOIN_TMO (R159). -/
def execJoinTmo (port : Nat) (s : State) : Res := effect (Wf.joinTmo port) s fun s => s.joinTimeout port

/-- LOCK_RPT (R162). -/
def execLockRpt (h : CsbHdr) (port rate : Nat) (companion : Bool) (lanes : Nat) (s : State) : Res :=
  effect (Wf.lockRpt h port rate companion lanes) s fun s =>
    s.portMsg h port fun s => s.lockRpt port rate companion lanes

/-- CLOCK_TMO (R162). -/
def execClockTmo (port : Nat) (s : State) : Res := effect (Wf.clockTmo port) s fun s => s.lockTimeout port

/-- CEQ_DONE (R163). -/
def execCeqDone (h : CsbHdr) (port : Nat) (none_ : Bool) (s : State) : Res :=
  effect (Wf.ceqDone h port none_) s fun s => s.portMsg h port fun s => s.peerCeqEnd port

/-- CEQ_TMO (R163). -/
def execCeqTmo (port : Nat) (s : State) : Res := effect (Wf.ceqTmo port) s fun s => s.ceqTimeout port

/-- FALLBACK_ACK (R164). -/
def execFallbackAck (h : CsbHdr) (port : Nat) (s : State) : Res :=
  effect (Wf.fallbackAck h port) s fun s => s.portMsg h port fun s => s.fallbackAnswered port

/-- FALLBACK_ACK_TIMEOUT (R164). -/
def execFallbackAckTimeout (port : Nat) (s : State) : Res :=
  effect (Wf.fallbackAckTimeout port) s fun s => s.fallbackAnswered port

/-- FALLBACK_HOLD_TIMEOUT (R164). -/
def execFallbackHoldTimeout (port : Nat) (s : State) : Res :=
  effect (Wf.fallbackHoldTimeout port) s fun s => s.fallbackHoldEnd port

/-- LEAVE (R166). -/
def execLeave (h : CsbHdr) (port reason : Nat) (s : State) : Res :=
  effect (Wf.leave h port reason) s fun s => s.portMsg h port fun s => s.leave port reason

/-- ROW_LOSS (R158). -/
def execRowLoss (port : Nat) (s : State) : Res := effect (Wf.rowLoss port) s fun s => s.rowLoss port

/-- CSB_ALIGNED (R170). -/
def execCsbAligned (s : State) : Res :=
  effect Wf.csbAligned s fun s =>
    if s.rd F.CMP_CSB_STAT_STATE 0 = 1 then s.wr F.CMP_CSB_STAT_STATE 0 2 else s

/-- HELLO (R170). Its role byte decides nothing. -/
def execHello (major minor role cap : Nat) (s : State) : Res :=
  effect (Wf.hello major minor role cap) s fun s => s.hello major minor (cap % 16)

/-- HELLO_TIMER (R170). -/
def execHelloTimer (s : State) : Res :=
  effect Wf.helloTimer s fun s => if s.rd F.CMP_CSB_STAT_STATE 0 = 2 then s.sendHello else s

/-- CSB_CODE_VIOLATION_LOSS (R170). -/
def execCsbCodeViolationLoss (s : State) : Res := effect Wf.csbCodeViolationLoss s fun s => s.csbLoss 1

/-- LOSS_TMO (R170). -/
def execLossTmo (s : State) : Res := effect Wf.lossTmo s fun s => s.csbLoss 1

/-- ACK (R172). -/
def execAck (vc num : Nat) (s : State) : Res :=
  effect (Wf.ack vc num) s fun s => if s.csbUp then s.csbAck vc num else s

/-- RTX_TMO (R172). -/
def execRtxTmo (vc : Nat) (s : State) : Res := effect (Wf.rtxTmo vc) s fun s => s.retransmit vc

/-- A reserved, misdirected or unaddressed frame (R174). -/
def execReservedCsbFrame (h : CsbHdr) (why : BadFrame) (s : State) : Res :=
  effect (Wf.reservedCsbFrame h why) s fun s => s.csbAccept h State.unexp

/-- CSB_FRAME_CRC_BAD (R171): the bytes received between K27.7 and K29.7 are no frame. Frames are exchanged in HELLO, UP and
MISMATCH. -/
def execCsbFrameCrcBad (s : State) (bytes : List Nat := []) : Res :=
  effect (Wf.csbFrameCrcBad bytes) s fun s =>
    if s.rd F.CMP_CSB_STAT_STATE 0 < 2 ∨ csbFrameOk bytes then s else s.inc F.CMP_CSB_CNT_CRC_BAD 0

/-- CSB_FRAME_BOUNDARY (R172). -/
def execCsbFrameBoundary (s : State) : Res := effect Wf.csbFrameBoundary s State.frameBoundary

/-- CMP_CSB_CTL.RST (R39). -/
def execCmpCsbCtlRst (r : Requester) (s : State) : Res :=
  effect (Wf.cmpCsbCtlRst r) s fun s => s.viaCore r State.csbReset

/-- CMP_CSB_CTL.EN (R170). -/
def execCmpCsbCtlEn (r : Requester) (en : Bool) (s : State) : Res :=
  effect (Wf.cmpCsbCtlEn r en) s fun s => s.viaCore r fun s => s.csbEnable en

/-- CMP_CSB_CTL.CNT_CLR (R185). -/
def execCmpCsbCtlCntClr (r : Requester) (s : State) : Res :=
  effect (Wf.cmpCsbCtlCntClr r) s fun s => s.viaCore r State.clrCsbCnt

end Sys2Proof.Machine
end

