-- ==== Sys2Proof/Machine/Spares.lean ====
section
/-! DEFINITION. Lane sparing (R175 to R182): the failure criterion, requests and their arbitration, the steps that bring a
spare into service, and its release. -/
namespace Sys2Proof.Machine

/-- A lane of a port is active: of the trained width, and not turned off by L0p (R99, R175). -/
def State.laneActive (s : State) (n l : Nat) : Bool :=
  bit (s.port n).trained (l - firstLane n) && !bit (s.port n).offLanes (l - firstLane n)

/-- A lane for which a spare may be asked: its port is associated and in L0 or L0p, and it is active (R175, R176). -/
def State.sparable (s : State) (l : Nat) : Option Nat :=
  match s.portOfLane l with
  | some n => if s.associated n && s.ltssm n == 8 && s.laneActive n l then some n else none
  | none => none

/-- A request finds no spare (R177). -/
def State.noSpare (s : State) (h : Nat) : State :=
  ((s.inc F.SPARE_CNT_NOSPARE 0).wr F.SPARE_STAT_LAST_RES h 2).raise 56 h 0

/-- The lane, port and cause of a request. -/
def State.nameSpare (s : State) (h l n cause : Nat) : State :=
  ((s.wr F.SPARE_STAT_LANE h l).wr F.SPARE_STAT_PORT h n).wr F.SPARE_STAT_CAUSE h cause

/-- The device asks for a spare for a lane (R175, R176). A request for a half whose spare is IDLE is arbitrated with the others
of its drip, at the drip's end (R177; log entry 107). -/
def State.askSpare (s : State) (l n cause : Nat) : State :=
  let h := halfOf l
  if s.spareState h ≠ 1 then s.noSpare h
  else s.modSpare h fun p => { p with wanted := p.wanted ++ [(l, n, cause)] }

/-- The request that wins is sent (R178 step 1). -/
def State.sendSpareReq (s : State) (h l n cause : Nat) : State :=
  let s := ((s.nameSpare h l n cause).wr F.SPARE_STAT_STATE h 2).csbSend 0x30 0 [h, l, n]
  s.modSpare h fun p => { p with asked := true, start := s.drip }

/-- The settings of one lane-side are taken over by another: rate, transmit coefficients and equalizer values (R178). -/
def State.takeOver (s : State) (src dst : Nat) : State :=
  let s := [F.LANE_RX_EQ_FFE_P1, F.LANE_RX_EQ_FFE_M1, F.LANE_RX_EQ_DFE1, F.LANE_RX_EQ_CTLE, F.LANE_EQ_STAT_PRESET,
    F.LANE_EQ_STAT_CP1, F.LANE_EQ_STAT_C0, F.LANE_EQ_STAT_CM1, F.LANE_EQ_STAT_CM2, F.LANE_RX_STAT_LOGICAL,
    F.LANE_RX_STAT_POL_DET].foldl (fun a f => a.wr f dst (a.rd f src)) s
  let x := s.lane src
  s.modLane dst fun y => { y with rate := x.rate, comp := x.comp, stored := x.stored, converged := false }

/-- Step 3 of R178: the spare sends a copy of the lane, and its receiver starts to acquire. -/
def State.shadowSpare (s : State) (h : Nat) : State :=
  let s := (s.takeOver (innerLs (s.spareLane h)) (64 + h)).setTx true (64 + h)
  let s := (s.setAstate (64 + h) 2).wr F.SPARE_STAT_STATE h 3
  s.modSpare h fun p => { p with asked := false, waits := false, copying := true, tracked := false }

/-- A spare is granted: it enters SHADOW, or first waits in REQUESTED for the calibration step that has an element of it out
(R178, R291). -/
def State.grantSpare (s : State) (h : Nat) : State :=
  let s := s.wr F.SPARE_STAT_LAST_RES h 1
  if s.rd F.LANE_SLICE_STAT_CALSLICE (64 + h) = 0x7F then s.shadowSpare h
  else (s.wr F.SPARE_STAT_STATE h 2).modSpare h fun p => { p with asked := false, waits := true }

/-- The copy runs the other way at a release: lane l sends what the spare sends, and its receiver acquires (R181). -/
def State.unshadowSpare (s : State) (h : Nat) : State :=
  let l := s.spareLane h
  let s := ((s.takeOver (64 + h) (innerLs l)).setTx true (innerLs l)).setAstate (innerLs l) 2
  s.modSpare h fun p => { p with asked := false, copying := true, tracked := false }

/-- A request of the device is refused, or not answered, at step 2 (R178, R180). -/
def State.spareRefused (s : State) (h res : Nat) : State :=
  (s.inc F.SPARE_CNT_REFUSED 0).abandonSpare h res false

/-- A release that is refused, or not answered, leaves the spare ACTIVE (R181). -/
def State.releaseRefused (s : State) (h : Nat) : State :=
  ((s.wr F.SPARE_STAT_STATE h 4).markSpare h true).modSpare h fun p => { p with asked := false }

/-- SPARE_RSP (R177, R178, R181). -/
def State.spareRsp (s : State) (h l res : Nat) : State :=
  if !(s.spare h).asked ∨ s.spareLane h ≠ l then s
  else if s.spareState h = 2 then
    if res = 0 then s.grantSpare h
    else if res = 1 then (s.spareIdle h).noSpare h
    else if res = 2 then s.spareRefused h 3
    else s
  else if s.spareState h = 5 then
    if res = 0 then s.unshadowSpare h
    else if res ≤ 2 then s.releaseRefused h
    else s
  else s

/-- No SPARE_RSP within 1 ms: the request, or the release, counts as refused (R178, R181). -/
def State.spareRspTimeout (s : State) (h : Nat) : State :=
  if !(s.spare h).asked then s
  else if s.spareState h = 2 then s.spareRefused h 4
  else if s.spareState h = 5 then s.releaseRefused h
  else s

/-- Step 4 of R178: the receiver that acquires reaches TRACK, and the arrival offset is measured. -/
def State.spareTrack (s : State) (h offset : Nat) : State :=
  if !(s.spare h).copying ∨ ¬(s.spareState h = 3 ∨ s.spareState h = 5) then s
  else
    let ls := if s.spareState h = 3 then 64 + h else innerLs (s.spareLane h)
    let s := ((s.setAstate ls 5).setF F.LANE_RX_STAT_CDR_LOCK ls).setF F.LANE_RX_STAT_SIGDET ls
    (s.modLane ls fun l => { l with converged := true }).modSpare h fun p => { p with tracked := true, offset := offset }

/-- The spare is in service (R178 step 6, R179). -/
def State.spareActive (s : State) (h : Nat) : State :=
  let l := s.spareLane h
  let s := ((s.wr F.SPARE_STAT_STATE h 4).inc F.SPARE_CNT_GRANT 0).laneOff (innerLs l)
  let s := s.markSpare h true
  (s.modLane (innerLs l) fun x => { x with badWindows := 0, syms := 0, relocks := 0 }).modSpare h
    fun p => { p with copying := false, tracked := false }

/-- Both receivers have changed over: the procedure ends. -/
def State.spareProgress (s : State) (h : Nat) : State :=
  let p := s.spare h
  if p.ending then s.spareEnd h
  else if s.spareState h = 3 ∧ p.rxOwn ∧ p.rxPeer then s.spareActive h
  else if s.spareState h = 5 ∧ p.copying ∧ !p.rxOwn ∧ !p.rxPeer then s.spareIdle h
  else s

/-- Step 5 of R178: the device's receiver changes over, and says so; in an abandoned procedure it returns to the lane (R180). -/
def State.spareSwitch (s : State) (h : Nat) : State :=
  if (s.spare h).ending then
    if (s.spare h).rxOwn then
      ((s.sendRxOn h (s.spareLane h) 0).modSpare h fun p => { p with rxOwn := false }).spareEnd h
    else s
  else if !(s.spare h).tracked then s
  else if s.spareState h = 3 ∧ !(s.spare h).rxOwn then
    ((s.sendRxOn h (s.spareLane h) 1).modSpare h fun p => { p with rxOwn := true }).spareProgress h
  else if s.spareState h = 5 ∧ (s.spare h).rxOwn then
    ((s.sendRxOn h (s.spareLane h) 0).modSpare h fun p => { p with rxOwn := false }).spareProgress h
  else s

/-- Step 6 of R178: SPARE_RX_ON of the peer silences the transmitter it no longer uses. -/
def State.spareRxOn (s : State) (h l : Nat) (uses : Bool) : State :=
  if s.spareLane h ≠ l then s
  else if s.spareState h = 3 then
    let s := s.modSpare h fun p => { p with rxPeer := uses }
    (s.setTx (!uses || (s.spare h).ending) (innerLs l)).spareProgress h
  else if s.spareState h = 5 then
    let s := s.modSpare h fun p => { p with rxPeer := uses }
    (s.setTx uses (64 + h)).spareProgress h
  else s

/-- SPARE_RSP of the device (R174). -/
def State.answerSpare (s : State) (h l res : Nat) : State := s.csbSend 0x31 0 [h, l, res]

/-- SPARE_REQ of the switch ASIC (R174, R176, R177). -/
def State.spareReq (s : State) (h l n : Nat) : State :=
  if 16 ≤ n ∨ ¬s.present n ∨ ¬s.associated n then s.unexp
  else if !s.flag F.SPARE_CFG_SW_REQ_EN 0 ∨ 32 ≤ l ∨ s.sparable l ≠ some n ∨ halfOf l ≠ h then s.answerSpare h l 2
  else if s.spareState h ≠ 1 then (s.noSpare h).answerSpare h l 1
  else s.modSpare h fun p => { p with peerWanted := p.peerWanted ++ [(l, n)] }

/-- The request of the lowest lane. -/
def lowestReq {α : Type} : List (Nat × α) → Option (Nat × α)
  | [] => none
  | r :: t => match lowestReq t with
    | some q => if r.1 ≤ q.1 then some r else some q
    | none => some r

/-- The requests of a drip for the spare of a half are arbitrated (R177): of those that still hold, one of the device's wins over
one of the switch ASIC, and the lowest lane over the others. A request whose lane has left service meanwhile is dropped, or refused. -/
def State.arbitrate (s : State) (h : Nat) : State :=
  let holds := fun (l n : Nat) => s.sparable l == some n
  let own := (s.spare h).wanted.filter fun r => holds r.1 r.2.1
  let peer := (s.spare h).peerWanted
  if (s.spare h).wanted.isEmpty && peer.isEmpty then s
  else
    let s := s.modSpare h fun p => { p with wanted := [], peerWanted := [] }
    let s := forEach (peer.filter fun r => !holds r.1 r.2) (fun r a => a.answerSpare h r.1 2) s
    let peer := peer.filter fun r => holds r.1 r.2
    let free := s.spareState h == 1
    let winner := if free then lowestReq own else none
    let guest := if free && winner.isNone then lowestReq peer else none
    let s := forEach (match winner with | some r => own.erase r | none => own) (fun _ a => a.noSpare h) s
    let s := forEach (match guest with | some r => peer.erase r | none => peer) (fun r a => (a.noSpare h).answerSpare h r.1 1) s
    match winner, guest with
    | some r, _ => s.sendSpareReq h r.1 r.2.1 r.2.2
    | none, some r =>
      let s := (s.nameSpare h r.1 r.2 5).answerSpare h r.1 0
      (s.modSpare h fun p => { p with start := s.drip }).grantSpare h
    | none, none => s

/-- A drip boundary for a spare: one granted enters SHADOW once its calibration step has ended, and the requests of the drip are
arbitrated (R177, R291). -/
def State.spareDrip (s : State) (h : Nat) : State :=
  let s := if (s.spare h).waits ∧ s.rd F.LANE_SLICE_STAT_CALSLICE (64 + h) = 0x7F then s.shadowSpare h else s
  s.arbitrate h

/-- A manual request (R176). -/
def State.spareManual (s : State) (l : Nat) : State :=
  match s.sparable l with
  | some n => s.askSpare l n 0
  | none => s.wr F.SPARE_STAT_LAST_RES (halfOf l) 7

/-- A release is asked for (R181). -/
def State.spareRelease (s : State) (h : Nat) : State :=
  if s.spareState h ≠ 4 then s
  else
    let s := ((s.wr F.SPARE_STAT_STATE h 5).markSpare h false).csbSend 0x33 0 [h, s.spareLane h]
    s.modSpare h fun p => { p with asked := true, copying := false, tracked := false, start := s.drip }

/-- SPARE_CFG.TMO runs out (R178, R180). An abandoned procedure whose receivers have not returned then ends all the same (log
entry 106). -/
def State.spareTimeout (s : State) (h : Nat) : State :=
  if (s.spare h).ending then s.spareIdle h
  else if s.spareState h = 2 ∨ s.spareState h = 3 ∨ s.spareState h = 5 then s.abandonSpare h 5 false else s

/-- LANE_HEALTH: the counts of symbols that the switch ASIC corrected, by lane offset (R174, R175). -/
def State.laneHealth (s : State) (n : Nat) (counts : List Nat) : State :=
  forUp (s.width n) (fun i a => a.modLane (a.innerOf (firstLane n + i)) fun x =>
    { x with health := (counts.drop i).headD 0, healthAge := 0 }) s

/-- The failure criterion of a lane over the window that ends: the cause of the first part met, none where none is (R175). -/
def State.laneFails (s : State) (l : Nat) : Option Nat :=
  let x := s.lane (s.innerOf l)
  let thr := max (s.rd F.SPARE_THR_SYM_THR 0) 1
  let lock := s.rd F.SPARE_THR_LOCK_THR 0
  if x.syms ≥ thr then some 1
  else if lock ≠ 0 ∧ x.relocks ≥ lock then some 2
  else if x.healthAge < 2 ∧ x.health ≥ thr then some 4
  else none

/-- A lane at the end of a window (R175, R177): a lane that an ACTIVE spare already carries gets no other. -/
def State.windowLane (s : State) (l : Nat) : State :=
  let ls := s.innerOf l
  let s := match s.sparable l, s.laneFails l with
    | some n, some cause =>
      let s := s.modLane ls fun x => { x with badWindows := x.badWindows + 1 }
      if (s.lane ls).badWindows ≥ max (s.rd F.SPARE_CFG_PERSIST 0) 1 then
        if ls < 64 then s.askSpare l n cause else s.raise 56 (ls - 64) 0
      else s
    | _, _ => s.modLane ls fun x => { x with badWindows := 0 }
  s.modLane ls fun x => { x with syms := 0, relocks := 0, healthAge := min (x.healthAge + 1) 2 }

/-- A sparing window ends (R175): lower lanes come first (R177). -/
def State.spareWindow (s : State) : State :=
  if s.flag F.SPARE_CFG_AUTO 0 then forUp 32 (fun l a => a.windowLane l) s
  else forUp 32 (fun l a => a.modLane (a.innerOf l) fun x =>
    { x with badWindows := 0, syms := 0, relocks := 0, healthAge := min (x.healthAge + 1) 2 }) s

/-- LANE_SLICE_LOW of an inner receive lane-side asks for a spare at once (R175). -/
def State.sliceLowSpare (s : State) (ls : Nat) : State :=
  if !s.flag F.SPARE_CFG_AUTO 0 ∨ ls < 32 ∨ 64 ≤ ls then s
  else match s.sparable (ls - 32) with
    | some n => if s.innerOf (ls - 32) = ls then s.askSpare (ls - 32) n 3 else s
    | none => s

/-- A spare that is needed has powered up (R182). -/
def State.sparePowerUp (s : State) (h : Nat) : State :=
  if s.spareState h = 0 ∧ s.spareNeeded h then (s.wr F.SPARE_STAT_STATE h 1).gateSpares else s

/-! Commands -/

/-- SPARE_REQ (R176). -/
def execSpareReq (h : CsbHdr) (half lane port : Nat) (s : State) : Res :=
  effect (Wf.spareReq h half lane port) s fun s => s.csbMsg h 0 fun s => s.spareReq half lane port

/-- SPARE_RSP (R178). -/
def execSpareRsp (h : CsbHdr) (half lane res : Nat) (s : State) : Res :=
  effect (Wf.spareRsp h half lane res) s fun s => s.csbMsg h 0 fun s => s.spareRsp half lane res

/-- SPARE_RSP_TIMEOUT (R178). -/
def execSpareRspTimeout (half : Nat) (s : State) : Res :=
  effect (Wf.spareRspTimeout half) s fun s => s.spareRspTimeout half

/-- SPARE_TRACK (R178). -/
def execSpareTrack (half offset : Nat) (s : State) : Res :=
  effect (Wf.spareTrack half offset) s fun s => s.spareTrack half offset

/-- SPARE_SWITCHOVER (R178). -/
def execSpareSwitchover (half : Nat) (s : State) : Res :=
  effect (Wf.spareSwitchover half) s fun s => s.spareSwitch half

/-- SPARE_RX_ON (R178). -/
def execSpareRxOn (h : CsbHdr) (half lane : Nat) (uses : Bool) (s : State) : Res :=
  effect (Wf.spareRxOn h half lane uses) s fun s => s.csbMsg h 0 fun s => s.spareRxOn half lane uses

/-- SPARE_TMO (R180). -/
def execSpareTmo (half : Nat) (s : State) : Res := effect (Wf.spareTmo half) s fun s => s.spareTimeout half

/-- LANE_HEALTH (R175). -/
def execLaneHealth (h : CsbHdr) (port window : Nat) (counts : List Nat) (s : State) : Res :=
  effect (Wf.laneHealth h port window counts) s fun s => s.portMsg h port fun s =>
    if s.associated port then s.laneHealth port counts else s.unexp

/-- SPARE_WINDOW (R175). -/
def execSpareWindow (s : State) : Res := effect Wf.spareWindow s State.spareWindow

/-- SPARE_CTL.REQ (R176). -/
def execSpareCtlReq (r : Requester) (lane : Nat) (s : State) : Res :=
  effect (Wf.spareCtlReq r lane) s fun s => s.viaCore r fun s => s.spareManual lane

/-- SPARE_CTL.REL_S0 (R181). -/
def execSpareCtlRelS0 (r : Requester) (s : State) : Res :=
  effect (Wf.spareCtlRelS0 r) s fun s => s.viaCore r fun s => s.spareRelease 0

/-- SPARE_CTL.REL_S1 (R181). -/
def execSpareCtlRelS1 (r : Requester) (s : State) : Res :=
  effect (Wf.spareCtlRelS1 r) s fun s => s.viaCore r fun s => s.spareRelease 1

/-- SPARE_CTL.CNT_CLR (R189). -/
def execSpareCtlCntClr (r : Requester) (s : State) : Res :=
  effect (Wf.spareCtlCntClr r) s fun s => s.viaCore r fun s => s.clrAll Reg.SPARE_CNT.fields 0

/-- SPARE_POWER_UP (R182). -/
def execSparePowerUp (half : Nat) (s : State) : Res := effect (Wf.sparePowerUp half) s fun s => s.sparePowerUp half

end Sys2Proof.Machine
end

