-- ==== Sys2Proof/Machine/Slots.lean ====
section
/-! DEFINITION. Surplus slots (chapter 6): the slots the device sends and receives, replay, Hold replacement, the class-3
policer and refusal notices, token buckets, and the sampling of queues. -/
namespace Sys2Proof.Machine

/-! The slot format (R190, R191, R192) -/

/-- HCRC of a slot that ends row `row` on port n (R191). -/
def slotHcrc (row n : Nat) (h : List Nat) : Nat := crc16 ([row % 256, row / 256 % 256, n] ++ h)

/-- A slot with a header of four bytes and a payload, with PCRC for classes 1 to 4 (R190, R192). -/
def mkSlot (n row : Nat) (h payload : List Nat) (pcrc : Bool) : List Nat :=
  let hd := h ++ leBytes (slotHcrc row n h) 2
  if pcrc then
    let b := hd ++ padTo payload 246
    b ++ leBytes (crc32c b) 4
  else hd ++ padTo payload 250

/-- HCRC of a received slot matches (R192). -/
def hcrcOk (n row : Nat) (slot : List Nat) : Bool := slotHcrc row n (slot.take 4) == leAt slot 4 2

/-- PCRC of a received slot matches (R192). -/
def pcrcOk (slot : List Nat) : Bool := crc32c (slot.take 252) == leAt slot 252 4

/-- The row whose slot the device decides next, and the row of the slot it receives next. -/
def State.outRow (s : State) (n : Nat) : Nat := (s.port n).slotsOut % 65536
def State.inRow (s : State) (n : Nat) : Nat := (s.port n).slotsIn % 65536

/-- The device sends a slot of port n at the row now ending. -/
def State.sendSlot (s : State) (n : Nat) (h payload : List Nat) (pcrc : Bool) : State :=
  s.emit (.slot n (mkSlot n (s.outRow n) h payload pcrc))

/-! Queue depth and delay (R212, R213) -/

/-- Depth of a class's queue. -/
def State.qDepth (s : State) (n c : Nat) : Nat :=
  let p := s.port n
  if c = 0 then p.rplReqs.length
  else if c = 1 then (p.holdReqs.filter fun r => !r.sent).length
  else if c = 2 then p.errata.length
  else if c = 3 then b2n (!p.refused.isEmpty) + (s.view (n + 1)).q3.length
  else s.chunksLeft n

/-- The largest of a list of ages, 0 where there is none. -/
def maxAge (l : List Nat) : Nat := l.foldl max 0

/-- Slots passed since the oldest pending item of a class became complete. -/
def State.qDelay (s : State) (n c : Nat) : Nat :=
  let p := s.port n
  min 255 <|
    if c = 0 then maxAge (p.rplReqs.map RplReq.age)
    else if c = 1 then maxAge ((p.holdReqs.filter fun r => !r.sent).map HoldReq.age)
    else if c = 2 then maxAge (p.errata.map ErrEntry.age)
    else if c = 3 then max p.refAge (maxAge ((s.view (n + 1)).q3.map C3Item.age))
    else if (s.heat n).chunk.isSome then p.chunkAge else 0

/-- The watermark comparison of R213. -/
def State.qCompare (s : State) (n : Nat) : State :=
  forUp 5 (fun c a =>
    let a := if a.qDepth n c > a.rd F.CMP_Q_WM_DEPTH_WM c then a.setF F.CMP_Q_STAT_DWM (5 * n + c) else a
    if a.qDelay n c > a.rd F.CMP_Q_WM_DELAY_WM c then a.setF F.CMP_Q_STAT_TWM (5 * n + c) else a) s

/-- The sample at a drip boundary (R212). -/
def State.qSample (s : State) (n : Nat) : State :=
  (forUp 5 (fun c a => (a.wr F.CMP_Q_STAT_DEPTH (5 * n + c) (a.qDepth n c)).wr F.CMP_Q_STAT_DELAY (5 * n + c) (a.qDelay n c)) s).qCompare n

/-- A slot passes: what stays pending grows older; the newest `young` replay requests are not complete yet. -/
def State.ageQueues (s : State) (n young : Nat) : State :=
  let k := (s.port n).rplReqs.length - young
  let old : List RplReq → List RplReq := fun l =>
    (l.take k).map (fun r => { r with age := r.age + 1 }) ++ l.drop k
  let s := s.modPort n fun p => { p with
    rplReqs := old p.rplReqs
    holdReqs := p.holdReqs.map fun r => if r.sent then r else { r with age := r.age + 1 }
    errata := p.errata.map fun e => { e with age := e.age + 1 }
    refAge := if p.refused.isEmpty then 0 else p.refAge + 1
    chunkAge := if (s.heat n).chunk.isSome then p.chunkAge + 1 else 0 }
  s.modView (n + 1) fun w => { w with q3 := w.q3.map fun i => { i with age := i.age + 1 } }

/-! Token buckets (R202, R203) -/

/-- A bucket after a refill. -/
def refill (tok rate burst : Nat) : Nat := min (tok + rate) (16 * max burst 1)

/-- A drip boundary refills the buckets of a port with the settings then written (R202, R203). -/
def State.refillPort (s : State) (n : Nat) : State :=
  s.modPort n fun p => { p with
    shape := s.word .CMP_SHAPE_CFG n
    police := s.word .CMP_POLICE_CFG n
    tok3 := refill p.tok3 (s.rd F.CMP_SHAPE_CFG_RATE3 n) (s.rd F.CMP_SHAPE_CFG_BURST3 n)
    tok4 := refill p.tok4 (s.rd F.CMP_SHAPE_CFG_RATE4 n) (s.rd F.CMP_SHAPE_CFG_BURST4 n)
    tokP := refill p.tokP (s.rd F.CMP_POLICE_CFG_RATE n) (s.rd F.CMP_POLICE_CFG_BURST n) }

/-- A drip boundary refills the bucket of a view (R318). -/
def State.refillView (s : State) (v : Nat) : State :=
  s.modView v fun w => { w with
    pol := some (s.word .MGMT_VIEW_POL v)
    tok := refill w.tok (s.rd F.MGMT_VIEW_POL_RATE v) (s.rd F.MGMT_VIEW_POL_BURST v) }

/-- CMP_TOKEN_STAT: the buckets in quarter slots (R216). -/
def State.showTokens (s : State) (n : Nat) : State :=
  let p := s.port n
  ((s.wr F.CMP_TOKEN_STAT_TOK_POL n (p.tokP / 4)).wr F.CMP_TOKEN_STAT_TOK4 n (p.tok4 / 4)).wr F.CMP_TOKEN_STAT_TOK3 n (p.tok3 / 4)

/-! Outbound slots (R194 to R200) -/

/-- The bytes of an erratum entry (R196). -/
def ErrEntry.bytes (e : ErrEntry) : List Nat :=
  leBytes e.row 2 ++ [e.index * 8 + e.issue, 0] ++ padTo (e.pairs.flatMap fun p => [p.1, p.2]) 6

/-- An erratum entry may go into the slot of row r: not before its first row, nor after its deadline (R134, R136). -/
def ErrEntry.eligible (e : ErrEntry) (r : Nat) : Bool := decide (e.first ≤ r) && decide (r ≤ e.due)

/-- Insert an entry before the first of a later deadline. -/
def insertErr (e : ErrEntry) : List ErrEntry → List ErrEntry
  | [] => [e]
  | x :: t => if e.due < x.due then e :: x :: t else x :: insertErr e t

/-- Entries by deadline, the earliest first; equal deadlines in order of creation. -/
def errOrder (l : List ErrEntry) : List ErrEntry := l.foldl (fun a e => insertErr e a) []

/-- Class 2: up to 24 entries, earliest deadline first (R133, R134, R196, R200). -/
def State.sendErrata (s : State) (n : Nat) : State :=
  let r := (s.port n).slotsOut
  let es := (errOrder ((s.port n).errata.filter fun e => e.eligible r)).take 24
  let num := (s.port n).errNum
  let s := s.sendSlot n ([64 + es.length, 0] ++ leBytes num 2) (es.flatMap ErrEntry.bytes) true
  let s := (s.incBy F.PORT_ERRATA_SENT_SENT n es.length).wr F.PORT_ERRATA_STAT_ERR_SEQ n num
  let s := es.foldl (fun a e => if e.issue = 0 then a.wrMax F.PORT_ERRATA_STAT_LAG_MAX n (min (r - e.born) 3) else a) s
  s.modPort n fun p => { p with errNum := (num + 1) % 65536, errata := p.errata.filter fun e => !es.contains e }

/-- Class 1: up to 60 Hold requests, oldest first (R195, R200). -/
def State.sendHoldReqs (s : State) (n : Nat) : State :=
  let rs := ((s.port n).holdReqs.filter fun r => !r.sent).take 60
  let num := (s.port n).rqn
  let s := s.sendSlot n ([32, rs.length] ++ leBytes num 2) (rs.flatMap fun r => leBytes r.row 2 ++ [r.index * 8, 0]) true
  s.modPort n fun p => { p with
    rqn := (num + 1) % 65536
    holdReqs := p.holdReqs.map fun r => if rs.contains r then { r with sent := true, age := 0 } else r }

/-- The position that a replay request names: none where it names no row begun (R206). -/
def State.rplPos (s : State) (n : Nat) (q : RplReq) : Option Nat :=
  let d := (s.outRow n + 65536 - q.row) % 65536
  if d ≥ 32768 ∨ d ≥ (s.port n).slotsOut + 1 then none else some (32 * ((s.port n).slotsOut - d) + q.index)

/-- What a replay request finds (R206): its flit's position, or the REASON of a GONE slot. `undecoded` flits have been sent
and are still being decoded. -/
def State.classifyRpl (s : State) (n undecoded : Nat) (q : RplReq) : Sum Nat Nat :=
  match s.rplPos n q with
  | none => .inr 2
  | some pos =>
    let sent := (s.port n).outPos + undecoded
    if pos ≥ sent then .inr 2
    else if sent - 1 - pos ≥ s.replayShare n then .inr 1
    else .inl pos

/-- The request names a flit sent whose decode has not ended: it is served once it has (R136, R206), and the requests behind it
wait with it (DESIGN CHOICE, log entry 105). -/
def State.rplWaits (s : State) (n undecoded : Nat) (q : RplReq) : Bool :=
  match s.classifyRpl n undecoded q with
  | .inl pos => decide (pos ≥ (s.port n).outPos)
  | .inr _ => false

/-- An ECC outcome within the 32 words of a flit's place in the replay store (R35, R37, R383). -/
def Ecc.inFlit (place : Nat) : Ecc → Ecc
  | .ok => .ok
  | .ce w => .ce (32 * place + w % 32)
  | .ue w => .ue (32 * place + w % 32)

/-- A GONE slot (R194, R206). -/
def State.sendGone (s : State) (n : Nat) (q : RplReq) (reason : Nat) : State :=
  let s := s.sendSlot n ([16 + 4 * reason, q.index * 8] ++ leBytes q.row 2) [] false
  let s := s.inc F.CMP_RPL_CNT_GONE n
  if reason = 2 then s.inc F.CMP_RPL_CNT_MALREQ n else s

/-- A body of the replay store, with the erratum entry that follows it (R136, R194, R206). -/
def State.sendBody (s : State) (n : Nat) (q : RplReq) (e : RplEntry) : State :=
  let k := e.issues + 1
  let s := (s.sendSlot n ([0, q.index * 8 + min k 7] ++ leBytes q.row 2) e.body false).inc F.CMP_RPL_SENT_SENT n
  let r := (s.port n).slotsOut
  let ps := e.pairs.filter fun p => p.1 ≤ 249
  s.modPort n fun p => { p with
    store := p.store.map fun x => if x.pos = e.pos then { x with issues := k } else x
    errata := if ps = [] then p.errata else p.errata ++
      [{ row := q.row, index := q.index, issue := min k 7, pairs := ps, born := r, first := r + 1, due := r + 2, age := 0 }] }

/-- Class 0 answers the oldest complete replay request (R200, R206); a body that cannot be read is answered GONE (R385). -/
def State.sendReplay (s : State) (n undecoded : Nat) (q : RplReq) (ecc : Ecc) : State :=
  let s := s.modPort n fun p => { p with rplReqs := p.rplReqs.drop 1 }
  match s.classifyRpl n undecoded q with
  | .inr reason => s.sendGone n q reason
  | .inl pos =>
    let s := s.eccRead 3 (Ecc.inFlit (s.replayPlace n pos) ecc)
    match (s.port n).store.find? fun e => e.pos == pos with
    | some e => if Ecc.isUe ecc then s.sendGone n q 1 else s.sendBody n q e
    | none => s.sendGone n q 1

/-- A refusal notice, built from the whole list (R205). -/
def State.sendNotice (s : State) (n : Nat) : State :=
  let p := s.port n
  let pay := [p.refused.length, b2n p.refOvf] ++ p.refused.flatMap fun m => leBytes m 2
  let s := (s.sendSlot n [96, 1, 0, 0] pay true).inc F.CMP_POLICE_CNT_NOTICE n
  s.modPort n fun p => { p with refused := [], refOvf := false, refAge := 0, tok3 := p.tok3 - 16 }

/-- A response of view n + 1 leaves in a class-3 slot: an entry of the ring, or a hardware response (R197, R311, R312). -/
def State.sendMessage (s : State) (n : Nat) (i : C3Item) : State :=
  let e := match i.ptr with
    | some p => s.rspEntry (n + 1) p
    | none => i.bytes
  let s := (s.sendSlot n ([96, 0] ++ leBytes (entrySeq e) 2) e true).modPort n fun p => { p with tok3 := p.tok3 - 16 }
  let s := s.modView (n + 1) fun w => { w with q3 := w.q3.drop 1 }
  match i.ptr with
  | some p => s.rspSent (n + 1) p
  | none => s

/-- A chunk of the export (R198, R241). -/
def State.sendChunk (s : State) (n : Nat) (c : List Nat) : State :=
  let zoom := s.flag F.HEAT_EXP_STAT_ZPH n
  let num := s.rd F.HEAT_EXP_STAT_NEXT n + (if zoom then s.rd F.HEAT_EXP_STAT_ZWIN n * 4096 else 0)
  let b0 := 128 + 16 * b2n (s.lastChunk n) + 8 * b2n zoom
  let s := s.sendSlot n ([b0, s.rd F.HEAT_EXP_STAT_EPOCH n % 256] ++ leBytes num 2) c true
  (s.modPort n fun p => { p with tok4 := if p.tok4 ≥ 16 then p.tok4 - 16 else p.tok4, chunkAge := 0 }).chunkSent n

/-- Class 7 (R199). -/
def State.sendFill (s : State) (n : Nat) : State := s.sendSlot n [224, 0, 0, 0] [] false

/-- Cases 5 to 7 of R200. -/
def State.sendLow (s : State) (n : Nat) : State :=
  match (s.heat n).chunk with
  | some c => if s.flag F.HEAT_EXP_STAT_ACTIVE n && !s.flag F.HEAT_EXP_STAT_WAIT n then s.sendChunk n c else s.sendFill n
  | none => s.sendFill n

/-- Case 4 of R200: the notice before any entry. A response entry that cannot be read is discarded (R385). -/
def State.sendClass3 (s : State) (n : Nat) (ecc : Ecc) : State :=
  if !(s.port n).refused.isEmpty then s.sendNotice n
  else match (s.view (n + 1)).q3 with
    | [] => s.sendLow n
    | i :: t =>
      let s := if i.ptr.isSome then s.eccRead 7 ecc else s
      if i.ptr.isSome && Ecc.isUe ecc then
        ((s.modView (n + 1) fun w => { w with q3 := t }).rspDrop (n + 1) i.ptr).sendLow n
      else s.sendMessage n i

/-- Cases 4 to 7 of R200. -/
def State.sendUpper (s : State) (n : Nat) (ecc : Ecc) : State :=
  if (s.port n).shape % 2 ^ 10 ≠ 0 ∧ (s.port n).tok3 ≥ 16 then s.sendClass3 n ecc else s.sendLow n

/-- The choice of R200, with the newest `young` replay requests not yet complete (R201, R207). -/
def State.chooseSlot (s : State) (n young undecoded : Nat) (ecc : Ecc) : State :=
  let p := s.port n
  if p.errata.any fun e => e.eligible p.slotsOut then s.sendErrata n
  else if p.holdReqs.any fun r => !r.sent then s.sendHoldReqs n
  else match p.rplReqs.take (p.rplReqs.length - young) with
    | q :: _ => if s.rplWaits n undecoded q then s.sendUpper n ecc else s.sendReplay n undecoded q ecc
    | [] => s.sendUpper n ecc

/-- The decision instant of an outbound slot (R200, R213), at which `undecoded` flits of the row have been sent and are still
being decoded, and `unsent` are yet to be sent: with them the row has its 32 data flits (R155, R157; log entry 103). -/
def State.slotDecision (s : State) (n young undecoded unsent : Nat) (ecc : Ecc) : State :=
  if !(s.port n).rows || (s.port n).outPos + undecoded + unsent != 32 * ((s.port n).slotsOut + 1) then s
  else
    let s := ((s.qCompare n).chooseSlot n young undecoded ecc).ageQueues n young
    s.modPort n fun p => { p with slotsOut := p.slotsOut + 1 }

/-- Entries whose deadline has passed are discarded (R135). -/
def State.errDeadline (s : State) (n : Nat) : State :=
  let late := (s.port n).errata.filter fun e => e.due < (s.port n).slotsOut
  let s := s.modPort n fun p => { p with errata := p.errata.filter fun e => !(e.due < p.slotsOut) }
  late.foldl (fun a _ => (a.inc F.PORT_ERRATA_CNT_DROP n).raise 51 n 0) s

/-! Inbound slots (R192, R193, R457) -/

/-- The class of a slot. -/
def slotClass (slot : List Nat) : Nat := byteAt slot 0 / 32

/-- The class-specific fields are in range, and the class may travel inbound (R193, R457). Class 0 needs Hold. -/
def State.slotFits (s : State) (n : Nat) (slot : List Nat) : Bool :=
  let c := slotClass slot
  let gone := bit (byteAt slot 0) 4
  let reason := byteAt slot 0 / 4 % 4
  if c = 0 then reason != 3 && (gone == (reason == 1 || reason == 2)) && s.rd F.PORT_STAT_EMODE_IO n == 3
  else if c = 1 then 1 ≤ byteAt slot 1 && byteAt slot 1 ≤ 60
  else if c = 3 then byteAt slot 1 == 0
  else c == 7

/-- The Hold delay in picoseconds (R209). -/
def State.holdPs (s : State) (n : Nat) : Nat := max (s.rd F.CMP_HOLD_CFG_DELAY n) 8 * 4000

/-- A body is in time (R210). -/
def State.inTime (s : State) (n ps : Nat) : Bool :=
  decide (ps + flitPs (s.rd F.PORT_LINK_STAT_AWIDTH n) (s.rate n) + 3000 ≤ s.holdPs n)

/-- A Hold request ends. -/
def State.endHold (s : State) (n : Nat) (q : HoldReq) : State :=
  s.modPort n fun p => { p with holdReqs := p.holdReqs.erase q }

/-- A body replaces the flit it names in the Hold store (R209). -/
def State.putBody (s : State) (n : Nat) (q : HoldReq) (body : List Nat) (info : FlitInfo) : State :=
  s.modPort n fun p => { p with held := p.held.map fun h =>
    if h.row = q.row ∧ h.index = q.index then { h with body := some (body, info) } else h }

/-- A class-0 slot answers a Hold request (R209, R210). -/
def State.holdAnswer (s : State) (n : Nat) (slot : List Nat) (arr : BodyArrival) : State :=
  let row := leAt slot 2 2
  let idx := byteAt slot 1 / 8
  match (s.port n).holdReqs.find? fun r => r.row == row && r.index == idx with
  | none => s.inc F.CMP_SLOT_CNT_MALF n
  | some q =>
    let fail := fun (a : State) => if q.held then a.inc F.CMP_HOLD_CNT2_FAIL n else a
    let s := s.endHold n q
    if bit (byteAt slot 0) 4 then fail s
    else if q.held && s.inTime n arr.ps then
      if arr.crcOk then (s.inc F.CMP_HOLD_CNT_OK n).putBody n q (sliceBytes slot 6 250) arr.info else fail s
    else fail (s.inc F.CMP_HOLD_CNT2_LATE n)

/-- A class-1 slot queues its requests (R195, R207). -/
def State.takeRequests (s : State) (n : Nat) (slot : List Nat) : State :=
  forUp (byteAt slot 1) (fun j a =>
    if (a.port n).rplReqs.length ≥ 64 then a.inc F.CMP_RPL_CNT_OVF n
    else a.modPort n fun p => { p with rplReqs := p.rplReqs ++
      [{ row := leAt slot (6 + 4 * j) 2, index := byteAt slot (8 + 4 * j) / 8, age := 0 }] }) s

/-- A class-3 slot meets the port's policer and then the checks of the view (R204, R309). -/
def State.takeMessage (s : State) (n : Nat) (slot : List Nat) : State :=
  let p := s.port n
  if bit p.police 16 ∧ p.tokP < 16 then s.refuseMsg n (leAt slot 2 2)
  else
    let s := if bit p.police 16 then s.modPort n fun p => { p with tokP := p.tokP - 16 } else s
    s.request (n + 1) 4 0 0 (sliceBytes slot 6 128) false

/-- What a slot that passed every check does. -/
def State.actSlot (s : State) (n : Nat) (slot : List Nat) (arr : Option BodyArrival) : State :=
  let c := slotClass slot
  if c = 0 then match arr with
    | some a => s.holdAnswer n slot a
    | none => s
  else if c = 1 then s.takeRequests n slot
  else if c = 3 then s.takeMessage n slot
  else s

/-- An inbound slot stands at the stream's position: the 32 data flits of its row have arrived, the last of them perhaps still
being decoded (R155, R158; log entry 103). -/
def State.slotHere (s : State) (n : Nat) : Bool :=
  let p := s.port n
  p.rows && decide (32 * (p.slotsIn + 1) ≤ p.inPos + 1) && decide (p.inPos ≤ 32 * (p.slotsIn + 1))

/-- An inbound slot meets the checks of R192 in order. A good header ends a run of bad ones and locks the rows (R158, R165). -/
def State.inboundSlot (s : State) (n : Nat) (slot : List Nat) (arr : Option BodyArrival) : State :=
  if !s.slotHere n then s
  else
    let row := s.inRow n
    let s := s.modPort n fun p => { p with slotsIn := p.slotsIn + 1 }
    if !hcrcOk n row slot || slotClass slot == 5 || slotClass slot == 6 then
      (s.inc F.CMP_PORT_CNT_BADSLOT n).modPort n fun p => { p with badRun := p.badRun + 1 }
    else
      let s := (s.modPort n fun p => { p with badRun := 0 }).setF F.CMP_PORT_STAT_ROWLOCK n
      if !s.slotFits n slot then s.inc F.CMP_SLOT_CNT_MALF n
      else if 1 ≤ slotClass slot ∧ slotClass slot ≤ 4 ∧ !pcrcOk slot then s.inc F.CMP_SLOT_CNT_PAYBAD n
      else s.actSlot n slot arr

/-- CMP_SLOT_CTL.CNT_CLR (R214). -/
def State.clrSlotCnt (s : State) : State :=
  forUp 16 (fun n a => a.clrAll (Reg.CMP_RPL_SENT.fields ++ Reg.CMP_RPL_CNT.fields ++ Reg.CMP_RPL_CNT2.fields
    ++ Reg.CMP_HOLD_CNT.fields ++ Reg.CMP_HOLD_CNT2.fields ++ Reg.CMP_SLOT_CNT.fields ++ Reg.CMP_POLICE_CNT.fields) n) s

/-! Commands -/

/-- SLOT_DECISION (R200). -/
def execSlotDecision (port young : Nat) (ecc : Ecc) (s : State) (undecoded unsent : Nat := 0) : Res :=
  effect (Wf.slotDecision port young ecc undecoded unsent) s fun s => s.slotDecision port young undecoded unsent ecc

/-- REPLAY_SLOT (R209). -/
def execReplaySlot (port : Nat) (slot : List Nat) (arr : BodyArrival) (s : State) : Res :=
  effect (Wf.replaySlot port slot arr) s fun s => s.inboundSlot port slot (some arr)

/-- REPLAY_REQUEST_SLOT (R207). -/
def execReplayRequestSlot (port : Nat) (slot : List Nat) (s : State) : Res :=
  effect (Wf.replayRequestSlot port slot) s fun s => s.inboundSlot port slot none

/-- PORT_VIEW_MESSAGE_SLOT (R204). -/
def execPortViewMessageSlot (port : Nat) (slot : List Nat) (s : State) : Res :=
  effect (Wf.portViewMessageSlot port slot) s fun s => s.inboundSlot port slot none

/-- FILL_SLOT (R199). -/
def execFillSlot (port : Nat) (slot : List Nat) (s : State) : Res :=
  effect (Wf.fillSlot port slot) s fun s => s.inboundSlot port slot none

/-- BAD_SLOT (R192). -/
def execBadSlot (port : Nat) (slot : List Nat) (s : State) : Res :=
  effect (Wf.badSlot port slot) s fun s => s.inboundSlot port slot none

/-- ERRATUM_DEADLINE (R135). -/
def execErratumDeadline (port : Nat) (s : State) : Res :=
  effect (Wf.erratumDeadline port) s fun s => s.errDeadline port

/-- CMP_SLOT_CTL.CNT_CLR (R214). -/
def execCmpSlotCtlCntClr (r : Requester) (s : State) : Res :=
  effect (Wf.cmpSlotCtlCntClr r) s fun s => s.viaCore r State.clrSlotCnt

end Sys2Proof.Machine
end

