-- ==== Sys2Proof/Machine/Clock.lean ====
section
/-! DEFINITION. Clocks and the timebase (chapter 8): sources, PLLs and their loss, the frequency-measuring counter, alignment
of the drip counter, and the arming of schedule slots. -/
namespace Sys2Proof.Machine

def State.modClk (s : State) (f : ClkSt → ClkSt) : State := { s with clk := f s.clk }

/-! Sources and PLLs (R248 to R257); sources are 0 crystal, 1 REFCLK_A, 2 REFCLK_B -/

def F.srcOk (src : Nat) : Fld := if src = 0 then F.CLK_STAT_XTAL_OK else if src = 1 then F.CLK_STAT_REFA_OK else F.CLK_STAT_REFB_OK
def F.srcLoss (src : Nat) : Fld :=
  if src = 0 then F.CLK_STAT_XTAL_LOSS else if src = 1 then F.CLK_STAT_REFA_LOSS else F.CLK_STAT_REFB_LOSS
def F.srcCnt (src : Nat) : Fld :=
  if src = 0 then F.CLK_LOSS_CNT_XTAL else if src = 1 then F.CLK_LOSS_CNT_REFA else F.CLK_LOSS_CNT_REFB

/-- The reference of the core PLL; code 3 acts as 0 (R271). -/
def State.coreSrc (s : State) : Nat :=
  let c := s.rd F.CLK_SRC_CORE_REF 0
  if c = 1 ∨ c = 2 then c else 0

/-- The references of the outer and the inner quad PLLs (R249). -/
def State.outerSrc (s : State) : Nat := 1 + s.rd F.CLK_SRC_OREF 0
def State.innerSrc (s : State) : Nat := 1 + s.rd F.CLK_SRC_IREF 0

/-- A source is present. -/
def State.srcPresent (s : State) (src : Nat) : Bool := s.flag (F.srcOk src) 0

/-- A source that a PLL is fed from: the crystal always is (R249, R250). -/
def State.feeds (s : State) (src : Nat) : Bool := src == 0 || src == s.coreSrc || src == s.outerSrc || src == s.innerSrc

/-- Every lost source has returned, those aside that feed no PLL: their loss forces nothing (R254, R256). -/
def State.allReturned (s : State) : Bool := s.clk.lost.all fun k => !s.feeds k

/-- A PLL may lock: the power-on reset has been released, its reference is present, and every lost source has returned (R251,
R256, R276; log entry 114). -/
def State.pllMay (s : State) (src : Nat) : Bool := !s.held && s.srcPresent src && s.allReturned

/-- The safety and management domains switch to the sources CLK_SRC names where those are present (R252). -/
def State.switchDomains (s : State) : State :=
  let s := s.wrB F.CLK_STAT_SAFE_ON 0 (s.flag F.CLK_SRC_SAFE 0 && s.flag F.CLK_STAT_XPLL_LOCK 0)
  s.wrB F.CLK_STAT_MGMT_ON 0 (s.flag F.CLK_SRC_MGMT 0 && s.flag F.CLK_STAT_MPLL_LOCK 0)

/-- A source has been in range for 1 ms: it is declared present for the first time, or has returned (R251, R254). -/
def State.sourceBack (s : State) (src : Nat) : State :=
  (s.setF (F.srcOk src) 0).modClk fun c => { c with lost := c.lost.filter (· != src) }

/-- The crystal is declared present (R251). -/
def execCrystalPresent (s : State) : Res := effect Wf.crystalPresent s fun s => s.sourceBack 0

/-- A PLL reports lock (R251, R256, R282); the boot ROM starts the core PLL in stage 5 (R331). -/
def State.pllLock (s : State) : Pll → State
  | .crystal => if s.pllMay 0 then ((s.setF F.CLK_STAT_XPLL_LOCK 0).switchDomains).csbStart else s
  | .mgmt => if s.pllMay 0 then (s.setF F.CLK_STAT_MPLL_LOCK 0).switchDomains else s
  | .core =>
    if s.pllMay s.coreSrc && decide (5 ≤ s.rd F.BOOT_STAT_STAGE 0) then
      ((s.setF F.CLK_STAT_CPLL_LOCK 0).modClk fun c => { c with coreLocked := true }).csbStart
    else s
  | .quadOuter q => if s.pllMay s.outerSrc && !s.quadGated q then s.setF F.QUAD_STAT_PLL_O_LOCK q else s
  | .quadInner q => if s.pllMay s.innerSrc && !s.quadGated q then s.setF F.QUAD_STAT_PLL_I_LOCK q else s

/-- PLL_LOCK (R251). -/
def execPllLock (pll : Pll) (s : State) : Res := effect (Wf.pllLock pll) s fun s => s.pllLock pll

/-- CLK_SRC.SAFE (R252). -/
def execClkSrcSafe (r : Requester) (v : Bool) (s : State) : Res :=
  effect (Wf.clkSrcSafe r v) s fun s => s.viaBus r fun s => (s.wrB F.CLK_SRC_SAFE 0 v).switchDomains

/-- CLK_SRC.MGMT (R252). -/
def execClkSrcMgmt (r : Requester) (v : Bool) (s : State) : Res :=
  effect (Wf.clkSrcMgmt r v) s fun s => s.viaBus r fun s => (s.wrB F.CLK_SRC_MGMT 0 v).switchDomains

/-- CORE_REF is written: once the core PLL has locked after a reset, a change is ignored (R250). -/
def State.setCoreRef (s : State) (req v : Nat) : State :=
  if s.rd F.CLK_SRC_CORE_REF 0 = v % 4 then s
  else if s.clk.coreLocked then s.refuse F.GLB_WERR_CLK req 0x1000
  else s.wr F.CLK_SRC_CORE_REF 0 v

/-- CLK_SRC.CORE_REF (R250). -/
def execClkSrcCoreRef (r : Requester) (v : Nat) (s : State) : Res :=
  effect (Wf.clkSrcCoreRef r v) s fun s => s.viaBus r fun s => s.setCoreRef (reqCode r) v

/-- Every port is disabled (R250). -/
def State.portsOff (s : State) : Bool := (List.range 16).all fun n => !s.portEn n

/-- OREF or IREF is written: a change needs every port disabled, and the quad PLLs of the side lock again (R250). -/
def State.setQuadRef (s : State) (f lock : Fld) (req : Nat) (v : Bool) : State :=
  if s.rd f 0 = b2n v then s
  else if s.portsOff then forUp 8 (fun q a => a.clr lock q) (s.wrB f 0 v)
  else s.refuse F.GLB_WERR_PORT req 0x1000

/-- CLK_SRC.OREF (R250). -/
def execClkSrcOref (r : Requester) (v : Bool) (s : State) : Res :=
  effect (Wf.clkSrcOref r v) s fun s => s.viaBus r fun s => s.setQuadRef F.CLK_SRC_OREF F.QUAD_STAT_PLL_O_LOCK (reqCode r) v

/-- CLK_SRC.IREF (R250). -/
def execClkSrcIref (r : Requester) (v : Bool) (s : State) : Res :=
  effect (Wf.clkSrcIref r v) s fun s => s.viaBus r fun s => s.setQuadRef F.CLK_SRC_IREF F.QUAD_STAT_PLL_I_LOCK (reqCode r) v

/-- Every transmitter goes to electrical idle, and every port that runs to DETECT_QUIET with cause 14 (R255). -/
def State.clocksDown (s : State) : State := forUp 66 (fun ls a => a.setTx false ls) (s.allPortsDown 14)

/-- Alignment is lost (R257, R263, R264). -/
def State.unalign (s : State) : State := s.clrAll [F.CLK_TSYNC_STAT_ALIGNED, F.CLK_TSYNC_STAT_SRC] 0

/-- The reactions to the loss of a source (R255). -/
def State.lossReaction (s : State) (src : Nat) : State :=
  let quadO := src == s.outerSrc
  let quadI := src == s.innerSrc
  let s := if quadO || quadI || src == s.coreSrc then s.clocksDown else s
  let s := if quadO then forUp 8 (fun q a => a.clr F.QUAD_STAT_PLL_O_LOCK q) s else s
  let s := if quadI then forUp 8 (fun q a => a.clr F.QUAD_STAT_PLL_I_LOCK q) s else s
  let s := if src = 0 then
      let s := (s.csbLoss 0).wr F.CMP_CSB_STAT_STATE 0 0
      (s.clrAll [F.CLK_STAT_XPLL_LOCK, F.CLK_STAT_MPLL_LOCK] 0).switchDomains
    else s
  if src = s.coreSrc then
    let s := if s.flag F.CLK_STAT_CPLL_LOCK 0 then s.setF F.CLK_STAT_CORE_HELD 0 else s
    s.clr F.CLK_STAT_CPLL_LOCK 0
  else s

/-- A source is lost: flag, count, CLK_LOSS and the reactions (R254, R255). One that was never present is lost like another, once
(R422). -/
def State.sourceLoss (s : State) (src : Nat) : State :=
  if s.clk.lost.contains src then s
  else
    let s := (s.clr (F.srcOk src) 0).setF (F.srcLoss src) 0
    let s := ((s.inc (F.srcCnt src) 0).modClk fun c => { c with lost := src :: c.lost }).raise 9 src 0
    s.lossReaction src

/-- SOURCE_LOSS (R254, R255). -/
def execSourceLoss (src : Nat) (s : State) : Res := effect (Wf.sourceLoss src) s fun s => s.sourceLoss src

/-- SOURCE_RETURN (R254, R256). -/
def execSourceReturn (src : Nat) (s : State) : Res := effect (Wf.sourceReturn src) s fun s => s.sourceBack src

/-- The core domain restarts: the counter advances by the length of the stop, and alignment is lost (R256, R257). -/
def State.coreRestart (s : State) (cycles : Nat) : State :=
  if s.flag F.CLK_STAT_CORE_HELD 0 && s.flag F.CLK_STAT_CPLL_LOCK 0 && s.allReturned then
    let s := (s.clr F.CLK_STAT_CORE_HELD 0).setDrip ((s.drip + cycles / 200) % 2 ^ 48)
    (s.unalign.modClk fun c => { c with good := 0, beaconGood := 0, slew := 0, stepTo := none, beaconAdd := none }).csbStart
  else s

/-- CORE_RESTART (R257). -/
def execCoreRestart (ioscCycles : Nat) (s : State) : Res :=
  effect (Wf.coreRestart ioscCycles) s fun s => s.coreRestart ioscCycles

/-! The frequency-measuring counter (R258, R259) -/

/-- A measurement starts, unless one runs (R259). -/
def State.fmStart (s : State) : State :=
  if s.flag F.CLK_FM_CTL_BUSY 0 then s
  else (s.clrAll [F.CLK_FM_CTL_DONE, F.CLK_FM_CTL_OVF] 0).setF F.CLK_FM_CTL_BUSY 0

/-- CLK_FM_CTL.START (R259). -/
def execClkFmCtlStart (r : Requester) (s : State) : Res :=
  effect (Wf.clkFmCtlStart r) s fun s => s.viaBus r State.fmStart

/-- The lane-side that CLK_FM_CTL.LSEL names, 66 where it names none: bit 14 is the side, bits 13:8 lane 0 to 31, 32 for S0 or 33
for S1 (R258). A spare has one lane-side (R8). -/
def fmLane (lsel : Nat) : Nat :=
  let l := lsel % 64
  if l < 32 then (if bit lsel 6 then innerLs l else outerLs l) else if l < 34 then l + 32 else 66

/-- The quad PLL of a lane-side runs, so that its lane has clocks (R249, R258): S0 and S1 are fed on the inner side. -/
def State.lsClock (s : State) (ls : Nat) : Bool :=
  match if ls < 64 then some (ls % 32 / 4) else s.spareQuad (ls - 64) with
  | some q => decide (ls < 66) && !s.quadGated q && s.flag (if ls < 32 then F.QUAD_STAT_PLL_O_LOCK else F.QUAD_STAT_PLL_I_LOCK) q
  | none => false

/-- The clock of a code runs, as far as the state tells (R258). -/
def State.fmRuns (s : State) (code : Nat) : Bool :=
  if code = 1 then s.srcPresent 0 else if code = 2 then s.srcPresent 1 else if code = 3 then s.srcPresent 2
  else if code = 4 then s.flag F.CLK_STAT_CPLL_LOCK 0 else if code = 5 then s.flag F.CLK_STAT_MPLL_LOCK 0
  else if code = 7 ∨ code = 8 then s.lsClock (fmLane (s.rd F.CLK_FM_CTL_LSEL 0))
  else if code = 9 then s.rd F.CMP_CSB_STAT_STATE 0 != 0
  else true

/-- The window of a measurement ends with a count; a stopped reference never ends it, and reserved codes count 0 (R258,
R259). -/
def State.fmEnd (s : State) (count : Nat) : State :=
  let ref := s.rd F.CLK_FM_CTL_REF 0
  let tgt := s.rd F.CLK_FM_CTL_TGT 0
  if !s.flag F.CLK_FM_CTL_BUSY 0 || !s.fmRuns ref then s
  else
    let n := if tgt ≥ 10 ∨ ref ≥ 10 then 0 else count
    let s := (s.wr F.CLK_FM_RES_COUNT 0 (min n (2 ^ 32 - 1))).wrB F.CLK_FM_CTL_OVF 0 (decide (n ≥ 2 ^ 32))
    (s.clr F.CLK_FM_CTL_BUSY 0).setF F.CLK_FM_CTL_DONE 0

/-- FM_WINDOW_END (R259). -/
def execFmWindowEnd (count : Nat) (s : State) : Res := effect (Wf.fmWindowEnd count) s fun s => s.fmEnd count

/-! Alignment (R262 to R266) -/

/-- The grid period in drips; values below 2 act as 2 (R272). -/
def State.period (s : State) : Nat := max (s.rd F.CLK_TSYNC_CFG_PERIOD 0) 2

/-- The multiple of a period nearest to a count. -/
def nearestMultiple (p l : Nat) : Nat := (l + p / 2) / p * p

/-- The length in nanoseconds that the next n drips will have, slewing as they now will (R263). -/
def ClkSt.spanOf (c : ClkSt) (n : Nat) : Int :=
  1000 * (n : Int) + (if c.slew < 0 then -(min c.slew.natAbs n : Int) else (min c.slew.natAbs n : Int))

/-- The error of an edge at time t of the drip in progress against the boundary of count g (R263). A boundary already
passed is taken as 1,000 ns a drip away (log entry 22). -/
def State.edgeError (s : State) (g : Nat) (t : Int) : Int :=
  if g ≤ s.drip then t + 1000 * ((s.drip - g : Nat) : Int) else t - s.clk.spanOf (g - s.drip)

/-- The grid instants after an edge at time t that a step waits for: the first that lies at least 1,000 ns after the drip's
start and not before the edge arrived (R263). -/
def stepTicks (t arrived : Int) : Nat :=
  let need := max 1000 arrived - t
  ((need + 999) / 1000).toNat

/-- ERR as two's complement, saturating at ±32,767 (R272). -/
def errField (e : Int) : Nat := toTwos 16 (max (-32767) (min e 32767))

/-- An accepted edge, at `arrived` nanoseconds of the drip in progress (R263, R264). -/
def State.tsyncEdge (s : State) (arrived : Int) : State :=
  let t := arrived - s.rd F.CLK_TSYNC_CFG_DELAY 0
  let load := s.flag F.CLK_TSYNC_STAT_LOAD_PEND 0
  let g := if load then s.rd F.CLK_TSYNC_LOAD_LO_LOAD_LO 0 + 2 ^ 32 * s.rd F.CLK_TSYNC_LOAD_HI_LOAD_HI 0
    else nearestMultiple s.period s.drip
  let e := s.edgeError g t
  let good := if e.natAbs ≤ 4 then s.clk.good + 1 else 0
  let s := (s.wr F.CLK_TSYNC_STAT_ERR 0 (errField e)).clr F.CLK_TSYNC_STAT_LOAD_PEND 0
  let s := s.modClk fun c => { c with edgeAgo := some (-arrived), good := good, missed := 0 }
  let s := if good ≥ 2 then (s.setF F.CLK_TSYNC_STAT_ALIGNED 0).wr F.CLK_TSYNC_STAT_SRC 0 1 else s
  if !load && decide (e.natAbs ≤ s.rd F.CLK_TSYNC_CFG_SLEW_MAX 0) then
    s.modClk fun c => { c with slew := e, stepTo := none }
  else
    let k := stepTicks t arrived
    ((s.modClk fun c => { c with slew := 0, stepTo := some ((g + k) % 2 ^ 48, t + 1000 * (k : Int)) }).inc
      F.CLK_TSYNC_CNT_STEP 0).unalign

/-- An edge that follows the previous one by less than half a period is ignored (R262). -/
def State.edgeTooSoon (s : State) (arrived : Int) : Bool :=
  match s.clk.edgeAgo with
  | some a => decide (2 * (a + arrived) < 1000 * (s.period : Int))
  | none => false

/-- TIMESYNC_EDGE (R262, R263). The operand gives the nanoseconds of the drip in progress at which the edge reached the
ball. -/
def execTimesyncEdge (ns : Int) (s : State) : Res :=
  effect (Wf.timesyncEdge ns) s fun s =>
    if s.coreRuns && s.rd F.CLK_TSYNC_CFG_MODE 0 == 1 && !s.edgeTooSoon ns then s.tsyncEdge ns else s

/-- No edge within 1.5 periods of the previous one (R264). The place of the missing edge then counts as the previous one. -/
def State.tsyncMiss (s : State) : State :=
  match s.clk.edgeAgo with
  | none => s
  | some a =>
    if s.rd F.CLK_TSYNC_CFG_MODE 0 = 1 ∧ 2 * (a + 1000) > 3000 * (s.period : Int) then
      let s := ((s.setF F.CLK_TSYNC_STAT_MISS 0).inc F.CLK_TSYNC_CNT_MISS 0).modClk fun c => { c with
        edgeAgo := some (a - 1000 * (s.period : Int)), missed := c.missed + 1 }
      if s.clk.missed ≥ 2 then s.unalign else s
    else s

/-- TIMESYNC_MISS (R264). -/
def execTimesyncMiss (s : State) : Res :=
  effect Wf.timesyncMiss s fun s => if s.coreRuns then s.tsyncMiss else s

/-- CLK_TSYNC_CTL.LOAD (R263). -/
def execClkTsyncCtlLoad (r : Requester) (s : State) : Res :=
  effect (Wf.clkTsyncCtlLoad r) s fun s => s.viaBus r fun s => s.setF F.CLK_TSYNC_STAT_LOAD_PEND 0

/-- A beacon with an aligned counter arrives (R265). -/
def State.beaconAlign (s : State) (d : Nat) : State :=
  let l := s.drip
  if (l + 2 ^ 48 - d) % 2 ^ 48 ≤ 3 then
    let s := s.modClk fun c => { c with beaconGood := c.beaconGood + 1 }
    if s.clk.beaconGood ≥ 2 then (s.setF F.CLK_TSYNC_STAT_ALIGNED 0).wr F.CLK_TSYNC_STAT_SRC 0 2 else s
  else
    ((s.modClk fun c => { c with beaconGood := 0, beaconAdd := some ((d : Int) + 2 - l) }).inc
      F.CLK_TSYNC_CNT_BSTEP 0).unalign

/-- BEACON (R265). The heartbeat and the tally that it carries change nothing here. -/
def execBeacon (drip heartbeat tally flags : Nat) (s : State) : Res :=
  effect (Wf.beacon drip heartbeat tally flags) s fun s =>
    if s.csbUp && s.coreRuns && s.flag F.CLK_TSYNC_CFG_BCN_EN 0 && s.rd F.CLK_TSYNC_CFG_MODE 0 != 1 && bit flags 1
    then s.beaconAlign drip else s

/-- MODE is written: a change clears ALIGNED and starts alignment afresh (R264). -/
def State.setTsyncMode (s : State) (v : Nat) : State :=
  if s.rd F.CLK_TSYNC_CFG_MODE 0 = v % 4 then s
  else ((s.wr F.CLK_TSYNC_CFG_MODE 0 v).unalign).modClk fun c => { c with
    edgeAgo := none, good := 0, missed := 0, beaconGood := 0 }

/-- The drip counter takes its next value (R261 step 1, R263, R265). -/
def State.advanceDrip (s : State) : State :=
  let c := s.clk
  let len : Int := match c.stepTo with
    | some (_, n) => n
    | none => c.spanOf 1
  let next : Nat := match c.stepTo with
    | some (g, _) => g
    | none => ((((s.drip : Int) + 1 + c.beaconAdd.getD 0) % (2 ^ 48 : Int))).toNat
  (s.setDrip next).modClk fun c => { c with
    prev := s.drip :: c.prev.take 1
    edgeAgo := c.edgeAgo.map (· + len)
    slew := if c.slew > 0 then c.slew - 1 else if c.slew < 0 then c.slew + 1 else 0
    stepTo := none, beaconAdd := none }

/-! Schedule slots (R267, R269) -/

def State.slotTarget (s : State) (k : Nat) : Nat := s.rd F.CLK_SCHED_TGT_LO_TGT_LO k + 2 ^ 32 * s.rd F.CLK_SCHED_TGT_HI_TGT_HI k

/-- A slot is armed (R267). -/
def State.armSlot (s : State) (req k : Nat) : State :=
  let a := s.rd F.CLK_SCHED_CTL_ACTION k
  if s.rd F.CLK_SCHED_STAT_STATE k = 1 then s
  else if a = 0 ∨ a > 6 then s.refuse F.GLB_WERR_CLK req (0x1108 + 0x10 * k)
  else
    let past := s.passed (s.slotTarget k)
    let s := s.clrAll [F.CLK_SCHED_STAT_LATE, F.CLK_SCHED_STAT_LATENESS, F.CLK_SCHED_STAT_RESULT, F.CLK_SCHED_STAT_FAILQ] k
    (s.wr F.CLK_SCHED_STAT_STATE k 1).modClk fun c => { c with
      late := if past then k :: c.late.filter (· != k) else c.late.filter (· != k) }

/-- A slot is cancelled while ARMED (R267). -/
def State.cancelSlot (s : State) (k : Nat) : State :=
  if s.rd F.CLK_SCHED_STAT_STATE k = 1 then
    ((s.wr F.CLK_SCHED_STAT_STATE k 2).wr F.CLK_SCHED_STAT_RESULT k 3).modClk fun c => { c with
      late := c.late.filter (· != k) }
  else s

/-- ARM and CANCEL of one write (R267). -/
def State.slotCtl (s : State) (req k : Nat) (arm cancel : Bool) : State :=
  if s.rd F.CLK_SCHED_STAT_STATE k = 1 then (if cancel then s.cancelSlot k else s)
  else if arm then s.armSlot req k else s

/-- CLK_SCHED_CTL.ARM (R267). -/
def execClkSchedCtlArm (r : Requester) (slot : Nat) (s : State) : Res :=
  effect (Wf.clkSchedCtlArm r slot) s fun s => s.viaBus r fun s => s.slotCtl (reqCode r) slot true false

/-- CLK_SCHED_CTL.CANCEL (R267). -/
def execClkSchedCtlCancel (r : Requester) (slot : Nat) (s : State) : Res :=
  effect (Wf.clkSchedCtlCancel r slot) s fun s => s.viaBus r fun s => s.slotCtl (reqCode r) slot false true

/-- CLK_CTL.CNT_CLR (R270). -/
def State.clrClkCnt (s : State) : State :=
  s.clrAll [F.CLK_LOSS_CNT_XTAL, F.CLK_LOSS_CNT_REFA, F.CLK_LOSS_CNT_REFB, F.CLK_TSYNC_CNT_MISS, F.CLK_TSYNC_CNT_BSTEP,
    F.CLK_TSYNC_CNT_STEP] 0

/-- CLK_CTL.CNT_CLR (R270). -/
def execClkCtlCntClr (r : Requester) (s : State) : Res :=
  effect (Wf.clkCtlCntClr r) s fun s => s.viaBus r State.clrClkCnt

end Sys2Proof.Machine
end

