-- ==== Sys2Proof/Machine/Power.lean ====
section
/-! DEFINITION. Supplies, voltage scaling, gating, temperature and calibration (chapter 9), and the secure domain's gating
(R34). -/
namespace Sys2Proof.Machine

/-! Rails (R274, R276) -/

/-- A sample of a rail: whether it lies above the bad threshold of R274 (R294), and the warning (R276). -/
def State.railSample (s : State) (ok warn : Fld) (inst v lo hi bad : Nat) (compare : Bool) : State :=
  let s := s.wrB ok 0 (decide (bad ≤ v))
  if compare && ((decide (v < lo) && decide (bad ≤ v)) || decide (hi < v)) then (s.setF warn 0).raise 5 inst 0 else s

/-- The samples of a drip (R276). VDDC is not compared in the first 10 ms after the power-on reset is released (log entry 23). -/
def State.rails (s : State) (vddc vdda vddh : Nat) (early : Bool) : State :=
  let s := (((s.wr F.PWR_VMON0_VDDC 0 vddc).wr F.PWR_VMON0_VDDA 0 vdda).wr F.PWR_VMON1_VDDH 0 vddh)
  let s := s.railSample F.PWR_STAT_VDDC_OK F.PWR_STAT_VDDC_WARN 0 vddc 700 850 620 (!early || decide (10000 ≤ s.porDrips))
  let s := s.railSample F.PWR_STAT_VDDA_OK F.PWR_STAT_VDDA_WARN 1 vdda 873 927 830 true
  s.railSample F.PWR_STAT_VDDH_OK F.PWR_STAT_VDDH_WARN 2 vddh 1710 1890 1600 true

/-! Adaptive voltage scaling (R278 to R280) -/

/-- A voltage of PWR_AVS_CFG kept within 700 to 850 mV (R279, R294). -/
def avsClamp (v : Nat) : Nat := max 700 (min v 850)

def State.vmax (s : State) : Nat := avsClamp (s.rd F.PWR_AVS_CFG_VMAX 0)
def State.vmin (s : State) : Nat := min (avsClamp (s.rd F.PWR_AVS_CFG_VMIN 0)) s.vmax

/-- AVS runs and is not held (R279, R280). -/
def State.avsRuns (s : State) : Bool := s.flag F.PWR_AVS_CFG_EN 0 && !s.flag F.PWR_AVS_STAT_HELD 0

/-- The voltage commanded; before the first command the regulator's start-up value (R275). -/
def State.avsNow (s : State) : Nat := if s.rd F.PWR_AVS_STAT_CMD 0 = 0 then 800 else s.rd F.PWR_AVS_STAT_CMD 0

/-- A target is computed from the table's value `mv` (R279). -/
def State.avsTarget (s : State) (mv : Nat) : State :=
  if !s.avsRuns then s
  else s.wr F.PWR_AVS_STAT_TARGET 0 (if s.flag F.PWR_THERM_STAT_HIGH_NOW 0 then s.vmax else max s.vmin (min mv s.vmax))

/-- AVS_TARGET (R279). -/
def execAvsTarget (mv : Nat) (s : State) : Res := effect (Wf.avsTarget mv) s fun s => s.avsTarget mv

/-- The command nearest a target in steps of 5 mV, at most 10 mV away from the present one (R278, R279). -/
def avsStep (now target : Nat) : Nat :=
  if target ≥ now then now + min 10 (target - now) / 5 * 5 else now - min 10 (now - target) / 5 * 5

/-- The command has reached its target, to the nearest step (R279, R282). -/
def State.avsReached (s : State) : Bool :=
  !s.avsRuns || s.rd F.PWR_AVS_STAT_TARGET 0 == 0 || avsStep s.avsNow (s.rd F.PWR_AVS_STAT_TARGET 0) == s.avsNow

/-- One AVSBus write (R278, R279). -/
def State.avsCommand (s : State) : State :=
  if !s.avsRuns || s.rd F.PWR_AVS_STAT_TARGET 0 == 0 then s
  else
    let v := avsStep s.avsNow (s.rd F.PWR_AVS_STAT_TARGET 0)
    (s.wr F.PWR_AVS_STAT_CMD 0 v).emit (.avsCommand v)

/-- AVS_COMMAND (R279). -/
def execAvsCommand (s : State) : Res := effect Wf.avsCommand s State.avsCommand

/-- VDDC has not followed the command (R280). -/
def State.avsFault (s : State) : State :=
  if !s.avsRuns || s.rd F.PWR_AVS_STAT_CMD 0 == 0 then s
  else
    let v := avsClamp (s.rd F.PWR_AVS_CFG_SAFE 0) / 5 * 5
    (((s.setF F.PWR_AVS_STAT_FAULT 0).raise 6 0 0).emit (.avsCommand v)).wr F.PWR_AVS_STAT_CMD 0 v |>.setF F.PWR_AVS_STAT_HELD 0

/-- AVS_FAULT (R280). -/
def execAvsFault (s : State) : Res := effect Wf.avsFault s State.avsFault

/-- PWR_AVS_CFG.EN is written: 0 and then 1 ends HELD (R280). -/
def State.setAvsEn (s : State) (on : Bool) : State :=
  let s := if on && !s.flag F.PWR_AVS_CFG_EN 0 then s.clr F.PWR_AVS_STAT_HELD 0 else s
  s.wrB F.PWR_AVS_CFG_EN 0 on

/-! Regulators and gating (R26 to R28, R281, R282) -/

/-- LDO_FAULT: an output leaves its range (R281). -/
def execLdoFault (inst : Nat) (s : State) : Res := effect (Wf.ldoFault inst) s fun s => s.condOn 7 inst 0

/-- LDO_OUTPUT_IN_RANGE (R281, R372). -/
def execLdoOutputInRange (inst : Nat) (s : State) : Res := effect (Wf.ldoOutputInRange inst) s fun s => s.condOff 7 inst 0

/-- A legal width map, by the eight codes (R27). -/
def legalMap (c : Nat → Nat) : Bool :=
  (List.range 8).all fun q => c q != 7
    && (c q != 5 || c (if q % 2 = 0 then q + 1 else q - 1) == 5)
    && (c q != 6 || (List.range 4).all fun k => c (4 * (q / 4) + k) == 6)

/-- A quad is gated: its calibration run is abandoned, and its lane-sides, PLLs and engine stop (R282, R291). -/
def State.gateQuad (s : State) (q : Nat) : State :=
  let s := (s.abandonCal q).modCal q fun c => { c with need := false }
  let s := s.wr F.PWR_DOM_STAT_QGATED 0 (setBit (s.rd F.PWR_DOM_STAT_QGATED 0) q)
  let s := s.clrAll [F.QUAD_STAT_PLL_O_LOCK, F.QUAD_STAT_PLL_I_LOCK, F.PHR_STAT_RUN] q
  forEach (quadLs q) (fun ls a => (a.setTx false ls).laneOff ls) s

/-- One code of a written map: it changes only where every port that the old or the new code places is disabled (R28). A spare in
use for a lane of the quad is released (R181). -/
def State.bifurQuad (s : State) (req q new : Nat) : State :=
  let old := s.qcode q
  if new = old then s
  else if (codePorts q old ++ codePorts q new).any fun n => s.flag F.PORT_CTL_EN n then
    s.refuse F.GLB_WERR_PORT req 0x18
  else
    let s := forUp 2 (fun h a => if a.spareState h ≥ 2 ∧ a.spareLane h / 4 = q then a.releaseSpare h else a) s
    let s := s.wr (F.quadCode q) 0 new
    if new = 0 then s.gateQuad q else s

/-- Quads that one write, or the WIDTH record, asks for: they ungate in ascending order (R282). -/
def State.askUngate (s : State) (qs : List Nat) : State :=
  forEach qs (fun q a => a.modCal q fun c => { c with after := qs.filter (· < q) }) s

/-- The views of the ports that a new map takes away lose their traffic (R10). -/
def State.dropViews (s old : State) : State :=
  forUp 16 (fun n a => if old.present n && !a.present n then a.dropView (n + 1) else a) s

/-- GLB_BIFUR is written at run time (R27, R28, R282): an illegal written map is unpredictable; the fields of a legal one take
effect, or are ignored, one by one. -/
def State.bifurWrite (s : State) (req val : Nat) : Res :=
  if !legalMap (fun q => bits val (3 * q) 3) then .fault .illegalWidthMap
  else
    let t := forUp 8 (fun q a => a.bifurQuad req q (bits val (3 * q) 3)) s
    let t := t.askUngate ((List.range 8).filter fun q => s.qcode q == 0 && t.qcode q != 0)
    .next (t.dropViews s).gateSpares

/-- A fault of a write stands; otherwise it is acknowledged. -/
def ackRes : Res → Res
  | .next t => .next (t.emit .writeAck)
  | r => r

/-- BIFURCATION_WRITE (R28, R282). GLB lies in the always-on domain (R32). -/
def execBifurcationWrite (r : Requester) (val : Nat) (s : State) : Res :=
  guarded (Wf.bifurcationWrite r val) s fun s =>
    if s.reaches r then ackRes (s.bifurWrite (reqCode r) val) else .next s

/-- A quad that its code asks for leaves gating once AVS has reached its target and the lower quads of the same write have left it;
a start-up calibration follows (R282), and in start-up firmware runs its Phrase engine (R83, R331). -/
def State.quadUngate (s : State) (q : Nat) : State :=
  if s.qcode q = 0 ∨ !s.quadGated q ∨ !s.avsReached ∨ (s.cal q).after.any (fun p => s.quadGated p && s.qcode p != 0) then s
  else
    let s := s.wr F.PWR_DOM_STAT_QGATED 0 (clrBit (s.rd F.PWR_DOM_STAT_QGATED 0) q)
    let s := s.modCal q fun c => { c with need := true, after := [] }
    let s := forEach (quadLs q) (fun ls a => a.patternTx ls) s
    let s := forEach (s.quadPorts q) (fun n a => if a.portEn n then a.lanesOn n else a) s
    if s.rd F.BOOT_STAT_STAGE 0 = 9 then s.phraseEnable q true else s

/-- QUAD_UNGATE (R282). -/
def execQuadUngate (quad : Nat) (s : State) : Res := effect (Wf.quadUngate quad) s fun s => s.quadUngate quad

/-! Temperature (R283 to R285) -/

/-- The number that a field of 11 bits holds in two's complement (R295). -/
def ofTwos11 (x : Nat) : Int := if x < 1024 then (x : Int) else (x : Int) - 2048

/-- A threshold in quarter degrees; values above 155 act as 155 (R284). -/
def thermLimit (c : Nat) : Int := 4 * (min c 155 : Nat)

/-- The highest of the samples and its sensor, the lowest number where several share it. -/
def hottest : List Int → Nat → Int × Nat → Int × Nat
  | [], _, b => b
  | t :: l, k, b => hottest l (k + 1) (if t > b.1 then (t, k) else b)

/-- Every condition of a source ends. -/
def State.condEnd (s : State) (src : Nat) : State :=
  ((s.putCauses (s.causes.filter fun c => c.1 != src))).updCause src

/-- A thermal threshold is compared with the hottest sample (R284): the live flag has hysteresis, and each crossing sets the
sticky flag and reports its source. -/
def State.thermCompare (s : State) (now sticky : Fld) (src : Nat) (limit tmax : Int) (hot : Nat) : State :=
  let hyst : Int := 4 * (max (s.rd F.PWR_THERM_CFG_HYST 0) 1 : Nat)
  if tmax ≥ limit then
    if s.flag now 0 then s else ((s.setF now 0).setF sticky 0).condOn src hot 0
  else if tmax < limit - hyst then (s.clr now 0).condEnd src
  else s

/-- The cause of THERM_TRIP is gone when no comparator holds it and the hottest sample is below 145 °C (R285). -/
def State.tripGone (s : State) : State :=
  if !s.flag F.PWR_THERM_STAT_TRIP_NOW 0 && decide (ofTwos11 (s.rd F.PWR_THERM_STAT_TMAX 0) < 580) then s.condEnd 2 else s

/-- A sample of a sensor (R283). A temperature run starts at the next boundary where a quad has moved by more than DT since
its last run, and none is in progress (R288). -/
def State.sensor (s : State) (k : Nat) (t : Int) : State :=
  let s := s.wr F.PWR_TEMP_TEMP k (toTwos 11 t)
  let s := if t > ofTwos11 (s.rd F.PWR_TEMP_MAX k) then s.wr F.PWR_TEMP_MAX k (toTwos 11 t) else s
  if k < 8 ∧ s.flag F.PWR_CAL_CFG_AUTO 0 ∧ s.rd F.PWR_CAL_STAT_STATE k = 0 ∧ !s.quadGated k
      ∧ (t - ofTwos11 (s.rd F.PWR_CAL_STAT_TREF k)).natAbs > 4 * max (s.rd F.PWR_CAL_CFG_DT 0) 1 then
    s.modCal k fun c => { c with req := true }
  else s

/-- All sensors are sampled (R283, R284, R279). -/
def State.temperatures (s : State) (temps : List Int) : State :=
  let s := forUp 10 (fun k a => a.sensor k (temps.getD k 0)) s
  let h := hottest (temps.drop 1) 1 (temps.headD 0, 0)
  let s := (s.wr F.PWR_THERM_STAT_TMAX 0 (toTwos 11 h.1)).wr F.PWR_THERM_STAT_HOT 0 h.2
  let s := s.thermCompare F.PWR_THERM_STAT_WARN_NOW F.PWR_THERM_STAT_WARN 4 (thermLimit (s.rd F.PWR_THERM_CFG_WARN 0)) h.1 h.2
  let s := s.thermCompare F.PWR_THERM_STAT_HIGH_NOW F.PWR_THERM_STAT_HIGH 3 (thermLimit (s.rd F.PWR_THERM_CFG_HIGH 0)) h.1 h.2
  let s := if s.flag F.PWR_THERM_STAT_HIGH_NOW 0 && s.avsRuns then s.wr F.PWR_AVS_STAT_TARGET 0 s.vmax else s
  s.tripGone

/-- TEMPERATURE_SAMPLE (R283, R284). -/
def execTemperatureSample (temps : List Int) (s : State) : Res :=
  effect (Wf.temperatureSample temps) s fun s => s.temperatures temps

/-- A thermal trip (R285): asynchronous logic puts every transmitter in electrical idle and stops ALIVE, whatever becomes of the
event of THERM_TRIP, which a wire fault may keep from the sump (R371). While TRIP_NOW = 1 every transmitter is silent. -/
def State.thermalTrip (s : State) : State :=
  (((s.putAliveRun false).setF F.PWR_THERM_STAT_TRIP 0).setF F.PWR_THERM_STAT_TRIP_NOW 0).condOn 2 0 0

/-- THERMAL_TRIP (R285). -/
def execThermalTrip (s : State) : Res := effect Wf.thermalTrip s State.thermalTrip

/-- TRIP_RELEASE (R285). -/
def execTripRelease (s : State) : Res := effect Wf.tripRelease s fun s => (s.clr F.PWR_THERM_STAT_TRIP_NOW 0).tripGone

/-! Calibration (R286 to R291) -/

/-- The slices of a lane-side in the order of their calibration: those that have not failed (R289). -/
def calOrder (bad : List Nat) : List Nat := ([64, 65] ++ List.range 64).filter fun k => !bad.contains k

/-- The parts of a run on a lane-side: every good slice, and every good leg unless its replicas stay in service (R287, R289). -/
def LaneSt.startCal (l : LaneSt) : LaneSt :=
  { l with
    calSlices := calOrder l.badSlices, calLegs := if l.spareLegs.isEmpty then 0 else 50 - l.badLegs.length
    legTrim := false, sliceHalf := false, legHalf := false }

/-- A run starts (R286, R288): the reference is measured and TREF taken. -/
def State.startCal (s : State) (q zref : Nat) (startup : Bool) : State :=
  let bad := decide (zref < 19000) || decide (zref > 21000)
  let s := ((s.wr F.PWR_ZREF_STAT_OHMS 0 zref).wrB F.PWR_ZREF_STAT_FAULT 0 bad).cond 8 0 0 bad
  let s := (s.wr F.PWR_CAL_STAT_STATE q 1).wr F.PWR_CAL_STAT_TREF q (s.rd F.PWR_TEMP_TEMP q)
  let s := s.modCal q fun c => { c with drips := 0, startup := startup, need := false, req := false }
  forEach (s.calLs q) (fun ls a => a.modLane ls LaneSt.startCal) s

/-- A correction is to be applied gradually (R290). -/
def State.gradual (s : State) (q ls : Nat) : Bool :=
  let g := s.rd F.PWR_CAL_CFG_GRAD 0
  g == 2 || (g != 1 && !s.safe && ((s.cal q).startup || s.loopback ls != 0 || s.generates ls || s.prbsCan ls
    || match s.portOfLs ls with
      | some n => s.ltssm n != 8 && s.ltssm n != 0x0A
      | none => false))

/-- A lane-side carries traffic: its port is in L0 and L0p has not turned the lane off (R290). -/
def State.carries (s : State) (ls : Nat) : Bool :=
  match s.portOfLs ls with
  | some n => s.ltssm n == 8 && !bit (s.port n).offLanes (s.laneOfLs ls - firstLane n)
  | none => false

/-- The correction of an element that returns to service (R290). -/
def State.correct (s : State) (q ls : Nat) : State :=
  if s.gradual q ls then s.modLane ls fun l => { l with ramps := l.ramps ++ [64] }
  else if s.carries ls then s.modLane ls fun l => { l with corr := l.corr + 1 }
  else s

/-- A spare that has been granted waits to enter SHADOW: it starts no further step (R291). -/
def State.spareWaits (s : State) (ls : Nat) : Bool := decide (64 ≤ ls) && (s.spare (ls - 64)).waits

/-- One drip of slice rotation of a lane-side (R66, R289): a slice out for two drips returns with its correction, and the
next goes out, unless a margining step holds or wants the spare slice. -/
def State.calSlice (s : State) (q ls : Nat) : State :=
  let l := s.lane ls
  if s.flag F.LANE_SLICE_STAT_MARG ls ∨ s.flag F.LANE_SLICE_STAT_CALSTOP ls then s
  else if l.sliceHalf then s.modLane ls fun x => { x with sliceHalf := false }
  else
    let s := if s.rd F.LANE_SLICE_STAT_CALSLICE ls = 0x7F then s
      else (s.correct q ls).wr F.LANE_SLICE_STAT_CALSLICE ls 0x7F
    if l.marginReq || s.spareWaits ls then s
    else match l.calSlices.filter fun k => !l.badSlices.contains k with
      | k :: t => (s.wr F.LANE_SLICE_STAT_CALSLICE ls k).modLane ls fun x => { x with calSlices := t, sliceHalf := true }
      | [] => s.modLane ls fun x => { x with calSlices := [] }

/-- The leg that goes out next: in ascending order after the last replica, the first that is in service (R289; log entry 113). -/
def LaneSt.nextLeg (l : LaneSt) : Nat :=
  let last := l.spareLegs.getLastD 49
  (((List.range 50).map fun k => (last + 1 + k) % 50).find? fun k => !l.badLegs.contains k && !l.spareLegs.contains k).getD last

/-- The replica trimmed goes into service, and the next leg comes out in its place (R289). -/
def LaneSt.exchangeLeg (l : LaneSt) : LaneSt := { l with spareLegs := l.spareLegs.drop 1 ++ [l.nextLeg] }

/-- One drip of leg rotation of a lane-side (R289): the replica trimmed for two drips is exchanged, with its correction, and the
next trim starts. -/
def State.calLeg (s : State) (q ls : Nat) : State :=
  let l := s.lane ls
  if l.legHalf then s.modLane ls fun x => { x with legHalf := false }
  else
    let s := if l.legTrim then (s.modLane ls LaneSt.exchangeLeg).correct q ls else s
    if l.calLegs = 0 ∨ l.spareLegs.isEmpty ∨ s.spareWaits ls then s.modLane ls fun x => { x with legTrim := false }
    else s.modLane ls fun x => { x with legTrim := true, legHalf := true, calLegs := x.calLegs - 1 }

/-- One drip of a run on a lane-side. -/
def State.calLane (s : State) (q ls : Nat) : State := (s.calSlice q ls).calLeg q ls

/-- A lane-side has ended its part of a run: its last elements have returned (R289). -/
def State.calPartDone (s : State) (ls : Nat) : Bool :=
  let l := s.lane ls
  (s.flag F.LANE_SLICE_STAT_CALSTOP ls
      || (l.calSlices.all (fun k => l.badSlices.contains k) && s.rd F.LANE_SLICE_STAT_CALSLICE ls == 0x7F))
    && (decide (l.calLegs = 0) || l.spareLegs.isEmpty) && !l.legTrim

/-- Every lane-side of a run has ended its part (R289). -/
def State.calDone (s : State) (q : Nat) : Bool := decide (2 ≤ (s.cal q).drips) && (s.calLs q).all s.calPartDone

/-- A drip boundary for the calibration of a quad (R70, R71, R288 to R291); `slip` where the drip's phrase overran. -/
def State.calDrip (s : State) (q zref : Nat) (slip : Bool) : State :=
  let c := s.cal q
  if s.quadGated q then s
  else if s.rd F.PWR_CAL_STAT_STATE q = 0 then
    if c.need then
      (if s.flag F.QUAD_STAT_PLL_O_LOCK q && s.flag F.QUAD_STAT_PLL_I_LOCK q then s.startCal q zref true else s)
    else if c.req || s.flag F.PWR_CAL_STAT_PEND q then (s.clr F.PWR_CAL_STAT_PEND q).startCal q zref false
    else s
  else if s.calDone q then s
  else if s.flag F.PHR_STAT_HALTED q then (s.wr F.PWR_CAL_STAT_STATE q 2).modCal q fun c => { c with drips := c.drips + 1 }
  else
    let s := (s.wr F.PWR_CAL_STAT_STATE q 1).modCal q fun c => { c with drips := c.drips + 1 }
    if slip || !s.flag F.PHR_STAT_RUN q || decide (c.drips + 1 < 2) then s
    else forEach (s.calLs q) (fun ls a => a.calLane q ls) s

/-- Gradual corrections move on by one part at a drip boundary (R290). -/
def State.rampDrip (s : State) : State :=
  forUp 66 (fun ls a => if (a.lane ls).ramps.isEmpty then a else a.modLane ls fun l =>
    { l with ramps := (l.ramps.map (· - 1)).filter (· != 0) }) s

/-- A run ends once every lane-side has ended its part (R289): its length is recorded. -/
def State.calEnd (s : State) (q : Nat) : State :=
  if s.rd F.PWR_CAL_STAT_STATE q = 0 ∨ !s.calDone q then s
  else
    let s := (s.wr F.PWR_CAL_STAT_LEN q (min (s.cal q).drips 4095)).clr F.PWR_CAL_STAT_STATE q
    (s.inc F.PWR_CNT_RUNS 0).modCal q fun c => { c with drips := 0, startup := false }

/-- CAL_RUN_END (R289). -/
def execCalRunEnd (quad : Nat) (s : State) : Res := effect (Wf.calRunEnd quad) s fun s => s.calEnd quad

/-- A manual run is asked for: while a run is in progress it is pending (R288). -/
def State.calRequest (s : State) (q : Nat) : State :=
  if s.quadGated q then s
  else if s.rd F.PWR_CAL_STAT_STATE q = 0 then s.modCal q fun c => { c with req := true }
  else s.setF F.PWR_CAL_STAT_PEND q

/-- PWR_CTL.CAL_RUN (R288). -/
def State.calRun (s : State) (mask : Nat) : State := forUp 8 (fun q a => if bit mask q then a.calRequest q else a) s

/-- PWR_CTL_CAL_RUN (R288). -/
def execPwrCtlCalRun (r : Requester) (mask : Nat) (s : State) : Res :=
  effect (Wf.pwrCtlCalRun r mask) s fun s => s.viaBus r fun s => s.calRun mask

/-- STEP_CORRECTION: the corrections that wait take effect (R290). -/
def execStepCorrection (ls : Nat) (s : State) : Res :=
  effect (Wf.stepCorrection ls) s fun s => s.modLane ls fun l => { l with corr := 0 }

/-- A leg is marked failed: a replica leaves the rotation, or one stays in service in the place of a leg (R287). -/
def LaneSt.failLeg (l : LaneSt) (k : Nat) : LaneSt :=
  let head := l.legTrim && (l.spareLegs.headD 50 == k || !l.spareLegs.contains k)
  { l with
    badLegs := l.badLegs ++ [k], legTrim := l.legTrim && !head, legHalf := l.legHalf && !head
    spareLegs := if l.spareLegs.contains k then l.spareLegs.erase k else l.spareLegs.drop 1 }

/-- Calibration marks a transmitter leg failed (R287). -/
def State.failLeg (s : State) (ls k : Nat) : State :=
  if (s.lane ls).badLegs.contains k then s else
  let s := (s.modLane ls fun l => l.failLeg k).inc F.PWR_CNT_LEG_FAIL 0
  let n := (s.lane ls).badLegs.length
  let s := if n ≥ 2 then s.condOn 34 ls 0 else s
  if n ≥ 3 then s.condOn 35 ls 0 else s

/-- Whether a transmitter has stopped calibrating (R287). -/
def State.txStopped (s : State) (ls : Nat) : Bool := decide (2 ≤ (s.lane ls).badLegs.length)

/-- PWR_CTL.CNT_CLR (R293). -/
def State.clrPwrCnt (s : State) : State :=
  forUp 10 (fun k a => a.wr F.PWR_TEMP_MAX k 0x400)
    (s.clrAll [F.PWR_CNT_LEG_FAIL, F.PWR_CNT_SLICE_FAIL, F.PWR_CNT_RUNS] 0)

/-- PWR_CTL.CNT_CLR (R293, R294). -/
def execPwrCtlCntClr (r : Requester) (s : State) : Res :=
  effect (Wf.pwrCtlCntClr r) s fun s => s.viaBus r State.clrPwrCnt

/-! The secure domain (R34, R323) -/

/-- A request to gate or ungate the secure domain: deferred, and answered busy, while the secure partition holds it; a later
one replaces it (R34). -/
def State.secureGate (s : State) (gate : Bool) : State :=
  if s.flag F.MGMT_SEC_STAT_SEC_HOLD 0 then
    (((s.setF F.PWR_DOM_STAT_SEC_DEFER 0).putSecDefer (some gate))).emit .busy
  else s.wrB F.PWR_DOM_STAT_SEC_GATED 0 gate

/-- SECURE_GATE_REQUEST (R34). -/
def execSecureGateRequest (gate : Bool) (s : State) : Res :=
  effect (Wf.secureGateRequest gate) s fun s => s.secureGate gate

/-- The secure partition releases its domain; a deferred request takes effect (R34). -/
def State.secureRelease (s : State) : State :=
  let s := s.clr F.MGMT_SEC_STAT_SEC_HOLD 0
  match s.secDefer with
  | some g => (((s.wrB F.PWR_DOM_STAT_SEC_GATED 0 g).clr F.PWR_DOM_STAT_SEC_DEFER 0).putSecDefer none)
  | none => s

/-- SECURE_DOMAIN_RELEASE (R34). -/
def execSecureDomainRelease (s : State) : Res := effect Wf.secureDomainRelease s State.secureRelease

/-- SECURE_ACCESS_VIOLATION (R323). -/
def execSecureAccessViolation (s : State) : Res :=
  effect Wf.secureAccessViolation s fun s => ((s.emit .busError).inc F.MGMT_SEC_CNT_VIOL 0).raise 14 0 0

end Sys2Proof.Machine
end

