-- ==== Sys2Proof/Machine/Bus.lean ====
section
/-! DEFINITION. The management bus target (R298 to R301): the I3C common commands, reads and writes of packets, and the MCTP
control messages. -/
namespace Sys2Proof.Machine

/-- The device acts as an I3C target (R299). -/
def State.i3c (s : State) : Bool := s.flag F.MGMT_STAT_BUS_MODE 0

/-- The device acts as an I2C and SMBus target (R299). -/
def State.smbus (s : State) : Bool := !s.held && !s.i3c && !s.flag F.MGMT_BUS_CFG_I2C_DIS 0

/-- ADDR: the strap value behind the static address (R298). -/
def State.strapAddr (s : State) : Nat := s.rd F.MGMT_BUS_STAT_STATIC_ADDR 0 - 0x58

/-- The provisioned ID, 48 bits (R298). -/
def State.pid (s : State) : Nat := 0x5A2D * 2 ^ 33 + 0x3234 * 2 ^ 16 + s.strapAddr * 2 ^ 12

/-- A dynamic address is taken: I3C only from then on (R299). In a power-on reset that is held none is (R276). -/
def State.takeAddr (s : State) (a : Nat) : State :=
  if s.held then s else ((s.wr F.MGMT_BUS_STAT_DYN_ADDR 0 a).setF F.MGMT_BUS_STAT_DA_VALID 0).setF F.MGMT_STAT_BUS_MODE 0

/-- ENTDAA (R298): a target without a dynamic address offers its PID, BCR and DCR and takes the address assigned. -/
def execEntdaa (addr : Nat) (s : State) : Res :=
  effect (Wf.entdaa addr) s fun s => if s.i3c || s.held then s else (s.takeAddr addr).emit (.bus (beBytes s.pid 6 ++ [0x06, 0x00]))

/-- SETDASA (R298). -/
def execSetdasa (static addr : Nat) (s : State) : Res :=
  effect (Wf.setdasa static addr) s fun s =>
    if !s.i3c && s.rd F.MGMT_BUS_STAT_STATIC_ADDR 0 == static then s.takeAddr addr else s

/-- SETAASA (R298). -/
def execSetaasa (s : State) : Res :=
  effect Wf.setaasa s fun s => if s.i3c then s else s.takeAddr (s.rd F.MGMT_BUS_STAT_STATIC_ADDR 0)

/-- SETNEWDA (R298). -/
def execSetnewda (addr new_ : Nat) (s : State) : Res :=
  effect (Wf.setnewda addr new_) s fun s =>
    if s.i3c && s.rd F.MGMT_BUS_STAT_DYN_ADDR 0 == addr then s.takeAddr new_ else s

/-- RSTDAA (R299). -/
def execRstdaa (s : State) : Res :=
  effect Wf.rstdaa s fun s =>
    s.clrAll [F.MGMT_BUS_STAT_DYN_ADDR, F.MGMT_BUS_STAT_DA_VALID, F.MGMT_STAT_BUS_MODE] 0

/-- A command to the dynamic address, acknowledged only while one is held. -/
def State.ccc (s : State) (k : State → State) : State := if s.i3c then k s else s.emit .nack

/-- A read command answered with bytes. -/
def State.cccRead (s : State) (bytes : List Nat) : State := s.ccc fun s => s.emit (.bus bytes)

/-- ENEC (R298): with interrupts enabled, a packet that waits raises one. -/
def execEnec (ibi : Bool) (s : State) : Res :=
  effect (Wf.enec ibi) s fun s => s.ccc fun s =>
    if ibi then
      let s := (s.putBus ({ s.bus with ibi := true }))
      if s.bus.pkts.any fun p => !p.smbus then s.emit (.ibi 0xAE) else s
    else s

/-- DISEC (R298). -/
def execDisec (ibi : Bool) (s : State) : Res :=
  effect (Wf.disec ibi) s fun s => s.ccc fun s => if ibi then (s.putBus ({ s.bus with ibi := false })) else s

/-- GETPID (R298). -/
def execGetpid (s : State) : Res := effect Wf.getpid s fun s => s.cccRead (beBytes s.pid 6)

/-- GETBCR (R298). -/
def execGetbcr (s : State) : Res := effect Wf.getbcr s fun s => s.cccRead [0x06]

/-- GETDCR (R298). -/
def execGetdcr (s : State) : Res := effect Wf.getdcr s fun s => s.cccRead [0x00]

/-- GETSTATUS (R298): the pending-interrupt field tells whether a packet waits. PRESUMED format, log entry 24. -/
def execGetstatus (s : State) : Res :=
  effect Wf.getstatus s fun s => s.cccRead [0, b2n (s.bus.pkts.any fun p => !p.smbus)]

/-- GETMWL (R298). -/
def execGetmwl (s : State) : Res := effect Wf.getmwl s fun s => s.cccRead (beBytes s.bus.mwl 2)

/-- A length within 69 to 256 (R298). -/
def clampLen (n : Nat) : Nat := max 69 (min n 256)

/-- SETMWL (R298). -/
def execSetmwl (len : Nat) (s : State) : Res :=
  effect (Wf.setmwl len) s fun s => s.ccc fun s => (s.putBus ({ s.bus with mwl := clampLen len }))

/-- GETMRL (R298). -/
def execGetmrl (s : State) : Res := effect Wf.getmrl s fun s => s.cccRead (beBytes s.bus.mrl 2)

/-- SETMRL (R298). -/
def execSetmrl (len : Nat) (s : State) : Res :=
  effect (Wf.setmrl len) s fun s => s.ccc fun s => (s.putBus ({ s.bus with mrl := clampLen len }))

/-- GETMXDS reports no limitation (R298). -/
def execGetmxds (s : State) : Res := effect Wf.getmxds s fun s => s.cccRead [0, 0]

/-! Packets -/

/-- The first packet of a list that waits for a kind of read, and the others. -/
def takePkt (smbus : Bool) : List BusPkt → Option (BusPkt × List BusPkt)
  | [] => none
  | p :: t =>
    if p.smbus = smbus then some (p, t)
    else match takePkt smbus t with
      | some (q, r) => some (q, p :: r)
      | none => none

/-- A packet as a read returns it, with its PEC: over SMBus as the binding would have written it, the byte count and the source
address first (R298, R301). PRESUMED layouts, log entry 109. -/
def State.pktFrame (s : State) (p : BusPkt) : List Nat :=
  if p.smbus then
    let a := 2 * s.rd F.MGMT_BUS_STAT_STATIC_ADDR 0
    let b := [p.bytes.length + 1, a + 1] ++ p.bytes
    b ++ [crc8 ([a, 0x0F, a + 1] ++ b)]
  else p.bytes ++ [crc8 ((2 * s.rd F.MGMT_BUS_STAT_DYN_ADDR 0 + 1) :: p.bytes)]

/-- A packet has been read: with the last one of a ring response its entry has been sent (R301, R311). -/
def State.pktRead (s : State) (p : BusPkt) : State :=
  let s := s.emit (.bus (s.pktFrame p))
  match p.view, p.ptr with
  | some v, some q => if p.last then s.rspSent v q else s
  | _, _ => s

/-- The packets of a list after the oldest one for a kind of read: that packet and the rest of its message go. -/
def dropMessage (smbus : Bool) (l : List BusPkt) : List BusPkt :=
  match takePkt smbus l with
  | none => l
  | some (p, r) =>
    if p.last then r
    else
      let rest := r.foldl (fun (a : List BusPkt × Bool) q =>
        if a.2 && q.smbus == smbus then (a.1, !q.last) else (a.1 ++ [q], a.2)) ([], true)
      rest.1

/-- The oldest waiting packet will not be read: its message is discarded, and a response counted (R301, R311). -/
def State.dropOldest (s : State) (smbus : Bool) : State :=
  match takePkt smbus s.bus.pkts with
  | none => s
  | some (p, _) =>
    let s := ((s.putBus ({ s.bus with pkts := dropMessage smbus s.bus.pkts }))).showPend
    match p.view with
    | some v => s.rspDrop v p.ptr
    | none => s

/-- A read of the oldest waiting packet; with none, the read is not acknowledged. A packet is refused where the endpoint it is for
has since been reassigned (R311). -/
def State.readPkt (s : State) (smbus refused : Bool) : State :=
  match takePkt smbus s.bus.pkts with
  | some (p, r) =>
    if refused then s.dropOldest smbus else ((s.putBus ({ s.bus with pkts := r }))).showPend.pktRead p
  | none => s.emit .nack

/-- I3C_PRIVATE_READ (R298). -/
def execI3cPrivateRead (s : State) (refused : Bool := false) : Res :=
  effect (Wf.i3cPrivateRead refused) s fun s => s.ccc fun s => s.readPkt false refused

/-- SMBUS_WRITE: taken, or discarded for a missing or wrong PEC (R299). -/
def execSmbusWrite (pec : Option Bool) (pkt : List Nat) (s : State) : Res :=
  effect (Wf.smbusWrite pec pkt) s fun s =>
    if !s.smbus then s.emit .nack
    else if s.flag F.MGMT_BUS_CFG_PEC_REQ 0 && pec != some true then s
    else s.emit .writeAck

/-- SCL_LOW_TIMEOUT: the bits of a transfer under way are lost; nothing that a state holds (R299). -/
def execSclLowTimeout (s : State) : Res := effect Wf.sclLowTimeout s id

/-- ALERT_RESPONSE (R301). -/
def execAlertResponse (s : State) : Res :=
  effect Wf.alertResponse s fun s =>
    if s.smbus && s.flag F.MGMT_STAT_SMB_PEND 0 then s.emit (.bus [2 * s.rd F.MGMT_BUS_STAT_STATIC_ADDR 0]) else s.emit .nack

/-- SMBUS_BLOCK_READ at command code 0x0F (R301). -/
def execSmbusBlockRead (s : State) (refused : Bool := false) : Res :=
  effect (Wf.smbusBlockRead refused) s fun s => if s.smbus then s.readPkt true refused else s.emit .nack

/-- SMBUS_PACKET_TIMEOUT: a packet has waited 1 s for an SMBus read (R301). -/
def execSmbusPacketTimeout (s : State) : Res := effect Wf.smbusPacketTimeout s fun s => s.dropOldest true

/-- A message over MCTP is heard where the device answers on the bus: with I2C_DIS = 1 and no dynamic address all traffic is
ignored (R299). -/
def State.heard (s : State) (k : State → State) : State := if s.i3c || s.smbus then k s else s

/-! MCTP control messages (R300); their formats are PRESUMED from the base specification (log entry 24) -/

/-- A control message of a code is answered on the bus; the instance ID, which the command does not carry, is free. -/
def State.mctpAnswer (s : State) (src tag code : Nat) (bytes : List Nat) : State :=
  let f := s.free
  (f.2.emit (.message src tag code bytes)).busQueue (!f.2.i3c) none none src tag ([0, f.1 % 32, code] ++ bytes)

/-- SET_ENDPOINT_ID (R300): 0 and 255 name no endpoint. -/
def execSetEndpointId (eid src tag : Nat) (s : State) : Res :=
  effect (Wf.setEndpointId eid src tag) s fun s => s.heard fun s =>
    if eid = 0 ∨ eid = 255 then s.mctpAnswer src tag 1 [2, 0x10, s.rd F.MGMT_BUS_STAT_EID 0, 0]
    else (s.wr F.MGMT_BUS_STAT_EID 0 eid).mctpAnswer src tag 1 [0, 0, eid, 0]

/-- GET_ENDPOINT_ID (R300). -/
def execGetEndpointId (src tag : Nat) (s : State) : Res :=
  effect (Wf.getEndpointId src tag) s fun s => s.heard fun s => s.mctpAnswer src tag 2 [0, s.rd F.MGMT_BUS_STAT_EID 0, 0, 0]

/-- GET_MCTP_VERSION_SUPPORT (R300): the manual gives no version, so the four bytes of the entry are free. -/
def execGetMctpVersionSupport (src tag : Nat) (s : State) : Res :=
  effect (Wf.getMctpVersionSupport src tag) s fun s => s.heard fun s =>
    let f := s.freeBytes 4
    f.2.mctpAnswer src tag 4 ([0, 1] ++ f.1)

/-- GET_MESSAGE_TYPE_SUPPORT (R300). -/
def execGetMessageTypeSupport (src tag : Nat) (s : State) : Res :=
  effect (Wf.getMessageTypeSupport src tag) s fun s => s.heard fun s =>
    s.mctpAnswer src tag 5 [0, 4, 0x00, 0x01, 0x05, 0x7F]

/-- GET_VENDOR_DEFINED_MSG_SUPPORT (R300): one set, of the enterprise number. -/
def execGetVendorDefinedMsgSupport (src tag : Nat) (s : State) : Res :=
  effect (Wf.getVendorDefinedMsgSupport src tag) s fun s => s.heard fun s =>
    s.mctpAnswer src tag 6 ([0, 0xFF, 1] ++ beBytes (s.rd F.MGMT_VDM_ID_PEN 0) 4)

end Sys2Proof.Machine
end

