-- ==== Sys2Proof/Machine/Operands.lean ====
section
/-! DEFINITION. The operands that are addresses: which register, or which memory window, a management address names (R396 to
R398), and what a read of each returns (R12, R15, R404 to R407, R409). -/
namespace Sys2Proof.Machine

/-! Addresses -/

/-- The instance at an offset from a register's first: the steps of each dimension, widest stride first. -/
def instAt : List (Nat × Nat × Nat) → Nat → Option Nat
  | [], o => if o = 0 then some 0 else none
  | (n, stride, step) :: t, o =>
    if o / stride < n then (instAt t (o % stride)).map fun i => step * (o / stride) + i else none

/-- The instance of a register's row at an address. -/
def RegRow.at? (r : RegRow) (addr : Nat) : Option Nat :=
  if addr < r.base then none else (instAt r.dims (addr - r.base)).map fun i => r.inst0 + i

/-- The registers of the block that an address lies in (R396). -/
def RegMap.block (addr : Nat) : List RegRow :=
  if addr < 0x1000 then RegMap.glb
  else if addr < 0x2000 then RegMap.clk
  else if addr < 0x3000 then RegMap.pwr
  else if addr < 0x4000 then RegMap.sump
  else if addr < 0x5000 then RegMap.boot
  else if addr < 0x8000 then []
  else if addr < 0x10000 then RegMap.compat
  else if addr < 0x20000 then RegMap.port
  else if addr < 0x30000 then RegMap.quad
  else if addr < 0x40000 then RegMap.spare
  else if addr < 0x50000 then RegMap.cmp
  else if addr < 0x60000 then RegMap.heat
  else if addr < 0x70000 then RegMap.mgmt
  else []

/-- The register and instance at an address; none where it is unaligned or unimplemented (R397, R398). -/
def regAt (addr : Nat) : Option (Reg × Nat) :=
  if addr % 4 ≠ 0 then none
  else (RegMap.block addr).findSome? fun r => (r.at? addr).map fun i => (r.reg, i)

/-- The block lies in the core domain, or a quad's (R396). -/
def coreBlock (addr : Nat) : Bool := decide (0x10000 ≤ addr) && decide (addr < 0x60000)

/-- The memory windows (R396). -/
inductive Window where
  | phrase | mailbox | heat | zoom | capture
deriving DecidableEq, Repr

/-- The window at an address. -/
def windowAt (addr : Nat) : Option Window :=
  if addr % 4 ≠ 0 then none
  else if 0x100000 ≤ addr ∧ addr < 0x140000 then some .phrase
  else if 0x140000 ≤ addr ∧ addr < 0x184000 then some .mailbox
  else if 0x200000 ≤ addr ∧ addr < 0x400000 then some .heat
  else if 0x400000 ≤ addr ∧ addr < 0x480000 then some .zoom
  else if 0x500000 ≤ addr ∧ addr < 0x700000 then some .capture
  else none

/-- The memory of R383 at an address of a window, and the word's number in it. -/
def windowMem (w : Window) (addr : Nat) : Nat × Nat :=
  match w with
  | .phrase => (6, (addr - 0x100000) / 8)
  | .mailbox => (7, (addr - 0x140000) / 8)
  | .heat => ((addr - 0x200000) / 0x100000, (addr - 0x200000) % 0x100000 / 8)
  | .zoom => (2, (addr - 0x400000) / 8)
  | .capture => (4, (addr - 0x500000) / 8)

/-! What a register reads as -/

/-- The mirror registers (R406). -/
def isMirror (r : Reg) : Bool :=
  [Reg.LANE_RX_STAT, .LANE_EQ_STAT, .LANE_RX_EQ, .LANE_SLICE_STAT, .LANE_EB_STAT, .LANE_PRBS_STAT, .QUAD_STAT, .PHR_STAT,
   .PORT_STAT, .PORT_LINK_STAT, .PORT_EQ_STAT, .PORT_FLIT_STAT, .CMP_CSB_STAT, .CMP_PORT_STAT, .CMP_PORT_ROW,
   .CMP_TOKEN_STAT, .CMP_Q_STAT, .SPARE_STAT].contains r

/-- The fields of mirror registers that are current (R33, R59, R213, R406). -/
def isCurrent (f : Fld) : Bool :=
  [F.LANE_EB_STAT_LWM, F.LANE_EB_STAT_HWM, F.CMP_Q_STAT_DWM, F.CMP_Q_STAT_TWM].contains f

/-- A field as a management read returns it. -/
def State.shown (s : State) (r : Reg) (f : Fld) (i : Nat) : Nat :=
  if isMirror r && !isCurrent f then s.rdMirror f i else s.rd f i

/-- The fields of a register together. -/
def State.plainWord (s : State) (r : Reg) (i : Nat) : Nat := r.fields.foldl (fun a f => a + s.shown r f i * 2 ^ f.lo) 0

/-- The bits of a number of lane-sides for which a test holds. -/
def maskOf (n : Nat) (t : Nat → Bool) : Nat := (List.range n).foldl (fun a k => if t k then a + 2 ^ k else a) 0

/-- The snapshot pairs: the register read first, with the one it latches (R404). -/
def latchPairs : List (Reg × Reg) := [
  (.CLK_DRIP_LO, .CLK_DRIP_HI), (.LANE_PRBS_BITS_LO, .LANE_PRBS_BITS_HI), (.PORT_LDN_DRIP_LO, .PORT_LDN_DRIP_HI),
  (.PORT_FEC_FLITS_LO, .PORT_FEC_FLITS_HI), (.HEAT_BANK_START_LO, .HEAT_BANK_START_HI),
  (.GLB_TALLY_CDRIP_LO, .GLB_TALLY_CDRIP_HI), (.GLB_TALLY_SNAP_DRIP_LO, .GLB_TALLY_SNAP_DRIP_HI),
  (.GLB_UID_LO, .GLB_UID_HI)]

/-- The register that a read of a register latches. -/
def latchedBy (r : Reg) : Option Reg := (latchPairs.find? fun p => p.1 == r).map fun p => p.2

/-- A register read through a latch. -/
def isLatched (r : Reg) : Bool := latchPairs.any fun p => p.2 == r

/-- The key of a requester's latch at the address of the pair's second register. -/
def latchKey (req addr : Nat) : Nat := 4 * addr + req

/-- The fields of PORT_CTL that CW_PORT_CTL shows, and so on: the values that a window register composes (R409, R411); bits it
does not map read 0. -/
def State.compatWord (s : State) (r : Reg) (i : Nat) : Nat :=
  let x := fun (q : Reg) (f : Fld) (at_ : Nat) => s.shown q f i * 2 ^ at_
  match r with
  | .CW_LANE_CTL => x .LANE_RX_CTL F.LANE_RX_CTL_CTLE_MAX 0 + x .LANE_RX_CTL F.LANE_RX_CTL_DFE_EN 8
      + x .LANE_RX_CTL F.LANE_RX_CTL_POL_OVR 9 + x .LANE_RX_CTL F.LANE_RX_CTL_POL_VAL 10
      + x .LANE_TX_CTL F.LANE_TX_CTL_OVR 12 + x .LANE_RX_CTL F.LANE_RX_CTL_FREEZE 16
  | .CW_LANE_COEF => x .LANE_TX_COEF F.LANE_TX_COEF_CM1 0 + x .LANE_TX_COEF F.LANE_TX_COEF_C0 8
      + x .LANE_TX_COEF F.LANE_TX_COEF_CP1 16
  | .CW_LANE_STAT => x .LANE_RX_STAT F.LANE_RX_STAT_ASTATE 0 + x .LANE_RX_STAT F.LANE_RX_STAT_SIGDET 3
      + x .LANE_RX_STAT F.LANE_RX_STAT_CDR_LOCK 4 + x .LANE_RX_STAT F.LANE_RX_STAT_POL_DET 5
  | .CW_LANE_ERR => s.plainWord .LANE_ERR_CNT i
  | .CW_PORT_CTL => s.plainWord .PORT_CTL i % 8
  | .CW_PORT_CFG => x .PORT_CFG F.PORT_CFG_MAX_RATE 0 + x .PORT_CFG F.PORT_CFG_SRIS_O 4 + x .PORT_CFG F.PORT_CFG_SRIS_I 5
      + x .PORT_CFG F.PORT_CFG_PERST_EN 8 + x .PORT_CFG F.PORT_CFG_PRSNT_EN 9 + x .PORT_CFG F.PORT_CFG_L0P_EN 10
      + x .PORT_CFG F.PORT_CFG_MARG_EN 11
  | .CW_PORT_STAT => s.plainWord .PORT_LINK_STAT i % 2 ^ 19
  | .CW_PORT_LDN => s.plainWord .PORT_LDN_LOG i % 2 ^ 16
  | .CW_ID => 0x16168000
  | .CW_BIFUR => s.plainWord .GLB_BIFUR 0 % 2 ^ 12
  | .CW_DRIP => s.rd F.CLK_DRIP_LO_DRIP_LO 0
  | _ => 0

/-- A register as a read returns it, where its value is not simply that of its stored fields: QUAD_STAT.GATED, the ramps
under way, stopped transmitters, ring states, the sump's summaries (R82, R293 to R296, R329, R393). -/
def State.regWord (s : State) (r : Reg) (i : Nat) : Nat :=
  match r with
  | .QUAD_STAT => s.plainWord .QUAD_STAT i - s.rdMirror F.QUAD_STAT_GATED i * 4 + 4 * b2n (s.quadGated i)
  | .PWR_CAL_STAT => s.plainWord r i + 2 ^ F.PWR_CAL_STAT_GRADUAL.lo *
      b2n ((s.calLs i).any fun ls => !(s.lane ls).ramps.isEmpty)
  | .PWR_TXSTOP_O => maskOf 32 s.txStopped
  | .PWR_TXSTOP_I => maskOf 32 fun k => s.txStopped (k + 32)
  | .PWR_TXSTOP_S => maskOf 2 fun k => s.txStopped (k + 64)
  | .MGMT_VIEW_STAT => s.plainWord r i + 4 * b2n (s.rspFull i) + 2 * b2n (s.reqFull i)
      + b2n (i == 0 || s.present (i - 1))
  | .SUMP_STAT => 2 ^ 8 * (s.nSevere % 2 ^ 8) + 2 ^ 4 * b2n s.irqPin + 2 ^ 3 * b2n s.faultPin
      + 2 ^ 2 * b2n (s.aliveRun && s.coreRuns) + 2 * s.rd F.SUMP_QSTOP_STAT_QUIESCED 0 + b2n s.safe
  | .SUMP_SEV => s.sevWord i
  | .CW_LANE_CTL | .CW_LANE_COEF | .CW_LANE_STAT | .CW_LANE_ERR | .CW_PORT_CTL | .CW_PORT_CFG | .CW_PORT_STAT
  | .CW_PORT_LDN | .CW_ID | .CW_BIFUR | .CW_DRIP => s.compatWord r i
  | .CW_WBUF => s.compat.length % 64 + 2 ^ 8 * s.rd F.CW_WBUF_OVF 0
  | _ => s.plainWord r i

/-- What the second register of a snapshot pair holds as the first is read; CLK_DRIP_HI shows the nanoseconds since the
last boundary with the high bits (R260). -/
def State.latchValue (s : State) (r : Reg) (i ns : Nat) : Nat :=
  if r = .CLK_DRIP_HI then s.rd F.CLK_DRIP_HI_DRIP_HI 0 + 2 ^ 16 * min ns 1998 else s.plainWord r i

/-- A register read by a requester, `ns` nanoseconds after the last boundary (R404, R411): the first register of a pair
latches the second, 4 bytes on, for that requester; a read of CW_WBUF clears its flag. -/
def State.readReg (s : State) (req addr ns : Nat) (r : Reg) (i : Nat) : Nat × State :=
  if isLatched r then (s.snaps.get (latchKey req addr) 0, s)
  else match latchedBy r with
    | some h => (s.regWord r i,
        (s.putSnaps (s.snaps.set (latchKey req (addr + 4)) (s.latchValue h i ns) 0)))
    | none => if r = .CW_WBUF then (s.regWord r i, s.clr F.CW_WBUF_OVF 0) else (s.regWord r i, s)

/-- The access exists in the address space as it stands: a register whose domain runs and whose window is open
(R255, R408). -/
def State.reachable (s : State) (addr : Nat) : Bool :=
  (!coreBlock addr || s.coreRuns) && (decide (addr < 0x8000 ∨ 0x10000 ≤ addr) || s.flag F.GLB_MODE_COMPAT_EN 0)

/-- The compatibility window's lane and port registers lie in the domains of their native targets (R255, R396). -/
def State.compatRuns (s : State) (addr : Nat) : Bool :=
  decide (addr < 0x8000 ∨ 0xF000 ≤ addr) || s.coreRuns

/-- Heat and zoom windows are read entry by entry, as their exports are (R223). -/
def State.readWindow (s : State) (w : Window) (addr : Nat) : Nat × State :=
  match w with
  | .heat => s.readEntry false ((addr - 0x200000) / 0x100000) ((addr - 0x200000) % 0x100000 / 4)
  | .zoom => s.readEntry true ((addr - 0x400000) / 0x40000) ((addr - 0x400000) % 0x40000 / 4)
  | _ => (s.rdWord32 addr, s)

/-- A management read of a word: none for a bus error (R14, R255, R397). -/
def State.readWord (s : State) (req addr ns : Nat) : Option Nat × State :=
  match regAt addr with
  | some (r, i) =>
    if s.reachable addr && s.compatRuns addr then
      let x := s.readReg req addr ns r i
      (some x.1, x.2)
    else (none, s)
  | none =>
    match windowAt addr with
    | some w => if s.coreRuns then let x := s.readWindow w addr; (some x.1, x.2) else (none, s)
    | none => (none, s)

end Sys2Proof.Machine
end

