-- ==== Sys2Proof/Machine/Tally.lean ====
section
/-! DEFINITION. The configuration tally (R348 to R351): the stream, its passes, and commit, adopt and snapshot. -/
namespace Sys2Proof.Machine

def State.modBoot (s : State) (f : BootSt → BootSt) : State := { s with boot := f s.boot }

/-- Every place of a row: address and instance. -/
def placesOf : List (Nat × Nat × Nat) → Nat → Nat → List (Nat × Nat)
  | [], a, i => [(a, i)]
  | (n, stride, step) :: t, a, i => (List.range n).flatMap fun k => placesOf t (a + stride * k) (i + step * k)

/-- The register blocks, in ascending order of address (R396). -/
def RegMap.blocks : List (List RegRow) :=
  [RegMap.glb, RegMap.clk, RegMap.pwr, RegMap.sump, RegMap.boot, RegMap.port, RegMap.quad, RegMap.spare, RegMap.cmp,
   RegMap.heat, RegMap.mgmt]

/-- The tallied fields of a register. -/
def Reg.tallied (r : Reg) : List Fld := r.fields.filter fun f => f.tally

/-- The tallied registers of a block, by address. -/
def tallyBlock (rows : List RegRow) : SMap (Reg × Nat) :=
  (rows.filter fun r => !r.reg.tallied.isEmpty).foldl (fun m r =>
    (placesOf r.dims r.base r.inst0).foldl (fun m p => SMap.insert m p.1 (r.reg, p.2)) m) []

/-- The registers of the tally in ascending order of address (R348). -/
def tallyRegs : List (Nat × Reg × Nat) := RegMap.blocks.flatMap tallyBlock

/-- A register's value ANDed with the mask of its tallied fields, each as stored (R348). -/
def tallyValue (regs : SMap Nat) (r : Reg) (i : Nat) : Nat :=
  r.tallied.foldl (fun a f => a + regs.get (f.key i) (f.reset i) * 2 ^ f.lo) 0

/-- The tally of a configuration (R348). -/
def tallyOf (regs : SMap Nat) : Nat :=
  crc32c (tallyRegs.flatMap fun e => leBytes e.1 4 ++ leBytes (tallyValue regs e.2.1 e.2.2) 4)

/-! Passes (R349, R350) -/

/-- A pass starts at a boundary whose count is a multiple of 4 (R349). -/
def State.passStart (s : State) : State :=
  if s.drip % 4 = 0 ∧ s.coreRuns then
    s.modBoot fun b => { b with pass := some ⟨s.regs, 0, s.flag F.MGMT_STAT_LRUN 0⟩ }
  else s

/-- The comparison at the end of a pass (R350). A pass that began with LRUN = 1 and matched holds the tally for a trial that
an activation began (R357). -/
def State.passCompare (s : State) (lrun : Bool) : State :=
  if !s.flag F.GLB_TALLY_STAT_REF_VALID 0 || s.flag F.GLB_TALLY_CTL_SUSP 0 then s
  else if s.rd F.GLB_TALLY_VALUE 0 = s.rd F.GLB_TALLY_REF_REF 0 then
    let s := s.setF F.GLB_TALLY_STAT_MATCH_NOW 0
    if lrun && s.boot.byAct then s.modBoot fun b => { b with tallyOk := true } else s
  else ((s.clr F.GLB_TALLY_STAT_MATCH_NOW 0).setF F.GLB_TALLY_STAT_MISM 0).raise 16 0 0

/-- The tallied fields that differ between two contents of the registers, with their instances. -/
def tallyChanged (old new : SMap Nat) : List (Fld × Nat) :=
  tallyRegs.flatMap fun e => (e.2.1.tallied.filter fun f =>
    old.get (f.key e.2.2) (f.reset e.2.2) != new.get (f.key e.2.2) (f.reset e.2.2)).map fun f => (f, e.2.2)

/-- The registers with the old value of those changed fields whose bit in x is set. -/
def tallyMix (old new : SMap Nat) (x : Nat) : SMap Nat :=
  forEach (tallyChanged old new).zipIdx (fun c m =>
    let f := c.1.1
    let i := c.1.2
    if bit x c.2 then m.set (f.key i) (old.get (f.key i) (f.reset i)) (f.reset i) else m) new

/-- A pass ends (R349). A write completed before the pass began is in its result; of one made during the pass a free value says
whether it is (log entry 27). -/
def State.passEnd (s : State) : State :=
  match s.boot.pass with
  | none => s
  | some p =>
    let s := s.modBoot fun b => { b with pass := none }
    let r := if tallyChanged p.regs s.regs = [] then (tallyOf s.regs, s)
      else (tallyOf (tallyMix p.regs s.regs s.free.1), s.free.2)
    (r.2.wr F.GLB_TALLY_VALUE 0 r.1).passCompare p.lrun

/-- A boundary for the pass under way: it ends at the third at the latest (R349). -/
def State.passDrip (s : State) : State :=
  match s.boot.pass with
  | none => s
  | some p => if p.age ≥ 2 then s.passEnd else s.modBoot fun b => { b with pass := some { p with age := p.age + 1 } }

/-- TALLY_PASS_END (R349, R350). -/
def execTallyPassEnd (s : State) : Res :=
  effect Wf.tallyPassEnd s fun s => if s.coreRuns then s.passEnd else s

/-! Commit, adopt and snapshot (R351) -/

/-- The reference takes a value at a boundary: REF_VALID sets, SUSP clears and the count is recorded (R351). -/
def State.takeRef (s : State) (v : Nat) : State :=
  let s := ((s.wr F.GLB_TALLY_REF_REF 0 v).setF F.GLB_TALLY_STAT_REF_VALID 0).clr F.GLB_TALLY_CTL_SUSP 0
  (s.wr F.GLB_TALLY_CDRIP_LO_DRIP_LO 0 (s.drip % 2 ^ 32)).wr F.GLB_TALLY_CDRIP_HI_DRIP_HI 0 (s.drip / 2 ^ 32)

/-- A commit acts; the answer says whether it passed (R351). -/
def State.commit (s : State) : Bool × State :=
  if s.rd F.GLB_TALLY_STAGE_STAGE 0 = s.rd F.GLB_TALLY_VALUE 0 then (true, s.takeRef (s.rd F.GLB_TALLY_STAGE_STAGE 0))
  else (false, (s.clr F.GLB_TALLY_CTL_SUSP 0).setF F.GLB_TALLY_STAT_COMMIT_FAIL 0)

/-- An adopt acts (R351). -/
def State.adopt (s : State) : State := s.takeRef (s.rd F.GLB_TALLY_VALUE 0)

/-- A tally snapshot acts (R351). -/
def State.tallySnap (s : State) : State :=
  let s := s.wr F.GLB_TALLY_SNAP_SNAP 0 (s.rd F.GLB_TALLY_VALUE 0)
  (s.wr F.GLB_TALLY_SNAP_DRIP_LO_DRIP_LO 0 (s.drip % 2 ^ 32)).wr F.GLB_TALLY_SNAP_DRIP_HI_DRIP_HI 0 (s.drip / 2 ^ 32)

/-- GLB_TALLY_CTL.COMMIT and ADOPT written 1 wait for the next boundary (R351). -/
def State.askCommit (s : State) : State := s.modBoot fun b => { b with commit := true }
def State.askAdopt (s : State) : State := s.modBoot fun b => { b with adopt := true }

/-- GLB_TALLY_CTL.COMMIT (R351). -/
def execGlbTallyCtlCommit (r : Requester) (s : State) : Res :=
  effect (Wf.glbTallyCtlCommit r) s fun s => s.viaBus r State.askCommit

/-- GLB_TALLY_CTL.ADOPT (R351). -/
def execGlbTallyCtlAdopt (r : Requester) (s : State) : Res :=
  effect (Wf.glbTallyCtlAdopt r) s fun s => s.viaBus r State.askAdopt

end Sys2Proof.Machine
end

