-- ==== Sys2Proof/Machine/FlashCore.lean ====
section
/-! DEFINITION. What the flash holds, byte by byte (R337 to R347): the record log and its replay, image headers, Survey bodies,
the section table and phrase sets of a firmware body, their checks, and the choice of a bank. -/
namespace Sys2Proof.Machine

/-! Bytes and regions (R337) -/

/-- n bytes from an address on; an erased byte reads 0xFF. -/
def flashRead (f : Flash) (a n : Nat) : List Nat := (List.range n).map fun k => f.cells.get (a + k) 0xFF

/-- Program bytes at rising addresses. -/
def flashProgram (f : Flash) (a : Nat) (bytes : List Nat) : Flash :=
  { f with cells := bytes.zipIdx.foldl (fun c p => SMap.set c (a + p.2) (p.1 % 256) 0xFF) f.cells }

/-- Erase n bytes. -/
def flashErase (f : Flash) (a n : Nat) : Flash :=
  { f with cells := f.cells.filter fun c => !(decide (a ≤ c.1) && decide (c.1 < a + n)) }

/-- The offset of a log area, the slots of an area, and the offset and size of a bank: component 1 firmware, 2 Survey. -/
def areaBase (area : Nat) : Nat := 0x10000 * area
def areaSlots : Nat := 2048
def bankBase (comp b : Nat) : Nat := if comp = 1 then 0x100000 + 0x200000 * b else 0x40000 + 0x20000 * b
def bankBytes (comp : Nat) : Nat := if comp = 1 then 0x200000 else 0x20000

/-! The record log (R338, R339) -/

/-- The types of an update record. -/
inductive RecType where
  | verified | pending | trial | confirmed | reverted | invalidated | reserved
deriving DecidableEq, Repr

/-- An update record. -/
structure LogRec where
  type : RecType
  comp : Nat
  bank : Nat
  seq : Nat
  version : Nat
  digest : List Nat
deriving DecidableEq, Repr

/-- The code of a record type; reserved ones are never written. -/
def recCode : RecType → Nat
  | .verified => 1 | .pending => 2 | .trial => 3 | .confirmed => 4 | .reverted => 5 | .invalidated => 6 | .reserved => 0

/-- The type that a code means. -/
def recType (c : Nat) : RecType :=
  if c = 1 then .verified else if c = 2 then .pending else if c = 3 then .trial else if c = 4 then .confirmed
  else if c = 5 then .reverted else if c = 6 then .invalidated else .reserved

/-- The 32 bytes of a record. -/
def recBytes (r : LogRec) : List Nat :=
  let b := [recCode r.type, r.comp, r.bank, 0] ++ leBytes r.seq 4 ++ leBytes r.version 4 ++ padTo r.digest 16
  b ++ leBytes (crc32c b) 4

/-- The record that a slot holds. -/
def recOf (l : List Nat) : LogRec :=
  ⟨recType (byteAt l 0), byteAt l 1, byteAt l 2, leAt l 4 4, leAt l 8 4, (l.drop 12).take 16⟩

/-- The CRC of a slot holds; one whose CRC fails is torn. -/
def recValid (l : List Nat) : Bool := crc32c (l.take 28) == leAt l 28 4

/-- The slots from number i of an area up to its first erased one. -/
def slotsFrom (f : Flash) (area : Nat) : Nat → Nat → List (List Nat)
  | 0, _ => []
  | n + 1, i =>
    let l := flashRead f (areaBase area + 32 * i) 32
    if l.all (· == 0xFF) then [] else l :: slotsFrom f area n (i + 1)

/-- The slots of an area that have been written. -/
def areaUsed (f : Flash) (area : Nat) : List (List Nat) := slotsFrom f area areaSlots 0

/-- Insert a record by its number. -/
def insertRec (r : LogRec) : List LogRec → List LogRec
  | [] => [r]
  | q :: t => if r.seq ≤ q.seq then r :: q :: t else q :: insertRec r t

/-- The valid records of an area, and of both areas in ascending SEQ. -/
def areaLog (f : Flash) (area : Nat) : List LogRec := ((areaUsed f area).filter recValid).map recOf
def flashLog (f : Flash) : List LogRec := (areaLog f 0 ++ areaLog f 1).foldr insertRec []

/-- The torn records of both areas, and the erased slots of one. -/
def flashTorn (f : Flash) : Nat := ((areaUsed f 0 ++ areaUsed f 1).filter fun l => !recValid l).length
def flashFree (f : Flash) (area : Nat) : Nat := areaSlots - (areaUsed f area).length

/-- One more than the highest SEQ of some records. -/
def nextSeq (l : List LogRec) : Nat := l.foldl (fun a r => max a (r.seq + 1)) 1

/-- The current area: the one with the highest SEQ (log entry 34). -/
def flashArea (f : Flash) : Nat := if nextSeq (areaLog f 0) < nextSeq (areaLog f 1) then 1 else 0

/-! Replay (R340) -/

/-- The state that replaying the records of a component leaves. -/
structure Replay where
  pend : Option Nat := none
  tried : Bool := false
  conf : Option Nat := none
  verA : Option (List Nat) := none
  verB : Option (List Nat) := none
  any : Bool := false
deriving DecidableEq, Repr

/-- The digest that the last VERIFIED record of a bank named. -/
def Replay.ver (x : Replay) (b : Nat) : Option (List Nat) := if b = 0 then x.verA else x.verB

def Replay.setVer (x : Replay) (b : Nat) (d : Option (List Nat)) : Replay :=
  if b = 0 then { x with verA := d } else { x with verB := d }

/-- One record of the replay. -/
def Replay.take (x : Replay) (r : LogRec) : Replay :=
  let drop := if x.pend = some r.bank then none else x.pend
  let x := { x with any := true }
  match r.type with
  | .verified => x.setVer r.bank (some r.digest)
  | .invalidated => { x.setVer r.bank none with pend := drop }
  | .pending => { x with pend := some r.bank, tried := false }
  | .trial => if x.pend = some r.bank then { x with tried := true } else x
  | .confirmed => { x with conf := some r.bank, pend := drop }
  | .reverted => { x with pend := drop }
  | .reserved => x

/-- The records of a component: reserved types are ignored (R338), and so are banks that do not exist. -/
def recordsOf (log : List LogRec) (comp : Nat) : List LogRec :=
  log.filter fun r => r.comp == comp && r.type != .reserved && decide (r.bank < 2)

/-- The records of a component are replayed. -/
def replay (log : List LogRec) (comp : Nat) : Replay := (recordsOf log comp).foldl Replay.take {}

/-- The replay of a component's records in the flash. -/
def flashReplay (f : Flash) (comp : Nat) : Replay := replay (flashLog f) comp

/-! Image headers (R342, R343) -/

/-- The header of a bank. -/
def bankHeader (f : Flash) (comp b : Nat) : List Nat := flashRead f (bankBase comp b) 256
def hdrMagic (h : List Nat) : Nat := leAt h 0 4
def hdrType (h : List Nat) : Nat := byteAt h 4
def hdrFormat (h : List Nat) : Nat := byteAt h 5
def hdrKey (h : List Nat) : Nat := leAt h 6 2
def hdrVersion (h : List Nat) : Nat := leAt h 8 4
def hdrLen (h : List Nat) : Nat := leAt h 12 4
def hdrDigest (h : List Nat) : List Nat := (h.drop 16).take 48
def hdrSig (h : List Nat) : List Nat := (h.drop 64).take 96
def hdrTally (h : List Nat) : Nat := leAt h 160 4

/-- The bytes of a header that its signature covers. -/
def hdrSigned (h : List Nat) : List Nat := h.take 64 ++ (h.drop 160).take 96

/-- The longest body of a type. -/
def bodyLimit (comp : Nat) : Nat := if comp = 1 then 0x1FFF00 else 0x1FF00

/-- The body behind a header in a bank, as long as the header says; with a length over the limit the header fails (R342) and
no body is read. -/
def bankBody (f : Flash) (comp b : Nat) (h : List Nat) : List Nat :=
  flashRead f (bankBase comp b + 0x100) (if hdrLen h ≤ bodyLimit comp then hdrLen h else 0)

/-- The crypto engine's answers (R342): a list of bytes has a digest; a signature of a list verifies with the key of a slot. -/
def cryptoHashes (c : Crypto) (m d : List Nat) : Bool := c.digests.contains (m, d)
def cryptoVerifies (c : Crypto) (slot : Nat) (m sig : List Nat) : Bool :=
  c.digests.any fun p => p.1 == m && c.sigs.contains (slot, p.2, sig)

/-- The header's plain checks (R342); an empty key slot names no key (R343). -/
def headerForm (keys : List Nat) (comp : Nat) (h : List Nat) : Bool :=
  hdrMagic h == 0x3234E5A1 && hdrType h == comp && hdrFormat h == 1
    && (if comp = 1 then hdrKey h == 0 else (hdrKey h == 2 || hdrKey h == 3) && keys.contains (hdrKey h))
    && decide (hdrLen h ≤ bodyLimit comp)

/-- The signature of a header verifies. -/
def headerSigned (c : Crypto) (h : List Nat) : Bool := cryptoVerifies c (hdrKey h) (hdrSigned h) (hdrSig h)

/-- The header of a bank passes (R342). -/
def headerPasses (keys : List Nat) (f : Flash) (comp b : Nat) : Bool :=
  headerForm keys comp (bankHeader f comp b) && headerSigned f.crypto (bankHeader f comp b)

/-- The first 16 bytes of the digest in a bank's header, as the log keeps them (R338). -/
def bankDigest (f : Flash) (comp b : Nat) : List Nat := (hdrDigest (bankHeader f comp b)).take 16

/-! Writing the log (R339) -/

/-- A record of a bank, with the VERSION and DIGEST of its header. -/
def flashRecord (f : Flash) (t : RecType) (comp b : Nat) : LogRec :=
  ⟨t, comp, b, nextSeq (flashLog f), hdrVersion (bankHeader f comp b), bankDigest f comp b⟩

/-- Write a record into the next erased slot of an area; with none left, nothing is written. -/
def flashPut (f : Flash) (area : Nat) (r : LogRec) : Flash :=
  let n := (areaUsed f area).length
  if n < areaSlots then flashProgram f (areaBase area + 32 * n) (recBytes r) else f

/-- Append a record of a bank. -/
def flashAppend (f : Flash) (area : Nat) (t : RecType) (comp b : Nat) : Flash := flashPut f area (flashRecord f t comp b)

/-- The records that reproduce the present state of a component: VERIFIED for each verified bank, CONFIRMED, then any open
PENDING and TRIAL. -/
def flashPresent (f : Flash) (comp : Nat) : List LogRec :=
  let x := flashReplay f comp
  let keep := fun (t : RecType) (b : Nat) => { flashRecord f t comp b with digest := (x.ver b).getD (bankDigest f comp b) }
  ([0, 1].filter fun b => (x.ver b).isSome).map (keep .verified)
    ++ x.conf.toList.map (keep .confirmed) ++ x.pend.toList.map (keep .pending)
    ++ (if x.tried then x.pend.toList.map (keep .trial) else [])

/-- Write records in turn, with rising numbers. -/
def flashPutAll (area : Nat) : List LogRec → Nat → Flash → Flash
  | [], _, f => f
  | r :: t, n, f => flashPutAll area t (n + 1) (flashPut f area { r with seq := n })

/-- The log is compacted out of an area into the other one. -/
def flashCompact (f : Flash) (area : Nat) : Flash :=
  let l := flashPresent f 1 ++ flashPresent f 2
  flashPutAll (1 - area) l (nextSeq (flashLog f)) (flashErase f (areaBase (1 - area)) 0x10000)

/-! The Survey (R344, R345) -/

/-- The 32-bit words of a list of bytes. -/
def wordsOf (l : List Nat) : List Nat := (List.range (l.length / 4)).map fun k => leAt l (4 * k) 4

/-- Words taken in pairs, and in triples. -/
def pairsOf : List Nat → List (Nat × Nat)
  | a :: b :: t => (a, b) :: pairsOf t
  | _ => []
def triplesOf : List Nat → List (Nat × Nat × Nat)
  | a :: b :: c :: t => (a, b, c) :: triplesOf t
  | _ => []

/-- A record by its type and payload; none for an unknown type or a length that its type does not have. -/
def svRec (type : Nat) (p : List Nat) : Option SvRec :=
  let n := p.length
  let when_ := fun (ok : Bool) (r : SvRec) => if ok then some r else none
  if type = 0x0001 then when_ (n == 8) (.device (leAt p 0 2) (byteAt p 2) (leAt p 4 4))
  else if type = 0x0002 then when_ (n == 4) (.clock (bits (byteAt p 0) 0 4) (byteAt p 1))
  else if type = 0x0003 then when_ (n == 4) (.power (leAt p 0 4))
  else if type = 0x0004 then when_ (n == 4) (.debug (byteAt p 0))
  else if type = 0x0005 then when_ (n == 4) (.width (leAt p 0 4))
  else if type = 0x0010 then when_ (decide (8 ≤ n) && n % 8 == 0) (.regWrite (pairsOf (wordsOf p)))
  else if type = 0x0011 then when_ (decide (12 ≤ n) && n % 12 == 0) (.regRmw (triplesOf (wordsOf p)))
  else if type = 0x0020 then when_ (n == 4) (.release (leAt p 0 2) (leAt p 2 2))
  else if type = 0x0030 then when_ (n == 4) (.lock (leAt p 0 4))
  else if type = 0x0040 then some .note
  else if type = 0xFFFF then when_ (n == 0) .endRec
  else none

/-- The records of a Survey body, which END ends exactly; none where they are not as R344 gives. -/
def svParse : Nat → List Nat → Option (List SvRec)
  | 0, _ => none
  | fuel + 1, l =>
    let len := leAt l 2 2
    if l.length < 4 + len ∨ len % 4 ≠ 0 ∨ 4096 < len then none
    else match svRec (leAt l 0 2) ((l.drop 4).take len) with
      | none => none
      | some .endRec => if l.length = 4 then some [.endRec] else none
      | some r => (svParse fuel (l.drop (4 + len))).map (r :: ·)

/-- How many records of a kind a list holds. -/
def countRec (t : SvRec → Bool) (l : List SvRec) : Nat := (l.filter t).length

/-- The values of CLOCK and DEBUG that R344 gives. -/
def svFormOk : SvRec → Bool
  | .clock _ div => decide (4 ≤ div ∧ div ≤ 32)
  | .debug l => decide (l < 2)
  | _ => true

/-- DEVICE comes first and once, and the settings appear at most once each (R344). -/
def svForm (l : List SvRec) : Bool :=
  l.all svFormOk
    && (match l.head? with | some (.device ..) => true | _ => false)
    && countRec (fun r => match r with | .device .. => true | _ => false) l == 1
    && decide (countRec (fun r => match r with | .clock .. => true | _ => false) l ≤ 1)
    && decide (countRec (fun r => match r with | .power _ => true | _ => false) l ≤ 1)
    && decide (countRec (fun r => match r with | .debug _ => true | _ => false) l ≤ 1)
    && decide (countRec (fun r => match r with | .width _ => true | _ => false) l ≤ 1)
    && decide (countRec (fun r => match r with | .release .. => true | _ => false) l ≤ 1)

/-- Registers that no record may write (R345). -/
def svForbidden (r : Reg) : Bool :=
  [Reg.GLB_RST, .GLB_LOCK, .GLB_TALLY, .GLB_TALLY_REF, .GLB_TALLY_STAGE, .GLB_TALLY_CTL, .GLB_TALLY_STAT,
   .GLB_TALLY_CDRIP_LO, .GLB_TALLY_CDRIP_HI, .GLB_TALLY_SNAP, .GLB_TALLY_SNAP_DRIP_LO, .GLB_TALLY_SNAP_DRIP_HI,
   .CLK_SRC, .PWR_AVS_CFG, .GLB_BIFUR, .PORT_CTL, .QUAD_CTL].contains r

/-- The bits of a register that are WO or W1C (R345). -/
def actMask (r : Reg) : Nat :=
  (r.fields.filter fun f => f.acc == .wo || f.acc == .w1c).foldl (fun a f => a + (2 ^ f.w - 1) * 2 ^ f.lo) 0

/-- A write of `ones` to an address is allowed to a Survey: an implemented register outside the windows, none of the
excluded ones, and no WO or W1C bit set (R345). -/
def svWriteOk (addr ones : Nat) : Bool :=
  match regAt addr with
  | some (r, _) => !(decide (0x8000 ≤ addr) && decide (addr < 0x10000)) && !svForbidden r && (actMask r &&& ones) == 0
  | none => false

/-- One record passes conditions 2 to 5 of R345. -/
def svContentOk : SvRec → Bool
  | .device code format _ => code == 0x3234 && format == 1
  | .width v => legalMap fun q => bits v (3 * q) 3
  | .regWrite ps => ps.all fun p => svWriteOk p.1 p.2
  | .regRmw ts => ts.all fun t => svWriteOk t.1 (t.2.1 &&& t.2.2)
  | _ => true

/-- The records of a Survey body; none where R344 or R345 rejects it. -/
def surveyOf (body : List Nat) : Option (List SvRec) :=
  (svParse (body.length + 1) body).filter fun l => svForm l && l.all svContentOk

/-- A Survey body is accepted (R345). -/
def surveyOk (body : List Nat) : Bool := (surveyOf body).isSome

/-- The records of the Survey in a bank, none where its body is not accepted. -/
def bankSurvey (f : Flash) (b : Nat) : List SvRec := (surveyOf (bankBody f 2 b (bankHeader f 2 b))).getD []

/-- The lowest firmware version that a Survey accepts (R344). -/
def minFw (l : List SvRec) : Nat :=
  (l.findSome? fun r => match r with | .device _ _ v => some v | _ => none).getD 0

/-! A firmware body (R347) -/

/-- A section: its type, its LOAD word and its bytes. -/
structure Section where
  type : Nat
  load : Nat
  bytes : List Nat
deriving DecidableEq, Repr

/-- The section table of a body; none where it is out of range, or a section leaves the body. -/
def sectionsOf (body : List Nat) : Option (List Section) :=
  let n := leAt body 0 4
  let at_ := fun j => 4 + 16 * j
  let ok := (List.range n).all fun j => decide (leAt body (at_ j + 4) 4 + leAt body (at_ j + 8) 4 ≤ body.length)
  if 1 ≤ n ∧ n ≤ 16 ∧ 4 + 16 * n ≤ body.length ∧ ok then
    some ((List.range n).map fun j =>
      ⟨byteAt body (at_ j), leAt body (at_ j + 12) 4, (body.drop (leAt body (at_ j + 4) 4)).take (leAt body (at_ j + 8) 4)⟩)
  else none

/-- The sections of a type. -/
def sectionsAre (l : List Section) (type : Nat) : List Section := l.filter fun x => x.type == type

/-- The program of a phrase set, as long as its header says. -/
def phraseProgram (p : Section) : List Nat := (p.bytes.drop 256).take (leAt p.bytes 4 4)

/-- A phrase set has a header and a program that fit a bank. -/
def phraseFits (p : Section) : Bool :=
  decide (256 ≤ p.bytes.length) && decide (leAt p.bytes 4 4 ≤ 12032) && decide (256 + leAt p.bytes 4 4 ≤ p.bytes.length)

/-- The header of a phrase set names the digest of its program and verifies with key slot 1. -/
def phraseSigned (c : Crypto) (p : Section) : Bool :=
  cryptoHashes c (phraseProgram p) ((p.bytes.drop 8).take 48) && cryptoVerifies c 1 (p.bytes.take 56) ((p.bytes.drop 56).take 96)

/-- One section of type 1 and one of type 2 within their limits, and phrase sets whose masks cover each quad exactly once. -/
def sectionsOk (l : List Section) : Bool :=
  (sectionsAre l 1).length == 1 && (sectionsAre l 1).all (fun x => decide (x.bytes.length ≤ 0x40000))
    && (sectionsAre l 2).length == 1 && (sectionsAre l 2).all (fun x => decide (x.bytes.length ≤ 0xC0000))
    && (List.range 8).all (fun q => ((sectionsAre l 3).filter fun p => bit p.load q).length == 1)
    && (sectionsAre l 3).all phraseFits

/-- A firmware body is valid. -/
def firmwareOk (body : List Nat) : Bool := ((sectionsOf body).filter sectionsOk).isSome

/-- The sections of a firmware bank. -/
def bankSections (f : Flash) (b : Nat) : List Section := (sectionsOf (bankBody f 1 b (bankHeader f 1 b))).getD []

/-! Checks and choice (R340, R341, R345, R365) -/

/-- What is wrong with a header and body, as BOOT_ERR.CODE says it; none where header_ok holds. -/
def imageErr (keys : List Nat) (c : Crypto) (comp lowest : Nat) (h body : List Nat) : Option Nat :=
  let base := if comp = 1 then 9 else 5
  if !headerForm keys comp h then some base
  else if !headerSigned c h then some (base + 1)
  else if !cryptoHashes c body (hdrDigest h) then some (base + 2)
  else if comp = 2 then (if surveyOk body then none else some 8)
  else if !firmwareOk body then some base
  else if hdrVersion h < lowest then some 12
  else none

/-- The same of a bank. -/
def bankErr (f : Flash) (keys : List Nat) (comp lowest b : Nat) : Option Nat :=
  imageErr keys f.crypto comp lowest (bankHeader f comp b) (bankBody f comp b (bankHeader f comp b))

/-- What R340 decides: the bank to run, with whether as a trial, the record to append, whether a trial failed, and the failure
of the confirmed bank. -/
structure Choice where
  run : Option (Nat × Bool) := none
  add : Option (RecType × Nat) := none
  notConf : Bool := false
  err : Option (Nat × Nat) := none
deriving DecidableEq, Repr

/-- R340 for a component; `mayTry` where a trial may follow at this reset (R363). -/
def choose (f : Flash) (keys : List Nat) (comp lowest : Nat) (mayTry : Bool) : Choice :=
  let x := flashReplay f comp
  let err := bankErr f keys comp lowest
  let same := fun b => x.ver b == some (bankDigest f comp b)
  let base := x.conf.getD 0
  let plain : Choice :=
    match err base with
    | none => { run := some (base, false) }
    | some e =>
      if err (1 - base) = none ∧ (same (1 - base) ∨ ¬x.any) then { run := some (1 - base, false), err := some (e, base) }
      else { err := some (e, base) }
  match x.pend with
  | none => plain
  | some b =>
    if x.tried then { plain with add := some (.reverted, b), notConf := true }
    else if mayTry ∧ err b = none ∧ same b then { run := some (b, true), add := some (.trial, b) }
    else plain

/-- A TRIAL record of the component that no CONFIRMED or REVERTED record of its bank follows (R333). -/
def trialOpen (log : List LogRec) (comp : Nat) : Option Nat :=
  (recordsOf log comp).foldl (fun a r =>
    match r.type with
    | .trial => some r.bank
    | .confirmed | .reverted => if a = some r.bank then none else a
    | _ => a) none

end Sys2Proof.Machine
end

