-- ==== Sys2Proof/Machine/Boot.lean ====
section
/-! DEFINITION. The BOOT registers and writes of the flash, the resets of the whole device and of the Lantern core, and the
confirmation of a trial (R330 to R341, R355 to R367). -/
namespace Sys2Proof.Machine

/-! Registers that follow the flash (R364 to R367) -/

/-- The state of a bank in BOOT_BANK (R365). -/
def bankBits (keys : List Nat) (f : Flash) (comp b : Nat) : Nat :=
  let x := flashReplay f comp
  b2n (headerPasses keys f comp b) + 2 * b2n (x.ver b).isSome + 4 * b2n (x.pend == some b)
    + 8 * b2n (x.conf == some b)

/-- The VERSION of a bank, 0 where its header fails. -/
def bankVersion (keys : List Nat) (f : Flash) (comp b : Nat) : Nat :=
  if headerPasses keys f comp b then hdrVersion (bankHeader f comp b) else 0

/-- The BOOT registers follow what the flash holds. -/
def State.showFlash (s : State) : State :=
  match s.boot.flash with
  | none => s
  | some f =>
    let k := s.boot.keys
    let s := ((s.wr F.BOOT_BANK_SV_B 0 (bankBits k f 2 1)).wr F.BOOT_BANK_SV_A 0 (bankBits k f 2 0)).wr F.BOOT_BANK_FW_B 0
      (bankBits k f 1 1)
    let s := (s.wr F.BOOT_BANK_FW_A 0 (bankBits k f 1 0)).wr F.BOOT_FW_VER_A_VERSION 0 (bankVersion k f 1 0)
    let s := (s.wr F.BOOT_FW_VER_B_VERSION 0 (bankVersion k f 1 1)).wr F.BOOT_SV_VER_A_VERSION 0 (bankVersion k f 2 0)
    let s := (s.wr F.BOOT_SV_VER_B_VERSION 0 (bankVersion k f 2 1)).wr F.BOOT_LOG_STAT_FREE 0
      (flashFree f s.boot.area)
    s.wr F.BOOT_LOG_STAT_AREA 0 s.boot.area

/-- A program or an erase of the flash: refused, counted and flagged in memory-mapped mode (R360); else FBUSY reads 1 from its
issue. One issued while an earlier one is in progress waits for it first (log entry 28). The answer says whether it was
done. -/
def State.flashWrite (s : State) (k : Flash → Flash) : Bool × State :=
  match s.boot.flash with
  | none => (false, s)
  | some f =>
    if s.flag F.BOOT_SPI_STAT_MMAP 0 then (false, (s.inc F.BOOT_SPI_STAT_REFUSED 0).refuse F.GLB_WERR_BOOT 0 0)
    else (true, ((s.modBoot fun b => { b with flash := some (k f) }).setF F.BOOT_SPI_STAT_FBUSY 0).showFlash)

/-- Firmware compacts the log when fewer than 16 erased slots remain in the current area (R339). -/
def State.compactLog (s : State) : State :=
  match s.boot.flash with
  | none => s
  | some f =>
    if flashFree f s.boot.area ≥ 16 then s
    else
      let r := s.flashWrite fun f => flashCompact f s.boot.area
      if r.1 then (r.2.modBoot fun b => { b with area := 1 - b.area }).showFlash else r.2

/-- A record has been appended: the boot ROM never compacts, and firmware does where it runs. -/
def State.compactFw (s : State) : State := if s.flag F.MGMT_STAT_LRUN 0 then s.compactLog else s

/-- A record is appended to the log, by the boot ROM or by the firmware that runs (R339). -/
def State.appendLog (s : State) (t : RecType) (comp b : Nat) : State :=
  (s.flashWrite fun f => flashAppend f s.boot.area t comp b).2.compactFw

/-- FLASH_PROGRAM_ERASE_COMPLETE (R360). -/
def execFlashProgramEraseComplete (s : State) : Res :=
  effect Wf.flashProgramEraseComplete s fun s => s.clr F.BOOT_SPI_STAT_FBUSY 0

/-- BOOT_ERR records an error (R365). -/
def State.bootErr (s : State) (code comp b : Nat) : State :=
  ((s.wr F.BOOT_ERR_CODE 0 code).wr F.BOOT_ERR_COMP 0 (comp - 1)).wr F.BOOT_ERR_BANK 0 b

/-- A revert is reported (R341). -/
def State.reportRevert (s : State) (comp b : Nat) : State :=
  (((s.setF F.BOOT_UPD_STAT_NOTCONF 0).inc F.BOOT_UPD_CNT_REVERTS 0).raise 18 comp 0).bootErr 19 comp b

/-! The confirmation window (R357) -/

/-- Drips of the confirmation window (R357). -/
def windowDrips : Nat := 60000000

/-- The window opens with the TRIAL record (R354, R357). -/
def State.openWindow (s : State) (byAct : Bool) : State :=
  let s := (s.setF F.BOOT_UPD_STAT_WINDOW 0).wr F.BOOT_UPD_STAT_CONF_LEFT 0 60
  s.modBoot fun b => { b with
    window := some windowDrips, winNew := true, byAct := byAct, tallyOk := false, swaps := [], wdog := false }

/-- The window closes. -/
def State.closeWindow (s : State) : State :=
  (s.clrAll [F.BOOT_UPD_STAT_WINDOW, F.BOOT_UPD_STAT_CONF_LEFT] 0).modBoot fun b => { b with window := none, winNew := false }

/-- A window is open. -/
def State.windowOpen (s : State) : Bool := s.flag F.BOOT_UPD_STAT_WINDOW 0

/-- A drip boundary for the window: it runs from the first one after the TRIAL record and counts the counter's advances
(R357). -/
def State.windowDrip (s : State) (advance : Nat) : State :=
  match s.boot.window with
  | none => s
  | some n =>
    if s.boot.winNew then s.modBoot fun b => { b with winNew := false }
    else
      (s.wr F.BOOT_UPD_STAT_CONF_LEFT 0 ((n - advance) / 1000000)).modBoot fun b => { b with window := some (n - advance) }

/-! Applying a choice -/

/-- What R340 and R341 do for a component whose bank has been chosen: the record, the report of a failed trial or bank, and
the error where no bank runs. -/
def State.applyChoice (s : State) (comp : Nat) (c : Choice) : State :=
  let s := match c.err with
    | some (e, b) => s.bootErr e comp b
    | none => s
  let s := match c.add with
    | some (.reverted, b) => (s.appendLog .reverted comp b).reportRevert comp b
    | some (t, b) => s.appendLog t comp b
    | none => s
  if c.run = none then s.bootErr (if comp = 1 then 16 else 17) comp (s.rd F.BOOT_ERR_BANK 0) else s

/-! Resets of the whole device (R39 to R41, R330, R333) -/

/-- The pins and sources that a reset does not change: the filtered levels of PERST_Nn and PRSNT_Nn, the accepted presence
(R107, R120), and, where the clock monitor runs on, the sources present (R333). -/
def State.keepPins (t s : State) (por : Bool) : State :=
  let t := forUp 16 (fun n a =>
    let a := (a.wr F.PORT_HP_STAT_PERST n (s.rd F.PORT_HP_STAT_PERST n)).wrB F.PORT_HP_STAT_PRSNT n (!(s.port n).prsntHigh)
    a.modPort n fun p => { p with prsntHigh := (s.port n).prsntHigh }) t
  if por then t
  else forUp 3 (fun k a => a.wr (F.srcOk k) 0 (s.rd (F.srcOk k) 0)) (t.modClk fun c => { c with lost := s.clk.lost })

/-- The causes of earlier resets (R41, R415). -/
def F.rstCauses : List Fld :=
  [F.GLB_RST_CAUSE_PORT, F.GLB_RST_CAUSE_LAN_REG, F.GLB_RST_CAUSE_LAN_WDOG, F.GLB_RST_CAUSE_LAN_ACT,
   F.GLB_RST_CAUSE_DEVICE, F.GLB_RST_CAUSE_PIN, F.GLB_RST_CAUSE_POR]

/-- Every register and all logic at its reset value (R39, R40): every transmitter idle; the flash, the key store and, where the
power stays on, the memories keep their contents (R35, R39). -/
def State.wipe (s : State) (por : Bool) (st : Straps) : State :=
  let t : State := {
    pending := s.pending, mem := if por then [] else s.mem, fresh := s.fresh,
    out := (forUp 66 (fun ls a => a.setTx false ls) s).out,
    porDrips := if por then 0 else s.porDrips,
    tap := if por then none else s.tap,
    boot := { flash := s.boot.flash, keys := s.boot.keys, area := s.boot.area } }
  let t := (t.wr F.BOOT_STAT_BOOTSEL 0 st.bootsel).wr F.MGMT_BUS_STAT_STATIC_ADDR 0 (0x58 + st.addr)
  let t := t.keepPins s por
  let t := if por then t else F.rstCauses.foldl (fun a f => a.wr f 0 (s.rd f 0)) t
  let t := t.qstopLevels (s.flag F.SUMP_QSTOP_STAT_A 0) (s.flag F.SUMP_QSTOP_STAT_B 0)
  if s.flag F.PWR_THERM_STAT_TRIP_NOW 0 then
    ((t.setF F.PWR_THERM_STAT_TRIP 0).setF F.PWR_THERM_STAT_TRIP_NOW 0).condOn 2 0 0
  else t

/-- The straps last sampled (R330). -/
def State.lastStraps (s : State) : Straps := ⟨s.strapAddr, s.rd F.BOOT_STAT_BOOTSEL 0⟩

/-- A pin reset or device software reset: start-up runs from stage 3, and the boot ROM repeats the domain switches (R333). -/
def State.warmStart (s : State) (cause : Fld) (st : Straps) : State :=
  let t := (s.wipe false st).setF cause 0
  ((t.setF F.CLK_SRC_SAFE 0).setF F.CLK_SRC_MGMT 0).switchDomains.wr F.BOOT_STAT_STAGE 0 3

/-- A device software reset (R39); the straps keep the values last sampled (R330). -/
def State.deviceReset (s : State) : State := s.warmStart F.GLB_RST_CAUSE_DEVICE s.lastStraps

/-- POWER_ON_RESET (R39): GLB_RST_CAUSE reads POR alone. -/
def execPowerOnReset (st : Straps) (s : State) : Res := effect (Wf.powerOnReset st) s fun s => s.wipe true st

/-- PIN_RESET (R39). -/
def execPinReset (st : Straps) (s : State) : Res :=
  effect (Wf.pinReset st) s fun s => s.warmStart F.GLB_RST_CAUSE_PIN st

/-- BROWN_OUT (R276): a power-on reset starts, and is held until POWER_ON_RESET releases it and samples the straps anew (R275). -/
def execBrownOut (rail : Nat) (s : State) : Res :=
  effect (Wf.brownOut rail) s fun s => (s.wipe true s.lastStraps).putHeld true

/-- GLB_RST.DEVICE is written 1 (R403, R414): ignored while GLB_LOCK.RST is set. -/
def State.askDeviceReset (s : State) (req : Nat) : State :=
  if s.flag F.GLB_LOCK_RST 0 then s.refuse F.GLB_WERR_GLB req 0x10 else s.deviceReset

/-- GLB_RST_DEVICE (R414). -/
def execGlbRstDevice (r : Requester) (s : State) : Res :=
  effect (Wf.glbRstDevice r) s fun s => s.viaBus r fun s => s.askDeviceReset (reqCode r)

/-! Lantern resets (R39, R316, R333) -/

/-- The transmit engines start again (R316): responses handed to the MCTP bindings and to class 3 and not finished are handed
over anew, and their hardware responses are gone. Frames that the CSB link layer holds stay there. -/
def State.rehand (s : State) (v : Nat) : State :=
  let tx := s.rd F.MGMT_VIEW_PTR_RSP_TX v
  let w := s.view v
  let s := s.modView v fun w => { w with q3 := [] }
  forUp (ptrDist tx w.handed) (fun k a =>
    let p := (tx + k) % 128
    if w.done.contains p ∨ byteAt (a.rspEntry v p) 120 = 3 then a else a.handEntry v p) s

/-- The bus target and the mailbox control logic start again (R39, R316, log entry 26). -/
def State.busRestart (s : State) : State :=
  let s := (s.putBus {})
  let s := s.clrAll [F.MGMT_STAT_BUS_MODE, F.MGMT_BUS_STAT_DA_VALID, F.MGMT_BUS_STAT_DYN_ADDR] 0
  (forUp 17 (fun v a => a.rehand v) s).showPend

/-- The device enters recovery from a warm path: every port is disabled (R341, R363). -/
def State.bootRecovery (s : State) : State :=
  forUp 16 (fun n a => a.enablePort n false) ((s.setF F.BOOT_STAT_RECOV 0).wr F.BOOT_STAT_STAGE 0 11)

/-- The warm path of a Lantern reset (R333): an open Survey trial has failed, and a device software reset follows; otherwise
the firmware bank is chosen and loaded. In recovery no firmware is loaded, and the boot ROM serves on (R363, log entry 31). -/
def State.warmPath (s : State) (byAct : Bool) : State :=
  match s.boot.flash with
  | none => s
  | some f =>
    match trialOpen (flashLog f) 2 with
    | some b => ((s.appendLog .reverted 2 b).reportRevert 2 b).deviceReset
    | none =>
      if s.flag F.BOOT_STAT_RECOV 0 then (s.clrAll [F.BOOT_UPD_STAT_PSTATE, F.BOOT_UPD_STAT_COMP] 0).modBoot fun b => { b with
        lantern := none }
      else
      let c := choose f s.boot.keys 1 (minFw s.boot.survey) true
      let s := s.closeWindow.applyChoice 1 c
      match c.run with
      | none => ((s.clr F.MGMT_SEC_STAT_SEC_RUN 0).bootRecovery).modBoot fun b => { b with fw := none, lantern := none }
      | some (b, trial) =>
        let new := s.rd F.BOOT_STAT_FW_BANK 0 != b
        let s := ((s.wr F.BOOT_STAT_FW_BANK 0 b).wrB F.BOOT_STAT_FW_TRIAL 0 trial).modBoot fun x => { x with
          fw := some (b, trial), newFw := new }
        if trial then s.openWindow byAct else s

/-- A Lantern reset starts (R39, R316, R326, R387, R404): service stops, the watchdog stops, the latches of both Lantern
requesters, the SPDM state and an update in progress are lost, and the warm path runs. -/
def State.lanternReset (s : State) (cause : Fld) (byAct : Bool) : State :=
  let s := s.setF cause 0
  let s := (s.clrAll [F.MGMT_STAT_LRUN, F.MGMT_SEC_STAT_SPDM] 0).clr F.SUMP_LWDOG_STAT_RUN 0
  let s := s.secureRelease
  let s := (s.putSnaps (s.snaps.filter fun e => e.1 % 4 == 2)).putSpdm {}
  let s := s.modBoot fun b => { b with lantern := some s.drip, newFw := false, pldm := {} }
  s.busRestart.warmPath byAct

/-- GLB_RST_LANTERN (R39, R414). -/
def execGlbRstLantern (r : Requester) (s : State) : Res :=
  effect (Wf.glbRstLantern r) s fun s => s.viaBus r fun s => s.lanternReset F.GLB_RST_CAUSE_LAN_REG false

/-- The Lantern watchdog expires (R387): a trial in progress has failed (R359). -/
def State.watchdogExpires (s : State) : State :=
  if !s.flag F.SUMP_LWDOG_STAT_RUN 0 then s
  else (((s.inc F.SUMP_LWDOG_STAT_EXP 0).raise 10 0 0).modBoot fun b => { b with wdog := true }).lanternReset
    F.GLB_RST_CAUSE_LAN_WDOG false

/-- LANTERN_WATCHDOG (R387). -/
def execLanternWatchdog (s : State) : Res := effect Wf.lanternWatchdog s State.watchdogExpires

/-! Phrase sets (R347, R356) -/

/-- A phrase set is written into a bank of a quad, header first, and verified (R72, R347). -/
def State.loadPhrase (s : State) (p : Section) (ok : Bool) (q bank : Nat) : State :=
  let s := s.wrBytes (0x100000 + q * 0x8000 + bank * 0x3000) (p.bytes.take 256 ++ phraseProgram p)
  let id := leAt p.bytes 0 2
  let s := if bank = 0 then (s.wrB F.PHR_STAT_VALID_A q ok).wr F.PHR_ID_ID_A q id
    else (s.wrB F.PHR_STAT_VALID_B q ok).wr F.PHR_ID_ID_B q id
  if ok then s else (s.bootErr 13 1 (s.rd F.BOOT_STAT_FW_BANK 0)).raise 17 0 13

/-- Every phrase set of the firmware that runs goes into a bank of the quads it names (R347). -/
def State.loadPhrases (s : State) (bank : State → Nat → Nat) : State :=
  match s.boot.flash with
  | none => s
  | some f =>
    forEach (sectionsAre (bankSections f (s.rd F.BOOT_STAT_FW_BANK 0)) 3) (fun p a =>
      forUp 8 (fun q b => if bit p.load q then b.loadPhrase p (phraseSigned f.crypto p) q (bank b q) else b) a) s

/-- The bank of a quad that is not active (R72). -/
def State.idleBank (s : State) (q : Nat) : Nat := 1 - s.rd F.PHR_STAT_ACT q

/-- Firmware arms a free slot with an action; the slot it took (R355, R356). -/
def State.armFree (s : State) (action arg target : Nat) : Option Nat × State :=
  match (List.range 8).find? fun k => s.rd F.CLK_SCHED_STAT_STATE k != 1 with
  | none => (none, s)
  | some k =>
    let s := (s.wr F.CLK_SCHED_TGT_LO_TGT_LO k (target % 2 ^ 32)).wr F.CLK_SCHED_TGT_HI_TGT_HI k (target / 2 ^ 32 % 2 ^ 16)
    (some k, ((s.wr F.CLK_SCHED_CTL_ACTION k action).wr F.CLK_SCHED_CTL_ARG k arg).armSlot 0 k)

/-- New firmware writes its phrase sets into the inactive banks and arms their swap, 25,000 drips after the reset began
(R356, R358). -/
def State.swapPhrases (s : State) (start : Nat) : State :=
  let s := s.loadPhrases fun a q => a.idleBank q
  let mask := maskOf 8 fun q => s.flag (if s.idleBank q = 0 then F.PHR_STAT_VALID_A else F.PHR_STAT_VALID_B) q
  if mask = 0 then s
  else
    let r := s.armFree 3 mask ((start + 25000) % 2 ^ 48)
    r.2.modBoot fun b => { b with swaps := r.1.toList }

/-- The request that was in progress at a Lantern reset is answered ABORTED (R316). -/
def State.abortInProgress (s : State) (v : Nat) : State :=
  if !s.flag F.MGMT_VIEW_STAT_INPROG v then s
  else
    let e := s.rdBytes (reqAddr v (s.rd F.MGMT_VIEW_PTR_REQ_RD v + 127)) 128
    let s := (s.clr F.MGMT_VIEW_STAT_INPROG v).inc F.MGMT_VIEW_CNT3_ABORTED v
    s.post v (s.rd F.MGMT_VIEW_LAST_INPROG_SEQ v) (entryOpc e) 0 5 [] (entryRoute e)

/-- The normal partition starts: LRUN reads 1, the Lantern watchdog counts, and a log that is nearly full is compacted (R316, R339,
R387). -/
def State.firmwareRuns (s : State) : State :=
  let s := ((s.setF F.MGMT_STAT_LRUN 0).setF F.SUMP_LWDOG_STAT_RUN 0).clr F.SUMP_LWDOG_STAT_AGE 0
  (s.putLwTicks 0).compactLog

/-- The restarted firmware resumes service (R316, R356). -/
def State.lanternRestart (s : State) : State :=
  match s.boot.lantern with
  | none => s
  | some start =>
    let s := s.clrAll [F.BOOT_UPD_STAT_PSTATE, F.BOOT_UPD_STAT_COMP] 0
    let s := forUp 17 (fun v a => a.abortInProgress v) s.firmwareRuns
    let s := if s.boot.newFw then s.swapPhrases start else s
    s.modBoot fun b => { b with lantern := none, newFw := false }

/-- LANTERN_RESTART (R316). -/
def execLanternRestart (s : State) : Res := effect Wf.lanternRestart s State.lanternRestart

/-! Activation, confirmation and revert (R355 to R359) -/

/-- A firmware PENDING is open and not yet tried. -/
def State.pendingFw (s : State) : Bool :=
  match s.boot.flash with
  | some f => (flashReplay f 1).pend.isSome && !(flashReplay f 1).tried
  | none => false

/-- A firmware activation, action 6; the answer says whether it was carried out (R356). -/
def State.activate (s : State) : Bool × State :=
  let p := s.rd F.BOOT_UPD_STAT_PSTATE 0
  if !s.pendingFw || (3 ≤ p && p ≤ 5) || s.windowOpen || s.boot.lantern.isSome then (false, s)
  else (true, s.lanternReset F.GLB_RST_CAUSE_LAN_ACT true)

/-- CONFIRMED is appended for each component in trial, and the window closes (R357). -/
def State.confirmTrials (s : State) : State :=
  if !s.windowOpen then s
  else
    let one := fun (comp : Nat) (f : Fld) (b : Nat) (a : State) =>
      if a.flag f 0 then ((a.appendLog .confirmed comp b).clr f 0).inc F.BOOT_UPD_CNT_CONFIRMS 0 else a
    let s := one 1 F.BOOT_STAT_FW_TRIAL (s.rd F.BOOT_STAT_FW_BANK 0) s
    (one 2 F.BOOT_STAT_SV_TRIAL (s.rd F.BOOT_STAT_SV_BANK 0) s).closeWindow

/-- BOOT_UPD_CTL.CONFIRM (R357). -/
def execBootUpdCtlConfirm (r : Requester) (s : State) : Res :=
  effect (Wf.bootUpdCtlConfirm r) s fun s => s.viaBus r State.confirmTrials

/-- An open trial is reverted by a Lantern reset (R358). -/
def State.revertTrials (s : State) : State :=
  if s.windowOpen then s.lanternReset F.GLB_RST_CAUSE_LAN_ACT false else s

/-- BOOT_UPD_CTL.REVERT (R358). -/
def execBootUpdCtlRevert (r : Requester) (s : State) : Res :=
  effect (Wf.bootUpdCtlRevert r) s fun s => s.viaBus r State.revertTrials

/-- CONFIRMATION_WINDOW_END (R358). -/
def execConfirmationWindowEnd (s : State) : Res := effect Wf.confirmationWindowEnd s State.revertTrials

/-- The conditions of an automatic confirmation, beside the time (R357). -/
def State.mayConfirm (s : State) : Bool :=
  s.flag F.BOOT_UPD_CFG_AUTO_CONF 0 && s.windowOpen && s.flag F.MGMT_STAT_LRUN 0 && s.rd F.BOOT_STAT_STAGE 0 == 11
    && !s.boot.failed && s.boot.lantern.isNone && s.boot.tallyOk && !s.boot.wdog
    && s.boot.swaps.all fun k => s.rd F.CLK_SCHED_STAT_RESULT k == 1

/-- AUTO_CONFIRM (R357). -/
def execAutoConfirm (s : State) : Res :=
  effect Wf.autoConfirm s fun s => if s.mayConfirm then s.confirmTrials else s

/-- PENDING is appended for each component whose non-confirmed bank holds a VERIFIED record that matches its header (R355). -/
def State.reactivate (s : State) : State :=
  forEach [1, 2] (fun comp a =>
    match a.boot.flash with
    | none => a
    | some f =>
      let x := flashReplay f comp
      let b := 1 - x.conf.getD 0
      if headerPasses a.boot.keys f comp b ∧ x.ver b = some (bankDigest f comp b) then a.appendLog .pending comp b else a) s

/-- BOOT_UPD_CTL.REACT (R355). -/
def execBootUpdCtlReact (r : Requester) (s : State) : Res :=
  effect (Wf.bootUpdCtlReact r) s fun s => s.viaBus r State.reactivate

/-- Stage 6 begins: from then on SPI_CLK has the divider of the Survey's CLOCK record (R331). -/
def State.beginLoad (s : State) : State :=
  let s := s.wr F.BOOT_STAT_STAGE 0 6
  match s.boot.survey.findSome? fun r => match r with | .clock _ div => some div | _ => none with
  | some div => s.wr F.BOOT_SPI_CFG_DIV 0 div
  | none => s

/-- CONTINUE in HOLD resumes start-up at stage 6 (R362). -/
def State.continueHold (s : State) : State := if s.rd F.BOOT_STAT_STAGE 0 = 12 then s.beginLoad else s

/-- BOOT_UPD_CTL.CONTINUE (R362). -/
def execBootUpdCtlContinue (r : Requester) (s : State) : Res :=
  effect (Wf.bootUpdCtlContinue r) s fun s => s.viaBus r State.continueHold

/-- BOOT_UPD_CTL.CNT_CLR (R367). -/
def State.clrBootCnt (s : State) : State :=
  (s.clrAll [F.BOOT_UPD_CNT_REVERTS, F.BOOT_UPD_CNT_CONFIRMS, F.BOOT_UPD_CNT_ABORTS, F.BOOT_UPD_CNT_APPLIED] 0).clrAll
    [F.BOOT_SPI_STAT_REFUSED, F.BOOT_LOG_STAT_TORN] 0

/-- BOOT_UPD_CTL.CNT_CLR (R367). -/
def execBootUpdCtlCntClr (r : Requester) (s : State) : Res :=
  effect (Wf.bootUpdCtlCntClr r) s fun s => s.viaBus r State.clrBootCnt

/-- BOOT_UPD_CTL is written, its bits in ascending order. -/
def State.updCtl (s : State) (v : Nat) : State :=
  let s := if bit v 4 then s.clrBootCnt else s
  let s := if bit v 0 then s.confirmTrials else s
  let s := if bit v 1 then s.revertTrials else s
  let s := if bit v 2 then s.reactivate else s
  if bit v 3 then s.continueHold else s

end Sys2Proof.Machine
end

