-- ==== Sys2Proof/Machine/Mirror.lean ====
section
/-! DEFINITION. The mirror registers (R406): their refresh, and the AGE that a drip boundary adds to. -/
namespace Sys2Proof.Machine

/-- The mirrors of a lane-side. -/
def Mirror.lane (ls : Nat) : List (Reg × Nat) :=
  [.LANE_RX_STAT, .LANE_EQ_STAT, .LANE_RX_EQ, .LANE_SLICE_STAT, .LANE_EB_STAT, .LANE_PRBS_STAT].map fun r => (r, ls)

/-- The mirrors of a quad: of its eight lane-sides, and its own. -/
def Mirror.quad (q : Nat) : List (Reg × Nat) :=
  ((List.range 4).flatMap fun k => Mirror.lane (4 * q + k) ++ Mirror.lane (4 * q + k + 32)) ++
    [(.QUAD_STAT, q), (.PHR_STAT, q)]

/-- The mirrors of a port; CMP_PORT_ROW is refreshed with CMP_PORT_STAT, whose AGE applies to both (R184). -/
def Mirror.port (n : Nat) : List (Reg × Nat) :=
  [(.PORT_STAT, n), (.PORT_LINK_STAT, n), (.PORT_EQ_STAT, n), (.PORT_FLIT_STAT, n), (.CMP_PORT_STAT, n),
   (.CMP_PORT_ROW, n), (.CMP_TOKEN_STAT, n)] ++ (List.range 5).map fun c => (.CMP_Q_STAT, 5 * n + c)

/-- The mirrors of the core blocks. -/
def Mirror.core : List (Reg × Nat) :=
  (.CMP_CSB_STAT, 0) :: (List.range 16).flatMap Mirror.port ++ [(.SPARE_STAT, 0), (.SPARE_STAT, 1)]

/-- Every mirror of the device. -/
def Mirror.all : List (Reg × Nat) :=
  (List.range 8).flatMap Mirror.quad ++ Mirror.core ++ Mirror.lane 64 ++ Mirror.lane 65

/-- The field AGE of a mirror register: bits 31:28 (R406). -/
def isAge (f : Fld) : Bool := f.lo == 28 && f.w == 4

/-- Refresh one mirror register: every value is copied and AGE reads 0. -/
def State.refreshReg (s : State) (m : Reg × Nat) : State :=
  forEach m.1.fields (fun f a => a.wrMirror f m.2 (if isAge f then 0 else a.rd f m.2)) s

/-- A mirror passes a drip boundary: AGE increases by 1, and saturates at 0xF. -/
def State.ageReg (s : State) (m : Reg × Nat) : State :=
  forEach m.1.fields (fun f a => if isAge f then a.wrMirror f m.2 (min (a.rdMirror f m.2 + 1) 15) else a) s

/-- Every mirror passes a drip boundary. -/
def State.ageMirrors (s : State) : State := forEach Mirror.all (fun m a => a.ageReg m) s

/-- The spare is powered (R176). -/
def State.sparePowered (s : State) (h : Nat) : Bool := s.spareState h != 0

/-- The refresh of a unit's mirrors; the refresh has stopped in a gated quad, in an unpowered spare and while the core
domain is stopped (R33, R255, R406). -/
def State.mirrorRefresh (s : State) (u : MirrorUnit) : State :=
  if !s.coreRuns then s
  else match u with
    | .quad q => if s.quadGated q then s else forEach (Mirror.quad q) (fun m a => a.refreshReg m) s
    | .core =>
      let s := forUp 16 (fun n a => a.showTokens n) s
      let s := forEach Mirror.core (fun m a => a.refreshReg m) s
      forUp 2 (fun h a => if a.sparePowered h then forEach (Mirror.lane (64 + h)) (fun m b => b.refreshReg m) a else a) s

/-- MIRROR_REFRESH (R406). -/
def execMirrorRefresh (u : MirrorUnit) (s : State) : Res :=
  effect (Wf.mirrorRefresh u) s fun s => s.mirrorRefresh u

end Sys2Proof.Machine
end

