-- ==== Sys2Proof/Machine/RegWrite.lean ====
section
/-! DEFINITION. Management writes: the access codes of R12 and the owners of the RWE and RWL fields, what a write of each
register does, the writable pairs (R405), the memory windows, and the compatibility window (R408 to R412). -/
namespace Sys2Proof.Machine

/-! Owners (R12, R403) -/

/-- What refuses a change of the RWE and RWL fields of a register now: the GLB_WERR bit of its enabled owner, or of the lock
that governs it; none where a write sets them. -/
def State.owner (s : State) (r : Reg) (i : Nat) : Option Fld :=
  let on := fun (b : Bool) (f : Fld) => if b then some f else none
  match r with
  | .LANE_RX_CTL | .LANE_TX_CTL | .LANE_TX_COEF | .LANE_EB_CFG | .LANE_ECHO_CTL | .LANE_PRBS_CTL | .LANE_PRBS_USR_LO
  | .LANE_PRBS_USR_HI => on (!s.laneOwnerOff i) (if i < 64 then F.GLB_WERR_PORT else F.GLB_WERR_SPARE)
  | .PORT_CFG | .PORT_EQ_CFG | .PORT_TMO_CFG | .PORT_BIND | .PORT_FLIT_CFG | .CMP_HOLD_CFG =>
    on (s.portEn i) F.GLB_WERR_PORT
  | .PORT_CAP_CFG | .PORT_CAP_MATCH_LO | .PORT_CAP_MATCH_HI | .PORT_CAP_MASK_LO | .PORT_CAP_MASK_HI | .PORT_CAP_TDRIP_LO
  | .PORT_CAP_TDRIP_HI => on (s.capState i == 1 || s.capState i == 2) F.GLB_WERR_PORT
  | .PHR_CTL => on (s.flag F.PHR_CTL_EN i) F.GLB_WERR_QUAD
  | .CMP_CSB_CFG => on (s.flag F.CMP_CSB_CTL_EN 0) F.GLB_WERR_CMP
  | .CMP_CFG => on ((List.range 16).any fun n => s.flag F.PORT_CFG_COMP n && s.portEn n) F.GLB_WERR_PORT
  | .SPARE_CFG | .SPARE_THR => on (decide (2 ≤ s.spareState 0) || decide (2 ≤ s.spareState 1)) F.GLB_WERR_SPARE
  | .HEAT_PCFG | .HEAT_PBASE | .HEAT_PRANGE => on (s.flag F.HEAT_PCTL_EN i) F.GLB_WERR_HEAT
  | .HEAT_ZCFG | .HEAT_ZBASE => on (s.flag F.HEAT_ZCTL_EN i) F.GLB_WERR_HEAT
  | .CLK_TSYNC_CFG =>
    on (s.rd F.CLK_TSYNC_CFG_MODE 0 % 3 != 0 || s.flag F.CLK_TSYNC_CFG_BCN_EN 0) F.GLB_WERR_CLK
  | .CLK_SCHED_CTL | .CLK_SCHED_TGT_LO | .CLK_SCHED_TGT_HI => on (s.rd F.CLK_SCHED_STAT_STATE i == 1) F.GLB_WERR_CLK
  | .PWR_AVS_CFG => on (s.flag F.PWR_AVS_CFG_EN 0) F.GLB_WERR_PWR
  | .PWR_CAL_CFG =>
    on (s.flag F.PWR_CAL_CFG_AUTO 0 || (List.range 8).any fun q => s.rd F.PWR_CAL_STAT_STATE q != 0) F.GLB_WERR_PWR
  | .GLB_MODE => on (s.flag F.GLB_LOCK_COMPAT 0) F.GLB_WERR_GLB
  | .SUMP_QSTOP_CFG | .SUMP_LWDOG_CFG | .SUMP_SRC_CFG => on (s.flag F.GLB_LOCK_SUMP 0) F.GLB_WERR_SUMP
  | _ => none

/-- A write of one field under its access code (R12, R402); the owner is judged as the write finds it. -/
def State.writeField (s : State) (own : Option Fld) (req addr val i : Nat) (f : Fld) : State :=
  let v := bits val f.lo f.w
  match f.acc with
  | .ro | .wo => s
  | .rw => s.wr f i v
  | .w1c => s.wr f i (s.rd f i &&& (2 ^ f.w - 1 - v))
  | .w1s => s.wr f i (s.rd f i ||| v)
  | .rwe | .rwl =>
    if v = s.rd f i then s
    else match own with
      | some w => s.refuse w req addr
      | none => s.wr f i v

/-- Fields whose write is an operation of its own, below. -/
def ownFields : List Fld := [
  F.LANE_RX_CTL_FREEZE, F.PHR_CTL_EN, F.PORT_CTL_EN, F.CMP_CSB_CTL_EN, F.HEAT_PCTL_EN, F.HEAT_ZCTL_EN, F.HEAT_PLFSR_STATE,
  F.CLK_SRC_SAFE, F.CLK_SRC_MGMT, F.CLK_SRC_CORE_REF, F.CLK_SRC_OREF, F.CLK_SRC_IREF, F.CLK_TSYNC_CFG_MODE, F.PWR_AVS_CFG_EN,
  F.MGMT_VIEW_CTL_EN, F.MGMT_VIEW_CTL_FREEZE, F.PORT_BIND_TAG, F.PWR_THERM_STAT_TRIP]

/-- The fields of a register that a write sets by their access codes alone. -/
def State.writeFields (s : State) (r : Reg) (req addr val i : Nat) : State :=
  let own := s.owner r i
  forEach (r.fields.filter fun f => !ownFields.contains f) (fun f a => a.writeField own req addr val i f) s

/-! What a write of each register does -/

/-- The coefficients of a transmitter follow LANE_TX_COEF while OVR = 1 (R54, R78). When OVR ends, the stored coefficients of
the rate come back; with none stored, what the transmitter then uses is not given. -/
def State.overrideCoefs (s : State) (ls : Nat) (was : Bool) : State :=
  if s.flag F.LANE_TX_CTL_OVR ls then
    let s := (s.wr F.LANE_EQ_STAT_PRESET ls 0xF).wr F.LANE_EQ_STAT_CM2 ls (s.rd F.LANE_TX_COEF_CM2 ls)
    ((s.wr F.LANE_EQ_STAT_CM1 ls (s.rd F.LANE_TX_COEF_CM1 ls)).wr F.LANE_EQ_STAT_C0 ls (s.rd F.LANE_TX_COEF_C0 ls)).wr
      F.LANE_EQ_STAT_CP1 ls (s.rd F.LANE_TX_COEF_CP1 ls)
  else if was then
    let v := (s.lane ls).stored.get (s.storeKey ls) 0
    if v = 0 then s.free.2.setCoefs ls 0xF s.free.1 else s.recallCoefs ls 0
  else s

/-- PORT_CFG was written: COMP moves the need for spares and starts the comparison of R389 afresh, the mode fields are new
targets, and PRSNT_EN set to 1 acts on the accepted level (R24, R107, R176). -/
def State.portCfgActs (s : State) (n : Nat) (comp prsnt : Bool) : State :=
  let s := if s.flag F.PORT_CFG_COMP n = comp then s
    else (s.modPort n fun p => { p with configSeen := false }).gateSpares
  let s := s.retarget n true
  if s.flag F.PORT_CFG_PRSNT_EN n && !prsnt then s.presenceActs n else s

/-- ARM, FORCE and STOP of one write, as the capture's state at the write allows (R145). -/
def State.capCtl (s : State) (n val : Nat) : State :=
  if s.capState n = 0 ∨ s.capState n = 3 then (if bit val 0 then s.capArm n else s)
  else
    let s := if bit val 1 then s.capTrigger n else s
    if bit val 2 then s.capStop n else s

/-- MGMT_VIEW_CTL of a view; EN and FREEZE of view 0 are RO (R329). -/
def State.viewCtl (s : State) (req v val : Nat) : State :=
  let s := if v = 0 then s else (s.wrB F.MGMT_VIEW_CTL_EN v (bit val 0)).freezeView v (bit val 1)
  let s := if bit val 4 then s.clrViewCnt v else s
  let s := if bit val 5 then s.saveView req v else s
  let s := if bit val 6 then s.restoreView v else s
  if bit val 7 then s.ringReset req v else s

/-- GLB_RST: a device reset that is not refused takes precedence (R414). -/
def State.glbRst (s : State) (req val : Nat) : State :=
  if bit val 0 ∧ !s.flag F.GLB_LOCK_RST 0 then s.askDeviceReset req
  else
    let s := if bit val 0 then s.askDeviceReset req else s
    if bit val 1 then s.lanternReset F.GLB_RST_CAUSE_LAN_REG false else s

/-- The operations of a write, once the fields set by access code alone are in force; `old` is the state before. -/
def State.writeActs (s old : State) (r : Reg) (req addr val i : Nat) : State :=
  let on := fun (k : Nat) (f : State → State) (a : State) => if bit val k then f a else a
  match r with
  | .LANE_RX_CTL =>
    on 11 (fun a => a.clrLaneErr i) (on 10 (fun a => a.restartLane i) ((s.setPolarity i).setFreeze i (bit val 0)))
  | .LANE_TX_CTL | .LANE_TX_COEF =>
    let s := s.overrideCoefs i (old.flag F.LANE_TX_CTL_OVR i)
    if s.drive i = old.drive i then s else s.showDrive i
  | .LANE_ECHO_CTL => s.patternCtl i
  | .LANE_PRBS_CTL => on 7 (fun a => a.prbsClr i) (s.patternCtl i)
  | .QUAD_CTL => on 0 (fun a => a.quadReset req i) s
  | .PHR_CTL => s.phraseEnable i (bit val 0)
  | .PHR_WDOG => on 31 (fun a => a.clrPhrWdog i) s
  | .PORT_CTL =>
    on 3 (fun a => a.clrPortCnt i) (on 2 (fun a => (a.retrain i).2) (on 1 (fun a => a.rstPort i) (s.enablePort i (bit val 0))))
  | .PORT_CFG => s.portCfgActs i (old.flag F.PORT_CFG_COMP i) (old.flag F.PORT_CFG_PRSNT_EN i)
  | .PORT_BIND => s.bindTag req i (bits val 0 16)
  | .PORT_FLIT_CFG => s.showIde i
  | .PORT_FLIT_CTL => on 0 (fun a => a.clrFlitCounters i) s
  | .PORT_CAP_CTL => s.capCtl i val
  | .CMP_CSB_CTL => on 2 State.clrCsbCnt (on 1 State.csbReset (s.csbEnable (bit val 0)))
  | .SPARE_CTL =>
    on 8 (fun a => a.clrAll Reg.SPARE_CNT.fields 0)
      (on 7 (fun a => a.spareRelease 1) (on 6 (fun a => a.spareRelease 0) (on 5 (fun a => a.spareManual (bits val 0 5)) s)))
  | .CMP_SLOT_CTL => on 0 State.clrSlotCnt s
  | .HEAT_EPOCH_CFG => s.putLenWritten true
  | .HEAT_CTL => on 1 State.clrHeatCnt (on 0 State.releaseBank s)
  | .HEAT_PCTL => s.pctlWrite req addr i (bit val 0) (bit val 1)
  | .HEAT_ZCTL => s.zctlWrite req addr i (bit val 0) (bit val 1)
  | .HEAT_PLFSR => s.loadLfsr i val
  | .CLK_SRC =>
    let s := ((s.wrB F.CLK_SRC_SAFE 0 (bit val 0)).wrB F.CLK_SRC_MGMT 0 (bit val 1)).switchDomains
    let s := (s.setCoreRef req (bits val 2 2)).setQuadRef F.CLK_SRC_OREF F.QUAD_STAT_PLL_O_LOCK req (bit val 4)
    s.setQuadRef F.CLK_SRC_IREF F.QUAD_STAT_PLL_I_LOCK req (bit val 5)
  | .CLK_CTL => on 0 State.clrClkCnt s
  | .CLK_FM_CTL => on 31 State.fmStart s
  | .CLK_TSYNC_CFG => s.setTsyncMode (bits val 30 2)
  | .CLK_TSYNC_CTL => on 0 (fun a => a.setF F.CLK_TSYNC_STAT_LOAD_PEND 0) s
  | .CLK_SCHED_CTL => s.slotCtl req i (bit val 16) (bit val 17)
  | .PWR_CTL => (on 0 State.clrPwrCnt s).calRun (bits val 8 8)
  | .PWR_AVS_CFG => s.setAvsEn (bit val 30)
  | .PWR_THERM_STAT => on 18 (fun a => if a.flag F.PWR_THERM_STAT_TRIP_NOW 0 then a else a.clr F.PWR_THERM_STAT_TRIP 0) s
  | .MGMT_CTL => on 0 State.clrMgmtCnt s
  | .MGMT_VIEW_CTL => s.viewCtl req i val
  | .BOOT_UPD_CTL => s.updCtl val
  | .GLB_TALLY_CTL => on 1 State.askAdopt (on 0 State.askCommit s)
  | .SUMP_CTL => on 1 State.availClr (on 0 State.sumpCntClr s)
  | .SUMP_FORCE => s.sumpForce req addr (bits val 0 7) (bits val 8 8) (bits val 16 8)
  | .SUMP_CLR => if bit val 7 then s.sumpClrAll else s.sumpClr req addr (bits val 0 7)
  | .SUMP_LWDOG_CTL => on 0 (fun a => a.lwdogKick req addr) s
  | .GLB_RST => s.glbRst req val
  | .GLB_WERR => if s.werrAny then s else s.clr F.GLB_WERR_ADDR_V 0
  | _ => s

/-! A word -/

/-- What a management write comes to. -/
inductive WriteRes where
  | done (s : State)
  | busErr
  | fault (f : Fault)

/-- The bits of a register that the manual names; every other bit is reserved. -/
def namedBits (r : Reg) : Nat := r.fields.foldl (fun a f => a + (2 ^ f.w - 1) * 2 ^ f.lo) 0

/-- A writable pair's first register, by its second (R405). -/
def pairOf (r : Reg) : Option Reg :=
  match r with
  | .CLK_SCHED_TGT_HI => some .CLK_SCHED_TGT_LO
  | .CLK_TSYNC_LOAD_HI => some .CLK_TSYNC_LOAD_LO
  | .PORT_CAP_TDRIP_HI => some .PORT_CAP_TDRIP_LO
  | _ => none

/-- The first register of a writable pair. -/
def isPairLo (r : Reg) : Bool := r == .CLK_SCHED_TGT_LO || r == .CLK_TSYNC_LOAD_LO || r == .PORT_CAP_TDRIP_LO

/-- A write to the first register of a writable pair is staged (R405). -/
def State.stage (s : State) (addr val : Nat) : State := (s.putStaged (s.staged.set addr (val + 1) 0))

/-- A write to the second register moves both words, under the access rule of the pair, and ends the staging (R405). -/
def State.movePair (s : State) (lo hi : Reg) (req addr val i : Nat) : State :=
  let lov := match s.staged.get (addr - 4) 0 with
    | 0 => s.plainWord lo i
    | v + 1 => v
  let s := (s.putStaged (s.staged.set (addr - 4) 0 0))
  match s.owner hi i with
  | some w =>
    if lov = s.plainWord lo i ∧ val = s.plainWord hi i then s else s.refuse w req addr
  | none => (s.setWord lo i lov).setWord hi i val

/-- A write to a register outside the compatibility window. A reserved bit written otherwise than it reads is unpredictable
(R14); the registers of a reserved source number ignore writes (R398). -/
def State.writeReg (s : State) (r : Reg) (req addr val i : Nat) : WriteRes :=
  if (r == .SUMP_SRC_CFG || r == .SUMP_SRC_STAT || r == .SUMP_CAP_INFO || r == .SUMP_CAP_DRIP) && (srcRow i).isNone then .done s
  else if val &&& namedBits r ≠ val then .fault .reservedBits
  else if isPairLo r then .done (s.stage addr val)
  else match pairOf r with
    | some lo => .done (s.movePair lo r req addr val i)
    | none =>
      if r == .GLB_BIFUR then
        match s.bifurWrite req val with
        | .next t => .done t
        | .fault f => .fault f
        | .refused _ => .busErr
      else if r == .MGMT_VIEW_CTL && bit val 6 && !((i != 0 && bit val 1) : Bool) then .fault .blobNotFrozen
      else .done ((s.writeFields r req addr val i).writeActs s r req addr val i)

/-! The compatibility window (R408 to R412) -/

/-- The window registers that take writes (R411). -/
def compatWritable (r : Reg) : Bool :=
  [Reg.CW_LANE_CTL, .CW_LANE_COEF, .CW_LANE_ERR, .CW_PORT_CTL, .CW_PORT_CFG].contains r

/-- A write to a window register is buffered; a full buffer discards it, and a read-only register ignores it (R410). -/
def State.compatBuffer (s : State) (r : Reg) (req addr val : Nat) : State :=
  if !compatWritable r then s.refuse F.GLB_WERR_COMPAT req addr
  else if s.compat.length ≥ 32 then (s.refuse F.GLB_WERR_COMPAT 3 addr).setF F.CW_WBUF_OVF 0
  else (s.putCompat (s.compat ++ [(addr, val)]))

/-- PORT_CFG is set from the window: a pin newly enabled is acted on (R412), and one no longer enabled holds nothing. -/
def State.compatPortCfg (s : State) (n val : Nat) : State :=
  let perst := s.flag F.PORT_CFG_PERST_EN n
  let prsnt := s.flag F.PORT_CFG_PRSNT_EN n
  let s := ((s.wr F.PORT_CFG_MAX_RATE n (min (bits val 0 3) 5)).wr F.PORT_CFG_SRIS_O n (bits val 4 1)).wr F.PORT_CFG_SRIS_I n
    (bits val 5 1)
  let s := ((s.wr F.PORT_CFG_PERST_EN n (bits val 8 1)).wr F.PORT_CFG_PRSNT_EN n (bits val 9 1)).wr F.PORT_CFG_L0P_EN n
    (bits val 10 1)
  let s := s.wr F.PORT_CFG_MARG_EN n (bits val 11 1)
  let s := if bit val 8 && !perst && s.flag F.PORT_HP_STAT_PERST n then s.resetPort n 1 0x1F else s
  let s := if bit val 9 && !prsnt then s.presenceActs n else s
  s.leaveReset n

/-- A buffered write is applied, whatever the owner's state (R410, R411). -/
def State.compatApply (s : State) (addr val : Nat) : State :=
  match regAt addr with
  | none => s
  | some (r, i) =>
    match r with
    | .CW_LANE_CTL =>
      let was := s.flag F.LANE_TX_CTL_OVR i
      let s := ((s.wr F.LANE_RX_CTL_CTLE_MAX i (bits val 0 6)).wr F.LANE_RX_CTL_DFE_EN i (bits val 8 1)).wr
        F.LANE_RX_CTL_POL_OVR i (bits val 9 1)
      let s := (s.wr F.LANE_RX_CTL_POL_VAL i (bits val 10 1)).wr F.LANE_TX_CTL_OVR i (bits val 12 1)
      (((s.setPolarity i).setFreeze i (bit val 16)).overrideCoefs i was).showDrive i
    | .CW_LANE_COEF =>
      let s := ((s.wr F.LANE_TX_COEF_CM1 i (bits val 0 6)).wr F.LANE_TX_COEF_C0 i (bits val 8 6)).wr F.LANE_TX_COEF_CP1 i
        (bits val 16 6)
      (s.overrideCoefs i (s.flag F.LANE_TX_CTL_OVR i)).showDrive i
    | .CW_LANE_ERR => s.clrLaneErr i
    | .CW_PORT_CTL =>
      let s := s.enablePort i (bit val 0)
      let s := if bit val 1 then s.rstPort i else s
      if bit val 2 then (s.retrain i).2 else s
    | .CW_PORT_CFG => s.compatPortCfg i val
    | _ => s

/-- Every buffered write is applied in order of arrival (R410). -/
def State.compatDrain (s : State) : State :=
  forEach s.compat (fun p a => a.compatApply p.1 p.2) (s.putCompat [])

/-! Any address -/

/-- A write to a memory window (R72, R150, R240, R308, R390). -/
def State.writeWindow (s : State) (w : Window) (req addr val : Nat) : WriteRes :=
  match w with
  | .phrase => .done (s.phraseWrite req addr val)
  | .mailbox => if s.ringOwned addr then .fault .ringEntryOwned else .done (s.wrWord32 addr val)
  | .heat | .zoom => .done (s.heatWrite req addr val)
  | .capture => .done (s.capWindow req addr val)

/-- A management write of a word (R14, R255, R397, R398). -/
def State.writeWord (s : State) (req addr val : Nat) : WriteRes :=
  match regAt addr with
  | some (r, i) =>
    if !(s.reachable addr && s.compatRuns addr) then .busErr
    else if 0x8000 ≤ addr ∧ addr < 0x10000 then .done (s.compatBuffer r req addr val)
    else s.writeReg r req addr val i
  | none =>
    match windowAt addr with
    | some w => if s.coreRuns then s.writeWindow w req addr val else .busErr
    | none => .busErr

/-- A write on the management bus, acknowledged or ended by a bus error; none reaches the device through a locked TAP
(R361). -/
def State.busWrite (s : State) (r : Requester) (addr val : Nat) : Res :=
  if !s.reaches r then .next s
  else match s.writeWord (reqCode r) addr val with
    | .done t => .next (t.emit .writeAck)
    | .busErr => .next (s.emit .busError)
    | .fault f => .fault f

/-- A read on the management bus, as `busWrite`. -/
def State.busRead (s : State) (r : Requester) (addr ns : Nat) : State :=
  if !s.reaches r then s
  else match s.readWord (reqCode r) addr ns with
    | (some v, t) => t.emit (.readData v)
    | (none, t) => t.emit .busError

/-! Commands -/

/-- REGISTER_WRITE (R12, R397 to R405). -/
def execRegisterWrite (r : Requester) (addr val : Nat) (s : State) : Res :=
  guarded (Wf.registerWrite r addr val) s fun s => s.busWrite r addr val

/-- PAIR_LO_WRITE (R405). -/
def execPairLoWrite (r : Requester) (addr val : Nat) (s : State) : Res :=
  guarded (Wf.pairLoWrite r addr val) s fun s => s.busWrite r addr val

/-- PAIR_HI_WRITE (R405). -/
def execPairHiWrite (r : Requester) (addr val : Nat) (s : State) : Res :=
  guarded (Wf.pairHiWrite r addr val) s fun s => s.busWrite r addr val

/-- SNAPSHOT_LO_READ (R404). -/
def execSnapshotLoRead (r : Requester) (addr ns : Nat) (s : State) : Res :=
  effect (Wf.snapshotLoRead r addr ns) s fun s => s.busRead r addr ns

/-- GLB_LOCK_WRITE (R403, R416). -/
def execGlbLockWrite (r : Requester) (val : Nat) (s : State) : Res :=
  guarded (Wf.glbLockWrite r val) s fun s => s.busWrite r 0x20 val

/-- COMPAT_WRITE (R410). -/
def execCompatWrite (r : Requester) (addr val : Nat) (s : State) : Res :=
  guarded (Wf.compatWrite r addr val) s fun s => s.busWrite r addr val

/-- CW_WBUF_READ (R411). -/
def execCwWbufRead (r : Requester) (s : State) : Res :=
  effect (Wf.cwWbufRead r) s fun s => s.busRead r 0xF00C 0

end Sys2Proof.Machine
end

