-- ==== Sys2Proof/Machine/Efsia.lean ====
section
/-! DEFINITION. The Efsia requests: their arrival over MCTP and the CSB, and their service by the Lantern core
(R302 to R317). -/
namespace Sys2Proof.Machine

/-! Arrival -/

/-- The management bus serves the transport of a request (R299). -/
def State.routeOpen (s : State) : Route → Bool
  | .i3c .. => s.i3c
  | .smbus .. => s.smbus
  | .csb _ => true

/-- A request arrives at a view (R303, R309); an uncorrectable word of the entry fails its CRC (R385). -/
def State.arrive (s : State) (rt : Route) (view : Nat) (entry : List Nat) (ecc : Ecc) : State :=
  if !s.routeOpen rt then s.emit .nack
  else
    let go := fun (route eid tag : Nat) (a : State) => (a.eccRead 7 ecc).request view route eid tag entry (Ecc.isUe ecc)
    match rt with
    | .i3c eid tag => go 1 eid tag s
    | .smbus eid tag => go 2 eid tag s
    | .csb h => s.csbMsg h 1 fun a => go 3 0 0 a

/-- EFSIA_REQUEST (R309). -/
def execEfsiaRequest (rt : Route) (view : Nat) (entry : List Nat) (ecc : Ecc) (s : State) : Res :=
  effect (Wf.efsiaRequest rt view entry ecc) s fun s => s.arrive rt view entry ecc

/-! Service: what every opcode shares (R304 to R306, R310, R314, R317) -/

/-- What performing a request comes to: a status and a payload, or a fault. -/
inductive Served where
  | done (status : Nat) (payload : List Nat) (s : State)
  | fault (f : Fault)

/-- The Lantern core may serve a view: it runs, the view is not frozen and its port present, a request waits and the response ring
has room (R10, R311, R314, R316, R319). -/
def State.mayServe (s : State) (v : Nat) : Bool :=
  s.flag F.MGMT_STAT_LRUN 0 && !s.flag F.MGMT_VIEW_STAT_FROZEN v && s.viewLive v && !s.reqEmpty v && !s.rspFull v

/-- The view that a visit goes to, visits counted from 0: the 1st, 3rd, … go to view 0, the 2nd, 4th, … to views 1 to 16 in turn
(R314). -/
def visitView (k : Nat) : Nat := if k % 2 = 0 then 0 else (k + 1) / 2

/-- The first visit from a number on that does not pass. -/
def visitFrom (ready : Nat → Bool) : Nat → Nat → Option Nat
  | 0, _ => none
  | n + 1, k => if ready (visitView k) then some k else visitFrom ready n ((k + 1) % 32)

/-- The numbers that the next visit may have after one that serves a view now; none where it is not that view's turn. While every
visit passes, the cycle may stand anywhere (R314; log entry 112). -/
def State.turns (s : State) (v : Nat) : List Nat :=
  let now := if s.visits = [] then List.range 32 else s.visits.filterMap (visitFrom s.mayServe 32)
  ((now.filter fun k => visitView k == v).map fun k => (k + 1) % 32).eraseDups

/-- After a visit the cycle goes on from there, unless every visit passes. -/
def State.visited (s : State) (next : List Nat) : State :=
  s.putVisits (if (List.range 17).any s.mayServe then next else [])

/-- The LEN and the count of a request are in range (R304). -/
def lenOk (e : List Nat) : Bool :=
  let l := entryLen e
  let c := byteAt (entryPayload e) 4
  let c8 := byteAt (entryPayload e) 8
  decide (l ≤ 112) && match entryOpc e with
    | 1 | 5 => true
    | 2 => decide (5 ≤ l) && decide (1 ≤ c ∧ c ≤ 28)
    | 3 => decide (1 ≤ c ∧ c ≤ 26) && decide (8 + 4 * c ≤ l)
    | 4 => decide (12 ≤ l)
    | 6 => decide (1 ≤ l)
    | 7 | 8 => decide (9 ≤ l) && decide (1 ≤ c8 ∧ c8 ≤ 26)
    | 9 => decide (5 ≤ l)
    | _ => false

/-- The address and the number of words that a READ, WRITE or RMW touches. -/
def entryAddr (e : List Nat) : Nat := leAt (entryPayload e) 0 4
def entryCount (e : List Nat) : Nat := if entryOpc e = 4 then 1 else byteAt (entryPayload e) 4

/-- The words of a request from its address on. -/
def entryWords (e : List Nat) : List Nat := (List.range (entryCount e)).map fun k => entryAddr e + 4 * k

/-- An address in PORT p or in a lane block of the lanes that the port occupies (R306, R317). -/
def State.portScope (s : State) (p a : Nat) : Bool :=
  (decide (0x10000 + 0x1000 * p ≤ a) && decide (a < 0x11000 + 0x1000 * p))
    || (s.portLanes p).any fun l =>
      let b := 0x20000 + 0x2000 * (l / 4) + 0x400 * (l % 4 + 1)
      decide (b ≤ a) && decide (a < b + 0x400)

/-- An address that port view p + 1 may read (R306). -/
def State.readScope (s : State) (p a : Nat) : Bool :=
  decide (a < 0x2000) || s.portScope p a || a / 4 * 4 == 0x40100 + 0x10 * p
    || (decide (0x40840 + 0x80 * p ≤ a) && decide (a < 0x40854 + 0x80 * p))

/-- A view may use an opcode as a request does (R306). -/
def State.viewMay (s : State) (v : Nat) (e : List Nat) : Bool :=
  v == 0 || match entryOpc e with
    | 2 => (entryWords e).all fun a => s.readScope (v - 1) a
    | 3 | 4 => false
    | 8 =>
      let z := byteAt (entryPayload e) 0
      decide (z < 16) && s.rd F.HEAT_ZCFG_PORT z == v - 1 && s.flag F.HEAT_ZCTL_EN z
    | _ => true

/-- A port reset of a port is under way, or holds it: disabled ports too (R39, R44, R106, R107). -/
def State.inReset (s : State) (p : Nat) : Bool :=
  !s.flag F.PORT_STAT_RSTDONE p || s.ltssm p == 0x1F || s.ltssm p == 0x1D

/-- A request of a port view that concerns the datapath of a port in reset (R317). -/
def State.aborts (s : State) (v : Nat) (e : List Nat) : Bool :=
  v != 0 && s.inReset (v - 1) && match entryOpc e with
    | 6 | 9 => true
    | 2 | 3 | 4 => (entryWords e).any fun a => s.portScope (v - 1) a
    | _ => false

/-- A request is performed, where no check of R304, R306 or R317 answers it first. -/
def State.judgeReq (s : State) (v : Nat) (e : List Nat) (perform : State → Served) : Served :=
  if !lenOk e then .done 4 [] s
  else if !s.viewMay v e then .done 2 [] s
  else if s.aborts v e then .done 5 [] (s.inc F.MGMT_VIEW_CNT3_ABORTED v)
  else perform s

/-- The newest response still held in the ring that answers a sequence number; an earlier repeat qualifies (R310). -/
def State.heldRsp (s : State) (v seq : Nat) : Option (List Nat) :=
  (List.range 64).findSome? fun k =>
    let e := (s.view v).past.get ((s.rd F.MGMT_VIEW_PTR_RSP_WR v + 127 - k) % 64) []
    if bit (entryFlags e) 0 && entryEcho e == seq && entryStatus e != 6 && entryStatus e != 7 then some e else none

/-- The response is posted, and the request is no longer in progress; a Lantern reset that the request itself started leaves
it in progress (R314, R316). -/
def State.answer (s : State) (v slot : Nat) (e : List Nat) (rep status : Nat) (payload : List Nat) : State :=
  if !s.flag F.MGMT_STAT_LRUN 0 then s
  else
    let s := (s.clr F.MGMT_VIEW_STAT_INPROG v).modView v fun w => { w with gaps := w.gaps.filter fun g => g.1 != slot }
    s.post v (entrySeq e) (entryOpc e) rep status payload (entryRoute e)

/-- What was kept with an accepted entry (R310): a free value for an entry that came by a restore (log entry 56). -/
def State.kept (s : State) (v slot : Nat) : Nat × State :=
  match (s.view v).gaps.find? fun g => g.1 == slot with
  | some g => (g.2, s)
  | none => s.free

/-- A visit to a view's ring serves its oldest request, where that carries the opcode, a reserved one or a mark (R310,
R314). -/
def State.serve (s : State) (v opc : Nat) (perform : List Nat → Nat → State → Served) : Res :=
  let slot := s.rd F.MGMT_VIEW_PTR_REQ_RD v
  let e := s.rdBytes (reqAddr v slot) 128
  let gap := bit (entryFlags e) 4
  let dup := bit (entryFlags e) 3
  let listed := decide (1 ≤ entryOpc e) && decide (entryOpc e ≤ 9)
  let next := s.turns v
  let done := fun (r : Res) => match r with
    | .next t => Host.Outcome.next (t.visited next)
    | r => r
  if !s.mayServe v || next.isEmpty || !(gap || dup || !listed || entryOpc e == opc) then .next s
  else
    let s := ((s.incWrap F.MGMT_VIEW_PTR_REQ_RD v).wr F.MGMT_VIEW_LAST_INPROG_SEQ v (entrySeq e)).setF F.MGMT_VIEW_STAT_INPROG v
    done <| if gap then let k := s.kept v slot; .next (k.2.answer v slot e 0 6 (leBytes k.1 2))
    else if dup then
      match s.heldRsp v (entrySeq e) with
      | some r => .next (s.answer v slot e 1 (entryStatus r) ((entryPayload r).take (entryLen r)))
      | none => .next (s.answer v slot e 0 7 [])
    else match s.judgeReq v e (perform e slot) with
      | .done status payload t => .next (t.answer v slot e 0 status payload)
      | .fault f => .fault f

/-! The opcodes (R304) -/

/-- The memory word at a window address meets an uncorrectable error (R385). -/
def State.ueAt (s : State) (a : Nat) : State :=
  match windowAt a with
  | some w => let m := windowMem w a; s.eccUe m.1 m.2
  | none => s

/-- Words read in turn, each with its position: the status, the bytes read before the end, and the state. `ue` lists the
positions whose memory word is uncorrectable: a bus error, which a read answers with ECC; `ns` is the time since the last
boundary, which a read of CLK_DRIP_LO latches (R260). -/
def serveReads (ns : Nat) : List (Nat × Nat) → List Nat → State → Nat × List Nat × State
  | [], _, s => (0, [], s)
  | (k, a) :: t, ue, s =>
    if ue.contains k && s.coreRuns && (windowAt a).isSome then (8, [], s.ueAt a)
    else match s.readWord 0 a ns with
      | (none, s) => (3, [], s)
      | (some v, s) =>
        let r := serveReads ns t ue s
        (r.1, leBytes v 4 ++ r.2.1, r.2.2)

/-- Elements with their positions, from 0. -/
def numbered {α : Type} (l : List α) : List (Nat × α) := (l.zipIdx).map fun p => (p.2, p.1)

/-- READ: it stops at the first bus error, and answers with the words before it. -/
def State.doRead (s : State) (ue : List Nat) (ns : Nat) (e : List Nat) : Served :=
  let r := serveReads ns (numbered (entryWords e)) ue s
  .done r.1 r.2.1 r.2.2

/-- Words written in turn, each with its position; a refused one is marked in the bitmap and does not stop the others, a bus
error does. A word that starts a reset of the Lantern core ends the work on the request. -/
def serveWrites : List (Nat × Nat × Nat) → Nat → State → Served
  | [], m, s => .done (if m = 0 then 0 else 9) (leBytes m 4) s
  | (k, a, v) :: t, m, s =>
    match (s.putRefused false).writeWord 0 a v with
    | .done s' =>
      if !s'.flag F.MGMT_STAT_LRUN 0 then .done 0 [] s'
      else serveWrites t (if s'.refusedNow then setBit m k else m) s'
    | .busErr => .done 3 (leBytes m 4) s
    | .fault f => .fault f

/-- WRITE. -/
def State.doWrite (s : State) (e : List Nat) : Served :=
  let vals := (List.range (entryCount e)).map fun k => leAt (entryPayload e) (8 + 4 * k) 4
  serveWrites (((entryWords e).zip vals).zipIdx.map fun p => (p.2, p.1.1, p.1.2)) 0 s

/-- A word of a register as a read-modify-write that acts on nothing writes it back: 0 in every W1C, W1S and WO field
(R399). -/
def keepBits (addr old : Nat) : Nat :=
  match regAt addr with
  | some (r, _) => r.fields.foldl (fun a f =>
      if f.acc == .w1c || f.acc == .w1s || f.acc == .wo then a - bits a f.lo f.w * 2 ^ f.lo else a) old
  | none => old

/-- The word that a read-modify-write under a mask writes (R399). -/
def rmwWord (addr old mask val : Nat) : Nat := (keepBits addr old &&& (2 ^ 32 - 1 - mask)) ||| (val &&& mask)

/-- RMW: the old value, and whether the write was refused; an uncorrectable word of a memory window ends the read (R305). -/
def State.doRmw (s : State) (ue : Bool) (ns : Nat) (e : List Nat) : Served :=
  if ue && s.coreRuns && (windowAt (entryAddr e)).isSome then .done 8 [] (s.ueAt (entryAddr e)) else
  match s.readWord 0 (entryAddr e) ns with
  | (none, s) => .done 3 [] s
  | (some old, s) =>
    let w := rmwWord (entryAddr e) old (leAt (entryPayload e) 4 4) (leAt (entryPayload e) 8 4)
    match (s.putRefused false).writeWord 0 (entryAddr e) w with
    | .done t => .done (if t.refusedNow then 9 else 0) (leBytes old 4 ++ leBytes (b2n t.refusedNow) 4) t
    | .busErr => .done 3 [] s
    | .fault f => .fault f

/-- The VERSION of the Survey bank in use, 0 with none. -/
def State.surveyVersion (s : State) : Nat :=
  match s.boot.sv with
  | some (b, _) => s.rd (if b = 0 then F.BOOT_SV_VER_A_VERSION else F.BOOT_SV_VER_B_VERSION) 0
  | none => 0

/-- GET_INFO. Both partitions' versions are that of the running firmware bank; the manager view has no binding. -/
def State.infoBytes (s : State) (v : Nat) : List Nat :=
  let fw := s.rd (if s.rd F.BOOT_STAT_FW_BANK 0 = 0 then F.BOOT_FW_VER_A_VERSION else F.BOOT_FW_VER_B_VERSION) 0
  leBytes (s.plainWord .GLB_ID 0) 4 ++ leBytes fw 4 ++ leBytes fw 4 ++ leBytes s.surveyVersion 4
    ++ [v, if v = 0 then 0xFF else v - 1]
    ++ (if v = 0 then [0, 0, 0, 0] else leBytes (s.rd F.PORT_BIND_TAG (v - 1)) 2 ++ leBytes (s.rd F.PORT_BIND_GEN (v - 1)) 2)
    ++ leBytes s.drip 6 ++ leBytes (s.rd F.GLB_TALLY_VALUE 0) 4 ++ leBytes (s.rd F.GLB_TALLY_REF_REF 0) 4
    ++ [s.rd F.GLB_TALLY_STAT_MATCH_NOW 0 + 2 * b2n (s.view v).savedOnce, 0, 0, 0]

/-- RESYNC: what was kept at its acceptance. -/
def State.resyncBytes (s : State) (v slot : Nat) : List Nat × State :=
  let k := s.kept v slot
  (leBytes (k.1 % 65536) 2 ++ [min (k.1 / 65536) 255], k.2)

/-- The port of a request: its own for a port view, else the first payload byte. -/
def reqPort (v : Nat) (e : List Nat) : Nat := if v = 0 then byteAt (entryPayload e) 0 else v - 1

/-- The addresses of the 14 words of PORT_SUMMARY. -/
def summaryAddrs (p : Nat) : List Nat :=
  let b := 0x10000 + 0x1000 * p
  let dir := fun (d : Nat) => [b + 0xA0 + 0x40 * d, b + 0xA8 + 0x40 * d, b + 0xB0 + 0x40 * d, b + 0xB4 + 0x40 * d]
  [b + 0x14, b + 0x10, 0x40100 + 0x10 * p, b + 0x30, b + 0x34] ++ dir 0 ++ dir 1 ++ [0x50110 + 0x40 * p]

/-- PORT_SUMMARY. -/
def State.doSummary (s : State) (v : Nat) (e : List Nat) : Served :=
  let p := reqPort v e
  if p ≥ 16 then .done 3 [] s
  else
    let r := serveReads 0 (numbered (summaryAddrs p)) [] s
    .done r.1 (if r.1 = 0 then r.2.1 else []) r.2.2

/-- The bank that a HEAT_READ or ZOOM_READ names, and the first eight bytes of its answer. -/
def State.bankHead (s : State) (e : List Nat) : Nat × List Nat :=
  let live := byteAt (entryPayload e) 1 == 1
  let b := if live then s.liveBank else s.otherBank
  (b, leBytes (s.rd F.HEAT_BANK_EPOCH_EPOCH b) 4 ++ [if live then 4 else s.rd F.HEAT_STAT_OSTATE 0, 0, 0, 0])

/-- HEAT_READ and ZOOM_READ: the entries at the given addresses; one error answers the whole request. -/
def State.doEntries (s : State) (e : List Nat) (ok : Bool) (addrs : List Nat) (ue : List Nat) : Served :=
  if !ok || decide (1 < byteAt (entryPayload e) 1) then .done 3 [] s
  else
    let r := serveReads 0 (numbered addrs) ue s
    .done r.1 (if r.1 = 0 then (s.bankHead e).2 ++ r.2.1 else []) r.2.2

/-- HEAT_READ: entries of a partition, counted from its first. -/
def State.doHeat (s : State) (v : Nat) (ue : List Nat) (e : List Nat) : Served :=
  let p := reqPort v e
  let first := leAt (entryPayload e) 4 4
  let n := byteAt (entryPayload e) 8
  s.doEntries e (decide (p < 16) && decide (first + n ≤ s.partLen p))
    ((List.range n).map fun k => heatAddr false (s.bankHead e).1 ((s.rd F.HEAT_PRANGE_FIRST p + first + k) % 262144)) ue

/-- ZOOM_READ. -/
def State.doZoom (s : State) (ue : List Nat) (e : List Nat) : Served :=
  let z := byteAt (entryPayload e) 0
  let first := leAt (entryPayload e) 4 2
  let n := byteAt (entryPayload e) 8
  s.doEntries e (decide (z < 16) && decide (first + n ≤ 4096))
    ((List.range n).map fun k => heatAddr true (s.bankHead e).1 (4096 * z + first + k)) ue

/-- CAP_READ: 112 bytes of a record, or its last 64 (R144, R148). -/
def State.doCap (s : State) (v : Nat) (ue : List Nat) (e : List Nat) : Served :=
  let p := reqPort v e
  let i := leAt (entryPayload e) 2 2
  let part := byteAt (entryPayload e) 4
  if p ≥ 16 ∨ part > 2 ∨ i ≥ s.capTotal p then .done 3 [] s
  else
    let a := 0x500000 + (s.rd F.PORT_CAP_CFG_SEG_BASE p + i / 910) * 0x40000 + i % 910 * 288 + 112 * part
    let r := serveReads 0 (numbered ((List.range (if part = 2 then 16 else 28)).map fun k => a + 4 * k)) ue s
    .done r.1 (if r.1 = 0 then r.2.1 else []) r.2.2

/-! Commands -/

/-- GET_INFO (R304). -/
def execGetInfo (view : Nat) (s : State) : Res :=
  guarded (Wf.getInfo view) s fun s => s.serve view 1 fun _ _ s => .done 0 (s.infoBytes view) s

/-- READ (R304). -/
def execRead (view : Nat) (ecc : List Nat) (s : State) (ns : Nat := 0) : Res :=
  guarded (Wf.read view ecc ns) s fun s => s.serve view 2 fun e _ s => s.doRead ecc ns e

/-- WRITE (R304). -/
def execWrite (view : Nat) (s : State) : Res :=
  guarded (Wf.write view) s fun s => s.serve view 3 fun e _ s => s.doWrite e

/-- RMW (R304, R399). -/
def execRmw (view : Nat) (s : State) (ue : Bool := false) (ns : Nat := 0) : Res :=
  guarded (Wf.rmw view ue ns) s fun s => s.serve view 4 fun e _ s => s.doRmw ue ns e

/-- RESYNC (R304, R310). -/
def execResync (view : Nat) (s : State) : Res :=
  guarded (Wf.resync view) s fun s => s.serve view 5 fun _ slot s =>
    let r := s.resyncBytes view slot
    .done 0 r.1 r.2

/-- PORT_SUMMARY (R304). -/
def execPortSummary (view : Nat) (s : State) : Res :=
  guarded (Wf.portSummary view) s fun s => s.serve view 6 fun e _ s => s.doSummary view e

/-- HEAT_READ (R304). -/
def execHeatRead (view : Nat) (ecc : List Nat) (s : State) : Res :=
  guarded (Wf.heatRead view ecc) s fun s => s.serve view 7 fun e _ s => s.doHeat view ecc e

/-- ZOOM_READ (R304). -/
def execZoomRead (view : Nat) (ecc : List Nat) (s : State) : Res :=
  guarded (Wf.zoomRead view ecc) s fun s => s.serve view 8 fun e _ s => s.doZoom ecc e

/-- CAP_READ (R304). -/
def execCapRead (view : Nat) (ecc : List Nat) (s : State) : Res :=
  guarded (Wf.capRead view ecc) s fun s => s.serve view 9 fun e _ s => s.doCap view ecc e

end Sys2Proof.Machine
end

