-- ==== Sys2Proof/Machine/Startup.lean ====
section
/-! DEFINITION. The stages of start-up (R330 to R336, R340 to R346, R351, R362, R363). Each STARTUP_STAGE_COMPLETE ends the
stage that BOOT_STAT.STAGE names, with what its actor did, and begins the next one. -/
namespace Sys2Proof.Machine

/-- The flash meets R336: SFDP as required, at least 64 Mib, and a quad read. -/
def flashSuits (f : Flash) : Bool := f.suitable && decide (26 ≤ f.dens) && decide (f.io < 2)

/-- What the boot ROM learns of the flash (R336, R338, R366). -/
def State.readFlash (s : State) (f : Flash) : State :=
  let s := (s.modBoot fun b => { b with flash := some f, area := flashArea f }).wr F.BOOT_SPI_CFG_IO 0 f.io
  let s := (s.wr F.BOOT_FLASH_ID_DENS 0 f.dens).wr F.BOOT_FLASH_ID_JEDEC 0 f.jedec
  ((s.wrB F.BOOT_SPI_STAT_ADDR4 0 (decide (27 < f.dens))).wr F.BOOT_LOG_STAT_TORN 0 (min (flashTorn f) 255)).showFlash

/-- The device enters recovery during start-up; stages 4 and 5 still follow (R363). -/
def State.recover (s : State) : State := s.setF F.BOOT_STAT_RECOV 0

/-- Stage 3: the banks of both components are chosen, the Survey's first (R340). A trial boot takes place only at a reset that
samples BOOTSEL 0b00 or 0b11 (R363). -/
def State.chooseBanks (s : State) (f : Flash) : State :=
  let sel := s.rd F.BOOT_STAT_BOOTSEL 0
  let try_ := sel == 0 || sel == 3
  let sv := choose f s.boot.keys 2 0 try_
  let s := s.applyChoice 2 sv
  let low := match sv.run with
    | some (b, _) => minFw (bankSurvey f b)
    | none => 0
  let fw := choose f s.boot.keys 1 low try_
  let s := (s.applyChoice 1 fw).modBoot fun b => { b with sv := sv.run, fw := fw.run }
  let trial := ((sv.run.map (·.2)).getD false) || ((fw.run.map (·.2)).getD false)
  let s := if trial then s.openWindow false else s
  if sel = 1 ∨ sv.run.isNone ∨ fw.run.isNone then s.recover else s

/-- What the boot ROM meets as it reads the flash: nothing, what the flash held when it was last read or written, or a new content. -/
def State.flashSeen (s : State) (x : FlashSeen) : Option Flash :=
  match x with
  | .absent => none
  | .asLeft => s.boot.flash
  | .holds f => some f

/-- Stage 3 ends (R331, R336). -/
def State.endStage3 (s : State) (seen : FlashSeen) : State :=
  let s := match s.flashSeen seen with
    | none => (s.wr F.BOOT_ERR_CODE 0 2).recover
    | some f =>
      if flashSuits f then (s.readFlash f).chooseBanks f else ((s.readFlash f).wr F.BOOT_ERR_CODE 0 3).recover
  s.wr F.BOOT_STAT_STAGE 0 4

/-- The flash with the Survey bank chosen. -/
def State.svChosen (s : State) : Option (Flash × Nat) :=
  match s.boot.flash, s.boot.sv with
  | some f, some (b, _) => some (f, b)
  | _, _ => none

/-- The debug path is locked as the Survey's DEBUG record says, and where there is no valid Survey (R361, R363). -/
def debugLock (survey : Option (List SvRec)) : Bool :=
  match survey with
  | none => true
  | some l => l.any fun r => match r with | .debug 1 => true | _ => false

/-- Stage 4 ends and stage 5 begins: the Survey is in its shadow, and its CLOCK and DEBUG records take effect (R331, R344,
log entry 30). -/
def State.endStage4 (s : State) : State :=
  let i := s.svChosen
  let l := (i.map fun x => bankSurvey x.1 x.2).getD []
  let s := s.modBoot fun b => { b with survey := l, svTally := (i.map fun x => hdrTally (bankHeader x.1 2 x.2)).getD 0 }
  let s := match s.boot.sv with
    | some (b, t) => (s.wr F.BOOT_STAT_SV_BANK 0 b).wrB F.BOOT_STAT_SV_TRIAL 0 t
    | none => s
  let s := match l.findSome? fun r => match r with | .clock src _ => some src | _ => none with
    | some c => ((s.wr F.CLK_SRC_CORE_REF 0 (bits c 0 2)).wr F.CLK_SRC_OREF 0 (bits c 2 1)).wr F.CLK_SRC_IREF 0 (bits c 3 1)
    | none => s
  (s.wrB F.BOOT_STAT_DBG_LOCK 0 (debugLock (i.map fun _ => l))).wr F.BOOT_STAT_STAGE 0 5

/-- Stage 5 ends once the core PLL runs: PWR_AVS_CFG is applied; then recovery, hold, or the load of firmware (R331, R362,
R363). -/
def State.endStage5 (s : State) : State :=
  if !s.coreRuns then s
  else
    let s := match s.boot.survey.findSome? fun r => match r with | .power v => some v | _ => none with
      | some v => s.setWord .PWR_AVS_CFG 0 v
      | none => s
    if s.flag F.BOOT_STAT_RECOV 0 then s.bootRecovery
    else if s.rd F.BOOT_STAT_BOOTSEL 0 = 2 then
      (if s.flag F.BOOT_STAT_DBG_LOCK 0 then (s.wr F.BOOT_ERR_CODE 0 18).beginLoad else s.wr F.BOOT_STAT_STAGE 0 12)
    else s.beginLoad

/-- Stage 6 ends: the firmware is loaded and the secure partition runs (R331, R329). -/
def State.endStage6 (s : State) : State :=
  match s.boot.fw with
  | none => s
  | some (b, t) =>
    let s := (s.wr F.BOOT_STAT_FW_BANK 0 b).wrB F.BOOT_STAT_FW_TRIAL 0 t
    (((s.setF F.MGMT_SEC_STAT_SEC_RUN 0).setF F.MGMT_SEC_STAT_KEY_OK 0).setF F.MGMT_SEC_STAT_CERT0_OK 0).wr F.BOOT_STAT_STAGE 0 7

/-- Stage 7 ends: firmware has filled the memories with zeros, and the normal partition serves (R331, R334). -/
def State.endStage7 (s : State) : State := ((s.putMem [])).firmwareRuns.wr F.BOOT_STAT_STAGE 0 8

/-- Stage 9 begins: the WIDTH record is applied, and the quads it asks for ungate (R331). -/
def State.applyWidth (s : State) : State :=
  match s.boot.survey.findSome? fun r => match r with | .width v => some v | _ => none with
  | some v =>
    ((forUp 8 (fun q a => a.wr (F.quadCode q) 0 (bits v (3 * q) 3)) s).askUngate
      ((List.range 8).filter fun q => bits v (3 * q) 3 != 0)).gateSpares
  | none => s

/-- Stage 8 ends: each phrase set is in bank A of the quads it names, verified (R331, R347). -/
def State.endStage8 (s : State) : State :=
  let s := s.loadPhrases fun _ _ => 0
  s.applyWidth.wr F.BOOT_STAT_STAGE 0 9

/-- Start-up ends early (R346): no port is released, LRUN stays 1 and BOOT_FAIL is reported; a Survey in trial is reverted and
a device software reset boots the confirmed one. -/
def State.bootFails (s : State) (code : Nat) : State :=
  let b := s.rd F.BOOT_STAT_SV_BANK 0
  let s := ((s.bootErr code 2 b).raise 17 0 code).modBoot fun x => { x with failed := true }
  if s.flag F.BOOT_STAT_SV_TRIAL 0 then (s.appendLog .reverted 2 b).deviceReset else s

/-- What the register records of a Survey come to: all done, or ended by a refused write, with what it left; or a write whose
result is unpredictable (R346). -/
inductive Applied where
  | done (s : State)
  | refused (s : State)
  | fault (f : Fault)

/-- A register write of a Survey record. -/
def State.surveyWrite (s : State) (addr val : Nat) : Applied :=
  match ((s.putRefused false)).writeWord 0 addr val with
  | .done t => if t.refusedNow then .refused t else .done t
  | .busErr => .refused s
  | .fault f => .fault f

/-- The writes of a REG_WRITE record, in order. -/
def State.surveyWrites : List (Nat × Nat) → State → Applied
  | [], s => .done s
  | (a, v) :: t, s =>
    match s.surveyWrite a v with
    | .done s => State.surveyWrites t s
    | r => r

/-- The read-modify-writes of a REG_RMW record, in order. -/
def State.surveyRmws : List (Nat × Nat × Nat) → State → Applied
  | [], s => .done s
  | (a, m, v) :: t, s =>
    match s.readWord 0 a 0 with
    | (none, s) => .refused s
    | (some old, s) =>
      match s.surveyWrite a (rmwWord a old m v) with
      | .done s => State.surveyRmws t s
      | r => r

/-- The register records of a Survey, in order (R346). -/
def State.surveyRegs : List SvRec → State → Applied
  | [], s => .done s
  | r :: t, s =>
    let x := match r with
      | .regWrite ps => s.surveyWrites ps
      | .regRmw ts => s.surveyRmws ts
      | _ => .done s
    match x with
    | .done s => State.surveyRegs t s
    | y => y

/-- Stage 9 ends: the register records have been applied, or a refused write has ended the start-up; what was applied before it
stays (R331, R346). -/
def State.endStage9 (s : State) : Res :=
  match s.surveyRegs s.boot.survey with
  | .done t => .next (t.wr F.BOOT_STAT_STAGE 0 10)
  | .refused t => .next (t.bootFails 14)
  | .fault f => .fault f

/-- The LOCK records are ORed into GLB_LOCK (R344). -/
def State.applyLocks (s : State) : State :=
  forEach s.boot.survey (fun r a => match r with
    | .lock v => a.setWord .GLB_LOCK 0 (a.word .GLB_LOCK 0 ||| v)
    | _ => a) s

/-- The next port to release is enabled, and, without spacing, all that wait (R335). -/
def State.releaseNext : Nat → State → State
  | 0, s => s
  | k + 1, s =>
    match s.boot.toRelease with
    | [] => s
    | n :: t =>
      let s := (s.modBoot fun b => { b with toRelease := t, relWait := b.relGap }).enablePort n true
      if s.boot.relGap = 0 then State.releaseNext k s else s

/-- A drip boundary for the release of the ports: the spacing is in µs, a drip each, and firmware counts it while it runs (R335). -/
def State.releaseDrip (s : State) : State :=
  if s.boot.toRelease.isEmpty || !s.flag F.MGMT_STAT_LRUN 0 then s
  else if s.boot.relWait ≤ 1 then State.releaseNext 1 s
  else s.modBoot fun b => { b with relWait := b.relWait - 1 }

/-- Stage 11 begins: every port may be enabled, and the present ones of the RELEASE record are, in ascending order, with its spacing
between one and the next (R106, R331, R335). -/
def State.releasePorts (s : State) (us : Nat) : State :=
  let r := (s.boot.survey.findSome? fun r => match r with | .release m gap => some (m, gap) | _ => none).getD (0, 0)
  let s := forUp 16 (fun n a => a.modPort n fun p => { p with released := true }) s
  let s := (s.wr F.BOOT_TIME_TIME 0 (min us (2 ^ 32 - 1))).wr F.BOOT_STAT_STAGE 0 11
  State.releaseNext 16 (s.modBoot fun b => { b with
    toRelease := (List.range 16).filter fun n => bit r.1 n && s.present n, relGap := r.2, relWait := 0 })

/-- Stage 10 ends: the Survey's tally is committed and the LOCK record applied, or start-up ends (R331, R346, R351). -/
def State.endStage10 (s : State) (us : Nat) : State :=
  let s := (s.wr F.GLB_TALLY_VALUE 0 (tallyOf s.regs)).wr F.GLB_TALLY_STAGE_STAGE 0 s.boot.svTally
  let r := s.commit
  if r.1 then
    let s := if r.2.windowOpen && !r.2.boot.byAct then r.2.modBoot fun b => { b with tallyOk := true } else r.2
    s.applyLocks.releasePorts us
  else r.2.bootFails 15

/-- The stage in progress ends (R331): 11 is the last, and hold ends by CONTINUE alone (R362). -/
def State.stageEnd (s : State) (x : StageIn) : Res :=
  if s.boot.failed || s.held then .next s
  else match s.rd F.BOOT_STAT_STAGE 0 with
    | 1 => .next (s.wr F.BOOT_STAT_STAGE 0 2)
    | 2 => .next (
        if s.srcPresent 0 && s.flag F.CLK_STAT_XPLL_LOCK 0 && s.flag F.CLK_STAT_MPLL_LOCK 0 then
          ((s.setF F.CLK_SRC_SAFE 0).setF F.CLK_SRC_MGMT 0).switchDomains.wr F.BOOT_STAT_STAGE 0 3
        else s)
    | 3 => .next (s.endStage3 x.flash)
    | 4 => .next s.endStage4
    | 5 => .next s.endStage5
    | 6 => .next s.endStage6
    | 7 => .next s.endStage7
    | 8 => .next s.endStage8
    | 9 => s.endStage9
    | 10 => .next (s.endStage10 x.us)
    | _ => .next s

/-- STARTUP_STAGE_COMPLETE (R331). -/
def execStartupStageComplete (inp : StageIn) (s : State) : Res :=
  guarded (Wf.startupStageComplete inp) s fun s => s.stageEnd inp

end Sys2Proof.Machine
end

