-- ==== Sys2Proof/Machine/Pldm.lean ====
section
/-! DEFINITION. The firmware update over PLDM Type 5 (R352 to R355). The layout of the messages and their completion codes are
those of the PLDM specifications (PRESUMED, log entry 29). -/
namespace Sys2Proof.Machine

/-- Change the state of the update. -/
def State.modPldm (s : State) (f : PldmSt → PldmSt) : State := s.modBoot fun b => { b with pldm := f b.pldm }

/-- The device's PLDM state (R367). -/
def State.pstate (s : State) : Nat := s.rd F.BOOT_UPD_STAT_PSTATE 0
def State.setPstate (s : State) (v : Nat) : State := s.wr F.BOOT_UPD_STAT_PSTATE 0 v

/-- The device takes update requests over MCTP now (R352). -/
def State.pldmServes (s : State) : Bool :=
  (s.flag F.MGMT_STAT_LRUN 0 || s.flag F.BOOT_STAT_RECOV 0) && bit (s.rd F.MGMT_ACL_MCTP_VIEWS 0) 0

/-- A PLDM message goes out on the bus in use, as MCTP type 1: a request where `req`, with a free instance ID. -/
def State.pldmSend (s : State) (dest cmd : Nat) (req : Bool) (bytes : List Nat) : State :=
  let f := s.free
  (f.2.emit (.message dest 0 cmd bytes)).busQueue (!f.2.i3c) none none dest 0
    ([0x01, f.1 % 32 + 128 * b2n req, 0x05, cmd] ++ bytes)

/-- A request that the device takes at all (R352). -/
def State.pldmTake (s : State) (k : State → State) : State := s.heard fun s => if s.pldmServes then k s else s

/-- A request of the update agent in a PLDM state that a test admits; else it is answered with an error. -/
def State.pldmIn (s : State) (src cmd : Nat) (ok : Nat → Bool) (k : State → State) : State :=
  s.pldmTake fun s =>
    if s.pstate = 0 then s.pldmSend src cmd false [0x80]
    else if s.boot.pldm.agent ≠ src ∨ !ok s.pstate then s.pldmSend src cmd false [0x84]
    else k s

/-- An exchange that the device leads: it happens only with the update agent, in the state it belongs to. -/
def State.pldmOwn (s : State) (src st : Nat) (k : State → State) : State :=
  s.heard fun s => if s.pldmServes && s.pstate == st && s.boot.pldm.agent == src then k s else s

/-- The update of a component ends: the device is ready for the next one (R354, R367). -/
def State.endComponent (s : State) (res : Nat) : State :=
  ((s.wr F.BOOT_UPD_STAT_LAST_RES 0 res).clr F.BOOT_UPD_STAT_COMP 0).setPstate 2 |>.modPldm fun p => { p with
    size := 0, got := 0, header := [] }

/-- The update of a component ends by cancel or failure: counted (R367). -/
def State.abortComponent (s : State) (res : Nat) : State := (s.endComponent res).inc F.BOOT_UPD_CNT_ABORTS 0

/-- The update ends by cancel or timeout (R352, R354). -/
def State.abortUpdate (s : State) (res : Nat) : State :=
  (((s.abortComponent res).setPstate 0).modPldm fun _ => {})

/-! Inquiries -/

/-- QUERY_DEVICE_IDENTIFIERS (R352). -/
def execQueryDeviceIdentifiers (src : Nat) (s : State) : Res :=
  effect (Wf.queryDeviceIdentifiers src) s fun s => s.pldmTake fun s =>
    s.pldmSend src 0x01 false ([0] ++ leBytes (s.rd F.MGMT_VDM_ID_PEN 0) 4 ++ leBytes 0x3234 2)

/-- The VERSION of a component's bank, as BOOT_FW_VER and BOOT_SV_VER report it. -/
def State.verOf (s : State) (comp b : Nat) : Nat :=
  if comp = 1 then s.rd (if b = 0 then F.BOOT_FW_VER_A_VERSION else F.BOOT_FW_VER_B_VERSION) 0
  else s.rd (if b = 0 then F.BOOT_SV_VER_A_VERSION else F.BOOT_SV_VER_B_VERSION) 0

/-- GET_FIRMWARE_PARAMETERS: the running and the other bank's VERSION of each component (R352). -/
def execGetFirmwareParameters (src : Nat) (s : State) : Res :=
  effect (Wf.getFirmwareParameters src) s fun s => s.pldmTake fun s =>
    let fw := s.rd F.BOOT_STAT_FW_BANK 0
    let sv := s.rd F.BOOT_STAT_SV_BANK 0
    s.pldmSend src 0x02 false ([0] ++ leBytes (s.verOf 1 fw) 4 ++ leBytes (s.verOf 1 (1 - fw)) 4
      ++ leBytes (s.verOf 2 sv) 4 ++ leBytes (s.verOf 2 (1 - sv)) 4)

/-- GET_STATUS: the PLDM state; the previous state, progress and reason that the message also carries are not given (R352). -/
def execGetStatus (src : Nat) (s : State) : Res :=
  effect (Wf.getStatus src) s fun s => s.pldmTake fun s =>
    let f := s.freeBytes 9
    f.2.pldmSend src 0x1B false ([0, s.pstate] ++ f.1)

/-! The update -/

/-- REQUEST_UPDATE: refused while a confirmation window is open or an update runs (R352, R359). -/
def State.requestUpdate (s : State) (src maxXfer : Nat) : State :=
  if s.windowOpen then s.pldmSend src 0x10 false [0x8E]
  else if s.pstate ≠ 0 then s.pldmSend src 0x10 false [0x81]
  else ((s.setPstate 1).modPldm fun _ => { agent := src, maxXfer := maxXfer }).pldmSend src 0x10 false [0, 0, 0, 0]

/-- REQUEST_UPDATE (R352). -/
def execRequestUpdate (src maxXfer : Nat) (s : State) : Res :=
  effect (Wf.requestUpdate src maxXfer) s fun s => s.pldmTake fun s => s.requestUpdate src maxXfer

/-- PASS_COMPONENT_TABLE: with the last component the device is ready to transfer (R352, R367). -/
def execPassComponentTable (src : Nat) (last : Bool) (s : State) : Res :=
  effect (Wf.passComponentTable src last) s fun s => s.pldmIn src 0x13 (· == 1) fun s =>
    ((if last then s.setPstate 2 else s).modPldm fun p => { p with tableDone := last }).pldmSend src 0x13 false [0, 0, 0]

/-- The bank that an update of a component writes (R353). -/
def State.updBank (s : State) (comp : Nat) : Nat :=
  match s.boot.flash with
  | some f => 1 - (flashReplay f comp).conf.getD 0
  | none => 1

/-- The device asks for the next piece (R352), or the download has all its bytes. -/
def State.askPiece (s : State) : State :=
  let p := s.boot.pldm
  if p.got < p.size then
    s.pldmSend p.agent 0x15 true (leBytes p.got 4 ++ leBytes (min (max 1 (min 1024 p.maxXfer)) (p.size - p.got)) 4)
  else s

/-- The download of a component starts (R353, R354). -/
def State.startDownload (s : State) (comp size : Nat) : State :=
  let s := ((s.setPstate 3).wr F.BOOT_UPD_STAT_COMP 0 comp).wr F.BOOT_UPD_STAT_BANK 0 (if comp = 3 then 0 else s.updBank comp)
  let s := s.modPldm fun p => { p with size := size, got := 0, header := [] }
  (s.pldmSend s.boot.pldm.agent 0x14 false [0, 0, 0]).askPiece

/-- The flash as the download of an image into a bank begins: INVALIDATED is appended, and the image length, in blocks of 4 KiB and
at least the header's, is erased (R336, R354). -/
def downloadStarts (f : Flash) (area comp b size : Nat) : Flash :=
  flashErase (flashAppend f area .invalidated comp b) (bankBase comp b) ((max size 256 + 4095) / 4096 * 4096)

/-- UPDATE_COMPONENT (R353, R354). A component the device does not take is refused, with LAST_RES 5 where its image is too
long and 8 where the flash refuses the erase. -/
def State.updateComponent (s : State) (src comp size : Nat) : State :=
  let no := fun (a : State) => a.pldmSend src 0x14 false [0, 1, 0]
  if comp = 3 then
    (if s.flag F.BOOT_STAT_RECOV 0 && decide (s.boot.keys.length < 2) then s.startDownload 3 size else no s)
  else if comp ≠ 1 ∧ comp ≠ 2 then no s
  else if size > bankBytes comp then no (s.wr F.BOOT_UPD_STAT_LAST_RES 0 5)
  else
    let b := s.updBank comp
    let r := s.flashWrite fun f => downloadStarts f s.boot.area comp b size
    if r.1 then r.2.compactFw.startDownload comp size else no (r.2.wr F.BOOT_UPD_STAT_LAST_RES 0 8)

/-- UPDATE_COMPONENT (R353). -/
def execUpdateComponent (src comp size : Nat) (s : State) : Res :=
  effect (Wf.updateComponent src comp size) s fun s => s.pldmIn src 0x14 (· == 2) fun s => s.updateComponent src comp size

/-- REQUEST_FIRMWARE_DATA: the piece that was asked for arrives. The first 256 bytes of an image are its header, which is held; the
body is written to the bank from offset 0x100. A key certificate is held whole, and its bytes are not kept. A piece of another
length is asked for again (R352, R354). -/
def State.pieceArrives (s : State) (bytes : List Nat) : State :=
  let p := s.boot.pldm
  let n := bytes.length
  let comp := s.rd F.BOOT_UPD_STAT_COMP 0
  let body := bytes.drop (256 - p.got)
  let took := fun (a : State) => a.modPldm fun p => { p with
    got := p.got + n, header := if comp = 3 then [] else p.header ++ bytes.take (256 - p.got) }
  if p.got < p.size ∧ n = min (max 1 (min 1024 p.maxXfer)) (p.size - p.got) then
    (if comp = 3 ∨ body = [] then took s
     else
      let r := s.flashWrite fun f => flashProgram f (bankBase comp (s.updBank comp) + max p.got 256) body
      if r.1 then took r.2 else r.2.abortComponent 8).askPiece
  else s.askPiece

/-- REQUEST_FIRMWARE_DATA (R354). -/
def execRequestFirmwareData (src : Nat) (bytes : List Nat) (s : State) : Res :=
  effect (Wf.requestFirmwareData src bytes) s fun s => s.pldmOwn src 3 fun s => s.pieceArrives bytes

/-- TRANSFER_COMPLETE: every byte has arrived, and verification starts (R354). -/
def execTransferComplete (src : Nat) (s : State) : Res :=
  effect (Wf.transferComplete src) s fun s => s.pldmOwn src 3 fun s =>
    if s.boot.pldm.got < s.boot.pldm.size then s
    else ((s.setPstate 4).wr F.BOOT_UPD_STAT_LAST_RES 0 1).pldmSend src 0x16 true [0]

/-- The confirmed firmware's VERSION, 0 where its bank holds none (R353, R354). -/
def State.confirmedFw (s : State) : Nat :=
  match s.boot.flash with
  | some f => bankVersion s.boot.keys f 1 ((flashReplay f 1).conf.getD 0)
  | none => 0

/-- The body that a download has written behind the header held. -/
def State.loadedBody (s : State) (comp : Nat) : List Nat :=
  match s.boot.flash with
  | some f => bankBody f comp (s.updBank comp) s.boot.pldm.header
  | none => []

/-- The result of the verify stage, as LAST_RES reports it (R354, R367): the header held, with the body in the bank, or a key
certificate. A header that does not pass its plain checks counts with the signature (log entry 29). -/
def State.verifyCode (s : State) (comp : Nat) (c : Crypto) (certOk : Bool) : Nat :=
  if comp = 3 then (if certOk then 1 else 2)
  else match imageErr s.boot.keys c comp 0 s.boot.pldm.header (s.loadedBody comp) with
    | some 7 | some 11 => 3
    | some 8 => 4
    | some _ => 2
    | none => if comp = 2 ∧ s.confirmedFw < minFw ((surveyOf (s.loadedBody 2)).getD []) then 4 else 1

/-- What the crypto engine has found stays known, so that later checks of the same bytes agree. -/
def State.learnCrypto (s : State) (c : Crypto) : State :=
  s.modBoot fun b => { b with
    flash := b.flash.map fun f => { f with crypto := ⟨f.crypto.digests ++ c.digests, f.crypto.sigs ++ c.sigs⟩ } }

/-- VERIFY_COMPLETE: the header, digest and content checks of the image that the bytes make (R354). -/
def State.verifyEnds (s : State) (src : Nat) (crypto : Crypto) (certOk : Bool) : State :=
  let c := s.verifyCode (s.rd F.BOOT_UPD_STAT_COMP 0) crypto certOk
  let s := (s.learnCrypto crypto).pldmSend src 0x17 true [if c = 1 then 0 else 1]
  if c = 1 then (s.setPstate 5).wr F.BOOT_UPD_STAT_LAST_RES 0 1 else s.abortComponent c

/-- VERIFY_COMPLETE (R354). -/
def execVerifyComplete (src : Nat) (crypto : Crypto) (s : State) (certOk : Bool := true) : Res :=
  effect (Wf.verifyComplete src crypto certOk) s fun s => s.pldmOwn src 4 fun s => s.verifyEnds src crypto certOk

/-- A component is applied: the header completes its bank, and VERIFIED is appended; a key certificate goes into the
lower-numbered empty slot (R343, R354). The answer says whether it was done. -/
def State.applyComponent (s : State) (comp : Nat) (ok : Bool) : Bool × State :=
  if !ok then (false, s)
  else if comp = 3 then
    (true, s.modBoot fun b => { b with keys := b.keys ++ [if b.keys.contains 2 then 3 else 2] })
  else
    let b := s.updBank comp
    let r := s.flashWrite fun f =>
      flashAppend (flashProgram f (bankBase comp b) s.boot.pldm.header) s.boot.area .verified comp b
    (r.1, r.2.compactFw)

/-- APPLY_COMPLETE: the component counts as applied, or the flash has failed (R354, R367). -/
def State.applyEnds (s : State) (src : Nat) (ok : Bool) : State :=
  let comp := s.rd F.BOOT_UPD_STAT_COMP 0
  let r := s.applyComponent comp ok
  let s := r.2.pldmSend src 0x18 true [if r.1 then 0 else 1]
  if r.1 then
    ((s.endComponent 1).inc F.BOOT_UPD_CNT_APPLIED 0).showFlash.modPldm fun p => { p with applied := p.applied ++ [comp] }
  else s.abortComponent 8

/-- APPLY_COMPLETE (R354). -/
def execApplyComplete (src : Nat) (flashOk : Bool) (s : State) : Res :=
  effect (Wf.applyComplete src flashOk) s fun s => s.pldmOwn src 5 fun s => s.applyEnds src flashOk

/-- ACTIVATE_FIRMWARE: PENDING is appended for each component applied; a self-contained activation arms a free schedule slot
with action 6, except in recovery (R354, R355, R363). -/
def State.activateFirmware (s : State) (src : Nat) (own : Bool) : State :=
  let s := forEach (s.boot.pldm.applied.filter (· < 3)).eraseDups (fun c a => a.appendLog .pending c (a.updBank c)) s
  let at_ := (s.drip + max 1 (s.rd F.BOOT_UPD_CFG_ACT_DELAY 0)) % 2 ^ 48
  let r : Option Nat × State := if own && !s.flag F.BOOT_STAT_RECOV 0 then s.armFree 6 0 at_ else (none, s)
  let s := (r.2.setPstate (if r.1.isSome then 6 else 0)).modPldm fun _ => { agent := src }
  s.pldmSend src 0x1A false ([0] ++ leBytes (b2n r.1.isSome) 2)

/-- ACTIVATE_FIRMWARE (R355). -/
def execActivateFirmware (src : Nat) (selfContained : Bool) (s : State) : Res :=
  effect (Wf.activateFirmware src selfContained) s fun s => s.pldmIn src 0x1A (· == 2) fun s =>
    s.activateFirmware src selfContained

/-- CANCEL_UPDATE_COMPONENT (R354). -/
def execCancelUpdateComponent (src : Nat) (s : State) : Res :=
  effect (Wf.cancelUpdateComponent src) s fun s => s.pldmIn src 0x1C (fun p => 3 ≤ p && p ≤ 5) fun s =>
    (s.abortComponent 6).pldmSend src 0x1C false [0]

/-- CANCEL_UPDATE (R354). -/
def execCancelUpdate (src : Nat) (s : State) : Res :=
  effect (Wf.cancelUpdate src) s fun s => s.pldmIn src 0x1D (fun _ => true) fun s =>
    (s.abortUpdate 6).pldmSend src 0x1D false [0]

/-- UPDATE_AGENT_TIMEOUT (R352). -/
def execUpdateAgentTimeout (s : State) : Res :=
  effect Wf.updateAgentTimeout s fun s => if s.pstate = 0 then s else s.abortUpdate 7

end Sys2Proof.Machine
end

