-- ==== Sys2Proof/Machine/Drip.lean ====
section
/-! DEFINITION. The drip boundary (R261): the counter, the refills, the schedule slots, the heat swap, the phrases, the pulses
and the tally pass, and everything else that a drip counts. -/
namespace Sys2Proof.Machine

/-! Schedule slots (R266 to R269) -/

/-- A slot acts at this boundary: its target is reached, or was in the past when it was armed. -/
def State.slotDue (s : State) (k : Nat) : Bool :=
  s.rd F.CLK_SCHED_STAT_STATE k == 1 && (s.clk.late.contains k || s.reached (s.slotTarget k))

/-- The slots due with an action, in ascending order. -/
def State.dueWith (s : State) (action : Nat) : List Nat :=
  (List.range 8).filter fun k => s.slotDue k && s.rd F.CLK_SCHED_CTL_ACTION k == action

/-- A slot has acted (R268, R269). -/
def State.slotDone (s : State) (k result failq : Nat) : State :=
  let tgt := s.slotTarget k
  let late := s.clk.late.contains k || tgt != s.drip
  let s := (s.wr F.CLK_SCHED_STAT_STATE k 2).wr F.CLK_SCHED_STAT_RESULT k result
  let s := (s.wr F.CLK_SCHED_STAT_FAILQ k failq).wrB F.CLK_SCHED_STAT_LATE k late
  let s := s.wr F.CLK_SCHED_STAT_LATENESS k (if late then min ((s.drip + 2 ^ 48 - tgt) % 2 ^ 48) 0xFFFF else 0)
  let s := s.modClk fun c => { c with late := c.late.filter (· != k) }
  if result = 2 ∨ result = 4 then s.raise 19 k 0 else s

/-- Slots that share one action report its one result (R268). -/
def State.slotsDone (s : State) (ks : List Nat) (ok : Bool) : State :=
  forEach ks (fun k a => a.slotDone k (if ok then 1 else 2) 0) s

/-- The commits that act at this boundary, scheduled or asked for by a write, and then an adopt (R351). -/
def State.commitDrip (s : State) : State :=
  let ks := s.dueWith 1
  let s := if ks.isEmpty && !s.boot.commit then s
    else
      let r := s.commit
      (r.2.slotsDone ks r.1).modBoot fun b => { b with commit := false }
  if s.boot.adopt then s.adopt.modBoot fun b => { b with adopt := false } else s

/-- The scheduled tally snapshots (R268). -/
def State.snapDrip (s : State) : State :=
  let ks := s.dueWith 2
  if ks.isEmpty then s else s.tallySnap.slotsDone ks true

/-- The other bank of a quad's engine is VALID (R72). -/
def State.otherValid (s : State) (q : Nat) : Bool :=
  s.flag (if s.idleBank q = 0 then F.PHR_STAT_VALID_A else F.PHR_STAT_VALID_B) q

/-- The scheduled phrase bank swaps: each quad named once; each slot reports by the outcome of the quads it names (R72, R268). -/
def State.bankDrip (s : State) : State :=
  let ks := s.dueWith 3
  let named := fun q => ks.any fun k => bit (s.rd F.CLK_SCHED_CTL_ARG k) q
  let failed := maskOf 8 fun q => named q && !s.otherValid q
  let s := forUp 8 (fun q a => if named q && !bit failed q then a.wr F.PHR_STAT_ACT q (a.idleBank q) else a) s
  forEach ks (fun k a =>
    let arg := a.rd F.CLK_SCHED_CTL_ARG k
    let f := arg &&& failed
    a.slotDone k (if f = 0 then 1 else if f = arg then 2 else 4) f) s

/-- A heat swap due by epoch length and the scheduled ones are one (R235, R268). -/
def State.heatDrip (s : State) : State :=
  let ks := s.dueWith 4
  let e := s.epochTick
  let r := e.2.trySwap (e.1 || !ks.isEmpty)
  r.2.slotsDone ks r.1

/-- The scheduled port retrains: one to a port (R112, R268). -/
def State.retrainDrip (s : State) : State :=
  let ks := s.dueWith 5
  let arg := fun k => s.rd F.CLK_SCHED_CTL_ARG k
  forUp 256 (fun n a =>
    let mine := ks.filter fun k => arg k == n
    if mine.isEmpty then a
    else if n < 16 ∧ a.present n then let r := a.retrain n; r.2.slotsDone mine r.1
    else a.slotsDone mine false) s

/-- The scheduled firmware activation (R268, R356). A device software reset that it may lead to returns every slot to IDLE. -/
def State.activateDrip (s : State) : State :=
  let ks := s.dueWith 6
  if ks.isEmpty then s
  else
    let r := s.activate
    if r.2.coreRuns then r.2.slotsDone ks r.1 else r.2

/-- Step 3 and step 4 of R261: the slots due, in ascending order of action code, with the heat swap due by epoch length. -/
def State.schedule (s : State) : State := s.commitDrip.snapDrip.bankDrip.heatDrip.retrainDrip.activateDrip

/-! What else a drip counts -/

/-- The phrases that ran in the drip have ended, and those of the next drip start (R70); calibration goes on with them
(R288). -/
def State.phraseDrip (s : State) (d : DripIn) : State :=
  forUp 8 (fun q a =>
    let c := d.cycles.getD q 0
    let slip := decide (900 ≤ c) || (a.cal q).overrun
    ((a.phraseRan q c).calDrip q d.zref slip).modCal q fun x => { x with overrun := false }) s

/-- The TIMESYNC pulse and the BEACON become due (R173, R262). -/
def State.pulseDrip (s : State) : State :=
  let s := if s.rd F.CLK_TSYNC_CFG_MODE 0 = 2 ∧ s.drip % s.period = 0 then s.emit .timesync else s
  if s.csbUp ∧ s.drip % max (s.rd F.CMP_CSB_CFG_BEACON 0) 1 = 0 then (s.putCsb ({ s.csb with beaconDue := some s.drip })) else s

/-- A slice marked failed in the drip; the one that leaves its lane-side without a spare slice may ask for a spare (R48,
R175). -/
def State.sliceDrip (s : State) (ls k : Nat) : State :=
  let s' := s.failSlice ls k
  if (s.lane ls).badSlices.length < 2 ∧ 2 ≤ (s'.lane ls).badSlices.length then s'.sliceLowSpare ls else s'

/-- The elements whose trim failed, and the bits that the pattern checkers counted (R48, R69, R287). -/
def State.laneDrip (s : State) (d : DripIn) : State :=
  let s := forEach d.badSlices (fun p a => a.sliceDrip p.1 p.2) s
  let s := forEach d.badLegs (fun p a => a.failLeg p.1 p.2) s
  forEach d.prbs (fun p a => a.prbsCount p.1 p.2.1 p.2.2) s

/-- The watchdog's count, while it runs (R387). -/
def State.lwdogDrip (s : State) : State :=
  if !s.flag F.SUMP_LWDOG_STAT_RUN 0 then s
  else if s.lwTicks + 1 < 1000 then (s.putLwTicks (s.lwTicks + 1))
  else ((s.inc F.SUMP_LWDOG_STAT_AGE 0).putLwTicks 0)

/-- The lap in progress of each scrubber grows (R386). -/
def State.scrubDrip (s : State) : State := forUp 9 (fun m a => (a.inc F.SUMP_SCRUB_AGE_AGE m).lapJudge m) s

/-- The device leaves the safe state where no device-scoped source is SEVERE (R376). -/
def State.safeDrip (s : State) : State := if s.safe && !s.deviceSevere then (s.putSafe false) else s

/-- ALIVE (R379). -/
def State.aliveDrip (s : State) : State :=
  let s := if decide (5 ≤ s.rd F.BOOT_STAT_STAGE 0) && !s.safe && !s.flag F.PWR_THERM_STAT_TRIP_NOW 0 then (s.putAliveRun true) else s
  if s.aliveRun && s.drip % 500 == 0 then (s.putAlive (!s.alive)) else s

/-- Attributable down time (R391). -/
def State.downDrip (s : State) : State :=
  forUp 16 (fun n a =>
    if (a.port n).attrRun && a.ltssm n != 8 && a.portEn n && !a.flag F.PORT_HP_STAT_PERST n then a.inc F.SUMP_ATTR_DOWN_DRIPS n
    else a) s

/-! Intent and effect (R389) -/

/-- A direction of a port: the mode in the mirror is not the one asked for, with no reason given. -/
def State.modeDiffers (s : State) (n d : Nat) : Bool :=
  s.rdMirror (F.emode d) n != s.rd (F.cmode d) n && s.rdMirror (F.dgc d) n == 0 && s.rdMirror F.PORT_STAT_CMODE_PEND n == 0

/-- The units of R389, each with its number of instances. -/
def misUnits : List (Nat × Nat) := [(1, 16), (2, 16), (3, 16), (4, 8), (5, 1), (6, 8), (7, 17), (8, 1)]

/-- Whether a unit's intent and effect differ, on the mirrors. -/
def State.mismatch (s : State) (unit i : Nat) : Bool :=
  if unit = 1 then s.modeDiffers i 0 || s.modeDiffers i 1
  else if unit = 2 then
    !(s.flag F.PORT_HP_STAT_PERST i || s.rdMirror F.PORT_STAT_RSTDONE i == 0 || s.safe || s.flag F.SUMP_QSTOP_STAT_QUIESCED 0)
      && (s.rdMirror F.PORT_LINK_STAT_LTSSM i == 0x1F) == s.portEn i
  else if unit = 3 then
    (s.port i).configSeen &&
      (if s.flag F.PORT_CFG_COMP i then !(decide (1 ≤ s.rdMirror F.CMP_PORT_STAT_SEG i) && decide (s.rdMirror F.CMP_PORT_STAT_SEG i ≤ 4))
       else s.rdMirror F.CMP_PORT_STAT_SEG i != 0)
  else if unit = 4 then s.qcode i == 0 && !s.quadGated i
  else if unit = 5 then
    !s.clk.lost.contains 0 &&
      ((s.rd F.CLK_SRC_MGMT 0 != s.rd F.CLK_STAT_MGMT_ON 0 && s.flag F.CLK_STAT_MPLL_LOCK 0)
        || (s.rd F.CLK_SRC_SAFE 0 != s.rd F.CLK_STAT_SAFE_ON 0 && s.flag F.CLK_STAT_XPLL_LOCK 0))
  else if unit = 6 then s.rd F.PHR_CTL_EN i != s.rdMirror F.PHR_STAT_RUN i && s.rdMirror F.PHR_STAT_HALTED i == 0
  else if unit = 7 then s.rd F.MGMT_VIEW_CTL_FREEZE i != s.rd F.MGMT_VIEW_STAT_FROZEN i
  else (s.rd F.CMP_CSB_CTL_EN 0 == 0) != (s.rdMirror F.CMP_CSB_STAT_STATE 0 == 0)

/-- One comparison of a unit: a mismatch of more than 16 drips in a row is reported, once until it clears. -/
def State.misCompare (s : State) (unit i : Nat) : State :=
  let key := unit * 256 + i
  if s.mismatch unit i then
    let age := min (s.misAge.get key 0 + 1) 17
    let s := (s.putMisAge (s.misAge.set key age 0))
    if 16 < age then s.condOn 15 i unit else s
  else ((s.putMisAge (s.misAge.set key 0 0))).condOff 15 i unit

/-- Every unit is compared once per drip. -/
def State.misDrip (s : State) : State := forEach misUnits (fun u a => forUp u.2 (fun i b => b.misCompare u.1 i) a) s

/-- What the sump's own measures do at a boundary. -/
def State.sumpDrip (s : State) : State :=
  (forUp 128 (fun k a => a.windowEnd k) s.safeDrip.aliveDrip).lwdogDrip.scrubDrip.downDrip.misDrip

/-! The boundary -/

/-- How far the counter has advanced since the last boundary, with the jumps of R257; 0 for a backward jump. -/
def State.dripAdvance (s : State) : Nat :=
  let d := (s.drip + 2 ^ 48 - s.clk.last) % 2 ^ 48
  if d < 2 ^ 47 then d else 0

/-- Steps 1 and 2 of R261, with the buffered compatibility writes between them (R410). -/
def State.dripStart (s : State) : State :=
  let s := s.advanceDrip.passDrip
  let s := (s.windowDrip s.dripAdvance).compatDrain
  forUp 17 (fun v a => a.refillView v) (forUp 16 (fun n a => a.refillPort n) s)

/-- Steps 5 to 7 of R261, and what else a drip counts. -/
def State.dripEnd (s : State) (d : DripIn) : State :=
  -- a correction that starts at this boundary makes its first part at the next one (R290)
  let s := forUp 2 (fun h a => a.spareDrip h) (s.rampDrip.phraseDrip d).adaptDrip
  let s := (s.pulseDrip.releaseDrip.passStart.queueCaches.ageMirrors.rails d.vddc d.vdda d.vddh d.early).laneDrip d
  let s := forUp 16 (fun n a => (a.capDrip n).qSample n) s
  let s := s.sumpDrip
  { s.modClk fun c => { c with last := s.drip } with porDrips := s.porDrips + 1 }

/-- A drip boundary (R261). While the core domain is stopped there is none (R257); a boundary at which a device reset starts
goes no further. -/
def State.dripBoundary (s : State) (d : DripIn) : State :=
  if !s.coreRuns then s
  else
    let t := s.dripStart.schedule
    if t.coreRuns then t.dripEnd d else t

/-- DRIP_BOUNDARY (R261). -/
def execDripBoundary (d : DripIn) (s : State) : Res := effect (Wf.dripBoundary d) s fun s => s.dripBoundary d

end Sys2Proof.Machine
end

