-- ==== Sys2Proof/Machine/Spdm.lean ====
section
/-! DEFINITION. The SPDM responder (R324 to R326). The codes of responses and errors, and the layout of a message, are those of
SPDM 1.3 (PRESUMED, log entry 25); certificates, nonces and signatures are free values. -/
namespace Sys2Proof.Machine

/-- An SPDM message goes out on the bus in use, as MCTP type 5. -/
def State.spdmSend (s : State) (src code : Nat) (bytes : List Nat) : State :=
  let body := [0x13, code] ++ bytes
  (s.emit (.message src 0 code bytes)).busQueue (!s.i3c) none none src 0 ([0x05] ++ body)

/-- An ERROR message (R324, R326). -/
def State.spdmError (s : State) (src err : Nat) : State := s.spdmSend src 0x7F [err, 0]

/-- A request while the responder is busy: the Lantern core does not run, or a response is being signed (R326). -/
def State.spdmBusy (s : State) : Bool := !s.flag F.MGMT_STAT_LRUN 0 || s.spdm.signing.isSome

/-- A request in the negotiation state it needs: the message joins the transcript (R326). -/
def State.spdmReq (s : State) (src need : Nat) (k : State → State) : State :=
  s.heard fun s =>
  if s.spdmBusy then s.spdmError src 3
  else if s.rd F.MGMT_SEC_STAT_SPDM 0 < need then s.spdmError src 4
  else k (s.putSpdm ({ s.spdm with transcript := s.spdm.transcript + 1 }))

/-- A response with n free bytes after those given. -/
def State.spdmFree (s : State) (src code : Nat) (bytes : List Nat) (n : Nat) : State :=
  let f := s.freeBytes n
  f.2.spdmSend src code (bytes ++ f.1)

/-- GET_VERSION: version 1.3 only; a new negotiation starts, and a response under signing is given up (R324, R326). A second
endpoint is answered Busy while the first one's response is being signed. -/
def State.spdmVersion (s : State) (src : Nat) : State :=
  let other := match s.spdm.signing with
    | some (e, _) => e != src
    | none => false
  if !s.flag F.MGMT_STAT_LRUN 0 || other then s.spdmError src 3
  else (((s.wr F.MGMT_SEC_STAT_SPDM 0 1).putSpdm (⟨none, 0, 1⟩))).spdmSend src 0x04 [0, 0, 0, 1, 0x00, 0x13]

/-- GET_VERSION (R324, R326). -/
def execGetVersion (src : Nat) (s : State) : Res := effect (Wf.getVersion src) s fun s => s.heard fun s => s.spdmVersion src

/-- GET_CAPABILITIES: CERT_CAP, CHAL_CAP and MEAS_CAP with signatures; CTExponent 15 (R324). -/
def execGetCapabilities (src : Nat) (s : State) : Res :=
  effect (Wf.getCapabilities src) s fun s => s.spdmReq src 1 fun s => s.spdmSend src 0x61 [0, 0, 0, 15, 0, 0, 0x16, 0, 0, 0]

/-- NEGOTIATE_ALGORITHMS: only ECDSA P-384, SHA-384 and the DMTF measurement specification (R324). -/
def execNegotiateAlgorithms (src : Nat) (ok : Bool) (s : State) : Res :=
  effect (Wf.negotiateAlgorithms src ok) s fun s => s.spdmReq src 1 fun s =>
    if ok then (s.wr F.MGMT_SEC_STAT_SPDM 0 2).spdmSend src 0x63 [0, 0, 1, 0x80, 0x02] else s.spdmError src 1

/-- GET_DIGESTS of slot 0 (R324). -/
def execGetDigests (src : Nat) (s : State) : Res :=
  effect (Wf.getDigests src) s fun s => s.spdmReq src 2 fun s => s.spdmFree src 0x01 [0, 1] 48

/-- GET_CERTIFICATE of slot 0 (R324). -/
def execGetCertificate (src slot off len : Nat) (s : State) : Res :=
  effect (Wf.getCertificate src slot off len) s fun s => s.spdmReq src 2 fun s =>
    if slot = 0 then s.spdmFree src 0x02 ([0, 0] ++ leBytes len 2) len else s.spdmError src 1

/-- Signing starts; the secure partition holds its domain (R324, R328). Whether it ungates a gated one the manual does not say:
SEC_GATED stays as it is, and the response is signed (DESIGN CHOICE, log entry 108). -/
def State.spdmSign (s : State) (src index : Nat) (chal : Bool) : State :=
  let s := (s.wr F.MGMT_SEC_STAT_SPDM 0 3).setF F.MGMT_SEC_STAT_SEC_HOLD 0
  (s.putSpdm ({ s.spdm with signing := some (src, chal), index := index }))

/-- CHALLENGE on slot 0 (R324). -/
def execChallenge (src slot : Nat) (s : State) : Res :=
  effect (Wf.challenge src slot) s fun s => s.spdmReq src 2 fun s =>
    if slot = 0 then s.spdmSign src 0 true else s.spdmError src 1

/-- What a measurement block digests (R325): the header of a phrase bank is its first 256 bytes (R347). The layout of blocks 6 and
7 is the model's (DESIGN CHOICE, log entry 110). -/
def State.measured (s : State) (k : Nat) : List Nat :=
  let part := fun (type : Nat) => match s.boot.flash with
    | some f => (sectionsAre (bankSections f (s.rd F.BOOT_STAT_FW_BANK 0)) type).flatMap (·.bytes)
    | none => []
  match k with
  | 1 => Config.romBytes
  | 2 => part 1
  | 3 => part 2
  | 4 => match s.svChosen with
    | some (f, b) => bankHeader f 2 b ++ bankBody f 2 b (bankHeader f 2 b)
    | none => []
  | 5 => (List.range 8).flatMap fun q => s.rdBytes (0x100000 + q * 0x8000 + s.rd F.PHR_STAT_ACT q * 0x3000) 256
  | 6 => leBytes (s.rd F.GLB_TALLY_VALUE 0) 4 ++ leBytes (s.rd F.GLB_TALLY_REF_REF 0) 4 ++
      leBytes (s.rd F.GLB_TALLY_CDRIP_LO_DRIP_LO 0) 4 ++ leBytes (s.rd F.GLB_TALLY_CDRIP_HI_DRIP_HI 0) 2
  | _ => leBytes (s.word .GLB_LOCK 0) 4 ++ [s.rd F.BOOT_STAT_DBG_LOCK 0]

/-- The value type of a measurement block, by the codes of the DMTF: 0 immutable ROM, 1 mutable firmware, 2 hardware
configuration, 3 firmware configuration (R325). -/
def measureType (k : Nat) : Nat := if k = 1 then 0 else if k = 4 then 3 else if k ≥ 6 then 2 else 1

/-- A measurement block: its index, the DMTF specification, and a value with a SHA-384 digest (R325). -/
def State.measureBlock (s : State) (k : Nat) : List Nat :=
  [k, 1, 51, 0, measureType k, 48, 0] ++ padTo (Config.sha384 (s.measured k)) 48

/-- The blocks that an index asks for: one, all (0xFF), or none (0). -/
def measureIdx (index : Nat) : List Nat := if index = 0xFF then [1, 2, 3, 4, 5, 6, 7] else if index = 0 then [] else [index]

/-- MEASUREMENTS: the number of blocks where their number is asked for, the blocks, a nonce, and n bytes of signature (R325). -/
def State.spdmMeasure (s : State) (src index n : Nat) : State :=
  let ks := measureIdx index
  let rec_ := ks.flatMap s.measureBlock
  let f := s.freeBytes 32
  let g := f.2.freeBytes n
  g.2.spdmSend src 0x60 ([if index = 0 then 7 else 0, 0, ks.length] ++ leBytes rec_.length 3 ++ rec_ ++ f.1 ++ [0, 0] ++ g.1)

/-- GET_MEASUREMENTS: blocks 1 to 7, one or all (0xFF), or their number (0); signed on request (R324, R325). -/
def execGetMeasurements (src index : Nat) (signed : Bool) (s : State) : Res :=
  effect (Wf.getMeasurements src index signed) s fun s => s.spdmReq src 2 fun s =>
    if index > 7 ∧ index ≠ 0xFF then s.spdmError src 1
    else if signed then s.spdmSign src index false
    else s.spdmMeasure src index 0

/-- SPDM_UNSUPPORTED_REQUEST (R324, R326). -/
def execSpdmUnsupportedRequest (src : Nat) (s : State) : Res :=
  effect (Wf.spdmUnsupportedRequest src) s fun s => s.heard fun s =>
    if s.spdmBusy then s.spdmError src 3 else s.spdmError src 7

/-- SIGNING_COMPLETE: the signed response is sent and counted (R324, R328). -/
def State.signDone (s : State) : State :=
  match s.spdm.signing with
  | none => s
  | some (e, chal) =>
    let s := ((s.wr F.MGMT_SEC_STAT_SPDM 0 2).putSpdm ({ s.spdm with signing := none }))
    if chal then (s.inc F.MGMT_SEC_CNT_CHAL 0).spdmFree e 0x03 [0, 1] 176
    else (s.inc F.MGMT_SEC_CNT_MEAS 0).spdmMeasure e s.spdm.index 96

/-- SIGNING_COMPLETE (R324). -/
def execSigningComplete (s : State) : Res := effect Wf.signingComplete s State.signDone

end Sys2Proof.Machine
end

