-- ==== Sys2Proof/Machine/Tap.lean ====
section
/-! DEFINITION. The TAP (R361, R420, R431): the boundary-scan instructions and its reset. -/
namespace Sys2Proof.Machine

/-- EXTEST, EXTEST_PULSE and EXTEST_TRAIN: the boundary cells control the balls; no register changes (R431). -/
def execExtest (ins : TapIns) (s : State) : Res :=
  effect (Wf.extest ins) s fun s => ((s.putTap (some ins))).emit (.extest ins)

/-- TAP_RESET, in any of its three ways: the TAP alone goes to its reset state (R420). -/
def execTapReset (how : TapRst) (s : State) : Res := effect (Wf.tapReset how) s fun s => (s.putTap none)

end Sys2Proof.Machine
end

