-- ==== Sys2Proof/Machine/Dispatch.lean ====
section
/-! DEFINITION. The dispatch of every command to its meaning. -/
namespace Sys2Proof.Machine

/-- The effect of a command on everything but the queue. -/
def exec (i : Instr) (s : State) : Host.Outcome State Fault Refusal :=
  match i with
  | .powerOnReset st => Sys2Proof.Machine.execPowerOnReset st s
  | .pinReset st => Sys2Proof.Machine.execPinReset st s
  | .brownOut rail => Sys2Proof.Machine.execBrownOut rail s
  | .glbRstDevice r => Sys2Proof.Machine.execGlbRstDevice r s
  | .glbRstLantern r => Sys2Proof.Machine.execGlbRstLantern r s
  | .lanternRestart => Sys2Proof.Machine.execLanternRestart s
  | .portCtlEn r port en => Sys2Proof.Machine.execPortCtlEn r port en s
  | .portCtlRst r port => Sys2Proof.Machine.execPortCtlRst r port s
  | .portResetDone port => Sys2Proof.Machine.execPortResetDone port s
  | .perstAssert port => Sys2Proof.Machine.execPerstAssert port s
  | .perstRelease port => Sys2Proof.Machine.execPerstRelease port s
  | .presenceAccepted port high => Sys2Proof.Machine.execPresenceAccepted port high s
  | .quadCtlRst r quad => Sys2Proof.Machine.execQuadCtlRst r quad s
  | .cmpCsbCtlRst r => Sys2Proof.Machine.execCmpCsbCtlRst r s
  | .cmpCsbCtlEn r en => Sys2Proof.Machine.execCmpCsbCtlEn r en s
  | .laneRxCtlFreeze r ls frz => Sys2Proof.Machine.execLaneRxCtlFreeze r ls frz s
  | .laneRxCtlRestart r ls => Sys2Proof.Machine.execLaneRxCtlRestart r ls s
  | .laneRxCtlCntClr r ls => Sys2Proof.Machine.execLaneRxCtlCntClr r ls s
  | .signalDetect ls => Sys2Proof.Machine.execSignalDetect ls s
  | .cdrLock ls => Sys2Proof.Machine.execCdrLock ls s
  | .lossOfSignal ls => Sys2Proof.Machine.execLossOfSignal ls s
  | .adaptConverged ls ctle dfe1 ffeM1 ffeP1 => Sys2Proof.Machine.execAdaptConverged ls ctle dfe1 ffeM1 ffeP1 s
  | .lossOfLock ls => Sys2Proof.Machine.execLossOfLock ls s
  | .relockTimeout ls => Sys2Proof.Machine.execRelockTimeout ls s
  | .ebWatermarkCrossing ls fill => Sys2Proof.Machine.execEbWatermarkCrossing ls fill s
  | .elasticBufferError ls full => Sys2Proof.Machine.execElasticBufferError ls full s
  | .skpOrderedSet ls fill unit => Sys2Proof.Machine.execSkpOrderedSet ls fill unit s
  | .lanePrbsCtlClr r ls => Sys2Proof.Machine.execLanePrbsCtlClr r ls s
  | .prbsLock ls => Sys2Proof.Machine.execPrbsLock ls s
  | .prbsLockLoss ls bits errs => Sys2Proof.Machine.execPrbsLockLoss ls bits errs s
  | .marginCommand port lane rxnum ask => Sys2Proof.Machine.execMarginCommand port lane rxnum ask s
  | .marginStepSetup ls => Sys2Proof.Machine.execMarginStepSetup ls s
  | .phrCtlEn r quad en => Sys2Proof.Machine.execPhrCtlEn r quad en s
  | .phrWdogClr r quad => Sys2Proof.Machine.execPhrWdogClr r quad s
  | .phraseOverrun quad => Sys2Proof.Machine.execPhraseOverrun quad s
  | .mirrorRefresh unit => Sys2Proof.Machine.execMirrorRefresh unit s
  | .phraseMemoryWrite r addr val => Sys2Proof.Machine.execPhraseMemoryWrite r addr val s
  | .detectRetry port outer inner => Sys2Proof.Machine.execDetectRetry port outer inner s
  | .trainingSet port ts => Sys2Proof.Machine.execTrainingSet port ts s
  | .coefficientRequest ls req => Sys2Proof.Machine.execCoefficientRequest ls req s
  | .eqTrialEnd port inner tr => Sys2Proof.Machine.execEqTrialEnd port inner tr s
  | .execTmo port inner => Sys2Proof.Machine.execExecTmo port inner s
  | .l0pTransition port width => Sys2Proof.Machine.execL0pTransition port width s
  | .l1Entry port => Sys2Proof.Machine.execL1Entry port s
  | .l1Exit port inner lane => Sys2Proof.Machine.execL1Exit port inner s lane
  | .hotReset port inner => Sys2Proof.Machine.execHotReset port inner s
  | .disabledExit port inner => Sys2Proof.Machine.execDisabledExit port inner s
  | .trainingWatchdog port => Sys2Proof.Machine.execTrainingWatchdog port s
  | .timeoutIdleEnd port => Sys2Proof.Machine.execTimeoutIdleEnd port s
  | .unannouncedIdle port inner => Sys2Proof.Machine.execUnannouncedIdle port inner s
  | .portCtlRetrain r port => Sys2Proof.Machine.execPortCtlRetrain r port s
  | .portCtlCntClr r port => Sys2Proof.Machine.execPortCtlCntClr r port s
  | .portBindTagWrite r port tag => Sys2Proof.Machine.execPortBindTagWrite r port tag s
  | .dataStreamStart port skewOI skewIO => Sys2Proof.Machine.execDataStreamStart port s skewOI skewIO
  | .dataStreamEnd port => Sys2Proof.Machine.execDataStreamEnd port s
  | .flitDecoded port dir fl => Sys2Proof.Machine.execFlitDecoded port dir fl s
  | .provisionalLockExpiry port dir => Sys2Proof.Machine.execProvisionalLockExpiry port dir s
  | .lockLoss port dir => Sys2Proof.Machine.execLockLoss port dir s
  | .orderedSetMisplaced port dir => Sys2Proof.Machine.execOrderedSetMisplaced port dir s
  | .portFlitCtlCntClr r port => Sys2Proof.Machine.execPortFlitCtlCntClr r port s
  | .portCapCtlArm r port => Sys2Proof.Machine.execPortCapCtlArm r port s
  | .portCapCtlForce r port => Sys2Proof.Machine.execPortCapCtlForce r port s
  | .portCapCtlStop r port => Sys2Proof.Machine.execPortCapCtlStop r port s
  | .captureRecordWrite port => Sys2Proof.Machine.execCaptureRecordWrite port s
  | .captureDone port => Sys2Proof.Machine.execCaptureDone port s
  | .captureWindowWrite r addr val => Sys2Proof.Machine.execCaptureWindowWrite r addr val s
  | .joinRsp h port refuse rows => Sys2Proof.Machine.execJoinRsp h port refuse rows s
  | .joinTmo port => Sys2Proof.Machine.execJoinTmo port s
  | .lockRpt h port rate companion lanes => Sys2Proof.Machine.execLockRpt h port rate companion lanes s
  | .clockTmo port => Sys2Proof.Machine.execClockTmo port s
  | .ceqDone h port none_ => Sys2Proof.Machine.execCeqDone h port none_ s
  | .ceqTmo port => Sys2Proof.Machine.execCeqTmo port s
  | .fallbackAck h port => Sys2Proof.Machine.execFallbackAck h port s
  | .fallbackAckTimeout port => Sys2Proof.Machine.execFallbackAckTimeout port s
  | .fallbackHoldTimeout port => Sys2Proof.Machine.execFallbackHoldTimeout port s
  | .leave h port reason => Sys2Proof.Machine.execLeave h port reason s
  | .rowLoss port => Sys2Proof.Machine.execRowLoss port s
  | .csbAligned => Sys2Proof.Machine.execCsbAligned s
  | .hello major minor role cap => Sys2Proof.Machine.execHello major minor role cap s
  | .helloTimer => Sys2Proof.Machine.execHelloTimer s
  | .csbCodeViolationLoss => Sys2Proof.Machine.execCsbCodeViolationLoss s
  | .lossTmo => Sys2Proof.Machine.execLossTmo s
  | .ack vc num => Sys2Proof.Machine.execAck vc num s
  | .rtxTmo vc => Sys2Proof.Machine.execRtxTmo vc s
  | .reservedCsbFrame h why => Sys2Proof.Machine.execReservedCsbFrame h why s
  | .beacon drip heartbeat tally flags => Sys2Proof.Machine.execBeacon drip heartbeat tally flags s
  | .spareReq h half lane port => Sys2Proof.Machine.execSpareReq h half lane port s
  | .spareRsp h half lane res => Sys2Proof.Machine.execSpareRsp h half lane res s
  | .spareRspTimeout half => Sys2Proof.Machine.execSpareRspTimeout half s
  | .spareTrack half offset => Sys2Proof.Machine.execSpareTrack half offset s
  | .spareSwitchover half => Sys2Proof.Machine.execSpareSwitchover half s
  | .spareRxOn h half lane uses => Sys2Proof.Machine.execSpareRxOn h half lane uses s
  | .spareTmo half => Sys2Proof.Machine.execSpareTmo half s
  | .laneHealth h port window counts => Sys2Proof.Machine.execLaneHealth h port window counts s
  | .spareWindow => Sys2Proof.Machine.execSpareWindow s
  | .spareCtlReq r lane => Sys2Proof.Machine.execSpareCtlReq r lane s
  | .spareCtlRelS0 r => Sys2Proof.Machine.execSpareCtlRelS0 r s
  | .spareCtlRelS1 r => Sys2Proof.Machine.execSpareCtlRelS1 r s
  | .spareCtlCntClr r => Sys2Proof.Machine.execSpareCtlCntClr r s
  | .cmpCsbCtlCntClr r => Sys2Proof.Machine.execCmpCsbCtlCntClr r s
  | .slotDecision port young ecc undecoded unsent => Sys2Proof.Machine.execSlotDecision port young ecc s undecoded unsent
  | .replaySlot port slot arr => Sys2Proof.Machine.execReplaySlot port slot arr s
  | .replayRequestSlot port slot => Sys2Proof.Machine.execReplayRequestSlot port slot s
  | .portViewMessageSlot port slot => Sys2Proof.Machine.execPortViewMessageSlot port slot s
  | .fillSlot port slot => Sys2Proof.Machine.execFillSlot port slot s
  | .badSlot port slot => Sys2Proof.Machine.execBadSlot port slot s
  | .holdDeparture port => Sys2Proof.Machine.execHoldDeparture port s
  | .erratumDeadline port => Sys2Proof.Machine.execErratumDeadline port s
  | .cmpSlotCtlCntClr r => Sys2Proof.Machine.execCmpSlotCtlCntClr r s
  | .cacheWriteBack port ecc => Sys2Proof.Machine.execCacheWriteBack port ecc s
  | .flushEnd => Sys2Proof.Machine.execFlushEnd s
  | .heatCtlRel r => Sys2Proof.Machine.execHeatCtlRel r s
  | .autoRelease => Sys2Proof.Machine.execAutoRelease s
  | .clearEnd => Sys2Proof.Machine.execClearEnd s
  | .heatPctlClr r part => Sys2Proof.Machine.execHeatPctlClr r part s
  | .partitionClearEnd part => Sys2Proof.Machine.execPartitionClearEnd part s
  | .heatZctlClr r win => Sys2Proof.Machine.execHeatZctlClr r win s
  | .zoomClearEnd win => Sys2Proof.Machine.execZoomClearEnd win s
  | .heatCtlCntClr r => Sys2Proof.Machine.execHeatCtlCntClr r s
  | .heatPlfsrWrite r part val => Sys2Proof.Machine.execHeatPlfsrWrite r part val s
  | .heatWindowWrite r addr val => Sys2Proof.Machine.execHeatWindowWrite r addr val s
  | .chunkReady part ecc => Sys2Proof.Machine.execChunkReady part ecc s
  | .dripBoundary d => Sys2Proof.Machine.execDripBoundary d s
  | .crystalPresent => Sys2Proof.Machine.execCrystalPresent s
  | .pllLock pll => Sys2Proof.Machine.execPllLock pll s
  | .clkSrcSafe r v => Sys2Proof.Machine.execClkSrcSafe r v s
  | .clkSrcMgmt r v => Sys2Proof.Machine.execClkSrcMgmt r v s
  | .clkSrcCoreRef r v => Sys2Proof.Machine.execClkSrcCoreRef r v s
  | .clkSrcOref r v => Sys2Proof.Machine.execClkSrcOref r v s
  | .clkSrcIref r v => Sys2Proof.Machine.execClkSrcIref r v s
  | .sourceLoss src => Sys2Proof.Machine.execSourceLoss src s
  | .sourceReturn src => Sys2Proof.Machine.execSourceReturn src s
  | .coreRestart ioscCycles => Sys2Proof.Machine.execCoreRestart ioscCycles s
  | .clkFmCtlStart r => Sys2Proof.Machine.execClkFmCtlStart r s
  | .fmWindowEnd count => Sys2Proof.Machine.execFmWindowEnd count s
  | .timesyncEdge ns => Sys2Proof.Machine.execTimesyncEdge ns s
  | .timesyncMiss => Sys2Proof.Machine.execTimesyncMiss s
  | .clkTsyncCtlLoad r => Sys2Proof.Machine.execClkTsyncCtlLoad r s
  | .clkSchedCtlArm r slot => Sys2Proof.Machine.execClkSchedCtlArm r slot s
  | .clkSchedCtlCancel r slot => Sys2Proof.Machine.execClkSchedCtlCancel r slot s
  | .clkCtlCntClr r => Sys2Proof.Machine.execClkCtlCntClr r s
  | .snapshotLoRead r addr ns => Sys2Proof.Machine.execSnapshotLoRead r addr ns s
  | .pairLoWrite r addr val => Sys2Proof.Machine.execPairLoWrite r addr val s
  | .pairHiWrite r addr val => Sys2Proof.Machine.execPairHiWrite r addr val s
  | .avsTarget mv => Sys2Proof.Machine.execAvsTarget mv s
  | .avsCommand => Sys2Proof.Machine.execAvsCommand s
  | .avsFault => Sys2Proof.Machine.execAvsFault s
  | .ldoFault inst => Sys2Proof.Machine.execLdoFault inst s
  | .bifurcationWrite r val => Sys2Proof.Machine.execBifurcationWrite r val s
  | .quadUngate quad => Sys2Proof.Machine.execQuadUngate quad s
  | .temperatureSample temps => Sys2Proof.Machine.execTemperatureSample temps s
  | .thermalTrip => Sys2Proof.Machine.execThermalTrip s
  | .tripRelease => Sys2Proof.Machine.execTripRelease s
  | .pwrCtlCalRun r mask => Sys2Proof.Machine.execPwrCtlCalRun r mask s
  | .calRunEnd quad => Sys2Proof.Machine.execCalRunEnd quad s
  | .stepCorrection ls => Sys2Proof.Machine.execStepCorrection ls s
  | .pwrCtlCntClr r => Sys2Proof.Machine.execPwrCtlCntClr r s
  | .secureGateRequest gate => Sys2Proof.Machine.execSecureGateRequest gate s
  | .secureDomainRelease => Sys2Proof.Machine.execSecureDomainRelease s
  | .secureAccessViolation => Sys2Proof.Machine.execSecureAccessViolation s
  | .entdaa addr => Sys2Proof.Machine.execEntdaa addr s
  | .setdasa static addr => Sys2Proof.Machine.execSetdasa static addr s
  | .setaasa => Sys2Proof.Machine.execSetaasa s
  | .setnewda addr new_ => Sys2Proof.Machine.execSetnewda addr new_ s
  | .rstdaa => Sys2Proof.Machine.execRstdaa s
  | .enec ibi => Sys2Proof.Machine.execEnec ibi s
  | .disec ibi => Sys2Proof.Machine.execDisec ibi s
  | .getpid => Sys2Proof.Machine.execGetpid s
  | .getbcr => Sys2Proof.Machine.execGetbcr s
  | .getdcr => Sys2Proof.Machine.execGetdcr s
  | .getstatus => Sys2Proof.Machine.execGetstatus s
  | .getmwl => Sys2Proof.Machine.execGetmwl s
  | .setmwl len => Sys2Proof.Machine.execSetmwl len s
  | .getmrl => Sys2Proof.Machine.execGetmrl s
  | .setmrl len => Sys2Proof.Machine.execSetmrl len s
  | .getmxds => Sys2Proof.Machine.execGetmxds s
  | .i3cPrivateRead refused => Sys2Proof.Machine.execI3cPrivateRead s refused
  | .smbusWrite pec pkt => Sys2Proof.Machine.execSmbusWrite pec pkt s
  | .sclLowTimeout => Sys2Proof.Machine.execSclLowTimeout s
  | .alertResponse => Sys2Proof.Machine.execAlertResponse s
  | .smbusBlockRead refused => Sys2Proof.Machine.execSmbusBlockRead s refused
  | .smbusPacketTimeout => Sys2Proof.Machine.execSmbusPacketTimeout s
  | .setEndpointId eid src tag => Sys2Proof.Machine.execSetEndpointId eid src tag s
  | .getEndpointId src tag => Sys2Proof.Machine.execGetEndpointId src tag s
  | .getMctpVersionSupport src tag => Sys2Proof.Machine.execGetMctpVersionSupport src tag s
  | .getMessageTypeSupport src tag => Sys2Proof.Machine.execGetMessageTypeSupport src tag s
  | .getVendorDefinedMsgSupport src tag => Sys2Proof.Machine.execGetVendorDefinedMsgSupport src tag s
  | .efsiaRequest rt view entry ecc => Sys2Proof.Machine.execEfsiaRequest rt view entry ecc s
  | .getInfo view => Sys2Proof.Machine.execGetInfo view s
  | .read view ecc ns => Sys2Proof.Machine.execRead view ecc s ns
  | .write view => Sys2Proof.Machine.execWrite view s
  | .rmw view ue ns => Sys2Proof.Machine.execRmw view s ue ns
  | .resync view => Sys2Proof.Machine.execResync view s
  | .portSummary view => Sys2Proof.Machine.execPortSummary view s
  | .heatRead view ecc => Sys2Proof.Machine.execHeatRead view ecc s
  | .zoomRead view ecc => Sys2Proof.Machine.execZoomRead view ecc s
  | .capRead view ecc => Sys2Proof.Machine.execCapRead view ecc s
  | .viewFreeze r view => Sys2Proof.Machine.execViewFreeze r view s
  | .viewThaw r view => Sys2Proof.Machine.execViewThaw r view s
  | .mgmtViewCtlSave r view => Sys2Proof.Machine.execMgmtViewCtlSave r view s
  | .mgmtViewCtlRestore r view => Sys2Proof.Machine.execMgmtViewCtlRestore r view s
  | .mgmtViewCtlRingRst r view => Sys2Proof.Machine.execMgmtViewCtlRingRst r view s
  | .mgmtViewCtlCntClr r view => Sys2Proof.Machine.execMgmtViewCtlCntClr r view s
  | .mgmtCtlCntClr r => Sys2Proof.Machine.execMgmtCtlCntClr r s
  | .mailboxWrite r addr val => Sys2Proof.Machine.execMailboxWrite r addr val s
  | .getVersion src => Sys2Proof.Machine.execGetVersion src s
  | .getCapabilities src => Sys2Proof.Machine.execGetCapabilities src s
  | .negotiateAlgorithms src ok => Sys2Proof.Machine.execNegotiateAlgorithms src ok s
  | .getDigests src => Sys2Proof.Machine.execGetDigests src s
  | .getCertificate src slot off len => Sys2Proof.Machine.execGetCertificate src slot off len s
  | .challenge src slot => Sys2Proof.Machine.execChallenge src slot s
  | .getMeasurements src index signed => Sys2Proof.Machine.execGetMeasurements src index signed s
  | .spdmUnsupportedRequest src => Sys2Proof.Machine.execSpdmUnsupportedRequest src s
  | .startupStageComplete inp => Sys2Proof.Machine.execStartupStageComplete inp s
  | .queryDeviceIdentifiers src => Sys2Proof.Machine.execQueryDeviceIdentifiers src s
  | .getFirmwareParameters src => Sys2Proof.Machine.execGetFirmwareParameters src s
  | .requestUpdate src maxXfer => Sys2Proof.Machine.execRequestUpdate src maxXfer s
  | .passComponentTable src last => Sys2Proof.Machine.execPassComponentTable src last s
  | .updateComponent src comp size => Sys2Proof.Machine.execUpdateComponent src comp size s
  | .requestFirmwareData src bytes => Sys2Proof.Machine.execRequestFirmwareData src bytes s
  | .transferComplete src => Sys2Proof.Machine.execTransferComplete src s
  | .verifyComplete src crypto certOk => Sys2Proof.Machine.execVerifyComplete src crypto s certOk
  | .applyComplete src flashOk => Sys2Proof.Machine.execApplyComplete src flashOk s
  | .activateFirmware src selfContained => Sys2Proof.Machine.execActivateFirmware src selfContained s
  | .getStatus src => Sys2Proof.Machine.execGetStatus src s
  | .cancelUpdateComponent src => Sys2Proof.Machine.execCancelUpdateComponent src s
  | .cancelUpdate src => Sys2Proof.Machine.execCancelUpdate src s
  | .updateAgentTimeout => Sys2Proof.Machine.execUpdateAgentTimeout s
  | .bootUpdCtlConfirm r => Sys2Proof.Machine.execBootUpdCtlConfirm r s
  | .bootUpdCtlRevert r => Sys2Proof.Machine.execBootUpdCtlRevert r s
  | .bootUpdCtlReact r => Sys2Proof.Machine.execBootUpdCtlReact r s
  | .bootUpdCtlContinue r => Sys2Proof.Machine.execBootUpdCtlContinue r s
  | .bootUpdCtlCntClr r => Sys2Proof.Machine.execBootUpdCtlCntClr r s
  | .confirmationWindowEnd => Sys2Proof.Machine.execConfirmationWindowEnd s
  | .autoConfirm => Sys2Proof.Machine.execAutoConfirm s
  | .tallyPassEnd => Sys2Proof.Machine.execTallyPassEnd s
  | .glbTallyCtlCommit r => Sys2Proof.Machine.execGlbTallyCtlCommit r s
  | .glbTallyCtlAdopt r => Sys2Proof.Machine.execGlbTallyCtlAdopt r s
  | .sourceEvent src inst detail level => Sys2Proof.Machine.execSourceEvent src inst detail level s
  | .wireFault src => Sys2Proof.Machine.execWireFault src s
  | .sumpWindowEnd src => Sys2Proof.Machine.execSumpWindowEnd src s
  | .sumpClr r src => Sys2Proof.Machine.execSumpClr r src s
  | .sumpClrAll r => Sys2Proof.Machine.execSumpClrAll r s
  | .sumpForce r src inst detail => Sys2Proof.Machine.execSumpForce r src inst detail s
  | .sumpCtlCntClr r => Sys2Proof.Machine.execSumpCtlCntClr r s
  | .sumpCtlAvailClr r => Sys2Proof.Machine.execSumpCtlAvailClr r s
  | .sumpLwdogCtlKick r => Sys2Proof.Machine.execSumpLwdogCtlKick r s
  | .lanternWatchdog => Sys2Proof.Machine.execLanternWatchdog s
  | .qstopAssert => Sys2Proof.Machine.execQstopAssert s
  | .qstopRelease => Sys2Proof.Machine.execQstopRelease s
  | .qstopDiscrepancy => Sys2Proof.Machine.execQstopDiscrepancy s
  | .eccWriteBack mem word overtaken => Sys2Proof.Machine.execEccWriteBack mem word overtaken s
  | .eccLeak mem => Sys2Proof.Machine.execEccLeak mem s
  | .scrubRead mem ecc => Sys2Proof.Machine.execScrubRead mem ecc s
  | .compatWrite r addr val => Sys2Proof.Machine.execCompatWrite r addr val s
  | .cwWbufRead r => Sys2Proof.Machine.execCwWbufRead r s
  | .glbLockWrite r val => Sys2Proof.Machine.execGlbLockWrite r val s
  | .extest ins => Sys2Proof.Machine.execExtest ins s
  | .tapReset how => Sys2Proof.Machine.execTapReset how s
  | .registerWrite r addr val => Sys2Proof.Machine.execRegisterWrite r addr val s
  | .qstopDisagreement chanB asserted => Sys2Proof.Machine.execQstopDisagreement chanB asserted s
  | .prsntLevelChange port high => Sys2Proof.Machine.execPrsntLevelChange port high s
  | .ldoOutputInRange inst => Sys2Proof.Machine.execLdoOutputInRange inst s
  | .wireFaultEnd src => Sys2Proof.Machine.execWireFaultEnd src s
  | .flashProgramEraseComplete => Sys2Proof.Machine.execFlashProgramEraseComplete s
  | .csbFrameCrcBad bytes => Sys2Proof.Machine.execCsbFrameCrcBad s bytes
  | .csbFrameBoundary => Sys2Proof.Machine.execCsbFrameBoundary s
  | .saveRestoreComplete view => Sys2Proof.Machine.execSaveRestoreComplete view s
  | .signingComplete => Sys2Proof.Machine.execSigningComplete s
  | .sparePowerUp half => Sys2Proof.Machine.execSparePowerUp half s

end Sys2Proof.Machine
end

