-- ==== Sys2Proof/Safety.lean ====
section
/-! DEFINITION. The terms claims are stated in: the parts a state is made of, what it is for a command to change only some of
them, and what it is for a command to complete, with and without events for the fault sump. -/
namespace Sys2Proof.Machine

/-- A part of the state. Register fields and mirrored fields are named by their keys, memory by its bytes; what the state
keeps per port, flit engine, lane-side, spare, parser, quad and view is one part for each of these. The answer of the command
(`out`, `refusedNow`) is no part: every command writes it anew. -/
inductive Part where
  | field (k : Nat) | mirror (k : Nat) | byte (a : Nat)
  | port (n : Nat) | flit (k : Nat) | lane (k : Nat) | spare (h : Nat) | heat (p : Nat) | cal (q : Nat) | view (v : Nat)
  | pending | csb | zclr | lenWritten | shared | held | visits | clk | porDrips | secDefer | bus | spdm | boot | snaps | staged | compat | misAge
  | winStart | causes | eccPend | scrubPos | aliveRun | lwTicks | alive | holds | tap | safe | raised | fresh
deriving DecidableEq, Repr

/-- The part is the same in two states. -/
def Part.same : Part → State → State → Prop
  | .field k, s, t => ∀ d, t.regs.get k d = s.regs.get k d
  | .mirror k, s, t => ∀ d, t.mirr.get k d = s.mirr.get k d
  | .byte a, s, t => t.rdByte a = s.rdByte a
  | .port n, s, t => t.port n = s.port n
  | .flit k, s, t => t.fl k = s.fl k
  | .lane k, s, t => t.lane k = s.lane k
  | .spare h, s, t => t.spare h = s.spare h
  | .heat p, s, t => t.heat p = s.heat p
  | .cal q, s, t => t.cal q = s.cal q
  | .view v, s, t => t.view v = s.view v
  | .pending, s, t => t.pending = s.pending
  | .csb, s, t => t.csb = s.csb
  | .zclr, s, t => t.zclr = s.zclr
  | .lenWritten, s, t => t.lenWritten = s.lenWritten
  | .shared, s, t => t.shared = s.shared
  | .held, s, t => t.held = s.held
  | .visits, s, t => t.visits = s.visits
  | .clk, s, t => t.clk = s.clk
  | .porDrips, s, t => t.porDrips = s.porDrips
  | .secDefer, s, t => t.secDefer = s.secDefer
  | .bus, s, t => t.bus = s.bus
  | .spdm, s, t => t.spdm = s.spdm
  | .boot, s, t => t.boot = s.boot
  | .snaps, s, t => t.snaps = s.snaps
  | .staged, s, t => t.staged = s.staged
  | .compat, s, t => t.compat = s.compat
  | .misAge, s, t => t.misAge = s.misAge
  | .winStart, s, t => t.winStart = s.winStart
  | .causes, s, t => t.causes = s.causes
  | .eccPend, s, t => t.eccPend = s.eccPend
  | .scrubPos, s, t => t.scrubPos = s.scrubPos
  | .aliveRun, s, t => t.aliveRun = s.aliveRun
  | .lwTicks, s, t => t.lwTicks = s.lwTicks
  | .alive, s, t => t.alive = s.alive
  | .holds, s, t => t.holds = s.holds
  | .tap, s, t => t.tap = s.tap
  | .safe, s, t => t.safe = s.safe
  | .raised, s, t => t.raised = s.raised
  | .fresh, s, t => t.fresh = s.fresh

/-- The part that a register field of an instance is. -/
abbrev Part.fld (f : Fld) (i : Nat) : Part := .field (f.key i)

/-- The part that a mirrored field of an instance is. -/
abbrev Part.mir (f : Fld) (i : Nat) : Part := .mirror (f.key i)

/-- Every part but those listed is unchanged. -/
def Only (ps : List Part) (s t : State) : Prop := ∀ p, p ∉ ps → p.same s t

/-- Fields with their instances and values. -/
abbrev Vals := List (Fld × Nat × Nat)

/-- The state holds the values. -/
def Holds (vs : Vals) (t : State) : Prop := ∀ v ∈ vs, t.rd v.1 v.2.1 = v.2.2

/-- The parts of the fields named with values. -/
def Vals.parts (vs : Vals) : List Part := vs.map fun v => .fld v.1 v.2.1

/-- The command completes in a state that holds the values, drives the outputs and meets `P`; no part but the fields named and
the parts listed has changed. -/
def Gives (c : Instr) (s : State) (vs : Vals) (ps : List Part) (outs : List Out) (P : State → Prop) : Prop :=
  ∃ t, exec c s = .next t ∧ Holds vs t ∧ Only (vs.parts ++ ps) s t ∧ t.out = outs ∧ P t

/-- The command completes and reports events: its own effect gives a state `u` as `Gives` says, whose events are those
listed, and the state that follows is `u` with these events taken by the sump (R370, R373). -/
def Reports (c : Instr) (s : State) (vs : Vals) (ps : List Part) (evs : List Ev) (outs : List Out) (P : State → Prop) :
    Prop :=
  ∃ u, exec c s = .next u.settle ∧ Holds vs u ∧ Only (vs.parts ++ .raised :: ps) s u ∧ u.raised = evs ∧ u.out = outs ∧ P u

/-- One state leads to another that holds the values and meets `P`; no part but the fields named and the parts listed has
changed. -/
def Leaves (s t : State) (vs : Vals) (ps : List Part) (P : State → Prop) : Prop :=
  Holds vs t ∧ Only (vs.parts ++ ps) s t ∧ P t

/-- No event waits to be counted; so it is between commands (log entry 7). -/
abbrev Quiet (s : State) : Prop := s.raised = []

/-- A requester reaches the always-on and management-domain registers: its access is not one that DBG_LOCK turns into BYPASS
(R361). -/
abbrev BusReady (s : State) (r : Requester) : Prop := s.raised = [] ∧ s.reaches r = true

/-- A requester reaches the core-domain registers too: the core domain runs (R30, R255). -/
abbrev CoreReady (s : State) (r : Requester) : Prop := s.raised = [] ∧ s.reaches r = true ∧ s.coreRuns = true

/-- Nothing more is said of the state. -/
def anyState : State → Prop := fun _ => True

/-- The command completes in a state that holds the values and is, but for the fields named and the parts listed, the state
`b`: that right after reset, with the memories where these last (R39, R40). -/
def Resets (c : Instr) (s b : State) (vs : Vals) (ps : List Part) (P : State → Prop) : Prop :=
  ∃ t, exec c s = .next t ∧ Holds vs t ∧ Only (vs.parts ++ ps) b t ∧ P t

/-- What reports the levels of the pins (R107, R120). -/
def pinParts : List Part :=
  (List.range 16).flatMap fun n => [.fld F.PORT_HP_STAT_PERST n, .fld F.PORT_HP_STAT_PRSNT n, .port n]

/-- What lasts through a pin reset and a device software reset beside the memories (R39, R41, R333). -/
def warmParts : List Part :=
  [.pending, .boot, .fresh, .porDrips, .tap, .clk] ++ F.rstCauses.map (.fld · 0) ++ (List.range 3).map (fun k => .fld (F.srcOk k) 0)

/-- The fields of a list of lane-sides. -/
def laneFields (l : List Nat) (fs : List Fld) : List Part := l.flatMap fun ls => fs.map fun f => .fld f ls

/-- The fields of an instance. -/
def partsOf (fs : List Fld) (i : Nat) : List Part := fs.map fun f => .fld f i

/-- The live and the mirrored fields of an instance. -/
def bothOf (fs : List Fld) (i : Nat) : List Part := fs.flatMap fun f => [.fld f i, .mir f i]

/-- The state of the lane-sides of a port that its resets and its entry to Detect may change. -/
def portLaneParts (s : State) (n : Nat) : List Part :=
  (s.portLs n).map .lane ++ laneFields (s.portLs n) [F.LANE_RX_STAT_ASTATE, F.LANE_RX_STAT_CDR_LOCK,
    F.LANE_RX_STAT_SIGDET, F.LANE_PRBS_STAT_LOCK, F.LANE_SLICE_STAT_MARG, F.LANE_SLICE_STAT_CALSLICE]

/-- What the entry of a port to DETECT_QUIET may change (R89): the state of the port, of its flit engines and of its
lane-sides, and the fields that report them. -/
def detectParts (s : State) (n : Nat) : List Part :=
  [.port n, .flit (flKey n 0), .flit (flKey n 1)] ++ portLaneParts s n ++
  partsOf [F.PORT_LINK_STAT_LTSSM, F.PORT_LINK_STAT_RATE, F.PORT_LINK_STAT_WIDTH, F.PORT_LINK_STAT_AWIDTH,
    F.PORT_LINK_STAT_FLIT, F.PORT_FLIT_STAT_FMT, F.ideStat 0, F.ideStat 1, F.lock 0, F.lock 1, F.dgc 0, F.dgc 1, F.PORT_STAT_CMODE_PEND,
    F.CMP_PORT_STAT_SEG, F.CMP_PORT_STAT_ROWLOCK] n

/-- What the reset of a port may change (R44) beside what an entry to Detect does. -/
def portResetParts (s : State) (n : Nat) : List Part :=
  detectParts s n ++ [.heat n, .view (n + 1), .fld F.GLB_RST_CAUSE_PORT 0, .fld F.HEAT_STAT_EXP_BUSY 0] ++
  bothOf (F.PORT_STAT_RSTDONE :: F.resetMirrors ++ F.resetAges) n ++
  partsOf (Reg.PORT_LDN_LOG.fields ++ Reg.PORT_LDN_CNT.fields ++ Reg.PORT_LDN_DRIP_LO.fields ++
    Reg.PORT_LDN_DRIP_HI.fields ++ Reg.PORT_TRN_CNT.fields ++ Reg.PORT_HP_STAT.fields ++ Reg.PORT_ERRATA_STAT.fields ++
    Reg.PORT_ERRATA_CNT.fields ++ Reg.PORT_ERRATA_SENT.fields ++ Reg.PORT_FLIT_LOCK_CNT.fields ++
    Reg.CMP_RPL_CNT2.fields ++ Reg.CMP_HOLD_CNT2.fields ++ Reg.HEAT_EXP_STAT.fields ++ Reg.HEAT_EXP_CNT.fields ++
    Reg.PORT_CAP_STAT.fields) n ++
  partsOf (Reg.MGMT_VIEW_PTR.fields ++ Reg.MGMT_VIEW_CNT2.fields) (n + 1) ++
  partsOf F.fecCounters (flKey n 0) ++ partsOf F.fecCounters (flKey n 1) ++
  (List.range 16).flatMap (fun m => partsOf [F.PORT_FEC_LANE_ODD, F.PORT_FEC_LANE_EVEN] (16 * n + m)) ++
  (List.range 5).flatMap (fun c => bothOf [F.CMP_Q_STAT_DEPTH, F.CMP_Q_STAT_DELAY] (5 * n + c))

/-- A sequenced frame is the next in order on virtual channel 0 of a CSB that is UP, and no frame the device sent on it waits
to be acknowledged (R172). -/
abbrev InOrder (s : State) (h : CsbHdr) : Prop :=
  s.raised = [] ∧ h.vc = 0 ∧ h.seq < 256 ∧ h.ack < 256 ∧ s.csbUp = true ∧ h.seq = s.csb.rx0 ∧ s.csb.un0 = []

/-- The link layer after such a frame (R172): the next number is expected, and an acknowledgement is owed. -/
def tookFrame (c : CsbSt) (h : CsbHdr) : CsbSt := { c with rx0 := (h.seq + 1) % 256, last0 := h.seq, ackDue0 := true }

/-- The link layer with a message queued on virtual channel 0 (R172). -/
def queued0 (c : CsbSt) (type : Nat) (payload : List Nat) : CsbSt :=
  { c with q0 := c.q0 ++ [⟨type, 0, c.seq0, payload, none, none⟩], seq0 := (c.seq0 + 1) % 256 }

/-- What reports the correction modes of a port (R23, R24). -/
def modeFields : List Fld := [F.dgc 0, F.dgc 1, F.PORT_STAT_CMODE_PEND]

/-- A port has no companion traffic of its own under way: no response queued for class 3, no export, and both spares
unpowered (R176, R200, R242). -/
abbrev NoWork (s : State) (n : Nat) : Prop :=
  (s.view (n + 1)).q3 = [] ∧ s.rd F.HEAT_EXP_STAT_ACTIVE n ≠ 1 ∧ s.spareState 0 = 0 ∧ s.spareState 1 = 0

/-- What a fallback of such a port may change beside its own fields (R160). -/
def fallbackParts (n : Nat) : List Part := [.port n, .view (n + 1), .fld F.PWR_DOM_STAT_SGATED 0] ++ partsOf modeFields n

/-! The terms of single families: surplus slots and views, spares, training -/

/-- A view takes a request that a class-3 slot carries (R309): the view is enabled, the entry intact and a request, the core
running, the view not frozen and its ring not full. -/
abbrev Admits (s : State) (v : Nat) (e : List Nat) : Prop :=
  s.flag F.MGMT_VIEW_CTL_EN v = true ∧ entryCrcOk e = true ∧ bit (entryFlags e) 0 = false ∧
    s.flag F.MGMT_STAT_LRUN 0 = true ∧ s.flag F.MGMT_VIEW_STAT_FROZEN v = false ∧ s.reqFull v = false

/-- What changes where a spare stops serving a lane of a port (R180, R181): its lane-side, the lane's own receiver, and the
port's flag. -/
def idleSpareParts (k l n : Nat) : List Part :=
  .lane (64 + k) :: laneFields [64 + k] [F.LANE_RX_STAT_ASTATE, F.LANE_RX_STAT_CDR_LOCK, F.LANE_RX_STAT_SIGDET,
    F.LANE_SLICE_STAT_MARG, F.LANE_SLICE_STAT_CALSLICE] ++
  [.fld F.LANE_RX_STAT_ASTATE (innerLs l), .fld F.CMP_PORT_STAT_SP0 n, .fld F.CMP_PORT_STAT_SP1 n]

/-- What a step of training may change of a port (R85 to R97): its own state, the fields that report training, and the
settings and adaptation of its lane-sides. -/
def trainParts (s : State) (n : Nat) : List Part :=
  .port n :: portLaneParts s n ++ laneFields (s.portLs n) [F.LANE_EQ_STAT_PRESET, F.LANE_EQ_STAT_CP1, F.LANE_EQ_STAT_C0,
    F.LANE_EQ_STAT_CM1, F.LANE_EQ_STAT_CM2, F.LANE_RX_STAT_POL_DET, F.LANE_RX_STAT_LOGICAL] ++
  partsOf ([F.PORT_LINK_STAT_LTSSM, F.PORT_LINK_STAT_RATE, F.PORT_LINK_STAT_AWIDTH, F.PORT_FLIT_STAT_FMT, F.trials true,
    F.trials false, F.PORT_EQ_STAT_RATE] ++ Reg.PORT_TRN_CNT.fields ++ modeFields) n

/-- A port has no work under way that leaving L0 would end: no data stream, and both spares idle (R105, R125, R180). -/
abbrev NoStream (s : State) (n : Nat) : Prop :=
  (s.port n).stream = false ∧ s.spareState 0 < 2 ∧ s.spareState 1 < 2

/-- The answer of receiver detection: the terminations that it switches on (R86). -/
def newTerms (s : State) (n o i : Nat) : List Out :=
  (List.range (s.width n)).flatMap fun k =>
    (if bit i k ∧ ¬bit (s.port n).foundI k then [.term (outerLs (firstLane n + k)) true] else []) ++
    (if bit o k ∧ ¬bit (s.port n).foundO k then [.term (s.innerOf (firstLane n + k)) true] else [])

/-- The starting values that a receiver takes (R49 to R51, R90): those of its rate, which nothing gives (log entry 5), with CTLE_MAX
and DFE_EN in force. -/
def startVals (s : State) (ls : Nat) : Vals :=
  let v := Config.startValues (s.lane ls).rate (s.lane ls).hint
  [(F.LANE_RX_EQ_CTLE, ls, min (bits v 0 6) (min (s.rd F.LANE_RX_CTL_CTLE_MAX ls) 36)),
   (F.LANE_RX_EQ_DFE1, ls, if s.flag F.LANE_RX_CTL_DFE_EN ls then bits v 6 6 else 0),
   (F.LANE_RX_EQ_FFE_M1, ls, bits v 12 6), (F.LANE_RX_EQ_FFE_P1, ls, bits v 18 6)]

/-! Memory, heat banks and exports -/

/-- The bytes of a run of a memory. -/
def runParts (a n : Nat) : List Part := (List.range n).map fun k => .byte (a + k)

/-- Every byte of a run reads 0. -/
abbrev ReadsZero (t : State) (a n : Nat) : Prop := ∀ k ∈ List.range n, t.rdByte (a + k) = 0

/-- No export is in progress or waits (R242). -/
abbrev NoExport (s : State) : Prop := ∀ p ∈ List.range 16, s.rd F.HEAT_EXP_STAT_ACTIVE p ≠ 1

/-- The fields that a clearing of bank b leaves 0: the per-bank counters (R234). -/
def bankZeros (b : Nat) : Vals := (List.range 16).flatMap fun p => F.bankCounters.map fun f => (f, 2 * p + b, 0)

/-- The memory of bank b and its half of the zoom table (R219, R234). -/
def bankParts (b : Nat) : List Part := runParts (heatAddr false b 0) 0x100000 ++ runParts (heatAddr true b 0) 0x40000

/-- Both read 0. -/
abbrev BankZero (b : Nat) (t : State) : Prop :=
  ReadsZero t (heatAddr false b 0) 0x100000 ∧ ReadsZero t (heatAddr true b 0) 0x40000

/-! Drip boundaries -/

/-- The command completes in a state that holds the values and meets `P`; no part but the fields named and the parts listed has
changed. Events are counted as the sump counts them, and outputs are not named. -/
def Yields (c : Instr) (s : State) (vs : Vals) (ps : List Part) (P : State → Prop) : Prop :=
  ∃ t, exec c s = .next t ∧ Holds vs t ∧ Only (vs.parts ++ ps) s t ∧ P t

/-- A drip boundary at which nothing is due but what every drip does: the counter neither steps nor follows a beacon, no slot
is due, no tally pass or commit is under way, nothing is buffered, no calibration runs, no spare is asked for or granted, no
capture waits, no slice or leg failed and no rail is out of its limits, and no source of the sump would react. -/
abbrev CalmDrip (s : State) (d : DripIn) : Prop :=
  s.raised = [] ∧ s.coreRuns = true ∧ s.clk.stepTo = none ∧ s.clk.beaconAdd = none ∧ s.boot.pass = none ∧
  s.boot.commit = false ∧ s.boot.adopt = false ∧ s.boot.toRelease = [] ∧ s.boot.window = none ∧ s.compat = [] ∧
  (∀ q ∈ List.range 8, (s.cal q).need = false ∧ (s.cal q).req = false ∧ s.rd F.PWR_CAL_STAT_PEND q ≠ 1 ∧
    s.rd F.PWR_CAL_STAT_STATE q = 0) ∧
  (∀ h ∈ List.range 2, (s.spare h).wanted = [] ∧ (s.spare h).peerWanted = [] ∧ (s.spare h).waits = false) ∧
  (∀ n ∈ List.range 16, s.capState n = 0) ∧ (∀ k ∈ List.range 128, s.rd F.SUMP_SRC_CFG_REACT k = 0) ∧
  d.wf = true ∧ d.badSlices = [] ∧ d.badLegs = [] ∧ d.prbs = [] ∧
  (700 ≤ d.vddc ∧ d.vddc ≤ 850) ∧ (873 ≤ d.vdda ∧ d.vdda ≤ 927) ∧ (1710 ≤ d.vddh ∧ d.vddh ≤ 1890)

/-- No schedule slot is armed (R269). -/
abbrev NoSlot (s : State) : Prop := ∀ k ∈ List.range 8, s.rd F.CLK_SCHED_STAT_STATE k ≠ 1

/-- What every drip boundary may change (R261): the timebase, the ages of the mirrors, the samples and buckets of the ports
and views, the engines of the quads, the ramps of the lane-sides, and the sump. -/
def dripParts : List Part :=
  [.clk, .lenWritten, .porDrips, .boot, .csb, .misAge, .winStart, .causes, .lwTicks, .alive, .aliveRun, .safe] ++
  (List.range 16).map .port ++ (List.range 16).map .heat ++ (List.range 17).map .view ++ (List.range 66).map .lane ++
  Mirror.all.flatMap (fun m => (m.1.fields.filter isAge).map fun f => .mir f m.2) ++
  (List.range 80).flatMap (partsOf Reg.CMP_Q_STAT.fields) ++
  partsOf (Reg.PWR_VMON0.fields ++ Reg.PWR_VMON1.fields ++ Reg.PWR_STAT.fields ++ Reg.SUMP_LWDOG_STAT.fields) 0 ++
  (List.range 8).flatMap (partsOf [F.PHR_STAT_RUN, F.PHR_STAT_LAST_CYC, F.PHR_WDOG_MAX_CYC]) ++
  (List.range 9).flatMap (partsOf [F.SUMP_SCRUB_AGE_AGE, F.SUMP_ECC_STAT_SLOW]) ++
  (List.range 16).map (.fld F.SUMP_ATTR_DOWN_DRIPS) ++ (List.range 128).flatMap (partsOf
    (Reg.SUMP_SRC_STAT.fields ++ Reg.SUMP_CAP_INFO.fields ++ Reg.SUMP_CAP_DRIP.fields)) ++
  (List.range 4).map (.fld F.SUMP_PEND_PEND)

/-! The management bus -/

/-- The packets in which a message of the device waits on the bus in use, from an endpoint of the device (R298, R300). -/
def busPkts (s : State) (eid dest tag : Nat) (body : List Nat) : List BusPkt :=
  let ps := mctpPackets (s.mctpUnit (!s.i3c)) dest eid tag body
  (ps.zipIdx).map fun p => ⟨!s.i3c, none, none, false, p.2 + 1 == ps.length, p.1⟩

/-- Those of the device's answer to an MCTP control message, with a free instance ID (R300, log entry 24). -/
def ctlPkts (s : State) (eid src tag free code : Nat) (bytes : List Nat) : List BusPkt :=
  busPkts s eid src tag ([0, Config.freeValue free % 32, code] ++ bytes)

/-- The bus is quiet: no in-band interrupt is enabled, and SMB_PEND shows what waits (R298, R301). -/
abbrev BusShown (s : State) : Prop :=
  s.bus.ibi = false ∧ s.rd F.MGMT_STAT_SMB_PEND 0 = b2n (s.bus.pkts.any fun p => p.smbus)

/-! Requests of the views -/

/-- The oldest request of a view waits to be served (R304, R306, R310, R311, R314, R317): the core runs, the view is not frozen
and has room for a response, a visit may be its turn, and the request came over the CSB and carries no mark. -/
abbrev Waits (s : State) (v opc : Nat) (e : List Nat) : Prop :=
  s.raised = [] ∧ v < 17 ∧ s.mayServe v = true ∧ s.turns v ≠ [] ∧ e = s.rdBytes (reqAddr v (s.rd F.MGMT_VIEW_PTR_REQ_RD v)) 128 ∧
  entryOpc e = opc ∧ bit (entryFlags e) 3 = false ∧ bit (entryFlags e) 4 = false ∧ byteAt e 120 = 3 ∧
  (s.view v).handed = s.rd F.MGMT_VIEW_PTR_RSP_WR v ∧ s.rd F.MGMT_VIEW_PTR_RSP_WR v < 128 ∧ s.csbUp = false

/-- Such a request also passes the checks of its length, of the view's rights and of the port's resets (R304, R306, R317). -/
abbrev Passes (s : State) (v opc : Nat) (e : List Nat) : Prop :=
  Waits s v opc e ∧ lenOk e = true ∧ s.viewMay v e = true ∧ s.aborts v e = false

/-- The pointers and numbers of a view after it has answered a request (R311, R314). -/
def answerVals (s : State) (v : Nat) (e : List Nat) : Vals :=
  [(F.MGMT_VIEW_PTR_REQ_RD, v, (s.rd F.MGMT_VIEW_PTR_REQ_RD v + 1) % 128),
   (F.MGMT_VIEW_PTR_RSP_WR, v, (s.rd F.MGMT_VIEW_PTR_RSP_WR v + 1) % 128),
   (F.MGMT_VIEW_SEQ_RSEQ_NEXT, v, (s.rd F.MGMT_VIEW_SEQ_RSEQ_NEXT v + 1) % 65536),
   (F.MGMT_VIEW_LAST_INPROG_SEQ, v, entrySeq e), (F.MGMT_VIEW_STAT_INPROG, v, 0)]

/-- What else answering a request changes: the entry that the response takes, the view's own state, and the place of the visit
cycle (R314). -/
def answerParts (s : State) (v : Nat) : List Part :=
  .view v :: .visits :: runParts (rspAddr v (s.rd F.MGMT_VIEW_PTR_RSP_WR v)) 128

/-- The response: the next RSEQ, the request's number and opcode, a status and a payload, and the request's route (R302,
R311). -/
def Answered (s : State) (v : Nat) (e : List Nat) (status : Nat) (payload : List Nat) (t : State) : Prop :=
  t.rdBytes (rspAddr v (s.rd F.MGMT_VIEW_PTR_RSP_WR v)) 128 =
    mkEntry (s.rd F.MGMT_VIEW_SEQ_RSEQ_NEXT v) (entrySeq e) (entryOpc e) 1 status payload (entryRoute e)

/-- The word that a register reads as, at an address. -/
def State.wordAt (s : State) (a : Nat) : Nat := match regAt a with | some (r, i) => s.regWord r i | none => 0

/-- An address of the always-on blocks whose register no snapshot pair contains. -/
def plainAddr (a : Nat) : Bool :=
  decide (a < 0x2000) && match regAt a with | some (r, _) => !isLatched r && (latchedBy r).isNone | none => false

/-- The first eight bytes of the answer to a read of a bank (R304): its epoch, and 4 for the live bank or the other's state. -/
def bankAnswer (s : State) (live : Bool) : List Nat :=
  if live then leBytes (s.rd F.HEAT_BANK_EPOCH_EPOCH s.liveBank) 4 ++ [4, 0, 0, 0]
  else leBytes (s.rd F.HEAT_BANK_EPOCH_EPOCH s.otherBank) 4 ++ [s.rd F.HEAT_STAT_OSTATE 0, 0, 0, 0]

/-- No transport holds anything of a view's rings (R311). -/
abbrev Detached (s : State) (v : Nat) : Prop :=
  (s.view v).q3 = [] ∧ (∀ f ∈ s.csb.q1 ++ s.csb.un1, f.ring = none) ∧ (∀ p ∈ s.bus.pkts, p.view ≠ some v)

/-! Messages of SPDM and PLDM -/

/-- The packets of a message of the device's own (R298, R300). -/
def ownPkts (s : State) (dest : Nat) (body : List Nat) : List BusPkt := busPkts s (s.rd F.MGMT_BUS_STAT_EID 0) dest 0 body

/-- The device hears the management bus: as an I3C target, or as an SMBus one (R299). -/
abbrev Hears (s : State) : Prop := s.i3c = true ∨ s.smbus = true

/-- Messages of the device's own wait on the bus, after what waited there. -/
def Told (s : State) (dest : Nat) (bodies : List (List Nat)) (t : State) : Prop :=
  t.bus = { s.bus with pkts := s.bus.pkts ++ bodies.flatMap (ownPkts s dest) }

/-- SMB_PEND once such a message waits (R301). -/
def toldVals (s : State) : Vals := [(F.MGMT_STAT_SMB_PEND, 0, if s.i3c then s.rd F.MGMT_STAT_SMB_PEND 0 else 1)]

/-- The body of an SPDM message (R324). -/
def spdmBody (code : Nat) (bytes : List Nat) : List Nat := [0x05, 0x13, code] ++ bytes

/-- The body of a PLDM message (R352), with the n-th free value as its instance ID (log entry 29). -/
def pldmBody (n cmd : Nat) (req : Bool) (bytes : List Nat) : List Nat :=
  [0x01, Config.freeValue n % 32 + 128 * b2n req, 0x05, cmd] ++ bytes

/-- The responder takes a request that needs a negotiation state (R326). -/
abbrev SpdmAt (s : State) (n : Nat) : Prop :=
  s.raised = [] ∧ Hears s ∧ s.flag F.MGMT_STAT_LRUN 0 = true ∧ s.spdm.signing = none ∧ n ≤ s.rd F.MGMT_SEC_STAT_SPDM 0 ∧ BusShown s

/-- The transcript holds one message more (R326). -/
def Heard (s t : State) : Prop := t.spdm = { s.spdm with transcript := s.spdm.transcript + 1 }

/-- The device takes update requests (R352). -/
abbrev Serves (s : State) : Prop := s.raised = [] ∧ Hears s ∧ s.pldmServes = true ∧ BusShown s

/-- An update of an agent is in a state, and the device takes its requests (R352, R367). -/
abbrev Updates (s : State) (src p : Nat) : Prop :=
  Serves s ∧ s.pstate = p ∧ p ≠ 0 ∧ s.boot.pldm.agent = src ∧ src < 256

/-! Flash, trials and start-up -/

/-- What the boot registers show of a flash content with a log area in use (R364 to R367). -/
def shownVals (keys : List Nat) (area : Nat) (f : Flash) : Vals :=
  [(F.BOOT_BANK_SV_B, 0, bankBits keys f 2 1), (F.BOOT_BANK_SV_A, 0, bankBits keys f 2 0),
   (F.BOOT_BANK_FW_B, 0, bankBits keys f 1 1), (F.BOOT_BANK_FW_A, 0, bankBits keys f 1 0),
   (F.BOOT_FW_VER_A_VERSION, 0, bankVersion keys f 1 0 % 2 ^ 32),
   (F.BOOT_FW_VER_B_VERSION, 0, bankVersion keys f 1 1 % 2 ^ 32),
   (F.BOOT_SV_VER_A_VERSION, 0, bankVersion keys f 2 0 % 2 ^ 32),
   (F.BOOT_SV_VER_B_VERSION, 0, bankVersion keys f 2 1 % 2 ^ 32),
   (F.BOOT_LOG_STAT_FREE, 0, flashFree f area % 2 ^ 12), (F.BOOT_LOG_STAT_AREA, 0, area % 2)]

/-- The flash may be written, and its log has room for n records before a compaction is due (R339, R360). -/
abbrev Writable (s : State) (f : Flash) (n : Nat) : Prop :=
  s.boot.flash = some f ∧ s.flag F.BOOT_SPI_STAT_MMAP 0 = false ∧ 16 + n ≤ flashFree f s.boot.area

/-- The log has room enough that firmware need not compact it (R339). -/
abbrev LogRoom (s : State) : Prop := (s.boot.flash.all fun f => decide (16 ≤ flashFree f s.boot.area)) = true

/-- The first and second message of an answer over PLDM, with their free instance IDs (R352). -/
def pldmMsgs (dest cmd : Nat) (bytes : List Nat) (next : List Nat) : List Out :=
  .message dest 0 cmd bytes :: if next = [] then [] else [.message dest 0 0x15 next]

/-- Their bodies. -/
def pldmBodies (s : State) (cmd : Nat) (bytes : List Nat) (next : List Nat) : List (List Nat) :=
  pldmBody s.fresh cmd false bytes :: if next = [] then [] else [pldmBody (s.fresh + 1) 0x15 true next]

/-- What the device asks for after some bytes of an image: the offset and the length of the next piece (R352); nothing where
all have arrived. -/
def askedFor (maxXfer got size : Nat) : List Nat :=
  if got < size then leBytes got 4 ++ leBytes (min (max 1 (min 1024 maxXfer)) (size - got)) 4 else []

/-- A test adds a record of a component to the flash where it holds. -/
def loggedIf (p : Bool) (f : Flash) (area : Nat) (t : RecType) (comp b : Nat) : Flash :=
  if p then flashAppend f area t comp b else f

/-- What closing the confirmation window leaves (R357). -/
def closedVals : Vals := [(F.BOOT_UPD_STAT_WINDOW, 0, 0), (F.BOOT_UPD_STAT_CONF_LEFT, 0, 0)]

/-- What a Lantern reset leaves beside its cause (R39, R316, R326, R387). -/
def lanternVals : Vals :=
  [(F.MGMT_STAT_LRUN, 0, 0), (F.MGMT_SEC_STAT_SPDM, 0, 0), (F.SUMP_LWDOG_STAT_RUN, 0, 0), (F.MGMT_SEC_STAT_SEC_HOLD, 0, 0),
   (F.MGMT_STAT_BUS_MODE, 0, 0), (F.MGMT_BUS_STAT_DA_VALID, 0, 0), (F.MGMT_BUS_STAT_DYN_ADDR, 0, 0),
   (F.MGMT_STAT_SMB_PEND, 0, 0)]

/-- Nothing of a response is on its way, and no gating waits for the secure domain, as a Lantern reset finds the device. -/
abbrev Unsent (s : State) : Prop :=
  s.secDefer = none ∧
    ∀ v ∈ List.range 17, (s.view v).handed = s.rd F.MGMT_VIEW_PTR_RSP_TX v ∧ (s.view v).q3 = []

/-- The start-up stage in progress can end: no power-on reset is held, and the start-up has not ended early (R276, R331, R346). -/
abbrev InStage (s : State) (n : Nat) : Prop := s.raised = [] ∧ s.held = false ∧ s.boot.failed = false ∧ s.rd F.BOOT_STAT_STAGE 0 = n

/-- What the domain switches of the hand-over leave (R251, R252). -/
def switchVals (s : State) : Vals :=
  [(F.CLK_SRC_SAFE, 0, 1), (F.CLK_SRC_MGMT, 0, 1), (F.CLK_STAT_SAFE_ON, 0, b2n (s.flag F.CLK_STAT_XPLL_LOCK 0)),
   (F.CLK_STAT_MGMT_ON, 0, b2n (s.flag F.CLK_STAT_MPLL_LOCK 0))]

/-- What the boot ROM shows of the flash device itself (R336, R366, R367). -/
def flashVals (f : Flash) : Vals :=
  [(F.BOOT_SPI_CFG_IO, 0, f.io % 4), (F.BOOT_FLASH_ID_DENS, 0, f.dens % 2 ^ 8), (F.BOOT_FLASH_ID_JEDEC, 0, f.jedec % 2 ^ 24),
   (F.BOOT_SPI_STAT_ADDR4, 0, b2n (decide (27 < f.dens))), (F.BOOT_LOG_STAT_TORN, 0, min (flashTorn f) 255)]

/-- The clock record of a Survey (R344), the last record of its kind being the only one. -/
def svClock (l : List SvRec) : Option (Nat × Nat) :=
  l.findSome? fun r => match r with | .clock c d => some (c, d) | _ => none

/-- The references that a CLOCK record names (R331, R344). -/
def clockVals (l : List SvRec) : Vals :=
  match svClock l with
  | some (c, _) => [(F.CLK_SRC_CORE_REF, 0, bits c 0 2), (F.CLK_SRC_OREF, 0, bits c 2 1), (F.CLK_SRC_IREF, 0, bits c 3 1)]
  | none => []

/-- The divider that it gives from stage 6 on (R331). -/
def loadVals (l : List SvRec) : Vals :=
  (F.BOOT_STAT_STAGE, 0, 6) :: match svClock l with | some (_, d) => [(F.BOOT_SPI_CFG_DIV, 0, d % 2 ^ 8)] | none => []

/-- The power record (R344). -/
def svPower (l : List SvRec) : Option Nat := l.findSome? fun r => match r with | .power v => some v | _ => none

/-- PWR_AVS_CFG takes it (R331). -/
def powerVals (l : List SvRec) : Vals :=
  match svPower l with
  | some v => Reg.PWR_AVS_CFG.fields.map fun f => (f, 0, bits v f.lo f.w)
  | none => []

/-- The width record (R344). -/
def svWidth (l : List SvRec) : Option Nat := l.findSome? fun r => match r with | .width v => some v | _ => none

/-- The width codes that it gives the quads, and the spares gated (R26, R176). -/
def widthVals (l : List SvRec) : Vals :=
  match svWidth l with
  | some v => (F.PWR_DOM_STAT_SGATED, 0, 3) :: (List.range 8).map fun q => (F.quadCode q, 0, bits v (3 * q) 3)
  | none => []

/-- The records of registers, locks and releases (R344). -/
def svRegs (l : List SvRec) : List SvRec :=
  l.filter fun r => match r with | .regWrite _ => true | .regRmw _ => true | _ => false
def svLocks (l : List SvRec) : List SvRec := l.filter fun r => match r with | .lock _ => true | _ => false
def svMask (l : List SvRec) : Nat := (l.findSome? fun r => match r with | .release m _ => some m | _ => none).getD 0

/-- What the commit of stage 10 leaves where it passes, and the end of start-up (R331, R351). -/
def commitVals (s : State) (tally us : Nat) : Vals :=
  [(F.GLB_TALLY_VALUE, 0, tally), (F.GLB_TALLY_STAGE_STAGE, 0, tally), (F.GLB_TALLY_REF_REF, 0, tally),
   (F.GLB_TALLY_STAT_REF_VALID, 0, 1), (F.GLB_TALLY_CTL_SUSP, 0, 0), (F.GLB_TALLY_CDRIP_LO_DRIP_LO, 0, s.drip % 2 ^ 32),
   (F.GLB_TALLY_CDRIP_HI_DRIP_HI, 0, s.drip / 2 ^ 32 % 2 ^ 16), (F.BOOT_TIME_TIME, 0, min us (2 ^ 32 - 1)),
   (F.BOOT_STAT_STAGE, 0, 11)]

/-! Quads -/

/-- A port with lanes in a quad is held as R42 says: disabled, or its LTSSM reads RESET or PRESENCE_WAIT. -/
abbrev HeldPort (s : State) (n : Nat) : Prop := s.portEn n = false ∨ s.ltssm n = 0x1F ∨ s.ltssm n = 0x1D

/-! Runs -/

/-- A safe run: no step of it ends in a fault or a refusal. -/
def Runs : Nat → State → Prop
  | 0, _ => True
  | k + 1, s => ∃ t, step s = .next t ∧ Runs k t

end Sys2Proof.Machine

namespace Sys2Proof

/-! Commands by what they reach and how they can stop -/

/-- The requester of a command that is a management access (R15, R396). -/
def Instr.requester : Instr → Option Requester
  | .glbRstDevice r | .glbRstLantern r | .portCtlEn r .. | .portCtlRst r .. | .quadCtlRst r ..
  | .cmpCsbCtlRst r | .cmpCsbCtlEn r .. | .laneRxCtlFreeze r .. | .laneRxCtlRestart r ..
  | .laneRxCtlCntClr r .. | .lanePrbsCtlClr r .. | .phrCtlEn r .. | .phrWdogClr r .. | .phraseMemoryWrite r ..
  | .portCtlRetrain r .. | .portCtlCntClr r .. | .portBindTagWrite r .. | .portFlitCtlCntClr r ..
  | .portCapCtlArm r .. | .portCapCtlForce r .. | .portCapCtlStop r .. | .captureWindowWrite r ..
  | .spareCtlReq r .. | .spareCtlRelS0 r | .spareCtlRelS1 r | .spareCtlCntClr r | .cmpCsbCtlCntClr r
  | .cmpSlotCtlCntClr r | .heatCtlRel r | .heatPctlClr r .. | .heatZctlClr r .. | .heatCtlCntClr r
  | .heatPlfsrWrite r .. | .heatWindowWrite r .. | .clkSrcSafe r .. | .clkSrcMgmt r .. | .clkSrcCoreRef r ..
  | .clkSrcOref r .. | .clkSrcIref r .. | .clkFmCtlStart r | .clkTsyncCtlLoad r | .clkSchedCtlArm r ..
  | .clkSchedCtlCancel r .. | .clkCtlCntClr r | .snapshotLoRead r .. | .pairLoWrite r .. | .pairHiWrite r ..
  | .bifurcationWrite r .. | .pwrCtlCalRun r .. | .pwrCtlCntClr r | .viewFreeze r .. | .viewThaw r ..
  | .mgmtViewCtlSave r .. | .mgmtViewCtlRestore r .. | .mgmtViewCtlRingRst r .. | .mgmtViewCtlCntClr r ..
  | .mgmtCtlCntClr r | .mailboxWrite r .. | .bootUpdCtlConfirm r | .bootUpdCtlRevert r | .bootUpdCtlReact r
  | .bootUpdCtlContinue r | .bootUpdCtlCntClr r | .glbTallyCtlCommit r | .glbTallyCtlAdopt r | .sumpClr r ..
  | .sumpClrAll r | .sumpForce r .. | .sumpCtlCntClr r | .sumpCtlAvailClr r | .sumpLwdogCtlKick r
  | .compatWrite r .. | .cwWbufRead r | .glbLockWrite r .. | .registerWrite r .. => some r
  | _ => none

/-- Such an access reaches a core-domain block (R30, R255). -/
def Instr.ofCore : Instr → Bool
  | .portCtlEn .. | .portCtlRst .. | .quadCtlRst .. | .cmpCsbCtlRst .. | .cmpCsbCtlEn .. | .laneRxCtlFreeze ..
  | .laneRxCtlRestart .. | .laneRxCtlCntClr .. | .lanePrbsCtlClr .. | .phrCtlEn .. | .phrWdogClr ..
  | .phraseMemoryWrite .. | .portCtlRetrain .. | .portCtlCntClr .. | .portBindTagWrite ..
  | .portFlitCtlCntClr .. | .portCapCtlArm .. | .portCapCtlForce .. | .portCapCtlStop ..
  | .captureWindowWrite .. | .spareCtlReq .. | .spareCtlRelS0 .. | .spareCtlRelS1 .. | .spareCtlCntClr ..
  | .cmpCsbCtlCntClr .. | .cmpSlotCtlCntClr .. | .heatCtlRel .. | .heatPctlClr .. | .heatZctlClr ..
  | .heatCtlCntClr .. | .heatPlfsrWrite .. | .heatWindowWrite .. | .mailboxWrite .. => true
  | _ => false

/-- The commands that can end in a fault, and in which: writes at any address, in any form, by a fault of the register or the
window there (R14, R27, R308, R321); the others by their own alone. -/
def Instr.mayStop (f : Machine.Fault) : Instr → Bool
  | .registerWrite .. | .pairLoWrite .. | .pairHiWrite .. | .write _ | .rmw .. | .startupStageComplete _ => true
  | .glbLockWrite .. => f == .reservedBits
  | .bifurcationWrite .. => f == .illegalWidthMap
  | .mgmtViewCtlRestore .. => f == .blobNotFrozen
  | .mailboxWrite .. => f == .ringEntryOwned
  | _ => false

/-- The commands that no fault ends: every row of the table but the writes at any address, GLB_LOCK, GLB_BIFUR, a restore and a
mailbox write, whose results have statements of their own. -/
def Instr.alwaysCompletes : Instr → Bool
  | .powerOnReset .. | .pinReset .. | .brownOut .. | .glbRstDevice .. | .glbRstLantern .. | .lanternRestart
  | .portCtlEn .. | .portCtlRst .. | .portResetDone .. | .perstAssert .. | .perstRelease .. | .presenceAccepted ..
  | .quadCtlRst .. | .cmpCsbCtlRst .. | .cmpCsbCtlEn .. | .laneRxCtlFreeze .. | .laneRxCtlRestart ..
  | .laneRxCtlCntClr .. | .signalDetect .. | .cdrLock .. | .lossOfSignal .. | .adaptConverged .. | .lossOfLock ..
  | .relockTimeout .. | .ebWatermarkCrossing .. | .elasticBufferError .. | .skpOrderedSet .. | .lanePrbsCtlClr ..
  | .prbsLock .. | .prbsLockLoss .. | .marginCommand .. | .marginStepSetup .. | .phrCtlEn .. | .phrWdogClr ..
  | .phraseOverrun .. | .mirrorRefresh .. | .phraseMemoryWrite .. | .detectRetry .. | .trainingSet ..
  | .coefficientRequest .. | .eqTrialEnd .. | .execTmo .. | .l0pTransition .. | .l1Entry .. | .l1Exit ..
  | .hotReset .. | .disabledExit .. | .trainingWatchdog .. | .timeoutIdleEnd .. | .unannouncedIdle ..
  | .portCtlRetrain .. | .portCtlCntClr .. | .portBindTagWrite .. | .dataStreamStart .. | .dataStreamEnd ..
  | .flitDecoded .. | .provisionalLockExpiry .. | .lockLoss .. | .orderedSetMisplaced .. | .portFlitCtlCntClr ..
  | .portCapCtlArm .. | .portCapCtlForce .. | .portCapCtlStop .. | .captureRecordWrite .. | .captureDone ..
  | .captureWindowWrite .. | .joinRsp .. | .joinTmo .. | .lockRpt .. | .clockTmo .. | .ceqDone .. | .ceqTmo ..
  | .fallbackAck .. | .fallbackAckTimeout .. | .fallbackHoldTimeout .. | .leave .. | .rowLoss .. | .csbAligned
  | .hello .. | .helloTimer | .csbCodeViolationLoss | .lossTmo | .ack .. | .rtxTmo .. | .reservedCsbFrame ..
  | .beacon .. | .spareReq .. | .spareRsp .. | .spareRspTimeout .. | .spareTrack .. | .spareSwitchover ..
  | .spareRxOn .. | .spareTmo .. | .laneHealth .. | .spareWindow | .spareCtlReq .. | .spareCtlRelS0 ..
  | .spareCtlRelS1 .. | .spareCtlCntClr .. | .cmpCsbCtlCntClr .. | .slotDecision .. | .replaySlot ..
  | .replayRequestSlot .. | .portViewMessageSlot .. | .fillSlot .. | .badSlot .. | .holdDeparture ..
  | .erratumDeadline .. | .cmpSlotCtlCntClr .. | .cacheWriteBack .. | .flushEnd | .heatCtlRel .. | .autoRelease
  | .clearEnd | .heatPctlClr .. | .partitionClearEnd .. | .heatZctlClr .. | .zoomClearEnd .. | .heatCtlCntClr ..
  | .heatPlfsrWrite .. | .heatWindowWrite .. | .chunkReady .. | .dripBoundary .. | .crystalPresent | .pllLock ..
  | .clkSrcSafe .. | .clkSrcMgmt .. | .clkSrcCoreRef .. | .clkSrcOref .. | .clkSrcIref .. | .sourceLoss ..
  | .sourceReturn .. | .coreRestart .. | .clkFmCtlStart .. | .fmWindowEnd .. | .timesyncEdge .. | .timesyncMiss
  | .clkTsyncCtlLoad .. | .clkSchedCtlArm .. | .clkSchedCtlCancel .. | .clkCtlCntClr .. | .snapshotLoRead ..
  | .avsTarget .. | .avsCommand | .avsFault | .ldoFault .. | .quadUngate .. | .temperatureSample .. | .thermalTrip
  | .tripRelease | .pwrCtlCalRun .. | .calRunEnd .. | .stepCorrection .. | .pwrCtlCntClr .. | .secureGateRequest ..
  | .secureDomainRelease | .secureAccessViolation | .entdaa .. | .setdasa .. | .setaasa | .setnewda .. | .rstdaa
  | .enec .. | .disec .. | .getpid | .getbcr | .getdcr | .getstatus | .getmwl | .setmwl .. | .getmrl | .setmrl ..
  | .getmxds | .i3cPrivateRead .. | .smbusWrite .. | .sclLowTimeout | .alertResponse | .smbusBlockRead ..
  | .smbusPacketTimeout | .setEndpointId .. | .getEndpointId .. | .getMctpVersionSupport ..
  | .getMessageTypeSupport .. | .getVendorDefinedMsgSupport .. | .efsiaRequest .. | .getInfo .. | .read ..
  | .resync .. | .portSummary .. | .heatRead .. | .zoomRead .. | .capRead .. | .viewFreeze .. | .viewThaw ..
  | .mgmtViewCtlSave .. | .mgmtViewCtlRingRst .. | .mgmtViewCtlCntClr .. | .mgmtCtlCntClr .. | .getVersion ..
  | .getCapabilities .. | .negotiateAlgorithms .. | .getDigests .. | .getCertificate .. | .challenge ..
  | .getMeasurements .. | .spdmUnsupportedRequest .. | .queryDeviceIdentifiers .. | .getFirmwareParameters ..
  | .requestUpdate .. | .passComponentTable .. | .updateComponent .. | .requestFirmwareData .. | .transferComplete ..
  | .verifyComplete .. | .applyComplete .. | .activateFirmware .. | .getStatus .. | .cancelUpdateComponent ..
  | .cancelUpdate .. | .updateAgentTimeout | .bootUpdCtlConfirm .. | .bootUpdCtlRevert .. | .bootUpdCtlReact ..
  | .bootUpdCtlContinue .. | .bootUpdCtlCntClr .. | .confirmationWindowEnd | .autoConfirm | .tallyPassEnd
  | .glbTallyCtlCommit .. | .glbTallyCtlAdopt .. | .sourceEvent .. | .wireFault .. | .sumpWindowEnd .. | .sumpClr ..
  | .sumpClrAll .. | .sumpForce .. | .sumpCtlCntClr .. | .sumpCtlAvailClr .. | .sumpLwdogCtlKick .. | .lanternWatchdog
  | .qstopAssert | .qstopRelease | .qstopDiscrepancy | .eccWriteBack .. | .eccLeak .. | .scrubRead ..
  | .compatWrite .. | .cwWbufRead .. | .extest .. | .tapReset .. | .qstopDisagreement .. | .prsntLevelChange ..
  | .ldoOutputInRange .. | .wireFaultEnd .. | .flashProgramEraseComplete | .csbFrameCrcBad .. | .csbFrameBoundary
  | .saveRestoreComplete .. | .signingComplete | .sparePowerUp .. => true
  | _ => false

end Sys2Proof
end

