-- ==== Sys2Proof/Certificates/Slice0/Obligations.lean ====
section
/-! DEFINITION. The statements for the provers. Each is a conjunction of clauses, one for each case of the rules it cites; a
clause names the values that a command leaves and every part of the state it may change, so that it is the frame and the
completion of the command too. -/
open Sys2Proof Sys2Proof.Machine

/-- A step runs the command at the front of the queue. A step takes the command at the front of the queue and is that
command's effect on the state with the queue's rest; with no command waiting the state stays as it is (the model's
choice, log entry 4). The table gives no row bits, so no word spells a command and nothing is placed by one. The
queue is the model's form of the order in which the commands arrive (log entry 8). (R400, R401.) -/
def Obligations.TheFrontCommandRuns : Prop :=
  (∀ (c : Instr) (q : List Instr) (s : State),
    s.pending = c :: q →
    step s = exec c { s with pending := q }) ∧
  (∀ (s : State),
    s.pending = [] →
    step s = .next s) ∧
  (∀ (s : State) (nbits w : Nat),
    decodeTableWord nbits w = none ∧ s.withFetchWord nbits w = s)

/-- The state after reset. After reset every field of every register instance holds the value of its Reset column,
nothing waits and no event is uncounted, every memory byte reads 0 (the model's choice, log entry 2), the core
domain does not run, start-up is in stage 1, LRUN is 0, every port is disabled in RESET, and every transmitter is in
electrical idle; the memory has its canonical form. The straps read 0 (the model's choice, log entry 1). (R39, R40.)
-/
def Obligations.ResetLeavesTheResetColumn : Prop :=
  (∀ (f : Fld) (i : Nat),
    State.reset.rd f i = f.reset i) ∧
  (State.reset.pending = [] ∧ Quiet State.reset ∧ Memory.wf State.reset.mem = true ∧ State.reset.coreRuns = false ∧
    State.reset.rd F.BOOT_STAT_STAGE 0 = 1 ∧ State.reset.rd F.MGMT_STAT_LRUN 0 = 0) ∧
  (∀ (n a : Nat),
    State.reset.ltssm n = 0x1F ∧ State.reset.rd F.PORT_CTL_EN n = 0 ∧ (State.reset.lane n).tx = false ∧
      State.reset.rdByte a = 0)

/-- No step leaves an event uncounted. In every state in which no event waits to be counted, each step that gives a
next state, whatever the command at the front of the queue, gives one in which no event waits: what a command
reports, and what its reactions report in turn, the sump takes within it. That the events are taken within the
command is the model's (log entry 7). (R370, R373.) -/
def Obligations.EveryStepCountsItsEvents : Prop :=
  ∀ (s t : State),
    Quiet s →
    step s = .next t →
    Quiet t

/-- The memory keeps its canonical form. In every state whose memory lists rising addresses and no byte that reads as
an unlisted one, each step that gives a next state gives one whose memory is in the same form, so that equal
memories stay equal data. (R35, R396.) -/
def Obligations.EveryStepKeepsTheMemoryForm : Prop :=
  ∀ (s t : State),
    Memory.wf s.mem = true →
    step s = .next t →
    Memory.wf t.mem = true

/-- The commands that wait stay as they are. Whatever the command and the state, where the command gives a next state
the commands that wait there are those that waited before, in the same order: a reset of the device, too, leaves
them. That commands wait through a reset is the model's (log entry 8). (R400, R401.) -/
def Obligations.NoCommandTouchesTheQueue : Prop :=
  ∀ (c : Instr) (s t : State),
    exec c s = .next t →
    t.pending = s.pending

/-- Every command completes, or stops as the manual says. A command whose operands name no object of the device is
refused for that, and no other command is refused. Every other command, in every state, gives a next state or ends
in one of the four faults of the model: a write of a reserved bit, of an illegal width map, of a ring entry the
device owns, or a restore into a view that is not frozen, which the manual calls unpredictable. Only writes at any
address (on the bus, through a view, or by a Survey at stage 9) and the four commands of these faults themselves end
so. Each of the 260 forms that Instr.alwaysCompletes names, with operands that name objects of the device, gives a
next state in every state whatever: with the core domain stopped or running, whatever port, lane or view it names
and whatever was written before. The commands that wait are there as they were, and where no event waited none does
after it. The other ten forms are the writes that R14, R27, R308 and R321 can call unpredictable; that they complete
elsewhere, and with what result, stands with their families. (R10, R14, R27, R255, R308, R321, R361, R390, R400.) -/
def Obligations.EveryCommandCompletesOrStopsByName : Prop :=
  (∀ (c : Instr) (s : State),
    c.wf = false →
    exec c s = .refused .illFormed) ∧
  (∀ (c : Instr) (s : State),
    c.wf = true →
    (∃ t, exec c s = .next t) ∨ ∃ f, exec c s = .fault f ∧ c.mayStop f = true) ∧
  (∀ (c : Instr) (s : State),
    c.wf = true ∧ c.alwaysCompletes = true →
    ∃ t, exec c s = .next t ∧ t.pending = s.pending ∧ (s.raised = [] → t.raised = []))

/-- Accesses while the core domain is stopped or the TAP is locked. An access to a core-domain register or memory,
from any requester that reaches the device, ends in a bus error while the core domain is stopped, and changes
nothing. An access through the TAP while BOOT_STAT.DBG_LOCK reads 1 acts as BYPASS: it is not answered and changes
nothing, whatever the command. (R30, R255, R361.) -/
def Obligations.StoppedDomainsAndLockedTapsAnswer : Prop :=
  (∀ (c : Instr) (s : State) (r : Requester),
    BusReady s r →
    c.wf = true ∧ c.requester = some r ∧ c.ofCore = true ∧ s.coreRuns = false →
    Gives c s [] [] [.busError] anyState) ∧
  (∀ (c : Instr) (s : State),
    Quiet s →
    c.wf = true ∧ c.requester = some .jtag ∧ s.rd F.BOOT_STAT_DBG_LOCK 0 = 1 →
    Gives c s [] [] [] anyState)

/-- A compaction of the record log. Out of an area that alone holds records, a compaction writes into the other area
records whose replay, after the ones before, gives for the firmware and for the Survey the same confirmed bank, the
same pending bank with the same mark of its trial, and the same verified digests as before: it changes no choice of
banks. The area it leaves keeps every byte, and no image is touched. With 16 or more erased slots nothing is
compacted. (R338, R339, R340.) -/
def Obligations.CompactionKeepsTheBankState : Prop :=
  (∀ (f g : Flash) (area c : Nat),
    (f.wf = true ∧ area < 2 ∧ (c = 1 ∨ c = 2) ∧ g = flashCompact f area) →
    areaLog f (1 - area) = [] ∧ nextSeq (flashLog f) + 10 < 2 ^ 32 →
    (flashReplay g c).conf = (flashReplay f c).conf ∧ (flashReplay g c).pend = (flashReplay f c).pend ∧ (flashReplay g
      c).verA = (flashReplay f c).verA ∧ (flashReplay g c).verB = (flashReplay f c).verB ∧ ((flashReplay f c).pend ≠
      none → (flashReplay g c).tried = (flashReplay f c).tried)) ∧
  (∀ (f : Flash) (area a : Nat),
    (f.wf = true ∧ area < 2 ∧ (a < areaBase (1 - area) ∨ areaBase (1 - area) + 0x10000 ≤ a)) →
    flashRead (flashCompact f area) a 1 = flashRead f a 1) ∧
  (∀ (s : State) (f : Flash),
    s.boot.flash = some f ∧ 16 ≤ flashFree f s.boot.area →
    s.compactLog = s)

/-- Class-7 slots. A class-7 slot has bits 4:0 of byte 0 and bytes 1 to 3 set to 0 and a valid HCRC. With rows running
and nothing else to send, the device sends one, whose payload is 0x00 throughout. Of a class-7 slot that it receives
it ignores the payload: two such slots that differ in their payloads alone have the same effect on every state.
(R199.) -/
def Obligations.FillSlotsCarryNothing : Prop :=
  (∀ (s : State) (n young und uns : Nat) (ecc : Ecc),
    Quiet s →
    n < 16 ∧ ecc.wf = true ∧ und ≤ 32 ∧ uns ≤ 32 ∧ (s.port n).outPos + und + uns = 32 * ((s.port n).slotsOut + 1) →
    (s.port n).rows = true ∧ (s.port n).errata = [] ∧ (s.port n).holdReqs = [] ∧ (s.port n).rplReqs = [] ∧ (s.port
      n).refused = [] →
    (s.view (n + 1)).q3 = [] ∧ (s.heat n).chunk = none →
    ∃ slot t, exec (.slotDecision n young ecc und uns) s = .next t ∧ t.out = [.slot n slot] ∧ slot.length = 256 ∧ byteAt
      slot 0 = 0xE0 ∧ sliceBytes slot 1 3 = [0, 0, 0] ∧ hcrcOk n (s.outRow n) slot = true ∧ slot.drop 6 = List.replicate
      250 0) ∧
  (∀ (s : State) (n : Nat) (x y : List Nat),
    n < 16 ∧ x.length = 256 ∧ y.length = 256 ∧ bytesWf x = true ∧ bytesWf y = true →
    byteAt x 0 / 32 = 7 ∧ x.take 6 = y.take 6 →
    exec (.fillSlot n x) s = exec (.fillSlot n y) s)

/-- Resets of the device and of the Lantern core. After a power-on reset (POWER_ON_RESET, or the one a brown-out
starts, which is held until then) every register and every engine is as State.reset says, but for the sampled
straps, the levels of the pins, and what lasts (the waiting commands, the flash and the key slots); after a pin
reset or a device software reset the memories, the clock monitor's sources, the earlier causes and the TAP last too,
GLB_RST_CAUSE records the cause, and start-up resumes at stage 3. With GLB_LOCK.RST set, a device software reset is
refused. The values of State.reset that the manual does not give are the model's (log entry 1). A Lantern reset by
GLB_RST.LANTERN clears LRUN and stops the Lantern watchdog, records its cause, releases the secure domain, ends the
SPDM connection and the bus address, and drops the latches of both Lantern requesters and an update in progress, but
no port, lane, memory or configuration changes; the watchdog's expiry does the same with its own cause, counts and
reports LAN_WDOG (source 10), and does nothing while the watchdog is stopped. Restarted firmware sets LRUN and
restarts the watchdog; without a Lantern reset under way the event changes nothing. (R39, R40, R41, R276, R316,
R326, R330, R333, R387, R403, R404, R414.) -/
def Obligations.ResetsInitializeOrStopService : Prop :=
  (∀ (s : State) (st : Straps),
    st.addr < 8 ∧ st.bootsel < 4 →
    s.rd F.PWR_THERM_STAT_TRIP_NOW 0 ≠ 1 ∧ s.rd F.SUMP_QSTOP_STAT_A 0 ≠ 1 ∧ s.rd F.SUMP_QSTOP_STAT_B 0 ≠ 1 →
    Resets (.powerOnReset st) s State.reset [(F.BOOT_STAT_BOOTSEL, 0, st.bootsel), (F.MGMT_BUS_STAT_STATIC_ADDR, 0, 0x58
      + st.addr), (F.GLB_RST_CAUSE_POR, 0, 1), (F.BOOT_STAT_STAGE, 0, 1)] (pinParts ++ [.pending, .boot, .fresh]) fun t
      => t.pending = s.pending ∧ t.fresh = s.fresh ∧ t.boot =
      { flash := s.boot.flash, keys := s.boot.keys, area := s.boot.area }) ∧
  (∀ (s : State) (rail : Nat),
    rail < 4 →
    s.rd F.PWR_THERM_STAT_TRIP_NOW 0 ≠ 1 ∧ s.rd F.SUMP_QSTOP_STAT_A 0 ≠ 1 ∧ s.rd F.SUMP_QSTOP_STAT_B 0 ≠ 1 →
    Resets (.brownOut rail) s State.reset [(F.GLB_RST_CAUSE_POR, 0, 1), (F.BOOT_STAT_STAGE, 0, 1)] (pinParts ++
      [.pending, .boot, .fresh, .held, .fld F.BOOT_STAT_BOOTSEL 0, .fld F.MGMT_BUS_STAT_STATIC_ADDR 0]) fun t =>
      t.pending = s.pending ∧ t.boot.flash = s.boot.flash ∧ t.held = true) ∧
  (∀ (s : State) (st : Straps),
    st.addr < 8 ∧ st.bootsel < 4 →
    s.rd F.PWR_THERM_STAT_TRIP_NOW 0 ≠ 1 ∧ s.rd F.SUMP_QSTOP_STAT_A 0 ≠ 1 ∧ s.rd F.SUMP_QSTOP_STAT_B 0 ≠ 1 →
    Resets (.pinReset st) s (State.reset.putMem s.mem) [(F.BOOT_STAT_BOOTSEL, 0, st.bootsel),
      (F.MGMT_BUS_STAT_STATIC_ADDR, 0, 0x58 + st.addr), (F.GLB_RST_CAUSE_PIN, 0, 1), (F.BOOT_STAT_STAGE, 0, 3),
      (F.CLK_SRC_SAFE, 0, 1), (F.CLK_SRC_MGMT, 0, 1)] (pinParts ++ warmParts) fun t => t.pending = s.pending ∧
      t.boot.flash = s.boot.flash ∧ t.tap = s.tap ∧ t.clk.lost = s.clk.lost ∧ t.rd F.GLB_RST_CAUSE_POR 0 = s.rd
      F.GLB_RST_CAUSE_POR 0 % 2) ∧
  (∀ (s : State) (r : Requester),
    BusReady s r →
    s.rd F.GLB_LOCK_RST 0 ≠ 1 →
    s.rd F.PWR_THERM_STAT_TRIP_NOW 0 ≠ 1 ∧ s.rd F.SUMP_QSTOP_STAT_A 0 ≠ 1 ∧ s.rd F.SUMP_QSTOP_STAT_B 0 ≠ 1 →
    Resets (.glbRstDevice r) s (State.reset.putMem s.mem) [(F.GLB_RST_CAUSE_DEVICE, 0, 1), (F.BOOT_STAT_STAGE, 0, 3),
      (F.CLK_SRC_SAFE, 0, 1), (F.CLK_SRC_MGMT, 0, 1)] (pinParts ++ warmParts ++ [.fld F.BOOT_STAT_BOOTSEL 0, .fld
      F.MGMT_BUS_STAT_STATIC_ADDR 0]) fun t => t.pending = s.pending ∧ t.boot.flash = s.boot.flash ∧ t.tap = s.tap) ∧
  (∀ (s : State) (r : Requester),
    BusReady s r →
    s.rd F.GLB_LOCK_RST 0 = 1 →
    s.werrAny = true →
    Gives (.glbRstDevice r) s [(F.GLB_WERR_GLB, 0, 1)] [] [.writeAck] fun t => t.refusedNow = true) ∧
  (∀ (s : State) (r : Requester),
    BusReady s r →
    s.boot.flash = none ∧ s.secDefer = none →
    (∀ v ∈ List.range 17, (s.view v).handed = s.rd F.MGMT_VIEW_PTR_RSP_TX v ∧ (s.view v).q3 = []) →
    Gives (.glbRstLantern r) s [(F.GLB_RST_CAUSE_LAN_REG, 0, 1), (F.MGMT_STAT_LRUN, 0, 0), (F.MGMT_SEC_STAT_SPDM, 0, 0),
      (F.SUMP_LWDOG_STAT_RUN, 0, 0), (F.MGMT_SEC_STAT_SEC_HOLD, 0, 0), (F.MGMT_STAT_BUS_MODE, 0, 0),
      (F.MGMT_BUS_STAT_DA_VALID, 0, 0), (F.MGMT_BUS_STAT_DYN_ADDR, 0, 0), (F.MGMT_STAT_SMB_PEND, 0, 0)] [.boot, .snaps,
      .spdm, .bus] [.writeAck] fun t => t.boot.lantern = some s.drip ∧ t.bus = {} ∧ t.spdm = {} ∧ t.snaps =
      s.snaps.filter fun e => e.1 % 4 == 2) ∧
  (∀ (s : State),
    Quiet s →
    s.rd F.SUMP_LWDOG_STAT_RUN 0 = 1 →
    s.boot.flash = none ∧ s.secDefer = none →
    (∀ v ∈ List.range 17, (s.view v).handed = s.rd F.MGMT_VIEW_PTR_RSP_TX v ∧ (s.view v).q3 = []) →
    Reports .lanternWatchdog s [(F.SUMP_LWDOG_STAT_EXP, 0, min (s.rd F.SUMP_LWDOG_STAT_EXP 0 + 1) 0xFF),
      (F.GLB_RST_CAUSE_LAN_WDOG, 0, 1), (F.MGMT_STAT_LRUN, 0, 0), (F.MGMT_SEC_STAT_SPDM, 0, 0), (F.SUMP_LWDOG_STAT_RUN,
      0, 0), (F.MGMT_SEC_STAT_SEC_HOLD, 0, 0), (F.MGMT_STAT_BUS_MODE, 0, 0), (F.MGMT_BUS_STAT_DA_VALID, 0, 0),
      (F.MGMT_BUS_STAT_DYN_ADDR, 0, 0), (F.MGMT_STAT_SMB_PEND, 0, 0)] [.boot, .snaps, .spdm, .bus] [⟨10, 0, 0, false⟩]
      [] fun t => t.boot.lantern = some s.drip ∧ t.boot.wdog = true) ∧
  (∀ (s : State),
    Quiet s →
    s.rd F.SUMP_LWDOG_STAT_RUN 0 ≠ 1 →
    Gives .lanternWatchdog s [] [] [] anyState) ∧
  (∀ (s : State) (d : Nat),
    Quiet s →
    s.boot.lantern = some d ∧ s.boot.newFw = false →
    (s.boot.flash.all fun f => decide (16 ≤ flashFree f s.boot.area)) = true →
    (∀ v ∈ List.range 17, s.rd F.MGMT_VIEW_STAT_INPROG v ≠ 1) →
    Gives .lanternRestart s [(F.MGMT_STAT_LRUN, 0, 1), (F.SUMP_LWDOG_STAT_RUN, 0, 1), (F.SUMP_LWDOG_STAT_AGE, 0, 0),
      (F.BOOT_UPD_STAT_PSTATE, 0, 0), (F.BOOT_UPD_STAT_COMP, 0, 0)] [.lwTicks, .boot] [] fun t => t.lwTicks = 0 ∧ t.boot
      = { s.boot with lantern := none }) ∧
  (∀ (s : State),
    Quiet s →
    s.boot.lantern = none →
    Gives .lanternRestart s [] [] [] anyState)

/-- PORT_CTL.EN, PORT_CTL.CNT_CLR and PORT_BIND.TAG. Enabling a present port that start-up has not yet released sets
EN, wakes the lane-sides of powered quads from OFF to IDLE and changes nothing else; enabling a released port whose
settling has ended takes it to DETECT_QUIET; disabling one resets it, with RSTDONE 0 until the settling ends; a
write for an absent port, or of the value EN holds, changes nothing. CNT_CLR clears the link-down and training
counters of the port and nothing else. A write of TAG that changes it, while the port is not enabled, stores it and
counts in GEN, wrapping; one that does not change it has no effect; one of an enabled port is refused with
GLB_WERR.PORT. (R9, R12, R44, R106, R113, R114, R115, R119, R120.) -/
def Obligations.PortControlsAreWritten : Prop :=
  (∀ (s : State) (r : Requester) (n : Nat),
    CoreReady s r →
    n < 16 →
    s.present n = true ∧ s.rd F.PORT_CTL_EN n ≠ 1 ∧ (s.port n).released = false →
    (∀ ls ∈ s.portLs n, (s.lane ls).tx = false) →
    Gives (.portCtlEn r n true) s [(F.PORT_CTL_EN, n, 1)] (laneFields (s.portLs n) [F.LANE_RX_STAT_ASTATE,
      F.LANE_PRBS_STAT_LOCK]) [.writeAck] fun t => ∀ ls ∈ s.portLs n, t.astate ls = if s.astate ls = 0 ∧ bit (s.rd
      F.PWR_DOM_STAT_QGATED 0) (s.laneOfLs ls / 4) = false then 1 else s.astate ls) ∧
  (∀ (s : State) (r : Requester) (n : Nat),
    CoreReady s r →
    n < 16 →
    s.present n = true ∧ s.rd F.PORT_CTL_EN n ≠ 1 ∧ (s.port n).released = true →
    s.rd F.PORT_CFG_PERST_EN n ≠ 1 ∧ s.rd F.PORT_CFG_PRSNT_EN n ≠ 1 ∧ s.rd F.PORT_STAT_RSTDONE n = 1 ∧ s.ltssm n = 0x1F
      →
    (∀ ls ∈ s.portLs n, (s.lane ls).tx = false) →
    (s.port n).foundO = 0 ∧ (s.port n).foundI = 0 →
    Gives (.portCtlEn r n true) s [(F.PORT_CTL_EN, n, 1), (F.PORT_LINK_STAT_LTSSM, n, 0)] (detectParts s n) [.writeAck]
      fun t => (t.port n).reachedL0 = false) ∧
  (∀ (s : State) (r : Requester) (n : Nat),
    CoreReady s r →
    n < 16 →
    s.present n = true ∧ s.rd F.PORT_CTL_EN n = 1 →
    (s.port n).reachedL0 = false ∧ (s.port n).down = none →
    (∀ ls ∈ s.portLs n, (s.lane ls).tx = false) →
    (s.port n).foundO = 0 ∧ (s.port n).foundI = 0 →
    s.spareState 0 < 2 ∧ s.spareState 1 < 2 →
    Gives (.portCtlEn r n false) s [(F.PORT_CTL_EN, n, 0), (F.PORT_LINK_STAT_LTSSM, n, 0x1F), (F.PORT_STAT_RSTDONE, n,
      0)] (portResetParts s n) [.writeAck] fun t => ∀ ls ∈ s.portLs n, t.astate ls = 0) ∧
  (∀ (s : State) (r : Requester) (n : Nat) (en : Bool),
    CoreReady s r →
    n < 16 →
    (s.present n = false ∨ s.flag F.PORT_CTL_EN n = en) →
    Gives (.portCtlEn r n en) s [] [] [.writeAck] anyState) ∧
  (∀ (s : State) (r : Requester) (n : Nat),
    CoreReady s r →
    n < 16 →
    Gives (.portCtlCntClr r n) s [(F.PORT_LDN_CNT_WDOG, n, 0), (F.PORT_LDN_CNT_ATTR, n, 0), (F.PORT_LDN_CNT_ALL, n, 0),
      (F.PORT_TRN_CNT_RECOV, n, 0), (F.PORT_TRN_CNT_SPEED, n, 0), (F.PORT_TRN_CNT_EQ, n, 0)] [] [.writeAck] anyState) ∧
  (∀ (s : State) (r : Requester) (n tag : Nat),
    CoreReady s r →
    n < 16 ∧ tag < 2 ^ 16 →
    s.rd F.PORT_BIND_TAG n ≠ tag ∧ s.portEn n = false →
    Gives (.portBindTagWrite r n tag) s [(F.PORT_BIND_TAG, n, tag), (F.PORT_BIND_GEN, n, (s.rd F.PORT_BIND_GEN n + 1) %
      2 ^ 16)] [] [.writeAck] anyState) ∧
  (∀ (s : State) (r : Requester) (n tag : Nat),
    CoreReady s r →
    n < 16 ∧ tag < 2 ^ 16 →
    s.rd F.PORT_BIND_TAG n = tag →
    Gives (.portBindTagWrite r n tag) s [] [] [.writeAck] anyState) ∧
  (∀ (s : State) (r : Requester) (n tag : Nat),
    CoreReady s r →
    n < 16 ∧ tag < 2 ^ 16 →
    s.rd F.PORT_BIND_TAG n ≠ tag ∧ s.portEn n = true →
    s.werrAny = true →
    Gives (.portBindTagWrite r n tag) s [(F.GLB_WERR_PORT, 0, 1)] [] [.writeAck] fun t => t.refusedNow = true)

/-- PORT_CTL.RST and the end of a port reset's settling. A port reset of an enabled port that has no link holds it in
RESET, or in PRESENCE_WAIT where its slot is empty, sets its bit of GLB_RST_CAUSE.PORT, clears its link-down record
and counts and RSTDONE, and touches nothing of any other port; one of a port with a link also records a link-down
with cause 2, counts it and reports PORT_DOWN (source 48). The end of the settling sets RSTDONE and drops what the
bucket cache holds; a port that nothing holds goes on to DETECT_QUIET, or to PRESENCE_WAIT where the slot is empty;
with RSTDONE set the event changes nothing. (R43, R44, R119, R415.) -/
def Obligations.PortResetsSettleTheirWork : Prop :=
  (∀ (s : State) (r : Requester) (n : Nat),
    CoreReady s r →
    n < 16 →
    s.portEn n = true →
    (s.port n).reachedL0 = false ∧ (s.port n).down = none →
    (∀ ls ∈ s.portLs n, (s.lane ls).tx = false) →
    (s.port n).foundO = 0 ∧ (s.port n).foundI = 0 →
    s.spareState 0 < 2 ∧ s.spareState 1 < 2 →
    s.rd F.GLB_RST_CAUSE_PORT 0 < 2 ^ 16 →
    Gives (.portCtlRst r n) s [(F.PORT_LINK_STAT_LTSSM, n, s.holdState n), (F.PORT_STAT_RSTDONE, n, 0),
      (F.PORT_LDN_LOG_CAUSE, n, 0), (F.PORT_LDN_CNT_ALL, n, 0), (F.PORT_LDN_CNT_ATTR, n, 0), (F.PORT_LDN_CNT_WDOG, n,
      0), (F.PORT_TRN_CNT_RECOV, n, 0), (F.PORT_TRN_CNT_SPEED, n, 0), (F.PORT_TRN_CNT_EQ, n, 0), (F.GLB_RST_CAUSE_PORT,
      0, setBit (s.rd F.GLB_RST_CAUSE_PORT 0) n)] (portResetParts s n) [.writeAck] anyState) ∧
  (∀ (s : State) (r : Requester) (n : Nat),
    CoreReady s r →
    n < 16 →
    s.portEn n = true →
    (s.port n).reachedL0 = true ∧ (s.port n).down = none ∧ (s.port n).noted = none ∧ (s.portHeld n) = false →
    (∀ ls ∈ s.portLs n, (s.lane ls).tx = false) →
    (s.port n).foundO = 0 ∧ (s.port n).foundI = 0 →
    s.spareState 0 < 2 ∧ s.spareState 1 < 2 →
    s.ltssm n < 32 →
    Reports (.portCtlRst r n) s [(F.PORT_LINK_STAT_LTSSM, n, s.holdState n), (F.PORT_STAT_RSTDONE, n, 0),
      (F.PORT_LDN_LOG_CAUSE, n, 2), (F.PORT_LDN_LOG_STATE, n, s.ltssm n), (F.PORT_LDN_CNT_ALL, n, 1)] (portResetParts s
      n) [⟨48, n, 2, false⟩] [.writeAck] fun t => (t.port n).reachedL0 = true) ∧
  (∀ (s : State) (n : Nat),
    Quiet s →
    n < 16 →
    s.rd F.PORT_STAT_RSTDONE n ≠ 1 ∧ s.mayRun n = false →
    (s.heat n).cache = [] ∧ (s.heat n).queue = [] →
    Gives (.portResetDone n) s [(F.PORT_STAT_RSTDONE, n, 1)] [.heat n] [] fun t => t.heat n =
      { s.heat n with wbq := [] }) ∧
  (∀ (s : State) (n : Nat),
    Quiet s →
    n < 16 →
    s.rd F.PORT_STAT_RSTDONE n ≠ 1 ∧ s.mayRun n = true ∧ s.slotEmpty n = true →
    (s.ltssm n = 0x1F ∨ s.ltssm n = 0x1D) →
    (s.heat n).cache = [] ∧ (s.heat n).queue = [] →
    Gives (.portResetDone n) s [(F.PORT_STAT_RSTDONE, n, 1), (F.PORT_LINK_STAT_LTSSM, n, 0x1D), (F.PORT_FLIT_STAT_FMT,
      n, 0)] [.heat n] [] anyState) ∧
  (∀ (s : State) (n : Nat),
    Quiet s →
    n < 16 →
    s.rd F.PORT_STAT_RSTDONE n ≠ 1 ∧ s.mayRun n = true ∧ s.slotEmpty n = false →
    (s.ltssm n = 0x1F ∨ s.ltssm n = 0x1D) →
    (s.heat n).cache = [] ∧ (s.heat n).queue = [] →
    (∀ ls ∈ s.portLs n, (s.lane ls).tx = false) →
    (s.port n).foundO = 0 ∧ (s.port n).foundI = 0 →
    Gives (.portResetDone n) s [(F.PORT_STAT_RSTDONE, n, 1), (F.PORT_LINK_STAT_LTSSM, n, 0)] (.heat n :: detectParts s
      n) [] anyState) ∧
  (∀ (s : State) (n : Nat),
    Quiet s →
    n < 16 →
    s.rd F.PORT_STAT_RSTDONE n = 1 →
    Gives (.portResetDone n) s [] [] [] anyState)

/-- PERST_Nn and PRSNT_Nn. A change of the filtered PERST_Nn level shows in PORT_HP_STAT.PERST and sets PERST_CHG, and
does no more while PORT_CFG.PERST_EN is 0; no change, no effect. An accepted presence level shows in PRSNT and sets
PRSNT_CHG, and does no more while PRSNT_EN is 0. A new level at the presence filter is remembered for it and changes
no register. With PERST_EN 1, PERST_Nn low resets a present port and holds it in RESET. (R106, R107, R120.) -/
def Obligations.PinsReachThePorts : Prop :=
  (∀ (s : State) (n : Nat),
    Quiet s →
    n < 16 →
    s.rd F.PORT_HP_STAT_PERST n ≠ 1 ∧ s.rd F.PORT_CFG_PERST_EN n ≠ 1 →
    Gives (.perstAssert n) s [(F.PORT_HP_STAT_PERST, n, 1), (F.PORT_HP_STAT_PERST_CHG, n, 1)] [] [] anyState) ∧
  (∀ (s : State) (n : Nat),
    Quiet s →
    n < 16 →
    s.portEn n = true ∧ s.rd F.PORT_HP_STAT_PERST n ≠ 1 ∧ s.rd F.PORT_CFG_PERST_EN n = 1 →
    (s.port n).reachedL0 = false ∧ (s.port n).down = none →
    (∀ ls ∈ s.portLs n, (s.lane ls).tx = false) →
    (s.port n).foundO = 0 ∧ (s.port n).foundI = 0 →
    s.spareState 0 < 2 ∧ s.spareState 1 < 2 →
    Gives (.perstAssert n) s [(F.PORT_HP_STAT_PERST, n, 1), (F.PORT_LINK_STAT_LTSSM, n, 0x1F), (F.PORT_STAT_RSTDONE, n,
      0), (F.PORT_HP_STAT_PERST_CHG, n, 0)] (portResetParts s n) [] anyState) ∧
  (∀ (s : State) (n : Nat),
    Quiet s →
    n < 16 →
    (s.rd F.PORT_HP_STAT_PERST n = 1 ∧ (s.rd F.PORT_CFG_PERST_EN n ≠ 1 ∨ s.portEn n = false)) →
    Gives (.perstRelease n) s [(F.PORT_HP_STAT_PERST, n, 0), (F.PORT_HP_STAT_PERST_CHG, n, 1)] [] [] anyState) ∧
  (∀ (s : State) (n : Nat),
    Quiet s →
    n < 16 →
    s.rd F.PORT_HP_STAT_PERST n ≠ 1 →
    Gives (.perstRelease n) s [] [] [] anyState) ∧
  (∀ (s : State) (n : Nat) (high : Bool),
    Quiet s →
    n < 16 →
    s.flag F.PORT_HP_STAT_PRSNT n = high ∧ s.rd F.PORT_CFG_PRSNT_EN n ≠ 1 →
    Gives (.presenceAccepted n high) s [(F.PORT_HP_STAT_PRSNT, n, b2n (!high)), (F.PORT_HP_STAT_PRSNT_CHG, n, 1)] [] []
      anyState) ∧
  (∀ (s : State) (n : Nat) (high : Bool),
    Quiet s →
    n < 16 →
    Gives (.prsntLevelChange n high) s [] [.port n] [] fun t => t.port n = { s.port n with prsntHigh := high })

/-- A quad reset. While every port with lanes in the quad is disabled or its PORT_LINK_STAT.LTSSM reads RESET or
PRESENCE_WAIT, QUAD_CTL.RST takes effect: it ends a calibration run, clears the run state of the quad's Phrase
engine and the live state of its data area, and returns the lane status of its eight lane-sides; no byte outside
that data area, no program bank and no configuration changes. While some such port is neither, the write is ignored
and sets GLB_WERR.QUAD, with its address and requester where it is the first refusal. (R42.) -/
def Obligations.QuadResetsWaitForTheirPorts : Prop :=
  (∀ (s : State) (r : Requester) (q : Nat),
    CoreReady s r →
    q < 8 →
    (∀ n ∈ s.quadPorts q, HeldPort s n) →
    Gives (.quadCtlRst r q) s [(F.PHR_STAT_RUN, q, 0), (F.PHR_STAT_HALTED, q, 0), (F.PHR_STAT_LAST_CYC, q, 0),
      (F.PWR_CAL_STAT_STATE, q, 0), (F.PWR_CAL_STAT_PEND, q, 0)] (.cal q :: (quadLs q).map .lane ++ laneFields (quadLs
      q) (Reg.LANE_RX_STAT.fields ++ Reg.LANE_RX_EQ.fields ++ Reg.LANE_EQ_STAT.fields ++ Reg.LANE_EB_STAT.fields ++
      Reg.LANE_PRBS_STAT.fields ++ Reg.LANE_SLICE_STAT.fields) ++ (List.range 0x2000).map fun k => .byte (0x106000 + q *
      0x8000 + k)) [.writeAck] fun t => (∀ k ∈ List.range 0x2000, t.rdByte (0x106000 + q * 0x8000 + k) = 0) ∧ ∀ ls ∈
      quadLs q, t.rd F.LANE_RX_STAT_CDR_LOCK ls = 0 ∧ t.astate ls = if s.astate ls = 0 then 0 else 1) ∧
  (∀ (s : State) (r : Requester) (q : Nat),
    CoreReady s r →
    q < 8 →
    (∃ n ∈ s.quadPorts q, ¬HeldPort s n) →
    s.werrAny = true →
    Gives (.quadCtlRst r q) s [(F.GLB_WERR_QUAD, 0, 1)] [] [.writeAck] fun t => t.refusedNow = true) ∧
  (∀ (s : State) (r : Requester) (q : Nat),
    CoreReady s r →
    q < 8 →
    (∃ n ∈ s.quadPorts q, ¬HeldPort s n) →
    s.werrAny = false →
    Gives (.quadCtlRst r q) s [(F.GLB_WERR_QUAD, 0, 1), (F.GLB_WERR_ADDR_ADDR, 0, 0x20000 + 0x2000 * q),
      (F.GLB_WERR_FREQ, 0, reqCode r), (F.GLB_WERR_ADDR_V, 0, 1)] [] [.writeAck] fun t => t.refusedNow = true)

/-- Lane counters, elastic buffers and the pattern checker. Writing CNT_CLR clears both counters of LANE_ERR_CNT of
the lane-side, and writing CLR of the pattern checker clears both its counters and SAT, from every state in which
the requester reaches the core domain; nothing else changes. A fill above HWM or below LWM sets the sticky flag and
no fill clears one; a SKP ordered set takes a unit out above 36 and adds one below 28; a fill of 0 or 64 re-centres
the buffer to 32, counts EB_ERR up to its maximum and reports LANE_EB (source 36) of the lane-side. The checker
locks where it is enabled with its owner disabled on a pattern the rate allows. The loss of lock ends it, and with
it the bits since the last boundary are counted: errors up to 2^32 - 1, bits up to 2^48 - 1 with SAT set there; bits
seen while unlocked are not counted. (R58, R59, R60, R68, R69, R80.) -/
def Obligations.LaneCountersFollowTheirEvents : Prop :=
  (∀ (s : State) (r : Requester) (ls : Nat),
    CoreReady s r →
    ls < 66 →
    Gives (.laneRxCtlCntClr r ls) s [(F.LANE_ERR_CNT_LOCK_LOSS, ls, 0), (F.LANE_ERR_CNT_EB_ERR, ls, 0)] [] [.writeAck]
      anyState) ∧
  (∀ (s : State) (r : Requester) (ls : Nat),
    CoreReady s r →
    ls < 66 →
    Gives (.lanePrbsCtlClr r ls) s [(F.LANE_PRBS_ERR_ERR, ls, 0), (F.LANE_PRBS_BITS_LO_BITS_LO, ls, 0),
      (F.LANE_PRBS_BITS_HI_BITS_HI, ls, 0), (F.LANE_PRBS_STAT_SAT, ls, 0)] [] [.writeAck] anyState) ∧
  (∀ (s : State) (ls fill : Nat),
    Quiet s →
    ls < 66 →
    fill ≤ 64 →
    Gives (.ebWatermarkCrossing ls fill) s [(F.LANE_EB_STAT_FILL, ls, fill), (F.LANE_EB_STAT_HWM, ls, if s.rd
      F.LANE_EB_CFG_HWM ls < fill then 1 else s.rd F.LANE_EB_STAT_HWM ls), (F.LANE_EB_STAT_LWM, ls, if fill < s.rd
      F.LANE_EB_CFG_LWM ls then 1 else s.rd F.LANE_EB_STAT_LWM ls)] [] [] anyState) ∧
  (∀ (s : State) (ls fill unit : Nat),
    Quiet s →
    ls < 66 →
    36 < fill ∧ fill ≤ 64 →
    0 < unit ∧ unit ≤ 64 →
    Gives (.skpOrderedSet ls fill unit) s [(F.LANE_EB_STAT_FILL, ls, fill - unit), (F.LANE_EB_STAT_HWM, ls, if s.rd
      F.LANE_EB_CFG_HWM ls < fill then 1 else s.rd F.LANE_EB_STAT_HWM ls), (F.LANE_EB_STAT_LWM, ls, if fill < s.rd
      F.LANE_EB_CFG_LWM ls then 1 else s.rd F.LANE_EB_STAT_LWM ls)] [] [.skp ls (-(unit : Int))] anyState) ∧
  (∀ (s : State) (ls fill unit : Nat),
    Quiet s →
    ls < 66 →
    fill < 28 →
    0 < unit ∧ unit ≤ 64 →
    Gives (.skpOrderedSet ls fill unit) s [(F.LANE_EB_STAT_FILL, ls, min (fill + unit) 64), (F.LANE_EB_STAT_HWM, ls, if
      s.rd F.LANE_EB_CFG_HWM ls < fill then 1 else s.rd F.LANE_EB_STAT_HWM ls), (F.LANE_EB_STAT_LWM, ls, if fill < s.rd
      F.LANE_EB_CFG_LWM ls then 1 else s.rd F.LANE_EB_STAT_LWM ls)] [] [.skp ls unit] anyState) ∧
  (∀ (s : State) (ls fill unit : Nat),
    Quiet s →
    ls < 66 →
    28 ≤ fill ∧ fill ≤ 36 →
    0 < unit ∧ unit ≤ 64 →
    Gives (.skpOrderedSet ls fill unit) s [(F.LANE_EB_STAT_FILL, ls, fill), (F.LANE_EB_STAT_HWM, ls, if s.rd
      F.LANE_EB_CFG_HWM ls < fill then 1 else s.rd F.LANE_EB_STAT_HWM ls), (F.LANE_EB_STAT_LWM, ls, if fill < s.rd
      F.LANE_EB_CFG_LWM ls then 1 else s.rd F.LANE_EB_STAT_LWM ls)] [] [] anyState) ∧
  (∀ (s : State) (ls : Nat) (full : Bool),
    Quiet s →
    ls < 66 →
    Reports (.elasticBufferError ls full) s [(F.LANE_EB_STAT_FILL, ls, 32), (F.LANE_ERR_CNT_EB_ERR, ls, min (s.rd
      F.LANE_ERR_CNT_EB_ERR ls + 1) 0xFFFF), (F.LANE_EB_STAT_HWM, ls, if full = true ∧ s.rd F.LANE_EB_CFG_HWM ls < 64
      then 1 else s.rd F.LANE_EB_STAT_HWM ls), (F.LANE_EB_STAT_LWM, ls, if (if full = true then 64 else 0) < s.rd
      F.LANE_EB_CFG_LWM ls then 1 else s.rd F.LANE_EB_STAT_LWM ls)] [] [⟨36, ls, 0, false⟩] [] anyState) ∧
  (∀ (s : State) (ls : Nat),
    Quiet s →
    ls < 66 →
    Gives (.prbsLock ls) s [(F.LANE_PRBS_STAT_LOCK, ls, if s.prbsCan ls = true then 1 else s.rd F.LANE_PRBS_STAT_LOCK
      ls)] [] [] anyState) ∧
  (∀ (s : State) (ls bits errs : Nat),
    Quiet s →
    ls < 66 →
    errs ≤ bits →
    s.rd F.LANE_PRBS_STAT_LOCK ls = 1 ∧ s.prbsCan ls = true →
    Gives (.prbsLockLoss ls bits errs) s [(F.LANE_PRBS_STAT_LOCK, ls, 0), (F.LANE_PRBS_ERR_ERR, ls, min (s.rd
      F.LANE_PRBS_ERR_ERR ls + errs) (2 ^ 32 - 1)), (F.LANE_PRBS_BITS_LO_BITS_LO, ls, min (s.rd
      F.LANE_PRBS_BITS_LO_BITS_LO ls + 2 ^ 32 * s.rd F.LANE_PRBS_BITS_HI_BITS_HI ls + bits) (2 ^ 48 - 1) % 2 ^ 32),
      (F.LANE_PRBS_BITS_HI_BITS_HI, ls, min (s.rd F.LANE_PRBS_BITS_LO_BITS_LO ls + 2 ^ 32 * s.rd
      F.LANE_PRBS_BITS_HI_BITS_HI ls + bits) (2 ^ 48 - 1) / 2 ^ 32), (F.LANE_PRBS_STAT_SAT, ls, if 2 ^ 48 - 1 ≤ s.rd
      F.LANE_PRBS_BITS_LO_BITS_LO ls + 2 ^ 32 * s.rd F.LANE_PRBS_BITS_HI_BITS_HI ls + bits then 1 else s.rd
      F.LANE_PRBS_STAT_SAT ls)] [] [] anyState) ∧
  (∀ (s : State) (ls bits errs : Nat),
    Quiet s →
    ls < 66 →
    errs ≤ bits →
    (s.rd F.LANE_PRBS_STAT_LOCK ls ≠ 1 ∨ s.prbsCan ls = false) →
    Gives (.prbsLockLoss ls bits errs) s [(F.LANE_PRBS_STAT_LOCK, ls, 0)] [] [] anyState)

/-- Events and controls move the adaptation state of a receiver. FREEZE written 1 holds a lane-side in TRACK or ADAPT
in FROZEN and leaves the state elsewhere; FREEZE written 0 returns a FROZEN lane-side to TRACK where no margining
step holds it; RESTART sends LOCKED, ADAPT, TRACK and FROZEN to LOCKED with the converged values discarded for the
starting ones, and does nothing in any other state. Signal detect, where the receiver hears its pads, takes IDLE to
ACQUIRE and shows in SIGDET, and the end of electrical idle is forwarded to the other side where the port forwards
and sends there; CDR lock takes ACQUIRE to LOCKED (and on to ADAPT or FROZEN where the port's state enables
adaptation), with the starting values where none are kept, and RELOCK to TRACK, or to FROZEN while FREEZE is 1; loss
of signal returns every state but OFF to IDLE; convergence takes ADAPT to TRACK with the values found, CTLE capped
by CTLE_MAX and by 36 and the DFE tap 0 while the DFE is off; loss of lock takes TRACK and FROZEN to RELOCK,
counted; a relock timeout takes RELOCK to ACQUIRE. In each case nothing else changes. (R50, R51, R77, R85, R111.) -/
def Obligations.ReceiversAreMovedAndHeld : Prop :=
  (∀ (s : State) (r : Requester) (ls : Nat),
    CoreReady s r →
    ls < 66 →
    Gives (.laneRxCtlFreeze r ls true) s [(F.LANE_RX_CTL_FREEZE, ls, 1), (F.LANE_RX_STAT_ASTATE, ls, if s.astate ls = 5
      ∨ s.astate ls = 4 then 6 else s.astate ls)] [] [.writeAck] anyState) ∧
  (∀ (s : State) (r : Requester) (ls : Nat),
    CoreReady s r →
    ls < 66 →
    Gives (.laneRxCtlFreeze r ls false) s [(F.LANE_RX_CTL_FREEZE, ls, 0), (F.LANE_RX_STAT_ASTATE, ls, if s.astate ls = 6
      ∧ s.rd F.LANE_SLICE_STAT_MARG ls ≠ 1 then 5 else s.astate ls)] [] [.writeAck] anyState) ∧
  (∀ (s : State) (r : Requester) (ls : Nat),
    CoreReady s r →
    ls < 66 →
    (s.astate ls = 0 ∨ s.astate ls = 1 ∨ s.astate ls = 2 ∨ s.astate ls = 7) →
    Gives (.laneRxCtlRestart r ls) s [] [] [.writeAck] anyState) ∧
  (∀ (s : State) (r : Requester) (ls : Nat),
    CoreReady s r →
    ls < 66 →
    3 ≤ s.astate ls ∧ s.astate ls ≤ 6 →
    s.flag F.LANE_SLICE_STAT_MARG ls = false →
    Gives (.laneRxCtlRestart r ls) s ((F.LANE_RX_STAT_ASTATE, ls, 3) :: startVals s ls) [.lane ls] [.writeAck] fun t =>
      t.lane ls = { s.lane ls with converged := false, marginReq := false }) ∧
  (∀ (s : State) (ls : Nat),
    Quiet s →
    ls < 66 →
    s.astate ls = 1 →
    s.hears ls true = true →
    (∀ n, s.portOfLs ls = some n → forwards (s.ltssm n) = false) →
    Gives (.signalDetect ls) s [(F.LANE_RX_STAT_ASTATE, ls, 2), (F.LANE_RX_STAT_SIGDET, ls, 1)] [] [] anyState) ∧
  (∀ (s : State) (ls : Nat),
    Quiet s →
    ls < 66 →
    1 < s.astate ls ∧ s.hears ls true = true →
    Gives (.signalDetect ls) s [(F.LANE_RX_STAT_SIGDET, ls, 1)] [] [] anyState) ∧
  (∀ (s : State) (ls : Nat),
    Quiet s →
    ls < 66 →
    (s.astate ls = 0 ∨ s.hears ls true = false) →
    Gives (.signalDetect ls) s [] [] [] anyState) ∧
  (∀ (s : State) (ls n : Nat),
    Quiet s →
    ls < 66 →
    s.astate ls = 1 →
    s.portOfLs ls = some n →
    s.hears ls true = true →
    forwards (s.ltssm n) = true →
    s.oppositeLs ls ∈ s.sendLs n (decide (32 ≤ s.oppositeLs ls)) →
    (s.lane (s.oppositeLs ls)).tx = false →
    Gives (.signalDetect ls) s [(F.LANE_RX_STAT_ASTATE, ls, 2), (F.LANE_RX_STAT_SIGDET, ls, 1)] [.lane (s.oppositeLs
      ls)] [.txIdle (s.oppositeLs ls) false] fun t => t.lane (s.oppositeLs ls) =
      { s.lane (s.oppositeLs ls) with tx := true }) ∧
  (∀ (s : State) (ls : Nat),
    Quiet s →
    ls < 66 →
    s.astate ls = 2 →
    s.adaptEnabled ls = false →
    ls < 32 →
    Gives (.cdrLock ls) s ([(F.LANE_RX_STAT_ASTATE, ls, 3), (F.LANE_RX_STAT_CDR_LOCK, ls, 1)] ++ if (s.lane
      ls).converged = true then [] else startVals s ls) [] [] anyState) ∧
  (∀ (s : State) (ls n : Nat),
    Quiet s →
    ls < 32 →
    s.astate ls = 2 →
    s.portOfLs ls = some n →
    adaptState (s.ltssm n) = true →
    Gives (.cdrLock ls) s ([(F.LANE_RX_STAT_ASTATE, ls, if s.rd F.LANE_RX_CTL_FREEZE ls = 1 then 6 else 4),
      (F.LANE_RX_STAT_CDR_LOCK, ls, 1)] ++ if (s.lane ls).converged = true then [] else startVals s ls) [] [] anyState)
      ∧
  (∀ (s : State) (ls : Nat),
    Quiet s →
    ls < 32 →
    s.astate ls = 7 →
    Gives (.cdrLock ls) s [(F.LANE_RX_STAT_ASTATE, ls, if s.rd F.LANE_RX_CTL_FREEZE ls = 1 then 6 else 5),
      (F.LANE_RX_STAT_CDR_LOCK, ls, 1), (F.LANE_RX_CTL_FREEZE, ls, if s.rd F.LANE_RX_CTL_FREEZE ls = 1 then 1 else 0)]
      [] [] anyState) ∧
  (∀ (s : State) (ls : Nat),
    Quiet s →
    ls < 66 →
    s.astate ls ≠ 0 ∧ s.hears ls false = true →
    s.flag F.LANE_SLICE_STAT_MARG ls = false →
    (∀ n, s.portOfLs ls = some n → forwards (s.ltssm n) = false) →
    Gives (.lossOfSignal ls) s [(F.LANE_RX_STAT_ASTATE, ls, 1), (F.LANE_RX_STAT_CDR_LOCK, ls, 0),
      (F.LANE_RX_STAT_SIGDET, ls, 0)] [.lane ls] [] fun t => t.lane ls = { s.lane ls with marginReq := false }) ∧
  (∀ (s : State) (ls n : Nat),
    Quiet s →
    ls < 66 →
    s.astate ls ≠ 0 ∧ s.hears ls false = true →
    s.flag F.LANE_SLICE_STAT_MARG ls = false →
    s.portOfLs ls = some n →
    forwards (s.ltssm n) = true →
    s.oppositeLs ls ≠ ls →
    (s.lane (s.oppositeLs ls)).tx = true →
    Gives (.lossOfSignal ls) s [(F.LANE_RX_STAT_ASTATE, ls, 1), (F.LANE_RX_STAT_CDR_LOCK, ls, 0),
      (F.LANE_RX_STAT_SIGDET, ls, 0)] [.lane ls, .lane (s.oppositeLs ls)] [.txIdle (s.oppositeLs ls) true] fun t =>
      (t.lane (s.oppositeLs ls)).tx = false) ∧
  (∀ (s : State) (ls ctle dfe1 m1 p1 : Nat),
    Quiet s →
    ls < 66 →
    ctle < 64 ∧ dfe1 < 64 ∧ m1 < 64 ∧ p1 < 64 →
    s.astate ls = 4 →
    Gives (.adaptConverged ls ctle dfe1 m1 p1) s [(F.LANE_RX_EQ_CTLE, ls, min ctle (min (s.rd F.LANE_RX_CTL_CTLE_MAX ls)
      36)), (F.LANE_RX_EQ_DFE1, ls, if s.rd F.LANE_RX_CTL_DFE_EN ls = 1 then dfe1 else 0), (F.LANE_RX_EQ_FFE_M1, ls,
      m1), (F.LANE_RX_EQ_FFE_P1, ls, p1), (F.LANE_RX_STAT_ASTATE, ls, 5)] [.lane ls] [] fun t => t.lane ls =
      { s.lane ls with converged := true }) ∧
  (∀ (s : State) (ls : Nat),
    Quiet s →
    ls < 66 →
    (s.astate ls = 5 ∨ s.astate ls = 6) →
    s.flag F.LANE_SLICE_STAT_MARG ls = false →
    Gives (.lossOfLock ls) s [(F.LANE_RX_STAT_ASTATE, ls, 7), (F.LANE_RX_STAT_CDR_LOCK, ls, 0),
      (F.LANE_ERR_CNT_LOCK_LOSS, ls, min (s.rd F.LANE_ERR_CNT_LOCK_LOSS ls + 1) 0xFFFF)] [.lane ls] [] fun t => t.lane
      ls = { s.lane ls with marginReq := false, relocks := (s.lane ls).relocks + 1 }) ∧
  (∀ (s : State) (ls : Nat),
    Quiet s →
    ls < 66 →
    s.flag F.LANE_SLICE_STAT_MARG ls = true →
    s.astate ls = 6 →
    Gives (.lossOfLock ls) s [(F.LANE_RX_STAT_ASTATE, ls, 7), (F.LANE_RX_STAT_CDR_LOCK, ls, 0), (F.LANE_SLICE_STAT_MARG,
      ls, 0), (F.LANE_SLICE_STAT_CALSLICE, ls, 0x7F), (F.LANE_ERR_CNT_LOCK_LOSS, ls, min (s.rd F.LANE_ERR_CNT_LOCK_LOSS
      ls + 1) 0xFFFF)] [.lane ls] [] anyState) ∧
  (∀ (s : State) (ls : Nat),
    Quiet s →
    ls < 66 →
    Gives (.relockTimeout ls) s [(F.LANE_RX_STAT_ASTATE, ls, if s.astate ls = 7 then 2 else s.astate ls)] [] []
      anyState)

/-- Lane Margining commands are answered, forwarded and set up. A command for another receiver, and a response, is
forwarded unchanged; one for a receiver of the device is answered not supported where MARG_EN is 0 or the rate is
below 16 GT/s, not ready outside L0, in L0 with the parameter it asks for, not ready for a step of a lane-side whose
calibration has stopped or whose lane L0p has turned off, and ready otherwise, where a step is accepted and its end
frees the spare slice and returns the lane-side from FROZEN to TRACK; the set-up of an accepted step moves the spare
slice to the margin offset and holds a lane-side that has lock in FROZEN, unless the phrase of its quad has overrun
in this drip or is halted. Which Receiver Numbers name the device's receivers rests on log entry 11 (PRESUMED).
(R66, R88, R104, R105.) -/
def Obligations.MarginingHoldsTheLane : Prop :=
  (∀ (s : State) (n lane rxnum : Nat) (ask : MarginAsk),
    Quiet s →
    n < 16 ∧ lane < 32 ∧ rxnum < 8 →
    (s.marginSide n rxnum = none ∨ ask = .response) →
    Gives (.marginCommand n lane rxnum ask) s [] [] [.marginFwd n lane rxnum ask] anyState) ∧
  (∀ (s : State) (n lane rxnum : Nat) (inner : Bool) (ask : MarginAsk),
    Quiet s →
    n < 16 ∧ lane < 32 ∧ rxnum < 8 →
    s.marginSide n rxnum = some inner →
    (s.portLanes n).contains lane = true →
    s.rd F.PORT_LINK_STAT_XS_RTMR n ≠ 1 →
    (s.rd F.PORT_CFG_MARG_EN n ≠ 1 ∨ s.rate n < 3) →
    ask ≠ .response →
    Gives (.marginCommand n lane rxnum ask) s [] [] [.margin n lane rxnum 2] anyState) ∧
  (∀ (s : State) (n lane rxnum : Nat) (inner : Bool) (ask : MarginAsk),
    Quiet s →
    n < 16 ∧ lane < 32 ∧ rxnum < 8 →
    s.marginSide n rxnum = some inner →
    (s.portLanes n).contains lane = true →
    s.rd F.PORT_LINK_STAT_XS_RTMR n ≠ 1 →
    s.rd F.PORT_CFG_MARG_EN n = 1 ∧ 3 ≤ s.rate n →
    s.ltssm n ≠ 8 →
    ask ≠ .response →
    Gives (.marginCommand n lane rxnum ask) s [] [] [.margin n lane rxnum 1] anyState) ∧
  (∀ (s : State) (n lane rxnum : Nat) (inner : Bool) (p : MarginParam),
    Quiet s →
    n < 16 ∧ lane < 32 ∧ rxnum < 8 →
    s.marginSide n rxnum = some inner →
    (s.portLanes n).contains lane = true →
    s.rd F.PORT_LINK_STAT_XS_RTMR n ≠ 1 →
    s.rd F.PORT_CFG_MARG_EN n = 1 ∧ 3 ≤ s.rate n →
    s.ltssm n = 8 →
    Gives (.marginCommand n lane rxnum (.report p)) s [] [] [.marginReport n lane rxnum p (marginValue (s.rate n) p)]
      anyState) ∧
  (∀ (s : State) (n lane rxnum ls : Nat) (inner : Bool),
    Quiet s →
    n < 16 ∧ lane < 32 ∧ rxnum < 8 →
    s.marginSide n rxnum = some inner →
    (s.portLanes n).contains lane = true →
    s.rd F.PORT_LINK_STAT_XS_RTMR n ≠ 1 →
    s.rd F.PORT_CFG_MARG_EN n = 1 ∧ 3 ≤ s.rate n →
    s.ltssm n = 8 →
    (ls = if inner then s.innerOf lane else outerLs lane) →
    (s.rd F.LANE_SLICE_STAT_CALSTOP ls = 1 ∨ s.laneOffL0p n lane = true) →
    Gives (.marginCommand n lane rxnum .step) s [] [] [.margin n lane rxnum 1] anyState) ∧
  (∀ (s : State) (n lane rxnum ls : Nat) (inner : Bool),
    Quiet s →
    n < 16 ∧ lane < 32 ∧ rxnum < 8 →
    s.marginSide n rxnum = some inner →
    (s.portLanes n).contains lane = true →
    s.rd F.PORT_LINK_STAT_XS_RTMR n ≠ 1 →
    s.rd F.PORT_CFG_MARG_EN n = 1 ∧ 3 ≤ s.rate n →
    s.ltssm n = 8 →
    (ls = if inner then s.innerOf lane else outerLs lane) →
    s.rd F.LANE_SLICE_STAT_CALSTOP ls ≠ 1 →
    s.laneOffL0p n lane = false →
    Gives (.marginCommand n lane rxnum .step) s [] [.lane ls] [.margin n lane rxnum 0] fun t => t.lane ls =
      { s.lane ls with marginReq := true }) ∧
  (∀ (s : State) (n lane rxnum ls : Nat) (inner : Bool),
    Quiet s →
    n < 16 ∧ lane < 32 ∧ rxnum < 8 →
    s.marginSide n rxnum = some inner →
    (s.portLanes n).contains lane = true →
    s.rd F.PORT_LINK_STAT_XS_RTMR n ≠ 1 →
    s.rd F.PORT_CFG_MARG_EN n = 1 ∧ 3 ≤ s.rate n →
    s.ltssm n = 8 →
    (ls = if inner then s.innerOf lane else outerLs lane) →
    s.rd F.LANE_SLICE_STAT_CALSTOP ls ≠ 1 →
    s.laneOffL0p n lane = false →
    s.rd F.LANE_SLICE_STAT_MARG ls = 1 →
    s.astate ls = 6 ∧ s.rd F.LANE_RX_CTL_FREEZE ls ≠ 1 →
    Gives (.marginCommand n lane rxnum .stop) s [(F.LANE_SLICE_STAT_MARG, ls, 0), (F.LANE_SLICE_STAT_CALSLICE, ls,
      0x7F), (F.LANE_RX_STAT_ASTATE, ls, 5)] [.lane ls] [.margin n lane rxnum 0] anyState) ∧
  (∀ (s : State) (ls n : Nat),
    Quiet s →
    ls < 66 →
    s.portOfLs ls = some n →
    (s.lane ls).marginReq = true →
    s.ltssm n = 8 →
    s.rd F.LANE_SLICE_STAT_CALSLICE ls = 0x7F →
    s.rd F.LANE_SLICE_STAT_CALSTOP ls ≠ 1 →
    ((s.astate ls = 4 ∨ s.astate ls = 5 ∨ s.astate ls = 6) ∧ s.phraseLate ls = false) →
    Gives (.marginStepSetup ls) s [(F.LANE_SLICE_STAT_MARG, ls, 1), (F.LANE_SLICE_STAT_CALSLICE, ls, if s.rd
      F.LANE_SLICE_STAT_SUB1 ls = 0x7F ∧ (s.lane ls).badSlices.contains 65 = false then 65 else 64),
      (F.LANE_RX_STAT_ASTATE, ls, 6)] [.lane ls] [] fun t => t.lane ls = { s.lane ls with marginReq := false })

/-- Phrase engines: enable, watchdog, protected memory. Writing PHR_CTL.EN 1 ends a halt, and 0 stops the engine;
PHR_WDOG.CLR clears both counts; a phrase that still runs at cycle 900 is counted, raises MAX_CYC to 900, reports
source 37 of the quad and, with WD_HALT, halts the engine; a management write to the active bank or the data area of
an enabled engine is refused and changes no byte, and any other write stores its four bytes and makes a written bank
invalid. (R71, R72, R83.) -/
def Obligations.PhraseEngineRunsAndStops : Prop :=
  (∀ (s : State) (r : Requester) (q : Nat) (en : Bool),
    CoreReady s r →
    q < 8 →
    Gives (.phrCtlEn r q en) s [(F.PHR_CTL_EN, q, b2n en), (F.PHR_STAT_HALTED, q, if en = true then 0 else s.rd
      F.PHR_STAT_HALTED q), (F.PHR_STAT_RUN, q, if en = true then s.rd F.PHR_STAT_RUN q else 0)] [] [.writeAck]
      anyState) ∧
  (∀ (s : State) (r : Requester) (q : Nat),
    CoreReady s r →
    q < 8 →
    Gives (.phrWdogClr r q) s [(F.PHR_WDOG_OVR_CNT, q, 0), (F.PHR_WDOG_MAX_CYC, q, 0)] [] [.writeAck] anyState) ∧
  (∀ (s : State) (q : Nat),
    Quiet s →
    q < 8 →
    s.rd F.PHR_STAT_RUN q = 1 →
    Reports (.phraseOverrun q) s [(F.PHR_WDOG_OVR_CNT, q, min (s.rd F.PHR_WDOG_OVR_CNT q + 1) 0xFFFF),
      (F.PHR_STAT_LAST_CYC, q, 900), (F.PHR_WDOG_MAX_CYC, q, max (s.rd F.PHR_WDOG_MAX_CYC q) 900 % 1024),
      (F.PHR_STAT_HALTED, q, if s.rd F.PHR_CTL_WD_HALT q = 1 then 1 else s.rd F.PHR_STAT_HALTED q), (F.PHR_STAT_RUN, q,
      if s.rd F.PHR_CTL_WD_HALT q = 1 then 0 else 1)] [.cal q] [⟨37, q, 0, false⟩] [] fun t => t.cal q =
      { s.cal q with overrun := true }) ∧
  (∀ (s : State) (r : Requester) (addr val q region : Nat),
    CoreReady s r →
    0x100000 ≤ addr ∧ addr < 0x140000 ∧ addr % 4 = 0 →
    val < 2 ^ 32 →
    q = phrQuad addr ∧ region = phrPart addr →
    (¬(s.rd F.PHR_CTL_EN q = 1 ∧ (region = 2 ∨ region = s.rd F.PHR_STAT_ACT q))) →
    Gives (.phraseMemoryWrite r addr val) s [(F.PHR_STAT_VALID_A, q, if region = 0 then 0 else s.rd F.PHR_STAT_VALID_A
      q), (F.PHR_ID_ID_A, q, if region = 0 then 0 else s.rd F.PHR_ID_ID_A q), (F.PHR_STAT_VALID_B, q, if region = 1 then
      0 else s.rd F.PHR_STAT_VALID_B q), (F.PHR_ID_ID_B, q, if region = 1 then 0 else s.rd F.PHR_ID_ID_B q)] [.byte
      addr, .byte (addr + 1), .byte (addr + 2), .byte (addr + 3)] [.writeAck] fun t => t.rdWord32 addr = val) ∧
  (∀ (s : State) (r : Requester) (addr val q region : Nat),
    CoreReady s r →
    0x100000 ≤ addr ∧ addr < 0x140000 ∧ addr % 4 = 0 →
    val < 2 ^ 32 →
    q = phrQuad addr ∧ region = phrPart addr →
    (s.rd F.PHR_CTL_EN q = 1 ∧ (region = 2 ∨ region = s.rd F.PHR_STAT_ACT q)) →
    s.werrAny = true →
    Gives (.phraseMemoryWrite r addr val) s [(F.GLB_WERR_QUAD, 0, 1)] [] [.writeAck] fun t => t.refusedNow = true)

/-- Receiver detection and training sets. Receiver detection adds the lanes found and switches on the terminations
opposite to new receivers, and takes DETECT_QUIET to DETECT_ACTIVE. A training set of the port's own state is
forwarded on the other side, its rates limited to MAX_RATE; one of POLLING_CONFIG is entered from POLLING_ACTIVE
with polarities learned; one of L0 enters L0 and ends the loss; one of POLLING_COMPLIANCE gives every lane-side of
the port its rate and de-emphasis; one of RECOV_SPEED moves every lane-side of an unassociated port to the new rate,
counting a change. A port that does not follow ignores training sets. Idle in L1, its exit, and a retrain act in
their states alone; a retrain enters RECOV_LOCK, counts it and sends TS1 on both sides. (R85, R86, R89, R90, R95,
R96, R97, R101, R108, R112.) -/
def Obligations.TrainingSetsAreFollowed : Prop :=
  (∀ (s : State) (n o i : Nat) (outer inner : List Nat),
    Quiet s →
    (n < 16 ∧ (∀ k ∈ outer, k < 16) ∧ ∀ k ∈ inner, k < 16) →
    s.ltssm n ≤ 1 ∧ s.portClocked n = true ∧ s.safe = false ∧ s.flag F.SUMP_QSTOP_STAT_QUIESCED 0 = false ∧ (s.port
      n).detectRetries ≤ 12 →
    s.spareState 0 < 4 ∧ s.spareState 1 < 4 →
    o = (s.port n).foundO ||| offBits outer (s.width n) ∧ i = (s.port n).foundI ||| offBits inner (s.width n) →
    Gives (.detectRetry n outer inner) s [(F.PORT_LINK_STAT_LTSSM, n, 1)] [.port n, .fld F.PORT_FLIT_STAT_FMT n]
      (newTerms s n o i) fun t => t.port n =
      { s.port n with
        foundO := o, foundI := i, detectRetries := if o &&& i = 0 then 0 else (s.port n).detectRetries + 1 }) ∧
  (∀ (s : State) (n : Nat) (outer inner : List Nat),
    Quiet s →
    (n < 16 ∧ (∀ k ∈ outer, k < 16) ∧ ∀ k ∈ inner, k < 16) →
    1 < s.ltssm n →
    Gives (.detectRetry n outer inner) s [] [] [] anyState) ∧
  (∀ (s : State) (n : Nat) (ts : TrainSet),
    Quiet s →
    n < 16 ∧ ts.wf = true →
    s.follows n = false →
    Gives (.trainingSet n ts) s [] [] [] anyState) ∧
  (∀ (s : State) (n : Nat) (ts : TrainSet),
    Quiet s →
    n < 16 ∧ ts.wf = true →
    s.follows n = true ∧ (s.port n).retraining = false ∧ (s.port n).attempt = .none →
    (ts.state = s.ltssm n ∧ ts.ts2 = false ∧ (ts.state = 8 ∨ ts.state = 0x10 ∨ ts.state = 0x12 ∨ ts.state = 0x16)) →
    (∀ ls ∈ s.sendLs n (!ts.inner), (s.lane ls).tx = true) →
    Gives (.trainingSet n ts) s [] [] [.trainSet n (!ts.inner) (s.sentSet n ts)] anyState) ∧
  (∀ (s : State) (n : Nat) (ts : TrainSet),
    Quiet s →
    n < 16 ∧ ts.wf = true →
    s.follows n = true ∧ (s.port n).retraining = false ∧ (s.port n).attempt = .none →
    s.ltssm n = 2 ∧ ts.state = 3 ∧ ts.ts2 = false →
    (∀ ls ∈ s.sendLs n (!ts.inner), (s.lane ls).tx = true) →
    (∀ ls ∈ s.portLs n, s.astate ls ≠ 3) →
    Gives (.trainingSet n ts) s [(F.PORT_LINK_STAT_LTSSM, n, 3)] (trainParts s n) [.trainSet n (!ts.inner) (s.sentSet n
      ts)] fun t => ∀ k ∈ List.range (s.width n), (t.rd F.LANE_RX_STAT_POL_DET (if ts.inner then s.innerOf (firstLane n
      + k) else outerLs (firstLane n + k)) = 1 ↔ k ∈ ts.inverted)) ∧
  (∀ (s : State) (n : Nat) (ts : TrainSet),
    Quiet s →
    n < 16 ∧ ts.wf = true →
    s.follows n = true ∧ (s.port n).retraining = false ∧ (s.port n).attempt = .none →
    s.ltssm n = 0x12 ∧ ts.state = 8 ∧ ts.ts2 = false →
    (∀ ls ∈ s.sendLs n (!ts.inner), (s.lane ls).tx = true) →
    Gives (.trainingSet n ts) s [(F.PORT_LINK_STAT_LTSSM, n, 8), (F.PORT_FLIT_STAT_FMT, n, (s.port n).fmt % 4)]
      (trainParts s n) [.trainSet n (!ts.inner) (s.sentSet n ts)] fun t => (t.port n).reachedL0 = true ∧ (t.port n).down
      = none ∧ (t.port n).noted = none) ∧
  (∀ (s : State) (n : Nat) (ts : TrainSet),
    Quiet s →
    n < 16 ∧ ts.wf = true →
    s.follows n = true ∧ (s.port n).retraining = false ∧ (s.port n).attempt = .none ∧ s.associated n = false →
    s.ltssm n = 0x11 ∧ ts.state = 0x13 ∧ ts.ts2 = false →
    (∀ ls ∈ s.portLs n, (s.lane ls).tx = false) →
    s.spareState 0 < 4 ∧ s.spareState 1 < 4 →
    Gives (.trainingSet n ts) s [(F.PORT_LINK_STAT_LTSSM, n, 0x13), (F.PORT_LINK_STAT_RATE, n, ts.rate),
      (F.PORT_TRN_CNT_SPEED, n, if s.rate n = ts.rate then s.rd F.PORT_TRN_CNT_SPEED n else min (s.rd
      F.PORT_TRN_CNT_SPEED n + 1) 0xFF)] (trainParts s n) [.trainSet n (!ts.inner) (s.sentSet n ts)] fun t => ∀ ls ∈
      s.portLs n, (t.lane ls).rate = ts.rate ∧ (t.lane ls).comp = false) ∧
  (∀ (s : State) (n : Nat) (ts : TrainSet),
    Quiet s →
    n < 16 ∧ ts.wf = true →
    s.follows n = true ∧ (s.port n).retraining = false ∧ (s.port n).attempt = .none →
    s.ltssm n = 4 ∧ ts.state = 4 ∧ ts.ts2 = false →
    (∀ ls ∈ s.sendLs n (!ts.inner), (s.lane ls).tx = true) →
    Gives (.trainingSet n ts) s [(F.PORT_LINK_STAT_RATE, n, ts.rate), (F.PORT_TRN_CNT_SPEED, n, if s.rate n = ts.rate
      then s.rd F.PORT_TRN_CNT_SPEED n else min (s.rd F.PORT_TRN_CNT_SPEED n + 1) 0xFF)] (trainParts s n) [.trainSet n
      (!ts.inner) (s.sentSet n ts)] fun t => ∀ ls ∈ s.portLs n, (t.lane ls).rate = ts.rate ∧ (t.lane ls).sixDb =
      ts.sixDb ∧ (s.flag F.LANE_TX_CTL_OVR ls = true → t.coefWord ls = s.coefWord ls)) ∧
  (∀ (s : State) (n : Nat),
    Quiet s →
    n < 16 ∧ s.ltssm n = 8 →
    NoStream s n →
    (∀ ls ∈ s.portLs n, (s.lane ls).tx = true ∧ (s.lane ls).marginReq = false ∧ s.flag F.LANE_SLICE_STAT_MARG ls =
      false) →
    Gives (.l1Entry n) s [(F.PORT_LINK_STAT_LTSSM, n, 0x0A), (F.PORT_FLIT_STAT_FMT, n, 0), (F.PORT_LINK_STAT_AWIDTH, n,
      s.rd F.PORT_LINK_STAT_WIDTH n % 32)] (.port n :: portLaneParts s n) ((s.portLs n).map fun ls => .txIdle ls true)
      fun t => ∀ ls ∈ s.portLs n, (t.lane ls).tx = false ∧ t.astate ls = (if s.astate ls = 0 then 0 else 1)) ∧
  (∀ (s : State) (n : Nat),
    Quiet s →
    n < 16 ∧ s.ltssm n ≠ 8 →
    Gives (.l1Entry n) s [] [] [] anyState) ∧
  (∀ (s : State) (n lane o : Nat) (inner : Bool),
    Quiet s →
    (n < 16 ∧ lane < 32 ∧ s.ltssm n = 0x0A ∧ o = (if inner then outerLs lane else s.innerOf lane)) →
    (s.sendLs n (!inner)).contains o = true ∧ (s.lane o).tx = false →
    Gives (.l1Exit n inner lane) s [] [.lane o] [.txIdle o false] fun t => t.lane o = { s.lane o with tx := true }) ∧
  (∀ (s : State) (n lane : Nat) (inner : Bool),
    Quiet s →
    (n < 16 ∧ lane < 32 ∧ (s.sendLs n (!inner)).contains (if inner then outerLs lane else s.innerOf lane) = false) →
    Gives (.l1Exit n inner lane) s [] [] [] anyState) ∧
  (∀ (s : State) (n lane : Nat) (inner : Bool),
    Quiet s →
    n < 16 ∧ lane < 32 ∧ s.ltssm n ≠ 0x0A →
    Gives (.l1Exit n inner lane) s [] [] [] anyState) ∧
  (∀ (s : State) (r : Requester) (n : Nat),
    CoreReady s r →
    n < 16 ∧ s.ltssm n = 8 →
    NoStream s n →
    (s.port n).leavePend = false →
    Gives (.portCtlRetrain r n) s [(F.PORT_LINK_STAT_LTSSM, n, 0x10), (F.PORT_TRN_CNT_RECOV, n, min (s.rd
      F.PORT_TRN_CNT_RECOV n + 1) 0xFFFF)] (trainParts s n) [.ts1 n false, .ts1 n true, .writeAck] fun t => (t.port
      n).retraining = true ∧ (t.port n).armedOI = true ∧ (t.port n).armedIO = true) ∧
  (∀ (s : State) (r : Requester) (n : Nat),
    CoreReady s r →
    n < 16 ∧ s.ltssm n ≠ 8 →
    Gives (.portCtlRetrain r n) s [] [] [.writeAck] anyState)

/-- Equalization requests and trials. A coefficient request in a Forwarding-mode phase applies a legal set or a preset
defined at the rate and answers that it did; an illegal one, an undefined preset, and any request while
LANE_TX_CTL.OVR is 1, is rejected and changes nothing; outside those phases nothing happens. A scored trial counts,
and the better setting is kept; the search that is exhausted ends with result 1 and the best setting requested; the
Execution timer ends it with result 2, or 3 where no trial was scored. Without Execution mode the trial's end and
the timer do nothing. (R52, R53, R54, R91, R92, R94, R118.) -/
def Obligations.CoefficientsAreTriedAndApplied : Prop :=
  (∀ (s : State) (ls n a b c d : Nat),
    Quiet s →
    ls < 66 ∧ n < 16 ∧ a < 64 ∧ b < 64 ∧ c < 64 ∧ d < 64 →
    s.portOfLs ls = some n ∧ s.takesRequests n ls = true ∧ s.flag F.LANE_TX_CTL_OVR ls = false →
    coefsLegal (s.lane ls).rate a b c d = true →
    Gives (.coefficientRequest ls (.coefs a b c d)) s [(F.LANE_EQ_STAT_PRESET, ls, 15), (F.LANE_EQ_STAT_CM2, ls, a),
      (F.LANE_EQ_STAT_CM1, ls, b), (F.LANE_EQ_STAT_C0, ls, c), (F.LANE_EQ_STAT_CP1, ls, d)] [] [.eqAnswer ls true]
      anyState) ∧
  (∀ (s : State) (ls n p : Nat) (ok : Bool),
    Quiet s →
    ls < 66 ∧ n < 16 ∧ p < 16 →
    s.portOfLs ls = some n ∧ s.takesRequests n ls = true ∧ s.flag F.LANE_TX_CTL_OVR ls = false ∧ 2 ≤ (s.lane ls).rate →
    ok = Config.presetDefined (s.lane ls).rate p →
    Gives (.coefficientRequest ls (.preset p)) s [(F.LANE_EQ_STAT_PRESET, ls, if ok then p else s.rd
      F.LANE_EQ_STAT_PRESET ls), (F.LANE_EQ_STAT_CM2, ls, if ok then bits (Config.presetCoef (s.lane ls).rate p) 0 6
      else s.rd F.LANE_EQ_STAT_CM2 ls), (F.LANE_EQ_STAT_CM1, ls, if ok then bits (Config.presetCoef (s.lane ls).rate p)
      6 6 else s.rd F.LANE_EQ_STAT_CM1 ls), (F.LANE_EQ_STAT_C0, ls, if ok then bits (Config.presetCoef (s.lane ls).rate
      p) 12 6 else s.rd F.LANE_EQ_STAT_C0 ls), (F.LANE_EQ_STAT_CP1, ls, if ok then bits (Config.presetCoef (s.lane
      ls).rate p) 18 6 else s.rd F.LANE_EQ_STAT_CP1 ls)] [] [.eqAnswer ls ok] anyState) ∧
  (∀ (s : State) (ls n a b c d : Nat),
    Quiet s →
    ls < 66 ∧ n < 16 ∧ a < 64 ∧ b < 64 ∧ c < 64 ∧ d < 64 →
    s.portOfLs ls = some n ∧ s.takesRequests n ls = true →
    (s.flag F.LANE_TX_CTL_OVR ls = true ∨ coefsLegal (s.lane ls).rate a b c d = false) →
    Gives (.coefficientRequest ls (.coefs a b c d)) s [] [] [.eqAnswer ls false] anyState) ∧
  (∀ (s : State) (ls : Nat) (req : CoefReq),
    Quiet s →
    ls < 66 ∧ req.wf = true →
    s.portOfLs ls = none →
    Gives (.coefficientRequest ls req) s [] [] [] anyState) ∧
  (∀ (s : State) (n : Nat) (inner : Bool) (tr : Trial) (e : Exec) (v : Nat) (c : CoefReq) (rest : List Nat),
    Quiet s →
    n < 16 ∧ tr.wf = true →
    (s.port n).exec inner = some e ∧ s.trialsHalted n = false ∧ max (s.rd F.PORT_EQ_CFG_DWELL n) 16 ≤ tr.dwelt ∧
      tr.score = some v ∧ e.trials + 1 < max (s.rd F.PORT_EQ_CFG_MAX_TRIALS n) 1 →
    e.next (s.presetsOnly n inner) tr.step = some (c, rest) →
    Gives (.eqTrialEnd n inner tr) s [(F.trials inner, n, min (e.scored + 1) 255)] [.port n] [.eqRequest n inner c] fun
      t => t.port n = (s.port n).setExec inner (some
      { trials := e.trials + 1, scored := e.scored + 1, best := betterTrial e.best e.cur v, repeated := false, cur := c, untried := rest }))
      ∧
  (∀ (s : State) (n : Nat) (inner : Bool) (tr : Trial) (e : Exec),
    Quiet s →
    n < 16 ∧ tr.wf = true →
    (s.port n).exec inner = some e ∧ s.trialsHalted n = false ∧ max (s.rd F.PORT_EQ_CFG_DWELL n) 16 ≤ tr.dwelt ∧
      tr.score = none ∧ e.repeated = false ∧ e.trials + 1 < max (s.rd F.PORT_EQ_CFG_MAX_TRIALS n) 1 →
    Gives (.eqTrialEnd n inner tr) s [(F.trials inner, n, min e.scored 255)] [.port n] [.eqRequest n inner e.cur] fun t
      => t.port n = (s.port n).setExec inner (some { e with trials := e.trials + 1, repeated := true })) ∧
  (∀ (s : State) (n : Nat) (inner : Bool) (tr : Trial) (e : Exec) (v : Nat),
    Quiet s →
    n < 16 ∧ tr.wf = true →
    ((s.port n).exec inner = some e ∧ s.trialsHalted n = false ∧ max (s.rd F.PORT_EQ_CFG_DWELL n) 16 ≤ tr.dwelt ∧
      tr.score = some v ∧ e.best = none ∧ (max (s.rd F.PORT_EQ_CFG_MAX_TRIALS n) 1 ≤ e.trials + 1 ∨ e.next
      (s.presetsOnly n inner) tr.step = none)) →
    (s.port n).heldPhase = none ∧ (s.port n).attempt = .none →
    Gives (.eqTrialEnd n inner tr) s [(F.trials inner, n, min (e.scored + 1) 255), (F.result inner, n, 1)] [.port n]
      [.eqRequest n inner e.cur] fun t => t.port n = (s.port n).setExec inner none) ∧
  (∀ (s : State) (n : Nat) (inner : Bool) (tr : Trial),
    Quiet s →
    n < 16 ∧ tr.wf = true →
    ((s.port n).exec inner = none ∨ s.trialsHalted n = true ∨ tr.dwelt < max (s.rd F.PORT_EQ_CFG_DWELL n) 16) →
    Gives (.eqTrialEnd n inner tr) s [] [] [] anyState) ∧
  (∀ (s : State) (n : Nat) (inner : Bool) (e : Exec),
    Quiet s →
    n < 16 →
    (s.port n).exec inner = some e ∧ (s.port n).heldPhase = none ∧ (s.port n).attempt = .none →
    Gives (.execTmo n inner) s [(F.result inner, n, if e.scored = 0 then 3 else 2)] [.port n]
      (match e.best with | some b => [.eqRequest n inner b.1] | none => []) fun t => t.port n = (s.port n).setExec inner
      none) ∧
  (∀ (s : State) (n : Nat) (inner : Bool),
    Quiet s →
    n < 16 →
    (s.port n).exec inner = none →
    Gives (.execTmo n inner) s [] [] [] anyState)

/-- L0p width changes and the down states. An agreed L0p width in L0, with L0P_EN 1 and not above the trained width,
shows in AWIDTH, and on both sides the lanes that leave stop sending and the lanes that return send; otherwise
nothing happens. Electrical idle after Hot Reset, the exit from Disabled and the end of the timeout idle enter
DETECT_QUIET from their states alone. The training watchdog counts, and takes a port that trains to TIMEOUT_IDLE;
one with a link records a link-down with cause 10 first. Unannounced idle in L0 notes its cause and silences the
other side; elsewhere it does nothing. (R89, R99, R108, R109, R110, R111.) -/
def Obligations.LinksNarrowAndGoDown : Prop :=
  (∀ (s : State) (n w : Nat),
    Quiet s →
    (n < 16 ∧ (w = 1 ∨ w = 2 ∨ w = 4 ∨ w = 8 ∨ w = 16)) →
    s.ltssm n = 8 ∧ s.flag F.PORT_CFG_L0P_EN n = true ∧ w ≤ s.rd F.PORT_LINK_STAT_WIDTH n ∧ (s.port n).innerComp = false
      →
    s.spareState 0 < 2 ∧ s.spareState 1 < 2 →
    (∀ k ∈ List.range (s.width n), (s.lane (outerLs (firstLane n + k))).tx = !bit (s.port n).offLanes k ∧ (s.lane
      (innerLs (firstLane n + k))).tx = !bit (s.port n).offLanes k) →
    Gives (.l0pTransition n w) s [(F.PORT_LINK_STAT_AWIDTH, n, w)] (.port n :: portLaneParts s n) ((List.range (s.width
      n)).flatMap fun k => if bit (s.port n).offLanes k = bit (s.offFor n w) k then [] else [.txIdle (outerLs (firstLane
      n + k)) (bit (s.offFor n w) k), .txIdle (innerLs (firstLane n + k)) (bit (s.offFor n w) k)]) fun t => t.port n =
      { s.port n with offLanes := s.offFor n w } ∧ ∀ k ∈ List.range (s.width n), (t.lane (outerLs (firstLane n + k))).tx
      = !bit (s.offFor n w) k ∧ (t.lane (innerLs (firstLane n + k))).tx = !bit (s.offFor n w) k) ∧
  (∀ (s : State) (n w : Nat),
    Quiet s →
    (n < 16 ∧ (w = 1 ∨ w = 2 ∨ w = 4 ∨ w = 8 ∨ w = 16)) →
    (s.ltssm n ≠ 8 ∨ s.flag F.PORT_CFG_L0P_EN n = false ∨ s.rd F.PORT_LINK_STAT_WIDTH n < w) →
    Gives (.l0pTransition n w) s [] [] [] anyState) ∧
  (∀ (s : State) (n : Nat) (inner : Bool),
    Quiet s →
    n < 16 ∧ s.ltssm n = 0x18 →
    ((s.port n).foundO = 0 ∧ (s.port n).foundI = 0 ∧ ∀ ls ∈ s.portLs n, (s.lane ls).tx = false) →
    Gives (.hotReset n inner) s [(F.PORT_LINK_STAT_LTSSM, n, 0)] (detectParts s n) [] fun t => (t.port n).reachedL0 =
      false) ∧
  (∀ (s : State) (n : Nat) (inner : Bool),
    Quiet s →
    n < 16 ∧ s.ltssm n ≠ 0x18 →
    Gives (.hotReset n inner) s [] [] [] anyState) ∧
  (∀ (s : State) (n : Nat) (inner : Bool),
    Quiet s →
    n < 16 ∧ s.ltssm n = 0x19 →
    ((s.port n).foundO = 0 ∧ (s.port n).foundI = 0 ∧ ∀ ls ∈ s.portLs n, (s.lane ls).tx = false) →
    Gives (.disabledExit n inner) s [(F.PORT_LINK_STAT_LTSSM, n, 0)] (detectParts s n) [] fun t => (t.port n).reachedL0
      = false) ∧
  (∀ (s : State) (n : Nat) (inner : Bool),
    Quiet s →
    n < 16 ∧ s.ltssm n ≠ 0x19 →
    Gives (.disabledExit n inner) s [] [] [] anyState) ∧
  (∀ (s : State) (n : Nat),
    Quiet s →
    n < 16 ∧ s.ltssm n = 0x1C →
    ((s.port n).foundO = 0 ∧ (s.port n).foundI = 0 ∧ ∀ ls ∈ s.portLs n, (s.lane ls).tx = false) →
    Gives (.timeoutIdleEnd n) s [(F.PORT_LINK_STAT_LTSSM, n, 0)] (detectParts s n) [] fun t => (t.port n).reachedL0 =
      false) ∧
  (∀ (s : State) (n : Nat),
    Quiet s →
    n < 16 ∧ s.ltssm n ≠ 0x1C →
    Gives (.timeoutIdleEnd n) s [] [] [] anyState) ∧
  (∀ (s : State) (n : Nat),
    Quiet s →
    (n < 16 ∧ (s.ltssm n = 2 ∨ s.ltssm n = 3 ∨ s.ltssm n = 5 ∨ isRecovery (s.ltssm n) = true)) →
    ((s.port n).foundO = 0 ∧ (s.port n).foundI = 0 ∧ ∀ ls ∈ s.portLs n, (s.lane ls).tx = false) →
    (s.port n).reachedL0 = false →
    Gives (.trainingWatchdog n) s [(F.PORT_LINK_STAT_LTSSM, n, 0x1C), (F.PORT_LDN_CNT_WDOG, n, min (s.rd
      F.PORT_LDN_CNT_WDOG n + 1) 0xFF)] (detectParts s n) [] anyState) ∧
  (∀ (s : State) (n : Nat),
    Quiet s →
    (n < 16 ∧ (s.ltssm n = 2 ∨ s.ltssm n = 3 ∨ s.ltssm n = 5 ∨ isRecovery (s.ltssm n) = true)) →
    ((s.port n).foundO = 0 ∧ (s.port n).foundI = 0 ∧ ∀ ls ∈ s.portLs n, (s.lane ls).tx = false) →
    (s.port n).reachedL0 = true ∧ (s.port n).down = none ∧ (s.port n).noted = none ∧ s.portHeld n = false ∧ s.ltssm n <
      32 →
    Reports (.trainingWatchdog n) s [(F.PORT_LINK_STAT_LTSSM, n, 0x1C), (F.PORT_LDN_CNT_WDOG, n, min (s.rd
      F.PORT_LDN_CNT_WDOG n + 1) 0xFF), (F.PORT_LDN_LOG_CAUSE, n, 10), (F.PORT_LDN_LOG_STATE, n, s.ltssm n),
      (F.PORT_LDN_CNT_ATTR, n, min (s.rd F.PORT_LDN_CNT_ATTR n + 1) 0xFFF)] (.fld F.SUMP_ATTR_DOWN_DRIPS n ::
      portResetParts s n) [⟨48, n, 10, false⟩] [] fun t => (t.port n).attrRun = true) ∧
  (∀ (s : State) (n : Nat),
    Quiet s →
    n < 16 ∧ s.ltssm n ≠ 2 ∧ s.ltssm n ≠ 3 ∧ s.ltssm n ≠ 5 ∧ isRecovery (s.ltssm n) = false →
    Gives (.trainingWatchdog n) s [] [] [] anyState) ∧
  (∀ (s : State) (n : Nat) (inner : Bool),
    Quiet s →
    n < 16 ∧ s.ltssm n = 8 →
    NoStream s n →
    (s.port n).reachedL0 = true ∧ (s.port n).down = none ∧ (s.port n).noted = none →
    (∀ ls ∈ s.sideLs n (!inner), (s.lane ls).tx = true) →
    Gives (.unannouncedIdle n inner) s [] (.port n :: portLaneParts s n) ((s.sideLs n (!inner)).map fun ls => .txIdle ls
      true) fun t => t.port n = { s.port n with noted := some (s.drip, if inner then 8 else 7) } ∧ ∀ ls ∈ s.sideLs n
      (!inner), (t.lane ls).tx = false) ∧
  (∀ (s : State) (n : Nat) (inner : Bool),
    Quiet s →
    n < 16 ∧ s.ltssm n ≠ 8 ∧ isRecovery (s.ltssm n) = false →
    Gives (.unannouncedIdle n inner) s [] [] [] anyState)

/-- Decoded flits. A flit that is not located changes nothing; one without lock is forwarded as received and nothing
counts, in Hold after the flits held before it; with lock, where no capture, no heat parser and no Hold store takes
it, a CLEAN one counts one flit and is forwarded, a CORRECTED one in Correct mode also counts its correction and
leaves with it, in the parity symbols too, and an UNCORRECTABLE one counts, is reported as FLIT_UNCORR (source 50)
and is forwarded as received. (R4, R123, R126, R127, R130, R142, R143.) -/
def Obligations.FlitsAreDecodedAndForwarded : Prop :=
  (∀ (s : State) (n d : Nat) (f : Flit),
    Quiet s →
    n < 16 ∧ d < 2 ∧ f.wf = true →
    s.located n = false →
    Gives (.flitDecoded n d f) s [] [] [] anyState) ∧
  (∀ (s : State) (n d : Nat) (f : Flit),
    Quiet s →
    n < 16 ∧ d < 2 ∧ f.wf = true →
    s.located n = true ∧ s.locked n d = false ∧ (s.port n).rows = false →
    (d = 0 ∨ s.rd F.PORT_STAT_EMODE_IO n ≠ 3) →
    Gives (.flitDecoded n d f) s [] [] [.flit n d f.bytes] anyState) ∧
  (∀ (s : State) (n : Nat) (f : Flit),
    Quiet s →
    n < 16 ∧ f.wf = true →
    s.located n = true ∧ s.locked n 1 = false ∧ (s.port n).rows = false ∧ s.rd F.PORT_STAT_EMODE_IO n = 3 →
    Gives (.flitDecoded n 1 f) s [] [.port n] [] fun t => t.port n = { s.port n with held := (t.port n).held } ∧ (t.port
      n).held.dropLast = (s.port n).held ∧ ((t.port n).held.getLast?.map fun h => (h.flit, h.locked, h.body.isSome)) =
      some (f, false, false)) ∧
  (∀ (s : State) (n k v : Nat) (f : Flit),
    Quiet s →
    n < 16 ∧ f.wf = true →
    s.located n = true ∧ s.locked n 1 = true ∧ s.rd (F.lock 1) n = 2 →
    (s.port n).rows = false ∧ s.rd F.PORT_STAT_EMODE_IO n ≠ 3 ∧ s.hostFacing n = true ∧ s.capRuns n 1 = false →
    flitOutcome f = .clean ∧ f.info.seq = none ∧ f.info.cacheMem = false →
    k = flKey n 1 ∧ v = min (s.rd F.PORT_FEC_FLITS_LO_FLITS_LO k + 2 ^ 32 * s.rd F.PORT_FEC_FLITS_HI_FLITS_HI k + 1) (2
      ^ 48 - 1) →
    s.rd F.PORT_STAT_EMODE_IO n ≠ 1 →
    Gives (.flitDecoded n 1 f) s [(F.PORT_FEC_FLITS_LO_FLITS_LO, k, v % 2 ^ 32), (F.PORT_FEC_FLITS_HI_FLITS_HI, k, v / 2
      ^ 32)] (.flit k :: partsOf [F.ideStat 0, F.ideStat 1] n) [.flit n 1 f.bytes] fun t => t.fl k =
      { s.fl k with goodRun := (s.fl k).goodRun + 1, failRun := 0, provFlits := (s.fl k).provFlits + 1 }) ∧
  (∀ (s : State) (n k : Nat) (f : Flit),
    Quiet s →
    n < 16 ∧ f.wf = true →
    s.located n = true ∧ s.locked n 1 = true ∧ s.rd (F.lock 1) n = 2 →
    (s.port n).rows = false ∧ s.hostFacing n = true ∧ s.capRuns n 1 = false →
    flitOutcome f = .corrected ∧ f.info.seq = none ∧ f.info.cacheMem = false →
    k = flKey n 1 ∧ s.rd F.PORT_STAT_EMODE_IO n = 1 ∧ s.rd F.PORT_LINK_STAT_AWIDTH n ≤ 16 →
    Gives (.flitDecoded n 1 f) s [(F.PORT_FEC_CORR_CORR, k, min (s.rd F.PORT_FEC_CORR_CORR k + 1) 0xFFFFFFFF),
      (F.PORT_FEC_SYM_SYM, k, min (s.rd F.PORT_FEC_SYM_SYM k + (flitPairs f).length) 0xFFFFFFFF)] (.flit k :: partsOf
      [F.PORT_FEC_FLITS_LO_FLITS_LO, F.PORT_FEC_FLITS_HI_FLITS_HI] k ++ (List.range 8).flatMap (fun m => partsOf
      [F.PORT_FEC_LANE_EVEN, F.PORT_FEC_LANE_ODD] (8 * k + m)) ++ partsOf [F.ideStat 0, F.ideStat 1] n ++ (s.sideLs n
      true).map .lane) [.flit n 1 (flitContent f)] anyState) ∧
  (∀ (s : State) (n k : Nat) (f : Flit),
    Quiet s →
    n < 16 ∧ f.wf = true →
    s.located n = true ∧ s.locked n 1 = true ∧ s.rd (F.lock 1) n = 2 →
    (s.port n).rows = false ∧ s.rd F.PORT_STAT_EMODE_IO n ≠ 3 ∧ s.hostFacing n = true ∧ s.capRuns n 1 = false →
    flitOutcome f = .uncorrectable ∧ f.info.seq = none ∧ f.info.cacheMem = false →
    k = flKey n 1 →
    Reports (.flitDecoded n 1 f) s [(F.PORT_FEC_UNCORR_UNCORR, k, min (s.rd F.PORT_FEC_UNCORR_UNCORR k + 1) 0xFFFFFFFF)]
      (.flit k :: partsOf [F.PORT_FEC_FLITS_LO_FLITS_LO, F.PORT_FEC_FLITS_HI_FLITS_HI] k ++ partsOf [F.ideStat 0,
      F.ideStat 1] n) [⟨50, n, 1, false⟩] [.flit n 1 f.bytes] fun t => (t.fl k).failRun = (s.fl k).failRun + 1)

/-- Data streams, lock and the Hold store's departures. A data stream starts in L0 with both directions provisionally
locked where the port runs a flit format of the device and the skew is within the tolerance, and does nothing
elsewhere; its end drops the locks without a loss. A provisional lock that 64 flits have not confirmed, LOSS_N
failures in a row, or a misplaced ordered set lose the lock: counted, reported as LOCK_LOSS (source 49), the lock 0;
without its cause each event changes nothing. The oldest held flit departs, without lock as received; an empty store
sends nothing. CNT_CLR clears the flit counters of both directions. (R124, R125, R143, R209.) -/
def Obligations.StreamsStartEndAndLoseLock : Prop :=
  (∀ (s : State) (n skO skI : Nat),
    Quiet s →
    n < 16 ∧ skO < 2 ^ 32 ∧ skI < 2 ^ 32 →
    s.ltssm n = 8 ∧ (s.port n).stream = false ∧ s.rowsStart n = false →
    Gives (.dataStreamStart n skO skI) s [(F.lock 0, n, if ((s.port n).fmt = 1 ∨ (s.port n).fmt = 2) ∧ skO ≤ 800 *
      (s.width n - 1) then 1 else 0), (F.lock 1, n, if ((s.port n).fmt = 1 ∨ (s.port n).fmt = 2) ∧ skI ≤ 800 * (s.width
      n - 1) then 1 else 0), (F.CMP_PORT_STAT_ROWLOCK, n, 0)] (.port n :: .flit (flKey n 0) :: .flit (flKey n 1) ::
      partsOf (F.emode 0 :: F.emode 1 :: F.CMP_PORT_ROW_ROW_IN :: F.CMP_PORT_ROW_ROW_OUT :: modeFields) n) [] fun t =>
      (t.port n).stream = true ∧ (t.port n).rows = false ∧ (t.fl (flKey n 0)).failRun = 0 ∧ (t.fl (flKey n 1)).expected
      = none) ∧
  (∀ (s : State) (n skO skI : Nat),
    Quiet s →
    n < 16 ∧ skO < 2 ^ 32 ∧ skI < 2 ^ 32 →
    (s.ltssm n ≠ 8 ∨ (s.port n).stream = true) →
    Gives (.dataStreamStart n skO skI) s [] [] [] anyState) ∧
  (∀ (s : State) (n : Nat),
    Quiet s →
    n < 16 →
    (s.port n).stream = true ∧ (s.port n).held = [] ∧ (s.port n).errata = [] ∧ (s.port n).rplReqs = [] ∧ (s.port
      n).holdReqs = [] →
    s.rd F.HEAT_EXP_STAT_ACTIVE n ≠ 1 →
    Gives (.dataStreamEnd n) s [(F.lock 0, n, 0), (F.lock 1, n, 0), (F.CMP_PORT_STAT_ROWLOCK, n, 0)] (.port n :: partsOf
      [F.PORT_ERRATA_CNT_ABORT, F.CMP_RPL_CNT2_ABORT, F.CMP_HOLD_CNT2_FAIL] n) [] fun t => (t.port n).stream = false ∧
      (t.port n).rows = false ∧ (t.port n).store = []) ∧
  (∀ (s : State) (n : Nat),
    Quiet s →
    n < 16 →
    (s.port n).stream = false →
    Gives (.dataStreamEnd n) s [] [] [] anyState) ∧
  (∀ (s : State) (n d : Nat),
    Quiet s →
    n < 16 ∧ d < 2 →
    s.rd (F.lock d) n = 1 ∧ 64 ≤ (s.fl (flKey n d)).provFlits ∧ s.rd F.PORT_CAP_CFG_TRIG n ≠ 4 →
    Reports (.provisionalLockExpiry n d) s [(F.lock d, n, 0), (F.lockLoss d, n, min (s.rd (F.lockLoss d) n + 1) 0xFFFF)]
      [.flit (flKey n d)] [⟨49, n, d, false⟩] [] fun t => t.fl (flKey n d) =
      { s.fl (flKey n d) with goodRun := 0, provFlits := 0, failRun := 0, expected := none }) ∧
  (∀ (s : State) (n d : Nat),
    Quiet s →
    n < 16 ∧ d < 2 →
    (s.rd (F.lock d) n ≠ 1 ∨ (s.fl (flKey n d)).provFlits < 64) →
    Gives (.provisionalLockExpiry n d) s [] [] [] anyState) ∧
  (∀ (s : State) (n d : Nat),
    Quiet s →
    n < 16 ∧ d < 2 →
    s.rd (F.lock d) n ≠ 0 ∧ s.lossN n ≤ (s.fl (flKey n d)).failRun ∧ s.rd F.PORT_CAP_CFG_TRIG n ≠ 4 →
    Reports (.lockLoss n d) s [(F.lock d, n, 0), (F.lockLoss d, n, min (s.rd (F.lockLoss d) n + 1) 0xFFFF)] [.flit
      (flKey n d)] [⟨49, n, d, false⟩] [] anyState) ∧
  (∀ (s : State) (n d : Nat),
    Quiet s →
    n < 16 ∧ d < 2 →
    (s.rd (F.lock d) n = 0 ∨ (s.fl (flKey n d)).failRun < s.lossN n) →
    Gives (.lockLoss n d) s [] [] [] anyState) ∧
  (∀ (s : State) (n d : Nat),
    Quiet s →
    n < 16 ∧ d < 2 →
    s.rd (F.lock d) n ≠ 0 ∧ s.rd F.PORT_CAP_CFG_TRIG n ≠ 4 →
    Reports (.orderedSetMisplaced n d) s [(F.lock d, n, 0), (F.lockLoss d, n, min (s.rd (F.lockLoss d) n + 1) 0xFFFF)]
      [.flit (flKey n d)] [⟨49, n, d, false⟩] [] anyState) ∧
  (∀ (s : State) (n d : Nat),
    Quiet s →
    n < 16 ∧ d < 2 →
    s.rd (F.lock d) n = 0 →
    Gives (.orderedSetMisplaced n d) s [] [] [] anyState) ∧
  (∀ (s : State) (n : Nat) (h : HeldFlit),
    Quiet s →
    n < 16 →
    (s.port n).held = [h] ∧ s.locked n 1 = false ∧ (s.port n).holdReqs = [] →
    Gives (.holdDeparture n) s [] [.port n, .fld F.CMP_HOLD_CNT2_FAIL n] [.flit n 1 h.flit.bytes] fun t => (t.port
      n).held = []) ∧
  (∀ (s : State) (n : Nat),
    Quiet s →
    n < 16 →
    (s.port n).held = [] →
    Gives (.holdDeparture n) s [] [] [] anyState) ∧
  (∀ (s : State) (r : Requester) (n : Nat),
    CoreReady s r →
    n < 16 →
    Gives (.portFlitCtlCntClr r n) s (F.fecCounters.flatMap (fun f => [(f, flKey n 0, 0), (f, flKey n 1, 0)]) ++
      [(F.PORT_FLIT_LOCK_CNT_LOSS_IO, n, 0), (F.PORT_FLIT_LOCK_CNT_LOSS_OI, n, 0), (F.PORT_ERRATA_SENT_SENT, n, 0),
      (F.PORT_ERRATA_CNT_DROP, n, 0), (F.PORT_ERRATA_CNT_ABORT, n, 0), (F.PORT_ERRATA_STAT_LAG_MAX, n, 0)] ++
      (List.range 16).flatMap fun m => [(F.PORT_FEC_LANE_EVEN, 16 * n + m, 0), (F.PORT_FEC_LANE_ODD, 16 * n + m, 0)]) []
      [.writeAck] anyState)

/-- The capture buffer. ARM in IDLE or DONE starts a capture with its place and loss count 0 and its generation one
up, and is ignored in ARMED and POST; FORCE in ARMED enters POST at the next record; STOP in ARMED or POST makes it
DONE; the last record of POST written makes it DONE. The oldest queued record of a capture that keeps to its own
segments is written at its place in the buffer, byte for byte. The window is written while no capture is ARMED or in
POST, and refuses writes otherwise. (R144, R145, R146, R149, R150.) -/
def Obligations.CapturesRunAndStop : Prop :=
  (∀ (s : State) (r : Requester) (n : Nat),
    CoreReady s r →
    n < 16 →
    (s.capState n = 0 ∨ s.capState n = 3) →
    Gives (.portCapCtlArm r n) s [(F.PORT_CAP_STAT_STATE, n, 1), (F.PORT_CAP_STAT_WPTR, n, 0), (F.PORT_CAP_STAT_WRAP, n,
      0), (F.PORT_CAP_LOST_LOST, n, 0), (F.PORT_CAP_STAT_GEN, n, (s.rd F.PORT_CAP_STAT_GEN n + 1) % 2 ^
      F.PORT_CAP_STAT_GEN.w)] [.port n] [.writeAck] fun t => t.port n =
      { s.port n with capQueue := [], capLeft := 0, capLate := s.passed (s.capTarget n) }) ∧
  (∀ (s : State) (r : Requester) (n : Nat),
    CoreReady s r →
    n < 16 →
    (s.capState n = 1 ∨ s.capState n = 2) →
    Gives (.portCapCtlArm r n) s [] [] [.writeAck] anyState) ∧
  (∀ (s : State) (r : Requester) (n : Nat),
    CoreReady s r →
    n < 16 →
    s.capState n = 1 →
    Gives (.portCapCtlForce r n) s [(F.PORT_CAP_STAT_STATE, n, 2), (F.PORT_CAP_TREC_TRIG_REC, n, s.rd
      F.PORT_CAP_STAT_WPTR n % 2 ^ F.PORT_CAP_TREC_TRIG_REC.w)] [.port n] [.writeAck] fun t => t.port n =
      { s.port n with capLeft := s.capPost n }) ∧
  (∀ (s : State) (r : Requester) (n : Nat),
    CoreReady s r →
    n < 16 →
    s.capState n ≠ 1 →
    Gives (.portCapCtlForce r n) s [] [] [.writeAck] anyState) ∧
  (∀ (s : State) (r : Requester) (n : Nat),
    CoreReady s r →
    n < 16 →
    Gives (.portCapCtlStop r n) s [(F.PORT_CAP_STAT_STATE, n, if s.capState n = 1 ∨ s.capState n = 2 then 3 else
      s.capState n)] [] [.writeAck] anyState) ∧
  (∀ (s : State) (n : Nat) (x : List Nat) (q : List (List Nat)) (a : Nat),
    Quiet s →
    n < 16 →
    ((s.port n).capQueue = x :: q ∧ x.length = 288 ∧ ∀ b ∈ x, b < 256) →
    s.capBad n = false ∧ a = s.capAddr n (s.rd F.PORT_CAP_STAT_WPTR n) →
    s.rd F.PORT_CAP_STAT_WPTR n + 1 < s.capTotal n →
    Gives (.captureRecordWrite n) s [(F.PORT_CAP_STAT_WPTR, n, s.rd F.PORT_CAP_STAT_WPTR n + 1)] (.port n :: (List.range
      288).map fun k => .byte (a + k)) [] fun t => t.rdBytes a 288 = x ∧ t.port n = { s.port n with capQueue := q }) ∧
  (∀ (s : State) (n : Nat),
    Quiet s →
    n < 16 →
    (s.port n).capQueue = [] →
    Gives (.captureRecordWrite n) s [] [] [] anyState) ∧
  (∀ (s : State) (n : Nat),
    Quiet s →
    n < 16 →
    Gives (.captureDone n) s [(F.PORT_CAP_STAT_STATE, n, if s.capState n = 2 ∧ (s.port n).capLeft = 0 ∧ (s.port
      n).capQueue = [] then 3 else s.capState n)] [] [] anyState) ∧
  (∀ (s : State) (r : Requester) (addr val : Nat),
    CoreReady s r →
    0x500000 ≤ addr ∧ addr < 0x700000 ∧ addr % 4 = 0 ∧ val < 2 ^ 32 →
    s.capBusy = false →
    Gives (.captureWindowWrite r addr val) s [] [.byte addr, .byte (addr + 1), .byte (addr + 2), .byte (addr + 3)]
      [.writeAck] fun t => t.rdWord32 addr = val) ∧
  (∀ (s : State) (r : Requester) (addr val : Nat),
    CoreReady s r →
    0x500000 ≤ addr ∧ addr < 0x700000 ∧ addr % 4 = 0 ∧ val < 2 ^ 32 →
    s.capBusy = true ∧ s.werrAny = true →
    Gives (.captureWindowWrite r addr val) s [(F.GLB_WERR_PORT, 0, 1)] [] [.writeAck] fun t => t.refusedNow = true)

/-- The companion sideband's link states. Alignment takes ALIGN to HELLO; a HELLO of major version 1 in HELLO takes
the link UP with its numbers restarted, and one of another version to MISMATCH; the HELLO timer sends a HELLO in
HELLO alone; a HELLO in OFF or ALIGN is ignored. Clearing EN takes the link to OFF, setting it to ALIGN where the
crystal PLL is locked. A loss from UP with nothing queued counts in DOWN, restarts the numbers and reports CSB_DOWN
(source 54); outside UP a loss changes nothing. CSB RST returns the link layer to its initial state. CNT_CLR clears
the CSB's counters and those of every port. (R39, R168, R170, R174, R185.) -/
def Obligations.TheSidebandMovesThroughItsStates : Prop :=
  (∀ (s : State),
    Quiet s →
    s.rd F.CMP_CSB_STAT_STATE 0 = 1 →
    Gives .csbAligned s [(F.CMP_CSB_STAT_STATE, 0, 2)] [] [] anyState) ∧
  (∀ (s : State),
    Quiet s →
    s.rd F.CMP_CSB_STAT_STATE 0 ≠ 1 →
    Gives .csbAligned s [] [] [] anyState) ∧
  (∀ (s : State) (minor role cap : Nat),
    Quiet s →
    minor < 256 ∧ role < 256 ∧ cap < 256 →
    s.rd F.CMP_CSB_STAT_STATE 0 = 2 →
    (∀ n ∈ List.range 16, s.associated n = false) →
    (∀ v ∈ List.range 17, (s.view v).handed = s.rd F.MGMT_VIEW_PTR_RSP_TX v) →
    Gives (.hello 1 minor role cap) s [(F.CMP_CSB_STAT_STATE, 0, 3), (F.CMP_CSB_STAT_PEER_MAJOR, 0, 1),
      (F.CMP_CSB_STAT_PEER_MINOR, 0, minor), (F.CMP_CSB_STAT_PEER_CAP, 0, cap % 16)] [.csb] [] fun t => t.csb.seq0 = 0 ∧
      t.csb.rx0 = 0 ∧ t.csb.last0 = 255 ∧ t.csb.q0 = [] ∧ t.csb.un0 = []) ∧
  (∀ (s : State) (major minor role cap : Nat),
    Quiet s →
    major < 16 ∧ minor < 256 ∧ role < 256 ∧ cap < 256 ∧ major ≠ 1 →
    s.rd F.CMP_CSB_STAT_STATE 0 = 2 →
    Gives (.hello major minor role cap) s [(F.CMP_CSB_STAT_STATE, 0, 4), (F.CMP_CSB_STAT_PEER_MAJOR, 0, major),
      (F.CMP_CSB_STAT_PEER_MINOR, 0, minor), (F.CMP_CSB_STAT_PEER_CAP, 0, cap % 16)] [] [] anyState) ∧
  (∀ (s : State) (major minor role cap : Nat),
    Quiet s →
    major < 256 ∧ minor < 256 ∧ role < 256 ∧ cap < 256 →
    s.rd F.CMP_CSB_STAT_STATE 0 < 2 →
    Gives (.hello major minor role cap) s [] [] [] anyState) ∧
  (∀ (s : State),
    Quiet s →
    s.rd F.CMP_CSB_STAT_STATE 0 = 2 →
    Gives .helloTimer s [] [] [.csb (CsbFrame.bytes ⟨1, 0, 0, [1, 0, 0, 3], none, none⟩ 0)] anyState) ∧
  (∀ (s : State),
    Quiet s →
    s.rd F.CMP_CSB_STAT_STATE 0 ≠ 2 →
    Gives .helloTimer s [] [] [] anyState) ∧
  (∀ (s : State) (r : Requester),
    CoreReady s r →
    s.rd F.CMP_CSB_CTL_EN 0 = 1 ∧ s.csbUp = false →
    Gives (.cmpCsbCtlEn r false) s [(F.CMP_CSB_CTL_EN, 0, 0), (F.CMP_CSB_STAT_STATE, 0, 0)] [] [.writeAck] anyState) ∧
  (∀ (s : State) (r : Requester),
    CoreReady s r →
    s.rd F.CMP_CSB_CTL_EN 0 ≠ 1 ∧ s.rd F.CMP_CSB_STAT_STATE 0 = 0 →
    Gives (.cmpCsbCtlEn r true) s [(F.CMP_CSB_CTL_EN, 0, 1), (F.CMP_CSB_STAT_STATE, 0, if s.rd F.CLK_STAT_XPLL_LOCK 0 =
      1 then 1 else 0)] [] [.writeAck] anyState) ∧
  (∀ (s : State) (r : Requester) (en : Bool),
    CoreReady s r →
    s.flag F.CMP_CSB_CTL_EN 0 = en →
    Gives (.cmpCsbCtlEn r en) s [] [] [.writeAck] anyState) ∧
  (∀ (s : State) (r : Requester),
    CoreReady s r →
    s.csbUp = false →
    Gives (.cmpCsbCtlRst r) s [(F.CMP_CSB_STAT_STATE, 0, if s.rd F.CMP_CSB_CTL_EN 0 = 1 ∧ s.rd F.CLK_STAT_XPLL_LOCK 0 =
      1 then 1 else 0)] [.csb] [.writeAck] fun t => t.csb = {}) ∧
  (∀ (s : State),
    Quiet s →
    s.csbUp = true →
    s.csb.q0 = [] ∧ s.csb.q1 = [] ∧ s.csb.un0 = [] ∧ s.csb.un1 = [] →
    (∀ n ∈ List.range 16, (s.port n).rejoin = false) →
    s.spareState 0 < 2 ∧ s.spareState 1 < 2 ∧ (s.spare 0).peerWanted = [] ∧ (s.spare 1).peerWanted = [] →
    Reports .csbCodeViolationLoss s [(F.CMP_CSB_STAT_STATE, 0, 1), (F.CMP_CSB_CNT_DOWN, 0, min (s.rd F.CMP_CSB_CNT_DOWN
      0 + 1) 0xFF)] [.csb, .fld F.CMP_CSB_CNT2_LOST 0] [⟨54, 0, 0, false⟩] [] fun t => t.csb.seq0 = 0 ∧ t.csb.rx0 = 0 ∧
      t.csb.last0 = 255) ∧
  (∀ (s : State),
    Quiet s →
    s.csbUp = true →
    s.csb.q0 = [] ∧ s.csb.q1 = [] ∧ s.csb.un0 = [] ∧ s.csb.un1 = [] →
    (∀ n ∈ List.range 16, (s.port n).rejoin = false) →
    s.spareState 0 < 2 ∧ s.spareState 1 < 2 ∧ (s.spare 0).peerWanted = [] ∧ (s.spare 1).peerWanted = [] →
    Reports .lossTmo s [(F.CMP_CSB_STAT_STATE, 0, 1), (F.CMP_CSB_CNT_DOWN, 0, min (s.rd F.CMP_CSB_CNT_DOWN 0 + 1) 0xFF)]
      [.csb, .fld F.CMP_CSB_CNT2_LOST 0] [⟨54, 0, 0, false⟩] [] fun t => t.csb.seq0 = 0 ∧ t.csb.rx0 = 0 ∧ t.csb.last0 =
      255) ∧
  (∀ (s : State),
    Quiet s →
    s.csbUp = false →
    Gives .lossTmo s [] [] [] anyState) ∧
  (∀ (s : State) (r : Requester),
    CoreReady s r →
    Gives (.cmpCsbCtlCntClr r) s ((Reg.CMP_CSB_CNT.fields ++ Reg.CMP_CSB_CNT2.fields).map (fun f => (f, 0, 0)) ++
      (List.range 16).flatMap fun n => Reg.CMP_PORT_CNT.fields.map fun f => (f, n, 0)) [] [.writeAck] anyState)

/-- CSB frames. An acknowledgement frees the frames it covers; a retransmission timeout sends every unacknowledged
frame of its channel again and counts them; a frame boundary sends a due beacon first, then an owed acknowledgement,
then the oldest queued frame, and nothing where none waits; a reserved frame in order counts as unexpected and is
acknowledged; a bad CRC counts where frames are exchanged; outside UP an acknowledgement, a timeout and a boundary
change nothing. (R171, R172, R173, R174.) -/
def Obligations.FramesAreNumberedAndAcknowledged : Prop :=
  (∀ (s : State) (num : Nat),
    Quiet s →
    num < 256 →
    s.csbUp = true →
    (∀ f ∈ s.csb.un0, f.ring = none) →
    Gives (.ack 0 num) s [] [.csb] [] fun t => t.csb = { s.csb with un0 := (ackedBy num s.csb.un0).2 }) ∧
  (∀ (s : State) (vc num : Nat),
    Quiet s →
    vc < 2 ∧ num < 256 →
    s.csbUp = false →
    Gives (.ack vc num) s [] [] [] anyState) ∧
  (∀ (s : State) (vc : Nat) (f : CsbFrame),
    Quiet s →
    vc < 2 →
    s.csbUp = true →
    ((if vc = 0 then s.csb.un0 else s.csb.un1) = [f]) →
    Gives (.rtxTmo vc) s [(F.CMP_CSB_CNT_RTX, 0, min (s.rd F.CMP_CSB_CNT_RTX 0 + 1) 0xFFF)] [] [.csb (f.bytes (if vc = 0
      then s.csb.last0 else s.csb.last1))] anyState) ∧
  (∀ (s : State) (vc : Nat),
    Quiet s →
    vc < 2 →
    s.csbUp = false →
    Gives (.rtxTmo vc) s [] [] [] anyState) ∧
  (∀ (s : State) (d : Nat),
    Quiet s →
    s.csbUp = true ∧ s.csb.beaconDue = some d →
    Gives .csbFrameBoundary s [] [.csb] [.csb (CsbFrame.bytes ⟨2, 0, 0, s.beaconBytes d, none, none⟩ 0)] fun t => t.csb
      = { s.csb with heartbeat := (s.csb.heartbeat + 1) % 65536, beaconDue := none }) ∧
  (∀ (s : State),
    Quiet s →
    s.csbUp = true ∧ s.csb.beaconDue = none ∧ s.csb.ackDue0 = true →
    Gives .csbFrameBoundary s [] [.csb] [.csb (CsbFrame.bytes ⟨0, 0, 0, [], none, none⟩ s.csb.last0)] fun t => t.csb =
      { s.csb with ackDue0 := false }) ∧
  (∀ (s : State) (f : CsbFrame) (q : List CsbFrame),
    Quiet s →
    s.csbUp = true ∧ s.csb.beaconDue = none ∧ s.csb.ackDue0 = false ∧ s.csb.ackDue1 = false →
    s.csb.q0 = f :: q ∧ f.vc = 0 ∧ s.csb.un0.length < 32 →
    Gives .csbFrameBoundary s [] [.csb] [.csb (f.bytes s.csb.last0)] fun t => t.csb =
      { s.csb with q0 := q, un0 := s.csb.un0 ++ [f], ackDue0 := false }) ∧
  (∀ (s : State),
    Quiet s →
    s.csbUp = false →
    Gives .csbFrameBoundary s [] [] [] anyState) ∧
  (∀ (s : State) (h : CsbHdr) (why : BadFrame),
    InOrder s h →
    Gives (.reservedCsbFrame h why) s [(F.CMP_CSB_CNT2_UNEXP, 0, min (s.rd F.CMP_CSB_CNT2_UNEXP 0 + 1) 0xFFFF)] [.csb]
      [] fun t => t.csb = tookFrame s.csb h) ∧
  (∀ (s : State) (bytes : List Nat),
    Quiet s →
    bytesWf bytes = true →
    2 ≤ s.rd F.CMP_CSB_STAT_STATE 0 ∧ csbFrameOk bytes = false →
    Gives (.csbFrameCrcBad bytes) s [(F.CMP_CSB_CNT_CRC_BAD, 0, min (s.rd F.CMP_CSB_CNT_CRC_BAD 0 + 1) 0xFFF)] [] []
      anyState) ∧
  (∀ (s : State) (bytes : List Nat),
    Quiet s →
    bytesWf bytes = true →
    (s.rd F.CMP_CSB_STAT_STATE 0 < 2 ∨ csbFrameOk bytes = true) →
    Gives (.csbFrameCrcBad bytes) s [] [] [] anyState)

/-- Association, the lock test, fallback and leaving. An accepting JOIN_RSP in order, while a JOIN awaits it, records
ROWCAP and associates the port (SEG 2); a refusing one, or none in time, is a fallback (SEG 4, cause 1 or 2,
counted, source 52); one that nothing awaits is unexpected. A LOCK_RPT at another rate than the attempt's changes
nothing but the link layer; CLOCK_TMO, CEQ_TMO, the timeouts of a fallback and ROW_LOSS act only in an attempt, a
fallback or a loss of rows. LEAVE of an associated port records its reason and waits for the next Recovery. (R158,
R159, R162, R163, R164, R166, R167, R168.) -/
def Obligations.PortsAssociateAndFallBack : Prop :=
  (∀ (s : State) (h : CsbHdr) (n : Nat) (rows : Bool),
    InOrder s h →
    n < 16 →
    s.present n = true ∧ (s.port n).joinWait = true ∧ (s.port n).rejoin = false →
    Gives (.joinRsp h n false rows) s [(F.CMP_PORT_STAT_ROWCAP, n, b2n rows), (F.CMP_PORT_STAT_SEG, n, 2)] ([.csb, .port
      n] ++ partsOf modeFields n) [] fun t => t.csb = tookFrame s.csb h ∧ (t.port n).joinWait = false) ∧
  (∀ (s : State) (h : CsbHdr) (n : Nat) (rows : Bool),
    InOrder s h →
    n < 16 →
    s.present n = true ∧ (s.port n).joinWait = true ∧ (s.port n).rejoin = false →
    NoWork s n →
    Reports (.joinRsp h n true rows) s [(F.CMP_PORT_STAT_SEG, n, 4), (F.CMP_PORT_STAT_FB_CAUSE, n, 1),
      (F.CMP_PORT_CNT_FB, n, min (s.rd F.CMP_PORT_CNT_FB n + 1) 0xFF)] ([.csb] ++ fallbackParts n) [⟨52, n, 1, false⟩]
      [] fun t => t.csb = tookFrame s.csb h ∧ (t.port n).joinWait = false) ∧
  (∀ (s : State) (h : CsbHdr) (n : Nat) (refuse rows : Bool),
    InOrder s h →
    n < 16 →
    (s.present n = false ∨ (s.port n).joinWait = false) →
    Gives (.joinRsp h n refuse rows) s [(F.CMP_CSB_CNT2_UNEXP, 0, min (s.rd F.CMP_CSB_CNT2_UNEXP 0 + 1) 0xFFFF)] [.csb]
      [] fun t => t.csb = tookFrame s.csb h) ∧
  (∀ (s : State) (n : Nat),
    Quiet s →
    n < 16 →
    (s.port n).joinWait = true ∧ (s.port n).rejoin = false →
    NoWork s n →
    Reports (.joinTmo n) s [(F.CMP_PORT_STAT_SEG, n, 4), (F.CMP_PORT_STAT_FB_CAUSE, n, 2), (F.CMP_PORT_CNT_FB, n, min
      (s.rd F.CMP_PORT_CNT_FB n + 1) 0xFF)] (fallbackParts n) [⟨52, n, 2, false⟩] [] fun t => (t.port n).joinWait =
      false) ∧
  (∀ (s : State) (n : Nat),
    Quiet s →
    n < 16 →
    (s.port n).joinWait = false →
    Gives (.joinTmo n) s [] [] [] anyState) ∧
  (∀ (s : State) (h : CsbHdr) (n rate lanes : Nat) (comp : Bool),
    InOrder s h →
    n < 16 ∧ rate < 8 ∧ lanes < 2 ^ 16 →
    s.present n = true ∧ (s.port n).attempt = .lock false ∧ comp = true ∧ rate = s.rate n →
    s.innerLocked n = false →
    Gives (.lockRpt h n rate comp lanes) s [] [.csb, .port n] [] fun t => t.csb = tookFrame s.csb h ∧ t.port n =
      { s.port n with peerLock := s.mapFull n lanes }) ∧
  (∀ (s : State) (h : CsbHdr) (n rate lanes : Nat) (comp : Bool),
    InOrder s h →
    n < 16 ∧ rate < 8 ∧ lanes < 2 ^ 16 →
    s.present n = true ∧ s.associated n = true ∧ rate ≠ s.rate n →
    Gives (.lockRpt h n rate comp lanes) s [] [.csb] [] fun t => t.csb = tookFrame s.csb h) ∧
  (∀ (s : State) (n : Nat),
    Quiet s →
    n < 16 →
    (s.port n).attempt = .lock false →
    NoWork s n →
    s.csbUp = true →
    Reports (.clockTmo n) s [(F.CMP_PORT_STAT_SEG, n, 4), (F.CMP_PORT_STAT_FB_CAUSE, n, 4), (F.CMP_PORT_CNT_FB, n, min
      (s.rd F.CMP_PORT_CNT_FB n + 1) 0xFF)] ([.csb] ++ fallbackParts n) [⟨52, n, 4, false⟩] [] fun t => t.csb = queued0
      s.csb 0x22 [n, 4] ∧ (t.port n).attempt = .fbAck) ∧
  (∀ (s : State) (n : Nat),
    Quiet s →
    n < 16 →
    (s.port n).attempt = .none →
    Gives (.clockTmo n) s [] [] [] anyState) ∧
  (∀ (s : State) (h : CsbHdr) (n : Nat) (none_ : Bool),
    InOrder s h →
    n < 16 →
    s.present n = true ∧ (s.port n).attempt = .ceq ∧ (s.port n).ownCeq = false →
    Gives (.ceqDone h n none_) s [] [.csb, .port n] [] fun t => t.csb = tookFrame s.csb h ∧ t.port n =
      { s.port n with peerCeq := true }) ∧
  (∀ (s : State) (n : Nat),
    Quiet s →
    n < 16 →
    (s.port n).attempt = .ceq ∧ (s.port n).execI = none ∧ s.rd (F.trials true) n = 0 →
    NoWork s n →
    s.csbUp = true →
    Reports (.ceqTmo n) s [(F.CMP_PORT_STAT_SEG, n, 4), (F.CMP_PORT_STAT_FB_CAUSE, n, 5), (F.CMP_PORT_CNT_FB, n, min
      (s.rd F.CMP_PORT_CNT_FB n + 1) 0xFF)] ([.csb] ++ fallbackParts n) [⟨52, n, 5, false⟩] [] fun t => t.csb = queued0
      s.csb 0x22 [n, 5] ∧ (t.port n).attempt = .fbAck) ∧
  (∀ (s : State) (h : CsbHdr) (n : Nat),
    InOrder s h →
    n < 16 →
    s.present n = true ∧ (s.port n).attempt = .fbAck →
    (∀ ls ∈ s.sideLs n true, (s.lane ls).tx = true ∧ s.astate ls = 0) →
    Gives (.fallbackAck h n) s [] (.csb :: .port n :: (s.sideLs n true).map .lane ++ laneFields (s.sideLs n true)
      [F.LANE_SLICE_STAT_MARG, F.LANE_SLICE_STAT_CALSLICE]) ((s.sideLs n true).map (fun ls => .txIdle ls true) ++
      (s.sendLs n true).map fun ls => .txIdle ls false) fun t => (t.port n).attempt = .fbHold ∧ (t.port n).innerComp =
      false ∧ ∀ ls ∈ s.sideLs n true, (t.lane ls).rate = s.rate n ∧ (t.lane ls).comp = false) ∧
  (∀ (s : State) (n : Nat),
    Quiet s →
    n < 16 →
    (s.port n).attempt = .fbAck →
    (∀ ls ∈ s.sideLs n true, (s.lane ls).tx = true ∧ s.astate ls = 0) →
    Gives (.fallbackAckTimeout n) s [] (.port n :: (s.sideLs n true).map .lane ++ laneFields (s.sideLs n true)
      [F.LANE_SLICE_STAT_MARG, F.LANE_SLICE_STAT_CALSLICE]) ((s.sideLs n true).map (fun ls => .txIdle ls true) ++
      (s.sendLs n true).map fun ls => .txIdle ls false) fun t => (t.port n).attempt = .fbHold ∧ (t.port n).innerComp =
      false ∧ ∀ ls ∈ s.sideLs n true, (t.lane ls).rate = s.rate n) ∧
  (∀ (s : State) (n : Nat),
    Quiet s →
    n < 16 →
    (s.port n).attempt = .fbHold ∧ (s.port n).heldPhase = none →
    Gives (.fallbackHoldTimeout n) s [] [.port n] [] fun t => t.port n =
      { s.port n with attempt := .none, ownLock := false, peerLock := false, ownCeq := false, peerCeq := false }) ∧
  (∀ (s : State) (h : CsbHdr) (n reason : Nat),
    InOrder s h →
    n < 16 ∧ reason < 256 →
    s.present n = true ∧ s.associated n = true →
    Gives (.leave h n reason) s [(F.CMP_PORT_STAT_LVRSN, n, reason % 2 ^ F.CMP_PORT_STAT_LVRSN.w)] [.csb, .port n] []
      fun t => t.csb = tookFrame s.csb h ∧ t.port n = { s.port n with leavePend := true }) ∧
  (∀ (s : State) (n : Nat),
    Quiet s →
    n < 16 →
    (s.port n).rows = true ∧ max (s.rd F.CMP_CFG_ROWLOSS_N 0) 1 ≤ (s.port n).badRun →
    s.ltssm n ≠ 8 →
    Reports (.rowLoss n) s [(F.CMP_PORT_CNT_ROWLOSS, n, min (s.rd F.CMP_PORT_CNT_ROWLOSS n + 1) 0xFF),
      (F.CMP_PORT_STAT_ROWLOCK, n, 0)] [.port n] [⟨53, n, 0, false⟩] [] fun t => t.port n =
      { s.port n with badRun := 0 }) ∧
  (∀ (s : State) (n : Nat),
    Quiet s →
    n < 16 →
    (s.port n).rows = false →
    Gives (.rowLoss n) s [] [] [] anyState)

/-- Requests for a spare. A manual request for a lane of an associated port in L0, with the spare of its half IDLE,
joins the requests of the drip; one for another lane sets LAST_RES to 7; one that finds its spare in use counts
NOSPARE, sets LAST_RES to 2 and reports SPARE_NONE (source 56). SPARE_RSP 0 starts the copy (LAST_RES 1), or lets it
wait for a calibration step of the spare; 1 frees the spare and counts NOSPARE; 2 counts REFUSED and FAIL (LAST_RES
3, source 55); one that nothing awaits does nothing; none in time counts as refused with LAST_RES 4. A SPARE_REQ of
the switch ASIC joins them too, is refused where SW_REQ_EN is 0, and unexpected from an unassociated port. (R172,
R174, R176, R177, R178, R181.) -/
def Obligations.SparesAreRequestedAndAnswered : Prop :=
  (∀ (s : State) (r : Requester) (l n k : Nat),
    CoreReady s r →
    l < 32 ∧ n < 16 ∧ k = halfOf l →
    s.sparable l = some n ∧ s.spareState k = 1 →
    Gives (.spareCtlReq r l) s [] [.spare k] [.writeAck] fun t => t.spare k =
      { s.spare k with wanted := (s.spare k).wanted ++ [(l, n, 0)] }) ∧
  (∀ (s : State) (r : Requester) (l : Nat),
    CoreReady s r →
    l < 32 →
    s.sparable l = none →
    Gives (.spareCtlReq r l) s [(F.SPARE_STAT_LAST_RES, halfOf l, 7)] [] [.writeAck] anyState) ∧
  (∀ (s : State) (r : Requester) (l n k : Nat),
    CoreReady s r →
    l < 32 ∧ n < 16 ∧ k = halfOf l →
    s.sparable l = some n ∧ s.spareState k ≠ 1 →
    Reports (.spareCtlReq r l) s [(F.SPARE_CNT_NOSPARE, 0, min (s.rd F.SPARE_CNT_NOSPARE 0 + 1) 0xFF),
      (F.SPARE_STAT_LAST_RES, k, 2)] [] [⟨56, k, 0, false⟩] [.writeAck] anyState) ∧
  (∀ (s : State) (h : CsbHdr) (k l : Nat),
    InOrder s h →
    k < 2 ∧ l < 32 →
    (s.spare k).asked = true ∧ s.spareLane k = l ∧ s.spareState k = 2 ∧ (s.lane (64 + k)).tx = false ∧ s.astate (64 + k)
      ≠ 2 ∧ s.rd F.LANE_SLICE_STAT_CALSLICE (64 + k) = 0x7F →
    Gives (.spareRsp h k l 0) s [(F.SPARE_STAT_STATE, k, 3), (F.SPARE_STAT_LAST_RES, k, 1), (F.LANE_RX_STAT_ASTATE, 64 +
      k, 2), (F.LANE_EQ_STAT_C0, 64 + k, s.rd F.LANE_EQ_STAT_C0 (innerLs l) % 64)] (.csb :: .spare k :: .lane (64 + k)
      :: laneFields [64 + k] [F.LANE_RX_EQ_FFE_P1, F.LANE_RX_EQ_FFE_M1, F.LANE_RX_EQ_DFE1, F.LANE_RX_EQ_CTLE,
      F.LANE_EQ_STAT_PRESET, F.LANE_EQ_STAT_CP1, F.LANE_EQ_STAT_CM1, F.LANE_EQ_STAT_CM2, F.LANE_RX_STAT_LOGICAL,
      F.LANE_RX_STAT_POL_DET]) [.txIdle (64 + k) false] fun t => t.csb = tookFrame s.csb h ∧ t.spare k =
      { s.spare k with asked := false, waits := false, copying := true, tracked := false } ∧ (t.lane (64 + k)).rate =
      (s.lane (innerLs l)).rate ∧ (t.lane (64 + k)).tx = true) ∧
  (∀ (s : State) (h : CsbHdr) (k l : Nat),
    InOrder s h →
    k < 2 ∧ l < 32 →
    (s.spare k).asked = true ∧ s.spareLane k = l ∧ s.spareState k = 2 ∧ s.rd F.LANE_SLICE_STAT_CALSLICE (64 + k) ≠ 0x7F
      →
    Gives (.spareRsp h k l 0) s [(F.SPARE_STAT_LAST_RES, k, 1)] [.csb, .spare k] [] fun t => t.csb = tookFrame s.csb h ∧
      t.spare k = { s.spare k with asked := false, waits := true }) ∧
  (∀ (s : State) (h : CsbHdr) (k l n : Nat),
    InOrder s h →
    k < 2 ∧ l < 32 ∧ n < 16 →
    (s.spare k).asked = true ∧ s.spareLane k = l ∧ s.spareState k = 2 ∧ (s.lane (64 + k)).tx = false ∧ s.portOfLane l =
      some n →
    Reports (.spareRsp h k l 1) s [(F.SPARE_STAT_STATE, k, 1), (F.SPARE_STAT_LAST_RES, k, 2), (F.SPARE_CNT_NOSPARE, 0,
      min (s.rd F.SPARE_CNT_NOSPARE 0 + 1) 0xFF)] (.csb :: .spare k :: idleSpareParts k l n) [⟨56, k, 0, false⟩] [] fun
      t => t.csb = tookFrame s.csb h ∧ t.spare k = {}) ∧
  (∀ (s : State) (h : CsbHdr) (k l n : Nat),
    InOrder s h →
    k < 2 ∧ l < 32 ∧ n < 16 →
    (s.spare k).asked = true ∧ (s.spare k).ending = false ∧ (s.spare k).rxOwn = false ∧ (s.spare k).rxPeer = false ∧
      s.spareLane k = l ∧ s.spareState k = 2 ∧ (s.lane (64 + k)).tx = false ∧ s.portOfLane l = some n →
    Reports (.spareRsp h k l 2) s [(F.SPARE_STAT_STATE, k, 1), (F.SPARE_STAT_LAST_RES, k, 3), (F.SPARE_CNT_REFUSED, 0,
      min (s.rd F.SPARE_CNT_REFUSED 0 + 1) 0xFF), (F.SPARE_CNT_FAIL, 0, min (s.rd F.SPARE_CNT_FAIL 0 + 1) 0xFF)] (.csb
      :: .spare k :: idleSpareParts k l n) [⟨55, k, 0, false⟩] [] fun t => t.csb = tookFrame s.csb h ∧ t.spare k = {}) ∧
  (∀ (s : State) (h : CsbHdr) (k l res : Nat),
    InOrder s h →
    k < 2 ∧ l < 256 ∧ res < 256 →
    (s.spare k).asked = false →
    Gives (.spareRsp h k l res) s [] [.csb] [] fun t => t.csb = tookFrame s.csb h) ∧
  (∀ (s : State) (k l n : Nat),
    Quiet s →
    k < 2 ∧ l < 32 ∧ n < 16 →
    (s.spare k).asked = true ∧ (s.spare k).ending = false ∧ (s.spare k).rxOwn = false ∧ (s.spare k).rxPeer = false ∧
      s.spareLane k = l ∧ s.spareState k = 2 ∧ (s.lane (64 + k)).tx = false ∧ s.portOfLane l = some n →
    Reports (.spareRspTimeout k) s [(F.SPARE_STAT_STATE, k, 1), (F.SPARE_STAT_LAST_RES, k, 4), (F.SPARE_CNT_REFUSED, 0,
      min (s.rd F.SPARE_CNT_REFUSED 0 + 1) 0xFF), (F.SPARE_CNT_FAIL, 0, min (s.rd F.SPARE_CNT_FAIL 0 + 1) 0xFF)] (.spare
      k :: idleSpareParts k l n) [⟨55, k, 0, false⟩] [] fun t => t.spare k = {}) ∧
  (∀ (s : State) (k : Nat),
    Quiet s →
    k < 2 →
    (s.spare k).asked = false →
    Gives (.spareRspTimeout k) s [] [] [] anyState) ∧
  (∀ (s : State) (h : CsbHdr) (k l n : Nat),
    InOrder s h →
    k < 2 ∧ l < 32 ∧ n < 16 →
    s.flag F.SPARE_CFG_SW_REQ_EN 0 = true ∧ s.sparable l = some n ∧ s.present n = true ∧ k = halfOf l ∧ s.spareState k =
      1 →
    Gives (.spareReq h k l n) s [] [.csb, .spare k] [] fun t => t.csb = tookFrame s.csb h ∧ t.spare k =
      { s.spare k with peerWanted := (s.spare k).peerWanted ++ [(l, n)] }) ∧
  (∀ (s : State) (h : CsbHdr) (k l n : Nat),
    InOrder s h →
    k < 2 ∧ l < 256 ∧ n < 16 →
    s.flag F.SPARE_CFG_SW_REQ_EN 0 = false ∧ s.present n = true ∧ s.associated n = true →
    Gives (.spareReq h k l n) s [] [.csb] [] fun t => t.csb = queued0 (tookFrame s.csb h) 0x31 [k, l, 2]) ∧
  (∀ (s : State) (h : CsbHdr) (k l n : Nat),
    InOrder s h →
    k < 2 ∧ l < 256 ∧ n < 256 →
    (16 ≤ n ∨ s.present n = false ∨ s.associated n = false) →
    Gives (.spareReq h k l n) s [(F.CMP_CSB_CNT2_UNEXP, 0, min (s.rd F.CMP_CSB_CNT2_UNEXP 0 + 1) 0xFFFF)] [.csb] [] fun
      t => t.csb = tookFrame s.csb h)

/-- The requests of one drip. Of two requests of the device for the spare of a half, raised in one drip while the
spare is IDLE, the lower lane's is sent: the spare is REQUESTED and names the lane, port and cause; the other counts
NOSPARE with LAST_RES 2 and SPARE_NONE (source 56). Beside one of the device, a request of the switch ASIC is
answered busy; alone it is granted. (R174, R177, R178.) -/
def Obligations.SpareRequestsAreArbitrated : Prop :=
  (∀ (s : State) (k l n c m i d : Nat),
    k < 2 ∧ l < m ∧ m < 32 ∧ n < 16 ∧ i < 16 ∧ c < 8 →
    s.raised = [] ∧ s.spareState k = 1 ∧ s.csbUp = true ∧ (s.spare k).peerWanted = [] →
    ((s.spare k).wanted = [(l, n, c), (m, i, d)] ∨ (s.spare k).wanted = [(m, i, d), (l, n, c)]) →
    s.sparable l = some n ∧ s.sparable m = some i →
    Leaves s (s.arbitrate k) [(F.SPARE_STAT_STATE, k, 2), (F.SPARE_STAT_LANE, k, l), (F.SPARE_STAT_PORT, k, n),
      (F.SPARE_STAT_CAUSE, k, c), (F.SPARE_CNT_NOSPARE, 0, min (s.rd F.SPARE_CNT_NOSPARE 0 + 1) 0xFF),
      (F.SPARE_STAT_LAST_RES, k, 2)] [.csb, .spare k, .raised] fun t => t.raised = [⟨56, k, 0, false⟩] ∧ t.csb = queued0
      s.csb 0x30 [k, l, n] ∧ t.spare k = { s.spare k with wanted := [], asked := true, start := s.drip }) ∧
  (∀ (s : State) (k l n c m i : Nat),
    k < 2 ∧ l < 32 ∧ m < 32 ∧ n < 16 ∧ i < 16 ∧ c < 8 →
    s.raised = [] ∧ s.spareState k = 1 ∧ s.csbUp = true →
    (s.spare k).wanted = [(l, n, c)] ∧ (s.spare k).peerWanted = [(m, i)] ∧ s.sparable l = some n ∧ s.sparable m = some i
      →
    Leaves s (s.arbitrate k) [(F.SPARE_STAT_STATE, k, 2), (F.SPARE_STAT_LANE, k, l), (F.SPARE_STAT_PORT, k, n),
      (F.SPARE_STAT_CAUSE, k, c), (F.SPARE_CNT_NOSPARE, 0, min (s.rd F.SPARE_CNT_NOSPARE 0 + 1) 0xFF),
      (F.SPARE_STAT_LAST_RES, k, 2)] [.csb, .spare k, .raised] fun t => t.raised = [⟨56, k, 0, false⟩] ∧ t.csb = queued0
      (queued0 s.csb 0x31 [k, m, 1]) 0x30 [k, l, n] ∧ (t.spare k).asked = true) ∧
  (∀ (s : State) (k m i : Nat),
    k < 2 ∧ m < 32 ∧ i < 16 →
    s.spareState k = 1 ∧ s.csbUp = true ∧ s.rd F.LANE_SLICE_STAT_CALSLICE (64 + k) ≠ 0x7F →
    (s.spare k).wanted = [] ∧ (s.spare k).peerWanted = [(m, i)] ∧ s.sparable m = some i →
    Leaves s (s.arbitrate k) [(F.SPARE_STAT_STATE, k, 2), (F.SPARE_STAT_LANE, k, m), (F.SPARE_STAT_PORT, k, i),
      (F.SPARE_STAT_CAUSE, k, 5), (F.SPARE_STAT_LAST_RES, k, 1)] [.csb, .spare k] fun t => t.csb = queued0 s.csb 0x31
      [k, m, 0] ∧ t.spare k = { s.spare k with peerWanted := [], start := s.drip, asked := false, waits := true })

/-- Bringing a spare into service, timing out, and releasing it. A spare whose copy runs tracks: its receiver is at
TRACK, locked, with the offset kept; it then changes over and sends SPARE_RX_ON; SPARE_RX_ON of the peer silences
the lane's own transmitter, and once both use the spare it is ACTIVE, counted in GRANT and flagged for its port.
Steps without their predecessor do nothing. TMO abandons a procedure: LAST_RES 5, FAIL counted, source 55. A release
of an ACTIVE spare moves it to RELEASING and sends SPARE_REL; of any other it does nothing. LANE_HEALTH of an
associated port is kept for its lanes. A window's end counts bad windows of the lanes that fail in a port in L0,
clears the others, and starts the next count. CNT_CLR clears SPARE_CNT. A needed spare without power powers up.
(R175, R178, R179, R180, R181, R182, R189.) -/
def Obligations.SparesEnterAndLeaveService : Prop :=
  (∀ (s : State) (k offset : Nat),
    Quiet s →
    k < 2 →
    (s.spare k).copying = true ∧ s.spareState k = 3 →
    Gives (.spareTrack k offset) s [(F.LANE_RX_STAT_ASTATE, 64 + k, 5), (F.LANE_RX_STAT_CDR_LOCK, 64 + k, 1),
      (F.LANE_RX_STAT_SIGDET, 64 + k, 1)] [.spare k, .lane (64 + k)] [] fun t => t.spare k =
      { s.spare k with tracked := true, offset := offset } ∧ t.lane (64 + k) =
      { s.lane (64 + k) with converged := true }) ∧
  (∀ (s : State) (k offset : Nat),
    Quiet s →
    k < 2 →
    (s.spare k).copying = false →
    Gives (.spareTrack k offset) s [] [] [] anyState) ∧
  (∀ (s : State) (k : Nat),
    Quiet s →
    k < 2 →
    (s.spare k).tracked = true ∧ (s.spare k).ending = false ∧ (s.spare k).rxOwn = false ∧ (s.spare k).rxPeer = false ∧
      s.spareState k = 3 →
    s.csbUp = true →
    Gives (.spareSwitchover k) s [] [.csb, .spare k] [] fun t => t.csb = queued0 s.csb 0x32 [k, s.spareLane k, 1] ∧
      t.spare k = { s.spare k with rxOwn := true }) ∧
  (∀ (s : State) (k : Nat),
    Quiet s →
    k < 2 →
    (s.spare k).tracked = false ∧ (s.spare k).ending = false →
    Gives (.spareSwitchover k) s [] [] [] anyState) ∧
  (∀ (s : State) (h : CsbHdr) (k l : Nat),
    InOrder s h →
    k < 2 ∧ l < 32 →
    s.spareLane k = l ∧ s.spareState k = 3 ∧ (s.spare k).ending = false ∧ (s.spare k).rxOwn = false ∧ (s.lane (innerLs
      l)).tx = true →
    Gives (.spareRxOn h k l true) s [] [.csb, .spare k, .lane (innerLs l)] [.txIdle (innerLs l) true] fun t => t.csb =
      tookFrame s.csb h ∧ t.spare k = { s.spare k with rxPeer := true } ∧ (t.lane (innerLs l)).tx = false) ∧
  (∀ (s : State) (h : CsbHdr) (k l n : Nat),
    InOrder s h →
    k < 2 ∧ l < 32 ∧ n < 16 →
    s.spareLane k = l ∧ s.spareState k = 3 ∧ (s.spare k).ending = false ∧ (s.spare k).rxOwn = true ∧ (s.lane (innerLs
      l)).tx = true ∧ s.portOfLane l = some n →
    Gives (.spareRxOn h k l true) s [(F.SPARE_STAT_STATE, k, 4), (F.SPARE_CNT_GRANT, 0, min (s.rd F.SPARE_CNT_GRANT 0 +
      1) 0xFF), (if k = 0 then F.CMP_PORT_STAT_SP0 else F.CMP_PORT_STAT_SP1, n, 1), (F.LANE_RX_STAT_ASTATE, innerLs l,
      0), (F.LANE_RX_STAT_CDR_LOCK, innerLs l, 0), (F.LANE_RX_STAT_SIGDET, innerLs l, 0)] (.csb :: .spare k :: .lane
      (innerLs l) :: laneFields [innerLs l] [F.LANE_SLICE_STAT_MARG, F.LANE_SLICE_STAT_CALSLICE]) [.txIdle (innerLs l)
      true] fun t => t.csb = tookFrame s.csb h ∧ t.spare k =
      { s.spare k with rxPeer := true, copying := false, tracked := false }) ∧
  (∀ (s : State) (h : CsbHdr) (k l : Nat) (uses : Bool),
    InOrder s h →
    k < 2 ∧ l < 256 →
    s.spareLane k ≠ l →
    Gives (.spareRxOn h k l uses) s [] [.csb] [] fun t => t.csb = tookFrame s.csb h) ∧
  (∀ (s : State) (k l n : Nat),
    Quiet s →
    k < 2 ∧ n < 16 ∧ l = s.spareLane k →
    ((s.spare k).ending = false ∧ (s.spare k).rxOwn = false ∧ (s.spare k).rxPeer = false ∧ (s.spareState k = 2 ∨
      s.spareState k = 3) ∧ (s.lane (64 + k)).tx = false ∧ s.portOfLane l = some n) →
    Reports (.spareTmo k) s [(F.SPARE_STAT_STATE, k, 1), (F.SPARE_STAT_LAST_RES, k, 5), (F.SPARE_CNT_FAIL, 0, min (s.rd
      F.SPARE_CNT_FAIL 0 + 1) 0xFF)] (.spare k :: idleSpareParts k l n) [⟨55, k, 0, false⟩] [] fun t => t.spare k = {})
      ∧
  (∀ (s : State) (k : Nat),
    Quiet s →
    k < 2 →
    ((s.spare k).ending = false ∧ (s.spareState k < 2 ∨ s.spareState k = 4)) →
    Gives (.spareTmo k) s [] [] [] anyState) ∧
  (∀ (s : State) (r : Requester) (n : Nat),
    CoreReady s r →
    s.spareState 0 = 4 ∧ s.csbUp = true ∧ s.portOfLane (s.spareLane 0) = some n →
    Gives (.spareCtlRelS0 r) s [(F.SPARE_STAT_STATE, 0, 5), (F.CMP_PORT_STAT_SP0, n, 0)] [.csb, .spare 0] [.writeAck]
      fun t => t.csb = queued0 s.csb 0x33 [0, s.spareLane 0] ∧ t.spare 0 =
      { s.spare 0 with asked := true, copying := false, tracked := false, start := s.drip }) ∧
  (∀ (s : State) (r : Requester),
    CoreReady s r →
    s.spareState 0 ≠ 4 →
    Gives (.spareCtlRelS0 r) s [] [] [.writeAck] anyState) ∧
  (∀ (s : State) (r : Requester) (n : Nat),
    CoreReady s r →
    s.spareState 1 = 4 ∧ s.csbUp = true ∧ s.portOfLane (s.spareLane 1) = some n →
    Gives (.spareCtlRelS1 r) s [(F.SPARE_STAT_STATE, 1, 5), (F.CMP_PORT_STAT_SP1, n, 0)] [.csb, .spare 1] [.writeAck]
      fun t => t.csb = queued0 s.csb 0x33 [1, s.spareLane 1] ∧ t.spare 1 =
      { s.spare 1 with asked := true, copying := false, tracked := false, start := s.drip }) ∧
  (∀ (s : State) (r : Requester),
    CoreReady s r →
    s.spareState 1 ≠ 4 →
    Gives (.spareCtlRelS1 r) s [] [] [.writeAck] anyState) ∧
  (∀ (s : State) (r : Requester),
    CoreReady s r →
    Gives (.spareCtlCntClr r) s (Reg.SPARE_CNT.fields.map fun f => (f, 0, 0)) [] [.writeAck] anyState) ∧
  (∀ (s : State) (h : CsbHdr) (n w : Nat) (counts : List Nat),
    InOrder s h →
    (n < 16 ∧ w < 256 ∧ counts.length = 16 ∧ ∀ c ∈ counts, c < 2 ^ 16) →
    s.present n = true ∧ s.associated n = true →
    Gives (.laneHealth h n w counts) s [] (.csb :: (s.sideLs n true).map .lane) [] fun t => t.csb = tookFrame s.csb h ∧
      ∀ i ∈ List.range (s.width n), (t.lane (s.innerOf (firstLane n + i))).health = counts.getD i 0 ∧ (t.lane (s.innerOf
      (firstLane n + i))).healthAge = 0) ∧
  (∀ (s : State) (h : CsbHdr) (n w : Nat) (counts : List Nat),
    InOrder s h →
    (n < 16 ∧ w < 256 ∧ counts.length = 16 ∧ ∀ c ∈ counts, c < 2 ^ 16) →
    s.associated n = false ∧ (s.port n).attempt = .none →
    Gives (.laneHealth h n w counts) s [(F.CMP_CSB_CNT2_UNEXP, 0, min (s.rd F.CMP_CSB_CNT2_UNEXP 0 + 1) 0xFFFF)] [.csb]
      [] fun t => t.csb = tookFrame s.csb h) ∧
  (∀ (s : State),
    Quiet s →
    s.flag F.SPARE_CFG_AUTO 0 = true →
    (∀ l ∈ List.range 32, (s.lane (s.innerOf l)).badWindows + 1 < s.rd F.SPARE_CFG_PERSIST 0) →
    Gives .spareWindow s [] ((List.range 66).map .lane) [] fun t => ∀ l ∈ List.range 32, t.lane (s.innerOf l) =
      { s.lane (s.innerOf l) with
        badWindows := if (s.sparable l).isSome ∧ (s.laneFails l).isSome then (s.lane (s.innerOf l)).badWindows + 1 else 0,
        syms := 0, relocks := 0, healthAge := min ((s.lane (s.innerOf l)).healthAge + 1) 2 }) ∧
  (∀ (s : State),
    Quiet s →
    s.flag F.SPARE_CFG_AUTO 0 = false →
    Gives .spareWindow s [] ((List.range 66).map .lane) [] fun t => ∀ l ∈ List.range 32, t.lane (s.innerOf l) =
      { s.lane (s.innerOf l) with
        badWindows := 0, syms := 0, relocks := 0, healthAge := min ((s.lane (s.innerOf l)).healthAge + 1) 2 }) ∧
  (∀ (s : State) (k : Nat),
    Quiet s →
    k < 2 →
    (s.spareState k = 0 ∧ s.spareNeeded k = true ∧ (s.spareState (1 - k) ≠ 1 ∨ s.spareNeeded (1 - k) = true)) →
    Gives (.sparePowerUp k) s [(F.SPARE_STAT_STATE, k, 1), (F.PWR_DOM_STAT_SGATED, 0, if s.spareState (1 - k) = 0 then 2
      ^ (1 - k) else 0)] [] [] anyState) ∧
  (∀ (s : State) (k : Nat),
    Quiet s →
    k < 2 →
    (s.spareState k ≠ 0 ∨ s.spareNeeded k = false) →
    Gives (.sparePowerUp k) s [] [] [] anyState)

/-- Outbound and inbound slots, and errata past their deadline. With rows running and nothing pending, the device
sends a Fill slot; with one eligible erratum entry, an erratum slot that carries it, counted in SENT with its number
in ERR_SEQ; each decision takes the next row. Without rows, and where the row has not its 32 data flits, nothing is
sent. A slot that does not follow the 32 data flits of its row does nothing. A slot whose header check fails counts
as BADSLOT and lengthens the run of bad ones; one that passes ends the run and locks the rows; a Fill slot does no
more; one outside its class's ranges counts as MALF; a replay request is queued; a body in time for a held flit
replaces it and counts as OK; a message of a view whose checks it passes joins that view's request ring. An erratum
entry past its deadline is dropped, counted and reported as ERRATUM_DROP (source 51). CNT_CLR clears the slot
counters of every port. (R133, R134, R135, R158, R192, R195, R196, R200, R207, R209, R214, R309.) -/
def Obligations.SlotsAreSentAndTaken : Prop :=
  (∀ (s : State) (n young und uns : Nat) (ecc : Ecc),
    Quiet s →
    n < 16 ∧ ecc.wf = true ∧ und ≤ 32 ∧ uns ≤ 32 →
    ((s.port n).rows = false ∨ (s.port n).outPos + und + uns ≠ 32 * ((s.port n).slotsOut + 1)) →
    Gives (.slotDecision n young ecc und uns) s [] [] [] anyState) ∧
  (∀ (s : State) (n young und uns : Nat) (ecc : Ecc),
    Quiet s →
    n < 16 ∧ ecc.wf = true ∧ und ≤ 32 ∧ uns ≤ 32 →
    (s.port n).rows = true ∧ (s.port n).outPos + und + uns = 32 * ((s.port n).slotsOut + 1) ∧ (s.port n).errata = [] ∧
      (s.port n).holdReqs = [] ∧ (s.port n).rplReqs = [] ∧ (s.port n).refused = [] →
    (s.view (n + 1)).q3 = [] ∧ (s.heat n).chunk = none →
    Gives (.slotDecision n young ecc und uns) s [] (.port n :: .view (n + 1) :: (List.range 5).flatMap fun c => partsOf
      [F.CMP_Q_STAT_DWM, F.CMP_Q_STAT_TWM] (5 * n + c)) [.slot n (mkSlot n (s.outRow n) [224, 0, 0, 0] [] false)] fun t
      => (t.port n).slotsOut = (s.port n).slotsOut + 1) ∧
  (∀ (s : State) (n young und uns num : Nat) (ecc : Ecc) (e : ErrEntry),
    Quiet s →
    n < 16 ∧ ecc.wf = true ∧ und ≤ 32 ∧ uns ≤ 32 →
    (s.port n).rows = true ∧ (s.port n).outPos + und + uns = 32 * ((s.port n).slotsOut + 1) ∧ (s.port n).errata = [e] ∧
      e.eligible (s.port n).slotsOut = true ∧ e.issue ≠ 0 →
    num = (s.port n).errNum ∧ num < 65536 →
    Gives (.slotDecision n young ecc und uns) s [(F.PORT_ERRATA_SENT_SENT, n, min (s.rd F.PORT_ERRATA_SENT_SENT n + 1)
      0xFFFFFFFF), (F.PORT_ERRATA_STAT_ERR_SEQ, n, num)] (.port n :: .view (n + 1) :: (List.range 5).flatMap fun c =>
      partsOf [F.CMP_Q_STAT_DWM, F.CMP_Q_STAT_TWM] (5 * n + c)) [.slot n (mkSlot n (s.outRow n) ([65, 0] ++ leBytes num
      2) e.bytes true)] fun t => (t.port n).errata = [] ∧ (t.port n).errNum = (num + 1) % 65536 ∧ (t.port n).slotsOut =
      (s.port n).slotsOut + 1) ∧
  (∀ (s : State) (n : Nat) (slot : List Nat),
    Quiet s →
    n < 16 ∧ slot.length = 256 ∧ bytesWf slot = true ∧ byte0 slot / 32 = 7 →
    s.slotHere n = true ∧ hcrcOk n (s.inRow n) slot = true →
    Gives (.fillSlot n slot) s [(F.CMP_PORT_STAT_ROWLOCK, n, 1)] [.port n] [] fun t => t.port n =
      { s.port n with slotsIn := (s.port n).slotsIn + 1, badRun := 0 }) ∧
  (∀ (s : State) (n : Nat) (slot : List Nat),
    Quiet s →
    n < 16 ∧ slot.length = 256 ∧ bytesWf slot = true ∧ byte0 slot / 32 ≠ 0 →
    s.slotHere n = true ∧ hcrcOk n (s.inRow n) slot = false →
    Gives (.badSlot n slot) s [(F.CMP_PORT_CNT_BADSLOT, n, min (s.rd F.CMP_PORT_CNT_BADSLOT n + 1) 0xFFFF)] [.port n] []
      fun t => t.port n = { s.port n with slotsIn := (s.port n).slotsIn + 1, badRun := (s.port n).badRun + 1 }) ∧
  (∀ (s : State) (n : Nat) (slot : List Nat),
    Quiet s →
    n < 16 ∧ slot.length = 256 ∧ bytesWf slot = true →
    s.slotHere n = false →
    byte0 slot / 32 = 7 →
    Gives (.fillSlot n slot) s [] [] [] anyState) ∧
  (∀ (s : State) (n : Nat) (slot : List Nat),
    Quiet s →
    n < 16 ∧ slot.length = 256 ∧ bytesWf slot = true ∧ byte0 slot / 32 = 1 ∧ slotClass slot = 1 →
    s.slotHere n = true ∧ hcrcOk n (s.inRow n) slot = true ∧ pcrcOk slot = true ∧ byteAt slot 1 = 1 ∧ (s.port
      n).rplReqs.length < 64 →
    Gives (.replayRequestSlot n slot) s [(F.CMP_PORT_STAT_ROWLOCK, n, 1)] [.port n] [] fun t => t.port n =
      { s.port n with
        slotsIn := (s.port n).slotsIn + 1, badRun := 0,
        rplReqs := (s.port n).rplReqs ++ [{ row := leAt slot 6 2, index := byteAt slot 8 / 8, age := 0 }] }) ∧
  (∀ (s : State) (n : Nat) (slot : List Nat),
    Quiet s →
    n < 16 ∧ slot.length = 256 ∧ bytesWf slot = true ∧ byte0 slot / 32 = 1 ∧ slotClass slot = 1 →
    (s.slotHere n = true ∧ hcrcOk n (s.inRow n) slot = true ∧ (byteAt slot 1 = 0 ∨ 60 < byteAt slot 1)) →
    Gives (.replayRequestSlot n slot) s [(F.CMP_PORT_STAT_ROWLOCK, n, 1), (F.CMP_SLOT_CNT_MALF, n, min (s.rd
      F.CMP_SLOT_CNT_MALF n + 1) 0xFFFF)] [.port n] [] anyState) ∧
  (∀ (s : State) (n : Nat) (slot : List Nat) (arr : BodyArrival) (q : HoldReq),
    Quiet s →
    n < 16 ∧ slot.length = 256 ∧ bytesWf slot = true ∧ byte0 slot / 32 = 0 ∧ slotClass slot = 0 ∧ byteAt slot 0 = 0 →
    s.slotHere n = true ∧ hcrcOk n (s.inRow n) slot = true ∧ s.rd F.PORT_STAT_EMODE_IO n = 3 →
    (s.port n).holdReqs = [q] ∧ q.row = leAt slot 2 2 ∧ q.index = byteAt slot 1 / 8 ∧ q.held = true →
    s.inTime n arr.ps = true ∧ arr.crcOk = true →
    Gives (.replaySlot n slot arr) s [(F.CMP_PORT_STAT_ROWLOCK, n, 1), (F.CMP_HOLD_CNT_OK, n, min (s.rd
      F.CMP_HOLD_CNT_OK n + 1) 0xFFFF)] [.port n] [] fun t => (t.port n).holdReqs = [] ∧ (t.port n).held = (s.port
      n).held.map fun h => if h.row = q.row ∧ h.index = q.index then
      { h with body := some (sliceBytes slot 6 250, arr.info) } else h) ∧
  (∀ (s : State) (n v : Nat) (slot e : List Nat),
    Quiet s →
    n < 16 ∧ slot.length = 256 ∧ bytesWf slot = true ∧ byte0 slot / 32 = 3 ∧ slotClass slot = 3 ∧ byteAt slot 1 = 0 →
    s.slotHere n = true ∧ hcrcOk n (s.inRow n) slot = true ∧ pcrcOk slot = true ∧ bit (s.port n).police 16 = false →
    v = n + 1 ∧ e = sliceBytes slot 6 128 ∧ Admits s v e ∧ s.present n = true →
    s.seqMark v e = .ok ∧ e.length = 128 →
    Gives (.portViewMessageSlot n slot) s [(F.CMP_PORT_STAT_ROWLOCK, n, 1), (F.MGMT_VIEW_PTR_REQ_WR, v, (s.rd
      F.MGMT_VIEW_PTR_REQ_WR v + 1) % 128), (F.MGMT_VIEW_CNT_ACCEPTED, v, min (s.rd F.MGMT_VIEW_CNT_ACCEPTED v + 1)
      0xFFFF), (F.MGMT_VIEW_SEQ_QSEQ_NEXT, v, (s.rd F.MGMT_VIEW_SEQ_QSEQ_NEXT v + 1) % 65536),
      (F.MGMT_VIEW_STAT_GAP_SENT, v, 0)] (.port n :: (List.range 128).map fun k => .byte (reqAddr v (s.rd
      F.MGMT_VIEW_PTR_REQ_WR v) + k)) [] fun t => t.rdBytes (reqAddr v (s.rd F.MGMT_VIEW_PTR_REQ_WR v)) 5 = e.take 5) ∧
  (∀ (s : State) (n : Nat) (e : ErrEntry),
    Quiet s →
    n < 16 →
    (s.port n).errata = [e] ∧ e.due < (s.port n).slotsOut →
    Reports (.erratumDeadline n) s [(F.PORT_ERRATA_CNT_DROP, n, min (s.rd F.PORT_ERRATA_CNT_DROP n + 1) 0xFFFF)] [.port
      n] [⟨51, n, 0, false⟩] [] fun t => (t.port n).errata = []) ∧
  (∀ (s : State) (n : Nat),
    Quiet s →
    n < 16 →
    (∀ e ∈ (s.port n).errata, (s.port n).slotsOut ≤ e.due) →
    Gives (.erratumDeadline n) s [] [] [] anyState) ∧
  (∀ (s : State) (r : Requester),
    CoreReady s r →
    Gives (.cmpSlotCtlCntClr r) s ((List.range 16).flatMap fun n => (Reg.CMP_RPL_SENT.fields ++ Reg.CMP_RPL_CNT.fields
      ++ Reg.CMP_RPL_CNT2.fields ++ Reg.CMP_HOLD_CNT.fields ++ Reg.CMP_HOLD_CNT2.fields ++ Reg.CMP_SLOT_CNT.fields ++
      Reg.CMP_POLICE_CNT.fields).map fun f => (f, n, 0)) [] [.writeAck] anyState)

/-- Write-back, flush, export and the heat windows. The oldest queued cache entry of a parser is added to its entry
with the parser's LFSR; with nothing queued, or the core domain stopped, nothing happens. When nothing of the other
bank waits, FLUSHING ends in FROZEN and an enabled exporting partition of an associated port starts its export with
its configuration latched; with a release waiting it ends in CLEARING instead. The entries of the next chunk are
read in order. HEAT_PLFSR takes what is written, 0xACE1 for 0. A window write takes effect while every partition and
window is disabled, and is refused otherwise. (R201, R223, R226, R227, R233, R234, R240, R241, R246.) -/
def Obligations.HeatUpdatesReachTheirBanks : Prop :=
  (∀ (s : State) (n a : Nat) (c : CacheEnt),
    Quiet s →
    n < 16 ∧ s.coreRuns = true →
    (c.bank < 2 ∧ c.idx < (if c.zoom then 65536 else 262144) ∧ a = heatAddr c.zoom c.bank c.idx) →
    (s.heat n).wbq = [c.key] ∧ (s.heat n).cache = [c] ∧ (s.heat n).queue = [] ∧ s.sharedEntry c.zoom c.idx = false →
    s.rd F.HEAT_PLFSR_STATE n < 65536 →
    Gives (.cacheWriteBack n .ok) s [(F.HEAT_PLFSR_STATE, n, (entryAdd (s.rdWord32 a) (s.rd F.HEAT_PLFSR_STATE n) c.rd
      c.wr).2)] (.heat n :: runParts a 4) [] fun t => t.rdWord32 a = (entryAdd (s.rdWord32 a) (s.rd F.HEAT_PLFSR_STATE
      n) c.rd c.wr).1 ∧ (t.heat n).cache = [] ∧ (t.heat n).wbq = []) ∧
  (∀ (s : State) (n : Nat) (ecc : Ecc),
    Quiet s →
    n < 16 →
    ((s.heat n).wbq = [] ∨ s.coreRuns = false) →
    Gives (.cacheWriteBack n ecc) s [] [] [] anyState) ∧
  (∀ (s : State),
    Quiet s →
    s.coreRuns = true ∧ s.rd F.HEAT_STAT_OSTATE 0 = 0 ∧ s.flushed s.otherBank = true ∧ s.flag F.HEAT_STAT_REL_PEND 0 =
      false →
    NoExport s →
    (∀ p ∈ List.range 16, s.rd F.HEAT_PCFG_EXPORT p ≠ 1) →
    Gives .flushEnd s [(F.HEAT_STAT_OSTATE, 0, 1), (F.HEAT_STAT_EXP_BUSY, 0, 0)] [] [] anyState) ∧
  (∀ (s : State) (p : Nat),
    Quiet s →
    s.coreRuns = true ∧ s.rd F.HEAT_STAT_OSTATE 0 = 0 ∧ s.flushed s.otherBank = true ∧ s.flag F.HEAT_STAT_REL_PEND 0 =
      false →
    NoExport s →
    (p < 16 ∧ s.rd F.HEAT_PCTL_EN p = 1 ∧ s.associated p = true ∧ ∀ q ∈ List.range 16, (s.rd F.HEAT_PCFG_EXPORT q = 1 ↔
      q = p)) →
    Gives .flushEnd s [(F.HEAT_STAT_OSTATE, 0, 1), (F.HEAT_STAT_EXP_BUSY, 0, 1), (F.HEAT_EXP_STAT_ACTIVE, p, 1),
      (F.HEAT_EXP_STAT_WAIT, p, if (s.port p).rows then 0 else 1), (F.HEAT_EXP_STAT_EPOCH, p, s.rd
      F.HEAT_BANK_EPOCH_EPOCH s.otherBank % 256), (F.HEAT_EXP_STAT_NEXT, p, 0), (F.HEAT_EXP_STAT_ZPH, p, 0),
      (F.HEAT_EXP_STAT_ZWIN, p, 0)] [.heat p] [] fun t => t.heat p =
      { s.heat p with
        exBank := s.otherBank, exFirst := s.rd F.HEAT_PRANGE_FIRST p, exLen := s.partLen p, exZooms := s.exportZooms p,
        chunk := none }) ∧
  (∀ (s : State),
    Quiet s →
    s.coreRuns = true ∧ s.rd F.HEAT_STAT_OSTATE 0 = 0 ∧ s.flushed s.otherBank = true ∧ s.flag F.HEAT_STAT_REL_PEND 0 =
      true ∧ s.rd F.HEAT_STAT_LIVE 0 < 2 →
    Gives .flushEnd s ((F.HEAT_STAT_OSTATE, 0, 2) :: (F.HEAT_STAT_REL_PEND, 0, 0) :: bankZeros s.otherBank) (bankParts
      s.otherBank) [] fun t => BankZero s.otherBank t) ∧
  (∀ (s : State),
    Quiet s →
    (s.coreRuns = false ∨ s.rd F.HEAT_STAT_OSTATE 0 ≠ 0 ∨ s.flushed s.otherBank = false) →
    Gives .flushEnd s [] [] [] anyState) ∧
  (∀ (s : State) (p : Nat),
    Quiet s →
    p < 16 ∧ s.coreRuns = true ∧ s.rd F.HEAT_EXP_STAT_ACTIVE p = 1 ∧ (s.heat p).chunk = none →
    ((s.chunkEntries p).all (fun e => match e with | some (z, i) => !s.sharedEntry z i | none => true) = true) →
    Gives (.chunkReady p []) s [] [.heat p, .port p] [] fun t => (t.heat p).chunk = some ((s.chunkEntries p).flatMap fun
      e => match e with | some (z, i) => leBytes (s.rdWord32 (heatAddr z (s.heat p).exBank i)) 4 | none => [0, 0, 0, 0])
      ∧ (t.port p).chunkAge = 0) ∧
  (∀ (s : State) (p : Nat) (ue : List Nat),
    Quiet s →
    p < 16 →
    (s.coreRuns = false ∨ s.rd F.HEAT_EXP_STAT_ACTIVE p ≠ 1 ∨ (s.heat p).chunk.isSome = true) →
    Gives (.chunkReady p ue) s [] [] [] anyState) ∧
  (∀ (s : State) (r : Requester) (p v : Nat),
    CoreReady s r →
    p < 16 ∧ v < 2 ^ 32 →
    Gives (.heatPlfsrWrite r p v) s [(F.HEAT_PLFSR_STATE, p, if v % 65536 = 0 then 0xACE1 else v % 65536)] []
      [.writeAck] anyState) ∧
  (∀ (s : State) (r : Requester) (a v : Nat),
    CoreReady s r →
    0x200000 ≤ a ∧ a < 0x480000 ∧ a % 4 = 0 ∧ v < 2 ^ 32 →
    (∀ k ∈ List.range 16, s.rd F.HEAT_PCTL_EN k ≠ 1 ∧ s.rd F.HEAT_ZCTL_EN k ≠ 1) →
    Gives (.heatWindowWrite r a v) s [] (runParts a 4) [.writeAck] fun t => t.rdWord32 a = v) ∧
  (∀ (s : State) (r : Requester) (a v : Nat),
    CoreReady s r →
    0x200000 ≤ a ∧ a < 0x480000 ∧ a % 4 = 0 ∧ v < 2 ^ 32 →
    (¬ ∀ k ∈ List.range 16, s.rd F.HEAT_PCTL_EN k ≠ 1 ∧ s.rd F.HEAT_ZCTL_EN k ≠ 1) →
    s.werrAny = true →
    Gives (.heatWindowWrite r a v) s [(F.GLB_WERR_HEAT, 0, 1)] [] [.writeAck] fun t => t.refusedNow = true)

/-- Releases and clears. A release of the FROZEN bank moves it to CLEARING with its memory, its half of the zoom table
and its counters 0, by HEAT_CTL.REL or on its own where AUTO_REL is 1; while FLUSHING a release waits, elsewhere it
does nothing. The end of clearing leaves the bank CLEAN. A partition or window clear disables it and starts in the
live bank, CLR_BUSY 1; its end leaves the entries of that bank, and a partition's counters of it, 0. CNT_CLR clears
the swap and export counters. (R224, R234, R238, R243, R245.) -/
def Obligations.BanksAndWindowsAreCleared : Prop :=
  (∀ (s : State) (r : Requester),
    CoreReady s r →
    s.rd F.HEAT_STAT_OSTATE 0 = 1 ∧ s.rd F.HEAT_STAT_LIVE 0 < 2 →
    NoExport s →
    Gives (.heatCtlRel r) s ((F.HEAT_STAT_OSTATE, 0, 2) :: bankZeros s.otherBank) (bankParts s.otherBank) [.writeAck]
      fun t => BankZero s.otherBank t) ∧
  (∀ (s : State) (r : Requester),
    CoreReady s r →
    s.rd F.HEAT_STAT_OSTATE 0 = 0 →
    Gives (.heatCtlRel r) s [(F.HEAT_STAT_REL_PEND, 0, 1)] [] [.writeAck] anyState) ∧
  (∀ (s : State) (r : Requester),
    CoreReady s r →
    2 ≤ s.rd F.HEAT_STAT_OSTATE 0 →
    Gives (.heatCtlRel r) s [] [] [.writeAck] anyState) ∧
  (∀ (s : State),
    Quiet s →
    s.flag F.HEAT_CFG_AUTO_REL 0 = true ∧ s.rd F.HEAT_STAT_OSTATE 0 = 1 ∧ s.rd F.HEAT_STAT_LIVE 0 < 2 →
    NoExport s →
    Gives .autoRelease s ((F.HEAT_STAT_OSTATE, 0, 2) :: bankZeros s.otherBank) (bankParts s.otherBank) [] fun t =>
      BankZero s.otherBank t) ∧
  (∀ (s : State),
    Quiet s →
    (s.flag F.HEAT_CFG_AUTO_REL 0 = false ∨ s.rd F.HEAT_STAT_OSTATE 0 ≠ 1) →
    Gives .autoRelease s [] [] [] anyState) ∧
  (∀ (s : State),
    Quiet s →
    Gives .clearEnd s [(F.HEAT_STAT_OSTATE, 0, if s.rd F.HEAT_STAT_OSTATE 0 = 2 then 3 else s.rd F.HEAT_STAT_OSTATE 0)]
      [] [] anyState) ∧
  (∀ (s : State) (r : Requester) (p : Nat),
    CoreReady s r →
    p < 16 →
    (s.heat p).clr = none →
    Gives (.heatPctlClr r p) s [(F.HEAT_PCTL_EN, p, 0), (F.HEAT_PCTL_CLR_BUSY, p, 1)] [.heat p] [.writeAck] fun t =>
      t.heat p = { s.heat p with clr := some (s.liveBank, s.rd F.HEAT_PRANGE_FIRST p, s.partLen p) }) ∧
  (∀ (s : State) (p b i n : Nat),
    Quiet s →
    p < 16 ∧ b < 2 ∧ n ≤ 262144 ∧ i + n ≤ 262144 →
    s.coreRuns = true ∧ (s.heat p).clr = some (b, i, n) →
    Gives (.partitionClearEnd p) s ((F.HEAT_PCTL_CLR_BUSY, p, 0) :: F.bankCounters.map fun f => (f, 2 * p + b, 0))
      (.heat p :: runParts (heatAddr false b i) (4 * n)) [] fun t => ReadsZero t (heatAddr false b i) (4 * n) ∧ (t.heat
      p).clr = none) ∧
  (∀ (s : State) (p : Nat),
    Quiet s →
    p < 16 →
    (s.coreRuns = false ∨ (s.heat p).clr = none) →
    Gives (.partitionClearEnd p) s [] [] [] anyState) ∧
  (∀ (s : State) (r : Requester) (z : Nat),
    CoreReady s r →
    z < 16 →
    s.zclr.get z 0 = 0 →
    Gives (.heatZctlClr r z) s [(F.HEAT_ZCTL_EN, z, 0), (F.HEAT_ZCTL_CLR_BUSY, z, 1)] [.zclr] [.writeAck] fun t =>
      t.zclr = s.zclr.set z (1 + s.liveBank) 0) ∧
  (∀ (s : State) (z b : Nat),
    Quiet s →
    z < 16 ∧ b < 2 →
    s.coreRuns = true ∧ s.zclr.get z 0 = b + 1 →
    Gives (.zoomClearEnd z) s [(F.HEAT_ZCTL_CLR_BUSY, z, 0)] (.zclr :: runParts (heatAddr true b (4096 * z)) 0x4000) []
      fun t => ReadsZero t (heatAddr true b (4096 * z)) 0x4000 ∧ t.zclr = s.zclr.set z 0 0) ∧
  (∀ (s : State) (z : Nat),
    Quiet s →
    z < 16 →
    (s.coreRuns = false ∨ s.zclr.get z 0 = 0) →
    Gives (.zoomClearEnd z) s [] [] [] anyState) ∧
  (∀ (s : State) (r : Requester),
    CoreReady s r →
    Gives (.heatCtlCntClr r) s ((F.HEAT_SWAP_CNT_SWAPS, 0, 0) :: (F.HEAT_SWAP_CNT_SWAP_SKIPPED, 0, 0) :: (List.range
      16).flatMap fun p => [(F.HEAT_EXP_CNT_DONE, p, 0), (F.HEAT_EXP_CNT_ABORT, p, 0)]) [] [.writeAck] anyState)

/-- Sources present, lost and returned, and PLL lock. The crystal is declared present, and a source that returns is
present and no longer lost; a PLL reports lock only while its reference is present, no source that feeds a PLL is
lost and no power-on reset is held (log entry 114), the core PLL only from stage 5 on, and the crystal and
management PLLs switch the domains that CLK_SRC gives them; a quad PLL of a gated quad does not lock. The loss of
the source of one side's quad PLLs, with no port up, clears its presence and their locks, sets the loss flag,
counts, and reports CLK_LOSS (source 9); the loss of a source already lost changes nothing. (R249, R251, R252, R254,
R256.) -/
def Obligations.SourcesAndPllsStart : Prop :=
  (∀ (s : State),
    Quiet s →
    Gives .crystalPresent s [(F.CLK_STAT_XTAL_OK, 0, 1)] [.clk] [] fun t => t.clk =
      { s.clk with lost := s.clk.lost.filter (· != 0) }) ∧
  (∀ (s : State) (src : Nat),
    Quiet s →
    src < 3 →
    Gives (.sourceReturn src) s [(F.srcOk src, 0, 1)] [.clk] [] fun t => t.clk =
      { s.clk with lost := s.clk.lost.filter (· != src) }) ∧
  (∀ (s : State) (q : Nat),
    Quiet s →
    q < 8 →
    s.pllMay s.outerSrc = true ∧ s.quadGated q = false →
    Gives (.pllLock (.quadOuter q)) s [(F.QUAD_STAT_PLL_O_LOCK, q, 1)] [] [] anyState) ∧
  (∀ (s : State) (q : Nat),
    Quiet s →
    q < 8 →
    s.pllMay s.innerSrc = true ∧ s.quadGated q = false →
    Gives (.pllLock (.quadInner q)) s [(F.QUAD_STAT_PLL_I_LOCK, q, 1)] [] [] anyState) ∧
  (∀ (s : State),
    Quiet s →
    s.pllMay 0 = true →
    Gives (.pllLock .mgmt) s [(F.CLK_STAT_MPLL_LOCK, 0, 1), (F.CLK_STAT_MGMT_ON, 0, if s.rd F.CLK_SRC_MGMT 0 = 1 then 1
      else 0), (F.CLK_STAT_SAFE_ON, 0, if s.rd F.CLK_SRC_SAFE 0 = 1 ∧ s.rd F.CLK_STAT_XPLL_LOCK 0 = 1 then 1 else 0)] []
      [] anyState) ∧
  (∀ (s : State),
    Quiet s →
    s.pllMay s.coreSrc = true ∧ s.rd F.CMP_CSB_CTL_EN 0 ≠ 1 ∧ 5 ≤ s.rd F.BOOT_STAT_STAGE 0 →
    Gives (.pllLock .core) s [(F.CLK_STAT_CPLL_LOCK, 0, 1)] [.clk] [] fun t => t.clk =
      { s.clk with coreLocked := true }) ∧
  (∀ (s : State),
    Quiet s →
    s.rd F.BOOT_STAT_STAGE 0 < 5 →
    Gives (.pllLock .core) s [] [] [] anyState) ∧
  (∀ (s : State) (p : Pll),
    Quiet s →
    (s.held = true ∨ ∃ k ∈ s.clk.lost, s.feeds k = true) →
    p.wf = true →
    Gives (.pllLock p) s [] [] [] anyState) ∧
  (∀ (s : State),
    Quiet s →
    2 ∉ s.clk.lost ∧ s.outerSrc = 1 ∧ s.innerSrc = 2 ∧ s.coreSrc ≠ 2 →
    (∀ n ∈ List.range 16, s.ltssm n = 0x1F ∨ s.ltssm n = 0x1D ∨ s.ltssm n = 0) →
    (∀ ls ∈ List.range 66, (s.lane ls).tx = false) →
    Reports (.sourceLoss 2) s ([(F.CLK_STAT_REFB_OK, 0, 0), (F.CLK_STAT_REFB_LOSS, 0, 1), (F.CLK_LOSS_CNT_REFB, 0, min
      (s.rd F.CLK_LOSS_CNT_REFB 0 + 1) 0xFF)] ++ (List.range 8).map fun q => (F.QUAD_STAT_PLL_I_LOCK, q, 0)) [.clk] [⟨9,
      2, 0, false⟩] [] fun t => t.clk.lost = 2 :: s.clk.lost) ∧
  (∀ (s : State) (src : Nat),
    Quiet s →
    src < 3 →
    src ∈ s.clk.lost →
    Gives (.sourceLoss src) s [] [] [] anyState)

/-- CLK_SRC and the frequency-measuring counter. SAFE and MGMT switch their domains as soon as their PLL is locked;
CORE_REF changes until the core PLL has locked after a reset, and a later change is refused with GLB_WERR.CLK; OREF
and IREF change while every port is disabled, the quad PLLs of that side then lock again, and are refused with
GLB_WERR.PORT otherwise; writing the value that stands changes nothing. START begins a measurement: BUSY 1, DONE and
OVF 0, and is ignored while one runs. The window ends only where its reference runs: COUNT holds the edges,
saturated with OVF at 2^32, or 0 for a reserved code; BUSY 0 and DONE 1. (R12, R250, R252, R258, R259, R271.) -/
def Obligations.ClocksAreSelectedAndMeasured : Prop :=
  (∀ (s : State) (r : Requester) (v : Bool),
    BusReady s r →
    Gives (.clkSrcSafe r v) s [(F.CLK_SRC_SAFE, 0, b2n v), (F.CLK_STAT_SAFE_ON, 0, if v = true ∧ s.rd
      F.CLK_STAT_XPLL_LOCK 0 = 1 then 1 else 0), (F.CLK_STAT_MGMT_ON, 0, if s.rd F.CLK_SRC_MGMT 0 = 1 ∧ s.rd
      F.CLK_STAT_MPLL_LOCK 0 = 1 then 1 else 0)] [] [.writeAck] anyState) ∧
  (∀ (s : State) (r : Requester) (v : Bool),
    BusReady s r →
    Gives (.clkSrcMgmt r v) s [(F.CLK_SRC_MGMT, 0, b2n v), (F.CLK_STAT_SAFE_ON, 0, if s.rd F.CLK_SRC_SAFE 0 = 1 ∧ s.rd
      F.CLK_STAT_XPLL_LOCK 0 = 1 then 1 else 0), (F.CLK_STAT_MGMT_ON, 0, if v = true ∧ s.rd F.CLK_STAT_MPLL_LOCK 0 = 1
      then 1 else 0)] [] [.writeAck] anyState) ∧
  (∀ (s : State) (r : Requester) (v : Nat),
    BusReady s r →
    v < 4 →
    s.clk.coreLocked = false →
    Gives (.clkSrcCoreRef r v) s [(F.CLK_SRC_CORE_REF, 0, v)] [] [.writeAck] anyState) ∧
  (∀ (s : State) (r : Requester) (v : Nat),
    BusReady s r →
    v < 4 ∧ s.rd F.CLK_SRC_CORE_REF 0 ≠ v ∧ s.clk.coreLocked = true →
    s.werrAny = true →
    Gives (.clkSrcCoreRef r v) s [(F.GLB_WERR_CLK, 0, 1)] [] [.writeAck] fun t => t.refusedNow = true) ∧
  (∀ (s : State) (r : Requester) (v : Bool),
    BusReady s r →
    s.portsOff = true ∧ s.rd F.CLK_SRC_OREF 0 ≠ b2n v →
    Gives (.clkSrcOref r v) s ((F.CLK_SRC_OREF, 0, b2n v) :: (List.range 8).map fun q => (F.QUAD_STAT_PLL_O_LOCK, q, 0))
      [] [.writeAck] anyState) ∧
  (∀ (s : State) (r : Requester) (v : Bool),
    BusReady s r →
    s.portsOff = true ∧ s.rd F.CLK_SRC_IREF 0 ≠ b2n v →
    Gives (.clkSrcIref r v) s ((F.CLK_SRC_IREF, 0, b2n v) :: (List.range 8).map fun q => (F.QUAD_STAT_PLL_I_LOCK, q, 0))
      [] [.writeAck] anyState) ∧
  (∀ (s : State) (r : Requester) (v : Bool),
    BusReady s r →
    s.portsOff = false ∧ s.rd F.CLK_SRC_IREF 0 ≠ b2n v →
    s.werrAny = true →
    Gives (.clkSrcIref r v) s [(F.GLB_WERR_PORT, 0, 1)] [] [.writeAck] fun t => t.refusedNow = true) ∧
  (∀ (s : State) (r : Requester),
    BusReady s r →
    s.rd F.CLK_FM_CTL_BUSY 0 ≠ 1 →
    Gives (.clkFmCtlStart r) s [(F.CLK_FM_CTL_DONE, 0, 0), (F.CLK_FM_CTL_OVF, 0, 0), (F.CLK_FM_CTL_BUSY, 0, 1)] []
      [.writeAck] anyState) ∧
  (∀ (s : State) (r : Requester),
    BusReady s r →
    s.rd F.CLK_FM_CTL_BUSY 0 = 1 →
    Gives (.clkFmCtlStart r) s [] [] [.writeAck] anyState) ∧
  (∀ (s : State) (count : Nat),
    Quiet s →
    s.rd F.CLK_FM_CTL_BUSY 0 = 1 ∧ s.fmRuns (s.rd F.CLK_FM_CTL_REF 0) = true →
    s.rd F.CLK_FM_CTL_REF 0 < 10 ∧ s.rd F.CLK_FM_CTL_TGT 0 < 10 →
    Gives (.fmWindowEnd count) s [(F.CLK_FM_RES_COUNT, 0, min count 0xFFFFFFFF), (F.CLK_FM_CTL_OVF, 0, if 2 ^ 32 ≤ count
      then 1 else 0), (F.CLK_FM_CTL_BUSY, 0, 0), (F.CLK_FM_CTL_DONE, 0, 1)] [] [] anyState) ∧
  (∀ (s : State) (count : Nat),
    Quiet s →
    s.rd F.CLK_FM_CTL_BUSY 0 = 1 ∧ s.fmRuns (s.rd F.CLK_FM_CTL_REF 0) = true →
    (10 ≤ s.rd F.CLK_FM_CTL_REF 0 ∨ 10 ≤ s.rd F.CLK_FM_CTL_TGT 0) →
    Gives (.fmWindowEnd count) s [(F.CLK_FM_RES_COUNT, 0, 0), (F.CLK_FM_CTL_OVF, 0, 0), (F.CLK_FM_CTL_BUSY, 0, 0),
      (F.CLK_FM_CTL_DONE, 0, 1)] [] [] anyState) ∧
  (∀ (s : State) (count : Nat),
    Quiet s →
    (s.rd F.CLK_FM_CTL_BUSY 0 ≠ 1 ∨ s.fmRuns (s.rd F.CLK_FM_CTL_REF 0) = false) →
    Gives (.fmWindowEnd count) s [] [] [] anyState)

/-- Alignment of the drip counter. LOAD makes the next edge load; an accepted edge in mode 1 records its error and
clears LOAD_PEND, and a second one within 4 ns sets ALIGNED with SRC 1; outside mode 1 an edge changes nothing; a
missing edge sets MISS and counts, and the third in a row clears ALIGNED; a beacon within 3 drips counts towards
ALIGNED with SRC 2, and one further off steps the counter at the next boundary and counts; the core domain's restart
advances the counter by the stop's length and clears ALIGNED; CNT_CLR clears the counters of CLK. (R256, R257, R262,
R263, R264, R265, R270.) -/
def Obligations.TheDripCounterIsAligned : Prop :=
  (∀ (s : State) (r : Requester),
    BusReady s r →
    Gives (.clkTsyncCtlLoad r) s [(F.CLK_TSYNC_STAT_LOAD_PEND, 0, 1)] [] [.writeAck] anyState) ∧
  (∀ (s : State) (ns e : Int),
    Quiet s →
    0 ≤ ns ∧ ns < 2000 →
    s.coreRuns = true ∧ s.rd F.CLK_TSYNC_CFG_MODE 0 = 1 ∧ s.edgeTooSoon ns = false ∧ s.rd F.CLK_TSYNC_STAT_LOAD_PEND 0 ≠
      1 →
    e = s.edgeError (nearestMultiple s.period s.drip) (ns - s.rd F.CLK_TSYNC_CFG_DELAY 0) →
    e.natAbs ≤ 4 ∧ e.natAbs ≤ s.rd F.CLK_TSYNC_CFG_SLEW_MAX 0 ∧ 1 ≤ s.clk.good →
    Gives (.timesyncEdge ns) s [(F.CLK_TSYNC_STAT_ERR, 0, errField e), (F.CLK_TSYNC_STAT_LOAD_PEND, 0, 0),
      (F.CLK_TSYNC_STAT_ALIGNED, 0, 1), (F.CLK_TSYNC_STAT_SRC, 0, 1)] [.clk] [] fun t => t.clk.good = s.clk.good + 1 ∧
      t.clk.slew = e ∧ t.clk.edgeAgo = some (-ns)) ∧
  (∀ (s : State) (ns : Int),
    Quiet s →
    0 ≤ ns ∧ ns < 2000 →
    s.rd F.CLK_TSYNC_CFG_MODE 0 ≠ 1 →
    Gives (.timesyncEdge ns) s [] [] [] anyState) ∧
  (∀ (s : State) (a : Int),
    Quiet s →
    s.coreRuns = true ∧ s.rd F.CLK_TSYNC_CFG_MODE 0 = 1 ∧ s.clk.edgeAgo = some a ∧ 3000 * (s.period : Int) < 2 * (a +
      1000) →
    Gives .timesyncMiss s [(F.CLK_TSYNC_STAT_MISS, 0, 1), (F.CLK_TSYNC_CNT_MISS, 0, min (s.rd F.CLK_TSYNC_CNT_MISS 0 +
      1) 0xFF), (F.CLK_TSYNC_STAT_ALIGNED, 0, if 1 ≤ s.clk.missed then 0 else s.rd F.CLK_TSYNC_STAT_ALIGNED 0),
      (F.CLK_TSYNC_STAT_SRC, 0, if 1 ≤ s.clk.missed then 0 else s.rd F.CLK_TSYNC_STAT_SRC 0)] [.clk] [] fun t =>
      t.clk.missed = s.clk.missed + 1) ∧
  (∀ (s : State),
    Quiet s →
    s.clk.edgeAgo = none →
    Gives .timesyncMiss s [] [] [] anyState) ∧
  (∀ (s : State) (d hb tally flags : Nat),
    Quiet s →
    d < 2 ^ 48 ∧ hb < 2 ^ 16 ∧ tally < 2 ^ 32 ∧ flags < 256 ∧ bit flags 1 = true →
    s.csbUp = true ∧ s.coreRuns = true ∧ s.rd F.CLK_TSYNC_CFG_BCN_EN 0 = 1 ∧ s.rd F.CLK_TSYNC_CFG_MODE 0 ≠ 1 →
    (s.drip + 2 ^ 48 - d) % 2 ^ 48 ≤ 3 ∧ 1 ≤ s.clk.beaconGood →
    Gives (.beacon d hb tally flags) s [(F.CLK_TSYNC_STAT_ALIGNED, 0, 1), (F.CLK_TSYNC_STAT_SRC, 0, 2)] [.clk] [] fun t
      => t.clk = { s.clk with beaconGood := s.clk.beaconGood + 1 }) ∧
  (∀ (s : State) (d hb tally flags : Nat),
    Quiet s →
    d < 2 ^ 48 ∧ hb < 2 ^ 16 ∧ tally < 2 ^ 32 ∧ flags < 256 ∧ bit flags 1 = true →
    s.csbUp = true ∧ s.coreRuns = true ∧ s.rd F.CLK_TSYNC_CFG_BCN_EN 0 = 1 ∧ s.rd F.CLK_TSYNC_CFG_MODE 0 ≠ 1 →
    3 < (s.drip + 2 ^ 48 - d) % 2 ^ 48 →
    Gives (.beacon d hb tally flags) s [(F.CLK_TSYNC_STAT_ALIGNED, 0, 0), (F.CLK_TSYNC_STAT_SRC, 0, 0),
      (F.CLK_TSYNC_CNT_BSTEP, 0, min (s.rd F.CLK_TSYNC_CNT_BSTEP 0 + 1) 0xFF)] [.clk] [] fun t => t.clk =
      { s.clk with beaconGood := 0, beaconAdd := some ((d : Int) + 2 - s.drip) }) ∧
  (∀ (s : State) (d hb tally flags : Nat),
    Quiet s →
    d < 2 ^ 48 ∧ hb < 2 ^ 16 ∧ tally < 2 ^ 32 ∧ flags < 256 →
    (s.csbUp = false ∨ s.rd F.CLK_TSYNC_CFG_BCN_EN 0 ≠ 1 ∨ bit flags 1 = false) →
    Gives (.beacon d hb tally flags) s [] [] [] anyState) ∧
  (∀ (s : State) (cycles : Nat),
    Quiet s →
    s.rd F.CLK_STAT_CORE_HELD 0 = 1 ∧ s.rd F.CLK_STAT_CPLL_LOCK 0 = 1 ∧ s.clk.lost = [] →
    s.rd F.CMP_CSB_CTL_EN 0 ≠ 1 →
    Gives (.coreRestart cycles) s [(F.CLK_STAT_CORE_HELD, 0, 0), (F.CLK_DRIP_LO_DRIP_LO, 0, (s.drip + cycles / 200) % 2
      ^ 48 % 2 ^ 32), (F.CLK_DRIP_HI_DRIP_HI, 0, (s.drip + cycles / 200) % 2 ^ 48 / 2 ^ 32), (F.CLK_TSYNC_STAT_ALIGNED,
      0, 0), (F.CLK_TSYNC_STAT_SRC, 0, 0)] [.clk] [] fun t => t.clk.good = 0 ∧ t.clk.stepTo = none) ∧
  (∀ (s : State) (r : Requester),
    BusReady s r →
    Gives (.clkCtlCntClr r) s [(F.CLK_LOSS_CNT_XTAL, 0, 0), (F.CLK_LOSS_CNT_REFA, 0, 0), (F.CLK_LOSS_CNT_REFB, 0, 0),
      (F.CLK_TSYNC_CNT_MISS, 0, 0), (F.CLK_TSYNC_CNT_BSTEP, 0, 0), (F.CLK_TSYNC_CNT_STEP, 0, 0)] [] [.writeAck]
      anyState)

/-- Schedule slots. ARM of a slot that is not ARMED and names an action makes it ARMED with its results cleared, and
remembers a target in the past; with no action the write is refused with GLB_WERR.CLK; an ARMED slot ignores ARM.
CANCEL makes an ARMED slot DONE with result 3, and is ignored in any other state. (R267, R269.) -/
def Obligations.ScheduleSlotsAreArmedAndCancelled : Prop :=
  (∀ (s : State) (r : Requester) (k : Nat),
    BusReady s r →
    k < 8 →
    s.rd F.CLK_SCHED_STAT_STATE k ≠ 1 ∧ 1 ≤ s.rd F.CLK_SCHED_CTL_ACTION k ∧ s.rd F.CLK_SCHED_CTL_ACTION k ≤ 6 →
    Gives (.clkSchedCtlArm r k) s [(F.CLK_SCHED_STAT_STATE, k, 1), (F.CLK_SCHED_STAT_LATE, k, 0),
      (F.CLK_SCHED_STAT_LATENESS, k, 0), (F.CLK_SCHED_STAT_RESULT, k, 0), (F.CLK_SCHED_STAT_FAILQ, k, 0)] [.clk]
      [.writeAck] fun t => t.clk =
      { s.clk with
        late := if (s.drip + 2 ^ 48 - s.slotTarget k) % 2 ^ 48 < 2 ^ 47 then k :: s.clk.late.filter (· != k) else s.clk.late.filter (· != k) })
      ∧
  (∀ (s : State) (r : Requester) (k : Nat),
    BusReady s r →
    k < 8 →
    s.rd F.CLK_SCHED_STAT_STATE k ≠ 1 ∧ s.rd F.CLK_SCHED_CTL_ACTION k = 0 →
    s.werrAny = true →
    Gives (.clkSchedCtlArm r k) s [(F.GLB_WERR_CLK, 0, 1)] [] [.writeAck] fun t => t.refusedNow = true) ∧
  (∀ (s : State) (r : Requester) (k : Nat),
    BusReady s r →
    k < 8 →
    s.rd F.CLK_SCHED_STAT_STATE k = 1 →
    Gives (.clkSchedCtlArm r k) s [] [] [.writeAck] anyState) ∧
  (∀ (s : State) (r : Requester) (k : Nat),
    BusReady s r →
    k < 8 →
    s.rd F.CLK_SCHED_STAT_STATE k = 1 →
    Gives (.clkSchedCtlCancel r k) s [(F.CLK_SCHED_STAT_STATE, k, 2), (F.CLK_SCHED_STAT_RESULT, k, 3)] [.clk]
      [.writeAck] fun t => t.clk = { s.clk with late := s.clk.late.filter (· != k) }) ∧
  (∀ (s : State) (r : Requester) (k : Nat),
    BusReady s r →
    k < 8 →
    s.rd F.CLK_SCHED_STAT_STATE k ≠ 1 →
    Gives (.clkSchedCtlCancel r k) s [] [] [.writeAck] anyState)

/-- The drip boundary and the mirrors. While the core domain is stopped there is no boundary. At one with nothing due
the drip counter and the heat epoch's age grow by one, every mirror's AGE grows to at most 15, the buckets of the
ports are refilled with the settings then written, and the rails show their samples; commands waiting, the memories,
and every register not named stay as they were. A heat swap due by the epoch's length with the other bank CLEAN
exchanges the banks and starts the next epoch. A scheduled bank swap acts at its count and reports OK. A refresh of
a quad that has power copies every field of the quad's mirrors, each with AGE 0; one of a gated quad, and any while
the core domain is stopped, does nothing. A refresh of the core blocks does the same for the CSB, the ports and the
spares' registers. (R33, R202, R231, R233, R257, R260, R261, R268, R276, R406.) -/
def Obligations.BoundariesMoveTheClockAndMirrorsFollow : Prop :=
  (∀ (s : State) (d : DripIn),
    Quiet s →
    d.wf = true →
    s.coreRuns = false →
    Gives (.dripBoundary d) s [] [] [] anyState) ∧
  (∀ (s : State) (d : DripIn),
    CalmDrip s d →
    NoSlot s →
    s.rd F.HEAT_EPOCH_CFG_LEN 0 = 0 ∧ s.rd F.HEAT_STAT_SWAP_PEND 0 ≠ 1 →
    Yields (.dripBoundary d) s [(F.CLK_DRIP_LO_DRIP_LO, 0, (s.drip + 1) % 2 ^ 48 % 2 ^ 32), (F.CLK_DRIP_HI_DRIP_HI, 0,
      (s.drip + 1) % 2 ^ 48 / 2 ^ 32), (F.HEAT_EPOCH_AGE_DRIPS, 0, min (s.rd F.HEAT_EPOCH_AGE_DRIPS 0 + 1) 0xFFFFFFFF),
      (F.PWR_VMON0_VDDC, 0, d.vddc % 2 ^ F.PWR_VMON0_VDDC.w), (F.PWR_VMON0_VDDA, 0, d.vdda % 2 ^ F.PWR_VMON0_VDDA.w),
      (F.PWR_VMON1_VDDH, 0, d.vddh % 2 ^ F.PWR_VMON1_VDDH.w)] dripParts fun t => (∀ m ∈ Mirror.all, ∀ f ∈ m.1.fields,
      isAge f = true → t.rdMirror f m.2 = min (s.rdMirror f m.2 + 1) 15) ∧ (∀ n ∈ List.range 16, (t.port n).tok3 =
      refill (s.port n).tok3 (s.rd F.CMP_SHAPE_CFG_RATE3 n) (s.rd F.CMP_SHAPE_CFG_BURST3 n) ∧ (t.port n).tok4 = refill
      (s.port n).tok4 (s.rd F.CMP_SHAPE_CFG_RATE4 n) (s.rd F.CMP_SHAPE_CFG_BURST4 n) ∧ (t.port n).tokP = refill (s.port
      n).tokP (s.rd F.CMP_POLICE_CFG_RATE n) (s.rd F.CMP_POLICE_CFG_BURST n)) ∧ t.porDrips = s.porDrips + 1 ∧ t.clk.last
      = t.drip) ∧
  (∀ (s : State) (d : DripIn) (old : Nat),
    CalmDrip s d →
    NoSlot s →
    s.rd F.HEAT_EPOCH_CFG_LEN 0 = s.rd F.HEAT_EPOCH_AGE_DRIPS 0 + 1 ∧ s.rd F.HEAT_STAT_OSTATE 0 = 3 →
    old = s.rd F.HEAT_STAT_LIVE 0 ∧ old < 2 ∧ s.rd F.HEAT_EPOCH_CFG_LEN 0 < 2 ^ 32 →
    Yields (.dripBoundary d) s [(F.HEAT_STAT_LIVE, 0, 1 - old), (F.HEAT_STAT_OSTATE, 0, 0), (F.HEAT_STAT_SWAP_PEND, 0,
      0), (F.HEAT_EPOCH_AGE_DRIPS, 0, 0), (F.HEAT_EPOCH_EPOCH, 0, (s.rd F.HEAT_EPOCH_EPOCH 0 + 1) % 2 ^ 32),
      (F.HEAT_BANK_EPOCH_EPOCH, 1 - old, (s.rd F.HEAT_EPOCH_EPOCH 0 + 1) % 2 ^ 32), (F.HEAT_BANK_LEN_LEN, old, s.rd
      F.HEAT_EPOCH_CFG_LEN 0), (F.HEAT_SWAP_CNT_SWAPS, 0, min (s.rd F.HEAT_SWAP_CNT_SWAPS 0 + 1) 0xFFFF),
      (F.HEAT_BANK_START_LO_START_LO, 1 - old, (s.drip + 1) % 2 ^ 48 % 2 ^ 32), (F.HEAT_BANK_START_HI_START_HI, 1 - old,
      (s.drip + 1) % 2 ^ 48 / 2 ^ 32)] (.fld F.CLK_DRIP_LO_DRIP_LO 0 :: .fld F.CLK_DRIP_HI_DRIP_HI 0 :: dripParts) fun t
      => ∀ n ∈ List.range 16, ∀ c ∈ (t.heat n).cache, c.bank = old → c.queued = true) ∧
  (∀ (s : State) (d : DripIn) (k q : Nat),
    CalmDrip s d →
    k < 8 ∧ q < 8 ∧ s.rd F.CLK_SCHED_STAT_STATE k = 1 ∧ s.rd F.CLK_SCHED_CTL_ACTION k = 3 ∧ s.rd F.CLK_SCHED_CTL_ARG k =
      2 ^ q ∧ s.slotTarget k = (s.drip + 1) % 2 ^ 48 ∧ s.clk.late = [] →
    (∀ j ∈ List.range 8, j ≠ k → s.rd F.CLK_SCHED_STAT_STATE j ≠ 1) →
    s.rd F.HEAT_EPOCH_CFG_LEN 0 = 0 ∧ s.rd F.HEAT_STAT_SWAP_PEND 0 ≠ 1 →
    s.rd F.PHR_STAT_ACT q = 0 ∧ s.rd F.PHR_STAT_VALID_B q = 1 →
    Yields (.dripBoundary d) s [(F.PHR_STAT_ACT, q, 1), (F.CLK_SCHED_STAT_STATE, k, 2), (F.CLK_SCHED_STAT_RESULT, k, 1),
      (F.CLK_SCHED_STAT_LATE, k, 0), (F.CLK_SCHED_STAT_FAILQ, k, 0), (F.CLK_SCHED_STAT_LATENESS, k, 0)] (.fld
      F.CLK_DRIP_LO_DRIP_LO 0 :: .fld F.CLK_DRIP_HI_DRIP_HI 0 :: .fld F.HEAT_EPOCH_AGE_DRIPS 0 :: dripParts) fun t =>
      t.clk.late = []) ∧
  (∀ (s : State) (q : Nat),
    Quiet s →
    q < 8 ∧ s.coreRuns = true ∧ s.quadGated q = false →
    Gives (.mirrorRefresh (.quad q)) s [] ((Mirror.quad q).flatMap fun m => m.1.fields.map fun f => .mir f m.2) [] fun t
      => ∀ m ∈ Mirror.quad q, ∀ f ∈ m.1.fields, t.rdMirror f m.2 = if isAge f then 0 else s.rd f m.2 % 2 ^ f.w) ∧
  (∀ (s : State) (q : Nat),
    Quiet s →
    q < 8 →
    (s.coreRuns = false ∨ s.quadGated q = true) →
    Gives (.mirrorRefresh (.quad q)) s [] [] [] anyState) ∧
  (∀ (s : State),
    Quiet s →
    s.coreRuns = true →
    Gives (.mirrorRefresh .core) s [] ((Mirror.core ++ Mirror.lane 64 ++ Mirror.lane 65).flatMap (fun m =>
      m.1.fields.map fun f => .mir f m.2) ++ (List.range 16).flatMap (partsOf Reg.CMP_TOKEN_STAT.fields)) [] fun t => ∀
      m ∈ Mirror.core, ∀ f ∈ m.1.fields, t.rdMirror f m.2 = if isAge f then 0 else t.rd f m.2 % 2 ^ f.w) ∧
  (∀ (s : State) (u : MirrorUnit),
    Quiet s →
    u.wf = true →
    s.coreRuns = false →
    Gives (.mirrorRefresh u) s [] [] [] anyState)

/-- Adaptive voltage scaling, regulators, sensors and the thermal trip. A target is kept within VMIN and VMAX, and is
VMAX while a sensor is high; nothing happens while AVS is disabled or held. Each command moves VDDC by at most 10 mV
in steps of 5 mV towards the target. A VDDC that does not follow sets FAULT and HELD, commands the safe voltage and
reports AVS_FAULT (source 6). An LDO output out of range begins its condition of source 7, and its return ends it. A
sample stores the ten temperatures, the hottest with its sensor, and raises the maxima; below both thresholds less
the hysteresis the live flags clear; at the warning threshold WARN_NOW and WARN set and TEMP_WARN (source 4) is
reported. The trip comparator stops ALIVE, sets TRIP and TRIP_NOW and begins the condition of source 2; its release
clears TRIP_NOW and ends the condition where the hottest sample is below 145 °C. (R278, R279, R280, R281, R283,
R284, R285.) -/
def Obligations.VoltagesAndTemperaturesAreFollowed : Prop :=
  (∀ (s : State) (mv : Nat),
    Quiet s →
    mv < 1024 →
    s.avsRuns = true ∧ s.rd F.PWR_THERM_STAT_HIGH_NOW 0 ≠ 1 →
    Gives (.avsTarget mv) s [(F.PWR_AVS_STAT_TARGET, 0, max s.vmin (min mv s.vmax))] [] [] anyState) ∧
  (∀ (s : State) (mv : Nat),
    Quiet s →
    mv < 1024 →
    s.avsRuns = true ∧ s.rd F.PWR_THERM_STAT_HIGH_NOW 0 = 1 →
    Gives (.avsTarget mv) s [(F.PWR_AVS_STAT_TARGET, 0, s.vmax)] [] [] anyState) ∧
  (∀ (s : State) (mv : Nat),
    Quiet s →
    mv < 1024 →
    s.avsRuns = false →
    Gives (.avsTarget mv) s [] [] [] anyState) ∧
  (∀ (s : State) (v : Nat),
    Quiet s →
    s.avsRuns = true ∧ s.rd F.PWR_AVS_STAT_TARGET 0 ≠ 0 →
    v = avsStep s.avsNow (s.rd F.PWR_AVS_STAT_TARGET 0) ∧ v < 1024 →
    Gives .avsCommand s [(F.PWR_AVS_STAT_CMD, 0, v)] [] [.avsCommand v] anyState) ∧
  (∀ (s : State),
    Quiet s →
    (s.avsRuns = false ∨ s.rd F.PWR_AVS_STAT_TARGET 0 = 0) →
    Gives .avsCommand s [] [] [] anyState) ∧
  (∀ (s : State) (v : Nat),
    Quiet s →
    s.avsRuns = true ∧ s.rd F.PWR_AVS_STAT_CMD 0 ≠ 0 →
    v = avsClamp (s.rd F.PWR_AVS_CFG_SAFE 0) / 5 * 5 →
    Reports .avsFault s [(F.PWR_AVS_STAT_FAULT, 0, 1), (F.PWR_AVS_STAT_CMD, 0, v), (F.PWR_AVS_STAT_HELD, 0, 1)] [] [⟨6,
      0, 0, false⟩] [.avsCommand v] anyState) ∧
  (∀ (s : State) (k : Nat),
    Quiet s →
    k < 10 →
    s.causes.contains (7, k) = false →
    Reports (.ldoFault k) s [(F.SUMP_SRC_STAT_CAUSE, 7, 1)] [.causes] [⟨7, k, 0, false⟩] [] fun t => t.causes = s.causes
      ++ [(7, k)]) ∧
  (∀ (s : State) (k : Nat),
    Quiet s →
    k < 10 →
    s.causes = [(7, k)] →
    Gives (.ldoOutputInRange k) s [(F.SUMP_SRC_STAT_CAUSE, 7, 0)] [.causes] [] fun t => t.causes = []) ∧
  (∀ (s : State) (temps : List Int) (m : Int) (hot : Nat),
    Quiet s →
    (temps.length = 10 ∧ ∀ t ∈ temps, -1024 ≤ t ∧ t < 1024) →
    (m, hot) = hottest (temps.drop 1) 1 (temps.headD 0, 0) →
    m < thermLimit (s.rd F.PWR_THERM_CFG_WARN 0) - 4 * (max (s.rd F.PWR_THERM_CFG_HYST 0) 1 : Nat) →
    m < thermLimit (s.rd F.PWR_THERM_CFG_HIGH 0) - 4 * (max (s.rd F.PWR_THERM_CFG_HYST 0) 1 : Nat) →
    Gives (.temperatureSample temps) s (((List.range 10).map fun k => (F.PWR_TEMP_TEMP, k, toTwos 11 (temps.getD k 0)))
      ++ [(F.PWR_THERM_STAT_TMAX, 0, toTwos 11 m), (F.PWR_THERM_STAT_HOT, 0, hot), (F.PWR_THERM_STAT_WARN_NOW, 0, 0),
      (F.PWR_THERM_STAT_HIGH_NOW, 0, 0)]) (.causes :: ((List.range 8).map .cal ++ [2, 3, 4].map (.fld
      F.SUMP_SRC_STAT_CAUSE ·) ++ (List.range 10).map (.fld F.PWR_TEMP_MAX ·))) [] fun t => ∀ k ∈ List.range 10, t.rd
      F.PWR_TEMP_MAX k = if ofTwos11 (s.rd F.PWR_TEMP_MAX k) < temps.getD k 0 then toTwos 11 (temps.getD k 0) else s.rd
      F.PWR_TEMP_MAX k) ∧
  (∀ (s : State) (temps : List Int) (m : Int) (hot : Nat),
    Quiet s →
    (temps.length = 10 ∧ ∀ t ∈ temps, -1024 ≤ t ∧ t < 1024) →
    (m, hot) = hottest (temps.drop 1) 1 (temps.headD 0, 0) →
    thermLimit (s.rd F.PWR_THERM_CFG_WARN 0) ≤ m ∧ s.rd F.PWR_THERM_STAT_WARN_NOW 0 ≠ 1 →
    m < thermLimit (s.rd F.PWR_THERM_CFG_HIGH 0) - 4 * (max (s.rd F.PWR_THERM_CFG_HYST 0) 1 : Nat) →
    s.causes.contains (4, hot) = false →
    Reports (.temperatureSample temps) s [(F.PWR_THERM_STAT_TMAX, 0, toTwos 11 m), (F.PWR_THERM_STAT_HOT, 0, hot),
      (F.PWR_THERM_STAT_WARN_NOW, 0, 1), (F.PWR_THERM_STAT_WARN, 0, 1), (F.PWR_THERM_STAT_HIGH_NOW, 0, 0),
      (F.SUMP_SRC_STAT_CAUSE, 4, 1)] (.causes :: ((List.range 8).map .cal ++ [2, 3].map (.fld F.SUMP_SRC_STAT_CAUSE ·)
      ++ (List.range 10).flatMap (fun k => [.fld F.PWR_TEMP_MAX k, .fld F.PWR_TEMP_TEMP k]))) [⟨4, hot, 0, false⟩] []
      anyState) ∧
  (∀ (s : State),
    Quiet s →
    s.causes.contains (2, 0) = false →
    Reports .thermalTrip s [(F.PWR_THERM_STAT_TRIP, 0, 1), (F.PWR_THERM_STAT_TRIP_NOW, 0, 1), (F.SUMP_SRC_STAT_CAUSE, 2,
      1)] [.causes, .aliveRun] [⟨2, 0, 0, false⟩] [] fun t => t.causes = s.causes ++ [(2, 0)] ∧ t.aliveRun = false) ∧
  (∀ (s : State),
    Quiet s →
    ofTwos11 (s.rd F.PWR_THERM_STAT_TMAX 0) < 580 →
    Gives .tripRelease s [(F.PWR_THERM_STAT_TRIP_NOW, 0, 0), (F.SUMP_SRC_STAT_CAUSE, 2, 0)] [.causes] [] fun t =>
      t.causes = s.causes.filter fun c => c.1 != 2) ∧
  (∀ (s : State),
    Quiet s →
    580 ≤ ofTwos11 (s.rd F.PWR_THERM_STAT_TMAX 0) →
    Gives .tripRelease s [(F.PWR_THERM_STAT_TRIP_NOW, 0, 0)] [] [] anyState)

/-- GLB_BIFUR and the gating of quads. With every port disabled and both spares unpowered, a write of a legal width
map that gates no quad stores its eight codes, the quads it asks for are to ungate in ascending order, and the view
of a port that it takes away loses its traffic; a written map that R27 calls illegal ends in the fault
illegalWidthMap, since the manual gives it no effect; the code of a quad with an enabled port does not change and
GLB_WERR.PORT is set. A quad that its code asks for leaves gating once AVS has reached its target and the lower
quads of the same write have left it, its start-up calibration to follow; otherwise the event changes nothing. (R12,
R27, R28, R282.) -/
def Obligations.WidthMapsAndGating : Prop :=
  (∀ (s : State) (r : Requester) (val : Nat),
    BusReady s r →
    val < 2 ^ 32 →
    (∀ n ∈ List.range 16, s.rd F.PORT_CTL_EN n ≠ 1) →
    legalMap (fun q => bits val (3 * q) 3) = true →
    (∀ q ∈ List.range 8, bits val (3 * q) 3 ≠ 0 ∨ s.qcode q = 0) →
    s.spareState 0 = 0 ∧ s.spareState 1 = 0 →
    Gives (.bifurcationWrite r val) s ((List.range 8).map fun q => (F.quadCode q, 0, bits val (3 * q) 3)) (.fld
      F.PWR_DOM_STAT_SGATED 0 :: .csb :: .bus :: .fld F.MGMT_STAT_SMB_PEND 0 :: ((List.range 8).map .cal ++ (List.range
      16).flatMap fun n => .view (n + 1) :: .fld F.MGMT_VIEW_STAT_INPROG (n + 1) :: partsOf Reg.MGMT_VIEW_PTR.fields (n
      + 1))) [.writeAck] fun t => (∀ q ∈ List.range 8, t.cal q = if s.qcode q = 0 ∧ bits val (3 * q) 3 ≠ 0 then
      { s.cal q with
        after := (List.range 8).filter fun p => s.qcode p == 0 && bits val (3 * p) 3 != 0 && decide (p < q) } else s.cal
      q) ∧ ∀ n ∈ List.range 16, if s.present n = true ∧ t.present n = false then t.reqEmpty (n + 1) = true ∧ (t.view (n
      + 1)).q3 = [] else t.view (n + 1) = s.view (n + 1)) ∧
  (∀ (s : State) (r : Requester) (val : Nat),
    BusReady s r →
    val < 2 ^ 32 →
    (∀ n ∈ List.range 16, s.rd F.PORT_CTL_EN n ≠ 1) →
    legalMap (fun q => bits val (3 * q) 3) = false →
    exec (.bifurcationWrite r val) s = .fault .illegalWidthMap) ∧
  (∀ (s : State) (r : Requester) (val : Nat),
    BusReady s r →
    val < 2 ^ 32 →
    legalMap (fun q => bits val (3 * q) 3) = true →
    (∀ q ∈ List.range 8, bits val (3 * q) 3 = s.qcode q ∨ (s.quadPorts q).any (fun n => s.flag F.PORT_CTL_EN n) = true)
      →
    (∃ q ∈ List.range 8, bits val (3 * q) 3 ≠ s.qcode q) →
    s.werrAny = true →
    s.spareState 0 ≠ 1 ∧ s.spareState 1 ≠ 1 →
    Gives (.bifurcationWrite r val) s [(F.GLB_WERR_PORT, 0, 1)] [.fld F.PWR_DOM_STAT_SGATED 0] [.writeAck] fun t => ∀ q
      ∈ List.range 8, t.qcode q = s.qcode q) ∧
  (∀ (s : State) (q : Nat),
    Quiet s →
    q < 8 →
    s.qcode q ≠ 0 ∧ s.quadGated q = true ∧ s.avsReached = true ∧ s.rd F.BOOT_STAT_STAGE 0 ≠ 9 →
    (∀ p ∈ (s.cal q).after, s.quadGated p = false ∨ s.qcode p = 0) →
    (∀ n ∈ s.quadPorts q, s.rd F.PORT_CTL_EN n ≠ 1) →
    (∀ ls ∈ quadLs q, s.rd F.LANE_PRBS_CTL_GEN_EN ls ≠ 1 ∧ s.rd F.LANE_ECHO_CTL_MODE ls = 0 ∧ (s.lane ls).tx = false) →
    s.rd F.PWR_DOM_STAT_QGATED 0 < 256 →
    Gives (.quadUngate q) s [(F.PWR_DOM_STAT_QGATED, 0, clrBit (s.rd F.PWR_DOM_STAT_QGATED 0) q)] (.cal q :: laneFields
      (quadLs q) [F.LANE_PRBS_STAT_LOCK]) [] fun t => t.cal q = { s.cal q with need := true, after := [] } ∧ t.quadGated
      q = false) ∧
  (∀ (s : State) (q : Nat),
    Quiet s →
    q < 8 →
    (s.qcode q = 0 ∨ s.quadGated q = false ∨ s.avsReached = false ∨ ∃ p ∈ (s.cal q).after, s.quadGated p = true ∧
      s.qcode p ≠ 0) →
    Gives (.quadUngate q) s [] [] [] anyState)

/-- Calibration. CAL_RUN asks a run of each quad named that is not gated: it starts at the next boundary, or is
pending while one is in progress; a gated quad ignores it. The end of a run whose every lane-side has ended its part
records its length, counts it and returns STATE to 0, and does nothing where none is in progress or a part is still
to end; a step correction takes effect; CNT_CLR clears the counters of PWR and returns the temperature maxima to
their lowest. (R288, R289, R290, R293.) -/
def Obligations.CalibrationRunsAreAskedForAndEnd : Prop :=
  (∀ (s : State) (r : Requester) (q : Nat),
    BusReady s r →
    q < 8 →
    s.quadGated q = false ∧ s.rd F.PWR_CAL_STAT_STATE q = 0 →
    Gives (.pwrCtlCalRun r (2 ^ q)) s [] [.cal q] [.writeAck] fun t => t.cal q = { s.cal q with req := true }) ∧
  (∀ (s : State) (r : Requester) (q : Nat),
    BusReady s r →
    q < 8 →
    s.quadGated q = false ∧ s.rd F.PWR_CAL_STAT_STATE q ≠ 0 →
    Gives (.pwrCtlCalRun r (2 ^ q)) s [(F.PWR_CAL_STAT_PEND, q, 1)] [] [.writeAck] anyState) ∧
  (∀ (s : State) (r : Requester) (mask : Nat),
    BusReady s r →
    mask < 256 →
    (∀ q ∈ List.range 8, bit mask q = true → s.quadGated q = true) →
    Gives (.pwrCtlCalRun r mask) s [] [] [.writeAck] anyState) ∧
  (∀ (s : State) (q : Nat),
    Quiet s →
    q < 8 →
    s.rd F.PWR_CAL_STAT_STATE q ≠ 0 →
    s.calDone q = true →
    Gives (.calRunEnd q) s [(F.PWR_CAL_STAT_LEN, q, min (s.cal q).drips 4095), (F.PWR_CAL_STAT_STATE, q, 0),
      (F.PWR_CNT_RUNS, 0, min (s.rd F.PWR_CNT_RUNS 0 + 1) 0xFFFF)] [.cal q] [] fun t => t.cal q =
      { s.cal q with drips := 0, startup := false }) ∧
  (∀ (s : State) (q : Nat),
    Quiet s →
    q < 8 →
    (s.rd F.PWR_CAL_STAT_STATE q = 0 ∨ s.calDone q = false) →
    Gives (.calRunEnd q) s [] [] [] anyState) ∧
  (∀ (s : State) (ls : Nat),
    Quiet s →
    ls < 66 →
    Gives (.stepCorrection ls) s [] [.lane ls] [] fun t => t.lane ls = { s.lane ls with corr := 0 }) ∧
  (∀ (s : State) (r : Requester),
    BusReady s r →
    Gives (.pwrCtlCntClr r) s ([(F.PWR_CNT_LEG_FAIL, 0, 0), (F.PWR_CNT_SLICE_FAIL, 0, 0), (F.PWR_CNT_RUNS, 0, 0)] ++
      (List.range 10).map fun k => (F.PWR_TEMP_MAX, k, 0x400)) [] [.writeAck] anyState)

/-- Gating the secure domain. A request to gate or ungate the secure domain takes effect at once while the secure
partition does not hold it. While it does, the request is answered busy and deferred, and replaces one deferred
before it; the release of the domain carries the deferred request out. Nothing else changes. (R34.) -/
def Obligations.SecureGatingIsDeferredWhileHeld : Prop :=
  (∀ (s : State) (g : Bool),
    Quiet s →
    s.rd F.MGMT_SEC_STAT_SEC_HOLD 0 ≠ 1 →
    Gives (.secureGateRequest g) s [(F.PWR_DOM_STAT_SEC_GATED, 0, b2n g)] [] [] anyState) ∧
  (∀ (s : State) (g : Bool),
    Quiet s →
    s.rd F.MGMT_SEC_STAT_SEC_HOLD 0 = 1 →
    Gives (.secureGateRequest g) s [(F.PWR_DOM_STAT_SEC_DEFER, 0, 1)] [.secDefer] [.busy] fun t => t.secDefer = some g)
      ∧
  (∀ (s : State),
    Quiet s →
    s.secDefer = none →
    Gives .secureDomainRelease s [(F.MGMT_SEC_STAT_SEC_HOLD, 0, 0)] [] [] anyState) ∧
  (∀ (s : State) (g : Bool),
    Quiet s →
    s.secDefer = some g →
    Gives .secureDomainRelease s [(F.MGMT_SEC_STAT_SEC_HOLD, 0, 0), (F.PWR_DOM_STAT_SEC_GATED, 0, b2n g),
      (F.PWR_DOM_STAT_SEC_DEFER, 0, 0)] [.secDefer] [] fun t => t.secDefer = none)

/-- Efsia requests over the CSB and the management bus. A request in order over the CSB for a view that its transport
may reach, intact, in number, with room and unpoliced, is written at REQ_WR with its route and counted ACCEPTED; one
whose CRC fails counts CRC; one for an absent port's view counts NOVIEW, and one for no view BADHDR. Over the
management bus the same request is taken while the bus serves it, and not acknowledged otherwise. (R297, R299, R303,
R309, R310, R312.) -/
def Obligations.RequestsEnterTheirViews : Prop :=
  (∀ (s : State) (h : CsbHdr) (v : Nat) (e : List Nat),
    s.raised = [] ∧ h.vc = 1 ∧ h.seq < 256 ∧ h.ack < 256 ∧ s.csbUp = true ∧ h.seq = s.csb.rx1 ∧ s.csb.un1 = [] →
    (v < 17 ∧ e.length = 128 ∧ bytesWf e = true ∧ (v = 0 ∨ s.present (v - 1) = true)) →
    Admits s v e ∧ s.mayReach v 3 = true ∧ bit (s.viewPol v) 16 = false ∧ s.seqMark v e = .ok →
    Gives (.efsiaRequest (.csb h) v e .ok) s [(F.MGMT_VIEW_PTR_REQ_WR, v, (s.rd F.MGMT_VIEW_PTR_REQ_WR v + 1) % 128),
      (F.MGMT_VIEW_CNT_ACCEPTED, v, min (s.rd F.MGMT_VIEW_CNT_ACCEPTED v + 1) 0xFFFF), (F.MGMT_VIEW_SEQ_QSEQ_NEXT, v,
      (s.rd F.MGMT_VIEW_SEQ_QSEQ_NEXT v + 1) % 65536), (F.MGMT_VIEW_STAT_GAP_SENT, v, 0)] (.csb :: runParts (reqAddr v
      (s.rd F.MGMT_VIEW_PTR_REQ_WR v)) 128) [] fun t => t.rdBytes (reqAddr v (s.rd F.MGMT_VIEW_PTR_REQ_WR v)) 5 = e.take
      5 ∧ t.rdBytes (reqAddr v (s.rd F.MGMT_VIEW_PTR_REQ_WR v) + 6) 118 = sliceBytes e 6 114 ++ [3, 0, 0, 0] ∧ t.csb =
      { s.csb with rx1 := (h.seq + 1) % 256, last1 := h.seq, ackDue1 := true }) ∧
  (∀ (s : State) (h : CsbHdr) (v : Nat) (e : List Nat),
    s.raised = [] ∧ h.vc = 1 ∧ h.seq < 256 ∧ h.ack < 256 ∧ s.csbUp = true ∧ h.seq = s.csb.rx1 ∧ s.csb.un1 = [] →
    (v < 17 ∧ e.length = 128 ∧ bytesWf e = true ∧ (v = 0 ∨ s.present (v - 1) = true)) →
    s.mayReach v 3 = true ∧ s.flag F.MGMT_VIEW_CTL_EN v = true ∧ entryCrcOk e = false →
    Gives (.efsiaRequest (.csb h) v e .ok) s [(F.MGMT_VIEW_CNT3_CRC, v, min (s.rd F.MGMT_VIEW_CNT3_CRC v + 1) (2 ^
      F.MGMT_VIEW_CNT3_CRC.w - 1))] [.csb] [] anyState) ∧
  (∀ (s : State) (eid tag v : Nat) (e : List Nat),
    s.raised = [] ∧ eid < 256 ∧ tag < 8 ∧ s.i3c = true →
    (v < 17 ∧ e.length = 128 ∧ bytesWf e = true ∧ (v = 0 ∨ s.present (v - 1) = true)) →
    Admits s v e ∧ s.mayReach v 1 = true ∧ bit (s.viewPol v) 16 = false ∧ s.seqMark v e = .ok →
    Gives (.efsiaRequest (.i3c eid tag) v e .ok) s [(F.MGMT_VIEW_PTR_REQ_WR, v, (s.rd F.MGMT_VIEW_PTR_REQ_WR v + 1) %
      128), (F.MGMT_VIEW_CNT_ACCEPTED, v, min (s.rd F.MGMT_VIEW_CNT_ACCEPTED v + 1) 0xFFFF), (F.MGMT_VIEW_SEQ_QSEQ_NEXT,
      v, (s.rd F.MGMT_VIEW_SEQ_QSEQ_NEXT v + 1) % 65536), (F.MGMT_VIEW_STAT_GAP_SENT, v, 0)] (runParts (reqAddr v (s.rd
      F.MGMT_VIEW_PTR_REQ_WR v)) 128) [] fun t => t.rdBytes (reqAddr v (s.rd F.MGMT_VIEW_PTR_REQ_WR v)) 5 = e.take 5 ∧
      t.rdBytes (reqAddr v (s.rd F.MGMT_VIEW_PTR_REQ_WR v) + 120) 4 = [1, eid, tag, 0]) ∧
  (∀ (s : State) (eid tag v : Nat) (e : List Nat),
    s.raised = [] ∧ eid < 256 ∧ tag < 8 ∧ v < 256 ∧ e.length = 128 ∧ bytesWf e = true →
    s.i3c = false →
    Gives (.efsiaRequest (.i3c eid tag) v e .ok) s [] [] [.nack] anyState) ∧
  (∀ (s : State) (eid tag v : Nat) (e : List Nat),
    s.raised = [] ∧ eid < 256 ∧ tag < 8 ∧ v < 256 ∧ e.length = 128 ∧ bytesWf e = true →
    s.smbus = true ∧ 16 < v →
    Gives (.efsiaRequest (.smbus eid tag) v e .ok) s [(F.MGMT_CNT_BADHDR, 0, min (s.rd F.MGMT_CNT_BADHDR 0 + 1) (2 ^
      F.MGMT_CNT_BADHDR.w - 1))] [] [] anyState) ∧
  (∀ (s : State) (eid tag v : Nat) (e : List Nat),
    s.raised = [] ∧ eid < 256 ∧ tag < 8 ∧ v < 17 ∧ e.length = 128 ∧ bytesWf e = true →
    s.smbus = true ∧ 0 < v ∧ s.present (v - 1) = false →
    Gives (.efsiaRequest (.smbus eid tag) v e .ok) s [(F.MGMT_CNT_NOVIEW, 0, min (s.rd F.MGMT_CNT_NOVIEW 0 + 1) (2 ^
      F.MGMT_CNT_NOVIEW.w - 1))] [] [] anyState)

/-- The service of requests by opcode. A visit serves the oldest request of its opcode: the request entry is freed,
and a response with the next RSEQ, the request's sequence number, opcode and route is posted. GET_INFO answers the
device and view; READ the words at its addresses; WRITE writes its word, or marks it in the bitmap with status 9
where it is refused; RMW writes under its mask and answers the old value; RESYNC what was kept at its acceptance;
PORT_SUMMARY fourteen words; HEAT_READ, ZOOM_READ and CAP_READ entries and records. A request whose LEN or count is
out of range is answered 4, one beyond its view's rights 2, one for a port in reset 5, one whose memory word is
uncorrectable 8, and a marked gap 6; of a request that a restore brought, the kept number is a free value (log entry
56). With nothing to serve, or out of the view's turn, nothing happens. (R302, R304, R306, R310, R311, R314, R317,
R399.) -/
def Obligations.RequestsAreServed : Prop :=
  (∀ (s : State) (v : Nat) (e : List Nat),
    Passes s v 1 e →
    Gives (.getInfo v) s (answerVals s v e) (answerParts s v) [] fun t => Answered s v e 0 (s.infoBytes v) t) ∧
  (∀ (s : State) (v ns : Nat) (e : List Nat),
    Passes s v 2 e ∧ ns < 1000 →
    (entryWords e).all plainAddr = true →
    Gives (.read v [] ns) s (answerVals s v e) (answerParts s v) [] fun t => Answered s v e 0 ((entryWords e).flatMap
      fun a => leBytes (s.wordAt a) 4) t) ∧
  (∀ (s : State) (n : Nat) (e : List Nat),
    Passes s 0 3 e →
    n < 16 ∧ s.coreRuns = true ∧ s.portEn n = false ∧ entryAddr e = 0x10028 + 0x1000 * n ∧ entryCount e = 1 ∧ leAt
      (entryPayload e) 8 4 < 256 →
    Gives (.write 0) s (answerVals s 0 e ++ [(F.PORT_TMO_CFG_PRSNT_DB, n, 0), (F.PORT_TMO_CFG_FWD_TMO, n, leAt
      (entryPayload e) 8 4)]) (answerParts s 0) [] fun t => Answered s 0 e 0 [0, 0, 0, 0] t) ∧
  (∀ (s : State) (n : Nat) (e : List Nat),
    Passes s 0 3 e →
    n < 16 ∧ s.coreRuns = true ∧ s.portEn n = true ∧ s.werrAny = true ∧ s.rd F.PORT_TMO_CFG_PRSNT_DB n ≠ 0 ∧ entryAddr e
      = 0x10028 + 0x1000 * n ∧ entryCount e = 1 ∧ leAt (entryPayload e) 8 4 < 256 →
    Gives (.write 0) s (answerVals s 0 e ++ [(F.GLB_WERR_PORT, 0, 1)]) (answerParts s 0) [] fun t => Answered s 0 e 9
      [1, 0, 0, 0] t) ∧
  (∀ (s : State) (n old ns : Nat) (e : List Nat),
    Passes s 0 4 e ∧ ns < 1000 →
    n < 16 ∧ s.coreRuns = true ∧ s.portEn n = false ∧ entryAddr e = 0x10028 + 0x1000 * n ∧ leAt (entryPayload e) 4 4 =
      0xFF ∧ leAt (entryPayload e) 8 4 < 256 →
    old = s.rd F.PORT_TMO_CFG_FWD_TMO n + 65536 * s.rd F.PORT_TMO_CFG_PRSNT_DB n ∧ s.rd F.PORT_TMO_CFG_FWD_TMO n < 256 ∧
      s.rd F.PORT_TMO_CFG_PRSNT_DB n < 256 →
    Gives (.rmw 0 false ns) s (answerVals s 0 e ++ [(F.PORT_TMO_CFG_FWD_TMO, n, leAt (entryPayload e) 8 4)])
      (answerParts s 0) [] fun t => Answered s 0 e 0 (leBytes old 4 ++ [0, 0, 0, 0]) t) ∧
  (∀ (s : State) (v k : Nat) (e : List Nat),
    Passes s v 5 e →
    s.kept v (s.rd F.MGMT_VIEW_PTR_REQ_RD v) = (k, s) →
    Gives (.resync v) s (answerVals s v e) (answerParts s v) [] fun t => Answered s v e 0 (leBytes (k % 65536) 2 ++ [min
      (k / 65536) 255]) t) ∧
  (∀ (s : State) (v : Nat) (e : List Nat),
    Passes s v 5 e →
    (∀ g ∈ (s.view v).gaps, g.1 ≠ s.rd F.MGMT_VIEW_PTR_REQ_RD v) →
    Gives (.resync v) s (answerVals s v e) (.fresh :: answerParts s v) [] fun t => Answered s v e 0 (leBytes
      (Config.freeValue s.fresh % 65536) 2 ++ [min (Config.freeValue s.fresh / 65536) 255]) t ∧ t.fresh = s.fresh + 1) ∧
  (∀ (s : State) (v p : Nat) (e : List Nat),
    Passes s v 6 e →
    p = reqPort v e ∧ p < 16 ∧ s.coreRuns = true →
    Gives (.portSummary v) s (answerVals s v e) (.snaps :: answerParts s v) [] fun t => Answered s v e 0 ((summaryAddrs
      p).flatMap fun a => leBytes (s.wordAt a) 4) t) ∧
  (∀ (s : State) (v p first n b : Nat) (live : Bool) (e : List Nat),
    Passes s v 7 e →
    p = reqPort v e ∧ p < 16 ∧ s.coreRuns = true ∧ first = leAt (entryPayload e) 4 4 ∧ n = byteAt (entryPayload e) 8 ∧
      first + n ≤ s.partLen p →
    (byteAt (entryPayload e) 1 = b2n live ∧ b = (if live then s.liveBank else s.otherBank) ∧ s.liveBank < 2) →
    (∀ k ∈ List.range n, s.sharedEntry false ((s.rd F.HEAT_PRANGE_FIRST p + first + k) % 262144) = false) →
    Gives (.heatRead v []) s (answerVals s v e) (answerParts s v) [] fun t => Answered s v e 0 (bankAnswer s live ++
      (List.range n).flatMap fun k => leBytes (s.rdWord32 (heatAddr false b ((s.rd F.HEAT_PRANGE_FIRST p + first + k) %
      262144))) 4) t) ∧
  (∀ (s : State) (v z first n b : Nat) (live : Bool) (e : List Nat),
    Passes s v 8 e →
    z = byteAt (entryPayload e) 0 ∧ z < 16 ∧ s.coreRuns = true ∧ first = leAt (entryPayload e) 4 2 ∧ n = byteAt
      (entryPayload e) 8 ∧ first + n ≤ 4096 →
    (byteAt (entryPayload e) 1 = b2n live ∧ b = (if live then s.liveBank else s.otherBank) ∧ s.liveBank < 2) →
    Gives (.zoomRead v []) s (answerVals s v e) (answerParts s v) [] fun t => Answered s v e 0 (bankAnswer s live ++
      (List.range n).flatMap fun k => leBytes (s.rdWord32 (heatAddr true b (4096 * z + first + k))) 4) t) ∧
  (∀ (s : State) (v p i part a : Nat) (e : List Nat),
    Passes s v 9 e →
    p = reqPort v e ∧ p < 16 ∧ s.coreRuns = true ∧ i = leAt (entryPayload e) 2 2 ∧ part = byteAt (entryPayload e) 4 ∧
      part ≤ 2 ∧ i < s.capTotal p →
    s.rd F.PORT_CAP_CFG_SEG_BASE p + i / 910 < 8 ∧ a = 0x500000 + (s.rd F.PORT_CAP_CFG_SEG_BASE p + i / 910) * 0x40000 +
      i % 910 * 288 + 112 * part →
    Gives (.capRead v []) s (answerVals s v e) (answerParts s v) [] fun t => Answered s v e 0 ((List.range (if part = 2
      then 16 else 28)).flatMap fun k => leBytes (s.rdWord32 (a + 4 * k)) 4) t) ∧
  (∀ (s : State) (v ns : Nat) (e : List Nat),
    Waits s v 2 e →
    lenOk e = false ∧ ns < 1000 →
    Gives (.read v [] ns) s (answerVals s v e) (answerParts s v) [] fun t => Answered s v e 4 [] t) ∧
  (∀ (s : State) (v : Nat) (e : List Nat),
    Waits s v 3 e →
    lenOk e = true ∧ v ≠ 0 →
    Gives (.write v) s (answerVals s v e) (answerParts s v) [] fun t => Answered s v e 2 [] t) ∧
  (∀ (s : State) (v : Nat) (e : List Nat),
    Waits s v 6 e →
    lenOk e = true ∧ v ≠ 0 ∧ s.rd F.PORT_STAT_RSTDONE (v - 1) = 0 →
    Gives (.portSummary v) s (answerVals s v e ++ [(F.MGMT_VIEW_CNT3_ABORTED, v, min (s.rd F.MGMT_VIEW_CNT3_ABORTED v +
      1) (2 ^ F.MGMT_VIEW_CNT3_ABORTED.w - 1))]) (answerParts s v) [] fun t => Answered s v e 5 [] t) ∧
  (∀ (s : State) (v k : Nat) (e : List Nat),
    s.raised = [] ∧ v < 17 ∧ s.mayServe v = true ∧ s.turns v ≠ [] ∧ e = s.rdBytes (reqAddr v (s.rd
      F.MGMT_VIEW_PTR_REQ_RD v)) 128 ∧ bit (entryFlags e) 4 = true ∧ byteAt e 120 = 3 ∧ s.csbUp = false →
    (s.view v).handed = s.rd F.MGMT_VIEW_PTR_RSP_WR v ∧ s.rd F.MGMT_VIEW_PTR_RSP_WR v < 128 ∧ s.kept v (s.rd
      F.MGMT_VIEW_PTR_REQ_RD v) = (k, s) →
    Gives (.getInfo v) s (answerVals s v e) (answerParts s v) [] fun t => Answered s v e 6 (leBytes k 2) t) ∧
  (∀ (s : State) (v : Nat) (c : Instr),
    Quiet s →
    (v < 17 ∧ (s.mayServe v = false ∨ s.turns v = [])) →
    (c = .getInfo v ∨ c = .read v [] 0 ∨ c = .write v ∨ c = .rmw v false 0 ∨ c = .resync v ∨ c = .portSummary v ∨ c =
      .heatRead v [] ∨ c = .zoomRead v [] ∨ c = .capRead v []) →
    Gives c s [] [] [] anyState) ∧
  (∀ (s : State) (ns a : Nat) (e : List Nat),
    Passes s 0 4 e ∧ ns < 1000 →
    s.coreRuns = true ∧ a = entryAddr e ∧ windowAt a = some .phrase →
    Reports (.rmw 0 true ns) s (answerVals s 0 e ++ [(F.SUMP_ECC_STAT_UE, 6, min (s.rd F.SUMP_ECC_STAT_UE 6 + 1) (2 ^
      F.SUMP_ECC_STAT_UE.w - 1)), (F.SUMP_ECC_LAST_WORD, 6, (a - 0x100000) / 8), (F.SUMP_ECC_LAST_UE, 6, 1)])
      (answerParts s 0) [⟨12, 6, 0, false⟩] [] fun t => Answered s 0 e 8 [] t)

/-- Freezing, saving, restoring and resetting views. FREEZE of a port view that is not frozen freezes it at the
present drip and clears its save flags; a thaw of a frozen one releases it and clears them too; a view already so
loses its save flags, and view 0 does not change. SAVE and RESTORE of a frozen view start; their end is a record of
the view's sequence, pointer and counter state with its CRC (SAVED), or the state that an intact record holds
(RST_OK), or with another record RST_ERR and no change of the rings. SAVE and RING_RST of a view not frozen are
refused; RESTORE into it is unpredictable and faults. RING_RST empties the rings and ends the freeze. CNT_CLR of a
view, or of the device, clears the counters. (R308, R319, R320, R321, R327, R329, R390.) -/
def Obligations.ViewsAreFrozenSavedAndRestored : Prop :=
  (∀ (s : State) (r : Requester) (v : Nat),
    BusReady s r →
    0 < v ∧ v < 17 →
    s.rd F.MGMT_VIEW_CTL_FREEZE v = 0 →
    Gives (.viewFreeze r v) s [(F.MGMT_VIEW_CTL_FREEZE, v, 1), (F.MGMT_VIEW_STAT_FROZEN, v, 1),
      (F.MGMT_VIEW_STAT_RST_ERR, v, 0), (F.MGMT_VIEW_STAT_RST_OK, v, 0), (F.MGMT_VIEW_STAT_SAVED, v, 0)] [.view v]
      [.writeAck] fun t => t.view v = { s.view v with frozenAt := s.drip, restored := false }) ∧
  (∀ (s : State) (r : Requester) (v : Nat),
    BusReady s r →
    v = 0 →
    Gives (.viewFreeze r v) s [] [] [.writeAck] anyState) ∧
  (∀ (s : State) (r : Requester) (v : Nat),
    BusReady s r →
    v ≠ 0 ∧ v < 17 ∧ s.rd F.MGMT_VIEW_CTL_FREEZE v = 1 →
    Gives (.viewFreeze r v) s [(F.MGMT_VIEW_STAT_RST_ERR, v, 0), (F.MGMT_VIEW_STAT_RST_OK, v, 0),
      (F.MGMT_VIEW_STAT_SAVED, v, 0)] [] [.writeAck] anyState) ∧
  (∀ (s : State) (r : Requester) (v : Nat),
    BusReady s r →
    0 < v ∧ v < 17 →
    s.rd F.MGMT_VIEW_CTL_FREEZE v = 1 ∧ (s.view v).handed = s.rd F.MGMT_VIEW_PTR_RSP_WR v →
    Gives (.viewThaw r v) s [(F.MGMT_VIEW_CTL_FREEZE, v, 0), (F.MGMT_VIEW_STAT_FROZEN, v, 0), (F.MGMT_VIEW_STAT_RST_ERR,
      v, 0), (F.MGMT_VIEW_STAT_RST_OK, v, 0), (F.MGMT_VIEW_STAT_SAVED, v, 0)] [.view v] [.writeAck] fun t => t.view v =
      { s.view v with restored := false }) ∧
  (∀ (s : State) (r : Requester) (v : Nat),
    BusReady s r →
    v = 0 →
    Gives (.viewThaw r v) s [] [] [.writeAck] anyState) ∧
  (∀ (s : State) (r : Requester) (v : Nat),
    BusReady s r →
    v ≠ 0 ∧ v < 17 ∧ s.rd F.MGMT_VIEW_CTL_FREEZE v ≠ 1 →
    Gives (.viewThaw r v) s [(F.MGMT_VIEW_STAT_RST_ERR, v, 0), (F.MGMT_VIEW_STAT_RST_OK, v, 0), (F.MGMT_VIEW_STAT_SAVED,
      v, 0)] [] [.writeAck] anyState) ∧
  (∀ (s : State) (r : Requester) (v : Nat),
    BusReady s r →
    v < 17 →
    s.flag F.MGMT_VIEW_STAT_FROZEN v = true →
    Gives (.mgmtViewCtlSave r v) s [(F.MGMT_VIEW_STAT_BLOB_BUSY, v, 1), (F.MGMT_VIEW_STAT_RST_ERR, v, 0),
      (F.MGMT_VIEW_STAT_RST_OK, v, 0), (F.MGMT_VIEW_STAT_SAVED, v, 0)] [.view v] [.writeAck] fun t => t.view v =
      { s.view v with blobOp := some true }) ∧
  (∀ (s : State) (r : Requester) (v : Nat),
    BusReady s r →
    v < 17 →
    s.flag F.MGMT_VIEW_STAT_FROZEN v = false ∧ s.werrAny = true →
    Gives (.mgmtViewCtlSave r v) s [(F.GLB_WERR_MGMT, 0, 1)] [] [.writeAck] fun t => t.refusedNow = true) ∧
  (∀ (s : State) (r : Requester) (v : Nat),
    BusReady s r →
    v < 17 →
    s.flag F.MGMT_VIEW_STAT_FROZEN v = true →
    Gives (.mgmtViewCtlRestore r v) s [(F.MGMT_VIEW_STAT_BLOB_BUSY, v, 1), (F.MGMT_VIEW_STAT_RST_ERR, v, 0),
      (F.MGMT_VIEW_STAT_RST_OK, v, 0), (F.MGMT_VIEW_STAT_SAVED, v, 0)] [.view v] [.writeAck] fun t => t.view v =
      { s.view v with blobOp := some false }) ∧
  (∀ (s : State) (r : Requester) (v : Nat),
    BusReady s r →
    v < 17 →
    s.flag F.MGMT_VIEW_STAT_FROZEN v = false →
    exec (.mgmtViewCtlRestore r v) s = .fault .blobNotFrozen) ∧
  (∀ (s : State) (v : Nat) (ws : List Nat),
    Quiet s →
    v < 17 →
    ((s.view v).blobOp = some true ∧ ws = s.blobWords v ∧ ∀ w ∈ ws, w < 2 ^ 32) →
    Gives (.saveRestoreComplete v) s ((F.MGMT_VIEW_STAT_BLOB_BUSY, v, 0) :: (F.MGMT_VIEW_STAT_SAVED, v, 1) ::
      (F.MGMT_VIEW_BLOB_WORD, 16 * v + 15, s.blobCrc v ws) :: (List.range 15).map fun k => (F.MGMT_VIEW_BLOB_WORD, 16 *
      v + k, ws.getD k 0)) [.view v] [] fun t => t.view v = { s.view v with blobOp := none, savedOnce := true }) ∧
  (∀ (s : State) (v : Nat),
    Quiet s →
    v < 17 →
    (s.view v).blobOp = some false ∧ Detached s v ∧ s.blob v 0 / 2 ^ 8 = 0xEF5A01 ∧ s.blob v 15 = s.blobCrc v
      ((List.range 15).map (s.blob v)) ∧ s.blob v 1 < 2 ^ 32 ∧ s.blob v 2 < 2 ^ 31 →
    Gives (.saveRestoreComplete v) s [(F.MGMT_VIEW_STAT_BLOB_BUSY, v, 0), (F.MGMT_VIEW_STAT_RST_OK, v, 1),
      (F.MGMT_VIEW_SEQ_QSEQ_NEXT, v, s.blob v 1 % 65536), (F.MGMT_VIEW_SEQ_RSEQ_NEXT, v, s.blob v 1 / 65536),
      (F.MGMT_VIEW_STAT_GAP_SENT, v, s.blob v 3 % 2), (F.MGMT_VIEW_PTR_REQ_WR, v, bits (s.blob v 2)
      F.MGMT_VIEW_PTR_REQ_WR.lo 7), (F.MGMT_VIEW_PTR_REQ_RD, v, bits (s.blob v 2) F.MGMT_VIEW_PTR_REQ_RD.lo 7),
      (F.MGMT_VIEW_PTR_RSP_WR, v, bits (s.blob v 2) F.MGMT_VIEW_PTR_RSP_WR.lo 7), (F.MGMT_VIEW_PTR_RSP_TX, v, bits
      (s.blob v 2) F.MGMT_VIEW_PTR_RSP_TX.lo 7)] (.view v :: partsOf (Reg.MGMT_VIEW_CNT.fields ++
      Reg.MGMT_VIEW_CNT2.fields ++ Reg.MGMT_VIEW_CNT3.fields) v) [] fun t => (t.view v).blobOp = none ∧ (t.view
      v).handed = bits (s.blob v 2) F.MGMT_VIEW_PTR_RSP_TX.lo 7) ∧
  (∀ (s : State) (v : Nat),
    Quiet s →
    v < 17 →
    (s.view v).blobOp = some false ∧ ¬(s.blob v 0 / 2 ^ 8 = 0xEF5A01 ∧ s.blob v 15 = s.blobCrc v ((List.range 15).map
      (s.blob v))) →
    Gives (.saveRestoreComplete v) s [(F.MGMT_VIEW_STAT_BLOB_BUSY, v, 0), (F.MGMT_VIEW_STAT_RST_ERR, v, 1)] [.view v] []
      fun t => t.view v = { s.view v with blobOp := none }) ∧
  (∀ (s : State) (v : Nat),
    Quiet s →
    v < 17 →
    (s.view v).blobOp = none →
    Gives (.saveRestoreComplete v) s [] [] [] anyState) ∧
  (∀ (s : State) (r : Requester) (v : Nat),
    BusReady s r →
    v < 17 →
    s.flag F.MGMT_VIEW_STAT_FROZEN v = true ∧ Detached s v →
    s.rd F.MGMT_VIEW_PTR_REQ_WR v < 128 ∧ s.rd F.MGMT_VIEW_PTR_RSP_WR v < 128 →
    Gives (.mgmtViewCtlRingRst r v) s [(F.MGMT_VIEW_PTR_REQ_RD, v, s.rd F.MGMT_VIEW_PTR_REQ_WR v),
      (F.MGMT_VIEW_PTR_RSP_TX, v, s.rd F.MGMT_VIEW_PTR_RSP_WR v), (F.MGMT_VIEW_SEQ_QSEQ_NEXT, v, 0),
      (F.MGMT_VIEW_SEQ_RSEQ_NEXT, v, 0), (F.MGMT_VIEW_STAT_GAP_SENT, v, 0), (F.MGMT_VIEW_CTL_FREEZE, v, 0),
      (F.MGMT_VIEW_STAT_FROZEN, v, 0)] [.view v] [.writeAck] fun t => t.view v =
      { s.view v with done := [], gaps := [], past := [], handed := s.rd F.MGMT_VIEW_PTR_RSP_WR v }) ∧
  (∀ (s : State) (r : Requester) (v : Nat),
    BusReady s r →
    v < 17 →
    s.flag F.MGMT_VIEW_STAT_FROZEN v = false ∧ s.werrAny = true →
    Gives (.mgmtViewCtlRingRst r v) s [(F.GLB_WERR_MGMT, 0, 1)] [] [.writeAck] fun t => t.refusedNow = true) ∧
  (∀ (s : State) (r : Requester) (v : Nat),
    BusReady s r →
    v < 17 →
    Gives (.mgmtViewCtlCntClr r v) s ((Reg.MGMT_VIEW_CNT.fields ++ Reg.MGMT_VIEW_CNT2.fields ++
      Reg.MGMT_VIEW_CNT3.fields).map fun f => (f, v, 0)) [] [.writeAck] anyState) ∧
  (∀ (s : State) (r : Requester),
    BusReady s r →
    Gives (.mgmtCtlCntClr r) s ((Reg.MGMT_CNT.fields ++ Reg.MGMT_SEC_CNT.fields).map (fun f => (f, 0, 0)) ++ (List.range
      17).flatMap fun v => (Reg.MGMT_VIEW_CNT.fields ++ Reg.MGMT_VIEW_CNT2.fields ++ Reg.MGMT_VIEW_CNT3.fields).map fun
      f => (f, v, 0)) [] [.writeAck] anyState) ∧
  (∀ (s : State) (r : Requester) (a x : Nat),
    CoreReady s r →
    0x140000 ≤ a ∧ a < 0x184000 ∧ a % 4 = 0 ∧ x < 2 ^ 32 →
    s.ringOwned a = false →
    Gives (.mailboxWrite r a x) s [] (runParts a 4) [.writeAck] fun t => t.rdWord32 a = x) ∧
  (∀ (s : State) (r : Requester) (a x : Nat),
    CoreReady s r →
    0x140000 ≤ a ∧ a < 0x184000 ∧ a % 4 = 0 ∧ x < 2 ^ 32 →
    s.ringOwned a = true →
    exec (.mailboxWrite r a x) s = .fault .ringEntryOwned)

/-- I3C addressing and the common commands. Without a dynamic address the device takes one by ENTDAA, answering its
PID, BCR and DCR, by SETDASA for its static address, and by SETAASA its static address; with one it ignores these,
and takes a new one by SETNEWDA for its address. RSTDAA releases it. The commands to the dynamic address are
acknowledged while it is held: ENEC and DISEC switch in-band interrupts, and with one enabled a waiting I3C packet
raises it; SETMWL and SETMRL set lengths within 69 to 256 and the GET commands answer. (R298, R299.) -/
def Obligations.TheBusTargetTakesItsAddresses : Prop :=
  (∀ (s : State) (a : Nat),
    Quiet s →
    a < 128 →
    s.i3c = false ∧ s.held = false →
    Gives (.entdaa a) s [(F.MGMT_BUS_STAT_DYN_ADDR, 0, a), (F.MGMT_BUS_STAT_DA_VALID, 0, 1), (F.MGMT_STAT_BUS_MODE, 0,
      1)] [] [.bus (beBytes s.pid 6 ++ [0x06, 0x00])] anyState) ∧
  (∀ (s : State) (a : Nat),
    Quiet s →
    a < 128 →
    (s.i3c = true ∨ s.held = true) →
    Gives (.entdaa a) s [] [] [] anyState) ∧
  (∀ (s : State) (st a : Nat),
    Quiet s →
    st < 128 ∧ a < 128 →
    s.i3c = false ∧ s.held = false ∧ s.rd F.MGMT_BUS_STAT_STATIC_ADDR 0 = st →
    Gives (.setdasa st a) s [(F.MGMT_BUS_STAT_DYN_ADDR, 0, a), (F.MGMT_BUS_STAT_DA_VALID, 0, 1), (F.MGMT_STAT_BUS_MODE,
      0, 1)] [] [] anyState) ∧
  (∀ (s : State) (st a : Nat),
    Quiet s →
    st < 128 ∧ a < 128 →
    (s.i3c = true ∨ s.held = true ∨ s.rd F.MGMT_BUS_STAT_STATIC_ADDR 0 ≠ st) →
    Gives (.setdasa st a) s [] [] [] anyState) ∧
  (∀ (s : State),
    Quiet s →
    s.i3c = false ∧ s.held = false →
    Gives .setaasa s [(F.MGMT_BUS_STAT_DYN_ADDR, 0, s.rd F.MGMT_BUS_STAT_STATIC_ADDR 0 % 128),
      (F.MGMT_BUS_STAT_DA_VALID, 0, 1), (F.MGMT_STAT_BUS_MODE, 0, 1)] [] [] anyState) ∧
  (∀ (s : State),
    Quiet s →
    (s.i3c = true ∨ s.held = true) →
    Gives .setaasa s [] [] [] anyState) ∧
  (∀ (s : State) (a b : Nat),
    Quiet s →
    a < 128 ∧ b < 128 →
    s.i3c = true ∧ s.held = false ∧ s.rd F.MGMT_BUS_STAT_DYN_ADDR 0 = a →
    Gives (.setnewda a b) s [(F.MGMT_BUS_STAT_DYN_ADDR, 0, b), (F.MGMT_BUS_STAT_DA_VALID, 0, 1)] [] [] anyState) ∧
  (∀ (s : State) (a b : Nat),
    Quiet s →
    a < 128 ∧ b < 128 →
    (s.i3c = false ∨ s.held = true ∨ s.rd F.MGMT_BUS_STAT_DYN_ADDR 0 ≠ a) →
    Gives (.setnewda a b) s [] [] [] anyState) ∧
  (∀ (s : State),
    Quiet s →
    Gives .rstdaa s [(F.MGMT_BUS_STAT_DYN_ADDR, 0, 0), (F.MGMT_BUS_STAT_DA_VALID, 0, 0), (F.MGMT_STAT_BUS_MODE, 0, 0)]
      [] [] anyState) ∧
  (∀ (s : State),
    Quiet s →
    s.i3c = true →
    Gives (.enec true) s [] [.bus] (if s.bus.pkts.any (fun p => !p.smbus) then [.ibi 0xAE] else []) fun t => t.bus =
      { s.bus with ibi := true }) ∧
  (∀ (s : State),
    Quiet s →
    s.i3c = true →
    Gives (.disec true) s [] [.bus] [] fun t => t.bus = { s.bus with ibi := false }) ∧
  (∀ (s : State),
    Quiet s →
    s.i3c = true →
    Gives (.enec false) s [] [] [] anyState) ∧
  (∀ (s : State),
    Quiet s →
    s.i3c = true →
    Gives (.disec false) s [] [] [] anyState) ∧
  (∀ (s : State) (c : Instr),
    Quiet s →
    s.i3c = false →
    (c = .getpid ∨ c = .getbcr ∨ c = .getdcr ∨ c = .getstatus ∨ c = .getmwl ∨ c = .getmrl ∨ c = .getmxds ∨ c = .enec
      true ∨ c = .disec true ∨ c = .i3cPrivateRead true ∨ c = .i3cPrivateRead false) →
    Gives c s [] [] [.nack] anyState) ∧
  (∀ (s : State),
    Quiet s →
    s.i3c = true →
    Gives .getpid s [] [] [.bus (beBytes (0x5A2D * 2 ^ 33 + 0x3234 * 2 ^ 16 + s.strapAddr * 2 ^ 12) 6)] anyState) ∧
  (∀ (s : State),
    Quiet s →
    s.i3c = true →
    Gives .getbcr s [] [] [.bus [0x06]] anyState) ∧
  (∀ (s : State),
    Quiet s →
    s.i3c = true →
    Gives .getdcr s [] [] [.bus [0x00]] anyState) ∧
  (∀ (s : State),
    Quiet s →
    s.i3c = true →
    Gives .getstatus s [] [] [.bus [0, b2n (s.bus.pkts.any fun p => !p.smbus)]] anyState) ∧
  (∀ (s : State),
    Quiet s →
    s.i3c = true →
    Gives .getmwl s [] [] [.bus (beBytes s.bus.mwl 2)] anyState) ∧
  (∀ (s : State),
    Quiet s →
    s.i3c = true →
    Gives .getmrl s [] [] [.bus (beBytes s.bus.mrl 2)] anyState) ∧
  (∀ (s : State),
    Quiet s →
    s.i3c = true →
    Gives .getmxds s [] [] [.bus [0, 0]] anyState) ∧
  (∀ (s : State) (n : Nat),
    Quiet s →
    n < 2 ^ 16 →
    s.i3c = true →
    Gives (.setmwl n) s [] [.bus] [] fun t => t.bus = { s.bus with mwl := max 69 (min n 256) }) ∧
  (∀ (s : State) (n : Nat),
    Quiet s →
    n < 2 ^ 16 →
    s.i3c = true →
    Gives (.setmrl n) s [] [.bus] [] fun t => t.bus = { s.bus with mrl := max 69 (min n 256) }) ∧
  (∀ (s : State) (n : Nat),
    Quiet s →
    n < 2 ^ 16 →
    s.i3c = false →
    Gives (.setmwl n) s [] [] [.nack] anyState) ∧
  (∀ (s : State) (n : Nat),
    Quiet s →
    n < 2 ^ 16 →
    s.i3c = false →
    Gives (.setmrl n) s [] [] [.nack] anyState)

/-- Packets and MCTP control messages. A read returns the oldest packet that waits for it; the last packet of a
response frees its entry and counts it; with none waiting the read is not acknowledged. An SMBus write is
acknowledged unless PEC_REQ asks for a PEC it lacks; SMBus is refused while a dynamic address is held. The alert
response names the static address while a packet waits. A refused packet and one unread for 1 s lose their message,
a response counted as dropped. SCL held low changes no state. Each MCTP control message is answered by one packet
where the device is heard on the bus, and ignored where it is not; its instance ID, which no command carries, and
the versions, which the manual does not give, are free values (log entry 24). (R298, R299, R300, R301, R311.) -/
def Obligations.PacketsAreReadAndAnswered : Prop :=
  (∀ (s : State) (p : BusPkt) (q : List BusPkt),
    Quiet s →
    s.i3c = true ∧ s.bus.pkts = p :: q ∧ p.smbus = false ∧ p.ptr = none →
    BusShown s →
    Gives (.i3cPrivateRead false) s [] [.bus] [.bus (s.pktFrame p)] fun t => t.bus = { s.bus with pkts := q }) ∧
  (∀ (s : State) (p : BusPkt) (v k : Nat),
    Quiet s →
    v < 17 ∧ s.i3c = true ∧ s.bus.pkts = [p] ∧ p.smbus = false ∧ p.view = some v ∧ p.ptr = some k ∧ p.last = true →
    BusShown s →
    k = s.rd F.MGMT_VIEW_PTR_RSP_TX v ∧ k < 128 ∧ s.rd F.MGMT_VIEW_PTR_RSP_WR v = (k + 1) % 128 ∧ (s.view v).done = [] →
    Gives (.i3cPrivateRead false) s [(F.MGMT_VIEW_PTR_RSP_TX, v, (k + 1) % 128), (F.MGMT_VIEW_CNT_SENT, v, min (s.rd
      F.MGMT_VIEW_CNT_SENT v + 1) 0xFFFF)] [.bus, .view v] [.bus (s.pktFrame p)] fun t => t.bus.pkts = []) ∧
  (∀ (s : State) (b : Bool),
    Quiet s →
    s.i3c = true ∧ s.bus.pkts.any (fun p => !p.smbus) = false →
    Gives (.i3cPrivateRead b) s [] [] [.nack] anyState) ∧
  (∀ (s : State) (p : BusPkt) (v k : Nat),
    Quiet s →
    v < 17 ∧ s.i3c = true ∧ s.bus.pkts = [p] ∧ p.smbus = false ∧ p.view = some v ∧ p.ptr = some k ∧ p.last = true →
    BusShown s →
    k = s.rd F.MGMT_VIEW_PTR_RSP_TX v ∧ k < 128 ∧ s.rd F.MGMT_VIEW_PTR_RSP_WR v = (k + 1) % 128 ∧ (s.view v).done = [] →
    Gives (.i3cPrivateRead true) s [(F.MGMT_VIEW_PTR_RSP_TX, v, (k + 1) % 128), (F.MGMT_VIEW_CNT2_RSP_DROP, v, min (s.rd
      F.MGMT_VIEW_CNT2_RSP_DROP v + 1) (2 ^ F.MGMT_VIEW_CNT2_RSP_DROP.w - 1))] [.bus, .view v] [] fun t => t.bus.pkts =
      []) ∧
  (∀ (s : State) (pec : Option Bool) (x : List Nat),
    Quiet s →
    (∀ b ∈ x, b < 256) →
    Gives (.smbusWrite pec x) s [] [] (if s.smbus = false then [.nack] else if s.rd F.MGMT_BUS_CFG_PEC_REQ 0 = 1 ∧ pec ≠
      some true then [] else [.writeAck]) anyState) ∧
  (∀ (s : State),
    Quiet s →
    Gives .sclLowTimeout s [] [] [] anyState) ∧
  (∀ (s : State),
    Quiet s →
    Gives .alertResponse s [] [] (if s.smbus = true ∧ s.rd F.MGMT_STAT_SMB_PEND 0 = 1 then [.bus [2 * s.rd
      F.MGMT_BUS_STAT_STATIC_ADDR 0]] else [.nack]) anyState) ∧
  (∀ (s : State) (p : BusPkt) (v k : Nat),
    Quiet s →
    v < 17 ∧ s.smbus = true ∧ s.bus.pkts = [p] ∧ p.smbus = true ∧ p.view = some v ∧ p.ptr = some k ∧ p.last = true →
    k = s.rd F.MGMT_VIEW_PTR_RSP_TX v ∧ k < 128 ∧ s.rd F.MGMT_VIEW_PTR_RSP_WR v = (k + 1) % 128 ∧ (s.view v).done = [] →
    Gives (.smbusBlockRead false) s [(F.MGMT_STAT_SMB_PEND, 0, 0), (F.MGMT_VIEW_PTR_RSP_TX, v, (k + 1) % 128),
      (F.MGMT_VIEW_CNT_SENT, v, min (s.rd F.MGMT_VIEW_CNT_SENT v + 1) 0xFFFF)] [.bus, .view v] [.bus (s.pktFrame p)] fun
      t => t.bus.pkts = []) ∧
  (∀ (s : State) (b : Bool),
    Quiet s →
    (s.smbus = false ∨ s.bus.pkts.any (fun p => p.smbus) = false) →
    Gives (.smbusBlockRead b) s [] [] [.nack] anyState) ∧
  (∀ (s : State) (p : BusPkt) (v k : Nat),
    Quiet s →
    v < 17 ∧ s.bus.pkts = [p] ∧ p.smbus = true ∧ p.view = some v ∧ p.ptr = some k ∧ p.last = true →
    k = s.rd F.MGMT_VIEW_PTR_RSP_TX v ∧ k < 128 ∧ s.rd F.MGMT_VIEW_PTR_RSP_WR v = (k + 1) % 128 ∧ (s.view v).done = [] →
    Gives .smbusPacketTimeout s [(F.MGMT_STAT_SMB_PEND, 0, 0), (F.MGMT_VIEW_PTR_RSP_TX, v, (k + 1) % 128),
      (F.MGMT_VIEW_CNT2_RSP_DROP, v, min (s.rd F.MGMT_VIEW_CNT2_RSP_DROP v + 1) (2 ^ F.MGMT_VIEW_CNT2_RSP_DROP.w - 1))]
      [.bus, .view v] [] fun t => t.bus.pkts = []) ∧
  (∀ (s : State),
    Quiet s →
    s.bus.pkts.any (fun p => p.smbus) = false →
    Gives .smbusPacketTimeout s [] [] [] anyState) ∧
  (∀ (s : State) (eid src tag : Nat),
    Quiet s →
    eid < 255 ∧ 0 < eid ∧ src < 256 ∧ tag < 8 →
    BusShown s ∧ Hears s →
    Gives (.setEndpointId eid src tag) s [(F.MGMT_BUS_STAT_EID, 0, eid), (F.MGMT_STAT_SMB_PEND, 0, if s.i3c then s.rd
      F.MGMT_STAT_SMB_PEND 0 else 1)] [.bus, .fresh] [.message src tag 1 [0, 0, eid, 0]] fun t => t.bus.pkts =
      s.bus.pkts ++ ctlPkts s eid src tag s.fresh 1 [0, 0, eid, 0]) ∧
  (∀ (s : State) (eid src tag e : Nat),
    Quiet s →
    ((eid = 0 ∨ eid = 255) ∧ src < 256 ∧ tag < 8) →
    BusShown s ∧ Hears s →
    e = s.rd F.MGMT_BUS_STAT_EID 0 →
    Gives (.setEndpointId eid src tag) s [(F.MGMT_STAT_SMB_PEND, 0, if s.i3c then s.rd F.MGMT_STAT_SMB_PEND 0 else 1)]
      [.bus, .fresh] [.message src tag 1 [2, 0x10, e, 0]] fun t => t.bus.pkts = s.bus.pkts ++ ctlPkts s e src tag
      s.fresh 1 [2, 0x10, e, 0]) ∧
  (∀ (s : State) (src tag e : Nat),
    Quiet s →
    src < 256 ∧ tag < 8 →
    BusShown s ∧ Hears s →
    e = s.rd F.MGMT_BUS_STAT_EID 0 →
    Gives (.getEndpointId src tag) s [(F.MGMT_STAT_SMB_PEND, 0, if s.i3c then s.rd F.MGMT_STAT_SMB_PEND 0 else 1)]
      [.bus, .fresh] [.message src tag 2 [0, e, 0, 0]] fun t => t.bus.pkts = s.bus.pkts ++ ctlPkts s e src tag s.fresh 2
      [0, e, 0, 0]) ∧
  (∀ (s : State) (src tag e : Nat),
    Quiet s →
    src < 256 ∧ tag < 8 →
    BusShown s ∧ Hears s →
    e = s.rd F.MGMT_BUS_STAT_EID 0 →
    Gives (.getMctpVersionSupport src tag) s [(F.MGMT_STAT_SMB_PEND, 0, if s.i3c then s.rd F.MGMT_STAT_SMB_PEND 0 else
      1)] [.bus, .fresh] [.message src tag 4 ([0, 1] ++ (s.freeBytes 4).1)] fun t => t.bus.pkts = s.bus.pkts ++ ctlPkts
      s e src tag (s.freeBytes 4).2.fresh 4 ([0, 1] ++ (s.freeBytes 4).1)) ∧
  (∀ (s : State) (src tag e : Nat),
    Quiet s →
    src < 256 ∧ tag < 8 →
    BusShown s ∧ Hears s →
    e = s.rd F.MGMT_BUS_STAT_EID 0 →
    Gives (.getMessageTypeSupport src tag) s [(F.MGMT_STAT_SMB_PEND, 0, if s.i3c then s.rd F.MGMT_STAT_SMB_PEND 0 else
      1)] [.bus, .fresh] [.message src tag 5 [0, 4, 0x00, 0x01, 0x05, 0x7F]] fun t => t.bus.pkts = s.bus.pkts ++ ctlPkts
      s e src tag s.fresh 5 [0, 4, 0x00, 0x01, 0x05, 0x7F]) ∧
  (∀ (s : State) (src tag e : Nat),
    Quiet s →
    src < 256 ∧ tag < 8 →
    BusShown s ∧ Hears s →
    e = s.rd F.MGMT_BUS_STAT_EID 0 →
    Gives (.getVendorDefinedMsgSupport src tag) s [(F.MGMT_STAT_SMB_PEND, 0, if s.i3c then s.rd F.MGMT_STAT_SMB_PEND 0
      else 1)] [.bus, .fresh] [.message src tag 6 ([0, 0xFF, 1] ++ beBytes (s.rd F.MGMT_VDM_ID_PEN 0) 4)] fun t =>
      t.bus.pkts = s.bus.pkts ++ ctlPkts s e src tag s.fresh 6 ([0, 0xFF, 1] ++ beBytes (s.rd F.MGMT_VDM_ID_PEN 0) 4)) ∧
  (∀ (s : State) (c : Instr) (eid src tag : Nat),
    Quiet s →
    eid < 256 ∧ src < 256 ∧ tag < 8 →
    s.i3c = false ∧ s.smbus = false →
    (c = .setEndpointId eid src tag ∨ c = .getEndpointId src tag ∨ c = .getMctpVersionSupport src tag ∨ c =
      .getMessageTypeSupport src tag ∨ c = .getVendorDefinedMsgSupport src tag) →
    Gives c s [] [] [] anyState)

/-- The SPDM responder. GET_VERSION starts a new negotiation with a new transcript. GET_CAPABILITIES and
NEGOTIATE_ALGORITHMS need a negotiated version, the other requests negotiated algorithms. Each request taken joins
the transcript and is answered by one message on the bus in use; digests, certificates, nonces and signatures are
free bytes; a measurement block holds its index, its value type and the digest of what it measures. CHALLENGE and a
signed GET_MEASUREMENTS start signing, which holds the secure domain; SIGNING_COMPLETE sends the signed response and
counts it. While LRUN = 0, or a response is being signed, requests are answered Busy. The codes and layouts of the
messages are the model's (log entry 25). (R324, R325, R326, R328, R34.) -/
def Obligations.TheResponderNegotiatesAndMeasures : Prop :=
  (∀ (s : State) (src : Nat),
    SpdmAt s 0 ∧ src < 256 →
    Gives (.getVersion src) s ((F.MGMT_SEC_STAT_SPDM, 0, 1) :: toldVals s) [.bus, .spdm] [.message src 0 0x04 [0, 0, 0,
      1, 0x00, 0x13]] fun t => Told s src [spdmBody 0x04 [0, 0, 0, 1, 0x00, 0x13]] t ∧ t.spdm = ⟨none, 0, 1⟩) ∧
  (∀ (s : State) (src e : Nat) (chal : Bool),
    Quiet s ∧ Hears s →
    BusShown s →
    src < 256 ∧ s.flag F.MGMT_STAT_LRUN 0 = true ∧ s.spdm.signing = some (e, chal) →
    Gives (.getVersion src) s ((F.MGMT_SEC_STAT_SPDM, 0, if e = src then 1 else s.rd F.MGMT_SEC_STAT_SPDM 0) :: toldVals
      s) [.bus, .spdm] (if e = src then [.message src 0 0x04 [0, 0, 0, 1, 0x00, 0x13]] else [.message src 0 0x7F [3,
      0]]) fun t => Told s src [if e = src then spdmBody 0x04 [0, 0, 0, 1, 0x00, 0x13] else spdmBody 0x7F [3, 0]] t ∧
      t.spdm = if e = src then ⟨none, 0, 1⟩ else s.spdm) ∧
  (∀ (s : State) (src slot off len index : Nat) (ok signed : Bool) (c : Instr),
    Quiet s ∧ Hears s →
    BusShown s →
    src < 256 ∧ slot < 8 ∧ off < 2 ^ 16 ∧ len < 2 ^ 16 ∧ index < 256 →
    s.spdmBusy = true →
    (c = .getCapabilities src ∨ c = .negotiateAlgorithms src ok ∨ c = .getDigests src ∨ c = .getCertificate src slot off
      len ∨ c = .challenge src slot ∨ c = .getMeasurements src index signed ∨ c = .spdmUnsupportedRequest src ∨ (c =
      .getVersion src ∧ s.flag F.MGMT_STAT_LRUN 0 = false)) →
    Gives c s (toldVals s) [.bus] [.message src 0 0x7F [3, 0]] (Told s src [spdmBody 0x7F [3, 0]])) ∧
  (∀ (s : State) (src slot off len index : Nat) (ok signed : Bool) (c : Instr),
    SpdmAt s 0 →
    src < 256 ∧ slot < 8 ∧ off < 2 ^ 16 ∧ len < 2 ^ 16 ∧ index < 256 →
    ((s.rd F.MGMT_SEC_STAT_SPDM 0 < 1 ∧ (c = .getCapabilities src ∨ c = .negotiateAlgorithms src ok)) ∨ (s.rd
      F.MGMT_SEC_STAT_SPDM 0 < 2 ∧ (c = .getDigests src ∨ c = .getCertificate src slot off len ∨ c = .challenge src slot
      ∨ c = .getMeasurements src index signed))) →
    Gives c s (toldVals s) [.bus] [.message src 0 0x7F [4, 0]] (Told s src [spdmBody 0x7F [4, 0]])) ∧
  (∀ (s : State) (src : Nat),
    SpdmAt s 0 ∧ src < 256 →
    Gives (.spdmUnsupportedRequest src) s (toldVals s) [.bus] [.message src 0 0x7F [7, 0]] (Told s src [spdmBody 0x7F
      [7, 0]])) ∧
  (∀ (s : State) (src : Nat),
    SpdmAt s 1 ∧ src < 256 →
    Gives (.getCapabilities src) s (toldVals s) [.bus, .spdm] [.message src 0 0x61 [0, 0, 0, 15, 0, 0, 0x16, 0, 0, 0]]
      fun t => Told s src [spdmBody 0x61 [0, 0, 0, 15, 0, 0, 0x16, 0, 0, 0]] t ∧ Heard s t) ∧
  (∀ (s : State) (src : Nat),
    SpdmAt s 1 ∧ src < 256 →
    Gives (.negotiateAlgorithms src true) s ((F.MGMT_SEC_STAT_SPDM, 0, 2) :: toldVals s) [.bus, .spdm] [.message src 0
      0x63 [0, 0, 1, 0x80, 0x02]] fun t => Told s src [spdmBody 0x63 [0, 0, 1, 0x80, 0x02]] t ∧ Heard s t) ∧
  (∀ (s : State) (src : Nat),
    SpdmAt s 1 ∧ src < 256 →
    Gives (.negotiateAlgorithms src false) s (toldVals s) [.bus, .spdm] [.message src 0 0x7F [1, 0]] fun t => Told s src
      [spdmBody 0x7F [1, 0]] t ∧ Heard s t) ∧
  (∀ (s : State) (src : Nat),
    SpdmAt s 2 ∧ src < 256 →
    Gives (.getDigests src) s (toldVals s) [.bus, .spdm, .fresh] [.message src 0 0x01 ([0, 1] ++ (s.freeBytes 48).1)]
      fun t => Told s src [spdmBody 0x01 ([0, 1] ++ (s.freeBytes 48).1)] t ∧ Heard s t) ∧
  (∀ (s : State) (src off len : Nat),
    SpdmAt s 2 ∧ src < 256 ∧ off < 2 ^ 16 ∧ len < 2 ^ 16 →
    Gives (.getCertificate src 0 off len) s (toldVals s) [.bus, .spdm, .fresh] [.message src 0 0x02 ([0, 0] ++ leBytes
      len 2 ++ (s.freeBytes len).1)] fun t => Told s src [spdmBody 0x02 ([0, 0] ++ leBytes len 2 ++ (s.freeBytes
      len).1)] t ∧ Heard s t) ∧
  (∀ (s : State) (src slot off len : Nat),
    SpdmAt s 2 ∧ src < 256 ∧ off < 2 ^ 16 ∧ len < 2 ^ 16 ∧ 0 < slot ∧ slot < 8 →
    Gives (.getCertificate src slot off len) s (toldVals s) [.bus, .spdm] [.message src 0 0x7F [1, 0]] fun t => Told s
      src [spdmBody 0x7F [1, 0]] t ∧ Heard s t) ∧
  (∀ (s : State) (src slot : Nat),
    SpdmAt s 2 ∧ src < 256 ∧ 0 < slot ∧ slot < 8 →
    Gives (.challenge src slot) s (toldVals s) [.bus, .spdm] [.message src 0 0x7F [1, 0]] fun t => Told s src [spdmBody
      0x7F [1, 0]] t ∧ Heard s t) ∧
  (∀ (s : State) (src : Nat),
    SpdmAt s 2 ∧ src < 256 →
    Gives (.challenge src 0) s [(F.MGMT_SEC_STAT_SPDM, 0, 3), (F.MGMT_SEC_STAT_SEC_HOLD, 0, 1)] [.spdm] [] fun t =>
      t.spdm = ⟨some (src, true), 0, s.spdm.transcript + 1⟩) ∧
  (∀ (s : State) (src index : Nat),
    (SpdmAt s 2 ∧ src < 256 ∧ (index < 8 ∨ index = 255)) →
    Gives (.getMeasurements src index true) s [(F.MGMT_SEC_STAT_SPDM, 0, 3), (F.MGMT_SEC_STAT_SEC_HOLD, 0, 1)] [.spdm]
      [] fun t => t.spdm = ⟨some (src, false), index, s.spdm.transcript + 1⟩) ∧
  (∀ (s : State) (src : Nat),
    SpdmAt s 2 ∧ src < 256 →
    Gives (.getMeasurements src 0 false) s (toldVals s) [.bus, .spdm, .fresh] [.message src 0 0x60 ([7, 0, 0, 0, 0, 0]
      ++ (s.freeBytes 32).1 ++ [0, 0])] fun t => Told s src [spdmBody 0x60 ([7, 0, 0, 0, 0, 0] ++ (s.freeBytes 32).1 ++
      [0, 0])] t ∧ Heard s t) ∧
  (∀ (s : State) (src index n : Nat),
    (SpdmAt s 2 ∧ src < 256 ∧ ((0 < index ∧ index < 8 ∧ n = 1) ∨ (index = 255 ∧ n = 7))) →
    Gives (.getMeasurements src index false) s (toldVals s) [.bus, .spdm, .fresh] [.message src 0 0x60 ([0, 0, n] ++
      leBytes (55 * n) 3 ++ (measureIdx index).flatMap s.measureBlock ++ (s.freeBytes 32).1 ++ [0, 0])] fun t => Told s
      src [spdmBody 0x60 ([0, 0, n] ++ leBytes (55 * n) 3 ++ (measureIdx index).flatMap s.measureBlock ++ (s.freeBytes
      32).1 ++ [0, 0])] t ∧ Heard s t) ∧
  (∀ (s : State) (src index : Nat) (signed : Bool),
    SpdmAt s 2 ∧ src < 256 ∧ 7 < index ∧ index < 255 →
    Gives (.getMeasurements src index signed) s (toldVals s) [.bus, .spdm] [.message src 0 0x7F [1, 0]] fun t => Told s
      src [spdmBody 0x7F [1, 0]] t ∧ Heard s t) ∧
  (∀ (s : State) (e : Nat),
    Quiet s →
    BusShown s →
    s.spdm.signing = some (e, true) →
    Gives .signingComplete s ((F.MGMT_SEC_STAT_SPDM, 0, 2) :: (F.MGMT_SEC_CNT_CHAL, 0, min (s.rd F.MGMT_SEC_CNT_CHAL 0 +
      1) 0xFFF) :: toldVals s) [.bus, .spdm, .fresh] [.message e 0 0x03 ([0, 1] ++ (s.freeBytes 176).1)] fun t => Told s
      e [spdmBody 0x03 ([0, 1] ++ (s.freeBytes 176).1)] t ∧ t.spdm = { s.spdm with signing := none }) ∧
  (∀ (s : State) (e : Nat),
    Quiet s →
    BusShown s →
    s.spdm.signing = some (e, false) →
    Gives .signingComplete s ((F.MGMT_SEC_STAT_SPDM, 0, 2) :: (F.MGMT_SEC_CNT_MEAS, 0, min (s.rd F.MGMT_SEC_CNT_MEAS 0 +
      1) 0xFFF) :: toldVals s) [.bus, .spdm, .fresh] [.message e 0 0x60 ([if s.spdm.index = 0 then 7 else 0, 0,
      (measureIdx s.spdm.index).length] ++ leBytes (55 * (measureIdx s.spdm.index).length) 3 ++ (measureIdx
      s.spdm.index).flatMap s.measureBlock ++ (s.freeBytes 32).1 ++ [0, 0] ++ ((s.freeBytes 32).2.freeBytes 96).1)] fun
      t => Told s e [spdmBody 0x60 ([if s.spdm.index = 0 then 7 else 0, 0, (measureIdx s.spdm.index).length] ++ leBytes
      (55 * (measureIdx s.spdm.index).length) 3 ++ (measureIdx s.spdm.index).flatMap s.measureBlock ++ (s.freeBytes
      32).1 ++ [0, 0] ++ ((s.freeBytes 32).2.freeBytes 96).1)] t ∧ t.spdm = { s.spdm with signing := none }) ∧
  (∀ (s : State),
    Quiet s →
    s.spdm.signing = none →
    Gives .signingComplete s [] [] [] anyState) ∧
  (∀ (s : State) (src slot off len index : Nat) (ok signed : Bool) (c : Instr),
    Quiet s →
    src < 256 ∧ slot < 8 ∧ off < 2 ^ 16 ∧ len < 2 ^ 16 ∧ index < 256 →
    s.i3c = false ∧ s.smbus = false →
    (c = .getVersion src ∨ c = .getCapabilities src ∨ c = .negotiateAlgorithms src ok ∨ c = .getDigests src ∨ c =
      .getCertificate src slot off len ∨ c = .challenge src slot ∨ c = .getMeasurements src index signed ∨ c =
      .spdmUnsupportedRequest src) →
    Gives c s [] [] [] anyState)

/-- PLDM requests of the update agent. The device answers the inquiries, and opens an update for an agent unless a
confirmation window is open or an update runs. Within the agent's update, in the state that admits them,
PASS_COMPONENT_TABLE and UPDATE_COMPONENT are taken: a component the device does not know, or a certificate outside
recovery, is refused; an image too long for its bank gives LAST_RES 5, a flash that refuses the erase 8; else
INVALIDATED is appended, the bank is erased and the first piece is asked for. A cancel counts and leaves LAST_RES 6.
Before an update a request is answered 0x80, from another agent or in another state 0x84; where the device does not
take requests nothing happens. Layouts, codes and instance IDs are the model's (log entry 29). (R352, R353, R354,
R355, R359, R363.) -/
def Obligations.UpdateRequestsAreAnswered : Prop :=
  (∀ (s : State) (src : Nat),
    Serves s ∧ src < 256 →
    Gives (.queryDeviceIdentifiers src) s (toldVals s) [.bus, .fresh] [.message src 0 1 ([0] ++ leBytes (s.rd
      F.MGMT_VDM_ID_PEN 0) 4 ++ [0x34, 0x32])] (Told s src [pldmBody s.fresh 1 false ([0] ++ leBytes (s.rd
      F.MGMT_VDM_ID_PEN 0) 4 ++ [0x34, 0x32])])) ∧
  (∀ (s : State) (src fwA fwB svA svB : Nat),
    Serves s ∧ src < 256 →
    fwA = s.rd F.BOOT_FW_VER_A_VERSION 0 ∧ fwB = s.rd F.BOOT_FW_VER_B_VERSION 0 →
    svA = s.rd F.BOOT_SV_VER_A_VERSION 0 ∧ svB = s.rd F.BOOT_SV_VER_B_VERSION 0 →
    s.rd F.BOOT_STAT_FW_BANK 0 = 1 ∧ s.rd F.BOOT_STAT_SV_BANK 0 = 0 →
    Gives (.getFirmwareParameters src) s (toldVals s) [.bus, .fresh] [.message src 0 2 ([0] ++ leBytes fwB 4 ++ leBytes
      fwA 4 ++ leBytes svA 4 ++ leBytes svB 4)] (Told s src [pldmBody s.fresh 2 false ([0] ++ leBytes fwB 4 ++ leBytes
      fwA 4 ++ leBytes svA 4 ++ leBytes svB 4)])) ∧
  (∀ (s : State) (src : Nat),
    Serves s ∧ src < 256 →
    Gives (.getStatus src) s (toldVals s) [.bus, .fresh] [.message src 0 0x1B ([0, s.rd F.BOOT_UPD_STAT_PSTATE 0] ++
      (s.freeBytes 9).1)] (Told s src [pldmBody (s.freeBytes 9).2.fresh 0x1B false ([0, s.rd F.BOOT_UPD_STAT_PSTATE 0]
      ++ (s.freeBytes 9).1)])) ∧
  (∀ (s : State) (src maxXfer : Nat),
    Serves s ∧ src < 256 →
    s.rd F.BOOT_UPD_STAT_WINDOW 0 ≠ 1 ∧ s.pstate = 0 →
    Gives (.requestUpdate src maxXfer) s ((F.BOOT_UPD_STAT_PSTATE, 0, 1) :: toldVals s) [.bus, .fresh, .boot] [.message
      src 0 0x10 [0, 0, 0, 0]] fun t => Told s src [pldmBody s.fresh 0x10 false [0, 0, 0, 0]] t ∧ t.boot =
      { s.boot with pldm := { agent := src, maxXfer := maxXfer } }) ∧
  (∀ (s : State) (src maxXfer : Nat),
    Serves s ∧ src < 256 →
    (s.rd F.BOOT_UPD_STAT_WINDOW 0 = 1 ∨ s.pstate ≠ 0) →
    Gives (.requestUpdate src maxXfer) s (toldVals s) [.bus, .fresh] [.message src 0 0x10 [if s.rd
      F.BOOT_UPD_STAT_WINDOW 0 = 1 then 0x8E else 0x81]] (Told s src [pldmBody s.fresh 0x10 false [if s.rd
      F.BOOT_UPD_STAT_WINDOW 0 = 1 then 0x8E else 0x81]])) ∧
  (∀ (s : State) (src n : Nat) (b : Bool) (bytes : List Nat) (k : Crypto) (c : Instr),
    Quiet s →
    (s.pldmServes = false ∨ (s.i3c = false ∧ s.smbus = false)) →
    (src < 256 ∧ (∀ x ∈ bytes, x < 256) ∧ n < 2 ^ 16) →
    (c = .queryDeviceIdentifiers src ∨ c = .getFirmwareParameters src ∨ c = .getStatus src ∨ c = .requestUpdate src n ∨
      c = .passComponentTable src b ∨ c = .updateComponent src n n ∨ c = .requestFirmwareData src bytes ∨ c =
      .transferComplete src ∨ c = .verifyComplete src k b ∨ c = .applyComplete src b ∨ c = .activateFirmware src b ∨ c =
      .cancelUpdateComponent src ∨ c = .cancelUpdate src) →
    Gives c s [] [] [] anyState) ∧
  (∀ (s : State) (src comp size cmd : Nat) (b : Bool) (c : Instr),
    Serves s ∧ src < 256 ∧ comp < 2 ^ 16 →
    s.pstate = 0 →
    ((cmd = 0x13 ∧ c = .passComponentTable src b) ∨ (cmd = 0x14 ∧ c = .updateComponent src comp size) ∨ (cmd = 0x1A ∧ c
      = .activateFirmware src b) ∨ (cmd = 0x1C ∧ c = .cancelUpdateComponent src) ∨ (cmd = 0x1D ∧ c = .cancelUpdate src))
      →
    Gives c s (toldVals s) [.bus, .fresh] [.message src 0 cmd [0x80]] (Told s src [pldmBody s.fresh cmd false [0x80]]))
      ∧
  (∀ (s : State) (src comp size cmd p : Nat) (b : Bool) (c : Instr),
    Serves s ∧ src < 256 ∧ comp < 2 ^ 16 →
    s.pstate = p ∧ p ≠ 0 →
    ((cmd = 0x13 ∧ c = .passComponentTable src b ∧ (p ≠ 1 ∨ s.boot.pldm.agent ≠ src)) ∨ (cmd = 0x14 ∧ c =
      .updateComponent src comp size ∧ (p ≠ 2 ∨ s.boot.pldm.agent ≠ src)) ∨ (cmd = 0x1A ∧ c = .activateFirmware src b ∧
      (p ≠ 2 ∨ s.boot.pldm.agent ≠ src)) ∨ (cmd = 0x1C ∧ c = .cancelUpdateComponent src ∧ (p < 3 ∨ 5 < p ∨
      s.boot.pldm.agent ≠ src)) ∨ (cmd = 0x1D ∧ c = .cancelUpdate src ∧ s.boot.pldm.agent ≠ src)) →
    Gives c s (toldVals s) [.bus, .fresh] [.message src 0 cmd [0x84]] (Told s src [pldmBody s.fresh cmd false [0x84]]))
      ∧
  (∀ (s : State) (src : Nat) (last : Bool),
    Updates s src 1 →
    Gives (.passComponentTable src last) s ((F.BOOT_UPD_STAT_PSTATE, 0, if last then 2 else 1) :: toldVals s) [.bus,
      .fresh, .boot] [.message src 0 0x13 [0, 0, 0]] fun t => Told s src [pldmBody s.fresh 0x13 false [0, 0, 0]] t ∧
      t.boot = { s.boot with pldm := { s.boot.pldm with tableDone := last } }) ∧
  (∀ (s : State) (src comp size : Nat),
    Updates s src 2 →
    (comp < 2 ^ 16 ∧ comp ≠ 1 ∧ comp ≠ 2 ∧ (comp = 3 → s.rd F.BOOT_STAT_RECOV 0 ≠ 1 ∨ 2 ≤ s.boot.keys.length)) →
    Gives (.updateComponent src comp size) s (toldVals s) [.bus, .fresh] [.message src 0 0x14 [0, 1, 0]] (Told s src
      [pldmBody s.fresh 0x14 false [0, 1, 0]])) ∧
  (∀ (s : State) (src comp size : Nat),
    Updates s src 2 →
    ((comp = 1 ∧ 0x200000 < size) ∨ (comp = 2 ∧ 0x20000 < size)) →
    Gives (.updateComponent src comp size) s ((F.BOOT_UPD_STAT_LAST_RES, 0, 5) :: toldVals s) [.bus, .fresh] [.message
      src 0 0x14 [0, 1, 0]] (Told s src [pldmBody s.fresh 0x14 false [0, 1, 0]])) ∧
  (∀ (s : State) (src comp size : Nat) (f : Flash),
    Updates s src 2 →
    ((comp = 1 ∧ size ≤ 0x200000) ∨ (comp = 2 ∧ size ≤ 0x20000)) →
    s.boot.flash = some f ∧ s.flag F.BOOT_SPI_STAT_MMAP 0 = true ∧ s.werrAny = true →
    Gives (.updateComponent src comp size) s ((F.BOOT_UPD_STAT_LAST_RES, 0, 8) :: (F.BOOT_SPI_STAT_REFUSED, 0, min (s.rd
      F.BOOT_SPI_STAT_REFUSED 0 + 1) 0xFFFF) :: (F.GLB_WERR_BOOT, 0, 1) :: toldVals s) [.bus, .fresh] [.message src 0
      0x14 [0, 1, 0]] (Told s src [pldmBody s.fresh 0x14 false [0, 1, 0]])) ∧
  (∀ (s : State) (src comp size b : Nat) (f g : Flash) (next : List Nat),
    Updates s src 2 →
    ((comp = 1 ∧ size ≤ 0x200000) ∨ (comp = 2 ∧ size ≤ 0x20000)) →
    Writable s f 1 ∧ b = 1 - (flashReplay f comp).conf.getD 0 ∧ g = downloadStarts f s.boot.area comp b size →
    next = askedFor s.boot.pldm.maxXfer 0 size →
    Gives (.updateComponent src comp size) s ([(F.BOOT_UPD_STAT_PSTATE, 0, 3), (F.BOOT_UPD_STAT_COMP, 0, comp),
      (F.BOOT_UPD_STAT_BANK, 0, b % 2), (F.BOOT_SPI_STAT_FBUSY, 0, 1)] ++ shownVals s.boot.keys s.boot.area g ++
      toldVals s) [.bus, .fresh, .boot] (pldmMsgs src 0x14 [0, 0, 0] next) fun t => Told s src (pldmBodies s 0x14 [0, 0,
      0] next) t ∧ t.boot =
      { s.boot with flash := some g, pldm := { s.boot.pldm with size := size, got := 0, header := [] } }) ∧
  (∀ (s : State) (src size : Nat) (next : List Nat),
    Updates s src 2 →
    s.rd F.BOOT_STAT_RECOV 0 = 1 ∧ s.boot.keys.length < 2 →
    next = askedFor s.boot.pldm.maxXfer 0 size →
    Gives (.updateComponent src 3 size) s ([(F.BOOT_UPD_STAT_PSTATE, 0, 3), (F.BOOT_UPD_STAT_COMP, 0, 3),
      (F.BOOT_UPD_STAT_BANK, 0, 0)] ++ toldVals s) [.bus, .fresh, .boot] (pldmMsgs src 0x14 [0, 0, 0] next) fun t =>
      Told s src (pldmBodies s 0x14 [0, 0, 0] next) t ∧ t.boot =
      { s.boot with pldm := { s.boot.pldm with size := size, got := 0, header := [] } }) ∧
  (∀ (s : State) (src p : Nat),
    Updates s src p →
    3 ≤ p ∧ p ≤ 5 →
    Gives (.cancelUpdateComponent src) s ([(F.BOOT_UPD_STAT_PSTATE, 0, 2), (F.BOOT_UPD_STAT_COMP, 0, 0),
      (F.BOOT_UPD_STAT_LAST_RES, 0, 6), (F.BOOT_UPD_CNT_ABORTS, 0, min (s.rd F.BOOT_UPD_CNT_ABORTS 0 + 1) 0xFF)] ++
      toldVals s) [.bus, .fresh, .boot] [.message src 0 0x1C [0]] fun t => Told s src [pldmBody s.fresh 0x1C false [0]]
      t ∧ t.boot = { s.boot with pldm := { s.boot.pldm with size := 0, got := 0, header := [] } }) ∧
  (∀ (s : State) (src p : Nat),
    Updates s src p →
    Gives (.cancelUpdate src) s ([(F.BOOT_UPD_STAT_PSTATE, 0, 0), (F.BOOT_UPD_STAT_COMP, 0, 0),
      (F.BOOT_UPD_STAT_LAST_RES, 0, 6), (F.BOOT_UPD_CNT_ABORTS, 0, min (s.rd F.BOOT_UPD_CNT_ABORTS 0 + 1) 0xFF)] ++
      toldVals s) [.bus, .fresh, .boot] [.message src 0 0x1D [0]] fun t => Told s src [pldmBody s.fresh 0x1D false [0]]
      t ∧ t.boot = { s.boot with pldm := {} }) ∧
  (∀ (s : State),
    Quiet s →
    s.pstate ≠ 0 →
    Gives .updateAgentTimeout s [(F.BOOT_UPD_STAT_PSTATE, 0, 0), (F.BOOT_UPD_STAT_COMP, 0, 0),
      (F.BOOT_UPD_STAT_LAST_RES, 0, 7), (F.BOOT_UPD_CNT_ABORTS, 0, min (s.rd F.BOOT_UPD_CNT_ABORTS 0 + 1) 0xFF)] [.boot]
      [] fun t => t.boot = { s.boot with pldm := {} }) ∧
  (∀ (s : State),
    Quiet s →
    s.pstate = 0 →
    Gives .updateAgentTimeout s [] [] [] anyState) ∧
  (∀ (s : State) (src : Nat),
    Updates s src 2 →
    s.boot.pldm.applied = [] →
    Gives (.activateFirmware src false) s ((F.BOOT_UPD_STAT_PSTATE, 0, 0) :: toldVals s) [.bus, .fresh, .boot] [.message
      src 0 0x1A [0, 0, 0]] fun t => Told s src [pldmBody s.fresh 0x1A false [0, 0, 0]] t ∧ t.boot =
      { s.boot with pldm := { agent := src } }) ∧
  (∀ (s : State) (src comp b : Nat) (f g : Flash),
    Updates s src 2 →
    (s.boot.pldm.applied = [comp] ∧ (comp = 1 ∨ comp = 2)) →
    Writable s f 1 ∧ b = 1 - (flashReplay f comp).conf.getD 0 ∧ g = flashAppend f s.boot.area .pending comp b →
    Gives (.activateFirmware src false) s ([(F.BOOT_UPD_STAT_PSTATE, 0, 0), (F.BOOT_SPI_STAT_FBUSY, 0, 1)] ++ shownVals
      s.boot.keys s.boot.area g ++ toldVals s) [.bus, .fresh, .boot] [.message src 0 0x1A [0, 0, 0]] fun t => Told s src
      [pldmBody s.fresh 0x1A false [0, 0, 0]] t ∧ t.boot = { s.boot with flash := some g, pldm := { agent := src } }) ∧
  (∀ (s : State) (src at_ : Nat),
    Updates s src 2 →
    s.boot.pldm.applied = [] ∧ s.rd F.BOOT_STAT_RECOV 0 ≠ 1 ∧ s.rd F.CLK_SCHED_STAT_STATE 0 ≠ 1 →
    at_ = s.drip + max 1 (s.rd F.BOOT_UPD_CFG_ACT_DELAY 0) ∧ at_ < 2 ^ 48 ∧ s.rd F.BOOT_UPD_CFG_ACT_DELAY 0 < 2 ^ 16 →
    Gives (.activateFirmware src true) s ([(F.BOOT_UPD_STAT_PSTATE, 0, 6), (F.CLK_SCHED_TGT_LO_TGT_LO, 0, at_ % 2 ^ 32),
      (F.CLK_SCHED_TGT_HI_TGT_HI, 0, at_ / 2 ^ 32), (F.CLK_SCHED_CTL_ACTION, 0, 6), (F.CLK_SCHED_CTL_ARG, 0, 0),
      (F.CLK_SCHED_STAT_STATE, 0, 1), (F.CLK_SCHED_STAT_LATE, 0, 0), (F.CLK_SCHED_STAT_LATENESS, 0, 0),
      (F.CLK_SCHED_STAT_RESULT, 0, 0), (F.CLK_SCHED_STAT_FAILQ, 0, 0)] ++ toldVals s) [.bus, .fresh, .boot, .clk]
      [.message src 0 0x1A [0, 1, 0]] fun t => Told s src [pldmBody s.fresh 0x1A false [0, 1, 0]] t ∧ t.boot =
      { s.boot with pldm := { agent := src } } ∧ t.clk = { s.clk with late := s.clk.late.filter (· != 0) })

/-- The update of one component. A piece of the length that was asked for is counted, its bytes within the header are
held and the others written to the bank, and the next one is asked for; a piece of another length is asked for
again; a flash that refuses the program ends the component with LAST_RES 8. TRANSFER_COMPLETE after the last byte
starts verification. VERIFY_COMPLETE of a good image goes on to apply; a bad signature, a failed digest, Survey
content or firmware version ends the component with LAST_RES 2, 3 or 4. APPLY_COMPLETE writes the image and appends
VERIFIED, or stores a key certificate in the lower empty slot; a failed flash ends the component with 8. Outside
their state and agent these exchanges change nothing. Layouts, codes and instance IDs are the model's (log entry
29). (R343, R352, R353, R354, R360, R367.) -/
def Obligations.ComponentsAreDownloadedVerifiedAndApplied : Prop :=
  (∀ (s : State) (src n got size comp : Nat) (bytes next : List Nat) (f g : Flash),
    Updates s src 3 →
    ((∀ x ∈ bytes, x < 256) ∧ bytes.length = n) →
    Writable s f 0 ∧ s.rd F.BOOT_UPD_STAT_COMP 0 = comp ∧ comp ≠ 3 ∧ 256 < got + n →
    s.boot.pldm.got = got ∧ s.boot.pldm.size = size ∧ got < size ∧ n = min (max 1 (min 1024 s.boot.pldm.maxXfer)) (size
      - got) →
    g = flashProgram f (bankBase comp (1 - (flashReplay f comp).conf.getD 0) + max got 256) (bytes.drop (256 - got)) ∧
      next = askedFor s.boot.pldm.maxXfer (got + n) size →
    Gives (.requestFirmwareData src bytes) s ((F.BOOT_SPI_STAT_FBUSY, 0, 1) :: shownVals s.boot.keys s.boot.area g ++ if
      got + n < size then toldVals s else []) (.boot :: if got + n < size then [.bus, .fresh] else []) (if got + n <
      size then [.message src 0 0x15 next] else []) fun t => (if got + n < size then Told s src [pldmBody s.fresh 0x15
      true next] t else True) ∧ t.boot =
      { s.boot with
        flash := some g,
        pldm := { s.boot.pldm with got := got + n, header := s.boot.pldm.header ++ bytes.take (256 - got) } }) ∧
  (∀ (s : State) (src n got size : Nat) (bytes next : List Nat),
    Updates s src 3 →
    ((∀ x ∈ bytes, x < 256) ∧ bytes.length = n) →
    (s.rd F.BOOT_UPD_STAT_COMP 0 = 3 ∨ got + n ≤ 256) →
    s.boot.pldm.got = got ∧ s.boot.pldm.size = size ∧ got < size ∧ n = min (max 1 (min 1024 s.boot.pldm.maxXfer)) (size
      - got) →
    next = askedFor s.boot.pldm.maxXfer (got + n) size →
    Gives (.requestFirmwareData src bytes) s (if got + n < size then toldVals s else []) (.boot :: if got + n < size
      then [.bus, .fresh] else []) (if got + n < size then [.message src 0 0x15 next] else []) fun t => (if got + n <
      size then Told s src [pldmBody s.fresh 0x15 true next] t else True) ∧ t.boot =
      { s.boot with
        pldm := { s.boot.pldm with got := got + n, header := if s.rd F.BOOT_UPD_STAT_COMP 0 = 3 then [] else s.boot.pldm.header ++ bytes } })
      ∧
  (∀ (s : State) (src got size : Nat) (bytes next : List Nat),
    Updates s src 3 →
    ((∀ x ∈ bytes, x < 256) ∧ bytes.length ≠ min (max 1 (min 1024 s.boot.pldm.maxXfer)) (size - got)) →
    s.boot.pldm.got = got ∧ s.boot.pldm.size = size ∧ got < size →
    next = askedFor s.boot.pldm.maxXfer got size →
    Gives (.requestFirmwareData src bytes) s (toldVals s) [.bus, .fresh] [.message src 0 0x15 next] (Told s src
      [pldmBody s.fresh 0x15 true next])) ∧
  (∀ (s : State) (src n got size : Nat) (bytes : List Nat) (f : Flash),
    Updates s src 3 →
    ((∀ x ∈ bytes, x < 256) ∧ bytes.length = n) →
    s.boot.flash = some f ∧ s.flag F.BOOT_SPI_STAT_MMAP 0 = true ∧ s.werrAny = true ∧ s.rd F.BOOT_UPD_STAT_COMP 0 ≠ 3 ∧
      256 < got + n →
    s.boot.pldm.got = got ∧ s.boot.pldm.size = size ∧ got < size ∧ n = min (max 1 (min 1024 s.boot.pldm.maxXfer)) (size
      - got) →
    Gives (.requestFirmwareData src bytes) s [(F.BOOT_UPD_STAT_PSTATE, 0, 2), (F.BOOT_UPD_STAT_COMP, 0, 0),
      (F.BOOT_UPD_STAT_LAST_RES, 0, 8), (F.BOOT_UPD_CNT_ABORTS, 0, min (s.rd F.BOOT_UPD_CNT_ABORTS 0 + 1) 0xFF),
      (F.BOOT_SPI_STAT_REFUSED, 0, min (s.rd F.BOOT_SPI_STAT_REFUSED 0 + 1) 0xFFFF), (F.GLB_WERR_BOOT, 0, 1)] [.boot] []
      fun t => t.boot = { s.boot with pldm := { s.boot.pldm with size := 0, got := 0, header := [] } }) ∧
  (∀ (s : State) (src : Nat) (bytes : List Nat),
    Updates s src 3 →
    (∀ x ∈ bytes, x < 256) →
    s.boot.pldm.size ≤ s.boot.pldm.got →
    Gives (.requestFirmwareData src bytes) s [] [] [] anyState) ∧
  (∀ (s : State) (src : Nat),
    Updates s src 3 →
    s.boot.pldm.size ≤ s.boot.pldm.got →
    Gives (.transferComplete src) s ([(F.BOOT_UPD_STAT_PSTATE, 0, 4), (F.BOOT_UPD_STAT_LAST_RES, 0, 1)] ++ toldVals s)
      [.bus, .fresh] [.message src 0 0x16 [0]] (Told s src [pldmBody s.fresh 0x16 true [0]])) ∧
  (∀ (s : State) (src : Nat),
    Updates s src 3 →
    s.boot.pldm.got < s.boot.pldm.size →
    Gives (.transferComplete src) s [] [] [] anyState) ∧
  (∀ (s : State) (src : Nat) (c : Crypto) (cert : Bool),
    Updates s src 4 →
    s.verifyCode (s.rd F.BOOT_UPD_STAT_COMP 0) c cert = 1 →
    Gives (.verifyComplete src c cert) s ([(F.BOOT_UPD_STAT_PSTATE, 0, 5), (F.BOOT_UPD_STAT_LAST_RES, 0, 1)] ++ toldVals
      s) [.bus, .fresh, .boot] [.message src 0 0x17 [0]] fun t => Told s src [pldmBody s.fresh 0x17 true [0]] t ∧ t.boot
      = (s.learnCrypto c).boot) ∧
  (∀ (s : State) (src k comp : Nat) (c : Crypto) (cert : Bool) (h body : List Nat),
    Updates s src 4 →
    (s.rd F.BOOT_UPD_STAT_COMP 0 = comp ∧ (comp = 1 ∨ comp = 2) ∧ h = s.boot.pldm.header ∧ body = s.loadedBody comp ∧
      headerForm s.boot.keys comp h = true) →
    ((headerSigned c h = false ∧ k = 2) ∨ (headerSigned c h = true ∧ cryptoHashes c body (hdrDigest h) = false ∧ k = 3)
      ∨ (comp = 2 ∧ headerSigned c h = true ∧ cryptoHashes c body (hdrDigest h) = true ∧ (surveyOk body = false ∨
      s.confirmedFw < minFw ((surveyOf body).getD [])) ∧ k = 4)) →
    Gives (.verifyComplete src c cert) s ([(F.BOOT_UPD_STAT_PSTATE, 0, 2), (F.BOOT_UPD_STAT_COMP, 0, 0),
      (F.BOOT_UPD_STAT_LAST_RES, 0, k), (F.BOOT_UPD_CNT_ABORTS, 0, min (s.rd F.BOOT_UPD_CNT_ABORTS 0 + 1) 0xFF)] ++
      toldVals s) [.bus, .fresh, .boot] [.message src 0 0x17 [1]] fun t => Told s src [pldmBody s.fresh 0x17 true [1]] t
      ∧ t.boot = { (s.learnCrypto c).boot with pldm := { s.boot.pldm with size := 0, got := 0, header := [] } }) ∧
  (∀ (s : State) (src : Nat) (c : Crypto),
    Updates s src 4 →
    s.rd F.BOOT_UPD_STAT_COMP 0 = 3 →
    Gives (.verifyComplete src c false) s ([(F.BOOT_UPD_STAT_PSTATE, 0, 2), (F.BOOT_UPD_STAT_COMP, 0, 0),
      (F.BOOT_UPD_STAT_LAST_RES, 0, 2), (F.BOOT_UPD_CNT_ABORTS, 0, min (s.rd F.BOOT_UPD_CNT_ABORTS 0 + 1) 0xFF)] ++
      toldVals s) [.bus, .fresh, .boot] [.message src 0 0x17 [1]] fun t => Told s src [pldmBody s.fresh 0x17 true [1]] t
      ∧ t.boot = { (s.learnCrypto c).boot with pldm := { s.boot.pldm with size := 0, got := 0, header := [] } }) ∧
  (∀ (s : State) (src comp b : Nat) (f g : Flash),
    Updates s src 5 →
    (comp = s.rd F.BOOT_UPD_STAT_COMP 0 ∧ (comp = 1 ∨ comp = 2)) →
    Writable s f 1 ∧ b = 1 - (flashReplay f comp).conf.getD 0 →
    g = flashAppend (flashProgram f (bankBase comp b) s.boot.pldm.header) s.boot.area .verified comp b →
    Gives (.applyComplete src true) s ([(F.BOOT_UPD_STAT_PSTATE, 0, 2), (F.BOOT_UPD_STAT_COMP, 0, 0),
      (F.BOOT_UPD_STAT_LAST_RES, 0, 1), (F.BOOT_UPD_CNT_APPLIED, 0, min (s.rd F.BOOT_UPD_CNT_APPLIED 0 + 1) 0xFF),
      (F.BOOT_SPI_STAT_FBUSY, 0, 1)] ++ shownVals s.boot.keys s.boot.area g ++ toldVals s) [.bus, .fresh, .boot]
      [.message src 0 0x18 [0]] fun t => Told s src [pldmBody s.fresh 0x18 true [0]] t ∧ t.boot =
      { s.boot with
        flash := some g,
        pldm := { s.boot.pldm with size := 0, got := 0, header := [], applied := s.boot.pldm.applied ++ [comp] } }) ∧
  (∀ (s : State) (src : Nat) (keys : List Nat),
    Updates s src 5 →
    s.rd F.BOOT_UPD_STAT_COMP 0 = 3 ∧ s.boot.flash = none →
    (keys = s.boot.keys ++ [if s.boot.keys.contains 2 then 3 else 2]) →
    Gives (.applyComplete src true) s ([(F.BOOT_UPD_STAT_PSTATE, 0, 2), (F.BOOT_UPD_STAT_COMP, 0, 0),
      (F.BOOT_UPD_STAT_LAST_RES, 0, 1), (F.BOOT_UPD_CNT_APPLIED, 0, min (s.rd F.BOOT_UPD_CNT_APPLIED 0 + 1) 0xFF)] ++
      toldVals s) [.bus, .fresh, .boot] [.message src 0 0x18 [0]] fun t => Told s src [pldmBody s.fresh 0x18 true [0]] t
      ∧ t.boot =
      { s.boot with
        keys := keys,
        pldm := { s.boot.pldm with size := 0, got := 0, header := [], applied := s.boot.pldm.applied ++ [3] } }) ∧
  (∀ (s : State) (src : Nat) (keys : List Nat) (f : Flash),
    Updates s src 5 →
    s.rd F.BOOT_UPD_STAT_COMP 0 = 3 ∧ s.boot.flash = some f →
    (keys = s.boot.keys ++ [if s.boot.keys.contains 2 then 3 else 2]) →
    Gives (.applyComplete src true) s ([(F.BOOT_UPD_STAT_PSTATE, 0, 2), (F.BOOT_UPD_STAT_COMP, 0, 0),
      (F.BOOT_UPD_STAT_LAST_RES, 0, 1), (F.BOOT_UPD_CNT_APPLIED, 0, min (s.rd F.BOOT_UPD_CNT_APPLIED 0 + 1) 0xFF)] ++
      shownVals keys s.boot.area f ++ toldVals s) [.bus, .fresh, .boot] [.message src 0 0x18 [0]] fun t => Told s src
      [pldmBody s.fresh 0x18 true [0]] t ∧ t.boot =
      { s.boot with
        keys := keys,
        pldm := { s.boot.pldm with size := 0, got := 0, header := [], applied := s.boot.pldm.applied ++ [3] } }) ∧
  (∀ (s : State) (src : Nat),
    Updates s src 5 →
    Gives (.applyComplete src false) s ([(F.BOOT_UPD_STAT_PSTATE, 0, 2), (F.BOOT_UPD_STAT_COMP, 0, 0),
      (F.BOOT_UPD_STAT_LAST_RES, 0, 8), (F.BOOT_UPD_CNT_ABORTS, 0, min (s.rd F.BOOT_UPD_CNT_ABORTS 0 + 1) 0xFF)] ++
      toldVals s) [.bus, .fresh, .boot] [.message src 0 0x18 [1]] fun t => Told s src [pldmBody s.fresh 0x18 true [1]] t
      ∧ t.boot = { s.boot with pldm := { s.boot.pldm with size := 0, got := 0, header := [] } }) ∧
  (∀ (s : State) (src p : Nat) (b : Bool) (bytes : List Nat) (k : Crypto) (c : Instr),
    Serves s ∧ src < 256 →
    (∀ x ∈ bytes, x < 256) →
    ((p = 3 ∧ (c = .requestFirmwareData src bytes ∨ c = .transferComplete src)) ∨ (p = 4 ∧ c = .verifyComplete src k b)
      ∨ (p = 5 ∧ c = .applyComplete src b)) →
    (s.pstate ≠ p ∨ s.boot.pldm.agent ≠ src) →
    Gives c s [] [] [] anyState)

/-- Start-up stages 1 to 5. Stage 2 ends once the crystal is present and both its PLLs are locked, and the safety and
management domains switch. Stage 3 reads the flash and chooses the banks: with no flash BOOT_ERR.CODE reads 2, with
one that does not suit 3, with no Survey bank 17, with no firmware bank 16, and the device enters recovery; a trial
appends TRIAL and opens the confirmation window. Stage 4 puts the Survey into its shadow and applies its CLOCK and
DEBUG records; with no valid Survey the debug path is locked. Stage 5 waits for the core PLL, applies the POWER
record, and goes on to the firmware load, to hold, or to recovery. After an early end, in hold and after stage 11
the event changes nothing. (R251, R252, R331, R336, R340, R341, R344, R345, R357, R361, R362, R363.) -/
def Obligations.BootRomStagesRun : Prop :=
  (∀ (s : State) (x : StageIn),
    Quiet s →
    (s.boot.failed = true ∨ s.rd F.BOOT_STAT_STAGE 0 = 0 ∨ 11 ≤ s.rd F.BOOT_STAT_STAGE 0) →
    Gives (.startupStageComplete x) s [] [] [] anyState) ∧
  (∀ (s : State) (x : StageIn),
    InStage s 1 ∧ x.wf = true →
    Gives (.startupStageComplete x) s [(F.BOOT_STAT_STAGE, 0, 2)] [] [] anyState) ∧
  (∀ (s : State) (x : StageIn),
    InStage s 2 ∧ x.wf = true →
    s.rd F.CLK_STAT_XTAL_OK 0 = 1 ∧ s.rd F.CLK_STAT_XPLL_LOCK 0 = 1 ∧ s.rd F.CLK_STAT_MPLL_LOCK 0 = 1 →
    Gives (.startupStageComplete x) s ((F.BOOT_STAT_STAGE, 0, 3) :: switchVals s) [] [] anyState) ∧
  (∀ (s : State) (x : StageIn),
    InStage s 2 ∧ x.wf = true →
    (s.rd F.CLK_STAT_XTAL_OK 0 ≠ 1 ∨ s.rd F.CLK_STAT_XPLL_LOCK 0 ≠ 1 ∨ s.rd F.CLK_STAT_MPLL_LOCK 0 ≠ 1) →
    Gives (.startupStageComplete x) s [] [] [] anyState) ∧
  (∀ (s : State) (x : StageIn),
    InStage s 3 ∧ x.wf = true →
    s.flashSeen x.flash = none →
    Gives (.startupStageComplete x) s [(F.BOOT_STAT_STAGE, 0, 4), (F.BOOT_ERR_CODE, 0, 2), (F.BOOT_STAT_RECOV, 0, 1)] []
      [] anyState) ∧
  (∀ (s : State) (x : StageIn) (f : Flash),
    InStage s 3 ∧ x.wf = true →
    s.flashSeen x.flash = some f →
    (f.suitable = false ∨ f.dens < 26 ∨ 2 ≤ f.io) →
    Gives (.startupStageComplete x) s ([(F.BOOT_STAT_STAGE, 0, 4), (F.BOOT_ERR_CODE, 0, 3), (F.BOOT_STAT_RECOV, 0, 1)]
      ++ flashVals f ++ shownVals s.boot.keys (flashArea f) f) [.boot] [] fun t => t.boot =
      { s.boot with flash := some f, area := flashArea f }) ∧
  (∀ (s : State) (x : StageIn) (f : Flash) (b1 b2 sel low : Nat),
    InStage s 3 ∧ x.wf = true →
    s.flashSeen x.flash = some f →
    flashSuits f = true ∧ sel = s.rd F.BOOT_STAT_BOOTSEL 0 →
    choose f s.boot.keys 2 0 (sel == 0 || sel == 3) = ⟨some (b2, false), none, false, none⟩ →
    low = minFw (bankSurvey f b2) ∧ choose f s.boot.keys 1 low (sel == 0 || sel == 3) = ⟨some (b1, false), none, false,
      none⟩ →
    Gives (.startupStageComplete x) s ([(F.BOOT_STAT_STAGE, 0, 4), (F.BOOT_STAT_RECOV, 0, if sel = 1 then 1 else s.rd
      F.BOOT_STAT_RECOV 0)] ++ flashVals f ++ shownVals s.boot.keys (flashArea f) f) [.boot] [] fun t => t.boot =
      { s.boot with flash := some f, area := flashArea f, sv := some (b2, false), fw := some (b1, false) }) ∧
  (∀ (s : State) (x : StageIn) (f : Flash) (b2 low e b : Nat),
    InStage s 3 ∧ x.wf = true →
    s.flashSeen x.flash = some f →
    flashSuits f = true ∧ s.rd F.BOOT_STAT_BOOTSEL 0 = 0 →
    choose f s.boot.keys 2 0 true = ⟨some (b2, false), none, false, none⟩ →
    low = minFw (bankSurvey f b2) ∧ choose f s.boot.keys 1 low true = ⟨none, none, false, some (e, b)⟩ ∧ b < 2 →
    Gives (.startupStageComplete x) s ([(F.BOOT_STAT_STAGE, 0, 4), (F.BOOT_STAT_RECOV, 0, 1), (F.BOOT_ERR_CODE, 0, 16),
      (F.BOOT_ERR_COMP, 0, 0), (F.BOOT_ERR_BANK, 0, b)] ++ flashVals f ++ shownVals s.boot.keys (flashArea f) f) [.boot]
      [] fun t => t.boot = { s.boot with flash := some f, area := flashArea f, sv := some (b2, false), fw := none }) ∧
  (∀ (s : State) (x : StageIn) (f : Flash) (b1 e b : Nat),
    InStage s 3 ∧ x.wf = true →
    s.flashSeen x.flash = some f →
    flashSuits f = true →
    choose f s.boot.keys 2 0 (s.rd F.BOOT_STAT_BOOTSEL 0 == 0 || s.rd F.BOOT_STAT_BOOTSEL 0 == 3) = ⟨none, none, false,
      some (e, b)⟩ ∧ b < 2 →
    choose f s.boot.keys 1 0 false = ⟨some (b1, false), none, false, none⟩ →
    Gives (.startupStageComplete x) s ([(F.BOOT_STAT_STAGE, 0, 4), (F.BOOT_STAT_RECOV, 0, 1), (F.BOOT_ERR_CODE, 0, 17),
      (F.BOOT_ERR_COMP, 0, 1), (F.BOOT_ERR_BANK, 0, b)] ++ flashVals f ++ shownVals s.boot.keys (flashArea f) f) [.boot]
      [] fun t => t.boot = { s.boot with flash := some f, area := flashArea f, sv := none, fw := some (b1, false) }) ∧
  (∀ (s : State) (x : StageIn) (f g : Flash) (b1 b2 low : Nat),
    InStage s 3 ∧ x.wf = true →
    s.flashSeen x.flash = some f →
    flashSuits f = true ∧ s.rd F.BOOT_STAT_BOOTSEL 0 = 0 ∧ s.rd F.BOOT_SPI_STAT_MMAP 0 = 0 ∧ 17 ≤ flashFree f (flashArea
      f) ∧ g = flashAppend f (flashArea f) .trial 1 b1 →
    choose f s.boot.keys 2 0 true = ⟨some (b2, false), none, false, none⟩ →
    low = minFw (bankSurvey f b2) ∧ choose f s.boot.keys 1 low true = ⟨some (b1, true), some (.trial, b1), false, none⟩
      →
    Gives (.startupStageComplete x) s ([(F.BOOT_STAT_STAGE, 0, 4), (F.BOOT_SPI_STAT_FBUSY, 0, 1),
      (F.BOOT_UPD_STAT_WINDOW, 0, 1), (F.BOOT_UPD_STAT_CONF_LEFT, 0, 60)] ++ flashVals f ++ shownVals s.boot.keys
      (flashArea f) g) [.boot] [] fun t => t.boot =
      { s.boot with
        flash := some g, area := flashArea f, sv := some (b2, false), fw := some (b1, true), window := some 60000000,
        winNew := true, byAct := false, tallyOk := false, swaps := [], wdog := false }) ∧
  (∀ (s : State) (x : StageIn),
    InStage s 4 ∧ x.wf = true →
    s.boot.sv = none →
    Gives (.startupStageComplete x) s [(F.BOOT_STAT_STAGE, 0, 5), (F.BOOT_STAT_DBG_LOCK, 0, 1)] [.boot] [] fun t =>
      t.boot = { s.boot with survey := [], svTally := 0 }) ∧
  (∀ (s : State) (x : StageIn) (b : Nat) (trial : Bool) (f : Flash) (l : List SvRec),
    InStage s 4 ∧ x.wf = true →
    s.boot.sv = some (b, trial) ∧ s.boot.flash = some f ∧ bankSurvey f b = l ∧ b < 2 →
    Gives (.startupStageComplete x) s ([(F.BOOT_STAT_STAGE, 0, 5), (F.BOOT_STAT_SV_BANK, 0, b), (F.BOOT_STAT_SV_TRIAL,
      0, b2n trial), (F.BOOT_STAT_DBG_LOCK, 0, b2n (debugLock (some l)))] ++ clockVals l) [.boot] [] fun t => t.boot =
      { s.boot with survey := l, svTally := hdrTally (bankHeader f 2 b) }) ∧
  (∀ (s : State) (x : StageIn),
    InStage s 5 ∧ x.wf = true →
    s.coreRuns = false →
    Gives (.startupStageComplete x) s [] [] [] anyState) ∧
  (∀ (s : State) (x : StageIn),
    InStage s 5 ∧ x.wf = true →
    s.coreRuns = true ∧ s.rd F.BOOT_STAT_RECOV 0 ≠ 1 ∧ s.rd F.BOOT_STAT_BOOTSEL 0 ≠ 2 →
    Gives (.startupStageComplete x) s (powerVals s.boot.survey ++ loadVals s.boot.survey) [] [] anyState) ∧
  (∀ (s : State) (x : StageIn),
    InStage s 5 ∧ x.wf = true →
    s.coreRuns = true ∧ s.rd F.BOOT_STAT_RECOV 0 ≠ 1 ∧ s.rd F.BOOT_STAT_BOOTSEL 0 = 2 ∧ s.rd F.BOOT_STAT_DBG_LOCK 0 ≠ 1
      →
    Gives (.startupStageComplete x) s ((F.BOOT_STAT_STAGE, 0, 12) :: powerVals s.boot.survey) [] [] anyState) ∧
  (∀ (s : State) (x : StageIn),
    InStage s 5 ∧ x.wf = true →
    s.coreRuns = true ∧ s.rd F.BOOT_STAT_RECOV 0 ≠ 1 ∧ s.rd F.BOOT_STAT_BOOTSEL 0 = 2 ∧ s.rd F.BOOT_STAT_DBG_LOCK 0 = 1
      →
    Gives (.startupStageComplete x) s ((F.BOOT_ERR_CODE, 0, 18) :: powerVals s.boot.survey ++ loadVals s.boot.survey) []
      [] anyState) ∧
  (∀ (s : State) (x : StageIn),
    InStage s 5 ∧ x.wf = true →
    (s.coreRuns = true ∧ s.rd F.BOOT_STAT_RECOV 0 = 1 ∧ ∀ n ∈ List.range 16, s.rd F.PORT_CTL_EN n ≠ 1) →
    Gives (.startupStageComplete x) s ((F.BOOT_STAT_STAGE, 0, 11) :: powerVals s.boot.survey) [] [] anyState)

/-- Start-up stages 6 to 11. Stage 6 ends with the firmware loaded and the secure partition running, stage 7 with the
memories filled with zeros and LRUN = 1. Stage 8 puts each phrase set, verified, into bank A of the quads it names
and applies the WIDTH record. Stage 9 applies the register records in order; a refused write ends the start-up with
BOOT_ERR.CODE 14, the writes before it standing, and BOOT_FAIL (source 17) is reported. Stage 10 commits the
Survey's tally, applies the LOCK records, releases the ports and records the time; where the tally does not match,
the start-up ends with code 15. (R106, R331, R334, R335, R344, R346, R347, R351.) -/
def Obligations.FirmwareStagesRun : Prop :=
  (∀ (s : State) (x : StageIn),
    InStage s 6 ∧ x.wf = true →
    s.boot.fw = none →
    Gives (.startupStageComplete x) s [] [] [] anyState) ∧
  (∀ (s : State) (x : StageIn) (b : Nat) (trial : Bool),
    InStage s 6 ∧ x.wf = true →
    s.boot.fw = some (b, trial) ∧ b < 2 →
    Gives (.startupStageComplete x) s [(F.BOOT_STAT_STAGE, 0, 7), (F.BOOT_STAT_FW_BANK, 0, b), (F.BOOT_STAT_FW_TRIAL, 0,
      b2n trial), (F.MGMT_SEC_STAT_SEC_RUN, 0, 1), (F.MGMT_SEC_STAT_KEY_OK, 0, 1), (F.MGMT_SEC_STAT_CERT0_OK, 0, 1)] []
      [] anyState) ∧
  (∀ (s : State) (x : StageIn),
    InStage s 7 ∧ x.wf = true ∧ LogRoom s →
    Resets (.startupStageComplete x) s (s.putMem []) [(F.BOOT_STAT_STAGE, 0, 8), (F.MGMT_STAT_LRUN, 0, 1),
      (F.SUMP_LWDOG_STAT_RUN, 0, 1), (F.SUMP_LWDOG_STAT_AGE, 0, 0)] [.lwTicks] fun t => t.lwTicks = 0 ∧ t.mem = []) ∧
  (∀ (s : State) (x : StageIn),
    InStage s 8 ∧ x.wf = true →
    s.boot.flash = none ∧ s.spareState 0 = 0 ∧ s.spareState 1 = 0 →
    Gives (.startupStageComplete x) s ((F.BOOT_STAT_STAGE, 0, 9) :: widthVals s.boot.survey) ((List.range 8).map .cal)
      [] fun t => ∀ q ∈ List.range 8, t.cal q = (svWidth s.boot.survey).elim (s.cal q) fun v => if bits v (3 * q) 3 = 0
      then s.cal q else
      { s.cal q with after := (List.range 8).filter fun p => bits v (3 * p) 3 != 0 && decide (p < q) }) ∧
  (∀ (s : State) (x : StageIn) (p : Section) (f : Flash),
    InStage s 8 ∧ x.wf = true →
    (s.boot.flash = some f ∧ sectionsAre (bankSections f (s.rd F.BOOT_STAT_FW_BANK 0)) 3 = [p] ∧ p.load % 256 = 0xFF ∧
      phraseSigned f.crypto p = true ∧ phraseFits p = true ∧ (∀ y ∈ p.bytes, y < 256)) →
    s.boot.survey = [] →
    Gives (.startupStageComplete x) s ((F.BOOT_STAT_STAGE, 0, 9) :: (List.range 8).flatMap fun q =>
      [(F.PHR_STAT_VALID_A, q, 1), (F.PHR_ID_ID_A, q, leAt p.bytes 0 2)]) ((List.range 8).flatMap fun q => runParts
      (0x100000 + 0x8000 * q) (256 + leAt p.bytes 4 4)) [] fun t => ∀ q ∈ List.range 8, t.rdBytes (0x100000 + 0x8000 *
      q) (256 + leAt p.bytes 4 4) = p.bytes.take (256 + leAt p.bytes 4 4)) ∧
  (∀ (s : State) (x : StageIn),
    InStage s 9 ∧ x.wf = true →
    svRegs s.boot.survey = [] →
    Gives (.startupStageComplete x) s [(F.BOOT_STAT_STAGE, 0, 10)] [] [] anyState) ∧
  (∀ (s : State) (x : StageIn) (v : Nat),
    InStage s 9 ∧ x.wf = true →
    svRegs s.boot.survey = [.regWrite [(0x4030, v)]] ∧ v < 2 ^ 25 →
    Gives (.startupStageComplete x) s [(F.BOOT_STAT_STAGE, 0, 10), (F.BOOT_UPD_CFG_AUTO_CONF, 0, v / 2 ^ 24),
      (F.BOOT_UPD_CFG_SOAK, 0, v / 2 ^ 16 % 2 ^ 8), (F.BOOT_UPD_CFG_ACT_DELAY, 0, v % 2 ^ 16)] [] [] fun t =>
      t.refusedNow = false) ∧
  (∀ (s : State) (x : StageIn) (v : Nat),
    InStage s 9 ∧ x.wf = true →
    svRegs s.boot.survey = [.regRmw [(0x4030, 0xFFFF, v)]] ∧ v < 2 ^ 32 →
    s.rd F.BOOT_UPD_CFG_AUTO_CONF 0 < 2 ∧ s.rd F.BOOT_UPD_CFG_SOAK 0 < 2 ^ 8 ∧ s.rd F.BOOT_UPD_CFG_ACT_DELAY 0 < 2 ^ 16
      →
    Gives (.startupStageComplete x) s [(F.BOOT_STAT_STAGE, 0, 10), (F.BOOT_UPD_CFG_ACT_DELAY, 0, v % 2 ^ 16)] [] [] fun
      t => t.refusedNow = false) ∧
  (∀ (s : State) (x : StageIn) (a v b w : Nat),
    InStage s 9 ∧ x.wf = true →
    svRegs s.boot.survey = [.regWrite [(0x4030, w), (a, v)]] ∧ w < 2 ^ 25 ∧ b = s.rd F.BOOT_STAT_SV_BANK 0 ∧ b < 2 →
    regAt a = none ∧ windowAt a = none →
    s.rd F.BOOT_STAT_SV_TRIAL 0 ≠ 1 →
    Reports (.startupStageComplete x) s [(F.BOOT_UPD_CFG_AUTO_CONF, 0, w / 2 ^ 24), (F.BOOT_UPD_CFG_SOAK, 0, w / 2 ^ 16
      % 2 ^ 8), (F.BOOT_UPD_CFG_ACT_DELAY, 0, w % 2 ^ 16), (F.BOOT_ERR_CODE, 0, 14), (F.BOOT_ERR_COMP, 0, 1),
      (F.BOOT_ERR_BANK, 0, b)] [.boot] [⟨17, 0, 14, false⟩] [] fun t => t.boot = { s.boot with failed := true }) ∧
  (∀ (s : State) (x : StageIn) (tally : Nat),
    InStage s 10 ∧ x.wf = true →
    tally = tallyOf s.regs % 2 ^ 32 ∧ s.boot.svTally % 2 ^ 32 = tally →
    svLocks s.boot.survey = [] ∧ svMask s.boot.survey = 0 →
    Gives (.startupStageComplete x) s (commitVals s tally x.us) (.boot :: (List.range 16).map .port) [] fun t => (∀ n ∈
      List.range 16, t.port n = { s.port n with released := true }) ∧ t.boot.tallyOk = (s.boot.tallyOk || (s.flag
      F.BOOT_UPD_STAT_WINDOW 0 && !s.boot.byAct))) ∧
  (∀ (s : State) (x : StageIn) (tally v : Nat),
    InStage s 10 ∧ x.wf = true →
    tally = tallyOf s.regs % 2 ^ 32 ∧ s.boot.svTally % 2 ^ 32 = tally →
    (s.boot.survey = [.lock v] ∧ ∀ f ∈ Reg.GLB_LOCK.fields, s.rd f 0 < 2 ^ f.w) →
    Gives (.startupStageComplete x) s (commitVals s tally x.us ++ Reg.GLB_LOCK.fields.map fun f => (f, 0, s.rd f 0 |||
      bits v f.lo f.w)) (.boot :: (List.range 16).map .port) [] fun t => ∀ n ∈ List.range 16, (t.port n).released =
      true) ∧
  (∀ (s : State) (x : StageIn) (tally n k : Nat),
    InStage s 10 ∧ x.wf = true →
    tally = tallyOf s.regs % 2 ^ 32 ∧ s.boot.svTally % 2 ^ 32 = tally →
    n < 16 ∧ s.boot.survey = [.release (2 ^ n) k] ∧ s.present n = true ∧ s.rd F.PORT_CTL_EN n ≠ 1 →
    s.rd F.PORT_CFG_PERST_EN n ≠ 1 ∧ s.rd F.PORT_CFG_PRSNT_EN n ≠ 1 ∧ s.rd F.PORT_STAT_RSTDONE n = 1 ∧ s.ltssm n = 0x1F
      →
    (∀ ls ∈ s.portLs n, (s.lane ls).tx = false) →
    (s.port n).foundO = 0 ∧ (s.port n).foundI = 0 →
    Gives (.startupStageComplete x) s (commitVals s tally x.us ++ [(F.PORT_CTL_EN, n, 1), (F.PORT_LINK_STAT_LTSSM, n,
      0)]) (.boot :: (List.range 16).map .port ++ detectParts s n) [] fun t => ∀ m ∈ List.range 16, (t.port m).released
      = true) ∧
  (∀ (s : State) (x : StageIn) (tally b : Nat),
    InStage s 10 ∧ x.wf = true →
    tally = tallyOf s.regs % 2 ^ 32 ∧ s.boot.svTally % 2 ^ 32 ≠ tally →
    s.rd F.BOOT_STAT_SV_TRIAL 0 ≠ 1 ∧ b = s.rd F.BOOT_STAT_SV_BANK 0 ∧ b < 2 →
    Reports (.startupStageComplete x) s [(F.GLB_TALLY_VALUE, 0, tally), (F.GLB_TALLY_STAGE_STAGE, 0, s.boot.svTally % 2
      ^ 32), (F.GLB_TALLY_CTL_SUSP, 0, 0), (F.GLB_TALLY_STAT_COMMIT_FAIL, 0, 1), (F.BOOT_ERR_CODE, 0, 15),
      (F.BOOT_ERR_COMP, 0, 1), (F.BOOT_ERR_BANK, 0, b)] [.boot] [⟨17, 0, 15, false⟩] [] fun t => t.boot =
      { s.boot with failed := true })

/-- Tally passes, commits and adopts. The end of a pass writes the tally of the configuration to GLB_TALLY where no
write came during the pass. With REF_VALID = 1 and SUSP = 0 it is compared with the reference: MATCH_NOW shows the
result, and a difference sets MISM and reports TALLY_MISMATCH (source 16). No pass ends while none runs or the core
domain is stopped. A write of COMMIT or ADOPT waits for the next drip boundary. What a pass finds of a write made
during it is a free value (log entry 27). (R349, R350, R351.) -/
def Obligations.TheTallyIsComparedCommittedAndAdopted : Prop :=
  (∀ (s : State),
    Quiet s →
    (s.boot.pass = none ∨ s.coreRuns = false) →
    Gives .tallyPassEnd s [] [] [] anyState) ∧
  (∀ (s : State) (p : TallyPass),
    Quiet s →
    s.coreRuns = true ∧ s.boot.pass = some p ∧ tallyChanged p.regs s.regs = [] →
    (s.rd F.GLB_TALLY_STAT_REF_VALID 0 ≠ 1 ∨ s.rd F.GLB_TALLY_CTL_SUSP 0 = 1) →
    Gives .tallyPassEnd s [(F.GLB_TALLY_VALUE, 0, tallyOf s.regs % 2 ^ 32)] [.boot] [] fun t => t.boot =
      { s.boot with pass := none }) ∧
  (∀ (s : State) (p : TallyPass),
    Quiet s →
    s.coreRuns = true ∧ s.boot.pass = some p ∧ tallyChanged p.regs s.regs = [] →
    s.rd F.GLB_TALLY_STAT_REF_VALID 0 = 1 ∧ s.rd F.GLB_TALLY_CTL_SUSP 0 = 0 →
    Reports .tallyPassEnd s [(F.GLB_TALLY_VALUE, 0, tallyOf s.regs % 2 ^ 32), (F.GLB_TALLY_STAT_MATCH_NOW, 0, b2n
      (tallyOf s.regs % 2 ^ 32 == s.rd F.GLB_TALLY_REF_REF 0)), (F.GLB_TALLY_STAT_MISM, 0, if tallyOf s.regs % 2 ^ 32 =
      s.rd F.GLB_TALLY_REF_REF 0 then s.rd F.GLB_TALLY_STAT_MISM 0 else 1)] [.boot] (if tallyOf s.regs % 2 ^ 32 = s.rd
      F.GLB_TALLY_REF_REF 0 then [] else [⟨16, 0, 0, false⟩]) [] fun t => t.boot.pass = none ∧ t.boot.tallyOk =
      (s.boot.tallyOk || (tallyOf s.regs % 2 ^ 32 == s.rd F.GLB_TALLY_REF_REF 0 && p.lrun && s.boot.byAct))) ∧
  (∀ (s : State) (p : TallyPass),
    Quiet s →
    s.coreRuns = true ∧ s.boot.pass = some p ∧ tallyChanged p.regs s.regs ≠ [] →
    (s.rd F.GLB_TALLY_STAT_REF_VALID 0 ≠ 1 ∨ s.rd F.GLB_TALLY_CTL_SUSP 0 = 1) →
    Gives .tallyPassEnd s [(F.GLB_TALLY_VALUE, 0, tallyOf (tallyMix p.regs s.regs (Config.freeValue s.fresh)) % 2 ^ 32)]
      [.boot, .fresh] [] fun t => t.boot = { s.boot with pass := none } ∧ t.fresh = s.fresh + 1) ∧
  (∀ (s : State) (r : Requester),
    BusReady s r →
    Gives (.glbTallyCtlCommit r) s [] [.boot] [.writeAck] fun t => t.boot = { s.boot with commit := true }) ∧
  (∀ (s : State) (r : Requester),
    BusReady s r →
    Gives (.glbTallyCtlAdopt r) s [] [.boot] [.writeAck] fun t => t.boot = { s.boot with adopt := true })

/-- Confirmation, revert, re-activation and the boot controls. In an open window CONFIRM, and AUTO_CONFIRM once its
conditions hold, append CONFIRMED for each component in trial, count each and close the window; else they change
nothing. REVERT in an open window, and the end of the window, start a Lantern reset; where the flash names the old
firmware, its warm path appends REVERTED, runs the old bank, sets NOTCONF, counts and reports UPD_NOTCONF (source
18). REACT appends PENDING for each non-confirmed bank whose VERIFIED record matches its header. CONTINUE resumes a
hold at stage 6. CNT_CLR clears the counters of start-up and update. The end of a program or erase clears FBUSY.
(R333, R339, R340, R341, R355, R357, R358, R360, R362, R367.) -/
def Obligations.TrialsAreConfirmedOrReverted : Prop :=
  (∀ (s : State) (r : Requester) (f g : Flash) (fw sv : Bool),
    BusReady s r →
    Writable s f 2 ∧ s.rd F.BOOT_UPD_STAT_WINDOW 0 = 1 →
    fw = s.flag F.BOOT_STAT_FW_TRIAL 0 ∧ sv = s.flag F.BOOT_STAT_SV_TRIAL 0 ∧ (fw || sv) = true →
    s.rd F.BOOT_STAT_FW_TRIAL 0 < 2 ∧ s.rd F.BOOT_STAT_SV_TRIAL 0 < 2 →
    g = loggedIf sv (loggedIf fw f s.boot.area .confirmed 1 (s.rd F.BOOT_STAT_FW_BANK 0)) s.boot.area .confirmed 2 (s.rd
      F.BOOT_STAT_SV_BANK 0) →
    Gives (.bootUpdCtlConfirm r) s ([(F.BOOT_STAT_FW_TRIAL, 0, 0), (F.BOOT_STAT_SV_TRIAL, 0, 0),
      (F.BOOT_UPD_CNT_CONFIRMS, 0, min (s.rd F.BOOT_UPD_CNT_CONFIRMS 0 + b2n fw + b2n sv) 0xFF), (F.BOOT_SPI_STAT_FBUSY,
      0, 1)] ++ closedVals ++ shownVals s.boot.keys s.boot.area g) [.boot] [.writeAck] fun t => t.boot =
      { s.boot with flash := some g, window := none, winNew := false }) ∧
  (∀ (s : State) (r : Requester),
    BusReady s r →
    s.rd F.BOOT_UPD_STAT_WINDOW 0 ≠ 1 →
    Gives (.bootUpdCtlConfirm r) s [] [] [.writeAck] anyState) ∧
  (∀ (s : State) (f g : Flash) (fw sv : Bool),
    Quiet s →
    s.mayConfirm = true ∧ Writable s f 2 →
    fw = s.flag F.BOOT_STAT_FW_TRIAL 0 ∧ sv = s.flag F.BOOT_STAT_SV_TRIAL 0 ∧ (fw || sv) = true →
    s.rd F.BOOT_STAT_FW_TRIAL 0 < 2 ∧ s.rd F.BOOT_STAT_SV_TRIAL 0 < 2 →
    g = loggedIf sv (loggedIf fw f s.boot.area .confirmed 1 (s.rd F.BOOT_STAT_FW_BANK 0)) s.boot.area .confirmed 2 (s.rd
      F.BOOT_STAT_SV_BANK 0) →
    Gives .autoConfirm s ([(F.BOOT_STAT_FW_TRIAL, 0, 0), (F.BOOT_STAT_SV_TRIAL, 0, 0), (F.BOOT_UPD_CNT_CONFIRMS, 0, min
      (s.rd F.BOOT_UPD_CNT_CONFIRMS 0 + b2n fw + b2n sv) 0xFF), (F.BOOT_SPI_STAT_FBUSY, 0, 1)] ++ closedVals ++
      shownVals s.boot.keys s.boot.area g) [.boot] [] fun t => t.boot =
      { s.boot with flash := some g, window := none, winNew := false }) ∧
  (∀ (s : State),
    Quiet s →
    (s.rd F.BOOT_UPD_CFG_AUTO_CONF 0 ≠ 1 ∨ s.rd F.BOOT_UPD_STAT_WINDOW 0 ≠ 1 ∨ s.rd F.MGMT_STAT_LRUN 0 ≠ 1 ∨ s.rd
      F.BOOT_STAT_STAGE 0 ≠ 11 ∨ s.boot.failed = true ∨ s.boot.lantern ≠ none ∨ s.boot.tallyOk = false ∨ s.boot.wdog =
      true ∨ ∃ k ∈ s.boot.swaps, s.rd F.CLK_SCHED_STAT_RESULT k ≠ 1) →
    Gives .autoConfirm s [] [] [] anyState) ∧
  (∀ (s : State) (r : Requester) (f g : Flash) (b q : Nat),
    BusReady s r →
    Unsent s →
    Writable s f 1 ∧ s.rd F.BOOT_UPD_STAT_WINDOW 0 = 1 ∧ s.rd F.BOOT_STAT_RECOV 0 = 0 ∧ trialOpen (flashLog f) 2 = none
      →
    choose f s.boot.keys 1 (minFw s.boot.survey) true = ⟨some (b, false), some (.reverted, q), true, none⟩ ∧ b < 2 ∧ q <
      2 ∧ g = flashAppend f s.boot.area .reverted 1 q →
    Reports (.bootUpdCtlRevert r) s ([(F.GLB_RST_CAUSE_LAN_ACT, 0, 1), (F.BOOT_SPI_STAT_FBUSY, 0, 1),
      (F.BOOT_UPD_STAT_NOTCONF, 0, 1), (F.BOOT_UPD_CNT_REVERTS, 0, min (s.rd F.BOOT_UPD_CNT_REVERTS 0 + 1) 0xFF),
      (F.BOOT_ERR_CODE, 0, 19), (F.BOOT_ERR_COMP, 0, 0), (F.BOOT_ERR_BANK, 0, q), (F.BOOT_STAT_FW_BANK, 0, b),
      (F.BOOT_STAT_FW_TRIAL, 0, 0)] ++ lanternVals ++ closedVals ++ shownVals s.boot.keys s.boot.area g) [.boot, .snaps,
      .spdm, .bus] [⟨18, 1, 0, false⟩] [.writeAck] fun t => t.boot.flash = some g ∧ t.boot.fw = some (b, false) ∧
      t.boot.lantern = some s.drip ∧ t.boot.window = none) ∧
  (∀ (s : State) (r : Requester),
    BusReady s r →
    s.rd F.BOOT_UPD_STAT_WINDOW 0 ≠ 1 →
    Gives (.bootUpdCtlRevert r) s [] [] [.writeAck] anyState) ∧
  (∀ (s : State) (f g : Flash) (b q : Nat),
    Quiet s →
    Unsent s →
    Writable s f 1 ∧ s.rd F.BOOT_UPD_STAT_WINDOW 0 = 1 ∧ s.rd F.BOOT_STAT_RECOV 0 = 0 ∧ trialOpen (flashLog f) 2 = none
      →
    choose f s.boot.keys 1 (minFw s.boot.survey) true = ⟨some (b, false), some (.reverted, q), true, none⟩ ∧ b < 2 ∧ q <
      2 ∧ g = flashAppend f s.boot.area .reverted 1 q →
    Reports .confirmationWindowEnd s ([(F.GLB_RST_CAUSE_LAN_ACT, 0, 1), (F.BOOT_SPI_STAT_FBUSY, 0, 1),
      (F.BOOT_UPD_STAT_NOTCONF, 0, 1), (F.BOOT_UPD_CNT_REVERTS, 0, min (s.rd F.BOOT_UPD_CNT_REVERTS 0 + 1) 0xFF),
      (F.BOOT_ERR_CODE, 0, 19), (F.BOOT_ERR_COMP, 0, 0), (F.BOOT_ERR_BANK, 0, q), (F.BOOT_STAT_FW_BANK, 0, b),
      (F.BOOT_STAT_FW_TRIAL, 0, 0)] ++ lanternVals ++ closedVals ++ shownVals s.boot.keys s.boot.area g) [.boot, .snaps,
      .spdm, .bus] [⟨18, 1, 0, false⟩] [] fun t => t.boot.flash = some g ∧ t.boot.fw = some (b, false) ∧ t.boot.lantern
      = some s.drip ∧ t.boot.window = none) ∧
  (∀ (s : State),
    Quiet s →
    s.rd F.BOOT_UPD_STAT_WINDOW 0 ≠ 1 →
    Gives .confirmationWindowEnd s [] [] [] anyState) ∧
  (∀ (s : State) (r : Requester),
    BusReady s r →
    s.boot.flash = none →
    Gives (.bootUpdCtlReact r) s [] [] [.writeAck] anyState) ∧
  (∀ (s : State) (r : Requester) (f g : Flash) (b1 b2 : Nat) (p1 p2 : Bool),
    BusReady s r →
    Writable s f 2 →
    b1 = 1 - (flashReplay f 1).conf.getD 0 ∧ b2 = 1 - (flashReplay f 2).conf.getD 0 →
    p1 = (headerPasses s.boot.keys f 1 b1 && (flashReplay f 1).ver b1 == some (bankDigest f 1 b1)) →
    p2 = (headerPasses s.boot.keys f 2 b2 && (flashReplay f 2).ver b2 == some (bankDigest f 2 b2)) →
    (p1 || p2) = true ∧ g = loggedIf p2 (loggedIf p1 f s.boot.area .pending 1 b1) s.boot.area .pending 2 b2 →
    Gives (.bootUpdCtlReact r) s ((F.BOOT_SPI_STAT_FBUSY, 0, 1) :: shownVals s.boot.keys s.boot.area g) [.boot]
      [.writeAck] fun t => t.boot = { s.boot with flash := some g }) ∧
  (∀ (s : State) (r : Requester) (f : Flash),
    BusReady s r →
    s.boot.flash = some f ∧ (flashReplay f 1).ver (1 - (flashReplay f 1).conf.getD 0) = none ∧ (flashReplay f 2).ver (1
      - (flashReplay f 2).conf.getD 0) = none →
    Gives (.bootUpdCtlReact r) s [] [] [.writeAck] anyState) ∧
  (∀ (s : State) (r : Requester),
    BusReady s r →
    s.rd F.BOOT_STAT_STAGE 0 = 12 →
    Gives (.bootUpdCtlContinue r) s (loadVals s.boot.survey) [] [.writeAck] anyState) ∧
  (∀ (s : State) (r : Requester),
    BusReady s r →
    s.rd F.BOOT_STAT_STAGE 0 ≠ 12 →
    Gives (.bootUpdCtlContinue r) s [] [] [.writeAck] anyState) ∧
  (∀ (s : State) (r : Requester),
    BusReady s r →
    Gives (.bootUpdCtlCntClr r) s [(F.BOOT_UPD_CNT_REVERTS, 0, 0), (F.BOOT_UPD_CNT_CONFIRMS, 0, 0),
      (F.BOOT_UPD_CNT_ABORTS, 0, 0), (F.BOOT_UPD_CNT_APPLIED, 0, 0), (F.BOOT_SPI_STAT_REFUSED, 0, 0),
      (F.BOOT_LOG_STAT_TORN, 0, 0)] [] [.writeAck] anyState) ∧
  (∀ (s : State),
    Quiet s →
    Gives .flashProgramEraseComplete s [(F.BOOT_SPI_STAT_FBUSY, 0, 0)] [] [] anyState)

/-- Sources and conditions report, and the sump counts. An occurrence of an event source is one event; a condition
source reports one event as its condition begins, none while it lasts, and CAUSE reads 1 while some condition of the
source lasts; a wire fault of a listed source's pair sets WIREF and raises SUMP_WIRE (source 0) with the source's
number as instance, and its end clears WIREF; a forced event is an event with FORCED, unless GLB_LOCK.SUMP is set,
when the write is refused; nothing comes of a reserved number's wire fault. For a listed event source without
reaction whose pair is not faulted, an occurrence increments TOTAL; starts a window with COUNT 1 where the source is
IDLE or its window has run out, and else increments COUNT; makes it SEVERE when COUNT reaches N, 0 acting as 1;
fills the capture record where none is held and leaves a held one; sets PEND at every event with IRQ of 2 or 3. A
SEVERE source only counts TOTAL. Nothing else changes. (R323, R370, R371, R373, R374, R378, R379, R381.) -/
def Obligations.TheSumpTakesItsEvents : Prop :=
  (∀ (s : State) (src inst detail : Nat) (level : Bool),
    Quiet s →
    src < 128 ∧ inst < 256 ∧ detail < 256 →
    isCondition src = false →
    Reports (.sourceEvent src inst detail level) s [] [] [⟨src, inst, detail, false⟩] [] anyState) ∧
  (∀ (s : State) (src inst detail : Nat),
    Quiet s →
    src < 128 ∧ inst < 256 ∧ detail < 256 →
    isCondition src = true →
    s.causes.contains (src, inst + 256 * detail) = false →
    Reports (.sourceEvent src inst detail true) s [(F.SUMP_SRC_STAT_CAUSE, src, 1)] [.causes] [⟨src, inst, detail,
      false⟩] [] fun t => t.causes = s.causes ++ [(src, inst + 256 * detail)]) ∧
  (∀ (s : State) (src inst detail : Nat),
    Quiet s →
    src < 128 ∧ inst < 256 ∧ detail < 256 →
    isCondition src = true →
    s.causes.contains (src, inst + 256 * detail) = true →
    Gives (.sourceEvent src inst detail true) s [] [] [] anyState) ∧
  (∀ (s : State) (src inst detail : Nat),
    Quiet s →
    src < 128 ∧ inst < 256 ∧ detail < 256 →
    isCondition src = true →
    s.causes.contains (src, inst + 256 * detail) = true →
    Gives (.sourceEvent src inst detail false) s [(F.SUMP_SRC_STAT_CAUSE, src, b2n ((s.causes.filter fun c => c != (src,
      inst + 256 * detail)).any fun c => c.1 == src))] [.causes] [] fun t => t.causes = s.causes.filter fun c => c !=
      (src, inst + 256 * detail)) ∧
  (∀ (s : State) (src : Nat),
    Quiet s →
    src < 128 →
    (srcRow src).isSome = true →
    s.causes.contains (0, src) = false →
    Reports (.wireFault src) s [(F.SUMP_SRC_STAT_WIREF, src, 1), (F.SUMP_SRC_STAT_CAUSE, 0, 1)] [.causes] [⟨0, src, 0,
      false⟩] [] fun t => t.causes = s.causes ++ [(0, src)]) ∧
  (∀ (s : State) (src : Nat),
    Quiet s →
    src < 128 →
    srcRow src = none →
    Gives (.wireFault src) s [] [] [] anyState) ∧
  (∀ (s : State) (src : Nat),
    Quiet s →
    src < 128 →
    (srcRow src).isSome = true →
    s.causes = [(0, src)] →
    Gives (.wireFaultEnd src) s [(F.SUMP_SRC_STAT_WIREF, src, 0), (F.SUMP_SRC_STAT_CAUSE, 0, 0)] [.causes] [] fun t =>
      t.causes = []) ∧
  (∀ (s : State) (r : Requester) (src inst detail : Nat),
    BusReady s r →
    src < 128 ∧ inst < 256 ∧ detail < 256 →
    s.rd F.GLB_LOCK_SUMP 0 ≠ 1 →
    Reports (.sumpForce r src inst detail) s [] [] [⟨src, inst, detail, true⟩] [.writeAck] anyState) ∧
  (∀ (s : State) (r : Requester) (src inst detail : Nat),
    BusReady s r →
    src < 128 ∧ inst < 256 ∧ detail < 256 →
    s.rd F.GLB_LOCK_SUMP 0 = 1 →
    s.werrAny = true →
    Gives (.sumpForce r src inst detail) s [(F.GLB_WERR_SUMP, 0, 1)] [] [.writeAck] fun t => t.refusedNow = true) ∧
  (∀ (s : State),
    Quiet s →
    Reports .secureAccessViolation s [(F.MGMT_SEC_CNT_VIOL, 0, min (s.rd F.MGMT_SEC_CNT_VIOL 0 + 1) 0xFF)] [] [⟨14, 0,
      0, false⟩] [.busError] anyState) ∧
  (∀ (s : State) (src inst detail : Nat) (level : Bool),
    Quiet s →
    src < 128 ∧ inst < 256 ∧ detail < 256 →
    isCondition src = false →
    (srcRow src).isSome = true ∧ srcFixed src = false →
    s.rd F.SUMP_SRC_STAT_WIREF src ≠ 1 →
    s.rd F.SUMP_SRC_CFG_REACT src = 0 ∧ s.rd F.SUMP_SRC_CFG_IRQ src = 0 →
    s.rd F.SUMP_SRC_STAT_HELD src = 1 →
    (s.rd F.SUMP_SRC_STAT_STATE src = 0 ∨ s.rd F.SUMP_SRC_STAT_STATE src = 1 ∧ s.srcWindow src ≤ s.drip - s.winStart.get
      src 0) →
    Gives (.sourceEvent src inst detail level) s [(F.SUMP_SRC_STAT_TOTAL, src, min (s.rd F.SUMP_SRC_STAT_TOTAL src + 1)
      0xFFFF), (F.SUMP_SRC_STAT_COUNT, src, 1), (F.SUMP_SRC_STAT_STATE, src, if s.rd F.SUMP_SRC_CFG_N src ≤ 1 then 2
      else 1)] [.winStart] [] fun t => t.winStart.get src 0 = s.drip) ∧
  (∀ (s : State) (src inst detail : Nat) (level : Bool),
    Quiet s →
    src < 128 ∧ inst < 256 ∧ detail < 256 →
    isCondition src = false →
    (srcRow src).isSome = true ∧ srcFixed src = false →
    s.rd F.SUMP_SRC_STAT_WIREF src ≠ 1 →
    s.rd F.SUMP_SRC_CFG_REACT src = 0 ∧ s.rd F.SUMP_SRC_CFG_IRQ src = 0 →
    s.rd F.SUMP_SRC_STAT_HELD src = 1 →
    s.rd F.SUMP_SRC_STAT_STATE src = 1 ∧ s.drip - s.winStart.get src 0 < s.srcWindow src →
    Gives (.sourceEvent src inst detail level) s [(F.SUMP_SRC_STAT_TOTAL, src, min (s.rd F.SUMP_SRC_STAT_TOTAL src + 1)
      0xFFFF), (F.SUMP_SRC_STAT_COUNT, src, min (s.rd F.SUMP_SRC_STAT_COUNT src + 1) 255), (F.SUMP_SRC_STAT_STATE, src,
      if max (s.rd F.SUMP_SRC_CFG_N src) 1 ≤ min (s.rd F.SUMP_SRC_STAT_COUNT src + 1) 255 then 2 else 1)] [] []
      anyState) ∧
  (∀ (s : State) (src inst detail : Nat) (level : Bool),
    Quiet s →
    src < 128 ∧ inst < 256 ∧ detail < 256 →
    isCondition src = false →
    (srcRow src).isSome = true ∧ srcFixed src = false →
    s.rd F.SUMP_SRC_STAT_WIREF src ≠ 1 →
    s.rd F.SUMP_SRC_CFG_REACT src = 0 ∧ s.rd F.SUMP_SRC_CFG_IRQ src = 0 →
    s.rd F.SUMP_SRC_STAT_HELD src ≠ 1 →
    s.rd F.SUMP_SRC_STAT_STATE src = 2 →
    Gives (.sourceEvent src inst detail level) s [(F.SUMP_SRC_STAT_TOTAL, src, min (s.rd F.SUMP_SRC_STAT_TOTAL src + 1)
      0xFFFF), (F.SUMP_CAP_INFO_INST, src, inst), (F.SUMP_CAP_INFO_DETAIL, src, detail % 128), (F.SUMP_CAP_INFO_FORCED,
      src, 0), (F.SUMP_CAP_INFO_DRIP_HI, src, s.drip / 2 ^ 32 % 2 ^ 16), (F.SUMP_CAP_DRIP_DRIP_LO, src, s.drip % 2 ^
      32), (F.SUMP_SRC_STAT_HELD, src, 1)] [] [] anyState) ∧
  (∀ (s : State) (src inst detail : Nat) (level : Bool),
    Quiet s →
    src < 128 ∧ inst < 256 ∧ detail < 256 →
    isCondition src = false →
    (srcRow src).isSome = true ∧ srcFixed src = false →
    s.rd F.SUMP_SRC_STAT_WIREF src ≠ 1 →
    s.rd F.SUMP_SRC_CFG_REACT src = 0 ∧ 2 ≤ s.rd F.SUMP_SRC_CFG_IRQ src →
    s.rd F.SUMP_SRC_STAT_HELD src = 1 →
    s.rd F.SUMP_SRC_STAT_STATE src = 2 →
    Gives (.sourceEvent src inst detail level) s [(F.SUMP_SRC_STAT_TOTAL, src, min (s.rd F.SUMP_SRC_STAT_TOTAL src + 1)
      0xFFFF), (F.SUMP_PEND_PEND, src / 32, setBit (s.rd F.SUMP_PEND_PEND (src / 32)) (src % 32) % 2 ^ 32)] [] []
      anyState)

/-- Window end, SUMP_CLR, CNT_CLR, AVAIL_CLR and KICK. A COUNTING source whose window has ended returns to IDLE with
COUNT 0. SUMP_CLR of a source whose CAUSE is 0 makes it IDLE, releases its record and lifts its holds; with CAUSE 1
the write is refused; a reserved number is ignored; ALL clears every source whose CAUSE is 0 and leaves the others.
CNT_CLR clears every TOTAL, the error counts of the nine memories, the QSTOP counts and the watchdog's; AVAIL_CLR
the down time of the 16 ports; a kick of the normal partition restarts the Lantern watchdog. (R373, R380, R387,
R392, R393.) -/
def Obligations.SumpClears : Prop :=
  (∀ (s : State) (src : Nat),
    Quiet s →
    src < 128 →
    s.rd F.SUMP_SRC_STAT_STATE src = 1 ∧ s.srcWindow src ≤ s.drip - s.winStart.get src 0 →
    Gives (.sumpWindowEnd src) s [(F.SUMP_SRC_STAT_STATE, src, 0), (F.SUMP_SRC_STAT_COUNT, src, 0)] [] [] anyState) ∧
  (∀ (s : State) (src : Nat),
    Quiet s →
    src < 128 →
    ¬(s.rd F.SUMP_SRC_STAT_STATE src = 1 ∧ s.srcWindow src ≤ s.drip - s.winStart.get src 0) →
    Gives (.sumpWindowEnd src) s [] [] [] anyState) ∧
  (∀ (s : State) (r : Requester) (src : Nat),
    BusReady s r →
    src < 128 →
    (srcRow src).isSome = true →
    s.rd F.SUMP_SRC_STAT_CAUSE src ≠ 1 →
    Gives (.sumpClr r src) s [(F.SUMP_SRC_STAT_STATE, src, 0), (F.SUMP_SRC_STAT_COUNT, src, 0), (F.SUMP_SRC_STAT_HELD,
      src, 0)] [.holds] [.writeAck] fun t => t.holds = s.holds.filter fun h => h.1 != src) ∧
  (∀ (s : State) (r : Requester) (src : Nat),
    BusReady s r →
    src < 128 →
    (srcRow src).isSome = true →
    s.rd F.SUMP_SRC_STAT_CAUSE src = 1 →
    s.werrAny = true →
    Gives (.sumpClr r src) s [(F.GLB_WERR_SUMP, 0, 1)] [] [.writeAck] fun t => t.refusedNow = true) ∧
  (∀ (s : State) (r : Requester) (src : Nat),
    BusReady s r →
    src < 128 →
    srcRow src = none →
    Gives (.sumpClr r src) s [] [] [.writeAck] anyState) ∧
  (∀ (s : State) (r : Requester),
    BusReady s r →
    Gives (.sumpClrAll r) s [] (.holds :: (List.range 128).flatMap fun k => [.fld F.SUMP_SRC_STAT_STATE k, .fld
      F.SUMP_SRC_STAT_COUNT k, .fld F.SUMP_SRC_STAT_HELD k]) [.writeAck] fun t => ∀ k ∈ List.range 128, if (srcRow
      k).isSome = true ∧ s.rd F.SUMP_SRC_STAT_CAUSE k ≠ 1 then t.rd F.SUMP_SRC_STAT_STATE k = 0 ∧ t.rd
      F.SUMP_SRC_STAT_COUNT k = 0 ∧ t.rd F.SUMP_SRC_STAT_HELD k = 0 ∧ ∀ x ∈ t.holds, x.1 ≠ k else t.rd
      F.SUMP_SRC_STAT_STATE k = s.rd F.SUMP_SRC_STAT_STATE k ∧ t.rd F.SUMP_SRC_STAT_COUNT k = s.rd F.SUMP_SRC_STAT_COUNT
      k ∧ t.rd F.SUMP_SRC_STAT_HELD k = s.rd F.SUMP_SRC_STAT_HELD k) ∧
  (∀ (s : State) (r : Requester),
    BusReady s r →
    Gives (.sumpCtlCntClr r) s (((List.range 128).map fun k => (F.SUMP_SRC_STAT_TOTAL, k, 0)) ++ ((List.range 9).flatMap
      fun m => [(F.SUMP_ECC_STAT_CE, m, 0), (F.SUMP_ECC_STAT_UE, m, 0)]) ++ [(F.SUMP_QSTOP_CNT_QUIESCE, 0, 0),
      (F.SUMP_QSTOP_CNT_SHORT, 0, 0), (F.SUMP_LWDOG_STAT_EXP, 0, 0)]) [] [.writeAck] anyState) ∧
  (∀ (s : State) (r : Requester),
    BusReady s r →
    Gives (.sumpCtlAvailClr r) s ((List.range 16).map fun n => (F.SUMP_ATTR_DOWN_DRIPS, n, 0)) [] [.writeAck] anyState)
      ∧
  (∀ (s : State),
    BusReady s .normal →
    Gives (.sumpLwdogCtlKick .normal) s [(F.SUMP_LWDOG_STAT_AGE, 0, 0)] [.lwTicks] [.writeAck] fun t => t.lwTicks = 0) ∧
  (∀ (s : State) (r : Requester),
    BusReady s r →
    r ≠ .normal →
    s.werrAny = true →
    Gives (.sumpLwdogCtlKick r) s [(F.GLB_WERR_SUMP, 0, 1)] [] [.writeAck] fun t => t.refusedNow = true)

/-- The QSTOP pair. Agreement asserted with no port running sets QUIESCED and counts the quiesce; agreement released
clears QUIESCED; both show the levels, end a disagreement (counted in SHORT where it had not been declared) and the
cause of QSTOP_DISC; an edge on one channel shows its level and sets DISAG while the channels differ; a disagreement
that lasts reports QSTOP_DISC (source 1) once, and none reports nothing. (R382.) -/
def Obligations.QstopQuiescesAndReleases : Prop :=
  (∀ (s : State),
    Quiet s →
    (∀ n ∈ List.range 16, s.ltssm n = 0x1F ∨ s.ltssm n = 0x1D ∨ s.ltssm n = 0) →
    s.causes.contains (1, 0) = false →
    Gives .qstopAssert s [(F.SUMP_QSTOP_STAT_A, 0, 1), (F.SUMP_QSTOP_STAT_B, 0, 1), (F.SUMP_QSTOP_STAT_DISAG, 0, 0),
      (F.SUMP_QSTOP_STAT_QUIESCED, 0, 1), (F.SUMP_QSTOP_CNT_QUIESCE, 0, if s.rd F.SUMP_QSTOP_STAT_QUIESCED 0 = 1 then
      s.rd F.SUMP_QSTOP_CNT_QUIESCE 0 else min (s.rd F.SUMP_QSTOP_CNT_QUIESCE 0 + 1) 0xFFFF), (F.SUMP_QSTOP_CNT_SHORT,
      0, if s.rd F.SUMP_QSTOP_STAT_DISAG 0 = 1 ∧ s.rd F.SUMP_SRC_STAT_CAUSE 1 ≠ 1 then min (s.rd F.SUMP_QSTOP_CNT_SHORT
      0 + 1) 0xFFFF else s.rd F.SUMP_QSTOP_CNT_SHORT 0)] [] [] anyState) ∧
  (∀ (s : State),
    Quiet s →
    s.causes.contains (1, 0) = false →
    Gives .qstopRelease s [(F.SUMP_QSTOP_STAT_A, 0, 0), (F.SUMP_QSTOP_STAT_B, 0, 0), (F.SUMP_QSTOP_STAT_DISAG, 0, 0),
      (F.SUMP_QSTOP_STAT_QUIESCED, 0, 0), (F.SUMP_QSTOP_CNT_SHORT, 0, if s.rd F.SUMP_QSTOP_STAT_DISAG 0 = 1 ∧ s.rd
      F.SUMP_SRC_STAT_CAUSE 1 ≠ 1 then min (s.rd F.SUMP_QSTOP_CNT_SHORT 0 + 1) 0xFFFF else s.rd F.SUMP_QSTOP_CNT_SHORT
      0)] [] [] anyState) ∧
  (∀ (s : State),
    Quiet s →
    s.causes = [(1, 0)] →
    Gives .qstopRelease s [(F.SUMP_QSTOP_STAT_A, 0, 0), (F.SUMP_QSTOP_STAT_B, 0, 0), (F.SUMP_QSTOP_STAT_DISAG, 0, 0),
      (F.SUMP_QSTOP_STAT_QUIESCED, 0, 0), (F.SUMP_SRC_STAT_CAUSE, 1, 0), (F.SUMP_QSTOP_CNT_SHORT, 0, if s.rd
      F.SUMP_QSTOP_STAT_DISAG 0 = 1 ∧ s.rd F.SUMP_SRC_STAT_CAUSE 1 ≠ 1 then min (s.rd F.SUMP_QSTOP_CNT_SHORT 0 + 1)
      0xFFFF else s.rd F.SUMP_QSTOP_CNT_SHORT 0)] [.causes] [] fun t => t.causes = []) ∧
  (∀ (s : State),
    Quiet s →
    s.rd F.SUMP_QSTOP_STAT_DISAG 0 = 1 →
    s.causes.contains (1, 0) = false →
    Reports .qstopDiscrepancy s [(F.SUMP_SRC_STAT_CAUSE, 1, 1)] [.causes] [⟨1, 0, 0, false⟩] [] fun t => t.causes =
      s.causes ++ [(1, 0)]) ∧
  (∀ (s : State),
    Quiet s →
    s.rd F.SUMP_QSTOP_STAT_DISAG 0 ≠ 1 →
    Gives .qstopDiscrepancy s [] [] [] anyState) ∧
  (∀ (s : State) (asserted : Bool),
    Quiet s →
    s.flag F.SUMP_QSTOP_STAT_A 0 ≠ asserted →
    Gives (.qstopDisagreement true asserted) s [(F.SUMP_QSTOP_STAT_A, 0, b2n (s.flag F.SUMP_QSTOP_STAT_A 0)),
      (F.SUMP_QSTOP_STAT_B, 0, b2n asserted), (F.SUMP_QSTOP_STAT_DISAG, 0, 1)] [] [] anyState) ∧
  (∀ (s : State) (asserted : Bool),
    Quiet s →
    s.flag F.SUMP_QSTOP_STAT_B 0 ≠ asserted →
    Gives (.qstopDisagreement false asserted) s [(F.SUMP_QSTOP_STAT_A, 0, b2n asserted), (F.SUMP_QSTOP_STAT_B, 0, b2n
      (s.flag F.SUMP_QSTOP_STAT_B 0)), (F.SUMP_QSTOP_STAT_DISAG, 0, 1)] [] [] anyState)

/-- Memory protection: write-back, leak and scrubbing. A write-back takes the corrected word off the list; the leaky
bucket loses 1 and stops at 0; the scrubber's read goes on to the next word, and at the last one the lap's age
becomes LAP, AGE and the place return to 0, and the slow-lap flag and condition follow LAP_WM; a correctable error
is counted and recorded and adds to the bucket; an uncorrectable one is counted, recorded and reported as source 12.
(R384, R385, R386.) -/
def Obligations.MemoryErrorsAreCountedAndScrubbed : Prop :=
  (∀ (s : State) (mem word : Nat) (ov : Bool),
    Quiet s →
    mem < 9 ∧ word < 2 ^ 24 →
    Gives (.eccWriteBack mem word ov) s [] [.eccPend] [] fun t => t.eccPend = s.eccPend.filter fun p => p != (mem,
      word)) ∧
  (∀ (s : State) (mem : Nat),
    Quiet s →
    mem < 9 →
    s.rd F.SUMP_ECC_STAT_LEVEL mem < 256 →
    Gives (.eccLeak mem) s [(F.SUMP_ECC_STAT_LEVEL, mem, s.rd F.SUMP_ECC_STAT_LEVEL mem - 1)] [] [] anyState) ∧
  (∀ (s : State) (mem : Nat),
    Quiet s →
    mem < 9 →
    (mem = 5 ∨ mem = 8 ∨ s.coreRuns = true) →
    s.scrubPos.get mem 0 + 1 ≠ memWords mem →
    Gives (.scrubRead mem .ok) s [] [.scrubPos] [] fun t => t.scrubPos = s.scrubPos.set mem (s.scrubPos.get mem 0 + 1)
      0) ∧
  (∀ (s : State) (mem word : Nat),
    Quiet s →
    mem < 9 ∧ word < 2 ^ 24 →
    (mem = 5 ∨ mem = 8 ∨ s.coreRuns = true) →
    s.scrubPos.get mem 0 + 1 ≠ memWords mem →
    Reports (.scrubRead mem (.ue word)) s [(F.SUMP_ECC_STAT_UE, mem, min (s.rd F.SUMP_ECC_STAT_UE mem + 1) 255),
      (F.SUMP_ECC_LAST_WORD, mem, s.scrubPos.get mem 0 % 2 ^ 24), (F.SUMP_ECC_LAST_UE, mem, 1)] [.scrubPos] [⟨12, mem,
      0, false⟩] [] fun t => t.scrubPos = s.scrubPos.set mem (s.scrubPos.get mem 0 + 1) 0) ∧
  (∀ (s : State) (mem word : Nat),
    Quiet s →
    mem < 9 ∧ word < 2 ^ 24 →
    (mem = 5 ∨ mem = 8 ∨ s.coreRuns = true) →
    s.scrubPos.get mem 0 + 1 ≠ memWords mem →
    s.rd F.SUMP_ECC_STAT_LEVEL mem + 1 < s.rd F.SUMP_ECC_CFG_THR mem ∧ s.rd F.SUMP_ECC_CFG_THR mem < 256 →
    Gives (.scrubRead mem (.ce word)) s [(F.SUMP_ECC_STAT_CE, mem, min (s.rd F.SUMP_ECC_STAT_CE mem + 1) 4095),
      (F.SUMP_ECC_LAST_WORD, mem, s.scrubPos.get mem 0 % 2 ^ 24), (F.SUMP_ECC_LAST_UE, mem, 0), (F.SUMP_ECC_STAT_LEVEL,
      mem, s.rd F.SUMP_ECC_STAT_LEVEL mem + 1)] [.scrubPos, .eccPend] [] fun t => t.scrubPos = s.scrubPos.set mem
      (s.scrubPos.get mem 0 + 1) 0 ∧ (mem, s.scrubPos.get mem 0) ∈ t.eccPend) ∧
  (∀ (s : State) (mem : Nat),
    Quiet s →
    mem < 9 →
    (mem = 5 ∨ mem = 8 ∨ s.coreRuns = true) →
    s.scrubPos.get mem 0 + 1 = memWords mem →
    s.rd F.SUMP_SCRUB_AGE_AGE mem < 2 ^ 32 →
    s.causes.contains (13, mem) = false →
    Gives (.scrubRead mem .ok) s [(F.SUMP_SCRUB_LAP_LAP, mem, s.rd F.SUMP_SCRUB_AGE_AGE mem), (F.SUMP_SCRUB_AGE_AGE,
      mem, 0), (F.SUMP_ECC_STAT_SLOW, mem, if s.lapLimit mem < s.rd F.SUMP_SCRUB_AGE_AGE mem then 1 else s.rd
      F.SUMP_ECC_STAT_SLOW mem)] [.scrubPos] [] fun t => t.scrubPos.get mem 0 = 0)

/-- Management writes. A write of an RWE register (PORT_TMO_CFG) of a disabled port sets its fields; one that would
change a field of an enabled port is refused: nothing changes but GLB_WERR.PORT and, for the first refusal, its
address, requester and ADDR_V, and a later refusal keeps the first's record. A write of a read-only register
(PORT_LDN_LOG) changes nothing. Writing 1 to flags of GLB_WERR clears them, and ADDR_V with the last. Writes of
GLB_LOCK only set locks. A write of a reserved bit faults; one to an address with nothing, or to a core-domain
register while that domain is stopped, ends in a bus error; one through a locked TAP does nothing. (R12, R14, R255,
R361, R397, R402, R403, R416, R417.) -/
def Obligations.WritesFollowTheirAccessCodes : Prop :=
  (∀ (s : State) (r : Requester) (n a v : Nat),
    CoreReady s r →
    n < 16 ∧ a = 0x10028 + 0x1000 * n ∧ v < 256 →
    s.portEn n = false →
    Gives (.registerWrite r a (20 * 65536 + v)) s [(F.PORT_TMO_CFG_PRSNT_DB, n, 20), (F.PORT_TMO_CFG_FWD_TMO, n, v)] []
      [.writeAck] anyState) ∧
  (∀ (s : State) (r : Requester) (n a v : Nat),
    CoreReady s r →
    n < 16 ∧ a = 0x10028 + 0x1000 * n ∧ v < 256 →
    s.portEn n = true ∧ s.rd F.PORT_TMO_CFG_FWD_TMO n ≠ v ∧ s.rd F.PORT_TMO_CFG_PRSNT_DB n = 20 →
    s.werrAny = false →
    Gives (.registerWrite r a (20 * 65536 + v)) s [(F.GLB_WERR_PORT, 0, 1), (F.GLB_WERR_ADDR_ADDR, 0, a),
      (F.GLB_WERR_FREQ, 0, reqCode r), (F.GLB_WERR_ADDR_V, 0, 1)] [] [.writeAck] fun t => t.refusedNow = true) ∧
  (∀ (s : State) (r : Requester) (n a v : Nat),
    CoreReady s r →
    n < 16 ∧ a = 0x10028 + 0x1000 * n ∧ v < 256 →
    s.portEn n = true ∧ s.rd F.PORT_TMO_CFG_FWD_TMO n ≠ v ∧ s.rd F.PORT_TMO_CFG_PRSNT_DB n = 20 →
    s.werrAny = true →
    Gives (.registerWrite r a (20 * 65536 + v)) s [(F.GLB_WERR_PORT, 0, 1)] [] [.writeAck] fun t => t.refusedNow = true)
      ∧
  (∀ (s : State) (r : Requester) (n a v : Nat),
    CoreReady s r →
    n < 16 ∧ a = 0x10030 + 0x1000 * n ∧ v < 2 ^ 32 ∧ v &&& namedBits .PORT_LDN_LOG = v →
    Gives (.registerWrite r a v) s [] [] [.writeAck] anyState) ∧
  (∀ (s : State) (r : Requester),
    BusReady s r →
    Gives (.registerWrite r 0x24 0xFFF) s (([F.GLB_WERR_COMPAT, F.GLB_WERR_MGMT, F.GLB_WERR_HEAT, F.GLB_WERR_CMP,
      F.GLB_WERR_SPARE, F.GLB_WERR_QUAD, F.GLB_WERR_PORT, F.GLB_WERR_BOOT, F.GLB_WERR_SUMP, F.GLB_WERR_PWR,
      F.GLB_WERR_CLK, F.GLB_WERR_GLB, F.GLB_WERR_ADDR_V] : List Fld).map fun f => (f, 0, 0)) [] [.writeAck] anyState) ∧
  (∀ (s : State) (r : Requester),
    BusReady s r →
    s.rd F.GLB_WERR_PORT 0 = 1 ∧ s.rd F.GLB_WERR_CLK 0 = 1 →
    (∀ f ∈ Reg.GLB_WERR.fields, s.rd f 0 < 2 ^ f.w) →
    Gives (.registerWrite r 0x24 2) s [(F.GLB_WERR_CLK, 0, 0)] [] [.writeAck] anyState) ∧
  (∀ (s : State) (r : Requester) (v : Nat),
    BusReady s r →
    v < 8 →
    Gives (.glbLockWrite r v) s (Reg.GLB_LOCK.fields.map fun f => (f, 0, if bit v f.lo then 1 else s.rd f 0 % 2)) []
      [.writeAck] anyState) ∧
  (∀ (s : State) (r : Requester) (v : Nat),
    BusReady s r →
    8 ≤ v ∧ v < 2 ^ 32 →
    exec (.glbLockWrite r v) s = .fault .reservedBits) ∧
  (∀ (s : State) (r : Requester) (a v : Nat),
    BusReady s r →
    a < 2 ^ 32 ∧ v < 2 ^ 32 ∧ regAt a = none ∧ windowAt a = none →
    Gives (.registerWrite r a v) s [] [] [.busError] anyState) ∧
  (∀ (s : State) (r : Requester) (a v n : Nat) (g : Reg),
    BusReady s r →
    a < 2 ^ 32 ∧ v < 2 ^ 32 ∧ regAt a = some (g, n) ∧ coreBlock a = true ∧ s.coreRuns = false →
    Gives (.registerWrite r a v) s [] [] [.busError] anyState) ∧
  (∀ (s : State) (a v : Nat),
    Quiet s →
    a < 2 ^ 32 ∧ v < 2 ^ 32 →
    s.flag F.BOOT_STAT_DBG_LOCK 0 = true →
    Gives (.registerWrite .jtag a v) s [] [] [] anyState)

/-- Register pairs, the compatibility window and the TAP. A read of CLK_DRIP_LO latches, for its requester, the high
half with the nanoseconds, which a read of CLK_DRIP_HI returns; a latched read changes nothing. A write of the first
register of a pair is staged; a write of the second moves both words. While COMPAT_EN is 1 a write of a writable
window register is buffered, one of a full buffer is refused for the buffer (code 3) and sets OVF, one of a
read-only one is refused; with COMPAT_EN 0 the window is not there. A read of CW_WBUF returns the count and OVF and
clears OVF. A boundary-scan instruction takes over the balls until the TAP is reset. (R260, R401, R404, R405, R408,
R410, R411, R420, R431.) -/
def Obligations.PairsSnapshotsAndTheWindow : Prop :=
  (∀ (s : State) (r : Requester) (ns : Nat),
    BusReady s r →
    ns < 1999 →
    Gives (.snapshotLoRead r 0x1020 ns) s [] [.snaps] [.readData (s.rd F.CLK_DRIP_LO_DRIP_LO 0)] fun t => t.snaps.get (4
      * 0x1024 + reqCode r) 0 = s.rd F.CLK_DRIP_HI_DRIP_HI 0 + 65536 * ns ∧ ∀ k ∈ List.range 3, k ≠ reqCode r →
      t.snaps.get (4 * 0x1024 + k) 0 = s.snaps.get (4 * 0x1024 + k) 0) ∧
  (∀ (s : State) (r : Requester) (ns : Nat),
    BusReady s r →
    ns < 2000 →
    Gives (.snapshotLoRead r 0x1024 ns) s [] [] [.readData (s.snaps.get (4 * 0x1024 + reqCode r) 0)] anyState) ∧
  (∀ (s : State) (ns : Nat),
    Quiet s →
    ns < 2000 ∧ s.flag F.BOOT_STAT_DBG_LOCK 0 = true →
    Gives (.snapshotLoRead .jtag 0x1020 ns) s [] [] [] anyState) ∧
  (∀ (s : State) (r : Requester) (v : Nat),
    BusReady s r →
    v < 2 ^ 32 →
    Gives (.pairLoWrite r 0x103C v) s [] [.staged] [.writeAck] fun t => t.staged = s.staged.set 0x103C (v + 1) 0) ∧
  (∀ (s : State) (r : Requester) (v w : Nat),
    BusReady s r →
    v < 65536 ∧ w < 2 ^ 32 ∧ s.staged.get 0x103C 0 = w + 1 →
    Gives (.pairHiWrite r 0x1040 v) s [(F.CLK_TSYNC_LOAD_LO_LOAD_LO, 0, w), (F.CLK_TSYNC_LOAD_HI_LOAD_HI, 0, v)]
      [.staged] [.writeAck] fun t => t.staged = s.staged.set 0x103C 0 0) ∧
  (∀ (s : State) (r : Requester) (v : Nat),
    BusReady s r →
    v < 65536 ∧ s.staged.get 0x103C 0 = 0 ∧ s.rd F.CLK_TSYNC_LOAD_LO_LOAD_LO 0 < 2 ^ 32 →
    Gives (.pairHiWrite r 0x1040 v) s [(F.CLK_TSYNC_LOAD_HI_LOAD_HI, 0, v)] [] [.writeAck] anyState) ∧
  (∀ (s : State) (r : Requester) (a v n : Nat) (g : Reg),
    CoreReady s r →
    0x8000 ≤ a ∧ a < 0x10000 ∧ v < 2 ^ 32 ∧ regAt a = some (g, n) ∧ compatWritable g = true →
    s.flag F.GLB_MODE_COMPAT_EN 0 = true ∧ s.compat.length < 32 →
    Gives (.compatWrite r a v) s [] [.compat] [.writeAck] fun t => t.compat = s.compat ++ [(a, v)]) ∧
  (∀ (s : State) (r : Requester) (a v n : Nat) (g : Reg),
    CoreReady s r →
    0x8000 ≤ a ∧ a < 0x10000 ∧ v < 2 ^ 32 ∧ regAt a = some (g, n) ∧ compatWritable g = true →
    s.flag F.GLB_MODE_COMPAT_EN 0 = true ∧ 32 ≤ s.compat.length ∧ s.werrAny = false →
    Gives (.compatWrite r a v) s [(F.GLB_WERR_COMPAT, 0, 1), (F.CW_WBUF_OVF, 0, 1), (F.GLB_WERR_FREQ, 0, 3),
      (F.GLB_WERR_ADDR_ADDR, 0, a), (F.GLB_WERR_ADDR_V, 0, 1)] [] [.writeAck] anyState) ∧
  (∀ (s : State) (r : Requester) (a v n : Nat) (g : Reg),
    CoreReady s r →
    0x8000 ≤ a ∧ a < 0x10000 ∧ v < 2 ^ 32 ∧ regAt a = some (g, n) ∧ compatWritable g = false →
    s.flag F.GLB_MODE_COMPAT_EN 0 = true ∧ s.werrAny = true →
    Gives (.compatWrite r a v) s [(F.GLB_WERR_COMPAT, 0, 1)] [] [.writeAck] anyState) ∧
  (∀ (s : State) (r : Requester) (a v : Nat),
    CoreReady s r →
    0x8000 ≤ a ∧ a < 0x10000 ∧ a % 4 = 0 ∧ v < 2 ^ 32 →
    s.flag F.GLB_MODE_COMPAT_EN 0 = false →
    Gives (.compatWrite r a v) s [] [] [.busError] anyState) ∧
  (∀ (s : State) (r : Requester),
    BusReady s r →
    s.flag F.GLB_MODE_COMPAT_EN 0 = true →
    Gives (.cwWbufRead r) s [(F.CW_WBUF_OVF, 0, 0)] [] [.readData (s.compat.length % 64 + 256 * s.rd F.CW_WBUF_OVF 0)]
      anyState) ∧
  (∀ (s : State) (ins : TapIns),
    Quiet s →
    Gives (.extest ins) s [] [.tap] [.extest ins] fun t => t.tap = some ins) ∧
  (∀ (s : State) (how : TapRst),
    Quiet s →
    Gives (.tapReset how) s [] [.tap] [] fun t => t.tap = none)
end

