-- ==== Sys2Proof/Laws/State.lean ====
section
/-! SUPPORT. The small lemmas of the state: what an update of one part leaves of the others, reading a register field after
writing one, reading memory after writing it, and when a part of the state is unchanged. -/
namespace Sys2Proof

/-! Sparse tables -/

theorem SMap.get_erase_self {α : Type} (m : SMap α) (k : Nat) (d : α) : (m.erase k).get k d = d := by
  induction m with
  | nil => rfl
  | cons e t ih =>
    by_cases h : e.1 = k
    · simpa [SMap.erase, h] using ih
    · simpa [SMap.erase, h, SMap.get] using ih

theorem SMap.get_erase_ne {α : Type} (m : SMap α) {k j : Nat} (h : k ≠ j) (d : α) :
    (m.erase k).get j d = m.get j d := by
  induction m with
  | nil => rfl
  | cons e t ih =>
    by_cases he : e.1 = k
    · have : e.1 ≠ j := fun h' => h (he.symm.trans h')
      simpa [SMap.erase, he, SMap.get, this, h] using ih
    · simp only [SMap.erase] at ih ⊢
      rw [List.filter_cons_of_pos (by simpa using he)]
      simp only [SMap.get, ih]

theorem SMap.get_insert_self {α : Type} (m : SMap α) (k : Nat) (v d : α) (h : m.get k v = v) :
    (m.insert k v).get k d = v := by
  induction m with
  | nil => simp [SMap.insert, SMap.get]
  | cons e t ih =>
    by_cases hk : k < e.1
    · simp [SMap.insert, hk, SMap.get]
    · by_cases he : e.1 = k
      · simp only [SMap.get, he, if_true] at h
        simp [SMap.insert, SMap.get, he, h]
      · simp only [SMap.get, he, if_false] at h
        simp [SMap.insert, SMap.get, he, hk, ih h]

theorem SMap.get_insert_ne {α : Type} (m : SMap α) {k j : Nat} (v : α) (h : k ≠ j) (d : α) :
    (m.insert k v).get j d = m.get j d := by
  induction m with
  | nil => simp [SMap.insert, SMap.get, h]
  | cons e t ih =>
    by_cases hk : k < e.1
    · simp [SMap.insert, hk, SMap.get, h]
    · simp [SMap.insert, hk, SMap.get, ih]

/-- What was set is read. -/
theorem SMap.get_set_self {α : Type} [DecidableEq α] (m : SMap α) (k : Nat) (v d : α) : (m.set k v d).get k d = v := by
  unfold SMap.set
  split
  · rename_i h; rw [SMap.get_erase_self, h]
  · exact SMap.get_insert_self _ _ _ _ (SMap.get_erase_self m k v)

/-- Setting a key leaves the others. -/
theorem SMap.get_set_ne {α : Type} [DecidableEq α] (m : SMap α) {k j : Nat} (v d e : α) (h : k ≠ j) :
    (m.set k v d).get j e = m.get j e := by
  unfold SMap.set
  split
  · exact SMap.get_erase_ne m h e
  · rw [SMap.get_insert_ne _ v h, SMap.get_erase_ne m h]

namespace Machine

/-! What `begun` leaves as it was -/

section
variable (s : State)
@[simp] theorem State.begun_pending : (s.begun).pending = s.pending := rfl
@[simp] theorem State.begun_regs : (s.begun).regs = s.regs := rfl
@[simp] theorem State.begun_mirr : (s.begun).mirr = s.mirr := rfl
@[simp] theorem State.begun_mem : (s.begun).mem = s.mem := rfl
@[simp] theorem State.begun_ports : (s.begun).ports = s.ports := rfl
@[simp] theorem State.begun_flits : (s.begun).flits = s.flits := rfl
@[simp] theorem State.begun_lanes : (s.begun).lanes = s.lanes := rfl
@[simp] theorem State.begun_csb : (s.begun).csb = s.csb := rfl
@[simp] theorem State.begun_spares : (s.begun).spares = s.spares := rfl
@[simp] theorem State.begun_heats : (s.begun).heats = s.heats := rfl
@[simp] theorem State.begun_zclr : (s.begun).zclr = s.zclr := rfl
@[simp] theorem State.begun_lenWritten : (s.begun).lenWritten = s.lenWritten := rfl
@[simp] theorem State.begun_shared : (s.begun).shared = s.shared := rfl
@[simp] theorem State.begun_held : (s.begun).held = s.held := rfl
@[simp] theorem State.begun_visits : (s.begun).visits = s.visits := rfl
@[simp] theorem State.begun_clk : (s.begun).clk = s.clk := rfl
@[simp] theorem State.begun_cals : (s.begun).cals = s.cals := rfl
@[simp] theorem State.begun_porDrips : (s.begun).porDrips = s.porDrips := rfl
@[simp] theorem State.begun_secDefer : (s.begun).secDefer = s.secDefer := rfl
@[simp] theorem State.begun_views : (s.begun).views = s.views := rfl
@[simp] theorem State.begun_bus : (s.begun).bus = s.bus := rfl
@[simp] theorem State.begun_spdm : (s.begun).spdm = s.spdm := rfl
@[simp] theorem State.begun_boot : (s.begun).boot = s.boot := rfl
@[simp] theorem State.begun_snaps : (s.begun).snaps = s.snaps := rfl
@[simp] theorem State.begun_staged : (s.begun).staged = s.staged := rfl
@[simp] theorem State.begun_compat : (s.begun).compat = s.compat := rfl
@[simp] theorem State.begun_misAge : (s.begun).misAge = s.misAge := rfl
@[simp] theorem State.begun_winStart : (s.begun).winStart = s.winStart := rfl
@[simp] theorem State.begun_causes : (s.begun).causes = s.causes := rfl
@[simp] theorem State.begun_eccPend : (s.begun).eccPend = s.eccPend := rfl
@[simp] theorem State.begun_scrubPos : (s.begun).scrubPos = s.scrubPos := rfl
@[simp] theorem State.begun_aliveRun : (s.begun).aliveRun = s.aliveRun := rfl
@[simp] theorem State.begun_lwTicks : (s.begun).lwTicks = s.lwTicks := rfl
@[simp] theorem State.begun_alive : (s.begun).alive = s.alive := rfl
@[simp] theorem State.begun_holds : (s.begun).holds = s.holds := rfl
@[simp] theorem State.begun_tap : (s.begun).tap = s.tap := rfl
@[simp] theorem State.begun_safe : (s.begun).safe = s.safe := rfl
@[simp] theorem State.begun_raised : (s.begun).raised = s.raised := rfl
@[simp] theorem State.begun_fresh : (s.begun).fresh = s.fresh := rfl
@[simp] theorem State.begun_rd (g : Fld) (j : Nat) : (s.begun).rd g j = s.rd g j := rfl
@[simp] theorem State.begun_flag (g : Fld) (j : Nat) : (s.begun).flag g j = s.flag g j := rfl
@[simp] theorem State.begun_rdMirror (g : Fld) (j : Nat) : (s.begun).rdMirror g j = s.rdMirror g j := rfl
@[simp] theorem State.begun_rdByte (y : Nat) : (s.begun).rdByte y = s.rdByte y := rfl
@[simp] theorem State.begun_port (m : Nat) : (s.begun).port m = s.port m := rfl
@[simp] theorem State.begun_fl (m : Nat) : (s.begun).fl m = s.fl m := rfl
@[simp] theorem State.begun_lane (m : Nat) : (s.begun).lane m = s.lane m := rfl
@[simp] theorem State.begun_heat (m : Nat) : (s.begun).heat m = s.heat m := rfl
@[simp] theorem State.begun_view (m : Nat) : (s.begun).view m = s.view m := rfl
@[simp] theorem State.begun_spare (m : Nat) : (s.begun).spare m = s.spare m := rfl
@[simp] theorem State.begun_cal (m : Nat) : (s.begun).cal m = s.cal m := rfl
@[simp] theorem State.begun_drip : (s.begun).drip = s.drip := rfl
end

/-! What `emit` leaves as it was -/

section
variable (s : State) (o : Out)
@[simp] theorem State.emit_pending : (s.emit o).pending = s.pending := rfl
@[simp] theorem State.emit_regs : (s.emit o).regs = s.regs := rfl
@[simp] theorem State.emit_mirr : (s.emit o).mirr = s.mirr := rfl
@[simp] theorem State.emit_mem : (s.emit o).mem = s.mem := rfl
@[simp] theorem State.emit_ports : (s.emit o).ports = s.ports := rfl
@[simp] theorem State.emit_flits : (s.emit o).flits = s.flits := rfl
@[simp] theorem State.emit_lanes : (s.emit o).lanes = s.lanes := rfl
@[simp] theorem State.emit_csb : (s.emit o).csb = s.csb := rfl
@[simp] theorem State.emit_spares : (s.emit o).spares = s.spares := rfl
@[simp] theorem State.emit_heats : (s.emit o).heats = s.heats := rfl
@[simp] theorem State.emit_zclr : (s.emit o).zclr = s.zclr := rfl
@[simp] theorem State.emit_lenWritten : (s.emit o).lenWritten = s.lenWritten := rfl
@[simp] theorem State.emit_shared : (s.emit o).shared = s.shared := rfl
@[simp] theorem State.emit_held : (s.emit o).held = s.held := rfl
@[simp] theorem State.emit_visits : (s.emit o).visits = s.visits := rfl
@[simp] theorem State.emit_clk : (s.emit o).clk = s.clk := rfl
@[simp] theorem State.emit_cals : (s.emit o).cals = s.cals := rfl
@[simp] theorem State.emit_porDrips : (s.emit o).porDrips = s.porDrips := rfl
@[simp] theorem State.emit_secDefer : (s.emit o).secDefer = s.secDefer := rfl
@[simp] theorem State.emit_views : (s.emit o).views = s.views := rfl
@[simp] theorem State.emit_bus : (s.emit o).bus = s.bus := rfl
@[simp] theorem State.emit_spdm : (s.emit o).spdm = s.spdm := rfl
@[simp] theorem State.emit_boot : (s.emit o).boot = s.boot := rfl
@[simp] theorem State.emit_snaps : (s.emit o).snaps = s.snaps := rfl
@[simp] theorem State.emit_staged : (s.emit o).staged = s.staged := rfl
@[simp] theorem State.emit_compat : (s.emit o).compat = s.compat := rfl
@[simp] theorem State.emit_misAge : (s.emit o).misAge = s.misAge := rfl
@[simp] theorem State.emit_winStart : (s.emit o).winStart = s.winStart := rfl
@[simp] theorem State.emit_causes : (s.emit o).causes = s.causes := rfl
@[simp] theorem State.emit_eccPend : (s.emit o).eccPend = s.eccPend := rfl
@[simp] theorem State.emit_scrubPos : (s.emit o).scrubPos = s.scrubPos := rfl
@[simp] theorem State.emit_aliveRun : (s.emit o).aliveRun = s.aliveRun := rfl
@[simp] theorem State.emit_lwTicks : (s.emit o).lwTicks = s.lwTicks := rfl
@[simp] theorem State.emit_alive : (s.emit o).alive = s.alive := rfl
@[simp] theorem State.emit_holds : (s.emit o).holds = s.holds := rfl
@[simp] theorem State.emit_tap : (s.emit o).tap = s.tap := rfl
@[simp] theorem State.emit_safe : (s.emit o).safe = s.safe := rfl
@[simp] theorem State.emit_raised : (s.emit o).raised = s.raised := rfl
@[simp] theorem State.emit_refusedNow : (s.emit o).refusedNow = s.refusedNow := rfl
@[simp] theorem State.emit_fresh : (s.emit o).fresh = s.fresh := rfl
@[simp] theorem State.emit_rd (g : Fld) (j : Nat) : (s.emit o).rd g j = s.rd g j := rfl
@[simp] theorem State.emit_flag (g : Fld) (j : Nat) : (s.emit o).flag g j = s.flag g j := rfl
@[simp] theorem State.emit_rdMirror (g : Fld) (j : Nat) : (s.emit o).rdMirror g j = s.rdMirror g j := rfl
@[simp] theorem State.emit_rdByte (y : Nat) : (s.emit o).rdByte y = s.rdByte y := rfl
@[simp] theorem State.emit_port (m : Nat) : (s.emit o).port m = s.port m := rfl
@[simp] theorem State.emit_fl (m : Nat) : (s.emit o).fl m = s.fl m := rfl
@[simp] theorem State.emit_lane (m : Nat) : (s.emit o).lane m = s.lane m := rfl
@[simp] theorem State.emit_heat (m : Nat) : (s.emit o).heat m = s.heat m := rfl
@[simp] theorem State.emit_view (m : Nat) : (s.emit o).view m = s.view m := rfl
@[simp] theorem State.emit_spare (m : Nat) : (s.emit o).spare m = s.spare m := rfl
@[simp] theorem State.emit_cal (m : Nat) : (s.emit o).cal m = s.cal m := rfl
@[simp] theorem State.emit_drip : (s.emit o).drip = s.drip := rfl
end

/-! What `raise` leaves as it was -/

section
variable (s : State) (a b c : Nat)
@[simp] theorem State.raise_pending : (s.raise a b c).pending = s.pending := rfl
@[simp] theorem State.raise_regs : (s.raise a b c).regs = s.regs := rfl
@[simp] theorem State.raise_mirr : (s.raise a b c).mirr = s.mirr := rfl
@[simp] theorem State.raise_mem : (s.raise a b c).mem = s.mem := rfl
@[simp] theorem State.raise_ports : (s.raise a b c).ports = s.ports := rfl
@[simp] theorem State.raise_flits : (s.raise a b c).flits = s.flits := rfl
@[simp] theorem State.raise_lanes : (s.raise a b c).lanes = s.lanes := rfl
@[simp] theorem State.raise_csb : (s.raise a b c).csb = s.csb := rfl
@[simp] theorem State.raise_spares : (s.raise a b c).spares = s.spares := rfl
@[simp] theorem State.raise_heats : (s.raise a b c).heats = s.heats := rfl
@[simp] theorem State.raise_zclr : (s.raise a b c).zclr = s.zclr := rfl
@[simp] theorem State.raise_lenWritten : (s.raise a b c).lenWritten = s.lenWritten := rfl
@[simp] theorem State.raise_shared : (s.raise a b c).shared = s.shared := rfl
@[simp] theorem State.raise_held : (s.raise a b c).held = s.held := rfl
@[simp] theorem State.raise_visits : (s.raise a b c).visits = s.visits := rfl
@[simp] theorem State.raise_clk : (s.raise a b c).clk = s.clk := rfl
@[simp] theorem State.raise_cals : (s.raise a b c).cals = s.cals := rfl
@[simp] theorem State.raise_porDrips : (s.raise a b c).porDrips = s.porDrips := rfl
@[simp] theorem State.raise_secDefer : (s.raise a b c).secDefer = s.secDefer := rfl
@[simp] theorem State.raise_views : (s.raise a b c).views = s.views := rfl
@[simp] theorem State.raise_bus : (s.raise a b c).bus = s.bus := rfl
@[simp] theorem State.raise_spdm : (s.raise a b c).spdm = s.spdm := rfl
@[simp] theorem State.raise_boot : (s.raise a b c).boot = s.boot := rfl
@[simp] theorem State.raise_snaps : (s.raise a b c).snaps = s.snaps := rfl
@[simp] theorem State.raise_staged : (s.raise a b c).staged = s.staged := rfl
@[simp] theorem State.raise_compat : (s.raise a b c).compat = s.compat := rfl
@[simp] theorem State.raise_misAge : (s.raise a b c).misAge = s.misAge := rfl
@[simp] theorem State.raise_winStart : (s.raise a b c).winStart = s.winStart := rfl
@[simp] theorem State.raise_causes : (s.raise a b c).causes = s.causes := rfl
@[simp] theorem State.raise_eccPend : (s.raise a b c).eccPend = s.eccPend := rfl
@[simp] theorem State.raise_scrubPos : (s.raise a b c).scrubPos = s.scrubPos := rfl
@[simp] theorem State.raise_aliveRun : (s.raise a b c).aliveRun = s.aliveRun := rfl
@[simp] theorem State.raise_lwTicks : (s.raise a b c).lwTicks = s.lwTicks := rfl
@[simp] theorem State.raise_alive : (s.raise a b c).alive = s.alive := rfl
@[simp] theorem State.raise_holds : (s.raise a b c).holds = s.holds := rfl
@[simp] theorem State.raise_tap : (s.raise a b c).tap = s.tap := rfl
@[simp] theorem State.raise_safe : (s.raise a b c).safe = s.safe := rfl
@[simp] theorem State.raise_refusedNow : (s.raise a b c).refusedNow = s.refusedNow := rfl
@[simp] theorem State.raise_out : (s.raise a b c).out = s.out := rfl
@[simp] theorem State.raise_fresh : (s.raise a b c).fresh = s.fresh := rfl
@[simp] theorem State.raise_rd (g : Fld) (j : Nat) : (s.raise a b c).rd g j = s.rd g j := rfl
@[simp] theorem State.raise_flag (g : Fld) (j : Nat) : (s.raise a b c).flag g j = s.flag g j := rfl
@[simp] theorem State.raise_rdMirror (g : Fld) (j : Nat) : (s.raise a b c).rdMirror g j = s.rdMirror g j := rfl
@[simp] theorem State.raise_rdByte (y : Nat) : (s.raise a b c).rdByte y = s.rdByte y := rfl
@[simp] theorem State.raise_port (m : Nat) : (s.raise a b c).port m = s.port m := rfl
@[simp] theorem State.raise_fl (m : Nat) : (s.raise a b c).fl m = s.fl m := rfl
@[simp] theorem State.raise_lane (m : Nat) : (s.raise a b c).lane m = s.lane m := rfl
@[simp] theorem State.raise_heat (m : Nat) : (s.raise a b c).heat m = s.heat m := rfl
@[simp] theorem State.raise_view (m : Nat) : (s.raise a b c).view m = s.view m := rfl
@[simp] theorem State.raise_spare (m : Nat) : (s.raise a b c).spare m = s.spare m := rfl
@[simp] theorem State.raise_cal (m : Nat) : (s.raise a b c).cal m = s.cal m := rfl
@[simp] theorem State.raise_drip : (s.raise a b c).drip = s.drip := rfl
end

/-! What `wr` leaves as it was -/

section
variable (s : State) (f : Fld) (i v : Nat)
@[simp] theorem State.wr_pending : (s.wr f i v).pending = s.pending := rfl
@[simp] theorem State.wr_mirr : (s.wr f i v).mirr = s.mirr := rfl
@[simp] theorem State.wr_mem : (s.wr f i v).mem = s.mem := rfl
@[simp] theorem State.wr_ports : (s.wr f i v).ports = s.ports := rfl
@[simp] theorem State.wr_flits : (s.wr f i v).flits = s.flits := rfl
@[simp] theorem State.wr_lanes : (s.wr f i v).lanes = s.lanes := rfl
@[simp] theorem State.wr_csb : (s.wr f i v).csb = s.csb := rfl
@[simp] theorem State.wr_spares : (s.wr f i v).spares = s.spares := rfl
@[simp] theorem State.wr_heats : (s.wr f i v).heats = s.heats := rfl
@[simp] theorem State.wr_zclr : (s.wr f i v).zclr = s.zclr := rfl
@[simp] theorem State.wr_lenWritten : (s.wr f i v).lenWritten = s.lenWritten := rfl
@[simp] theorem State.wr_shared : (s.wr f i v).shared = s.shared := rfl
@[simp] theorem State.wr_held : (s.wr f i v).held = s.held := rfl
@[simp] theorem State.wr_visits : (s.wr f i v).visits = s.visits := rfl
@[simp] theorem State.wr_clk : (s.wr f i v).clk = s.clk := rfl
@[simp] theorem State.wr_cals : (s.wr f i v).cals = s.cals := rfl
@[simp] theorem State.wr_porDrips : (s.wr f i v).porDrips = s.porDrips := rfl
@[simp] theorem State.wr_secDefer : (s.wr f i v).secDefer = s.secDefer := rfl
@[simp] theorem State.wr_views : (s.wr f i v).views = s.views := rfl
@[simp] theorem State.wr_bus : (s.wr f i v).bus = s.bus := rfl
@[simp] theorem State.wr_spdm : (s.wr f i v).spdm = s.spdm := rfl
@[simp] theorem State.wr_boot : (s.wr f i v).boot = s.boot := rfl
@[simp] theorem State.wr_snaps : (s.wr f i v).snaps = s.snaps := rfl
@[simp] theorem State.wr_staged : (s.wr f i v).staged = s.staged := rfl
@[simp] theorem State.wr_compat : (s.wr f i v).compat = s.compat := rfl
@[simp] theorem State.wr_misAge : (s.wr f i v).misAge = s.misAge := rfl
@[simp] theorem State.wr_winStart : (s.wr f i v).winStart = s.winStart := rfl
@[simp] theorem State.wr_causes : (s.wr f i v).causes = s.causes := rfl
@[simp] theorem State.wr_eccPend : (s.wr f i v).eccPend = s.eccPend := rfl
@[simp] theorem State.wr_scrubPos : (s.wr f i v).scrubPos = s.scrubPos := rfl
@[simp] theorem State.wr_aliveRun : (s.wr f i v).aliveRun = s.aliveRun := rfl
@[simp] theorem State.wr_lwTicks : (s.wr f i v).lwTicks = s.lwTicks := rfl
@[simp] theorem State.wr_alive : (s.wr f i v).alive = s.alive := rfl
@[simp] theorem State.wr_holds : (s.wr f i v).holds = s.holds := rfl
@[simp] theorem State.wr_tap : (s.wr f i v).tap = s.tap := rfl
@[simp] theorem State.wr_safe : (s.wr f i v).safe = s.safe := rfl
@[simp] theorem State.wr_raised : (s.wr f i v).raised = s.raised := rfl
@[simp] theorem State.wr_refusedNow : (s.wr f i v).refusedNow = s.refusedNow := rfl
@[simp] theorem State.wr_out : (s.wr f i v).out = s.out := rfl
@[simp] theorem State.wr_fresh : (s.wr f i v).fresh = s.fresh := rfl
@[simp] theorem State.wr_rdMirror (g : Fld) (j : Nat) : (s.wr f i v).rdMirror g j = s.rdMirror g j := rfl
@[simp] theorem State.wr_rdByte (y : Nat) : (s.wr f i v).rdByte y = s.rdByte y := rfl
@[simp] theorem State.wr_port (m : Nat) : (s.wr f i v).port m = s.port m := rfl
@[simp] theorem State.wr_fl (m : Nat) : (s.wr f i v).fl m = s.fl m := rfl
@[simp] theorem State.wr_lane (m : Nat) : (s.wr f i v).lane m = s.lane m := rfl
@[simp] theorem State.wr_heat (m : Nat) : (s.wr f i v).heat m = s.heat m := rfl
@[simp] theorem State.wr_view (m : Nat) : (s.wr f i v).view m = s.view m := rfl
@[simp] theorem State.wr_spare (m : Nat) : (s.wr f i v).spare m = s.spare m := rfl
@[simp] theorem State.wr_cal (m : Nat) : (s.wr f i v).cal m = s.cal m := rfl
end

/-! What `wrMirror` leaves as it was -/

section
variable (s : State) (f : Fld) (i v : Nat)
@[simp] theorem State.wrMirror_pending : (s.wrMirror f i v).pending = s.pending := rfl
@[simp] theorem State.wrMirror_regs : (s.wrMirror f i v).regs = s.regs := rfl
@[simp] theorem State.wrMirror_mem : (s.wrMirror f i v).mem = s.mem := rfl
@[simp] theorem State.wrMirror_ports : (s.wrMirror f i v).ports = s.ports := rfl
@[simp] theorem State.wrMirror_flits : (s.wrMirror f i v).flits = s.flits := rfl
@[simp] theorem State.wrMirror_lanes : (s.wrMirror f i v).lanes = s.lanes := rfl
@[simp] theorem State.wrMirror_csb : (s.wrMirror f i v).csb = s.csb := rfl
@[simp] theorem State.wrMirror_spares : (s.wrMirror f i v).spares = s.spares := rfl
@[simp] theorem State.wrMirror_heats : (s.wrMirror f i v).heats = s.heats := rfl
@[simp] theorem State.wrMirror_zclr : (s.wrMirror f i v).zclr = s.zclr := rfl
@[simp] theorem State.wrMirror_lenWritten : (s.wrMirror f i v).lenWritten = s.lenWritten := rfl
@[simp] theorem State.wrMirror_shared : (s.wrMirror f i v).shared = s.shared := rfl
@[simp] theorem State.wrMirror_held : (s.wrMirror f i v).held = s.held := rfl
@[simp] theorem State.wrMirror_visits : (s.wrMirror f i v).visits = s.visits := rfl
@[simp] theorem State.wrMirror_clk : (s.wrMirror f i v).clk = s.clk := rfl
@[simp] theorem State.wrMirror_cals : (s.wrMirror f i v).cals = s.cals := rfl
@[simp] theorem State.wrMirror_porDrips : (s.wrMirror f i v).porDrips = s.porDrips := rfl
@[simp] theorem State.wrMirror_secDefer : (s.wrMirror f i v).secDefer = s.secDefer := rfl
@[simp] theorem State.wrMirror_views : (s.wrMirror f i v).views = s.views := rfl
@[simp] theorem State.wrMirror_bus : (s.wrMirror f i v).bus = s.bus := rfl
@[simp] theorem State.wrMirror_spdm : (s.wrMirror f i v).spdm = s.spdm := rfl
@[simp] theorem State.wrMirror_boot : (s.wrMirror f i v).boot = s.boot := rfl
@[simp] theorem State.wrMirror_snaps : (s.wrMirror f i v).snaps = s.snaps := rfl
@[simp] theorem State.wrMirror_staged : (s.wrMirror f i v).staged = s.staged := rfl
@[simp] theorem State.wrMirror_compat : (s.wrMirror f i v).compat = s.compat := rfl
@[simp] theorem State.wrMirror_misAge : (s.wrMirror f i v).misAge = s.misAge := rfl
@[simp] theorem State.wrMirror_winStart : (s.wrMirror f i v).winStart = s.winStart := rfl
@[simp] theorem State.wrMirror_causes : (s.wrMirror f i v).causes = s.causes := rfl
@[simp] theorem State.wrMirror_eccPend : (s.wrMirror f i v).eccPend = s.eccPend := rfl
@[simp] theorem State.wrMirror_scrubPos : (s.wrMirror f i v).scrubPos = s.scrubPos := rfl
@[simp] theorem State.wrMirror_aliveRun : (s.wrMirror f i v).aliveRun = s.aliveRun := rfl
@[simp] theorem State.wrMirror_lwTicks : (s.wrMirror f i v).lwTicks = s.lwTicks := rfl
@[simp] theorem State.wrMirror_alive : (s.wrMirror f i v).alive = s.alive := rfl
@[simp] theorem State.wrMirror_holds : (s.wrMirror f i v).holds = s.holds := rfl
@[simp] theorem State.wrMirror_tap : (s.wrMirror f i v).tap = s.tap := rfl
@[simp] theorem State.wrMirror_safe : (s.wrMirror f i v).safe = s.safe := rfl
@[simp] theorem State.wrMirror_raised : (s.wrMirror f i v).raised = s.raised := rfl
@[simp] theorem State.wrMirror_refusedNow : (s.wrMirror f i v).refusedNow = s.refusedNow := rfl
@[simp] theorem State.wrMirror_out : (s.wrMirror f i v).out = s.out := rfl
@[simp] theorem State.wrMirror_fresh : (s.wrMirror f i v).fresh = s.fresh := rfl
@[simp] theorem State.wrMirror_rd (g : Fld) (j : Nat) : (s.wrMirror f i v).rd g j = s.rd g j := rfl
@[simp] theorem State.wrMirror_flag (g : Fld) (j : Nat) : (s.wrMirror f i v).flag g j = s.flag g j := rfl
@[simp] theorem State.wrMirror_rdByte (y : Nat) : (s.wrMirror f i v).rdByte y = s.rdByte y := rfl
@[simp] theorem State.wrMirror_port (m : Nat) : (s.wrMirror f i v).port m = s.port m := rfl
@[simp] theorem State.wrMirror_fl (m : Nat) : (s.wrMirror f i v).fl m = s.fl m := rfl
@[simp] theorem State.wrMirror_lane (m : Nat) : (s.wrMirror f i v).lane m = s.lane m := rfl
@[simp] theorem State.wrMirror_heat (m : Nat) : (s.wrMirror f i v).heat m = s.heat m := rfl
@[simp] theorem State.wrMirror_view (m : Nat) : (s.wrMirror f i v).view m = s.view m := rfl
@[simp] theorem State.wrMirror_spare (m : Nat) : (s.wrMirror f i v).spare m = s.spare m := rfl
@[simp] theorem State.wrMirror_cal (m : Nat) : (s.wrMirror f i v).cal m = s.cal m := rfl
@[simp] theorem State.wrMirror_drip : (s.wrMirror f i v).drip = s.drip := rfl
end

/-! What `wrByte` leaves as it was -/

section
variable (s : State) (a : Nat) (b : Byte)
@[simp] theorem State.wrByte_pending : (s.wrByte a b).pending = s.pending := rfl
@[simp] theorem State.wrByte_regs : (s.wrByte a b).regs = s.regs := rfl
@[simp] theorem State.wrByte_mirr : (s.wrByte a b).mirr = s.mirr := rfl
@[simp] theorem State.wrByte_ports : (s.wrByte a b).ports = s.ports := rfl
@[simp] theorem State.wrByte_flits : (s.wrByte a b).flits = s.flits := rfl
@[simp] theorem State.wrByte_lanes : (s.wrByte a b).lanes = s.lanes := rfl
@[simp] theorem State.wrByte_csb : (s.wrByte a b).csb = s.csb := rfl
@[simp] theorem State.wrByte_spares : (s.wrByte a b).spares = s.spares := rfl
@[simp] theorem State.wrByte_heats : (s.wrByte a b).heats = s.heats := rfl
@[simp] theorem State.wrByte_zclr : (s.wrByte a b).zclr = s.zclr := rfl
@[simp] theorem State.wrByte_lenWritten : (s.wrByte a b).lenWritten = s.lenWritten := rfl
@[simp] theorem State.wrByte_shared : (s.wrByte a b).shared = s.shared := rfl
@[simp] theorem State.wrByte_held : (s.wrByte a b).held = s.held := rfl
@[simp] theorem State.wrByte_visits : (s.wrByte a b).visits = s.visits := rfl
@[simp] theorem State.wrByte_clk : (s.wrByte a b).clk = s.clk := rfl
@[simp] theorem State.wrByte_cals : (s.wrByte a b).cals = s.cals := rfl
@[simp] theorem State.wrByte_porDrips : (s.wrByte a b).porDrips = s.porDrips := rfl
@[simp] theorem State.wrByte_secDefer : (s.wrByte a b).secDefer = s.secDefer := rfl
@[simp] theorem State.wrByte_views : (s.wrByte a b).views = s.views := rfl
@[simp] theorem State.wrByte_bus : (s.wrByte a b).bus = s.bus := rfl
@[simp] theorem State.wrByte_spdm : (s.wrByte a b).spdm = s.spdm := rfl
@[simp] theorem State.wrByte_boot : (s.wrByte a b).boot = s.boot := rfl
@[simp] theorem State.wrByte_snaps : (s.wrByte a b).snaps = s.snaps := rfl
@[simp] theorem State.wrByte_staged : (s.wrByte a b).staged = s.staged := rfl
@[simp] theorem State.wrByte_compat : (s.wrByte a b).compat = s.compat := rfl
@[simp] theorem State.wrByte_misAge : (s.wrByte a b).misAge = s.misAge := rfl
@[simp] theorem State.wrByte_winStart : (s.wrByte a b).winStart = s.winStart := rfl
@[simp] theorem State.wrByte_causes : (s.wrByte a b).causes = s.causes := rfl
@[simp] theorem State.wrByte_eccPend : (s.wrByte a b).eccPend = s.eccPend := rfl
@[simp] theorem State.wrByte_scrubPos : (s.wrByte a b).scrubPos = s.scrubPos := rfl
@[simp] theorem State.wrByte_aliveRun : (s.wrByte a b).aliveRun = s.aliveRun := rfl
@[simp] theorem State.wrByte_lwTicks : (s.wrByte a b).lwTicks = s.lwTicks := rfl
@[simp] theorem State.wrByte_alive : (s.wrByte a b).alive = s.alive := rfl
@[simp] theorem State.wrByte_holds : (s.wrByte a b).holds = s.holds := rfl
@[simp] theorem State.wrByte_tap : (s.wrByte a b).tap = s.tap := rfl
@[simp] theorem State.wrByte_safe : (s.wrByte a b).safe = s.safe := rfl
@[simp] theorem State.wrByte_raised : (s.wrByte a b).raised = s.raised := rfl
@[simp] theorem State.wrByte_refusedNow : (s.wrByte a b).refusedNow = s.refusedNow := rfl
@[simp] theorem State.wrByte_out : (s.wrByte a b).out = s.out := rfl
@[simp] theorem State.wrByte_fresh : (s.wrByte a b).fresh = s.fresh := rfl
@[simp] theorem State.wrByte_rd (g : Fld) (j : Nat) : (s.wrByte a b).rd g j = s.rd g j := rfl
@[simp] theorem State.wrByte_flag (g : Fld) (j : Nat) : (s.wrByte a b).flag g j = s.flag g j := rfl
@[simp] theorem State.wrByte_rdMirror (g : Fld) (j : Nat) : (s.wrByte a b).rdMirror g j = s.rdMirror g j := rfl
@[simp] theorem State.wrByte_port (m : Nat) : (s.wrByte a b).port m = s.port m := rfl
@[simp] theorem State.wrByte_fl (m : Nat) : (s.wrByte a b).fl m = s.fl m := rfl
@[simp] theorem State.wrByte_lane (m : Nat) : (s.wrByte a b).lane m = s.lane m := rfl
@[simp] theorem State.wrByte_heat (m : Nat) : (s.wrByte a b).heat m = s.heat m := rfl
@[simp] theorem State.wrByte_view (m : Nat) : (s.wrByte a b).view m = s.view m := rfl
@[simp] theorem State.wrByte_spare (m : Nat) : (s.wrByte a b).spare m = s.spare m := rfl
@[simp] theorem State.wrByte_cal (m : Nat) : (s.wrByte a b).cal m = s.cal m := rfl
@[simp] theorem State.wrByte_drip : (s.wrByte a b).drip = s.drip := rfl
end

/-! What `setPort` leaves as it was -/

section
variable (s : State) (n : Nat) (p : PortSt)
@[simp] theorem State.setPort_pending : (s.setPort n p).pending = s.pending := rfl
@[simp] theorem State.setPort_regs : (s.setPort n p).regs = s.regs := rfl
@[simp] theorem State.setPort_mirr : (s.setPort n p).mirr = s.mirr := rfl
@[simp] theorem State.setPort_mem : (s.setPort n p).mem = s.mem := rfl
@[simp] theorem State.setPort_flits : (s.setPort n p).flits = s.flits := rfl
@[simp] theorem State.setPort_lanes : (s.setPort n p).lanes = s.lanes := rfl
@[simp] theorem State.setPort_csb : (s.setPort n p).csb = s.csb := rfl
@[simp] theorem State.setPort_spares : (s.setPort n p).spares = s.spares := rfl
@[simp] theorem State.setPort_heats : (s.setPort n p).heats = s.heats := rfl
@[simp] theorem State.setPort_zclr : (s.setPort n p).zclr = s.zclr := rfl
@[simp] theorem State.setPort_lenWritten : (s.setPort n p).lenWritten = s.lenWritten := rfl
@[simp] theorem State.setPort_shared : (s.setPort n p).shared = s.shared := rfl
@[simp] theorem State.setPort_held : (s.setPort n p).held = s.held := rfl
@[simp] theorem State.setPort_visits : (s.setPort n p).visits = s.visits := rfl
@[simp] theorem State.setPort_clk : (s.setPort n p).clk = s.clk := rfl
@[simp] theorem State.setPort_cals : (s.setPort n p).cals = s.cals := rfl
@[simp] theorem State.setPort_porDrips : (s.setPort n p).porDrips = s.porDrips := rfl
@[simp] theorem State.setPort_secDefer : (s.setPort n p).secDefer = s.secDefer := rfl
@[simp] theorem State.setPort_views : (s.setPort n p).views = s.views := rfl
@[simp] theorem State.setPort_bus : (s.setPort n p).bus = s.bus := rfl
@[simp] theorem State.setPort_spdm : (s.setPort n p).spdm = s.spdm := rfl
@[simp] theorem State.setPort_boot : (s.setPort n p).boot = s.boot := rfl
@[simp] theorem State.setPort_snaps : (s.setPort n p).snaps = s.snaps := rfl
@[simp] theorem State.setPort_staged : (s.setPort n p).staged = s.staged := rfl
@[simp] theorem State.setPort_compat : (s.setPort n p).compat = s.compat := rfl
@[simp] theorem State.setPort_misAge : (s.setPort n p).misAge = s.misAge := rfl
@[simp] theorem State.setPort_winStart : (s.setPort n p).winStart = s.winStart := rfl
@[simp] theorem State.setPort_causes : (s.setPort n p).causes = s.causes := rfl
@[simp] theorem State.setPort_eccPend : (s.setPort n p).eccPend = s.eccPend := rfl
@[simp] theorem State.setPort_scrubPos : (s.setPort n p).scrubPos = s.scrubPos := rfl
@[simp] theorem State.setPort_aliveRun : (s.setPort n p).aliveRun = s.aliveRun := rfl
@[simp] theorem State.setPort_lwTicks : (s.setPort n p).lwTicks = s.lwTicks := rfl
@[simp] theorem State.setPort_alive : (s.setPort n p).alive = s.alive := rfl
@[simp] theorem State.setPort_holds : (s.setPort n p).holds = s.holds := rfl
@[simp] theorem State.setPort_tap : (s.setPort n p).tap = s.tap := rfl
@[simp] theorem State.setPort_safe : (s.setPort n p).safe = s.safe := rfl
@[simp] theorem State.setPort_raised : (s.setPort n p).raised = s.raised := rfl
@[simp] theorem State.setPort_refusedNow : (s.setPort n p).refusedNow = s.refusedNow := rfl
@[simp] theorem State.setPort_out : (s.setPort n p).out = s.out := rfl
@[simp] theorem State.setPort_fresh : (s.setPort n p).fresh = s.fresh := rfl
@[simp] theorem State.setPort_rd (g : Fld) (j : Nat) : (s.setPort n p).rd g j = s.rd g j := rfl
@[simp] theorem State.setPort_flag (g : Fld) (j : Nat) : (s.setPort n p).flag g j = s.flag g j := rfl
@[simp] theorem State.setPort_rdMirror (g : Fld) (j : Nat) : (s.setPort n p).rdMirror g j = s.rdMirror g j := rfl
@[simp] theorem State.setPort_rdByte (y : Nat) : (s.setPort n p).rdByte y = s.rdByte y := rfl
@[simp] theorem State.setPort_fl (m : Nat) : (s.setPort n p).fl m = s.fl m := rfl
@[simp] theorem State.setPort_lane (m : Nat) : (s.setPort n p).lane m = s.lane m := rfl
@[simp] theorem State.setPort_heat (m : Nat) : (s.setPort n p).heat m = s.heat m := rfl
@[simp] theorem State.setPort_view (m : Nat) : (s.setPort n p).view m = s.view m := rfl
@[simp] theorem State.setPort_spare (m : Nat) : (s.setPort n p).spare m = s.spare m := rfl
@[simp] theorem State.setPort_cal (m : Nat) : (s.setPort n p).cal m = s.cal m := rfl
@[simp] theorem State.setPort_drip : (s.setPort n p).drip = s.drip := rfl
end

/-! What `setFl` leaves as it was -/

section
variable (s : State) (n : Nat) (p : FlitSt)
@[simp] theorem State.setFl_pending : (s.setFl n p).pending = s.pending := rfl
@[simp] theorem State.setFl_regs : (s.setFl n p).regs = s.regs := rfl
@[simp] theorem State.setFl_mirr : (s.setFl n p).mirr = s.mirr := rfl
@[simp] theorem State.setFl_mem : (s.setFl n p).mem = s.mem := rfl
@[simp] theorem State.setFl_ports : (s.setFl n p).ports = s.ports := rfl
@[simp] theorem State.setFl_lanes : (s.setFl n p).lanes = s.lanes := rfl
@[simp] theorem State.setFl_csb : (s.setFl n p).csb = s.csb := rfl
@[simp] theorem State.setFl_spares : (s.setFl n p).spares = s.spares := rfl
@[simp] theorem State.setFl_heats : (s.setFl n p).heats = s.heats := rfl
@[simp] theorem State.setFl_zclr : (s.setFl n p).zclr = s.zclr := rfl
@[simp] theorem State.setFl_lenWritten : (s.setFl n p).lenWritten = s.lenWritten := rfl
@[simp] theorem State.setFl_shared : (s.setFl n p).shared = s.shared := rfl
@[simp] theorem State.setFl_held : (s.setFl n p).held = s.held := rfl
@[simp] theorem State.setFl_visits : (s.setFl n p).visits = s.visits := rfl
@[simp] theorem State.setFl_clk : (s.setFl n p).clk = s.clk := rfl
@[simp] theorem State.setFl_cals : (s.setFl n p).cals = s.cals := rfl
@[simp] theorem State.setFl_porDrips : (s.setFl n p).porDrips = s.porDrips := rfl
@[simp] theorem State.setFl_secDefer : (s.setFl n p).secDefer = s.secDefer := rfl
@[simp] theorem State.setFl_views : (s.setFl n p).views = s.views := rfl
@[simp] theorem State.setFl_bus : (s.setFl n p).bus = s.bus := rfl
@[simp] theorem State.setFl_spdm : (s.setFl n p).spdm = s.spdm := rfl
@[simp] theorem State.setFl_boot : (s.setFl n p).boot = s.boot := rfl
@[simp] theorem State.setFl_snaps : (s.setFl n p).snaps = s.snaps := rfl
@[simp] theorem State.setFl_staged : (s.setFl n p).staged = s.staged := rfl
@[simp] theorem State.setFl_compat : (s.setFl n p).compat = s.compat := rfl
@[simp] theorem State.setFl_misAge : (s.setFl n p).misAge = s.misAge := rfl
@[simp] theorem State.setFl_winStart : (s.setFl n p).winStart = s.winStart := rfl
@[simp] theorem State.setFl_causes : (s.setFl n p).causes = s.causes := rfl
@[simp] theorem State.setFl_eccPend : (s.setFl n p).eccPend = s.eccPend := rfl
@[simp] theorem State.setFl_scrubPos : (s.setFl n p).scrubPos = s.scrubPos := rfl
@[simp] theorem State.setFl_aliveRun : (s.setFl n p).aliveRun = s.aliveRun := rfl
@[simp] theorem State.setFl_lwTicks : (s.setFl n p).lwTicks = s.lwTicks := rfl
@[simp] theorem State.setFl_alive : (s.setFl n p).alive = s.alive := rfl
@[simp] theorem State.setFl_holds : (s.setFl n p).holds = s.holds := rfl
@[simp] theorem State.setFl_tap : (s.setFl n p).tap = s.tap := rfl
@[simp] theorem State.setFl_safe : (s.setFl n p).safe = s.safe := rfl
@[simp] theorem State.setFl_raised : (s.setFl n p).raised = s.raised := rfl
@[simp] theorem State.setFl_refusedNow : (s.setFl n p).refusedNow = s.refusedNow := rfl
@[simp] theorem State.setFl_out : (s.setFl n p).out = s.out := rfl
@[simp] theorem State.setFl_fresh : (s.setFl n p).fresh = s.fresh := rfl
@[simp] theorem State.setFl_rd (g : Fld) (j : Nat) : (s.setFl n p).rd g j = s.rd g j := rfl
@[simp] theorem State.setFl_flag (g : Fld) (j : Nat) : (s.setFl n p).flag g j = s.flag g j := rfl
@[simp] theorem State.setFl_rdMirror (g : Fld) (j : Nat) : (s.setFl n p).rdMirror g j = s.rdMirror g j := rfl
@[simp] theorem State.setFl_rdByte (y : Nat) : (s.setFl n p).rdByte y = s.rdByte y := rfl
@[simp] theorem State.setFl_port (m : Nat) : (s.setFl n p).port m = s.port m := rfl
@[simp] theorem State.setFl_lane (m : Nat) : (s.setFl n p).lane m = s.lane m := rfl
@[simp] theorem State.setFl_heat (m : Nat) : (s.setFl n p).heat m = s.heat m := rfl
@[simp] theorem State.setFl_view (m : Nat) : (s.setFl n p).view m = s.view m := rfl
@[simp] theorem State.setFl_spare (m : Nat) : (s.setFl n p).spare m = s.spare m := rfl
@[simp] theorem State.setFl_cal (m : Nat) : (s.setFl n p).cal m = s.cal m := rfl
@[simp] theorem State.setFl_drip : (s.setFl n p).drip = s.drip := rfl
end

/-! What `setLane` leaves as it was -/

section
variable (s : State) (n : Nat) (p : LaneSt)
@[simp] theorem State.setLane_pending : (s.setLane n p).pending = s.pending := rfl
@[simp] theorem State.setLane_regs : (s.setLane n p).regs = s.regs := rfl
@[simp] theorem State.setLane_mirr : (s.setLane n p).mirr = s.mirr := rfl
@[simp] theorem State.setLane_mem : (s.setLane n p).mem = s.mem := rfl
@[simp] theorem State.setLane_ports : (s.setLane n p).ports = s.ports := rfl
@[simp] theorem State.setLane_flits : (s.setLane n p).flits = s.flits := rfl
@[simp] theorem State.setLane_csb : (s.setLane n p).csb = s.csb := rfl
@[simp] theorem State.setLane_spares : (s.setLane n p).spares = s.spares := rfl
@[simp] theorem State.setLane_heats : (s.setLane n p).heats = s.heats := rfl
@[simp] theorem State.setLane_zclr : (s.setLane n p).zclr = s.zclr := rfl
@[simp] theorem State.setLane_lenWritten : (s.setLane n p).lenWritten = s.lenWritten := rfl
@[simp] theorem State.setLane_shared : (s.setLane n p).shared = s.shared := rfl
@[simp] theorem State.setLane_held : (s.setLane n p).held = s.held := rfl
@[simp] theorem State.setLane_visits : (s.setLane n p).visits = s.visits := rfl
@[simp] theorem State.setLane_clk : (s.setLane n p).clk = s.clk := rfl
@[simp] theorem State.setLane_cals : (s.setLane n p).cals = s.cals := rfl
@[simp] theorem State.setLane_porDrips : (s.setLane n p).porDrips = s.porDrips := rfl
@[simp] theorem State.setLane_secDefer : (s.setLane n p).secDefer = s.secDefer := rfl
@[simp] theorem State.setLane_views : (s.setLane n p).views = s.views := rfl
@[simp] theorem State.setLane_bus : (s.setLane n p).bus = s.bus := rfl
@[simp] theorem State.setLane_spdm : (s.setLane n p).spdm = s.spdm := rfl
@[simp] theorem State.setLane_boot : (s.setLane n p).boot = s.boot := rfl
@[simp] theorem State.setLane_snaps : (s.setLane n p).snaps = s.snaps := rfl
@[simp] theorem State.setLane_staged : (s.setLane n p).staged = s.staged := rfl
@[simp] theorem State.setLane_compat : (s.setLane n p).compat = s.compat := rfl
@[simp] theorem State.setLane_misAge : (s.setLane n p).misAge = s.misAge := rfl
@[simp] theorem State.setLane_winStart : (s.setLane n p).winStart = s.winStart := rfl
@[simp] theorem State.setLane_causes : (s.setLane n p).causes = s.causes := rfl
@[simp] theorem State.setLane_eccPend : (s.setLane n p).eccPend = s.eccPend := rfl
@[simp] theorem State.setLane_scrubPos : (s.setLane n p).scrubPos = s.scrubPos := rfl
@[simp] theorem State.setLane_aliveRun : (s.setLane n p).aliveRun = s.aliveRun := rfl
@[simp] theorem State.setLane_lwTicks : (s.setLane n p).lwTicks = s.lwTicks := rfl
@[simp] theorem State.setLane_alive : (s.setLane n p).alive = s.alive := rfl
@[simp] theorem State.setLane_holds : (s.setLane n p).holds = s.holds := rfl
@[simp] theorem State.setLane_tap : (s.setLane n p).tap = s.tap := rfl
@[simp] theorem State.setLane_safe : (s.setLane n p).safe = s.safe := rfl
@[simp] theorem State.setLane_raised : (s.setLane n p).raised = s.raised := rfl
@[simp] theorem State.setLane_refusedNow : (s.setLane n p).refusedNow = s.refusedNow := rfl
@[simp] theorem State.setLane_out : (s.setLane n p).out = s.out := rfl
@[simp] theorem State.setLane_fresh : (s.setLane n p).fresh = s.fresh := rfl
@[simp] theorem State.setLane_rd (g : Fld) (j : Nat) : (s.setLane n p).rd g j = s.rd g j := rfl
@[simp] theorem State.setLane_flag (g : Fld) (j : Nat) : (s.setLane n p).flag g j = s.flag g j := rfl
@[simp] theorem State.setLane_rdMirror (g : Fld) (j : Nat) : (s.setLane n p).rdMirror g j = s.rdMirror g j := rfl
@[simp] theorem State.setLane_rdByte (y : Nat) : (s.setLane n p).rdByte y = s.rdByte y := rfl
@[simp] theorem State.setLane_port (m : Nat) : (s.setLane n p).port m = s.port m := rfl
@[simp] theorem State.setLane_fl (m : Nat) : (s.setLane n p).fl m = s.fl m := rfl
@[simp] theorem State.setLane_heat (m : Nat) : (s.setLane n p).heat m = s.heat m := rfl
@[simp] theorem State.setLane_view (m : Nat) : (s.setLane n p).view m = s.view m := rfl
@[simp] theorem State.setLane_spare (m : Nat) : (s.setLane n p).spare m = s.spare m := rfl
@[simp] theorem State.setLane_cal (m : Nat) : (s.setLane n p).cal m = s.cal m := rfl
@[simp] theorem State.setLane_drip : (s.setLane n p).drip = s.drip := rfl
end

/-! What `setHeat` leaves as it was -/

section
variable (s : State) (n : Nat) (p : HeatP)
@[simp] theorem State.setHeat_pending : (s.setHeat n p).pending = s.pending := rfl
@[simp] theorem State.setHeat_regs : (s.setHeat n p).regs = s.regs := rfl
@[simp] theorem State.setHeat_mirr : (s.setHeat n p).mirr = s.mirr := rfl
@[simp] theorem State.setHeat_mem : (s.setHeat n p).mem = s.mem := rfl
@[simp] theorem State.setHeat_ports : (s.setHeat n p).ports = s.ports := rfl
@[simp] theorem State.setHeat_flits : (s.setHeat n p).flits = s.flits := rfl
@[simp] theorem State.setHeat_lanes : (s.setHeat n p).lanes = s.lanes := rfl
@[simp] theorem State.setHeat_csb : (s.setHeat n p).csb = s.csb := rfl
@[simp] theorem State.setHeat_spares : (s.setHeat n p).spares = s.spares := rfl
@[simp] theorem State.setHeat_zclr : (s.setHeat n p).zclr = s.zclr := rfl
@[simp] theorem State.setHeat_lenWritten : (s.setHeat n p).lenWritten = s.lenWritten := rfl
@[simp] theorem State.setHeat_shared : (s.setHeat n p).shared = s.shared := rfl
@[simp] theorem State.setHeat_held : (s.setHeat n p).held = s.held := rfl
@[simp] theorem State.setHeat_visits : (s.setHeat n p).visits = s.visits := rfl
@[simp] theorem State.setHeat_clk : (s.setHeat n p).clk = s.clk := rfl
@[simp] theorem State.setHeat_cals : (s.setHeat n p).cals = s.cals := rfl
@[simp] theorem State.setHeat_porDrips : (s.setHeat n p).porDrips = s.porDrips := rfl
@[simp] theorem State.setHeat_secDefer : (s.setHeat n p).secDefer = s.secDefer := rfl
@[simp] theorem State.setHeat_views : (s.setHeat n p).views = s.views := rfl
@[simp] theorem State.setHeat_bus : (s.setHeat n p).bus = s.bus := rfl
@[simp] theorem State.setHeat_spdm : (s.setHeat n p).spdm = s.spdm := rfl
@[simp] theorem State.setHeat_boot : (s.setHeat n p).boot = s.boot := rfl
@[simp] theorem State.setHeat_snaps : (s.setHeat n p).snaps = s.snaps := rfl
@[simp] theorem State.setHeat_staged : (s.setHeat n p).staged = s.staged := rfl
@[simp] theorem State.setHeat_compat : (s.setHeat n p).compat = s.compat := rfl
@[simp] theorem State.setHeat_misAge : (s.setHeat n p).misAge = s.misAge := rfl
@[simp] theorem State.setHeat_winStart : (s.setHeat n p).winStart = s.winStart := rfl
@[simp] theorem State.setHeat_causes : (s.setHeat n p).causes = s.causes := rfl
@[simp] theorem State.setHeat_eccPend : (s.setHeat n p).eccPend = s.eccPend := rfl
@[simp] theorem State.setHeat_scrubPos : (s.setHeat n p).scrubPos = s.scrubPos := rfl
@[simp] theorem State.setHeat_aliveRun : (s.setHeat n p).aliveRun = s.aliveRun := rfl
@[simp] theorem State.setHeat_lwTicks : (s.setHeat n p).lwTicks = s.lwTicks := rfl
@[simp] theorem State.setHeat_alive : (s.setHeat n p).alive = s.alive := rfl
@[simp] theorem State.setHeat_holds : (s.setHeat n p).holds = s.holds := rfl
@[simp] theorem State.setHeat_tap : (s.setHeat n p).tap = s.tap := rfl
@[simp] theorem State.setHeat_safe : (s.setHeat n p).safe = s.safe := rfl
@[simp] theorem State.setHeat_raised : (s.setHeat n p).raised = s.raised := rfl
@[simp] theorem State.setHeat_refusedNow : (s.setHeat n p).refusedNow = s.refusedNow := rfl
@[simp] theorem State.setHeat_out : (s.setHeat n p).out = s.out := rfl
@[simp] theorem State.setHeat_fresh : (s.setHeat n p).fresh = s.fresh := rfl
@[simp] theorem State.setHeat_rd (g : Fld) (j : Nat) : (s.setHeat n p).rd g j = s.rd g j := rfl
@[simp] theorem State.setHeat_flag (g : Fld) (j : Nat) : (s.setHeat n p).flag g j = s.flag g j := rfl
@[simp] theorem State.setHeat_rdMirror (g : Fld) (j : Nat) : (s.setHeat n p).rdMirror g j = s.rdMirror g j := rfl
@[simp] theorem State.setHeat_rdByte (y : Nat) : (s.setHeat n p).rdByte y = s.rdByte y := rfl
@[simp] theorem State.setHeat_port (m : Nat) : (s.setHeat n p).port m = s.port m := rfl
@[simp] theorem State.setHeat_fl (m : Nat) : (s.setHeat n p).fl m = s.fl m := rfl
@[simp] theorem State.setHeat_lane (m : Nat) : (s.setHeat n p).lane m = s.lane m := rfl
@[simp] theorem State.setHeat_view (m : Nat) : (s.setHeat n p).view m = s.view m := rfl
@[simp] theorem State.setHeat_spare (m : Nat) : (s.setHeat n p).spare m = s.spare m := rfl
@[simp] theorem State.setHeat_cal (m : Nat) : (s.setHeat n p).cal m = s.cal m := rfl
@[simp] theorem State.setHeat_drip : (s.setHeat n p).drip = s.drip := rfl
end

/-! What `setView` leaves as it was -/

section
variable (s : State) (n : Nat) (p : ViewSt)
@[simp] theorem State.setView_pending : (s.setView n p).pending = s.pending := rfl
@[simp] theorem State.setView_regs : (s.setView n p).regs = s.regs := rfl
@[simp] theorem State.setView_mirr : (s.setView n p).mirr = s.mirr := rfl
@[simp] theorem State.setView_mem : (s.setView n p).mem = s.mem := rfl
@[simp] theorem State.setView_ports : (s.setView n p).ports = s.ports := rfl
@[simp] theorem State.setView_flits : (s.setView n p).flits = s.flits := rfl
@[simp] theorem State.setView_lanes : (s.setView n p).lanes = s.lanes := rfl
@[simp] theorem State.setView_csb : (s.setView n p).csb = s.csb := rfl
@[simp] theorem State.setView_spares : (s.setView n p).spares = s.spares := rfl
@[simp] theorem State.setView_heats : (s.setView n p).heats = s.heats := rfl
@[simp] theorem State.setView_zclr : (s.setView n p).zclr = s.zclr := rfl
@[simp] theorem State.setView_lenWritten : (s.setView n p).lenWritten = s.lenWritten := rfl
@[simp] theorem State.setView_shared : (s.setView n p).shared = s.shared := rfl
@[simp] theorem State.setView_held : (s.setView n p).held = s.held := rfl
@[simp] theorem State.setView_visits : (s.setView n p).visits = s.visits := rfl
@[simp] theorem State.setView_clk : (s.setView n p).clk = s.clk := rfl
@[simp] theorem State.setView_cals : (s.setView n p).cals = s.cals := rfl
@[simp] theorem State.setView_porDrips : (s.setView n p).porDrips = s.porDrips := rfl
@[simp] theorem State.setView_secDefer : (s.setView n p).secDefer = s.secDefer := rfl
@[simp] theorem State.setView_bus : (s.setView n p).bus = s.bus := rfl
@[simp] theorem State.setView_spdm : (s.setView n p).spdm = s.spdm := rfl
@[simp] theorem State.setView_boot : (s.setView n p).boot = s.boot := rfl
@[simp] theorem State.setView_snaps : (s.setView n p).snaps = s.snaps := rfl
@[simp] theorem State.setView_staged : (s.setView n p).staged = s.staged := rfl
@[simp] theorem State.setView_compat : (s.setView n p).compat = s.compat := rfl
@[simp] theorem State.setView_misAge : (s.setView n p).misAge = s.misAge := rfl
@[simp] theorem State.setView_winStart : (s.setView n p).winStart = s.winStart := rfl
@[simp] theorem State.setView_causes : (s.setView n p).causes = s.causes := rfl
@[simp] theorem State.setView_eccPend : (s.setView n p).eccPend = s.eccPend := rfl
@[simp] theorem State.setView_scrubPos : (s.setView n p).scrubPos = s.scrubPos := rfl
@[simp] theorem State.setView_aliveRun : (s.setView n p).aliveRun = s.aliveRun := rfl
@[simp] theorem State.setView_lwTicks : (s.setView n p).lwTicks = s.lwTicks := rfl
@[simp] theorem State.setView_alive : (s.setView n p).alive = s.alive := rfl
@[simp] theorem State.setView_holds : (s.setView n p).holds = s.holds := rfl
@[simp] theorem State.setView_tap : (s.setView n p).tap = s.tap := rfl
@[simp] theorem State.setView_safe : (s.setView n p).safe = s.safe := rfl
@[simp] theorem State.setView_raised : (s.setView n p).raised = s.raised := rfl
@[simp] theorem State.setView_refusedNow : (s.setView n p).refusedNow = s.refusedNow := rfl
@[simp] theorem State.setView_out : (s.setView n p).out = s.out := rfl
@[simp] theorem State.setView_fresh : (s.setView n p).fresh = s.fresh := rfl
@[simp] theorem State.setView_rd (g : Fld) (j : Nat) : (s.setView n p).rd g j = s.rd g j := rfl
@[simp] theorem State.setView_flag (g : Fld) (j : Nat) : (s.setView n p).flag g j = s.flag g j := rfl
@[simp] theorem State.setView_rdMirror (g : Fld) (j : Nat) : (s.setView n p).rdMirror g j = s.rdMirror g j := rfl
@[simp] theorem State.setView_rdByte (y : Nat) : (s.setView n p).rdByte y = s.rdByte y := rfl
@[simp] theorem State.setView_port (m : Nat) : (s.setView n p).port m = s.port m := rfl
@[simp] theorem State.setView_fl (m : Nat) : (s.setView n p).fl m = s.fl m := rfl
@[simp] theorem State.setView_lane (m : Nat) : (s.setView n p).lane m = s.lane m := rfl
@[simp] theorem State.setView_heat (m : Nat) : (s.setView n p).heat m = s.heat m := rfl
@[simp] theorem State.setView_spare (m : Nat) : (s.setView n p).spare m = s.spare m := rfl
@[simp] theorem State.setView_cal (m : Nat) : (s.setView n p).cal m = s.cal m := rfl
@[simp] theorem State.setView_drip : (s.setView n p).drip = s.drip := rfl
end

/-! What `setSpare` leaves as it was -/

section
variable (s : State) (n : Nat) (p : SpareSt)
@[simp] theorem State.setSpare_pending : (s.setSpare n p).pending = s.pending := rfl
@[simp] theorem State.setSpare_regs : (s.setSpare n p).regs = s.regs := rfl
@[simp] theorem State.setSpare_mirr : (s.setSpare n p).mirr = s.mirr := rfl
@[simp] theorem State.setSpare_mem : (s.setSpare n p).mem = s.mem := rfl
@[simp] theorem State.setSpare_ports : (s.setSpare n p).ports = s.ports := rfl
@[simp] theorem State.setSpare_flits : (s.setSpare n p).flits = s.flits := rfl
@[simp] theorem State.setSpare_lanes : (s.setSpare n p).lanes = s.lanes := rfl
@[simp] theorem State.setSpare_csb : (s.setSpare n p).csb = s.csb := rfl
@[simp] theorem State.setSpare_heats : (s.setSpare n p).heats = s.heats := rfl
@[simp] theorem State.setSpare_zclr : (s.setSpare n p).zclr = s.zclr := rfl
@[simp] theorem State.setSpare_lenWritten : (s.setSpare n p).lenWritten = s.lenWritten := rfl
@[simp] theorem State.setSpare_shared : (s.setSpare n p).shared = s.shared := rfl
@[simp] theorem State.setSpare_held : (s.setSpare n p).held = s.held := rfl
@[simp] theorem State.setSpare_visits : (s.setSpare n p).visits = s.visits := rfl
@[simp] theorem State.setSpare_clk : (s.setSpare n p).clk = s.clk := rfl
@[simp] theorem State.setSpare_cals : (s.setSpare n p).cals = s.cals := rfl
@[simp] theorem State.setSpare_porDrips : (s.setSpare n p).porDrips = s.porDrips := rfl
@[simp] theorem State.setSpare_secDefer : (s.setSpare n p).secDefer = s.secDefer := rfl
@[simp] theorem State.setSpare_views : (s.setSpare n p).views = s.views := rfl
@[simp] theorem State.setSpare_bus : (s.setSpare n p).bus = s.bus := rfl
@[simp] theorem State.setSpare_spdm : (s.setSpare n p).spdm = s.spdm := rfl
@[simp] theorem State.setSpare_boot : (s.setSpare n p).boot = s.boot := rfl
@[simp] theorem State.setSpare_snaps : (s.setSpare n p).snaps = s.snaps := rfl
@[simp] theorem State.setSpare_staged : (s.setSpare n p).staged = s.staged := rfl
@[simp] theorem State.setSpare_compat : (s.setSpare n p).compat = s.compat := rfl
@[simp] theorem State.setSpare_misAge : (s.setSpare n p).misAge = s.misAge := rfl
@[simp] theorem State.setSpare_winStart : (s.setSpare n p).winStart = s.winStart := rfl
@[simp] theorem State.setSpare_causes : (s.setSpare n p).causes = s.causes := rfl
@[simp] theorem State.setSpare_eccPend : (s.setSpare n p).eccPend = s.eccPend := rfl
@[simp] theorem State.setSpare_scrubPos : (s.setSpare n p).scrubPos = s.scrubPos := rfl
@[simp] theorem State.setSpare_aliveRun : (s.setSpare n p).aliveRun = s.aliveRun := rfl
@[simp] theorem State.setSpare_lwTicks : (s.setSpare n p).lwTicks = s.lwTicks := rfl
@[simp] theorem State.setSpare_alive : (s.setSpare n p).alive = s.alive := rfl
@[simp] theorem State.setSpare_holds : (s.setSpare n p).holds = s.holds := rfl
@[simp] theorem State.setSpare_tap : (s.setSpare n p).tap = s.tap := rfl
@[simp] theorem State.setSpare_safe : (s.setSpare n p).safe = s.safe := rfl
@[simp] theorem State.setSpare_raised : (s.setSpare n p).raised = s.raised := rfl
@[simp] theorem State.setSpare_refusedNow : (s.setSpare n p).refusedNow = s.refusedNow := rfl
@[simp] theorem State.setSpare_out : (s.setSpare n p).out = s.out := rfl
@[simp] theorem State.setSpare_fresh : (s.setSpare n p).fresh = s.fresh := rfl
@[simp] theorem State.setSpare_rd (g : Fld) (j : Nat) : (s.setSpare n p).rd g j = s.rd g j := rfl
@[simp] theorem State.setSpare_flag (g : Fld) (j : Nat) : (s.setSpare n p).flag g j = s.flag g j := rfl
@[simp] theorem State.setSpare_rdMirror (g : Fld) (j : Nat) : (s.setSpare n p).rdMirror g j = s.rdMirror g j := rfl
@[simp] theorem State.setSpare_rdByte (y : Nat) : (s.setSpare n p).rdByte y = s.rdByte y := rfl
@[simp] theorem State.setSpare_port (m : Nat) : (s.setSpare n p).port m = s.port m := rfl
@[simp] theorem State.setSpare_fl (m : Nat) : (s.setSpare n p).fl m = s.fl m := rfl
@[simp] theorem State.setSpare_lane (m : Nat) : (s.setSpare n p).lane m = s.lane m := rfl
@[simp] theorem State.setSpare_heat (m : Nat) : (s.setSpare n p).heat m = s.heat m := rfl
@[simp] theorem State.setSpare_view (m : Nat) : (s.setSpare n p).view m = s.view m := rfl
@[simp] theorem State.setSpare_cal (m : Nat) : (s.setSpare n p).cal m = s.cal m := rfl
@[simp] theorem State.setSpare_drip : (s.setSpare n p).drip = s.drip := rfl
end

/-! What `modCal` leaves as it was -/

section
variable (s : State) (n : Nat) (f : CalSt → CalSt)
@[simp] theorem State.modCal_pending : (s.modCal n f).pending = s.pending := rfl
@[simp] theorem State.modCal_regs : (s.modCal n f).regs = s.regs := rfl
@[simp] theorem State.modCal_mirr : (s.modCal n f).mirr = s.mirr := rfl
@[simp] theorem State.modCal_mem : (s.modCal n f).mem = s.mem := rfl
@[simp] theorem State.modCal_ports : (s.modCal n f).ports = s.ports := rfl
@[simp] theorem State.modCal_flits : (s.modCal n f).flits = s.flits := rfl
@[simp] theorem State.modCal_lanes : (s.modCal n f).lanes = s.lanes := rfl
@[simp] theorem State.modCal_csb : (s.modCal n f).csb = s.csb := rfl
@[simp] theorem State.modCal_spares : (s.modCal n f).spares = s.spares := rfl
@[simp] theorem State.modCal_heats : (s.modCal n f).heats = s.heats := rfl
@[simp] theorem State.modCal_zclr : (s.modCal n f).zclr = s.zclr := rfl
@[simp] theorem State.modCal_lenWritten : (s.modCal n f).lenWritten = s.lenWritten := rfl
@[simp] theorem State.modCal_shared : (s.modCal n f).shared = s.shared := rfl
@[simp] theorem State.modCal_held : (s.modCal n f).held = s.held := rfl
@[simp] theorem State.modCal_visits : (s.modCal n f).visits = s.visits := rfl
@[simp] theorem State.modCal_clk : (s.modCal n f).clk = s.clk := rfl
@[simp] theorem State.modCal_porDrips : (s.modCal n f).porDrips = s.porDrips := rfl
@[simp] theorem State.modCal_secDefer : (s.modCal n f).secDefer = s.secDefer := rfl
@[simp] theorem State.modCal_views : (s.modCal n f).views = s.views := rfl
@[simp] theorem State.modCal_bus : (s.modCal n f).bus = s.bus := rfl
@[simp] theorem State.modCal_spdm : (s.modCal n f).spdm = s.spdm := rfl
@[simp] theorem State.modCal_boot : (s.modCal n f).boot = s.boot := rfl
@[simp] theorem State.modCal_snaps : (s.modCal n f).snaps = s.snaps := rfl
@[simp] theorem State.modCal_staged : (s.modCal n f).staged = s.staged := rfl
@[simp] theorem State.modCal_compat : (s.modCal n f).compat = s.compat := rfl
@[simp] theorem State.modCal_misAge : (s.modCal n f).misAge = s.misAge := rfl
@[simp] theorem State.modCal_winStart : (s.modCal n f).winStart = s.winStart := rfl
@[simp] theorem State.modCal_causes : (s.modCal n f).causes = s.causes := rfl
@[simp] theorem State.modCal_eccPend : (s.modCal n f).eccPend = s.eccPend := rfl
@[simp] theorem State.modCal_scrubPos : (s.modCal n f).scrubPos = s.scrubPos := rfl
@[simp] theorem State.modCal_aliveRun : (s.modCal n f).aliveRun = s.aliveRun := rfl
@[simp] theorem State.modCal_lwTicks : (s.modCal n f).lwTicks = s.lwTicks := rfl
@[simp] theorem State.modCal_alive : (s.modCal n f).alive = s.alive := rfl
@[simp] theorem State.modCal_holds : (s.modCal n f).holds = s.holds := rfl
@[simp] theorem State.modCal_tap : (s.modCal n f).tap = s.tap := rfl
@[simp] theorem State.modCal_safe : (s.modCal n f).safe = s.safe := rfl
@[simp] theorem State.modCal_raised : (s.modCal n f).raised = s.raised := rfl
@[simp] theorem State.modCal_refusedNow : (s.modCal n f).refusedNow = s.refusedNow := rfl
@[simp] theorem State.modCal_out : (s.modCal n f).out = s.out := rfl
@[simp] theorem State.modCal_fresh : (s.modCal n f).fresh = s.fresh := rfl
@[simp] theorem State.modCal_rd (g : Fld) (j : Nat) : (s.modCal n f).rd g j = s.rd g j := rfl
@[simp] theorem State.modCal_flag (g : Fld) (j : Nat) : (s.modCal n f).flag g j = s.flag g j := rfl
@[simp] theorem State.modCal_rdMirror (g : Fld) (j : Nat) : (s.modCal n f).rdMirror g j = s.rdMirror g j := rfl
@[simp] theorem State.modCal_rdByte (y : Nat) : (s.modCal n f).rdByte y = s.rdByte y := rfl
@[simp] theorem State.modCal_port (m : Nat) : (s.modCal n f).port m = s.port m := rfl
@[simp] theorem State.modCal_fl (m : Nat) : (s.modCal n f).fl m = s.fl m := rfl
@[simp] theorem State.modCal_lane (m : Nat) : (s.modCal n f).lane m = s.lane m := rfl
@[simp] theorem State.modCal_heat (m : Nat) : (s.modCal n f).heat m = s.heat m := rfl
@[simp] theorem State.modCal_view (m : Nat) : (s.modCal n f).view m = s.view m := rfl
@[simp] theorem State.modCal_spare (m : Nat) : (s.modCal n f).spare m = s.spare m := rfl
@[simp] theorem State.modCal_drip : (s.modCal n f).drip = s.drip := rfl
end

/-! What `modClk` leaves as it was -/

section
variable (s : State) (f : ClkSt → ClkSt)
@[simp] theorem State.modClk_pending : (s.modClk f).pending = s.pending := rfl
@[simp] theorem State.modClk_regs : (s.modClk f).regs = s.regs := rfl
@[simp] theorem State.modClk_mirr : (s.modClk f).mirr = s.mirr := rfl
@[simp] theorem State.modClk_mem : (s.modClk f).mem = s.mem := rfl
@[simp] theorem State.modClk_ports : (s.modClk f).ports = s.ports := rfl
@[simp] theorem State.modClk_flits : (s.modClk f).flits = s.flits := rfl
@[simp] theorem State.modClk_lanes : (s.modClk f).lanes = s.lanes := rfl
@[simp] theorem State.modClk_csb : (s.modClk f).csb = s.csb := rfl
@[simp] theorem State.modClk_spares : (s.modClk f).spares = s.spares := rfl
@[simp] theorem State.modClk_heats : (s.modClk f).heats = s.heats := rfl
@[simp] theorem State.modClk_zclr : (s.modClk f).zclr = s.zclr := rfl
@[simp] theorem State.modClk_lenWritten : (s.modClk f).lenWritten = s.lenWritten := rfl
@[simp] theorem State.modClk_shared : (s.modClk f).shared = s.shared := rfl
@[simp] theorem State.modClk_held : (s.modClk f).held = s.held := rfl
@[simp] theorem State.modClk_visits : (s.modClk f).visits = s.visits := rfl
@[simp] theorem State.modClk_cals : (s.modClk f).cals = s.cals := rfl
@[simp] theorem State.modClk_porDrips : (s.modClk f).porDrips = s.porDrips := rfl
@[simp] theorem State.modClk_secDefer : (s.modClk f).secDefer = s.secDefer := rfl
@[simp] theorem State.modClk_views : (s.modClk f).views = s.views := rfl
@[simp] theorem State.modClk_bus : (s.modClk f).bus = s.bus := rfl
@[simp] theorem State.modClk_spdm : (s.modClk f).spdm = s.spdm := rfl
@[simp] theorem State.modClk_boot : (s.modClk f).boot = s.boot := rfl
@[simp] theorem State.modClk_snaps : (s.modClk f).snaps = s.snaps := rfl
@[simp] theorem State.modClk_staged : (s.modClk f).staged = s.staged := rfl
@[simp] theorem State.modClk_compat : (s.modClk f).compat = s.compat := rfl
@[simp] theorem State.modClk_misAge : (s.modClk f).misAge = s.misAge := rfl
@[simp] theorem State.modClk_winStart : (s.modClk f).winStart = s.winStart := rfl
@[simp] theorem State.modClk_causes : (s.modClk f).causes = s.causes := rfl
@[simp] theorem State.modClk_eccPend : (s.modClk f).eccPend = s.eccPend := rfl
@[simp] theorem State.modClk_scrubPos : (s.modClk f).scrubPos = s.scrubPos := rfl
@[simp] theorem State.modClk_aliveRun : (s.modClk f).aliveRun = s.aliveRun := rfl
@[simp] theorem State.modClk_lwTicks : (s.modClk f).lwTicks = s.lwTicks := rfl
@[simp] theorem State.modClk_alive : (s.modClk f).alive = s.alive := rfl
@[simp] theorem State.modClk_holds : (s.modClk f).holds = s.holds := rfl
@[simp] theorem State.modClk_tap : (s.modClk f).tap = s.tap := rfl
@[simp] theorem State.modClk_safe : (s.modClk f).safe = s.safe := rfl
@[simp] theorem State.modClk_raised : (s.modClk f).raised = s.raised := rfl
@[simp] theorem State.modClk_refusedNow : (s.modClk f).refusedNow = s.refusedNow := rfl
@[simp] theorem State.modClk_out : (s.modClk f).out = s.out := rfl
@[simp] theorem State.modClk_fresh : (s.modClk f).fresh = s.fresh := rfl
@[simp] theorem State.modClk_rd (g : Fld) (j : Nat) : (s.modClk f).rd g j = s.rd g j := rfl
@[simp] theorem State.modClk_flag (g : Fld) (j : Nat) : (s.modClk f).flag g j = s.flag g j := rfl
@[simp] theorem State.modClk_rdMirror (g : Fld) (j : Nat) : (s.modClk f).rdMirror g j = s.rdMirror g j := rfl
@[simp] theorem State.modClk_rdByte (y : Nat) : (s.modClk f).rdByte y = s.rdByte y := rfl
@[simp] theorem State.modClk_port (m : Nat) : (s.modClk f).port m = s.port m := rfl
@[simp] theorem State.modClk_fl (m : Nat) : (s.modClk f).fl m = s.fl m := rfl
@[simp] theorem State.modClk_lane (m : Nat) : (s.modClk f).lane m = s.lane m := rfl
@[simp] theorem State.modClk_heat (m : Nat) : (s.modClk f).heat m = s.heat m := rfl
@[simp] theorem State.modClk_view (m : Nat) : (s.modClk f).view m = s.view m := rfl
@[simp] theorem State.modClk_spare (m : Nat) : (s.modClk f).spare m = s.spare m := rfl
@[simp] theorem State.modClk_cal (m : Nat) : (s.modClk f).cal m = s.cal m := rfl
@[simp] theorem State.modClk_drip : (s.modClk f).drip = s.drip := rfl
end

/-! What `modBoot` leaves as it was -/

section
variable (s : State) (f : BootSt → BootSt)
@[simp] theorem State.modBoot_pending : (s.modBoot f).pending = s.pending := rfl
@[simp] theorem State.modBoot_regs : (s.modBoot f).regs = s.regs := rfl
@[simp] theorem State.modBoot_mirr : (s.modBoot f).mirr = s.mirr := rfl
@[simp] theorem State.modBoot_mem : (s.modBoot f).mem = s.mem := rfl
@[simp] theorem State.modBoot_ports : (s.modBoot f).ports = s.ports := rfl
@[simp] theorem State.modBoot_flits : (s.modBoot f).flits = s.flits := rfl
@[simp] theorem State.modBoot_lanes : (s.modBoot f).lanes = s.lanes := rfl
@[simp] theorem State.modBoot_csb : (s.modBoot f).csb = s.csb := rfl
@[simp] theorem State.modBoot_spares : (s.modBoot f).spares = s.spares := rfl
@[simp] theorem State.modBoot_heats : (s.modBoot f).heats = s.heats := rfl
@[simp] theorem State.modBoot_zclr : (s.modBoot f).zclr = s.zclr := rfl
@[simp] theorem State.modBoot_lenWritten : (s.modBoot f).lenWritten = s.lenWritten := rfl
@[simp] theorem State.modBoot_shared : (s.modBoot f).shared = s.shared := rfl
@[simp] theorem State.modBoot_held : (s.modBoot f).held = s.held := rfl
@[simp] theorem State.modBoot_visits : (s.modBoot f).visits = s.visits := rfl
@[simp] theorem State.modBoot_clk : (s.modBoot f).clk = s.clk := rfl
@[simp] theorem State.modBoot_cals : (s.modBoot f).cals = s.cals := rfl
@[simp] theorem State.modBoot_porDrips : (s.modBoot f).porDrips = s.porDrips := rfl
@[simp] theorem State.modBoot_secDefer : (s.modBoot f).secDefer = s.secDefer := rfl
@[simp] theorem State.modBoot_views : (s.modBoot f).views = s.views := rfl
@[simp] theorem State.modBoot_bus : (s.modBoot f).bus = s.bus := rfl
@[simp] theorem State.modBoot_spdm : (s.modBoot f).spdm = s.spdm := rfl
@[simp] theorem State.modBoot_snaps : (s.modBoot f).snaps = s.snaps := rfl
@[simp] theorem State.modBoot_staged : (s.modBoot f).staged = s.staged := rfl
@[simp] theorem State.modBoot_compat : (s.modBoot f).compat = s.compat := rfl
@[simp] theorem State.modBoot_misAge : (s.modBoot f).misAge = s.misAge := rfl
@[simp] theorem State.modBoot_winStart : (s.modBoot f).winStart = s.winStart := rfl
@[simp] theorem State.modBoot_causes : (s.modBoot f).causes = s.causes := rfl
@[simp] theorem State.modBoot_eccPend : (s.modBoot f).eccPend = s.eccPend := rfl
@[simp] theorem State.modBoot_scrubPos : (s.modBoot f).scrubPos = s.scrubPos := rfl
@[simp] theorem State.modBoot_aliveRun : (s.modBoot f).aliveRun = s.aliveRun := rfl
@[simp] theorem State.modBoot_lwTicks : (s.modBoot f).lwTicks = s.lwTicks := rfl
@[simp] theorem State.modBoot_alive : (s.modBoot f).alive = s.alive := rfl
@[simp] theorem State.modBoot_holds : (s.modBoot f).holds = s.holds := rfl
@[simp] theorem State.modBoot_tap : (s.modBoot f).tap = s.tap := rfl
@[simp] theorem State.modBoot_safe : (s.modBoot f).safe = s.safe := rfl
@[simp] theorem State.modBoot_raised : (s.modBoot f).raised = s.raised := rfl
@[simp] theorem State.modBoot_refusedNow : (s.modBoot f).refusedNow = s.refusedNow := rfl
@[simp] theorem State.modBoot_out : (s.modBoot f).out = s.out := rfl
@[simp] theorem State.modBoot_fresh : (s.modBoot f).fresh = s.fresh := rfl
@[simp] theorem State.modBoot_rd (g : Fld) (j : Nat) : (s.modBoot f).rd g j = s.rd g j := rfl
@[simp] theorem State.modBoot_flag (g : Fld) (j : Nat) : (s.modBoot f).flag g j = s.flag g j := rfl
@[simp] theorem State.modBoot_rdMirror (g : Fld) (j : Nat) : (s.modBoot f).rdMirror g j = s.rdMirror g j := rfl
@[simp] theorem State.modBoot_rdByte (y : Nat) : (s.modBoot f).rdByte y = s.rdByte y := rfl
@[simp] theorem State.modBoot_port (m : Nat) : (s.modBoot f).port m = s.port m := rfl
@[simp] theorem State.modBoot_fl (m : Nat) : (s.modBoot f).fl m = s.fl m := rfl
@[simp] theorem State.modBoot_lane (m : Nat) : (s.modBoot f).lane m = s.lane m := rfl
@[simp] theorem State.modBoot_heat (m : Nat) : (s.modBoot f).heat m = s.heat m := rfl
@[simp] theorem State.modBoot_view (m : Nat) : (s.modBoot f).view m = s.view m := rfl
@[simp] theorem State.modBoot_spare (m : Nat) : (s.modBoot f).spare m = s.spare m := rfl
@[simp] theorem State.modBoot_cal (m : Nat) : (s.modBoot f).cal m = s.cal m := rfl
@[simp] theorem State.modBoot_drip : (s.modBoot f).drip = s.drip := rfl
end

/-! What `putCsb` leaves as it was -/

section
variable (s : State) (x : CsbSt)
@[simp] theorem State.putCsb_pending : (s.putCsb x).pending = s.pending := rfl
@[simp] theorem State.putCsb_regs : (s.putCsb x).regs = s.regs := rfl
@[simp] theorem State.putCsb_mirr : (s.putCsb x).mirr = s.mirr := rfl
@[simp] theorem State.putCsb_mem : (s.putCsb x).mem = s.mem := rfl
@[simp] theorem State.putCsb_held : (s.putCsb x).held = s.held := rfl
@[simp] theorem State.putCsb_clk : (s.putCsb x).clk = s.clk := rfl
@[simp] theorem State.putCsb_bus : (s.putCsb x).bus = s.bus := rfl
@[simp] theorem State.putCsb_boot : (s.putCsb x).boot = s.boot := rfl
@[simp] theorem State.putCsb_winStart : (s.putCsb x).winStart = s.winStart := rfl
@[simp] theorem State.putCsb_causes : (s.putCsb x).causes = s.causes := rfl
@[simp] theorem State.putCsb_eccPend : (s.putCsb x).eccPend = s.eccPend := rfl
@[simp] theorem State.putCsb_scrubPos : (s.putCsb x).scrubPos = s.scrubPos := rfl
@[simp] theorem State.putCsb_holds : (s.putCsb x).holds = s.holds := rfl
@[simp] theorem State.putCsb_safe : (s.putCsb x).safe = s.safe := rfl
@[simp] theorem State.putCsb_raised : (s.putCsb x).raised = s.raised := rfl
@[simp] theorem State.putCsb_refusedNow : (s.putCsb x).refusedNow = s.refusedNow := rfl
@[simp] theorem State.putCsb_out : (s.putCsb x).out = s.out := rfl
@[simp] theorem State.putCsb_rd (g : Fld) (j : Nat) : (s.putCsb x).rd g j = s.rd g j := rfl
@[simp] theorem State.putCsb_flag (g : Fld) (j : Nat) : (s.putCsb x).flag g j = s.flag g j := rfl
@[simp] theorem State.putCsb_rdMirror (g : Fld) (j : Nat) : (s.putCsb x).rdMirror g j = s.rdMirror g j := rfl
@[simp] theorem State.putCsb_rdByte (y : Nat) : (s.putCsb x).rdByte y = s.rdByte y := rfl
@[simp] theorem State.putCsb_port (m : Nat) : (s.putCsb x).port m = s.port m := rfl
@[simp] theorem State.putCsb_fl (m : Nat) : (s.putCsb x).fl m = s.fl m := rfl
@[simp] theorem State.putCsb_lane (m : Nat) : (s.putCsb x).lane m = s.lane m := rfl
@[simp] theorem State.putCsb_heat (m : Nat) : (s.putCsb x).heat m = s.heat m := rfl
@[simp] theorem State.putCsb_view (m : Nat) : (s.putCsb x).view m = s.view m := rfl
@[simp] theorem State.putCsb_spare (m : Nat) : (s.putCsb x).spare m = s.spare m := rfl
@[simp] theorem State.putCsb_cal (m : Nat) : (s.putCsb x).cal m = s.cal m := rfl
@[simp] theorem State.putCsb_drip : (s.putCsb x).drip = s.drip := rfl
@[simp] theorem State.putCsb_csb : (s.putCsb x).csb = x := rfl
end

/-! What `putBus` leaves as it was -/

section
variable (s : State) (x : BusSt)
@[simp] theorem State.putBus_pending : (s.putBus x).pending = s.pending := rfl
@[simp] theorem State.putBus_regs : (s.putBus x).regs = s.regs := rfl
@[simp] theorem State.putBus_mirr : (s.putBus x).mirr = s.mirr := rfl
@[simp] theorem State.putBus_mem : (s.putBus x).mem = s.mem := rfl
@[simp] theorem State.putBus_csb : (s.putBus x).csb = s.csb := rfl
@[simp] theorem State.putBus_held : (s.putBus x).held = s.held := rfl
@[simp] theorem State.putBus_clk : (s.putBus x).clk = s.clk := rfl
@[simp] theorem State.putBus_boot : (s.putBus x).boot = s.boot := rfl
@[simp] theorem State.putBus_winStart : (s.putBus x).winStart = s.winStart := rfl
@[simp] theorem State.putBus_causes : (s.putBus x).causes = s.causes := rfl
@[simp] theorem State.putBus_eccPend : (s.putBus x).eccPend = s.eccPend := rfl
@[simp] theorem State.putBus_scrubPos : (s.putBus x).scrubPos = s.scrubPos := rfl
@[simp] theorem State.putBus_holds : (s.putBus x).holds = s.holds := rfl
@[simp] theorem State.putBus_safe : (s.putBus x).safe = s.safe := rfl
@[simp] theorem State.putBus_raised : (s.putBus x).raised = s.raised := rfl
@[simp] theorem State.putBus_refusedNow : (s.putBus x).refusedNow = s.refusedNow := rfl
@[simp] theorem State.putBus_out : (s.putBus x).out = s.out := rfl
@[simp] theorem State.putBus_rd (g : Fld) (j : Nat) : (s.putBus x).rd g j = s.rd g j := rfl
@[simp] theorem State.putBus_flag (g : Fld) (j : Nat) : (s.putBus x).flag g j = s.flag g j := rfl
@[simp] theorem State.putBus_rdMirror (g : Fld) (j : Nat) : (s.putBus x).rdMirror g j = s.rdMirror g j := rfl
@[simp] theorem State.putBus_rdByte (y : Nat) : (s.putBus x).rdByte y = s.rdByte y := rfl
@[simp] theorem State.putBus_port (m : Nat) : (s.putBus x).port m = s.port m := rfl
@[simp] theorem State.putBus_fl (m : Nat) : (s.putBus x).fl m = s.fl m := rfl
@[simp] theorem State.putBus_lane (m : Nat) : (s.putBus x).lane m = s.lane m := rfl
@[simp] theorem State.putBus_heat (m : Nat) : (s.putBus x).heat m = s.heat m := rfl
@[simp] theorem State.putBus_view (m : Nat) : (s.putBus x).view m = s.view m := rfl
@[simp] theorem State.putBus_spare (m : Nat) : (s.putBus x).spare m = s.spare m := rfl
@[simp] theorem State.putBus_cal (m : Nat) : (s.putBus x).cal m = s.cal m := rfl
@[simp] theorem State.putBus_drip : (s.putBus x).drip = s.drip := rfl
@[simp] theorem State.putBus_bus : (s.putBus x).bus = x := rfl
end

/-! What `putSpdm` leaves as it was -/

section
variable (s : State) (x : SpdmSt)
@[simp] theorem State.putSpdm_pending : (s.putSpdm x).pending = s.pending := rfl
@[simp] theorem State.putSpdm_regs : (s.putSpdm x).regs = s.regs := rfl
@[simp] theorem State.putSpdm_mirr : (s.putSpdm x).mirr = s.mirr := rfl
@[simp] theorem State.putSpdm_mem : (s.putSpdm x).mem = s.mem := rfl
@[simp] theorem State.putSpdm_csb : (s.putSpdm x).csb = s.csb := rfl
@[simp] theorem State.putSpdm_held : (s.putSpdm x).held = s.held := rfl
@[simp] theorem State.putSpdm_clk : (s.putSpdm x).clk = s.clk := rfl
@[simp] theorem State.putSpdm_bus : (s.putSpdm x).bus = s.bus := rfl
@[simp] theorem State.putSpdm_boot : (s.putSpdm x).boot = s.boot := rfl
@[simp] theorem State.putSpdm_winStart : (s.putSpdm x).winStart = s.winStart := rfl
@[simp] theorem State.putSpdm_causes : (s.putSpdm x).causes = s.causes := rfl
@[simp] theorem State.putSpdm_eccPend : (s.putSpdm x).eccPend = s.eccPend := rfl
@[simp] theorem State.putSpdm_scrubPos : (s.putSpdm x).scrubPos = s.scrubPos := rfl
@[simp] theorem State.putSpdm_holds : (s.putSpdm x).holds = s.holds := rfl
@[simp] theorem State.putSpdm_safe : (s.putSpdm x).safe = s.safe := rfl
@[simp] theorem State.putSpdm_raised : (s.putSpdm x).raised = s.raised := rfl
@[simp] theorem State.putSpdm_refusedNow : (s.putSpdm x).refusedNow = s.refusedNow := rfl
@[simp] theorem State.putSpdm_out : (s.putSpdm x).out = s.out := rfl
@[simp] theorem State.putSpdm_rd (g : Fld) (j : Nat) : (s.putSpdm x).rd g j = s.rd g j := rfl
@[simp] theorem State.putSpdm_flag (g : Fld) (j : Nat) : (s.putSpdm x).flag g j = s.flag g j := rfl
@[simp] theorem State.putSpdm_rdMirror (g : Fld) (j : Nat) : (s.putSpdm x).rdMirror g j = s.rdMirror g j := rfl
@[simp] theorem State.putSpdm_rdByte (y : Nat) : (s.putSpdm x).rdByte y = s.rdByte y := rfl
@[simp] theorem State.putSpdm_port (m : Nat) : (s.putSpdm x).port m = s.port m := rfl
@[simp] theorem State.putSpdm_fl (m : Nat) : (s.putSpdm x).fl m = s.fl m := rfl
@[simp] theorem State.putSpdm_lane (m : Nat) : (s.putSpdm x).lane m = s.lane m := rfl
@[simp] theorem State.putSpdm_heat (m : Nat) : (s.putSpdm x).heat m = s.heat m := rfl
@[simp] theorem State.putSpdm_view (m : Nat) : (s.putSpdm x).view m = s.view m := rfl
@[simp] theorem State.putSpdm_spare (m : Nat) : (s.putSpdm x).spare m = s.spare m := rfl
@[simp] theorem State.putSpdm_cal (m : Nat) : (s.putSpdm x).cal m = s.cal m := rfl
@[simp] theorem State.putSpdm_drip : (s.putSpdm x).drip = s.drip := rfl
@[simp] theorem State.putSpdm_spdm : (s.putSpdm x).spdm = x := rfl
end

/-! What `putHolds` leaves as it was -/

section
variable (s : State) (x : List (Nat × Nat))
@[simp] theorem State.putHolds_pending : (s.putHolds x).pending = s.pending := rfl
@[simp] theorem State.putHolds_regs : (s.putHolds x).regs = s.regs := rfl
@[simp] theorem State.putHolds_mirr : (s.putHolds x).mirr = s.mirr := rfl
@[simp] theorem State.putHolds_mem : (s.putHolds x).mem = s.mem := rfl
@[simp] theorem State.putHolds_csb : (s.putHolds x).csb = s.csb := rfl
@[simp] theorem State.putHolds_held : (s.putHolds x).held = s.held := rfl
@[simp] theorem State.putHolds_clk : (s.putHolds x).clk = s.clk := rfl
@[simp] theorem State.putHolds_bus : (s.putHolds x).bus = s.bus := rfl
@[simp] theorem State.putHolds_boot : (s.putHolds x).boot = s.boot := rfl
@[simp] theorem State.putHolds_winStart : (s.putHolds x).winStart = s.winStart := rfl
@[simp] theorem State.putHolds_causes : (s.putHolds x).causes = s.causes := rfl
@[simp] theorem State.putHolds_eccPend : (s.putHolds x).eccPend = s.eccPend := rfl
@[simp] theorem State.putHolds_scrubPos : (s.putHolds x).scrubPos = s.scrubPos := rfl
@[simp] theorem State.putHolds_safe : (s.putHolds x).safe = s.safe := rfl
@[simp] theorem State.putHolds_raised : (s.putHolds x).raised = s.raised := rfl
@[simp] theorem State.putHolds_refusedNow : (s.putHolds x).refusedNow = s.refusedNow := rfl
@[simp] theorem State.putHolds_out : (s.putHolds x).out = s.out := rfl
@[simp] theorem State.putHolds_rd (g : Fld) (j : Nat) : (s.putHolds x).rd g j = s.rd g j := rfl
@[simp] theorem State.putHolds_flag (g : Fld) (j : Nat) : (s.putHolds x).flag g j = s.flag g j := rfl
@[simp] theorem State.putHolds_rdMirror (g : Fld) (j : Nat) : (s.putHolds x).rdMirror g j = s.rdMirror g j := rfl
@[simp] theorem State.putHolds_rdByte (y : Nat) : (s.putHolds x).rdByte y = s.rdByte y := rfl
@[simp] theorem State.putHolds_port (m : Nat) : (s.putHolds x).port m = s.port m := rfl
@[simp] theorem State.putHolds_fl (m : Nat) : (s.putHolds x).fl m = s.fl m := rfl
@[simp] theorem State.putHolds_lane (m : Nat) : (s.putHolds x).lane m = s.lane m := rfl
@[simp] theorem State.putHolds_heat (m : Nat) : (s.putHolds x).heat m = s.heat m := rfl
@[simp] theorem State.putHolds_view (m : Nat) : (s.putHolds x).view m = s.view m := rfl
@[simp] theorem State.putHolds_spare (m : Nat) : (s.putHolds x).spare m = s.spare m := rfl
@[simp] theorem State.putHolds_cal (m : Nat) : (s.putHolds x).cal m = s.cal m := rfl
@[simp] theorem State.putHolds_drip : (s.putHolds x).drip = s.drip := rfl
@[simp] theorem State.putHolds_holds : (s.putHolds x).holds = x := rfl
end

/-! What `putCauses` leaves as it was -/

section
variable (s : State) (x : List (Nat × Nat))
@[simp] theorem State.putCauses_pending : (s.putCauses x).pending = s.pending := rfl
@[simp] theorem State.putCauses_regs : (s.putCauses x).regs = s.regs := rfl
@[simp] theorem State.putCauses_mirr : (s.putCauses x).mirr = s.mirr := rfl
@[simp] theorem State.putCauses_mem : (s.putCauses x).mem = s.mem := rfl
@[simp] theorem State.putCauses_csb : (s.putCauses x).csb = s.csb := rfl
@[simp] theorem State.putCauses_held : (s.putCauses x).held = s.held := rfl
@[simp] theorem State.putCauses_clk : (s.putCauses x).clk = s.clk := rfl
@[simp] theorem State.putCauses_bus : (s.putCauses x).bus = s.bus := rfl
@[simp] theorem State.putCauses_boot : (s.putCauses x).boot = s.boot := rfl
@[simp] theorem State.putCauses_winStart : (s.putCauses x).winStart = s.winStart := rfl
@[simp] theorem State.putCauses_eccPend : (s.putCauses x).eccPend = s.eccPend := rfl
@[simp] theorem State.putCauses_scrubPos : (s.putCauses x).scrubPos = s.scrubPos := rfl
@[simp] theorem State.putCauses_holds : (s.putCauses x).holds = s.holds := rfl
@[simp] theorem State.putCauses_safe : (s.putCauses x).safe = s.safe := rfl
@[simp] theorem State.putCauses_raised : (s.putCauses x).raised = s.raised := rfl
@[simp] theorem State.putCauses_refusedNow : (s.putCauses x).refusedNow = s.refusedNow := rfl
@[simp] theorem State.putCauses_out : (s.putCauses x).out = s.out := rfl
@[simp] theorem State.putCauses_rd (g : Fld) (j : Nat) : (s.putCauses x).rd g j = s.rd g j := rfl
@[simp] theorem State.putCauses_flag (g : Fld) (j : Nat) : (s.putCauses x).flag g j = s.flag g j := rfl
@[simp] theorem State.putCauses_rdMirror (g : Fld) (j : Nat) : (s.putCauses x).rdMirror g j = s.rdMirror g j := rfl
@[simp] theorem State.putCauses_rdByte (y : Nat) : (s.putCauses x).rdByte y = s.rdByte y := rfl
@[simp] theorem State.putCauses_port (m : Nat) : (s.putCauses x).port m = s.port m := rfl
@[simp] theorem State.putCauses_fl (m : Nat) : (s.putCauses x).fl m = s.fl m := rfl
@[simp] theorem State.putCauses_lane (m : Nat) : (s.putCauses x).lane m = s.lane m := rfl
@[simp] theorem State.putCauses_heat (m : Nat) : (s.putCauses x).heat m = s.heat m := rfl
@[simp] theorem State.putCauses_view (m : Nat) : (s.putCauses x).view m = s.view m := rfl
@[simp] theorem State.putCauses_spare (m : Nat) : (s.putCauses x).spare m = s.spare m := rfl
@[simp] theorem State.putCauses_cal (m : Nat) : (s.putCauses x).cal m = s.cal m := rfl
@[simp] theorem State.putCauses_drip : (s.putCauses x).drip = s.drip := rfl
@[simp] theorem State.putCauses_causes : (s.putCauses x).causes = x := rfl
end

/-! What `putWinStart` leaves as it was -/

section
variable (s : State) (x : SMap Nat)
@[simp] theorem State.putWinStart_pending : (s.putWinStart x).pending = s.pending := rfl
@[simp] theorem State.putWinStart_regs : (s.putWinStart x).regs = s.regs := rfl
@[simp] theorem State.putWinStart_mirr : (s.putWinStart x).mirr = s.mirr := rfl
@[simp] theorem State.putWinStart_mem : (s.putWinStart x).mem = s.mem := rfl
@[simp] theorem State.putWinStart_csb : (s.putWinStart x).csb = s.csb := rfl
@[simp] theorem State.putWinStart_held : (s.putWinStart x).held = s.held := rfl
@[simp] theorem State.putWinStart_clk : (s.putWinStart x).clk = s.clk := rfl
@[simp] theorem State.putWinStart_bus : (s.putWinStart x).bus = s.bus := rfl
@[simp] theorem State.putWinStart_boot : (s.putWinStart x).boot = s.boot := rfl
@[simp] theorem State.putWinStart_causes : (s.putWinStart x).causes = s.causes := rfl
@[simp] theorem State.putWinStart_eccPend : (s.putWinStart x).eccPend = s.eccPend := rfl
@[simp] theorem State.putWinStart_scrubPos : (s.putWinStart x).scrubPos = s.scrubPos := rfl
@[simp] theorem State.putWinStart_holds : (s.putWinStart x).holds = s.holds := rfl
@[simp] theorem State.putWinStart_safe : (s.putWinStart x).safe = s.safe := rfl
@[simp] theorem State.putWinStart_raised : (s.putWinStart x).raised = s.raised := rfl
@[simp] theorem State.putWinStart_refusedNow : (s.putWinStart x).refusedNow = s.refusedNow := rfl
@[simp] theorem State.putWinStart_out : (s.putWinStart x).out = s.out := rfl
@[simp] theorem State.putWinStart_rd (g : Fld) (j : Nat) : (s.putWinStart x).rd g j = s.rd g j := rfl
@[simp] theorem State.putWinStart_flag (g : Fld) (j : Nat) : (s.putWinStart x).flag g j = s.flag g j := rfl
@[simp] theorem State.putWinStart_rdMirror (g : Fld) (j : Nat) : (s.putWinStart x).rdMirror g j = s.rdMirror g j := rfl
@[simp] theorem State.putWinStart_rdByte (y : Nat) : (s.putWinStart x).rdByte y = s.rdByte y := rfl
@[simp] theorem State.putWinStart_port (m : Nat) : (s.putWinStart x).port m = s.port m := rfl
@[simp] theorem State.putWinStart_fl (m : Nat) : (s.putWinStart x).fl m = s.fl m := rfl
@[simp] theorem State.putWinStart_lane (m : Nat) : (s.putWinStart x).lane m = s.lane m := rfl
@[simp] theorem State.putWinStart_heat (m : Nat) : (s.putWinStart x).heat m = s.heat m := rfl
@[simp] theorem State.putWinStart_view (m : Nat) : (s.putWinStart x).view m = s.view m := rfl
@[simp] theorem State.putWinStart_spare (m : Nat) : (s.putWinStart x).spare m = s.spare m := rfl
@[simp] theorem State.putWinStart_cal (m : Nat) : (s.putWinStart x).cal m = s.cal m := rfl
@[simp] theorem State.putWinStart_drip : (s.putWinStart x).drip = s.drip := rfl
@[simp] theorem State.putWinStart_winStart : (s.putWinStart x).winStart = x := rfl
end

/-! What `putEccPend` leaves as it was -/

section
variable (s : State) (x : List (Nat × Nat))
@[simp] theorem State.putEccPend_pending : (s.putEccPend x).pending = s.pending := rfl
@[simp] theorem State.putEccPend_regs : (s.putEccPend x).regs = s.regs := rfl
@[simp] theorem State.putEccPend_mirr : (s.putEccPend x).mirr = s.mirr := rfl
@[simp] theorem State.putEccPend_mem : (s.putEccPend x).mem = s.mem := rfl
@[simp] theorem State.putEccPend_csb : (s.putEccPend x).csb = s.csb := rfl
@[simp] theorem State.putEccPend_held : (s.putEccPend x).held = s.held := rfl
@[simp] theorem State.putEccPend_clk : (s.putEccPend x).clk = s.clk := rfl
@[simp] theorem State.putEccPend_bus : (s.putEccPend x).bus = s.bus := rfl
@[simp] theorem State.putEccPend_boot : (s.putEccPend x).boot = s.boot := rfl
@[simp] theorem State.putEccPend_winStart : (s.putEccPend x).winStart = s.winStart := rfl
@[simp] theorem State.putEccPend_causes : (s.putEccPend x).causes = s.causes := rfl
@[simp] theorem State.putEccPend_scrubPos : (s.putEccPend x).scrubPos = s.scrubPos := rfl
@[simp] theorem State.putEccPend_holds : (s.putEccPend x).holds = s.holds := rfl
@[simp] theorem State.putEccPend_safe : (s.putEccPend x).safe = s.safe := rfl
@[simp] theorem State.putEccPend_raised : (s.putEccPend x).raised = s.raised := rfl
@[simp] theorem State.putEccPend_refusedNow : (s.putEccPend x).refusedNow = s.refusedNow := rfl
@[simp] theorem State.putEccPend_out : (s.putEccPend x).out = s.out := rfl
@[simp] theorem State.putEccPend_rd (g : Fld) (j : Nat) : (s.putEccPend x).rd g j = s.rd g j := rfl
@[simp] theorem State.putEccPend_flag (g : Fld) (j : Nat) : (s.putEccPend x).flag g j = s.flag g j := rfl
@[simp] theorem State.putEccPend_rdMirror (g : Fld) (j : Nat) : (s.putEccPend x).rdMirror g j = s.rdMirror g j := rfl
@[simp] theorem State.putEccPend_rdByte (y : Nat) : (s.putEccPend x).rdByte y = s.rdByte y := rfl
@[simp] theorem State.putEccPend_port (m : Nat) : (s.putEccPend x).port m = s.port m := rfl
@[simp] theorem State.putEccPend_fl (m : Nat) : (s.putEccPend x).fl m = s.fl m := rfl
@[simp] theorem State.putEccPend_lane (m : Nat) : (s.putEccPend x).lane m = s.lane m := rfl
@[simp] theorem State.putEccPend_heat (m : Nat) : (s.putEccPend x).heat m = s.heat m := rfl
@[simp] theorem State.putEccPend_view (m : Nat) : (s.putEccPend x).view m = s.view m := rfl
@[simp] theorem State.putEccPend_spare (m : Nat) : (s.putEccPend x).spare m = s.spare m := rfl
@[simp] theorem State.putEccPend_cal (m : Nat) : (s.putEccPend x).cal m = s.cal m := rfl
@[simp] theorem State.putEccPend_drip : (s.putEccPend x).drip = s.drip := rfl
@[simp] theorem State.putEccPend_eccPend : (s.putEccPend x).eccPend = x := rfl
end

/-! What `putScrubPos` leaves as it was -/

section
variable (s : State) (x : SMap Nat)
@[simp] theorem State.putScrubPos_pending : (s.putScrubPos x).pending = s.pending := rfl
@[simp] theorem State.putScrubPos_regs : (s.putScrubPos x).regs = s.regs := rfl
@[simp] theorem State.putScrubPos_mirr : (s.putScrubPos x).mirr = s.mirr := rfl
@[simp] theorem State.putScrubPos_mem : (s.putScrubPos x).mem = s.mem := rfl
@[simp] theorem State.putScrubPos_csb : (s.putScrubPos x).csb = s.csb := rfl
@[simp] theorem State.putScrubPos_held : (s.putScrubPos x).held = s.held := rfl
@[simp] theorem State.putScrubPos_clk : (s.putScrubPos x).clk = s.clk := rfl
@[simp] theorem State.putScrubPos_bus : (s.putScrubPos x).bus = s.bus := rfl
@[simp] theorem State.putScrubPos_boot : (s.putScrubPos x).boot = s.boot := rfl
@[simp] theorem State.putScrubPos_winStart : (s.putScrubPos x).winStart = s.winStart := rfl
@[simp] theorem State.putScrubPos_causes : (s.putScrubPos x).causes = s.causes := rfl
@[simp] theorem State.putScrubPos_eccPend : (s.putScrubPos x).eccPend = s.eccPend := rfl
@[simp] theorem State.putScrubPos_holds : (s.putScrubPos x).holds = s.holds := rfl
@[simp] theorem State.putScrubPos_safe : (s.putScrubPos x).safe = s.safe := rfl
@[simp] theorem State.putScrubPos_raised : (s.putScrubPos x).raised = s.raised := rfl
@[simp] theorem State.putScrubPos_refusedNow : (s.putScrubPos x).refusedNow = s.refusedNow := rfl
@[simp] theorem State.putScrubPos_out : (s.putScrubPos x).out = s.out := rfl
@[simp] theorem State.putScrubPos_rd (g : Fld) (j : Nat) : (s.putScrubPos x).rd g j = s.rd g j := rfl
@[simp] theorem State.putScrubPos_flag (g : Fld) (j : Nat) : (s.putScrubPos x).flag g j = s.flag g j := rfl
@[simp] theorem State.putScrubPos_rdMirror (g : Fld) (j : Nat) : (s.putScrubPos x).rdMirror g j = s.rdMirror g j := rfl
@[simp] theorem State.putScrubPos_rdByte (y : Nat) : (s.putScrubPos x).rdByte y = s.rdByte y := rfl
@[simp] theorem State.putScrubPos_port (m : Nat) : (s.putScrubPos x).port m = s.port m := rfl
@[simp] theorem State.putScrubPos_fl (m : Nat) : (s.putScrubPos x).fl m = s.fl m := rfl
@[simp] theorem State.putScrubPos_lane (m : Nat) : (s.putScrubPos x).lane m = s.lane m := rfl
@[simp] theorem State.putScrubPos_heat (m : Nat) : (s.putScrubPos x).heat m = s.heat m := rfl
@[simp] theorem State.putScrubPos_view (m : Nat) : (s.putScrubPos x).view m = s.view m := rfl
@[simp] theorem State.putScrubPos_spare (m : Nat) : (s.putScrubPos x).spare m = s.spare m := rfl
@[simp] theorem State.putScrubPos_cal (m : Nat) : (s.putScrubPos x).cal m = s.cal m := rfl
@[simp] theorem State.putScrubPos_drip : (s.putScrubPos x).drip = s.drip := rfl
@[simp] theorem State.putScrubPos_scrubPos : (s.putScrubPos x).scrubPos = x := rfl
end

/-! What `putLwTicks` leaves as it was -/

section
variable (s : State) (x : Nat)
@[simp] theorem State.putLwTicks_pending : (s.putLwTicks x).pending = s.pending := rfl
@[simp] theorem State.putLwTicks_regs : (s.putLwTicks x).regs = s.regs := rfl
@[simp] theorem State.putLwTicks_mirr : (s.putLwTicks x).mirr = s.mirr := rfl
@[simp] theorem State.putLwTicks_mem : (s.putLwTicks x).mem = s.mem := rfl
@[simp] theorem State.putLwTicks_csb : (s.putLwTicks x).csb = s.csb := rfl
@[simp] theorem State.putLwTicks_held : (s.putLwTicks x).held = s.held := rfl
@[simp] theorem State.putLwTicks_clk : (s.putLwTicks x).clk = s.clk := rfl
@[simp] theorem State.putLwTicks_bus : (s.putLwTicks x).bus = s.bus := rfl
@[simp] theorem State.putLwTicks_boot : (s.putLwTicks x).boot = s.boot := rfl
@[simp] theorem State.putLwTicks_winStart : (s.putLwTicks x).winStart = s.winStart := rfl
@[simp] theorem State.putLwTicks_causes : (s.putLwTicks x).causes = s.causes := rfl
@[simp] theorem State.putLwTicks_eccPend : (s.putLwTicks x).eccPend = s.eccPend := rfl
@[simp] theorem State.putLwTicks_scrubPos : (s.putLwTicks x).scrubPos = s.scrubPos := rfl
@[simp] theorem State.putLwTicks_holds : (s.putLwTicks x).holds = s.holds := rfl
@[simp] theorem State.putLwTicks_safe : (s.putLwTicks x).safe = s.safe := rfl
@[simp] theorem State.putLwTicks_raised : (s.putLwTicks x).raised = s.raised := rfl
@[simp] theorem State.putLwTicks_refusedNow : (s.putLwTicks x).refusedNow = s.refusedNow := rfl
@[simp] theorem State.putLwTicks_out : (s.putLwTicks x).out = s.out := rfl
@[simp] theorem State.putLwTicks_rd (g : Fld) (j : Nat) : (s.putLwTicks x).rd g j = s.rd g j := rfl
@[simp] theorem State.putLwTicks_flag (g : Fld) (j : Nat) : (s.putLwTicks x).flag g j = s.flag g j := rfl
@[simp] theorem State.putLwTicks_rdMirror (g : Fld) (j : Nat) : (s.putLwTicks x).rdMirror g j = s.rdMirror g j := rfl
@[simp] theorem State.putLwTicks_rdByte (y : Nat) : (s.putLwTicks x).rdByte y = s.rdByte y := rfl
@[simp] theorem State.putLwTicks_port (m : Nat) : (s.putLwTicks x).port m = s.port m := rfl
@[simp] theorem State.putLwTicks_fl (m : Nat) : (s.putLwTicks x).fl m = s.fl m := rfl
@[simp] theorem State.putLwTicks_lane (m : Nat) : (s.putLwTicks x).lane m = s.lane m := rfl
@[simp] theorem State.putLwTicks_heat (m : Nat) : (s.putLwTicks x).heat m = s.heat m := rfl
@[simp] theorem State.putLwTicks_view (m : Nat) : (s.putLwTicks x).view m = s.view m := rfl
@[simp] theorem State.putLwTicks_spare (m : Nat) : (s.putLwTicks x).spare m = s.spare m := rfl
@[simp] theorem State.putLwTicks_cal (m : Nat) : (s.putLwTicks x).cal m = s.cal m := rfl
@[simp] theorem State.putLwTicks_drip : (s.putLwTicks x).drip = s.drip := rfl
@[simp] theorem State.putLwTicks_lwTicks : (s.putLwTicks x).lwTicks = x := rfl
end

/-! What `putSnaps` leaves as it was -/

section
variable (s : State) (x : SMap Nat)
@[simp] theorem State.putSnaps_pending : (s.putSnaps x).pending = s.pending := rfl
@[simp] theorem State.putSnaps_regs : (s.putSnaps x).regs = s.regs := rfl
@[simp] theorem State.putSnaps_mirr : (s.putSnaps x).mirr = s.mirr := rfl
@[simp] theorem State.putSnaps_mem : (s.putSnaps x).mem = s.mem := rfl
@[simp] theorem State.putSnaps_csb : (s.putSnaps x).csb = s.csb := rfl
@[simp] theorem State.putSnaps_held : (s.putSnaps x).held = s.held := rfl
@[simp] theorem State.putSnaps_clk : (s.putSnaps x).clk = s.clk := rfl
@[simp] theorem State.putSnaps_bus : (s.putSnaps x).bus = s.bus := rfl
@[simp] theorem State.putSnaps_boot : (s.putSnaps x).boot = s.boot := rfl
@[simp] theorem State.putSnaps_winStart : (s.putSnaps x).winStart = s.winStart := rfl
@[simp] theorem State.putSnaps_causes : (s.putSnaps x).causes = s.causes := rfl
@[simp] theorem State.putSnaps_eccPend : (s.putSnaps x).eccPend = s.eccPend := rfl
@[simp] theorem State.putSnaps_scrubPos : (s.putSnaps x).scrubPos = s.scrubPos := rfl
@[simp] theorem State.putSnaps_holds : (s.putSnaps x).holds = s.holds := rfl
@[simp] theorem State.putSnaps_safe : (s.putSnaps x).safe = s.safe := rfl
@[simp] theorem State.putSnaps_raised : (s.putSnaps x).raised = s.raised := rfl
@[simp] theorem State.putSnaps_refusedNow : (s.putSnaps x).refusedNow = s.refusedNow := rfl
@[simp] theorem State.putSnaps_out : (s.putSnaps x).out = s.out := rfl
@[simp] theorem State.putSnaps_rd (g : Fld) (j : Nat) : (s.putSnaps x).rd g j = s.rd g j := rfl
@[simp] theorem State.putSnaps_flag (g : Fld) (j : Nat) : (s.putSnaps x).flag g j = s.flag g j := rfl
@[simp] theorem State.putSnaps_rdMirror (g : Fld) (j : Nat) : (s.putSnaps x).rdMirror g j = s.rdMirror g j := rfl
@[simp] theorem State.putSnaps_rdByte (y : Nat) : (s.putSnaps x).rdByte y = s.rdByte y := rfl
@[simp] theorem State.putSnaps_port (m : Nat) : (s.putSnaps x).port m = s.port m := rfl
@[simp] theorem State.putSnaps_fl (m : Nat) : (s.putSnaps x).fl m = s.fl m := rfl
@[simp] theorem State.putSnaps_lane (m : Nat) : (s.putSnaps x).lane m = s.lane m := rfl
@[simp] theorem State.putSnaps_heat (m : Nat) : (s.putSnaps x).heat m = s.heat m := rfl
@[simp] theorem State.putSnaps_view (m : Nat) : (s.putSnaps x).view m = s.view m := rfl
@[simp] theorem State.putSnaps_spare (m : Nat) : (s.putSnaps x).spare m = s.spare m := rfl
@[simp] theorem State.putSnaps_cal (m : Nat) : (s.putSnaps x).cal m = s.cal m := rfl
@[simp] theorem State.putSnaps_drip : (s.putSnaps x).drip = s.drip := rfl
@[simp] theorem State.putSnaps_snaps : (s.putSnaps x).snaps = x := rfl
end

/-! What `putStaged` leaves as it was -/

section
variable (s : State) (x : SMap Nat)
@[simp] theorem State.putStaged_pending : (s.putStaged x).pending = s.pending := rfl
@[simp] theorem State.putStaged_regs : (s.putStaged x).regs = s.regs := rfl
@[simp] theorem State.putStaged_mirr : (s.putStaged x).mirr = s.mirr := rfl
@[simp] theorem State.putStaged_mem : (s.putStaged x).mem = s.mem := rfl
@[simp] theorem State.putStaged_csb : (s.putStaged x).csb = s.csb := rfl
@[simp] theorem State.putStaged_held : (s.putStaged x).held = s.held := rfl
@[simp] theorem State.putStaged_clk : (s.putStaged x).clk = s.clk := rfl
@[simp] theorem State.putStaged_bus : (s.putStaged x).bus = s.bus := rfl
@[simp] theorem State.putStaged_boot : (s.putStaged x).boot = s.boot := rfl
@[simp] theorem State.putStaged_winStart : (s.putStaged x).winStart = s.winStart := rfl
@[simp] theorem State.putStaged_causes : (s.putStaged x).causes = s.causes := rfl
@[simp] theorem State.putStaged_eccPend : (s.putStaged x).eccPend = s.eccPend := rfl
@[simp] theorem State.putStaged_scrubPos : (s.putStaged x).scrubPos = s.scrubPos := rfl
@[simp] theorem State.putStaged_holds : (s.putStaged x).holds = s.holds := rfl
@[simp] theorem State.putStaged_safe : (s.putStaged x).safe = s.safe := rfl
@[simp] theorem State.putStaged_raised : (s.putStaged x).raised = s.raised := rfl
@[simp] theorem State.putStaged_refusedNow : (s.putStaged x).refusedNow = s.refusedNow := rfl
@[simp] theorem State.putStaged_out : (s.putStaged x).out = s.out := rfl
@[simp] theorem State.putStaged_rd (g : Fld) (j : Nat) : (s.putStaged x).rd g j = s.rd g j := rfl
@[simp] theorem State.putStaged_flag (g : Fld) (j : Nat) : (s.putStaged x).flag g j = s.flag g j := rfl
@[simp] theorem State.putStaged_rdMirror (g : Fld) (j : Nat) : (s.putStaged x).rdMirror g j = s.rdMirror g j := rfl
@[simp] theorem State.putStaged_rdByte (y : Nat) : (s.putStaged x).rdByte y = s.rdByte y := rfl
@[simp] theorem State.putStaged_port (m : Nat) : (s.putStaged x).port m = s.port m := rfl
@[simp] theorem State.putStaged_fl (m : Nat) : (s.putStaged x).fl m = s.fl m := rfl
@[simp] theorem State.putStaged_lane (m : Nat) : (s.putStaged x).lane m = s.lane m := rfl
@[simp] theorem State.putStaged_heat (m : Nat) : (s.putStaged x).heat m = s.heat m := rfl
@[simp] theorem State.putStaged_view (m : Nat) : (s.putStaged x).view m = s.view m := rfl
@[simp] theorem State.putStaged_spare (m : Nat) : (s.putStaged x).spare m = s.spare m := rfl
@[simp] theorem State.putStaged_cal (m : Nat) : (s.putStaged x).cal m = s.cal m := rfl
@[simp] theorem State.putStaged_drip : (s.putStaged x).drip = s.drip := rfl
@[simp] theorem State.putStaged_staged : (s.putStaged x).staged = x := rfl
end

/-! What `putCompat` leaves as it was -/

section
variable (s : State) (x : List (Nat × Nat))
@[simp] theorem State.putCompat_pending : (s.putCompat x).pending = s.pending := rfl
@[simp] theorem State.putCompat_regs : (s.putCompat x).regs = s.regs := rfl
@[simp] theorem State.putCompat_mirr : (s.putCompat x).mirr = s.mirr := rfl
@[simp] theorem State.putCompat_mem : (s.putCompat x).mem = s.mem := rfl
@[simp] theorem State.putCompat_csb : (s.putCompat x).csb = s.csb := rfl
@[simp] theorem State.putCompat_held : (s.putCompat x).held = s.held := rfl
@[simp] theorem State.putCompat_clk : (s.putCompat x).clk = s.clk := rfl
@[simp] theorem State.putCompat_bus : (s.putCompat x).bus = s.bus := rfl
@[simp] theorem State.putCompat_boot : (s.putCompat x).boot = s.boot := rfl
@[simp] theorem State.putCompat_winStart : (s.putCompat x).winStart = s.winStart := rfl
@[simp] theorem State.putCompat_causes : (s.putCompat x).causes = s.causes := rfl
@[simp] theorem State.putCompat_eccPend : (s.putCompat x).eccPend = s.eccPend := rfl
@[simp] theorem State.putCompat_scrubPos : (s.putCompat x).scrubPos = s.scrubPos := rfl
@[simp] theorem State.putCompat_holds : (s.putCompat x).holds = s.holds := rfl
@[simp] theorem State.putCompat_safe : (s.putCompat x).safe = s.safe := rfl
@[simp] theorem State.putCompat_raised : (s.putCompat x).raised = s.raised := rfl
@[simp] theorem State.putCompat_refusedNow : (s.putCompat x).refusedNow = s.refusedNow := rfl
@[simp] theorem State.putCompat_out : (s.putCompat x).out = s.out := rfl
@[simp] theorem State.putCompat_rd (g : Fld) (j : Nat) : (s.putCompat x).rd g j = s.rd g j := rfl
@[simp] theorem State.putCompat_flag (g : Fld) (j : Nat) : (s.putCompat x).flag g j = s.flag g j := rfl
@[simp] theorem State.putCompat_rdMirror (g : Fld) (j : Nat) : (s.putCompat x).rdMirror g j = s.rdMirror g j := rfl
@[simp] theorem State.putCompat_rdByte (y : Nat) : (s.putCompat x).rdByte y = s.rdByte y := rfl
@[simp] theorem State.putCompat_port (m : Nat) : (s.putCompat x).port m = s.port m := rfl
@[simp] theorem State.putCompat_fl (m : Nat) : (s.putCompat x).fl m = s.fl m := rfl
@[simp] theorem State.putCompat_lane (m : Nat) : (s.putCompat x).lane m = s.lane m := rfl
@[simp] theorem State.putCompat_heat (m : Nat) : (s.putCompat x).heat m = s.heat m := rfl
@[simp] theorem State.putCompat_view (m : Nat) : (s.putCompat x).view m = s.view m := rfl
@[simp] theorem State.putCompat_spare (m : Nat) : (s.putCompat x).spare m = s.spare m := rfl
@[simp] theorem State.putCompat_cal (m : Nat) : (s.putCompat x).cal m = s.cal m := rfl
@[simp] theorem State.putCompat_drip : (s.putCompat x).drip = s.drip := rfl
@[simp] theorem State.putCompat_compat : (s.putCompat x).compat = x := rfl
end

/-! What `putSafe` leaves as it was -/

section
variable (s : State) (x : Bool)
@[simp] theorem State.putSafe_pending : (s.putSafe x).pending = s.pending := rfl
@[simp] theorem State.putSafe_regs : (s.putSafe x).regs = s.regs := rfl
@[simp] theorem State.putSafe_mirr : (s.putSafe x).mirr = s.mirr := rfl
@[simp] theorem State.putSafe_mem : (s.putSafe x).mem = s.mem := rfl
@[simp] theorem State.putSafe_csb : (s.putSafe x).csb = s.csb := rfl
@[simp] theorem State.putSafe_held : (s.putSafe x).held = s.held := rfl
@[simp] theorem State.putSafe_clk : (s.putSafe x).clk = s.clk := rfl
@[simp] theorem State.putSafe_bus : (s.putSafe x).bus = s.bus := rfl
@[simp] theorem State.putSafe_boot : (s.putSafe x).boot = s.boot := rfl
@[simp] theorem State.putSafe_winStart : (s.putSafe x).winStart = s.winStart := rfl
@[simp] theorem State.putSafe_causes : (s.putSafe x).causes = s.causes := rfl
@[simp] theorem State.putSafe_eccPend : (s.putSafe x).eccPend = s.eccPend := rfl
@[simp] theorem State.putSafe_scrubPos : (s.putSafe x).scrubPos = s.scrubPos := rfl
@[simp] theorem State.putSafe_holds : (s.putSafe x).holds = s.holds := rfl
@[simp] theorem State.putSafe_raised : (s.putSafe x).raised = s.raised := rfl
@[simp] theorem State.putSafe_refusedNow : (s.putSafe x).refusedNow = s.refusedNow := rfl
@[simp] theorem State.putSafe_out : (s.putSafe x).out = s.out := rfl
@[simp] theorem State.putSafe_rd (g : Fld) (j : Nat) : (s.putSafe x).rd g j = s.rd g j := rfl
@[simp] theorem State.putSafe_flag (g : Fld) (j : Nat) : (s.putSafe x).flag g j = s.flag g j := rfl
@[simp] theorem State.putSafe_rdMirror (g : Fld) (j : Nat) : (s.putSafe x).rdMirror g j = s.rdMirror g j := rfl
@[simp] theorem State.putSafe_rdByte (y : Nat) : (s.putSafe x).rdByte y = s.rdByte y := rfl
@[simp] theorem State.putSafe_port (m : Nat) : (s.putSafe x).port m = s.port m := rfl
@[simp] theorem State.putSafe_fl (m : Nat) : (s.putSafe x).fl m = s.fl m := rfl
@[simp] theorem State.putSafe_lane (m : Nat) : (s.putSafe x).lane m = s.lane m := rfl
@[simp] theorem State.putSafe_heat (m : Nat) : (s.putSafe x).heat m = s.heat m := rfl
@[simp] theorem State.putSafe_view (m : Nat) : (s.putSafe x).view m = s.view m := rfl
@[simp] theorem State.putSafe_spare (m : Nat) : (s.putSafe x).spare m = s.spare m := rfl
@[simp] theorem State.putSafe_cal (m : Nat) : (s.putSafe x).cal m = s.cal m := rfl
@[simp] theorem State.putSafe_drip : (s.putSafe x).drip = s.drip := rfl
@[simp] theorem State.putSafe_safe : (s.putSafe x).safe = x := rfl
end

/-! What `putAliveRun` leaves as it was -/

section
variable (s : State) (x : Bool)
@[simp] theorem State.putAliveRun_pending : (s.putAliveRun x).pending = s.pending := rfl
@[simp] theorem State.putAliveRun_regs : (s.putAliveRun x).regs = s.regs := rfl
@[simp] theorem State.putAliveRun_mirr : (s.putAliveRun x).mirr = s.mirr := rfl
@[simp] theorem State.putAliveRun_mem : (s.putAliveRun x).mem = s.mem := rfl
@[simp] theorem State.putAliveRun_csb : (s.putAliveRun x).csb = s.csb := rfl
@[simp] theorem State.putAliveRun_held : (s.putAliveRun x).held = s.held := rfl
@[simp] theorem State.putAliveRun_clk : (s.putAliveRun x).clk = s.clk := rfl
@[simp] theorem State.putAliveRun_bus : (s.putAliveRun x).bus = s.bus := rfl
@[simp] theorem State.putAliveRun_boot : (s.putAliveRun x).boot = s.boot := rfl
@[simp] theorem State.putAliveRun_winStart : (s.putAliveRun x).winStart = s.winStart := rfl
@[simp] theorem State.putAliveRun_causes : (s.putAliveRun x).causes = s.causes := rfl
@[simp] theorem State.putAliveRun_eccPend : (s.putAliveRun x).eccPend = s.eccPend := rfl
@[simp] theorem State.putAliveRun_scrubPos : (s.putAliveRun x).scrubPos = s.scrubPos := rfl
@[simp] theorem State.putAliveRun_holds : (s.putAliveRun x).holds = s.holds := rfl
@[simp] theorem State.putAliveRun_safe : (s.putAliveRun x).safe = s.safe := rfl
@[simp] theorem State.putAliveRun_raised : (s.putAliveRun x).raised = s.raised := rfl
@[simp] theorem State.putAliveRun_refusedNow : (s.putAliveRun x).refusedNow = s.refusedNow := rfl
@[simp] theorem State.putAliveRun_out : (s.putAliveRun x).out = s.out := rfl
@[simp] theorem State.putAliveRun_rd (g : Fld) (j : Nat) : (s.putAliveRun x).rd g j = s.rd g j := rfl
@[simp] theorem State.putAliveRun_flag (g : Fld) (j : Nat) : (s.putAliveRun x).flag g j = s.flag g j := rfl
@[simp] theorem State.putAliveRun_rdMirror (g : Fld) (j : Nat) : (s.putAliveRun x).rdMirror g j = s.rdMirror g j := rfl
@[simp] theorem State.putAliveRun_rdByte (y : Nat) : (s.putAliveRun x).rdByte y = s.rdByte y := rfl
@[simp] theorem State.putAliveRun_port (m : Nat) : (s.putAliveRun x).port m = s.port m := rfl
@[simp] theorem State.putAliveRun_fl (m : Nat) : (s.putAliveRun x).fl m = s.fl m := rfl
@[simp] theorem State.putAliveRun_lane (m : Nat) : (s.putAliveRun x).lane m = s.lane m := rfl
@[simp] theorem State.putAliveRun_heat (m : Nat) : (s.putAliveRun x).heat m = s.heat m := rfl
@[simp] theorem State.putAliveRun_view (m : Nat) : (s.putAliveRun x).view m = s.view m := rfl
@[simp] theorem State.putAliveRun_spare (m : Nat) : (s.putAliveRun x).spare m = s.spare m := rfl
@[simp] theorem State.putAliveRun_cal (m : Nat) : (s.putAliveRun x).cal m = s.cal m := rfl
@[simp] theorem State.putAliveRun_drip : (s.putAliveRun x).drip = s.drip := rfl
@[simp] theorem State.putAliveRun_aliveRun : (s.putAliveRun x).aliveRun = x := rfl
end

/-! What `putAlive` leaves as it was -/

section
variable (s : State) (x : Bool)
@[simp] theorem State.putAlive_pending : (s.putAlive x).pending = s.pending := rfl
@[simp] theorem State.putAlive_regs : (s.putAlive x).regs = s.regs := rfl
@[simp] theorem State.putAlive_mirr : (s.putAlive x).mirr = s.mirr := rfl
@[simp] theorem State.putAlive_mem : (s.putAlive x).mem = s.mem := rfl
@[simp] theorem State.putAlive_csb : (s.putAlive x).csb = s.csb := rfl
@[simp] theorem State.putAlive_held : (s.putAlive x).held = s.held := rfl
@[simp] theorem State.putAlive_clk : (s.putAlive x).clk = s.clk := rfl
@[simp] theorem State.putAlive_bus : (s.putAlive x).bus = s.bus := rfl
@[simp] theorem State.putAlive_boot : (s.putAlive x).boot = s.boot := rfl
@[simp] theorem State.putAlive_winStart : (s.putAlive x).winStart = s.winStart := rfl
@[simp] theorem State.putAlive_causes : (s.putAlive x).causes = s.causes := rfl
@[simp] theorem State.putAlive_eccPend : (s.putAlive x).eccPend = s.eccPend := rfl
@[simp] theorem State.putAlive_scrubPos : (s.putAlive x).scrubPos = s.scrubPos := rfl
@[simp] theorem State.putAlive_holds : (s.putAlive x).holds = s.holds := rfl
@[simp] theorem State.putAlive_safe : (s.putAlive x).safe = s.safe := rfl
@[simp] theorem State.putAlive_raised : (s.putAlive x).raised = s.raised := rfl
@[simp] theorem State.putAlive_refusedNow : (s.putAlive x).refusedNow = s.refusedNow := rfl
@[simp] theorem State.putAlive_out : (s.putAlive x).out = s.out := rfl
@[simp] theorem State.putAlive_rd (g : Fld) (j : Nat) : (s.putAlive x).rd g j = s.rd g j := rfl
@[simp] theorem State.putAlive_flag (g : Fld) (j : Nat) : (s.putAlive x).flag g j = s.flag g j := rfl
@[simp] theorem State.putAlive_rdMirror (g : Fld) (j : Nat) : (s.putAlive x).rdMirror g j = s.rdMirror g j := rfl
@[simp] theorem State.putAlive_rdByte (y : Nat) : (s.putAlive x).rdByte y = s.rdByte y := rfl
@[simp] theorem State.putAlive_port (m : Nat) : (s.putAlive x).port m = s.port m := rfl
@[simp] theorem State.putAlive_fl (m : Nat) : (s.putAlive x).fl m = s.fl m := rfl
@[simp] theorem State.putAlive_lane (m : Nat) : (s.putAlive x).lane m = s.lane m := rfl
@[simp] theorem State.putAlive_heat (m : Nat) : (s.putAlive x).heat m = s.heat m := rfl
@[simp] theorem State.putAlive_view (m : Nat) : (s.putAlive x).view m = s.view m := rfl
@[simp] theorem State.putAlive_spare (m : Nat) : (s.putAlive x).spare m = s.spare m := rfl
@[simp] theorem State.putAlive_cal (m : Nat) : (s.putAlive x).cal m = s.cal m := rfl
@[simp] theorem State.putAlive_drip : (s.putAlive x).drip = s.drip := rfl
@[simp] theorem State.putAlive_alive : (s.putAlive x).alive = x := rfl
end

/-! What `putTap` leaves as it was -/

section
variable (s : State) (x : Option TapIns)
@[simp] theorem State.putTap_pending : (s.putTap x).pending = s.pending := rfl
@[simp] theorem State.putTap_regs : (s.putTap x).regs = s.regs := rfl
@[simp] theorem State.putTap_mirr : (s.putTap x).mirr = s.mirr := rfl
@[simp] theorem State.putTap_mem : (s.putTap x).mem = s.mem := rfl
@[simp] theorem State.putTap_csb : (s.putTap x).csb = s.csb := rfl
@[simp] theorem State.putTap_held : (s.putTap x).held = s.held := rfl
@[simp] theorem State.putTap_clk : (s.putTap x).clk = s.clk := rfl
@[simp] theorem State.putTap_bus : (s.putTap x).bus = s.bus := rfl
@[simp] theorem State.putTap_boot : (s.putTap x).boot = s.boot := rfl
@[simp] theorem State.putTap_winStart : (s.putTap x).winStart = s.winStart := rfl
@[simp] theorem State.putTap_causes : (s.putTap x).causes = s.causes := rfl
@[simp] theorem State.putTap_eccPend : (s.putTap x).eccPend = s.eccPend := rfl
@[simp] theorem State.putTap_scrubPos : (s.putTap x).scrubPos = s.scrubPos := rfl
@[simp] theorem State.putTap_holds : (s.putTap x).holds = s.holds := rfl
@[simp] theorem State.putTap_safe : (s.putTap x).safe = s.safe := rfl
@[simp] theorem State.putTap_raised : (s.putTap x).raised = s.raised := rfl
@[simp] theorem State.putTap_refusedNow : (s.putTap x).refusedNow = s.refusedNow := rfl
@[simp] theorem State.putTap_out : (s.putTap x).out = s.out := rfl
@[simp] theorem State.putTap_rd (g : Fld) (j : Nat) : (s.putTap x).rd g j = s.rd g j := rfl
@[simp] theorem State.putTap_flag (g : Fld) (j : Nat) : (s.putTap x).flag g j = s.flag g j := rfl
@[simp] theorem State.putTap_rdMirror (g : Fld) (j : Nat) : (s.putTap x).rdMirror g j = s.rdMirror g j := rfl
@[simp] theorem State.putTap_rdByte (y : Nat) : (s.putTap x).rdByte y = s.rdByte y := rfl
@[simp] theorem State.putTap_port (m : Nat) : (s.putTap x).port m = s.port m := rfl
@[simp] theorem State.putTap_fl (m : Nat) : (s.putTap x).fl m = s.fl m := rfl
@[simp] theorem State.putTap_lane (m : Nat) : (s.putTap x).lane m = s.lane m := rfl
@[simp] theorem State.putTap_heat (m : Nat) : (s.putTap x).heat m = s.heat m := rfl
@[simp] theorem State.putTap_view (m : Nat) : (s.putTap x).view m = s.view m := rfl
@[simp] theorem State.putTap_spare (m : Nat) : (s.putTap x).spare m = s.spare m := rfl
@[simp] theorem State.putTap_cal (m : Nat) : (s.putTap x).cal m = s.cal m := rfl
@[simp] theorem State.putTap_drip : (s.putTap x).drip = s.drip := rfl
@[simp] theorem State.putTap_tap : (s.putTap x).tap = x := rfl
end

/-! What `putMisAge` leaves as it was -/

section
variable (s : State) (x : SMap Nat)
@[simp] theorem State.putMisAge_pending : (s.putMisAge x).pending = s.pending := rfl
@[simp] theorem State.putMisAge_regs : (s.putMisAge x).regs = s.regs := rfl
@[simp] theorem State.putMisAge_mirr : (s.putMisAge x).mirr = s.mirr := rfl
@[simp] theorem State.putMisAge_mem : (s.putMisAge x).mem = s.mem := rfl
@[simp] theorem State.putMisAge_csb : (s.putMisAge x).csb = s.csb := rfl
@[simp] theorem State.putMisAge_held : (s.putMisAge x).held = s.held := rfl
@[simp] theorem State.putMisAge_clk : (s.putMisAge x).clk = s.clk := rfl
@[simp] theorem State.putMisAge_bus : (s.putMisAge x).bus = s.bus := rfl
@[simp] theorem State.putMisAge_boot : (s.putMisAge x).boot = s.boot := rfl
@[simp] theorem State.putMisAge_winStart : (s.putMisAge x).winStart = s.winStart := rfl
@[simp] theorem State.putMisAge_causes : (s.putMisAge x).causes = s.causes := rfl
@[simp] theorem State.putMisAge_eccPend : (s.putMisAge x).eccPend = s.eccPend := rfl
@[simp] theorem State.putMisAge_scrubPos : (s.putMisAge x).scrubPos = s.scrubPos := rfl
@[simp] theorem State.putMisAge_holds : (s.putMisAge x).holds = s.holds := rfl
@[simp] theorem State.putMisAge_safe : (s.putMisAge x).safe = s.safe := rfl
@[simp] theorem State.putMisAge_raised : (s.putMisAge x).raised = s.raised := rfl
@[simp] theorem State.putMisAge_refusedNow : (s.putMisAge x).refusedNow = s.refusedNow := rfl
@[simp] theorem State.putMisAge_out : (s.putMisAge x).out = s.out := rfl
@[simp] theorem State.putMisAge_rd (g : Fld) (j : Nat) : (s.putMisAge x).rd g j = s.rd g j := rfl
@[simp] theorem State.putMisAge_flag (g : Fld) (j : Nat) : (s.putMisAge x).flag g j = s.flag g j := rfl
@[simp] theorem State.putMisAge_rdMirror (g : Fld) (j : Nat) : (s.putMisAge x).rdMirror g j = s.rdMirror g j := rfl
@[simp] theorem State.putMisAge_rdByte (y : Nat) : (s.putMisAge x).rdByte y = s.rdByte y := rfl
@[simp] theorem State.putMisAge_port (m : Nat) : (s.putMisAge x).port m = s.port m := rfl
@[simp] theorem State.putMisAge_fl (m : Nat) : (s.putMisAge x).fl m = s.fl m := rfl
@[simp] theorem State.putMisAge_lane (m : Nat) : (s.putMisAge x).lane m = s.lane m := rfl
@[simp] theorem State.putMisAge_heat (m : Nat) : (s.putMisAge x).heat m = s.heat m := rfl
@[simp] theorem State.putMisAge_view (m : Nat) : (s.putMisAge x).view m = s.view m := rfl
@[simp] theorem State.putMisAge_spare (m : Nat) : (s.putMisAge x).spare m = s.spare m := rfl
@[simp] theorem State.putMisAge_cal (m : Nat) : (s.putMisAge x).cal m = s.cal m := rfl
@[simp] theorem State.putMisAge_drip : (s.putMisAge x).drip = s.drip := rfl
@[simp] theorem State.putMisAge_misAge : (s.putMisAge x).misAge = x := rfl
end

/-! What `putZclr` leaves as it was -/

section
variable (s : State) (x : SMap Nat)
@[simp] theorem State.putZclr_pending : (s.putZclr x).pending = s.pending := rfl
@[simp] theorem State.putZclr_regs : (s.putZclr x).regs = s.regs := rfl
@[simp] theorem State.putZclr_mirr : (s.putZclr x).mirr = s.mirr := rfl
@[simp] theorem State.putZclr_mem : (s.putZclr x).mem = s.mem := rfl
@[simp] theorem State.putZclr_csb : (s.putZclr x).csb = s.csb := rfl
@[simp] theorem State.putZclr_held : (s.putZclr x).held = s.held := rfl
@[simp] theorem State.putZclr_clk : (s.putZclr x).clk = s.clk := rfl
@[simp] theorem State.putZclr_bus : (s.putZclr x).bus = s.bus := rfl
@[simp] theorem State.putZclr_boot : (s.putZclr x).boot = s.boot := rfl
@[simp] theorem State.putZclr_winStart : (s.putZclr x).winStart = s.winStart := rfl
@[simp] theorem State.putZclr_causes : (s.putZclr x).causes = s.causes := rfl
@[simp] theorem State.putZclr_eccPend : (s.putZclr x).eccPend = s.eccPend := rfl
@[simp] theorem State.putZclr_scrubPos : (s.putZclr x).scrubPos = s.scrubPos := rfl
@[simp] theorem State.putZclr_holds : (s.putZclr x).holds = s.holds := rfl
@[simp] theorem State.putZclr_safe : (s.putZclr x).safe = s.safe := rfl
@[simp] theorem State.putZclr_raised : (s.putZclr x).raised = s.raised := rfl
@[simp] theorem State.putZclr_refusedNow : (s.putZclr x).refusedNow = s.refusedNow := rfl
@[simp] theorem State.putZclr_out : (s.putZclr x).out = s.out := rfl
@[simp] theorem State.putZclr_rd (g : Fld) (j : Nat) : (s.putZclr x).rd g j = s.rd g j := rfl
@[simp] theorem State.putZclr_flag (g : Fld) (j : Nat) : (s.putZclr x).flag g j = s.flag g j := rfl
@[simp] theorem State.putZclr_rdMirror (g : Fld) (j : Nat) : (s.putZclr x).rdMirror g j = s.rdMirror g j := rfl
@[simp] theorem State.putZclr_rdByte (y : Nat) : (s.putZclr x).rdByte y = s.rdByte y := rfl
@[simp] theorem State.putZclr_port (m : Nat) : (s.putZclr x).port m = s.port m := rfl
@[simp] theorem State.putZclr_fl (m : Nat) : (s.putZclr x).fl m = s.fl m := rfl
@[simp] theorem State.putZclr_lane (m : Nat) : (s.putZclr x).lane m = s.lane m := rfl
@[simp] theorem State.putZclr_heat (m : Nat) : (s.putZclr x).heat m = s.heat m := rfl
@[simp] theorem State.putZclr_view (m : Nat) : (s.putZclr x).view m = s.view m := rfl
@[simp] theorem State.putZclr_spare (m : Nat) : (s.putZclr x).spare m = s.spare m := rfl
@[simp] theorem State.putZclr_cal (m : Nat) : (s.putZclr x).cal m = s.cal m := rfl
@[simp] theorem State.putZclr_drip : (s.putZclr x).drip = s.drip := rfl
@[simp] theorem State.putZclr_zclr : (s.putZclr x).zclr = x := rfl
end

/-! What `putSecDefer` leaves as it was -/

section
variable (s : State) (x : Option Bool)
@[simp] theorem State.putSecDefer_pending : (s.putSecDefer x).pending = s.pending := rfl
@[simp] theorem State.putSecDefer_regs : (s.putSecDefer x).regs = s.regs := rfl
@[simp] theorem State.putSecDefer_mirr : (s.putSecDefer x).mirr = s.mirr := rfl
@[simp] theorem State.putSecDefer_mem : (s.putSecDefer x).mem = s.mem := rfl
@[simp] theorem State.putSecDefer_csb : (s.putSecDefer x).csb = s.csb := rfl
@[simp] theorem State.putSecDefer_held : (s.putSecDefer x).held = s.held := rfl
@[simp] theorem State.putSecDefer_clk : (s.putSecDefer x).clk = s.clk := rfl
@[simp] theorem State.putSecDefer_bus : (s.putSecDefer x).bus = s.bus := rfl
@[simp] theorem State.putSecDefer_boot : (s.putSecDefer x).boot = s.boot := rfl
@[simp] theorem State.putSecDefer_winStart : (s.putSecDefer x).winStart = s.winStart := rfl
@[simp] theorem State.putSecDefer_causes : (s.putSecDefer x).causes = s.causes := rfl
@[simp] theorem State.putSecDefer_eccPend : (s.putSecDefer x).eccPend = s.eccPend := rfl
@[simp] theorem State.putSecDefer_scrubPos : (s.putSecDefer x).scrubPos = s.scrubPos := rfl
@[simp] theorem State.putSecDefer_holds : (s.putSecDefer x).holds = s.holds := rfl
@[simp] theorem State.putSecDefer_safe : (s.putSecDefer x).safe = s.safe := rfl
@[simp] theorem State.putSecDefer_raised : (s.putSecDefer x).raised = s.raised := rfl
@[simp] theorem State.putSecDefer_refusedNow : (s.putSecDefer x).refusedNow = s.refusedNow := rfl
@[simp] theorem State.putSecDefer_out : (s.putSecDefer x).out = s.out := rfl
@[simp] theorem State.putSecDefer_rd (g : Fld) (j : Nat) : (s.putSecDefer x).rd g j = s.rd g j := rfl
@[simp] theorem State.putSecDefer_flag (g : Fld) (j : Nat) : (s.putSecDefer x).flag g j = s.flag g j := rfl
@[simp] theorem State.putSecDefer_rdMirror (g : Fld) (j : Nat) : (s.putSecDefer x).rdMirror g j = s.rdMirror g j := rfl
@[simp] theorem State.putSecDefer_rdByte (y : Nat) : (s.putSecDefer x).rdByte y = s.rdByte y := rfl
@[simp] theorem State.putSecDefer_port (m : Nat) : (s.putSecDefer x).port m = s.port m := rfl
@[simp] theorem State.putSecDefer_fl (m : Nat) : (s.putSecDefer x).fl m = s.fl m := rfl
@[simp] theorem State.putSecDefer_lane (m : Nat) : (s.putSecDefer x).lane m = s.lane m := rfl
@[simp] theorem State.putSecDefer_heat (m : Nat) : (s.putSecDefer x).heat m = s.heat m := rfl
@[simp] theorem State.putSecDefer_view (m : Nat) : (s.putSecDefer x).view m = s.view m := rfl
@[simp] theorem State.putSecDefer_spare (m : Nat) : (s.putSecDefer x).spare m = s.spare m := rfl
@[simp] theorem State.putSecDefer_cal (m : Nat) : (s.putSecDefer x).cal m = s.cal m := rfl
@[simp] theorem State.putSecDefer_drip : (s.putSecDefer x).drip = s.drip := rfl
@[simp] theorem State.putSecDefer_secDefer : (s.putSecDefer x).secDefer = x := rfl
end

/-! What `putRaised` leaves as it was -/

section
variable (s : State) (x : List Ev)
@[simp] theorem State.putRaised_pending : (s.putRaised x).pending = s.pending := rfl
@[simp] theorem State.putRaised_regs : (s.putRaised x).regs = s.regs := rfl
@[simp] theorem State.putRaised_mirr : (s.putRaised x).mirr = s.mirr := rfl
@[simp] theorem State.putRaised_mem : (s.putRaised x).mem = s.mem := rfl
@[simp] theorem State.putRaised_csb : (s.putRaised x).csb = s.csb := rfl
@[simp] theorem State.putRaised_held : (s.putRaised x).held = s.held := rfl
@[simp] theorem State.putRaised_clk : (s.putRaised x).clk = s.clk := rfl
@[simp] theorem State.putRaised_bus : (s.putRaised x).bus = s.bus := rfl
@[simp] theorem State.putRaised_boot : (s.putRaised x).boot = s.boot := rfl
@[simp] theorem State.putRaised_winStart : (s.putRaised x).winStart = s.winStart := rfl
@[simp] theorem State.putRaised_causes : (s.putRaised x).causes = s.causes := rfl
@[simp] theorem State.putRaised_eccPend : (s.putRaised x).eccPend = s.eccPend := rfl
@[simp] theorem State.putRaised_scrubPos : (s.putRaised x).scrubPos = s.scrubPos := rfl
@[simp] theorem State.putRaised_holds : (s.putRaised x).holds = s.holds := rfl
@[simp] theorem State.putRaised_safe : (s.putRaised x).safe = s.safe := rfl
@[simp] theorem State.putRaised_refusedNow : (s.putRaised x).refusedNow = s.refusedNow := rfl
@[simp] theorem State.putRaised_out : (s.putRaised x).out = s.out := rfl
@[simp] theorem State.putRaised_rd (g : Fld) (j : Nat) : (s.putRaised x).rd g j = s.rd g j := rfl
@[simp] theorem State.putRaised_flag (g : Fld) (j : Nat) : (s.putRaised x).flag g j = s.flag g j := rfl
@[simp] theorem State.putRaised_rdMirror (g : Fld) (j : Nat) : (s.putRaised x).rdMirror g j = s.rdMirror g j := rfl
@[simp] theorem State.putRaised_rdByte (y : Nat) : (s.putRaised x).rdByte y = s.rdByte y := rfl
@[simp] theorem State.putRaised_port (m : Nat) : (s.putRaised x).port m = s.port m := rfl
@[simp] theorem State.putRaised_fl (m : Nat) : (s.putRaised x).fl m = s.fl m := rfl
@[simp] theorem State.putRaised_lane (m : Nat) : (s.putRaised x).lane m = s.lane m := rfl
@[simp] theorem State.putRaised_heat (m : Nat) : (s.putRaised x).heat m = s.heat m := rfl
@[simp] theorem State.putRaised_view (m : Nat) : (s.putRaised x).view m = s.view m := rfl
@[simp] theorem State.putRaised_spare (m : Nat) : (s.putRaised x).spare m = s.spare m := rfl
@[simp] theorem State.putRaised_cal (m : Nat) : (s.putRaised x).cal m = s.cal m := rfl
@[simp] theorem State.putRaised_drip : (s.putRaised x).drip = s.drip := rfl
@[simp] theorem State.putRaised_raised : (s.putRaised x).raised = x := rfl
end

/-! What `putRefused` leaves as it was -/

section
variable (s : State) (x : Bool)
@[simp] theorem State.putRefused_pending : (s.putRefused x).pending = s.pending := rfl
@[simp] theorem State.putRefused_regs : (s.putRefused x).regs = s.regs := rfl
@[simp] theorem State.putRefused_mirr : (s.putRefused x).mirr = s.mirr := rfl
@[simp] theorem State.putRefused_mem : (s.putRefused x).mem = s.mem := rfl
@[simp] theorem State.putRefused_csb : (s.putRefused x).csb = s.csb := rfl
@[simp] theorem State.putRefused_held : (s.putRefused x).held = s.held := rfl
@[simp] theorem State.putRefused_clk : (s.putRefused x).clk = s.clk := rfl
@[simp] theorem State.putRefused_bus : (s.putRefused x).bus = s.bus := rfl
@[simp] theorem State.putRefused_boot : (s.putRefused x).boot = s.boot := rfl
@[simp] theorem State.putRefused_winStart : (s.putRefused x).winStart = s.winStart := rfl
@[simp] theorem State.putRefused_causes : (s.putRefused x).causes = s.causes := rfl
@[simp] theorem State.putRefused_eccPend : (s.putRefused x).eccPend = s.eccPend := rfl
@[simp] theorem State.putRefused_scrubPos : (s.putRefused x).scrubPos = s.scrubPos := rfl
@[simp] theorem State.putRefused_holds : (s.putRefused x).holds = s.holds := rfl
@[simp] theorem State.putRefused_safe : (s.putRefused x).safe = s.safe := rfl
@[simp] theorem State.putRefused_raised : (s.putRefused x).raised = s.raised := rfl
@[simp] theorem State.putRefused_out : (s.putRefused x).out = s.out := rfl
@[simp] theorem State.putRefused_rd (g : Fld) (j : Nat) : (s.putRefused x).rd g j = s.rd g j := rfl
@[simp] theorem State.putRefused_flag (g : Fld) (j : Nat) : (s.putRefused x).flag g j = s.flag g j := rfl
@[simp] theorem State.putRefused_rdMirror (g : Fld) (j : Nat) : (s.putRefused x).rdMirror g j = s.rdMirror g j := rfl
@[simp] theorem State.putRefused_rdByte (y : Nat) : (s.putRefused x).rdByte y = s.rdByte y := rfl
@[simp] theorem State.putRefused_port (m : Nat) : (s.putRefused x).port m = s.port m := rfl
@[simp] theorem State.putRefused_fl (m : Nat) : (s.putRefused x).fl m = s.fl m := rfl
@[simp] theorem State.putRefused_lane (m : Nat) : (s.putRefused x).lane m = s.lane m := rfl
@[simp] theorem State.putRefused_heat (m : Nat) : (s.putRefused x).heat m = s.heat m := rfl
@[simp] theorem State.putRefused_view (m : Nat) : (s.putRefused x).view m = s.view m := rfl
@[simp] theorem State.putRefused_spare (m : Nat) : (s.putRefused x).spare m = s.spare m := rfl
@[simp] theorem State.putRefused_cal (m : Nat) : (s.putRefused x).cal m = s.cal m := rfl
@[simp] theorem State.putRefused_drip : (s.putRefused x).drip = s.drip := rfl
@[simp] theorem State.putRefused_refusedNow : (s.putRefused x).refusedNow = x := rfl
end

/-! What `putMem` leaves as it was -/

section
variable (s : State) (x : List Host.Cell)
@[simp] theorem State.putMem_pending : (s.putMem x).pending = s.pending := rfl
@[simp] theorem State.putMem_regs : (s.putMem x).regs = s.regs := rfl
@[simp] theorem State.putMem_mirr : (s.putMem x).mirr = s.mirr := rfl
@[simp] theorem State.putMem_csb : (s.putMem x).csb = s.csb := rfl
@[simp] theorem State.putMem_held : (s.putMem x).held = s.held := rfl
@[simp] theorem State.putMem_clk : (s.putMem x).clk = s.clk := rfl
@[simp] theorem State.putMem_bus : (s.putMem x).bus = s.bus := rfl
@[simp] theorem State.putMem_boot : (s.putMem x).boot = s.boot := rfl
@[simp] theorem State.putMem_winStart : (s.putMem x).winStart = s.winStart := rfl
@[simp] theorem State.putMem_causes : (s.putMem x).causes = s.causes := rfl
@[simp] theorem State.putMem_eccPend : (s.putMem x).eccPend = s.eccPend := rfl
@[simp] theorem State.putMem_scrubPos : (s.putMem x).scrubPos = s.scrubPos := rfl
@[simp] theorem State.putMem_holds : (s.putMem x).holds = s.holds := rfl
@[simp] theorem State.putMem_safe : (s.putMem x).safe = s.safe := rfl
@[simp] theorem State.putMem_raised : (s.putMem x).raised = s.raised := rfl
@[simp] theorem State.putMem_refusedNow : (s.putMem x).refusedNow = s.refusedNow := rfl
@[simp] theorem State.putMem_out : (s.putMem x).out = s.out := rfl
@[simp] theorem State.putMem_rd (g : Fld) (j : Nat) : (s.putMem x).rd g j = s.rd g j := rfl
@[simp] theorem State.putMem_flag (g : Fld) (j : Nat) : (s.putMem x).flag g j = s.flag g j := rfl
@[simp] theorem State.putMem_rdMirror (g : Fld) (j : Nat) : (s.putMem x).rdMirror g j = s.rdMirror g j := rfl
@[simp] theorem State.putMem_port (m : Nat) : (s.putMem x).port m = s.port m := rfl
@[simp] theorem State.putMem_fl (m : Nat) : (s.putMem x).fl m = s.fl m := rfl
@[simp] theorem State.putMem_lane (m : Nat) : (s.putMem x).lane m = s.lane m := rfl
@[simp] theorem State.putMem_heat (m : Nat) : (s.putMem x).heat m = s.heat m := rfl
@[simp] theorem State.putMem_view (m : Nat) : (s.putMem x).view m = s.view m := rfl
@[simp] theorem State.putMem_spare (m : Nat) : (s.putMem x).spare m = s.spare m := rfl
@[simp] theorem State.putMem_cal (m : Nat) : (s.putMem x).cal m = s.cal m := rfl
@[simp] theorem State.putMem_drip : (s.putMem x).drip = s.drip := rfl
@[simp] theorem State.putMem_mem : (s.putMem x).mem = x := rfl
end

/-! What `putFresh` leaves as it was -/

section
variable (s : State) (x : Nat)
@[simp] theorem State.putFresh_pending : (s.putFresh x).pending = s.pending := rfl
@[simp] theorem State.putFresh_regs : (s.putFresh x).regs = s.regs := rfl
@[simp] theorem State.putFresh_mirr : (s.putFresh x).mirr = s.mirr := rfl
@[simp] theorem State.putFresh_mem : (s.putFresh x).mem = s.mem := rfl
@[simp] theorem State.putFresh_csb : (s.putFresh x).csb = s.csb := rfl
@[simp] theorem State.putFresh_held : (s.putFresh x).held = s.held := rfl
@[simp] theorem State.putFresh_clk : (s.putFresh x).clk = s.clk := rfl
@[simp] theorem State.putFresh_bus : (s.putFresh x).bus = s.bus := rfl
@[simp] theorem State.putFresh_boot : (s.putFresh x).boot = s.boot := rfl
@[simp] theorem State.putFresh_winStart : (s.putFresh x).winStart = s.winStart := rfl
@[simp] theorem State.putFresh_causes : (s.putFresh x).causes = s.causes := rfl
@[simp] theorem State.putFresh_eccPend : (s.putFresh x).eccPend = s.eccPend := rfl
@[simp] theorem State.putFresh_scrubPos : (s.putFresh x).scrubPos = s.scrubPos := rfl
@[simp] theorem State.putFresh_holds : (s.putFresh x).holds = s.holds := rfl
@[simp] theorem State.putFresh_safe : (s.putFresh x).safe = s.safe := rfl
@[simp] theorem State.putFresh_raised : (s.putFresh x).raised = s.raised := rfl
@[simp] theorem State.putFresh_refusedNow : (s.putFresh x).refusedNow = s.refusedNow := rfl
@[simp] theorem State.putFresh_out : (s.putFresh x).out = s.out := rfl
@[simp] theorem State.putFresh_rd (g : Fld) (j : Nat) : (s.putFresh x).rd g j = s.rd g j := rfl
@[simp] theorem State.putFresh_flag (g : Fld) (j : Nat) : (s.putFresh x).flag g j = s.flag g j := rfl
@[simp] theorem State.putFresh_rdMirror (g : Fld) (j : Nat) : (s.putFresh x).rdMirror g j = s.rdMirror g j := rfl
@[simp] theorem State.putFresh_rdByte (y : Nat) : (s.putFresh x).rdByte y = s.rdByte y := rfl
@[simp] theorem State.putFresh_port (m : Nat) : (s.putFresh x).port m = s.port m := rfl
@[simp] theorem State.putFresh_fl (m : Nat) : (s.putFresh x).fl m = s.fl m := rfl
@[simp] theorem State.putFresh_lane (m : Nat) : (s.putFresh x).lane m = s.lane m := rfl
@[simp] theorem State.putFresh_heat (m : Nat) : (s.putFresh x).heat m = s.heat m := rfl
@[simp] theorem State.putFresh_view (m : Nat) : (s.putFresh x).view m = s.view m := rfl
@[simp] theorem State.putFresh_spare (m : Nat) : (s.putFresh x).spare m = s.spare m := rfl
@[simp] theorem State.putFresh_cal (m : Nat) : (s.putFresh x).cal m = s.cal m := rfl
@[simp] theorem State.putFresh_drip : (s.putFresh x).drip = s.drip := rfl
@[simp] theorem State.putFresh_fresh : (s.putFresh x).fresh = x := rfl
end

/-! What `putLenWritten` leaves as it was -/

section
variable (s : State) (x : Bool)
@[simp] theorem State.putLenWritten_pending : (s.putLenWritten x).pending = s.pending := rfl
@[simp] theorem State.putLenWritten_regs : (s.putLenWritten x).regs = s.regs := rfl
@[simp] theorem State.putLenWritten_mirr : (s.putLenWritten x).mirr = s.mirr := rfl
@[simp] theorem State.putLenWritten_mem : (s.putLenWritten x).mem = s.mem := rfl
@[simp] theorem State.putLenWritten_csb : (s.putLenWritten x).csb = s.csb := rfl
@[simp] theorem State.putLenWritten_held : (s.putLenWritten x).held = s.held := rfl
@[simp] theorem State.putLenWritten_clk : (s.putLenWritten x).clk = s.clk := rfl
@[simp] theorem State.putLenWritten_bus : (s.putLenWritten x).bus = s.bus := rfl
@[simp] theorem State.putLenWritten_boot : (s.putLenWritten x).boot = s.boot := rfl
@[simp] theorem State.putLenWritten_winStart : (s.putLenWritten x).winStart = s.winStart := rfl
@[simp] theorem State.putLenWritten_causes : (s.putLenWritten x).causes = s.causes := rfl
@[simp] theorem State.putLenWritten_eccPend : (s.putLenWritten x).eccPend = s.eccPend := rfl
@[simp] theorem State.putLenWritten_scrubPos : (s.putLenWritten x).scrubPos = s.scrubPos := rfl
@[simp] theorem State.putLenWritten_holds : (s.putLenWritten x).holds = s.holds := rfl
@[simp] theorem State.putLenWritten_safe : (s.putLenWritten x).safe = s.safe := rfl
@[simp] theorem State.putLenWritten_raised : (s.putLenWritten x).raised = s.raised := rfl
@[simp] theorem State.putLenWritten_refusedNow : (s.putLenWritten x).refusedNow = s.refusedNow := rfl
@[simp] theorem State.putLenWritten_out : (s.putLenWritten x).out = s.out := rfl
@[simp] theorem State.putLenWritten_rd (g : Fld) (j : Nat) : (s.putLenWritten x).rd g j = s.rd g j := rfl
@[simp] theorem State.putLenWritten_flag (g : Fld) (j : Nat) : (s.putLenWritten x).flag g j = s.flag g j := rfl
@[simp] theorem State.putLenWritten_rdMirror (g : Fld) (j : Nat) : (s.putLenWritten x).rdMirror g j = s.rdMirror g j := rfl
@[simp] theorem State.putLenWritten_rdByte (y : Nat) : (s.putLenWritten x).rdByte y = s.rdByte y := rfl
@[simp] theorem State.putLenWritten_port (m : Nat) : (s.putLenWritten x).port m = s.port m := rfl
@[simp] theorem State.putLenWritten_fl (m : Nat) : (s.putLenWritten x).fl m = s.fl m := rfl
@[simp] theorem State.putLenWritten_lane (m : Nat) : (s.putLenWritten x).lane m = s.lane m := rfl
@[simp] theorem State.putLenWritten_heat (m : Nat) : (s.putLenWritten x).heat m = s.heat m := rfl
@[simp] theorem State.putLenWritten_view (m : Nat) : (s.putLenWritten x).view m = s.view m := rfl
@[simp] theorem State.putLenWritten_spare (m : Nat) : (s.putLenWritten x).spare m = s.spare m := rfl
@[simp] theorem State.putLenWritten_cal (m : Nat) : (s.putLenWritten x).cal m = s.cal m := rfl
@[simp] theorem State.putLenWritten_drip : (s.putLenWritten x).drip = s.drip := rfl
@[simp] theorem State.putLenWritten_lenWritten : (s.putLenWritten x).lenWritten = x := rfl
end

/-! What `putShared` leaves as it was -/

section
variable (s : State) (x : List ((Nat × Nat) × (Nat × Nat)))
@[simp] theorem State.putShared_pending : (s.putShared x).pending = s.pending := rfl
@[simp] theorem State.putShared_regs : (s.putShared x).regs = s.regs := rfl
@[simp] theorem State.putShared_mirr : (s.putShared x).mirr = s.mirr := rfl
@[simp] theorem State.putShared_mem : (s.putShared x).mem = s.mem := rfl
@[simp] theorem State.putShared_csb : (s.putShared x).csb = s.csb := rfl
@[simp] theorem State.putShared_held : (s.putShared x).held = s.held := rfl
@[simp] theorem State.putShared_clk : (s.putShared x).clk = s.clk := rfl
@[simp] theorem State.putShared_bus : (s.putShared x).bus = s.bus := rfl
@[simp] theorem State.putShared_boot : (s.putShared x).boot = s.boot := rfl
@[simp] theorem State.putShared_winStart : (s.putShared x).winStart = s.winStart := rfl
@[simp] theorem State.putShared_causes : (s.putShared x).causes = s.causes := rfl
@[simp] theorem State.putShared_eccPend : (s.putShared x).eccPend = s.eccPend := rfl
@[simp] theorem State.putShared_scrubPos : (s.putShared x).scrubPos = s.scrubPos := rfl
@[simp] theorem State.putShared_holds : (s.putShared x).holds = s.holds := rfl
@[simp] theorem State.putShared_safe : (s.putShared x).safe = s.safe := rfl
@[simp] theorem State.putShared_raised : (s.putShared x).raised = s.raised := rfl
@[simp] theorem State.putShared_refusedNow : (s.putShared x).refusedNow = s.refusedNow := rfl
@[simp] theorem State.putShared_out : (s.putShared x).out = s.out := rfl
@[simp] theorem State.putShared_rd (g : Fld) (j : Nat) : (s.putShared x).rd g j = s.rd g j := rfl
@[simp] theorem State.putShared_flag (g : Fld) (j : Nat) : (s.putShared x).flag g j = s.flag g j := rfl
@[simp] theorem State.putShared_rdMirror (g : Fld) (j : Nat) : (s.putShared x).rdMirror g j = s.rdMirror g j := rfl
@[simp] theorem State.putShared_rdByte (y : Nat) : (s.putShared x).rdByte y = s.rdByte y := rfl
@[simp] theorem State.putShared_port (m : Nat) : (s.putShared x).port m = s.port m := rfl
@[simp] theorem State.putShared_fl (m : Nat) : (s.putShared x).fl m = s.fl m := rfl
@[simp] theorem State.putShared_lane (m : Nat) : (s.putShared x).lane m = s.lane m := rfl
@[simp] theorem State.putShared_heat (m : Nat) : (s.putShared x).heat m = s.heat m := rfl
@[simp] theorem State.putShared_view (m : Nat) : (s.putShared x).view m = s.view m := rfl
@[simp] theorem State.putShared_spare (m : Nat) : (s.putShared x).spare m = s.spare m := rfl
@[simp] theorem State.putShared_cal (m : Nat) : (s.putShared x).cal m = s.cal m := rfl
@[simp] theorem State.putShared_drip : (s.putShared x).drip = s.drip := rfl
@[simp] theorem State.putShared_shared : (s.putShared x).shared = x := rfl
end

/-! What `putHeld` leaves as it was -/

section
variable (s : State) (x : Bool)
@[simp] theorem State.putHeld_pending : (s.putHeld x).pending = s.pending := rfl
@[simp] theorem State.putHeld_regs : (s.putHeld x).regs = s.regs := rfl
@[simp] theorem State.putHeld_mirr : (s.putHeld x).mirr = s.mirr := rfl
@[simp] theorem State.putHeld_mem : (s.putHeld x).mem = s.mem := rfl
@[simp] theorem State.putHeld_csb : (s.putHeld x).csb = s.csb := rfl
@[simp] theorem State.putHeld_clk : (s.putHeld x).clk = s.clk := rfl
@[simp] theorem State.putHeld_bus : (s.putHeld x).bus = s.bus := rfl
@[simp] theorem State.putHeld_boot : (s.putHeld x).boot = s.boot := rfl
@[simp] theorem State.putHeld_winStart : (s.putHeld x).winStart = s.winStart := rfl
@[simp] theorem State.putHeld_causes : (s.putHeld x).causes = s.causes := rfl
@[simp] theorem State.putHeld_eccPend : (s.putHeld x).eccPend = s.eccPend := rfl
@[simp] theorem State.putHeld_scrubPos : (s.putHeld x).scrubPos = s.scrubPos := rfl
@[simp] theorem State.putHeld_holds : (s.putHeld x).holds = s.holds := rfl
@[simp] theorem State.putHeld_safe : (s.putHeld x).safe = s.safe := rfl
@[simp] theorem State.putHeld_raised : (s.putHeld x).raised = s.raised := rfl
@[simp] theorem State.putHeld_refusedNow : (s.putHeld x).refusedNow = s.refusedNow := rfl
@[simp] theorem State.putHeld_out : (s.putHeld x).out = s.out := rfl
@[simp] theorem State.putHeld_rd (g : Fld) (j : Nat) : (s.putHeld x).rd g j = s.rd g j := rfl
@[simp] theorem State.putHeld_flag (g : Fld) (j : Nat) : (s.putHeld x).flag g j = s.flag g j := rfl
@[simp] theorem State.putHeld_rdMirror (g : Fld) (j : Nat) : (s.putHeld x).rdMirror g j = s.rdMirror g j := rfl
@[simp] theorem State.putHeld_rdByte (y : Nat) : (s.putHeld x).rdByte y = s.rdByte y := rfl
@[simp] theorem State.putHeld_port (m : Nat) : (s.putHeld x).port m = s.port m := rfl
@[simp] theorem State.putHeld_fl (m : Nat) : (s.putHeld x).fl m = s.fl m := rfl
@[simp] theorem State.putHeld_lane (m : Nat) : (s.putHeld x).lane m = s.lane m := rfl
@[simp] theorem State.putHeld_heat (m : Nat) : (s.putHeld x).heat m = s.heat m := rfl
@[simp] theorem State.putHeld_view (m : Nat) : (s.putHeld x).view m = s.view m := rfl
@[simp] theorem State.putHeld_spare (m : Nat) : (s.putHeld x).spare m = s.spare m := rfl
@[simp] theorem State.putHeld_cal (m : Nat) : (s.putHeld x).cal m = s.cal m := rfl
@[simp] theorem State.putHeld_drip : (s.putHeld x).drip = s.drip := rfl
@[simp] theorem State.putHeld_held : (s.putHeld x).held = x := rfl
end

/-! What `putVisits` leaves as it was -/

section
variable (s : State) (x : List Nat)
@[simp] theorem State.putVisits_pending : (s.putVisits x).pending = s.pending := rfl
@[simp] theorem State.putVisits_regs : (s.putVisits x).regs = s.regs := rfl
@[simp] theorem State.putVisits_mirr : (s.putVisits x).mirr = s.mirr := rfl
@[simp] theorem State.putVisits_mem : (s.putVisits x).mem = s.mem := rfl
@[simp] theorem State.putVisits_csb : (s.putVisits x).csb = s.csb := rfl
@[simp] theorem State.putVisits_held : (s.putVisits x).held = s.held := rfl
@[simp] theorem State.putVisits_clk : (s.putVisits x).clk = s.clk := rfl
@[simp] theorem State.putVisits_bus : (s.putVisits x).bus = s.bus := rfl
@[simp] theorem State.putVisits_boot : (s.putVisits x).boot = s.boot := rfl
@[simp] theorem State.putVisits_winStart : (s.putVisits x).winStart = s.winStart := rfl
@[simp] theorem State.putVisits_causes : (s.putVisits x).causes = s.causes := rfl
@[simp] theorem State.putVisits_eccPend : (s.putVisits x).eccPend = s.eccPend := rfl
@[simp] theorem State.putVisits_scrubPos : (s.putVisits x).scrubPos = s.scrubPos := rfl
@[simp] theorem State.putVisits_holds : (s.putVisits x).holds = s.holds := rfl
@[simp] theorem State.putVisits_safe : (s.putVisits x).safe = s.safe := rfl
@[simp] theorem State.putVisits_raised : (s.putVisits x).raised = s.raised := rfl
@[simp] theorem State.putVisits_refusedNow : (s.putVisits x).refusedNow = s.refusedNow := rfl
@[simp] theorem State.putVisits_out : (s.putVisits x).out = s.out := rfl
@[simp] theorem State.putVisits_rd (g : Fld) (j : Nat) : (s.putVisits x).rd g j = s.rd g j := rfl
@[simp] theorem State.putVisits_flag (g : Fld) (j : Nat) : (s.putVisits x).flag g j = s.flag g j := rfl
@[simp] theorem State.putVisits_rdMirror (g : Fld) (j : Nat) : (s.putVisits x).rdMirror g j = s.rdMirror g j := rfl
@[simp] theorem State.putVisits_rdByte (y : Nat) : (s.putVisits x).rdByte y = s.rdByte y := rfl
@[simp] theorem State.putVisits_port (m : Nat) : (s.putVisits x).port m = s.port m := rfl
@[simp] theorem State.putVisits_fl (m : Nat) : (s.putVisits x).fl m = s.fl m := rfl
@[simp] theorem State.putVisits_lane (m : Nat) : (s.putVisits x).lane m = s.lane m := rfl
@[simp] theorem State.putVisits_heat (m : Nat) : (s.putVisits x).heat m = s.heat m := rfl
@[simp] theorem State.putVisits_view (m : Nat) : (s.putVisits x).view m = s.view m := rfl
@[simp] theorem State.putVisits_spare (m : Nat) : (s.putVisits x).spare m = s.spare m := rfl
@[simp] theorem State.putVisits_cal (m : Nat) : (s.putVisits x).cal m = s.cal m := rfl
@[simp] theorem State.putVisits_drip : (s.putVisits x).drip = s.drip := rfl
@[simp] theorem State.putVisits_visits : (s.putVisits x).visits = x := rfl
end
/-! Reading what was written -/

/-- Two fields of instances have one key only if they are the same field of the same instance. -/
@[simp] theorem Fld.key_inj (f g : Fld) (i j : Nat) : f.key i = g.key j ↔ f.id = g.id ∧ i = j := by
  have hf := f.id.isLt
  have hg := g.id.isLt
  unfold Fld.key
  constructor
  · intro h
    have : f.id.val = g.id.val := by omega
    exact ⟨Fin.ext this, by omega⟩
  · rintro ⟨h, rfl⟩; rw [h]

@[simp] theorem State.rd_wr_self (s : State) (f : Fld) (i v : Nat) : (s.wr f i v).rd f i = v % 2 ^ f.w :=
  SMap.get_set_self _ _ _ _

theorem State.rd_wr_ne (s : State) {f g : Fld} {i j : Nat} (v : Nat) (h : f.id ≠ g.id ∨ i ≠ j) :
    (s.wr f i v).rd g j = s.rd g j :=
  SMap.get_set_ne _ _ _ _ (by simpa using fun hid => h.resolve_left (not_not_intro hid))

theorem State.rd_wr_inst (s : State) {f g : Fld} {i j : Nat} (v : Nat) (h : i ≠ j) : (s.wr f i v).rd g j = s.rd g j :=
  s.rd_wr_ne v (.inr h)

theorem State.rd_wr_fld (s : State) {f g : Fld} {i j : Nat} (v : Nat) (h : f.id ≠ g.id) : (s.wr f i v).rd g j = s.rd g j :=
  s.rd_wr_ne v (.inl h)

@[simp] theorem State.port_setPort (s : State) (n : Nat) (p : PortSt) : (s.setPort n p).port n = p :=
  SMap.get_set_self _ _ _ _
theorem State.port_setPort_ne (s : State) {n m : Nat} (p : PortSt) (h : n ≠ m) : (s.setPort n p).port m = s.port m :=
  SMap.get_set_ne _ _ _ _ h
@[simp] theorem State.fl_setFl (s : State) (n : Nat) (p : FlitSt) : (s.setFl n p).fl n = p := SMap.get_set_self _ _ _ _
theorem State.fl_setFl_ne (s : State) {n m : Nat} (p : FlitSt) (h : n ≠ m) : (s.setFl n p).fl m = s.fl m :=
  SMap.get_set_ne _ _ _ _ h
@[simp] theorem State.lane_setLane (s : State) (n : Nat) (p : LaneSt) : (s.setLane n p).lane n = p :=
  SMap.get_set_self _ _ _ _
theorem State.lane_setLane_ne (s : State) {n m : Nat} (p : LaneSt) (h : n ≠ m) : (s.setLane n p).lane m = s.lane m :=
  SMap.get_set_ne _ _ _ _ h
@[simp] theorem State.heat_setHeat (s : State) (n : Nat) (p : HeatP) : (s.setHeat n p).heat n = p :=
  SMap.get_set_self _ _ _ _
theorem State.heat_setHeat_ne (s : State) {n m : Nat} (p : HeatP) (h : n ≠ m) : (s.setHeat n p).heat m = s.heat m :=
  SMap.get_set_ne _ _ _ _ h
@[simp] theorem State.view_setView (s : State) (n : Nat) (p : ViewSt) : (s.setView n p).view n = p :=
  SMap.get_set_self _ _ _ _
theorem State.view_setView_ne (s : State) {n m : Nat} (p : ViewSt) (h : n ≠ m) : (s.setView n p).view m = s.view m :=
  SMap.get_set_ne _ _ _ _ h
@[simp] theorem State.spare_setSpare (s : State) (n : Nat) (p : SpareSt) : (s.setSpare n p).spare n = p :=
  SMap.get_set_self _ _ _ _
theorem State.spare_setSpare_ne (s : State) {n m : Nat} (p : SpareSt) (h : n ≠ m) : (s.setSpare n p).spare m = s.spare m :=
  SMap.get_set_ne _ _ _ _ h
@[simp] theorem State.cal_modCal (s : State) (n : Nat) (f : CalSt → CalSt) : (s.modCal n f).cal n = f (s.cal n) :=
  SMap.get_set_self _ _ _ _
theorem State.cal_modCal_ne (s : State) {n m : Nat} (f : CalSt → CalSt) (h : n ≠ m) : (s.modCal n f).cal m = s.cal m :=
  SMap.get_set_ne _ _ _ _ h
@[simp] theorem State.rdByte_wrByte (s : State) (a : Nat) (b : Byte) : (s.wrByte a b).rdByte a = b :=
  SMap.get_set_self _ _ _ _
theorem State.rdByte_wrByte_ne (s : State) {a x : Nat} (b : Byte) (h : a ≠ x) : (s.wrByte a b).rdByte x = s.rdByte x :=
  SMap.get_set_ne _ _ _ _ h
@[simp] theorem State.begun_out (s : State) : s.begun.out = [] := rfl
@[simp] theorem State.begun_refusedNow (s : State) : s.begun.refusedNow = false := rfl
@[simp] theorem State.emit_out (s : State) (o : Out) : (s.emit o).out = s.out ++ [o] := rfl
@[simp] theorem State.raise_raised (s : State) (a b c : Nat) : (s.raise a b c).raised = s.raised ++ [⟨a, b, c, false⟩] := rfl
@[simp] theorem State.modClk_clk (s : State) (f : ClkSt → ClkSt) : (s.modClk f).clk = f s.clk := rfl
@[simp] theorem State.modBoot_boot (s : State) (f : BootSt → BootSt) : (s.modBoot f).boot = f s.boot := rfl

/-! Unchanged parts -/

@[simp] theorem Part.same_refl (p : Part) (s : State) : p.same s s := by
  cases p <;> first | exact Eq.refl _ | exact fun _ => Eq.refl _

theorem Part.same_trans {p : Part} {s t u : State} (h : p.same s t) (k : p.same t u) : p.same s u := by
  cases p <;> simp only [Part.same] at h k ⊢ <;> simp [h, k]

theorem Part.same_wr {p : Part} (s : State) (f : Fld) (i v : Nat) (h : p ≠ .fld f i) : p.same s (s.wr f i v) := by
  cases p <;> try simp [Part.same]
  exact fun d => SMap.get_set_ne _ _ _ _ fun he => h (by rw [← he])

theorem Part.same_wrMirror {p : Part} (s : State) (f : Fld) (i v : Nat) (h : p ≠ .mir f i) : p.same s (s.wrMirror f i v) := by
  cases p <;> try simp [Part.same]
  exact fun d => SMap.get_set_ne _ _ _ _ fun he => h (by rw [← he])

theorem Part.same_wrByte {p : Part} (s : State) (a : Nat) (b : Byte) (h : p ≠ .byte a) : p.same s (s.wrByte a b) := by
  cases p <;> try simp [Part.same]
  exact s.rdByte_wrByte_ne b fun he => h (by rw [he])

theorem Part.same_setPort {p : Part} (s : State) (n : Nat) (q : PortSt) (h : p ≠ .port n) : p.same s (s.setPort n q) := by
  cases p <;> try simp [Part.same]
  exact s.port_setPort_ne q fun he => h (by rw [he])

theorem Part.same_setFl {p : Part} (s : State) (n : Nat) (q : FlitSt) (h : p ≠ .flit n) : p.same s (s.setFl n q) := by
  cases p <;> try simp [Part.same]
  exact s.fl_setFl_ne q fun he => h (by rw [he])

theorem Part.same_setLane {p : Part} (s : State) (n : Nat) (q : LaneSt) (h : p ≠ .lane n) : p.same s (s.setLane n q) := by
  cases p <;> try simp [Part.same]
  exact s.lane_setLane_ne q fun he => h (by rw [he])

theorem Part.same_setHeat {p : Part} (s : State) (n : Nat) (q : HeatP) (h : p ≠ .heat n) : p.same s (s.setHeat n q) := by
  cases p <;> try simp [Part.same]
  exact s.heat_setHeat_ne q fun he => h (by rw [he])

theorem Part.same_setView {p : Part} (s : State) (n : Nat) (q : ViewSt) (h : p ≠ .view n) : p.same s (s.setView n q) := by
  cases p <;> try simp [Part.same]
  exact s.view_setView_ne q fun he => h (by rw [he])

theorem Part.same_setSpare {p : Part} (s : State) (n : Nat) (q : SpareSt) (h : p ≠ .spare n) : p.same s (s.setSpare n q) := by
  cases p <;> try simp [Part.same]
  exact s.spare_setSpare_ne q fun he => h (by rw [he])

theorem Part.same_modCal {p : Part} (s : State) (n : Nat) (f : CalSt → CalSt) (h : p ≠ .cal n) : p.same s (s.modCal n f) := by
  cases p <;> try simp [Part.same]
  exact s.cal_modCal_ne f fun he => h (by rw [he])

theorem Part.same_modClk {p : Part} (s : State) (f : ClkSt → ClkSt) (h : p ≠ .clk) : p.same s (s.modClk f) := by
  cases p <;> first | exact absurd rfl h | exact Eq.refl _ | exact fun _ => Eq.refl _

theorem Part.same_modBoot {p : Part} (s : State) (f : BootSt → BootSt) (h : p ≠ .boot) : p.same s (s.modBoot f) := by
  cases p <;> first | exact absurd rfl h | exact Eq.refl _ | exact fun _ => Eq.refl _

theorem Part.same_raise {p : Part} (s : State) (a b c : Nat) (h : p ≠ .raised) : p.same s (s.raise a b c) := by
  cases p <;> first | exact absurd rfl h | exact Eq.refl _ | exact fun _ => Eq.refl _

theorem Part.same_putCsb {p : Part} (s : State) (x : CsbSt) (h : p ≠ .csb) : p.same s (s.putCsb x) := by
  cases p <;> first | exact absurd rfl h | exact Eq.refl _ | exact fun _ => Eq.refl _

theorem Part.same_putBus {p : Part} (s : State) (x : BusSt) (h : p ≠ .bus) : p.same s (s.putBus x) := by
  cases p <;> first | exact absurd rfl h | exact Eq.refl _ | exact fun _ => Eq.refl _

theorem Part.same_putSpdm {p : Part} (s : State) (x : SpdmSt) (h : p ≠ .spdm) : p.same s (s.putSpdm x) := by
  cases p <;> first | exact absurd rfl h | exact Eq.refl _ | exact fun _ => Eq.refl _

theorem Part.same_putHolds {p : Part} (s : State) (x : List (Nat × Nat)) (h : p ≠ .holds) : p.same s (s.putHolds x) := by
  cases p <;> first | exact absurd rfl h | exact Eq.refl _ | exact fun _ => Eq.refl _

theorem Part.same_putCauses {p : Part} (s : State) (x : List (Nat × Nat)) (h : p ≠ .causes) : p.same s (s.putCauses x) := by
  cases p <;> first | exact absurd rfl h | exact Eq.refl _ | exact fun _ => Eq.refl _

theorem Part.same_putWinStart {p : Part} (s : State) (x : SMap Nat) (h : p ≠ .winStart) : p.same s (s.putWinStart x) := by
  cases p <;> first | exact absurd rfl h | exact Eq.refl _ | exact fun _ => Eq.refl _

theorem Part.same_putEccPend {p : Part} (s : State) (x : List (Nat × Nat)) (h : p ≠ .eccPend) : p.same s (s.putEccPend x) := by
  cases p <;> first | exact absurd rfl h | exact Eq.refl _ | exact fun _ => Eq.refl _

theorem Part.same_putScrubPos {p : Part} (s : State) (x : SMap Nat) (h : p ≠ .scrubPos) : p.same s (s.putScrubPos x) := by
  cases p <;> first | exact absurd rfl h | exact Eq.refl _ | exact fun _ => Eq.refl _

theorem Part.same_putLwTicks {p : Part} (s : State) (x : Nat) (h : p ≠ .lwTicks) : p.same s (s.putLwTicks x) := by
  cases p <;> first | exact absurd rfl h | exact Eq.refl _ | exact fun _ => Eq.refl _

theorem Part.same_putSnaps {p : Part} (s : State) (x : SMap Nat) (h : p ≠ .snaps) : p.same s (s.putSnaps x) := by
  cases p <;> first | exact absurd rfl h | exact Eq.refl _ | exact fun _ => Eq.refl _

theorem Part.same_putStaged {p : Part} (s : State) (x : SMap Nat) (h : p ≠ .staged) : p.same s (s.putStaged x) := by
  cases p <;> first | exact absurd rfl h | exact Eq.refl _ | exact fun _ => Eq.refl _

theorem Part.same_putCompat {p : Part} (s : State) (x : List (Nat × Nat)) (h : p ≠ .compat) : p.same s (s.putCompat x) := by
  cases p <;> first | exact absurd rfl h | exact Eq.refl _ | exact fun _ => Eq.refl _

theorem Part.same_putSafe {p : Part} (s : State) (x : Bool) (h : p ≠ .safe) : p.same s (s.putSafe x) := by
  cases p <;> first | exact absurd rfl h | exact Eq.refl _ | exact fun _ => Eq.refl _

theorem Part.same_putAliveRun {p : Part} (s : State) (x : Bool) (h : p ≠ .aliveRun) : p.same s (s.putAliveRun x) := by
  cases p <;> first | exact absurd rfl h | exact Eq.refl _ | exact fun _ => Eq.refl _

theorem Part.same_putAlive {p : Part} (s : State) (x : Bool) (h : p ≠ .alive) : p.same s (s.putAlive x) := by
  cases p <;> first | exact absurd rfl h | exact Eq.refl _ | exact fun _ => Eq.refl _

theorem Part.same_putTap {p : Part} (s : State) (x : Option TapIns) (h : p ≠ .tap) : p.same s (s.putTap x) := by
  cases p <;> first | exact absurd rfl h | exact Eq.refl _ | exact fun _ => Eq.refl _

theorem Part.same_putMisAge {p : Part} (s : State) (x : SMap Nat) (h : p ≠ .misAge) : p.same s (s.putMisAge x) := by
  cases p <;> first | exact absurd rfl h | exact Eq.refl _ | exact fun _ => Eq.refl _

theorem Part.same_putZclr {p : Part} (s : State) (x : SMap Nat) (h : p ≠ .zclr) : p.same s (s.putZclr x) := by
  cases p <;> first | exact absurd rfl h | exact Eq.refl _ | exact fun _ => Eq.refl _

theorem Part.same_putSecDefer {p : Part} (s : State) (x : Option Bool) (h : p ≠ .secDefer) : p.same s (s.putSecDefer x) := by
  cases p <;> first | exact absurd rfl h | exact Eq.refl _ | exact fun _ => Eq.refl _

theorem Part.same_putRaised {p : Part} (s : State) (x : List Ev) (h : p ≠ .raised) : p.same s (s.putRaised x) := by
  cases p <;> first | exact absurd rfl h | exact Eq.refl _ | exact fun _ => Eq.refl _

theorem Part.same_putRefused (p : Part) (s : State) (x : Bool) : p.same s (s.putRefused x) := by
  cases p <;> first | exact Eq.refl _ | exact fun _ => Eq.refl _

theorem Part.same_putFresh {p : Part} (s : State) (x : Nat) (h : p ≠ .fresh) : p.same s (s.putFresh x) := by
  cases p <;> first | exact absurd rfl h | exact Eq.refl _ | exact fun _ => Eq.refl _

theorem Part.same_putLenWritten {p : Part} (s : State) (x : Bool) (h : p ≠ .lenWritten) : p.same s (s.putLenWritten x) := by
  cases p <;> first | exact absurd rfl h | exact Eq.refl _ | exact fun _ => Eq.refl _

theorem Part.same_putShared {p : Part} (s : State) (x : List ((Nat × Nat) × (Nat × Nat))) (h : p ≠ .shared) : p.same s (s.putShared x) := by
  cases p <;> first | exact absurd rfl h | exact Eq.refl _ | exact fun _ => Eq.refl _

theorem Part.same_putHeld {p : Part} (s : State) (x : Bool) (h : p ≠ .held) : p.same s (s.putHeld x) := by
  cases p <;> first | exact absurd rfl h | exact Eq.refl _ | exact fun _ => Eq.refl _

theorem Part.same_putVisits {p : Part} (s : State) (x : List Nat) (h : p ≠ .visits) : p.same s (s.putVisits x) := by
  cases p <;> first | exact absurd rfl h | exact Eq.refl _ | exact fun _ => Eq.refl _

theorem Part.same_emit (p : Part) (s : State) (o : Out) : p.same s (s.emit o) := by
  cases p <;> first | exact Eq.refl _ | exact fun _ => Eq.refl _

theorem Part.same_begun (p : Part) (s : State) : p.same s s.begun := by
  cases p <;> first | exact Eq.refl _ | exact fun _ => Eq.refl _

theorem Part.same_symm {p : Part} {s t : State} (h : p.same s t) : p.same t s := by
  cases p <;> simp only [Part.same] at h ⊢ <;> simp [h]

/-- What leaves a part alone does not change whether it is the same. -/
theorem Part.same_iff {p : Part} {s t u : State} (h : p.same t u) : p.same s u ↔ p.same s t :=
  ⟨fun k => Part.same_trans k (Part.same_symm h), fun k => Part.same_trans k h⟩

@[simp] theorem Part.same_wr_iff {p : Part} (s t : State) (f : Fld) (i v : Nat) (h : p ≠ .fld f i) : p.same s (t.wr f i v) ↔ p.same s t :=
  Part.same_iff (Part.same_wr t f i v h)

@[simp] theorem Part.same_wrMirror_iff {p : Part} (s t : State) (f : Fld) (i v : Nat) (h : p ≠ .mir f i) : p.same s (t.wrMirror f i v) ↔ p.same s t :=
  Part.same_iff (Part.same_wrMirror t f i v h)

@[simp] theorem Part.same_wrByte_iff {p : Part} (s t : State) (a : Nat) (b : Byte) (h : p ≠ .byte a) : p.same s (t.wrByte a b) ↔ p.same s t :=
  Part.same_iff (Part.same_wrByte t a b h)

@[simp] theorem Part.same_setPort_iff {p : Part} (s t : State) (n : Nat) (q : PortSt) (h : p ≠ .port n) : p.same s (t.setPort n q) ↔ p.same s t :=
  Part.same_iff (Part.same_setPort t n q h)

@[simp] theorem Part.same_setFl_iff {p : Part} (s t : State) (n : Nat) (q : FlitSt) (h : p ≠ .flit n) : p.same s (t.setFl n q) ↔ p.same s t :=
  Part.same_iff (Part.same_setFl t n q h)

@[simp] theorem Part.same_setLane_iff {p : Part} (s t : State) (n : Nat) (q : LaneSt) (h : p ≠ .lane n) : p.same s (t.setLane n q) ↔ p.same s t :=
  Part.same_iff (Part.same_setLane t n q h)

@[simp] theorem Part.same_setHeat_iff {p : Part} (s t : State) (n : Nat) (q : HeatP) (h : p ≠ .heat n) : p.same s (t.setHeat n q) ↔ p.same s t :=
  Part.same_iff (Part.same_setHeat t n q h)

@[simp] theorem Part.same_setView_iff {p : Part} (s t : State) (n : Nat) (q : ViewSt) (h : p ≠ .view n) : p.same s (t.setView n q) ↔ p.same s t :=
  Part.same_iff (Part.same_setView t n q h)

@[simp] theorem Part.same_setSpare_iff {p : Part} (s t : State) (n : Nat) (q : SpareSt) (h : p ≠ .spare n) : p.same s (t.setSpare n q) ↔ p.same s t :=
  Part.same_iff (Part.same_setSpare t n q h)

@[simp] theorem Part.same_modCal_iff {p : Part} (s t : State) (n : Nat) (f : CalSt → CalSt) (h : p ≠ .cal n) : p.same s (t.modCal n f) ↔ p.same s t :=
  Part.same_iff (Part.same_modCal t n f h)

@[simp] theorem Part.same_modClk_iff {p : Part} (s t : State) (f : ClkSt → ClkSt) (h : p ≠ .clk) : p.same s (t.modClk f) ↔ p.same s t :=
  Part.same_iff (Part.same_modClk t f h)

@[simp] theorem Part.same_modBoot_iff {p : Part} (s t : State) (f : BootSt → BootSt) (h : p ≠ .boot) : p.same s (t.modBoot f) ↔ p.same s t :=
  Part.same_iff (Part.same_modBoot t f h)

@[simp] theorem Part.same_raise_iff {p : Part} (s t : State) (a b c : Nat) (h : p ≠ .raised) : p.same s (t.raise a b c) ↔ p.same s t :=
  Part.same_iff (Part.same_raise t a b c h)

@[simp] theorem Part.same_emit_iff {p : Part} (s t : State) (o : Out) : p.same s (t.emit o) ↔ p.same s t :=
  Part.same_iff (Part.same_emit p t o)

@[simp] theorem Part.same_begun_iff {p : Part} (s t : State) : p.same s (t.begun) ↔ p.same s t :=
  Part.same_iff (Part.same_begun p t)

@[simp] theorem Part.same_putCsb_iff {p : Part} (s t : State) (x : CsbSt) (h : p ≠ .csb) : p.same s (t.putCsb x) ↔ p.same s t :=
  Part.same_iff (Part.same_putCsb t x h)

@[simp] theorem Part.same_putBus_iff {p : Part} (s t : State) (x : BusSt) (h : p ≠ .bus) : p.same s (t.putBus x) ↔ p.same s t :=
  Part.same_iff (Part.same_putBus t x h)

@[simp] theorem Part.same_putSpdm_iff {p : Part} (s t : State) (x : SpdmSt) (h : p ≠ .spdm) : p.same s (t.putSpdm x) ↔ p.same s t :=
  Part.same_iff (Part.same_putSpdm t x h)

@[simp] theorem Part.same_putHolds_iff {p : Part} (s t : State) (x : List (Nat × Nat)) (h : p ≠ .holds) : p.same s (t.putHolds x) ↔ p.same s t :=
  Part.same_iff (Part.same_putHolds t x h)

@[simp] theorem Part.same_putCauses_iff {p : Part} (s t : State) (x : List (Nat × Nat)) (h : p ≠ .causes) : p.same s (t.putCauses x) ↔ p.same s t :=
  Part.same_iff (Part.same_putCauses t x h)

@[simp] theorem Part.same_putWinStart_iff {p : Part} (s t : State) (x : SMap Nat) (h : p ≠ .winStart) : p.same s (t.putWinStart x) ↔ p.same s t :=
  Part.same_iff (Part.same_putWinStart t x h)

@[simp] theorem Part.same_putEccPend_iff {p : Part} (s t : State) (x : List (Nat × Nat)) (h : p ≠ .eccPend) : p.same s (t.putEccPend x) ↔ p.same s t :=
  Part.same_iff (Part.same_putEccPend t x h)

@[simp] theorem Part.same_putScrubPos_iff {p : Part} (s t : State) (x : SMap Nat) (h : p ≠ .scrubPos) : p.same s (t.putScrubPos x) ↔ p.same s t :=
  Part.same_iff (Part.same_putScrubPos t x h)

@[simp] theorem Part.same_putLwTicks_iff {p : Part} (s t : State) (x : Nat) (h : p ≠ .lwTicks) : p.same s (t.putLwTicks x) ↔ p.same s t :=
  Part.same_iff (Part.same_putLwTicks t x h)

@[simp] theorem Part.same_putSnaps_iff {p : Part} (s t : State) (x : SMap Nat) (h : p ≠ .snaps) : p.same s (t.putSnaps x) ↔ p.same s t :=
  Part.same_iff (Part.same_putSnaps t x h)

@[simp] theorem Part.same_putStaged_iff {p : Part} (s t : State) (x : SMap Nat) (h : p ≠ .staged) : p.same s (t.putStaged x) ↔ p.same s t :=
  Part.same_iff (Part.same_putStaged t x h)

@[simp] theorem Part.same_putCompat_iff {p : Part} (s t : State) (x : List (Nat × Nat)) (h : p ≠ .compat) : p.same s (t.putCompat x) ↔ p.same s t :=
  Part.same_iff (Part.same_putCompat t x h)

@[simp] theorem Part.same_putSafe_iff {p : Part} (s t : State) (x : Bool) (h : p ≠ .safe) : p.same s (t.putSafe x) ↔ p.same s t :=
  Part.same_iff (Part.same_putSafe t x h)

@[simp] theorem Part.same_putAliveRun_iff {p : Part} (s t : State) (x : Bool) (h : p ≠ .aliveRun) : p.same s (t.putAliveRun x) ↔ p.same s t :=
  Part.same_iff (Part.same_putAliveRun t x h)

@[simp] theorem Part.same_putAlive_iff {p : Part} (s t : State) (x : Bool) (h : p ≠ .alive) : p.same s (t.putAlive x) ↔ p.same s t :=
  Part.same_iff (Part.same_putAlive t x h)

@[simp] theorem Part.same_putTap_iff {p : Part} (s t : State) (x : Option TapIns) (h : p ≠ .tap) : p.same s (t.putTap x) ↔ p.same s t :=
  Part.same_iff (Part.same_putTap t x h)

@[simp] theorem Part.same_putMisAge_iff {p : Part} (s t : State) (x : SMap Nat) (h : p ≠ .misAge) : p.same s (t.putMisAge x) ↔ p.same s t :=
  Part.same_iff (Part.same_putMisAge t x h)

@[simp] theorem Part.same_putZclr_iff {p : Part} (s t : State) (x : SMap Nat) (h : p ≠ .zclr) : p.same s (t.putZclr x) ↔ p.same s t :=
  Part.same_iff (Part.same_putZclr t x h)

@[simp] theorem Part.same_putSecDefer_iff {p : Part} (s t : State) (x : Option Bool) (h : p ≠ .secDefer) : p.same s (t.putSecDefer x) ↔ p.same s t :=
  Part.same_iff (Part.same_putSecDefer t x h)

@[simp] theorem Part.same_putRaised_iff {p : Part} (s t : State) (x : List Ev) (h : p ≠ .raised) : p.same s (t.putRaised x) ↔ p.same s t :=
  Part.same_iff (Part.same_putRaised t x h)

@[simp] theorem Part.same_putRefused_iff {p : Part} (s t : State) (x : Bool) : p.same s (t.putRefused x) ↔ p.same s t :=
  Part.same_iff (Part.same_putRefused p t x)

@[simp] theorem Part.same_putFresh_iff {p : Part} (s t : State) (x : Nat) (h : p ≠ .fresh) : p.same s (t.putFresh x) ↔ p.same s t :=
  Part.same_iff (Part.same_putFresh t x h)

@[simp] theorem Part.same_putLenWritten_iff {p : Part} (s t : State) (x : Bool) (h : p ≠ .lenWritten) : p.same s (t.putLenWritten x) ↔ p.same s t :=
  Part.same_iff (Part.same_putLenWritten t x h)

@[simp] theorem Part.same_putShared_iff {p : Part} (s t : State) (x : List ((Nat × Nat) × (Nat × Nat))) (h : p ≠ .shared) : p.same s (t.putShared x) ↔ p.same s t :=
  Part.same_iff (Part.same_putShared t x h)

@[simp] theorem Part.same_putHeld_iff {p : Part} (s t : State) (x : Bool) (h : p ≠ .held) : p.same s (t.putHeld x) ↔ p.same s t :=
  Part.same_iff (Part.same_putHeld t x h)

@[simp] theorem Part.same_putVisits_iff {p : Part} (s t : State) (x : List Nat) (h : p ≠ .visits) : p.same s (t.putVisits x) ↔ p.same s t :=
  Part.same_iff (Part.same_putVisits t x h)

/-! Settling -/

/-- Where no event waits, settling changes nothing. -/
theorem State.settle_quiet (s : State) (h : s.raised = []) : s.settle = s := by
  unfold State.settle
  rw [show s.raised.length + 64 = (s.raised.length + 63) + 1 from rfl, State.settleEvs, h]

/-- Settling leaves no event waiting. -/
theorem State.settleEvs_raised (k : Nat) (s : State) : (s.settleEvs k).raised = [] := by
  induction k generalizing s with
  | zero => rfl
  | succ k ih =>
    unfold State.settleEvs
    split
    · assumption
    · exact ih _

theorem State.settle_raised (s : State) : s.settle.raised = [] := s.settleEvs_raised _

/-- A well-formed command with one effect ends in the effect's state, its events counted. -/
theorem effect_ok {ok : Bool} (h : ok = true) (s : State) (k : State → State) : effect ok s k = .next (k s.begun).settle := by
  simp [effect, guarded, h, finish]

/-- The same where the effect reports no event. -/
theorem effect_quiet {ok : Bool} (h : ok = true) (s : State) (k : State → State) (hq : (k s.begun).raised = []) :
    effect ok s k = .next (k s.begun) := by
  rw [effect_ok h, State.settle_quiet _ hq]

/-- A command of one effect that reports no event completes as its effect says. -/
theorem Gives.of_effect {c : Instr} {s : State} {vs : Vals} {ps : List Part} {outs : List Out} {P : State → Prop} {ok : Bool}
    {k : State → State} (he : exec c s = effect ok s k) (hw : ok = true) (hq : (k s.begun).raised = [])
    (hv : Holds vs (k s.begun)) (hf : Only (vs.parts ++ ps) s (k s.begun)) (ho : (k s.begun).out = outs)
    (hp : P (k s.begun)) : Gives c s vs ps outs P :=
  ⟨_, he.trans (effect_quiet hw s k hq), hv, hf, ho, hp⟩

/-- A command of one effect that reports events completes as its effect says. -/
theorem Reports.of_effect {c : Instr} {s : State} {vs : Vals} {ps : List Part} {evs : List Ev} {outs : List Out}
    {P : State → Prop} {ok : Bool} {k : State → State} (he : exec c s = effect ok s k) (hw : ok = true)
    (hv : Holds vs (k s.begun)) (hf : Only (vs.parts ++ .raised :: ps) s (k s.begun)) (hq : (k s.begun).raised = evs)
    (ho : (k s.begun).out = outs) (hp : P (k s.begun)) : Reports c s vs ps evs outs P :=
  ⟨_, he.trans (effect_ok hw s k), hv, hf, hq, ho, hp⟩

/-- Whatever a command answers with as its next state, no event of it still waits. -/
theorem guarded_raised {ok : Bool} {s t : State} {k : State → Res} (h : guarded ok s k = .next t) : t.raised = [] := by
  unfold guarded at h
  split at h
  · generalize k s.begun = r at h
    cases r with
    | next u => simp only [finish, Host.Outcome.next.injEq] at h; subst h; exact u.settle_raised
    | fault => simp [finish] at h
    | refused => simp [finish] at h
  · cases h

end Machine
end Sys2Proof
end

