-- ==== Sys2Proof/Laws/Exec.lean ====
section
/-! SUPPORT. Each command's meaning, by the dispatch: one equation for each command, so that no proof unfolds the whole of
`exec`. -/
namespace Sys2Proof.Machine

section
variable (s : State)

theorem exec_powerOnReset (st : Straps) : exec (.powerOnReset st) s = execPowerOnReset st s := rfl
theorem exec_pinReset (st : Straps) : exec (.pinReset st) s = execPinReset st s := rfl
theorem exec_brownOut (rail : Nat) : exec (.brownOut rail) s = execBrownOut rail s := rfl
theorem exec_glbRstDevice (r : Requester) : exec (.glbRstDevice r) s = execGlbRstDevice r s := rfl
theorem exec_glbRstLantern (r : Requester) : exec (.glbRstLantern r) s = execGlbRstLantern r s := rfl
theorem exec_lanternRestart : exec (.lanternRestart) s = execLanternRestart s := rfl
theorem exec_portCtlEn (r : Requester) (port : Nat) (en : Bool) : exec (.portCtlEn r port en) s = execPortCtlEn r port en s :=
  rfl
theorem exec_portCtlRst (r : Requester) (port : Nat) : exec (.portCtlRst r port) s = execPortCtlRst r port s := rfl
theorem exec_portResetDone (port : Nat) : exec (.portResetDone port) s = execPortResetDone port s := rfl
theorem exec_perstAssert (port : Nat) : exec (.perstAssert port) s = execPerstAssert port s := rfl
theorem exec_perstRelease (port : Nat) : exec (.perstRelease port) s = execPerstRelease port s := rfl
theorem exec_presenceAccepted (port : Nat) (high : Bool) : exec (.presenceAccepted port high) s = execPresenceAccepted port high s :=
  rfl
theorem exec_quadCtlRst (r : Requester) (quad : Nat) : exec (.quadCtlRst r quad) s = execQuadCtlRst r quad s := rfl
theorem exec_cmpCsbCtlRst (r : Requester) : exec (.cmpCsbCtlRst r) s = execCmpCsbCtlRst r s := rfl
theorem exec_cmpCsbCtlEn (r : Requester) (en : Bool) : exec (.cmpCsbCtlEn r en) s = execCmpCsbCtlEn r en s := rfl
theorem exec_laneRxCtlFreeze (r : Requester) (ls : Nat) (frz : Bool) : exec (.laneRxCtlFreeze r ls frz) s = execLaneRxCtlFreeze r ls frz s :=
  rfl
theorem exec_laneRxCtlRestart (r : Requester) (ls : Nat) : exec (.laneRxCtlRestart r ls) s = execLaneRxCtlRestart r ls s :=
  rfl
theorem exec_laneRxCtlCntClr (r : Requester) (ls : Nat) : exec (.laneRxCtlCntClr r ls) s = execLaneRxCtlCntClr r ls s :=
  rfl
theorem exec_signalDetect (ls : Nat) : exec (.signalDetect ls) s = execSignalDetect ls s := rfl
theorem exec_cdrLock (ls : Nat) : exec (.cdrLock ls) s = execCdrLock ls s := rfl
theorem exec_lossOfSignal (ls : Nat) : exec (.lossOfSignal ls) s = execLossOfSignal ls s := rfl
theorem exec_adaptConverged (ls : Nat) (ctle : Nat) (dfe1 : Nat) (ffeM1 : Nat) (ffeP1 : Nat) : exec (.adaptConverged ls ctle dfe1 ffeM1 ffeP1) s = execAdaptConverged ls ctle dfe1 ffeM1 ffeP1 s :=
  rfl
theorem exec_lossOfLock (ls : Nat) : exec (.lossOfLock ls) s = execLossOfLock ls s := rfl
theorem exec_relockTimeout (ls : Nat) : exec (.relockTimeout ls) s = execRelockTimeout ls s := rfl
theorem exec_ebWatermarkCrossing (ls : Nat) (fill : Nat) : exec (.ebWatermarkCrossing ls fill) s = execEbWatermarkCrossing ls fill s :=
  rfl
theorem exec_elasticBufferError (ls : Nat) (full : Bool) : exec (.elasticBufferError ls full) s = execElasticBufferError ls full s :=
  rfl
theorem exec_skpOrderedSet (ls : Nat) (fill : Nat) (unit : Nat) : exec (.skpOrderedSet ls fill unit) s = execSkpOrderedSet ls fill unit s :=
  rfl
theorem exec_lanePrbsCtlClr (r : Requester) (ls : Nat) : exec (.lanePrbsCtlClr r ls) s = execLanePrbsCtlClr r ls s :=
  rfl
theorem exec_prbsLock (ls : Nat) : exec (.prbsLock ls) s = execPrbsLock ls s := rfl
theorem exec_prbsLockLoss (ls : Nat) (bits : Nat) (errs : Nat) : exec (.prbsLockLoss ls bits errs) s = execPrbsLockLoss ls bits errs s :=
  rfl
theorem exec_marginCommand (port : Nat) (lane : Nat) (rxnum : Nat) (ask : MarginAsk) : exec (.marginCommand port lane rxnum ask) s = execMarginCommand port lane rxnum ask s :=
  rfl
theorem exec_marginStepSetup (ls : Nat) : exec (.marginStepSetup ls) s = execMarginStepSetup ls s := rfl
theorem exec_phrCtlEn (r : Requester) (quad : Nat) (en : Bool) : exec (.phrCtlEn r quad en) s = execPhrCtlEn r quad en s :=
  rfl
theorem exec_phrWdogClr (r : Requester) (quad : Nat) : exec (.phrWdogClr r quad) s = execPhrWdogClr r quad s := rfl
theorem exec_phraseOverrun (quad : Nat) : exec (.phraseOverrun quad) s = execPhraseOverrun quad s := rfl
theorem exec_mirrorRefresh (unit : MirrorUnit) : exec (.mirrorRefresh unit) s = execMirrorRefresh unit s := rfl
theorem exec_phraseMemoryWrite (r : Requester) (addr : Nat) (val : Nat) : exec (.phraseMemoryWrite r addr val) s = execPhraseMemoryWrite r addr val s :=
  rfl
theorem exec_detectRetry (port : Nat) (outer : List Nat) (inner : List Nat) : exec (.detectRetry port outer inner) s = execDetectRetry port outer inner s :=
  rfl
theorem exec_trainingSet (port : Nat) (ts : TrainSet) : exec (.trainingSet port ts) s = execTrainingSet port ts s :=
  rfl
theorem exec_coefficientRequest (ls : Nat) (req : CoefReq) : exec (.coefficientRequest ls req) s = execCoefficientRequest ls req s :=
  rfl
theorem exec_eqTrialEnd (port : Nat) (inner : Bool) (tr : Trial) : exec (.eqTrialEnd port inner tr) s = execEqTrialEnd port inner tr s :=
  rfl
theorem exec_execTmo (port : Nat) (inner : Bool) : exec (.execTmo port inner) s = execExecTmo port inner s := rfl
theorem exec_l0pTransition (port : Nat) (width : Nat) : exec (.l0pTransition port width) s = execL0pTransition port width s :=
  rfl
theorem exec_l1Entry (port : Nat) : exec (.l1Entry port) s = execL1Entry port s := rfl
theorem exec_l1Exit (port : Nat) (inner : Bool) (lane : Nat) : exec (.l1Exit port inner lane) s = execL1Exit port inner s lane := rfl
theorem exec_hotReset (port : Nat) (inner : Bool) : exec (.hotReset port inner) s = execHotReset port inner s := rfl
theorem exec_disabledExit (port : Nat) (inner : Bool) : exec (.disabledExit port inner) s = execDisabledExit port inner s :=
  rfl
theorem exec_trainingWatchdog (port : Nat) : exec (.trainingWatchdog port) s = execTrainingWatchdog port s := rfl
theorem exec_timeoutIdleEnd (port : Nat) : exec (.timeoutIdleEnd port) s = execTimeoutIdleEnd port s := rfl
theorem exec_unannouncedIdle (port : Nat) (inner : Bool) : exec (.unannouncedIdle port inner) s = execUnannouncedIdle port inner s :=
  rfl
theorem exec_portCtlRetrain (r : Requester) (port : Nat) : exec (.portCtlRetrain r port) s = execPortCtlRetrain r port s :=
  rfl
theorem exec_portCtlCntClr (r : Requester) (port : Nat) : exec (.portCtlCntClr r port) s = execPortCtlCntClr r port s :=
  rfl
theorem exec_portBindTagWrite (r : Requester) (port : Nat) (tag : Nat) : exec (.portBindTagWrite r port tag) s = execPortBindTagWrite r port tag s :=
  rfl
theorem exec_dataStreamStart (port skewOI skewIO : Nat) : exec (.dataStreamStart port skewOI skewIO) s = execDataStreamStart port s skewOI skewIO := rfl
theorem exec_dataStreamEnd (port : Nat) : exec (.dataStreamEnd port) s = execDataStreamEnd port s := rfl
theorem exec_flitDecoded (port : Nat) (dir : Nat) (fl : Flit) : exec (.flitDecoded port dir fl) s = execFlitDecoded port dir fl s :=
  rfl
theorem exec_provisionalLockExpiry (port : Nat) (dir : Nat) : exec (.provisionalLockExpiry port dir) s = execProvisionalLockExpiry port dir s :=
  rfl
theorem exec_lockLoss (port : Nat) (dir : Nat) : exec (.lockLoss port dir) s = execLockLoss port dir s := rfl
theorem exec_orderedSetMisplaced (port : Nat) (dir : Nat) : exec (.orderedSetMisplaced port dir) s = execOrderedSetMisplaced port dir s :=
  rfl
theorem exec_portFlitCtlCntClr (r : Requester) (port : Nat) : exec (.portFlitCtlCntClr r port) s = execPortFlitCtlCntClr r port s :=
  rfl
theorem exec_portCapCtlArm (r : Requester) (port : Nat) : exec (.portCapCtlArm r port) s = execPortCapCtlArm r port s :=
  rfl
theorem exec_portCapCtlForce (r : Requester) (port : Nat) : exec (.portCapCtlForce r port) s = execPortCapCtlForce r port s :=
  rfl
theorem exec_portCapCtlStop (r : Requester) (port : Nat) : exec (.portCapCtlStop r port) s = execPortCapCtlStop r port s :=
  rfl
theorem exec_captureRecordWrite (port : Nat) : exec (.captureRecordWrite port) s = execCaptureRecordWrite port s :=
  rfl
theorem exec_captureDone (port : Nat) : exec (.captureDone port) s = execCaptureDone port s := rfl
theorem exec_captureWindowWrite (r : Requester) (addr : Nat) (val : Nat) : exec (.captureWindowWrite r addr val) s = execCaptureWindowWrite r addr val s :=
  rfl
theorem exec_joinRsp (h : CsbHdr) (port : Nat) (refuse : Bool) (rows : Bool) : exec (.joinRsp h port refuse rows) s = execJoinRsp h port refuse rows s :=
  rfl
theorem exec_joinTmo (port : Nat) : exec (.joinTmo port) s = execJoinTmo port s := rfl
theorem exec_lockRpt (h : CsbHdr) (port : Nat) (rate : Nat) (companion : Bool) (lanes : Nat) : exec (.lockRpt h port rate companion lanes) s = execLockRpt h port rate companion lanes s :=
  rfl
theorem exec_clockTmo (port : Nat) : exec (.clockTmo port) s = execClockTmo port s := rfl
theorem exec_ceqDone (h : CsbHdr) (port : Nat) (none_ : Bool) : exec (.ceqDone h port none_) s = execCeqDone h port none_ s :=
  rfl
theorem exec_ceqTmo (port : Nat) : exec (.ceqTmo port) s = execCeqTmo port s := rfl
theorem exec_fallbackAck (h : CsbHdr) (port : Nat) : exec (.fallbackAck h port) s = execFallbackAck h port s := rfl
theorem exec_fallbackAckTimeout (port : Nat) : exec (.fallbackAckTimeout port) s = execFallbackAckTimeout port s :=
  rfl
theorem exec_fallbackHoldTimeout (port : Nat) : exec (.fallbackHoldTimeout port) s = execFallbackHoldTimeout port s :=
  rfl
theorem exec_leave (h : CsbHdr) (port : Nat) (reason : Nat) : exec (.leave h port reason) s = execLeave h port reason s :=
  rfl
theorem exec_rowLoss (port : Nat) : exec (.rowLoss port) s = execRowLoss port s := rfl
theorem exec_csbAligned : exec (.csbAligned) s = execCsbAligned s := rfl
theorem exec_hello (major : Nat) (minor : Nat) (role : Nat) (cap : Nat) : exec (.hello major minor role cap) s = execHello major minor role cap s :=
  rfl
theorem exec_helloTimer : exec (.helloTimer) s = execHelloTimer s := rfl
theorem exec_csbCodeViolationLoss : exec (.csbCodeViolationLoss) s = execCsbCodeViolationLoss s := rfl
theorem exec_lossTmo : exec (.lossTmo) s = execLossTmo s := rfl
theorem exec_ack (vc : Nat) (num : Nat) : exec (.ack vc num) s = execAck vc num s := rfl
theorem exec_rtxTmo (vc : Nat) : exec (.rtxTmo vc) s = execRtxTmo vc s := rfl
theorem exec_reservedCsbFrame (h : CsbHdr) (why : BadFrame) : exec (.reservedCsbFrame h why) s = execReservedCsbFrame h why s :=
  rfl
theorem exec_beacon (drip : Nat) (heartbeat : Nat) (tally : Nat) (flags : Nat) : exec (.beacon drip heartbeat tally flags) s = execBeacon drip heartbeat tally flags s :=
  rfl
theorem exec_spareReq (h : CsbHdr) (half : Nat) (lane : Nat) (port : Nat) : exec (.spareReq h half lane port) s = execSpareReq h half lane port s :=
  rfl
theorem exec_spareRsp (h : CsbHdr) (half : Nat) (lane : Nat) (res : Nat) : exec (.spareRsp h half lane res) s = execSpareRsp h half lane res s :=
  rfl
theorem exec_spareRspTimeout (half : Nat) : exec (.spareRspTimeout half) s = execSpareRspTimeout half s := rfl
theorem exec_spareTrack (half : Nat) (offset : Nat) : exec (.spareTrack half offset) s = execSpareTrack half offset s :=
  rfl
theorem exec_spareSwitchover (half : Nat) : exec (.spareSwitchover half) s = execSpareSwitchover half s := rfl
theorem exec_spareRxOn (h : CsbHdr) (half : Nat) (lane : Nat) (uses : Bool) : exec (.spareRxOn h half lane uses) s = execSpareRxOn h half lane uses s :=
  rfl
theorem exec_spareTmo (half : Nat) : exec (.spareTmo half) s = execSpareTmo half s := rfl
theorem exec_laneHealth (h : CsbHdr) (port : Nat) (window : Nat) (counts : List Nat) : exec (.laneHealth h port window counts) s = execLaneHealth h port window counts s :=
  rfl
theorem exec_spareWindow : exec (.spareWindow) s = execSpareWindow s := rfl
theorem exec_spareCtlReq (r : Requester) (lane : Nat) : exec (.spareCtlReq r lane) s = execSpareCtlReq r lane s := rfl
theorem exec_spareCtlRelS0 (r : Requester) : exec (.spareCtlRelS0 r) s = execSpareCtlRelS0 r s := rfl
theorem exec_spareCtlRelS1 (r : Requester) : exec (.spareCtlRelS1 r) s = execSpareCtlRelS1 r s := rfl
theorem exec_spareCtlCntClr (r : Requester) : exec (.spareCtlCntClr r) s = execSpareCtlCntClr r s := rfl
theorem exec_cmpCsbCtlCntClr (r : Requester) : exec (.cmpCsbCtlCntClr r) s = execCmpCsbCtlCntClr r s := rfl
theorem exec_slotDecision (port young : Nat) (ecc : Ecc) (undecoded unsent : Nat) : exec (.slotDecision port young ecc undecoded unsent) s = execSlotDecision port young ecc s undecoded unsent :=
  rfl
theorem exec_replaySlot (port : Nat) (slot : List Nat) (arr : BodyArrival) : exec (.replaySlot port slot arr) s = execReplaySlot port slot arr s :=
  rfl
theorem exec_replayRequestSlot (port : Nat) (slot : List Nat) : exec (.replayRequestSlot port slot) s = execReplayRequestSlot port slot s :=
  rfl
theorem exec_portViewMessageSlot (port : Nat) (slot : List Nat) : exec (.portViewMessageSlot port slot) s = execPortViewMessageSlot port slot s :=
  rfl
theorem exec_fillSlot (port : Nat) (slot : List Nat) : exec (.fillSlot port slot) s = execFillSlot port slot s := rfl
theorem exec_badSlot (port : Nat) (slot : List Nat) : exec (.badSlot port slot) s = execBadSlot port slot s := rfl
theorem exec_holdDeparture (port : Nat) : exec (.holdDeparture port) s = execHoldDeparture port s := rfl
theorem exec_erratumDeadline (port : Nat) : exec (.erratumDeadline port) s = execErratumDeadline port s := rfl
theorem exec_cmpSlotCtlCntClr (r : Requester) : exec (.cmpSlotCtlCntClr r) s = execCmpSlotCtlCntClr r s := rfl
theorem exec_cacheWriteBack (port : Nat) (ecc : Ecc) : exec (.cacheWriteBack port ecc) s = execCacheWriteBack port ecc s :=
  rfl
theorem exec_flushEnd : exec (.flushEnd) s = execFlushEnd s := rfl
theorem exec_heatCtlRel (r : Requester) : exec (.heatCtlRel r) s = execHeatCtlRel r s := rfl
theorem exec_autoRelease : exec (.autoRelease) s = execAutoRelease s := rfl
theorem exec_clearEnd : exec (.clearEnd) s = execClearEnd s := rfl
theorem exec_heatPctlClr (r : Requester) (part : Nat) : exec (.heatPctlClr r part) s = execHeatPctlClr r part s := rfl
theorem exec_partitionClearEnd (part : Nat) : exec (.partitionClearEnd part) s = execPartitionClearEnd part s := rfl
theorem exec_heatZctlClr (r : Requester) (win : Nat) : exec (.heatZctlClr r win) s = execHeatZctlClr r win s := rfl
theorem exec_zoomClearEnd (win : Nat) : exec (.zoomClearEnd win) s = execZoomClearEnd win s := rfl
theorem exec_heatCtlCntClr (r : Requester) : exec (.heatCtlCntClr r) s = execHeatCtlCntClr r s := rfl
theorem exec_heatPlfsrWrite (r : Requester) (part : Nat) (val : Nat) : exec (.heatPlfsrWrite r part val) s = execHeatPlfsrWrite r part val s :=
  rfl
theorem exec_heatWindowWrite (r : Requester) (addr : Nat) (val : Nat) : exec (.heatWindowWrite r addr val) s = execHeatWindowWrite r addr val s :=
  rfl
theorem exec_chunkReady (part : Nat) (ecc : List Nat) : exec (.chunkReady part ecc) s = execChunkReady part ecc s :=
  rfl
theorem exec_dripBoundary (d : DripIn) : exec (.dripBoundary d) s = execDripBoundary d s := rfl
theorem exec_crystalPresent : exec (.crystalPresent) s = execCrystalPresent s := rfl
theorem exec_pllLock (pll : Pll) : exec (.pllLock pll) s = execPllLock pll s := rfl
theorem exec_clkSrcSafe (r : Requester) (v : Bool) : exec (.clkSrcSafe r v) s = execClkSrcSafe r v s := rfl
theorem exec_clkSrcMgmt (r : Requester) (v : Bool) : exec (.clkSrcMgmt r v) s = execClkSrcMgmt r v s := rfl
theorem exec_clkSrcCoreRef (r : Requester) (v : Nat) : exec (.clkSrcCoreRef r v) s = execClkSrcCoreRef r v s := rfl
theorem exec_clkSrcOref (r : Requester) (v : Bool) : exec (.clkSrcOref r v) s = execClkSrcOref r v s := rfl
theorem exec_clkSrcIref (r : Requester) (v : Bool) : exec (.clkSrcIref r v) s = execClkSrcIref r v s := rfl
theorem exec_sourceLoss (src : Nat) : exec (.sourceLoss src) s = execSourceLoss src s := rfl
theorem exec_sourceReturn (src : Nat) : exec (.sourceReturn src) s = execSourceReturn src s := rfl
theorem exec_coreRestart (ioscCycles : Nat) : exec (.coreRestart ioscCycles) s = execCoreRestart ioscCycles s := rfl
theorem exec_clkFmCtlStart (r : Requester) : exec (.clkFmCtlStart r) s = execClkFmCtlStart r s := rfl
theorem exec_fmWindowEnd (count : Nat) : exec (.fmWindowEnd count) s = execFmWindowEnd count s := rfl
theorem exec_timesyncEdge (ns : Int) : exec (.timesyncEdge ns) s = execTimesyncEdge ns s := rfl
theorem exec_timesyncMiss : exec (.timesyncMiss) s = execTimesyncMiss s := rfl
theorem exec_clkTsyncCtlLoad (r : Requester) : exec (.clkTsyncCtlLoad r) s = execClkTsyncCtlLoad r s := rfl
theorem exec_clkSchedCtlArm (r : Requester) (slot : Nat) : exec (.clkSchedCtlArm r slot) s = execClkSchedCtlArm r slot s :=
  rfl
theorem exec_clkSchedCtlCancel (r : Requester) (slot : Nat) : exec (.clkSchedCtlCancel r slot) s = execClkSchedCtlCancel r slot s :=
  rfl
theorem exec_clkCtlCntClr (r : Requester) : exec (.clkCtlCntClr r) s = execClkCtlCntClr r s := rfl
theorem exec_snapshotLoRead (r : Requester) (addr : Nat) (ns : Nat) : exec (.snapshotLoRead r addr ns) s = execSnapshotLoRead r addr ns s :=
  rfl
theorem exec_pairLoWrite (r : Requester) (addr : Nat) (val : Nat) : exec (.pairLoWrite r addr val) s = execPairLoWrite r addr val s :=
  rfl
theorem exec_pairHiWrite (r : Requester) (addr : Nat) (val : Nat) : exec (.pairHiWrite r addr val) s = execPairHiWrite r addr val s :=
  rfl
theorem exec_avsTarget (mv : Nat) : exec (.avsTarget mv) s = execAvsTarget mv s := rfl
theorem exec_avsCommand : exec (.avsCommand) s = execAvsCommand s := rfl
theorem exec_avsFault : exec (.avsFault) s = execAvsFault s := rfl
theorem exec_ldoFault (inst : Nat) : exec (.ldoFault inst) s = execLdoFault inst s := rfl
theorem exec_bifurcationWrite (r : Requester) (val : Nat) : exec (.bifurcationWrite r val) s = execBifurcationWrite r val s :=
  rfl
theorem exec_quadUngate (quad : Nat) : exec (.quadUngate quad) s = execQuadUngate quad s := rfl
theorem exec_temperatureSample (temps : List Int) : exec (.temperatureSample temps) s = execTemperatureSample temps s :=
  rfl
theorem exec_thermalTrip : exec (.thermalTrip) s = execThermalTrip s := rfl
theorem exec_tripRelease : exec (.tripRelease) s = execTripRelease s := rfl
theorem exec_pwrCtlCalRun (r : Requester) (mask : Nat) : exec (.pwrCtlCalRun r mask) s = execPwrCtlCalRun r mask s :=
  rfl
theorem exec_calRunEnd (quad : Nat) : exec (.calRunEnd quad) s = execCalRunEnd quad s := rfl
theorem exec_stepCorrection (ls : Nat) : exec (.stepCorrection ls) s = execStepCorrection ls s := rfl
theorem exec_pwrCtlCntClr (r : Requester) : exec (.pwrCtlCntClr r) s = execPwrCtlCntClr r s := rfl
theorem exec_secureGateRequest (gate : Bool) : exec (.secureGateRequest gate) s = execSecureGateRequest gate s := rfl
theorem exec_secureDomainRelease : exec (.secureDomainRelease) s = execSecureDomainRelease s := rfl
theorem exec_secureAccessViolation : exec (.secureAccessViolation) s = execSecureAccessViolation s := rfl
theorem exec_entdaa (addr : Nat) : exec (.entdaa addr) s = execEntdaa addr s := rfl
theorem exec_setdasa (static : Nat) (addr : Nat) : exec (.setdasa static addr) s = execSetdasa static addr s := rfl
theorem exec_setaasa : exec (.setaasa) s = execSetaasa s := rfl
theorem exec_setnewda (addr : Nat) (new_ : Nat) : exec (.setnewda addr new_) s = execSetnewda addr new_ s := rfl
theorem exec_rstdaa : exec (.rstdaa) s = execRstdaa s := rfl
theorem exec_enec (ibi : Bool) : exec (.enec ibi) s = execEnec ibi s := rfl
theorem exec_disec (ibi : Bool) : exec (.disec ibi) s = execDisec ibi s := rfl
theorem exec_getpid : exec (.getpid) s = execGetpid s := rfl
theorem exec_getbcr : exec (.getbcr) s = execGetbcr s := rfl
theorem exec_getdcr : exec (.getdcr) s = execGetdcr s := rfl
theorem exec_getstatus : exec (.getstatus) s = execGetstatus s := rfl
theorem exec_getmwl : exec (.getmwl) s = execGetmwl s := rfl
theorem exec_setmwl (len : Nat) : exec (.setmwl len) s = execSetmwl len s := rfl
theorem exec_getmrl : exec (.getmrl) s = execGetmrl s := rfl
theorem exec_setmrl (len : Nat) : exec (.setmrl len) s = execSetmrl len s := rfl
theorem exec_getmxds : exec (.getmxds) s = execGetmxds s := rfl
theorem exec_i3cPrivateRead (refused : Bool) : exec (.i3cPrivateRead refused) s = execI3cPrivateRead s refused := rfl
theorem exec_smbusWrite (pec : Option Bool) (pkt : List Nat) : exec (.smbusWrite pec pkt) s = execSmbusWrite pec pkt s :=
  rfl
theorem exec_sclLowTimeout : exec (.sclLowTimeout) s = execSclLowTimeout s := rfl
theorem exec_alertResponse : exec (.alertResponse) s = execAlertResponse s := rfl
theorem exec_smbusBlockRead (refused : Bool) : exec (.smbusBlockRead refused) s = execSmbusBlockRead s refused := rfl
theorem exec_smbusPacketTimeout : exec (.smbusPacketTimeout) s = execSmbusPacketTimeout s := rfl
theorem exec_setEndpointId (eid : Nat) (src : Nat) (tag : Nat) : exec (.setEndpointId eid src tag) s = execSetEndpointId eid src tag s :=
  rfl
theorem exec_getEndpointId (src : Nat) (tag : Nat) : exec (.getEndpointId src tag) s = execGetEndpointId src tag s :=
  rfl
theorem exec_getMctpVersionSupport (src : Nat) (tag : Nat) : exec (.getMctpVersionSupport src tag) s = execGetMctpVersionSupport src tag s :=
  rfl
theorem exec_getMessageTypeSupport (src : Nat) (tag : Nat) : exec (.getMessageTypeSupport src tag) s = execGetMessageTypeSupport src tag s :=
  rfl
theorem exec_getVendorDefinedMsgSupport (src : Nat) (tag : Nat) : exec (.getVendorDefinedMsgSupport src tag) s = execGetVendorDefinedMsgSupport src tag s :=
  rfl
theorem exec_efsiaRequest (rt : Route) (view : Nat) (entry : List Nat) (ecc : Ecc) : exec (.efsiaRequest rt view entry ecc) s = execEfsiaRequest rt view entry ecc s :=
  rfl
theorem exec_getInfo (view : Nat) : exec (.getInfo view) s = execGetInfo view s := rfl
theorem exec_read (view : Nat) (ecc : List Nat) (ns : Nat) : exec (.read view ecc ns) s = execRead view ecc s ns := rfl
theorem exec_write (view : Nat) : exec (.write view) s = execWrite view s := rfl
theorem exec_rmw (view : Nat) (ue : Bool) (ns : Nat) : exec (.rmw view ue ns) s = execRmw view s ue ns := rfl
theorem exec_resync (view : Nat) : exec (.resync view) s = execResync view s := rfl
theorem exec_portSummary (view : Nat) : exec (.portSummary view) s = execPortSummary view s := rfl
theorem exec_heatRead (view : Nat) (ecc : List Nat) : exec (.heatRead view ecc) s = execHeatRead view ecc s := rfl
theorem exec_zoomRead (view : Nat) (ecc : List Nat) : exec (.zoomRead view ecc) s = execZoomRead view ecc s := rfl
theorem exec_capRead (view : Nat) (ecc : List Nat) : exec (.capRead view ecc) s = execCapRead view ecc s := rfl
theorem exec_viewFreeze (r : Requester) (view : Nat) : exec (.viewFreeze r view) s = execViewFreeze r view s := rfl
theorem exec_viewThaw (r : Requester) (view : Nat) : exec (.viewThaw r view) s = execViewThaw r view s := rfl
theorem exec_mgmtViewCtlSave (r : Requester) (view : Nat) : exec (.mgmtViewCtlSave r view) s = execMgmtViewCtlSave r view s :=
  rfl
theorem exec_mgmtViewCtlRestore (r : Requester) (view : Nat) : exec (.mgmtViewCtlRestore r view) s = execMgmtViewCtlRestore r view s :=
  rfl
theorem exec_mgmtViewCtlRingRst (r : Requester) (view : Nat) : exec (.mgmtViewCtlRingRst r view) s = execMgmtViewCtlRingRst r view s :=
  rfl
theorem exec_mgmtViewCtlCntClr (r : Requester) (view : Nat) : exec (.mgmtViewCtlCntClr r view) s = execMgmtViewCtlCntClr r view s :=
  rfl
theorem exec_mgmtCtlCntClr (r : Requester) : exec (.mgmtCtlCntClr r) s = execMgmtCtlCntClr r s := rfl
theorem exec_mailboxWrite (r : Requester) (addr : Nat) (val : Nat) : exec (.mailboxWrite r addr val) s = execMailboxWrite r addr val s :=
  rfl
theorem exec_getVersion (src : Nat) : exec (.getVersion src) s = execGetVersion src s := rfl
theorem exec_getCapabilities (src : Nat) : exec (.getCapabilities src) s = execGetCapabilities src s := rfl
theorem exec_negotiateAlgorithms (src : Nat) (ok : Bool) : exec (.negotiateAlgorithms src ok) s = execNegotiateAlgorithms src ok s :=
  rfl
theorem exec_getDigests (src : Nat) : exec (.getDigests src) s = execGetDigests src s := rfl
theorem exec_getCertificate (src : Nat) (slot : Nat) (off : Nat) (len : Nat) : exec (.getCertificate src slot off len) s = execGetCertificate src slot off len s :=
  rfl
theorem exec_challenge (src : Nat) (slot : Nat) : exec (.challenge src slot) s = execChallenge src slot s := rfl
theorem exec_getMeasurements (src : Nat) (index : Nat) (signed : Bool) : exec (.getMeasurements src index signed) s = execGetMeasurements src index signed s :=
  rfl
theorem exec_spdmUnsupportedRequest (src : Nat) : exec (.spdmUnsupportedRequest src) s = execSpdmUnsupportedRequest src s :=
  rfl
theorem exec_startupStageComplete (inp : StageIn) : exec (.startupStageComplete inp) s = execStartupStageComplete inp s :=
  rfl
theorem exec_queryDeviceIdentifiers (src : Nat) : exec (.queryDeviceIdentifiers src) s = execQueryDeviceIdentifiers src s :=
  rfl
theorem exec_getFirmwareParameters (src : Nat) : exec (.getFirmwareParameters src) s = execGetFirmwareParameters src s :=
  rfl
theorem exec_requestUpdate (src : Nat) (maxXfer : Nat) : exec (.requestUpdate src maxXfer) s = execRequestUpdate src maxXfer s :=
  rfl
theorem exec_passComponentTable (src : Nat) (last : Bool) : exec (.passComponentTable src last) s = execPassComponentTable src last s :=
  rfl
theorem exec_updateComponent (src : Nat) (comp : Nat) (size : Nat) : exec (.updateComponent src comp size) s = execUpdateComponent src comp size s :=
  rfl
theorem exec_requestFirmwareData (src : Nat) (bytes : List Nat) : exec (.requestFirmwareData src bytes) s = execRequestFirmwareData src bytes s :=
  rfl
theorem exec_transferComplete (src : Nat) : exec (.transferComplete src) s = execTransferComplete src s := rfl
theorem exec_verifyComplete (src : Nat) (crypto : Crypto) (certOk : Bool) :
    exec (.verifyComplete src crypto certOk) s = execVerifyComplete src crypto s certOk :=
  rfl
theorem exec_applyComplete (src : Nat) (flashOk : Bool) : exec (.applyComplete src flashOk) s = execApplyComplete src flashOk s :=
  rfl
theorem exec_activateFirmware (src : Nat) (selfContained : Bool) : exec (.activateFirmware src selfContained) s = execActivateFirmware src selfContained s :=
  rfl
theorem exec_getStatus (src : Nat) : exec (.getStatus src) s = execGetStatus src s := rfl
theorem exec_cancelUpdateComponent (src : Nat) : exec (.cancelUpdateComponent src) s = execCancelUpdateComponent src s :=
  rfl
theorem exec_cancelUpdate (src : Nat) : exec (.cancelUpdate src) s = execCancelUpdate src s := rfl
theorem exec_updateAgentTimeout : exec (.updateAgentTimeout) s = execUpdateAgentTimeout s := rfl
theorem exec_bootUpdCtlConfirm (r : Requester) : exec (.bootUpdCtlConfirm r) s = execBootUpdCtlConfirm r s := rfl
theorem exec_bootUpdCtlRevert (r : Requester) : exec (.bootUpdCtlRevert r) s = execBootUpdCtlRevert r s := rfl
theorem exec_bootUpdCtlReact (r : Requester) : exec (.bootUpdCtlReact r) s = execBootUpdCtlReact r s := rfl
theorem exec_bootUpdCtlContinue (r : Requester) : exec (.bootUpdCtlContinue r) s = execBootUpdCtlContinue r s := rfl
theorem exec_bootUpdCtlCntClr (r : Requester) : exec (.bootUpdCtlCntClr r) s = execBootUpdCtlCntClr r s := rfl
theorem exec_confirmationWindowEnd : exec (.confirmationWindowEnd) s = execConfirmationWindowEnd s := rfl
theorem exec_autoConfirm : exec (.autoConfirm) s = execAutoConfirm s := rfl
theorem exec_tallyPassEnd : exec (.tallyPassEnd) s = execTallyPassEnd s := rfl
theorem exec_glbTallyCtlCommit (r : Requester) : exec (.glbTallyCtlCommit r) s = execGlbTallyCtlCommit r s := rfl
theorem exec_glbTallyCtlAdopt (r : Requester) : exec (.glbTallyCtlAdopt r) s = execGlbTallyCtlAdopt r s := rfl
theorem exec_sourceEvent (src : Nat) (inst : Nat) (detail : Nat) (level : Bool) : exec (.sourceEvent src inst detail level) s = execSourceEvent src inst detail level s :=
  rfl
theorem exec_wireFault (src : Nat) : exec (.wireFault src) s = execWireFault src s := rfl
theorem exec_sumpWindowEnd (src : Nat) : exec (.sumpWindowEnd src) s = execSumpWindowEnd src s := rfl
theorem exec_sumpClr (r : Requester) (src : Nat) : exec (.sumpClr r src) s = execSumpClr r src s := rfl
theorem exec_sumpClrAll (r : Requester) : exec (.sumpClrAll r) s = execSumpClrAll r s := rfl
theorem exec_sumpForce (r : Requester) (src : Nat) (inst : Nat) (detail : Nat) : exec (.sumpForce r src inst detail) s = execSumpForce r src inst detail s :=
  rfl
theorem exec_sumpCtlCntClr (r : Requester) : exec (.sumpCtlCntClr r) s = execSumpCtlCntClr r s := rfl
theorem exec_sumpCtlAvailClr (r : Requester) : exec (.sumpCtlAvailClr r) s = execSumpCtlAvailClr r s := rfl
theorem exec_sumpLwdogCtlKick (r : Requester) : exec (.sumpLwdogCtlKick r) s = execSumpLwdogCtlKick r s := rfl
theorem exec_lanternWatchdog : exec (.lanternWatchdog) s = execLanternWatchdog s := rfl
theorem exec_qstopAssert : exec (.qstopAssert) s = execQstopAssert s := rfl
theorem exec_qstopRelease : exec (.qstopRelease) s = execQstopRelease s := rfl
theorem exec_qstopDiscrepancy : exec (.qstopDiscrepancy) s = execQstopDiscrepancy s := rfl
theorem exec_eccWriteBack (mem : Nat) (word : Nat) (overtaken : Bool) : exec (.eccWriteBack mem word overtaken) s = execEccWriteBack mem word overtaken s :=
  rfl
theorem exec_eccLeak (mem : Nat) : exec (.eccLeak mem) s = execEccLeak mem s := rfl
theorem exec_scrubRead (mem : Nat) (ecc : Ecc) : exec (.scrubRead mem ecc) s = execScrubRead mem ecc s := rfl
theorem exec_compatWrite (r : Requester) (addr : Nat) (val : Nat) : exec (.compatWrite r addr val) s = execCompatWrite r addr val s :=
  rfl
theorem exec_cwWbufRead (r : Requester) : exec (.cwWbufRead r) s = execCwWbufRead r s := rfl
theorem exec_glbLockWrite (r : Requester) (val : Nat) : exec (.glbLockWrite r val) s = execGlbLockWrite r val s := rfl
theorem exec_extest (ins : TapIns) : exec (.extest ins) s = execExtest ins s := rfl
theorem exec_tapReset (how : TapRst) : exec (.tapReset how) s = execTapReset how s := rfl
theorem exec_registerWrite (r : Requester) (addr : Nat) (val : Nat) : exec (.registerWrite r addr val) s = execRegisterWrite r addr val s :=
  rfl
theorem exec_qstopDisagreement (chanB : Bool) (asserted : Bool) : exec (.qstopDisagreement chanB asserted) s = execQstopDisagreement chanB asserted s :=
  rfl
theorem exec_prsntLevelChange (port : Nat) (high : Bool) : exec (.prsntLevelChange port high) s = execPrsntLevelChange port high s :=
  rfl
theorem exec_ldoOutputInRange (inst : Nat) : exec (.ldoOutputInRange inst) s = execLdoOutputInRange inst s := rfl
theorem exec_wireFaultEnd (src : Nat) : exec (.wireFaultEnd src) s = execWireFaultEnd src s := rfl
theorem exec_flashProgramEraseComplete : exec (.flashProgramEraseComplete) s = execFlashProgramEraseComplete s := rfl
theorem exec_csbFrameCrcBad (bytes : List Nat) : exec (.csbFrameCrcBad bytes) s = execCsbFrameCrcBad s bytes := rfl
theorem exec_csbFrameBoundary : exec (.csbFrameBoundary) s = execCsbFrameBoundary s := rfl
theorem exec_saveRestoreComplete (view : Nat) : exec (.saveRestoreComplete view) s = execSaveRestoreComplete view s :=
  rfl
theorem exec_signingComplete : exec (.signingComplete) s = execSigningComplete s := rfl
theorem exec_sparePowerUp (half : Nat) : exec (.sparePowerUp half) s = execSparePowerUp half s := rfl

end

end Sys2Proof.Machine
end

