-- ==== Sys2Proof/Laws/Fields.lean ====
section
/-! SUPPORT. The width of each register field, so that what a write keeps of a number is evaluated. -/
namespace Sys2Proof.Machine

@[simp] theorem F.LANE_RX_CTL_CNT_CLR_width : F.LANE_RX_CTL_CNT_CLR.w = 1 := rfl
@[simp] theorem F.LANE_RX_CTL_RESTART_width : F.LANE_RX_CTL_RESTART.w = 1 := rfl
@[simp] theorem F.LANE_RX_CTL_CTLE_MAX_width : F.LANE_RX_CTL_CTLE_MAX.w = 6 := rfl
@[simp] theorem F.LANE_RX_CTL_DFE_EN_width : F.LANE_RX_CTL_DFE_EN.w = 1 := rfl
@[simp] theorem F.LANE_RX_CTL_POL_OVR_width : F.LANE_RX_CTL_POL_OVR.w = 1 := rfl
@[simp] theorem F.LANE_RX_CTL_POL_VAL_width : F.LANE_RX_CTL_POL_VAL.w = 1 := rfl
@[simp] theorem F.LANE_RX_CTL_FREEZE_width : F.LANE_RX_CTL_FREEZE.w = 1 := rfl
@[simp] theorem F.LANE_TX_CTL_SWING_width : F.LANE_TX_CTL_SWING.w = 1 := rfl
@[simp] theorem F.LANE_TX_CTL_OVR_width : F.LANE_TX_CTL_OVR.w = 1 := rfl
@[simp] theorem F.LANE_TX_COEF_CP1_width : F.LANE_TX_COEF_CP1.w = 6 := rfl
@[simp] theorem F.LANE_TX_COEF_C0_width : F.LANE_TX_COEF_C0.w = 6 := rfl
@[simp] theorem F.LANE_TX_COEF_CM1_width : F.LANE_TX_COEF_CM1.w = 6 := rfl
@[simp] theorem F.LANE_TX_COEF_CM2_width : F.LANE_TX_COEF_CM2.w = 6 := rfl
@[simp] theorem F.LANE_RX_STAT_AGE_width : F.LANE_RX_STAT_AGE.w = 4 := rfl
@[simp] theorem F.LANE_RX_STAT_LOGICAL_width : F.LANE_RX_STAT_LOGICAL.w = 5 := rfl
@[simp] theorem F.LANE_RX_STAT_POL_DET_width : F.LANE_RX_STAT_POL_DET.w = 1 := rfl
@[simp] theorem F.LANE_RX_STAT_CDR_LOCK_width : F.LANE_RX_STAT_CDR_LOCK.w = 1 := rfl
@[simp] theorem F.LANE_RX_STAT_SIGDET_width : F.LANE_RX_STAT_SIGDET.w = 1 := rfl
@[simp] theorem F.LANE_RX_STAT_ASTATE_width : F.LANE_RX_STAT_ASTATE.w = 3 := rfl
@[simp] theorem F.LANE_RX_EQ_AGE_width : F.LANE_RX_EQ_AGE.w = 4 := rfl
@[simp] theorem F.LANE_RX_EQ_FFE_P1_width : F.LANE_RX_EQ_FFE_P1.w = 6 := rfl
@[simp] theorem F.LANE_RX_EQ_FFE_M1_width : F.LANE_RX_EQ_FFE_M1.w = 6 := rfl
@[simp] theorem F.LANE_RX_EQ_DFE1_width : F.LANE_RX_EQ_DFE1.w = 6 := rfl
@[simp] theorem F.LANE_RX_EQ_CTLE_width : F.LANE_RX_EQ_CTLE.w = 6 := rfl
@[simp] theorem F.LANE_EQ_STAT_AGE_width : F.LANE_EQ_STAT_AGE.w = 4 := rfl
@[simp] theorem F.LANE_EQ_STAT_PRESET_width : F.LANE_EQ_STAT_PRESET.w = 4 := rfl
@[simp] theorem F.LANE_EQ_STAT_CP1_width : F.LANE_EQ_STAT_CP1.w = 6 := rfl
@[simp] theorem F.LANE_EQ_STAT_C0_width : F.LANE_EQ_STAT_C0.w = 6 := rfl
@[simp] theorem F.LANE_EQ_STAT_CM1_width : F.LANE_EQ_STAT_CM1.w = 6 := rfl
@[simp] theorem F.LANE_EQ_STAT_CM2_width : F.LANE_EQ_STAT_CM2.w = 6 := rfl
@[simp] theorem F.LANE_SLICE_STAT_AGE_width : F.LANE_SLICE_STAT_AGE.w = 4 := rfl
@[simp] theorem F.LANE_SLICE_STAT_MARG_width : F.LANE_SLICE_STAT_MARG.w = 1 := rfl
@[simp] theorem F.LANE_SLICE_STAT_CALSTOP_width : F.LANE_SLICE_STAT_CALSTOP.w = 1 := rfl
@[simp] theorem F.LANE_SLICE_STAT_CALSLICE_width : F.LANE_SLICE_STAT_CALSLICE.w = 7 := rfl
@[simp] theorem F.LANE_SLICE_STAT_SUB1_width : F.LANE_SLICE_STAT_SUB1.w = 7 := rfl
@[simp] theorem F.LANE_SLICE_STAT_SUB0_width : F.LANE_SLICE_STAT_SUB0.w = 7 := rfl
@[simp] theorem F.LANE_EB_STAT_AGE_width : F.LANE_EB_STAT_AGE.w = 4 := rfl
@[simp] theorem F.LANE_EB_STAT_LWM_width : F.LANE_EB_STAT_LWM.w = 1 := rfl
@[simp] theorem F.LANE_EB_STAT_HWM_width : F.LANE_EB_STAT_HWM.w = 1 := rfl
@[simp] theorem F.LANE_EB_STAT_FILL_width : F.LANE_EB_STAT_FILL.w = 7 := rfl
@[simp] theorem F.LANE_EB_CFG_LWM_width : F.LANE_EB_CFG_LWM.w = 7 := rfl
@[simp] theorem F.LANE_EB_CFG_HWM_width : F.LANE_EB_CFG_HWM.w = 7 := rfl
@[simp] theorem F.LANE_ERR_CNT_LOCK_LOSS_width : F.LANE_ERR_CNT_LOCK_LOSS.w = 16 := rfl
@[simp] theorem F.LANE_ERR_CNT_EB_ERR_width : F.LANE_ERR_CNT_EB_ERR.w = 16 := rfl
@[simp] theorem F.LANE_ECHO_CTL_RATE_width : F.LANE_ECHO_CTL_RATE.w = 3 := rfl
@[simp] theorem F.LANE_ECHO_CTL_MODE_width : F.LANE_ECHO_CTL_MODE.w = 2 := rfl
@[simp] theorem F.LANE_PRBS_CTL_CLR_width : F.LANE_PRBS_CTL_CLR.w = 1 := rfl
@[simp] theorem F.LANE_PRBS_CTL_INV_width : F.LANE_PRBS_CTL_INV.w = 1 := rfl
@[simp] theorem F.LANE_PRBS_CTL_PATTERN_width : F.LANE_PRBS_CTL_PATTERN.w = 4 := rfl
@[simp] theorem F.LANE_PRBS_CTL_CHK_EN_width : F.LANE_PRBS_CTL_CHK_EN.w = 1 := rfl
@[simp] theorem F.LANE_PRBS_CTL_GEN_EN_width : F.LANE_PRBS_CTL_GEN_EN.w = 1 := rfl
@[simp] theorem F.LANE_PRBS_STAT_AGE_width : F.LANE_PRBS_STAT_AGE.w = 4 := rfl
@[simp] theorem F.LANE_PRBS_STAT_SAT_width : F.LANE_PRBS_STAT_SAT.w = 1 := rfl
@[simp] theorem F.LANE_PRBS_STAT_LOCK_width : F.LANE_PRBS_STAT_LOCK.w = 1 := rfl
@[simp] theorem F.LANE_PRBS_ERR_ERR_width : F.LANE_PRBS_ERR_ERR.w = 32 := rfl
@[simp] theorem F.LANE_PRBS_BITS_LO_BITS_LO_width : F.LANE_PRBS_BITS_LO_BITS_LO.w = 32 := rfl
@[simp] theorem F.LANE_PRBS_BITS_HI_BITS_HI_width : F.LANE_PRBS_BITS_HI_BITS_HI.w = 16 := rfl
@[simp] theorem F.QUAD_CTL_RST_width : F.QUAD_CTL_RST.w = 1 := rfl
@[simp] theorem F.QUAD_STAT_AGE_width : F.QUAD_STAT_AGE.w = 4 := rfl
@[simp] theorem F.QUAD_STAT_GATED_width : F.QUAD_STAT_GATED.w = 1 := rfl
@[simp] theorem F.QUAD_STAT_PLL_I_LOCK_width : F.QUAD_STAT_PLL_I_LOCK.w = 1 := rfl
@[simp] theorem F.QUAD_STAT_PLL_O_LOCK_width : F.QUAD_STAT_PLL_O_LOCK.w = 1 := rfl
@[simp] theorem F.PHR_CTL_WD_HALT_width : F.PHR_CTL_WD_HALT.w = 1 := rfl
@[simp] theorem F.PHR_CTL_EN_width : F.PHR_CTL_EN.w = 1 := rfl
@[simp] theorem F.PHR_STAT_AGE_width : F.PHR_STAT_AGE.w = 4 := rfl
@[simp] theorem F.PHR_STAT_LAST_CYC_width : F.PHR_STAT_LAST_CYC.w = 10 := rfl
@[simp] theorem F.PHR_STAT_HALTED_width : F.PHR_STAT_HALTED.w = 1 := rfl
@[simp] theorem F.PHR_STAT_VALID_B_width : F.PHR_STAT_VALID_B.w = 1 := rfl
@[simp] theorem F.PHR_STAT_VALID_A_width : F.PHR_STAT_VALID_A.w = 1 := rfl
@[simp] theorem F.PHR_STAT_ACT_width : F.PHR_STAT_ACT.w = 1 := rfl
@[simp] theorem F.PHR_STAT_RUN_width : F.PHR_STAT_RUN.w = 1 := rfl
@[simp] theorem F.PHR_WDOG_CLR_width : F.PHR_WDOG_CLR.w = 1 := rfl
@[simp] theorem F.PHR_WDOG_MAX_CYC_width : F.PHR_WDOG_MAX_CYC.w = 10 := rfl
@[simp] theorem F.PHR_WDOG_OVR_CNT_width : F.PHR_WDOG_OVR_CNT.w = 16 := rfl
@[simp] theorem F.PHR_ID_ID_B_width : F.PHR_ID_ID_B.w = 16 := rfl
@[simp] theorem F.PHR_ID_ID_A_width : F.PHR_ID_ID_A.w = 16 := rfl
@[simp] theorem F.PORT_CTL_CNT_CLR_width : F.PORT_CTL_CNT_CLR.w = 1 := rfl
@[simp] theorem F.PORT_CTL_RETRAIN_width : F.PORT_CTL_RETRAIN.w = 1 := rfl
@[simp] theorem F.PORT_CTL_RST_width : F.PORT_CTL_RST.w = 1 := rfl
@[simp] theorem F.PORT_CTL_EN_width : F.PORT_CTL_EN.w = 1 := rfl
@[simp] theorem F.PORT_CFG_MARG_EN_width : F.PORT_CFG_MARG_EN.w = 1 := rfl
@[simp] theorem F.PORT_CFG_L0P_EN_width : F.PORT_CFG_L0P_EN.w = 1 := rfl
@[simp] theorem F.PORT_CFG_PRSNT_EN_width : F.PORT_CFG_PRSNT_EN.w = 1 := rfl
@[simp] theorem F.PORT_CFG_PERST_EN_width : F.PORT_CFG_PERST_EN.w = 1 := rfl
@[simp] theorem F.PORT_CFG_SRIS_I_width : F.PORT_CFG_SRIS_I.w = 1 := rfl
@[simp] theorem F.PORT_CFG_SRIS_O_width : F.PORT_CFG_SRIS_O.w = 1 := rfl
@[simp] theorem F.PORT_CFG_MAX_RATE_width : F.PORT_CFG_MAX_RATE.w = 3 := rfl
@[simp] theorem F.PORT_CFG_CMODE_IO_width : F.PORT_CFG_CMODE_IO.w = 2 := rfl
@[simp] theorem F.PORT_CFG_CMODE_OI_width : F.PORT_CFG_CMODE_OI.w = 2 := rfl
@[simp] theorem F.PORT_CFG_COMP_width : F.PORT_CFG_COMP.w = 1 := rfl
@[simp] theorem F.PORT_CFG_ORIENT_width : F.PORT_CFG_ORIENT.w = 1 := rfl
@[simp] theorem F.PORT_STAT_AGE_width : F.PORT_STAT_AGE.w = 4 := rfl
@[simp] theorem F.PORT_STAT_RSTDONE_width : F.PORT_STAT_RSTDONE.w = 1 := rfl
@[simp] theorem F.PORT_STAT_CMODE_PEND_width : F.PORT_STAT_CMODE_PEND.w = 1 := rfl
@[simp] theorem F.PORT_STAT_DGC_IO_width : F.PORT_STAT_DGC_IO.w = 3 := rfl
@[simp] theorem F.PORT_STAT_DGC_OI_width : F.PORT_STAT_DGC_OI.w = 3 := rfl
@[simp] theorem F.PORT_STAT_EMODE_IO_width : F.PORT_STAT_EMODE_IO.w = 2 := rfl
@[simp] theorem F.PORT_STAT_EMODE_OI_width : F.PORT_STAT_EMODE_OI.w = 2 := rfl
@[simp] theorem F.PORT_LINK_STAT_AGE_width : F.PORT_LINK_STAT_AGE.w = 4 := rfl
@[simp] theorem F.PORT_LINK_STAT_AWIDTH_width : F.PORT_LINK_STAT_AWIDTH.w = 5 := rfl
@[simp] theorem F.PORT_LINK_STAT_WIDTH_width : F.PORT_LINK_STAT_WIDTH.w = 5 := rfl
@[simp] theorem F.PORT_LINK_STAT_XS_RTMR_width : F.PORT_LINK_STAT_XS_RTMR.w = 1 := rfl
@[simp] theorem F.PORT_LINK_STAT_POS_width : F.PORT_LINK_STAT_POS.w = 1 := rfl
@[simp] theorem F.PORT_LINK_STAT_FLIT_width : F.PORT_LINK_STAT_FLIT.w = 1 := rfl
@[simp] theorem F.PORT_LINK_STAT_RATE_width : F.PORT_LINK_STAT_RATE.w = 3 := rfl
@[simp] theorem F.PORT_LINK_STAT_LTSSM_width : F.PORT_LINK_STAT_LTSSM.w = 6 := rfl
@[simp] theorem F.PORT_EQ_CFG_SEARCH_width : F.PORT_EQ_CFG_SEARCH.w = 4 := rfl
@[simp] theorem F.PORT_EQ_CFG_MAX_TRIALS_width : F.PORT_EQ_CFG_MAX_TRIALS.w = 8 := rfl
@[simp] theorem F.PORT_EQ_CFG_DWELL_width : F.PORT_EQ_CFG_DWELL.w = 8 := rfl
@[simp] theorem F.PORT_EQ_CFG_EXEC_TMO_width : F.PORT_EQ_CFG_EXEC_TMO.w = 8 := rfl
@[simp] theorem F.PORT_EQ_STAT_AGE_width : F.PORT_EQ_STAT_AGE.w = 4 := rfl
@[simp] theorem F.PORT_EQ_STAT_RATE_width : F.PORT_EQ_STAT_RATE.w = 3 := rfl
@[simp] theorem F.PORT_EQ_STAT_I_TRIALS_width : F.PORT_EQ_STAT_I_TRIALS.w = 8 := rfl
@[simp] theorem F.PORT_EQ_STAT_O_TRIALS_width : F.PORT_EQ_STAT_O_TRIALS.w = 8 := rfl
@[simp] theorem F.PORT_EQ_STAT_I_RESULT_width : F.PORT_EQ_STAT_I_RESULT.w = 2 := rfl
@[simp] theorem F.PORT_EQ_STAT_O_RESULT_width : F.PORT_EQ_STAT_O_RESULT.w = 2 := rfl
@[simp] theorem F.PORT_TMO_CFG_PRSNT_DB_width : F.PORT_TMO_CFG_PRSNT_DB.w = 8 := rfl
@[simp] theorem F.PORT_TMO_CFG_FWD_TMO_width : F.PORT_TMO_CFG_FWD_TMO.w = 8 := rfl
@[simp] theorem F.PORT_LDN_LOG_TAG_width : F.PORT_LDN_LOG_TAG.w = 16 := rfl
@[simp] theorem F.PORT_LDN_LOG_STATE_width : F.PORT_LDN_LOG_STATE.w = 6 := rfl
@[simp] theorem F.PORT_LDN_LOG_RATE_width : F.PORT_LDN_LOG_RATE.w = 3 := rfl
@[simp] theorem F.PORT_LDN_LOG_CAUSE_width : F.PORT_LDN_LOG_CAUSE.w = 5 := rfl
@[simp] theorem F.PORT_LDN_CNT_WDOG_width : F.PORT_LDN_CNT_WDOG.w = 8 := rfl
@[simp] theorem F.PORT_LDN_CNT_ATTR_width : F.PORT_LDN_CNT_ATTR.w = 12 := rfl
@[simp] theorem F.PORT_LDN_CNT_ALL_width : F.PORT_LDN_CNT_ALL.w = 12 := rfl
@[simp] theorem F.PORT_LDN_DRIP_LO_DRIP_LO_width : F.PORT_LDN_DRIP_LO_DRIP_LO.w = 32 := rfl
@[simp] theorem F.PORT_LDN_DRIP_HI_DRIP_HI_width : F.PORT_LDN_DRIP_HI_DRIP_HI.w = 16 := rfl
@[simp] theorem F.PORT_TRN_CNT_RECOV_width : F.PORT_TRN_CNT_RECOV.w = 16 := rfl
@[simp] theorem F.PORT_TRN_CNT_SPEED_width : F.PORT_TRN_CNT_SPEED.w = 8 := rfl
@[simp] theorem F.PORT_TRN_CNT_EQ_width : F.PORT_TRN_CNT_EQ.w = 8 := rfl
@[simp] theorem F.PORT_HP_STAT_PERST_CHG_width : F.PORT_HP_STAT_PERST_CHG.w = 1 := rfl
@[simp] theorem F.PORT_HP_STAT_PRSNT_CHG_width : F.PORT_HP_STAT_PRSNT_CHG.w = 1 := rfl
@[simp] theorem F.PORT_HP_STAT_PERST_width : F.PORT_HP_STAT_PERST.w = 1 := rfl
@[simp] theorem F.PORT_HP_STAT_PRSNT_width : F.PORT_HP_STAT_PRSNT.w = 1 := rfl
@[simp] theorem F.PORT_BIND_GEN_width : F.PORT_BIND_GEN.w = 16 := rfl
@[simp] theorem F.PORT_BIND_TAG_width : F.PORT_BIND_TAG.w = 16 := rfl
@[simp] theorem F.PORT_FLIT_CFG_LOSS_N_width : F.PORT_FLIT_CFG_LOSS_N.w = 4 := rfl
@[simp] theorem F.PORT_FLIT_CFG_IDE_FORCE_width : F.PORT_FLIT_CFG_IDE_FORCE.w = 1 := rfl
@[simp] theorem F.PORT_FLIT_STAT_AGE_width : F.PORT_FLIT_STAT_AGE.w = 4 := rfl
@[simp] theorem F.PORT_FLIT_STAT_IDE_IO_width : F.PORT_FLIT_STAT_IDE_IO.w = 1 := rfl
@[simp] theorem F.PORT_FLIT_STAT_IDE_OI_width : F.PORT_FLIT_STAT_IDE_OI.w = 1 := rfl
@[simp] theorem F.PORT_FLIT_STAT_LOCK_IO_width : F.PORT_FLIT_STAT_LOCK_IO.w = 2 := rfl
@[simp] theorem F.PORT_FLIT_STAT_LOCK_OI_width : F.PORT_FLIT_STAT_LOCK_OI.w = 2 := rfl
@[simp] theorem F.PORT_FLIT_STAT_FMT_width : F.PORT_FLIT_STAT_FMT.w = 2 := rfl
@[simp] theorem F.PORT_FLIT_CTL_CNT_CLR_width : F.PORT_FLIT_CTL_CNT_CLR.w = 1 := rfl
@[simp] theorem F.PORT_FLIT_LOCK_CNT_LOSS_IO_width : F.PORT_FLIT_LOCK_CNT_LOSS_IO.w = 16 := rfl
@[simp] theorem F.PORT_FLIT_LOCK_CNT_LOSS_OI_width : F.PORT_FLIT_LOCK_CNT_LOSS_OI.w = 16 := rfl
@[simp] theorem F.PORT_ERRATA_SENT_SENT_width : F.PORT_ERRATA_SENT_SENT.w = 32 := rfl
@[simp] theorem F.PORT_ERRATA_CNT_DROP_width : F.PORT_ERRATA_CNT_DROP.w = 16 := rfl
@[simp] theorem F.PORT_ERRATA_CNT_ABORT_width : F.PORT_ERRATA_CNT_ABORT.w = 16 := rfl
@[simp] theorem F.PORT_ERRATA_STAT_LAG_MAX_width : F.PORT_ERRATA_STAT_LAG_MAX.w = 2 := rfl
@[simp] theorem F.PORT_ERRATA_STAT_ERR_SEQ_width : F.PORT_ERRATA_STAT_ERR_SEQ.w = 16 := rfl
@[simp] theorem F.PORT_CAP_CFG_SEG_BASE_width : F.PORT_CAP_CFG_SEG_BASE.w = 3 := rfl
@[simp] theorem F.PORT_CAP_CFG_SEG_CNT_width : F.PORT_CAP_CFG_SEG_CNT.w = 4 := rfl
@[simp] theorem F.PORT_CAP_CFG_DIR_width : F.PORT_CAP_CFG_DIR.w = 1 := rfl
@[simp] theorem F.PORT_CAP_CFG_TRIG_width : F.PORT_CAP_CFG_TRIG.w = 3 := rfl
@[simp] theorem F.PORT_CAP_CFG_FILTER_width : F.PORT_CAP_CFG_FILTER.w = 2 := rfl
@[simp] theorem F.PORT_CAP_CFG_PRE_width : F.PORT_CAP_CFG_PRE.w = 7 := rfl
@[simp] theorem F.PORT_CAP_CFG_MATCH_OFF_width : F.PORT_CAP_CFG_MATCH_OFF.w = 5 := rfl
@[simp] theorem F.PORT_CAP_CTL_STOP_width : F.PORT_CAP_CTL_STOP.w = 1 := rfl
@[simp] theorem F.PORT_CAP_CTL_FORCE_width : F.PORT_CAP_CTL_FORCE.w = 1 := rfl
@[simp] theorem F.PORT_CAP_CTL_ARM_width : F.PORT_CAP_CTL_ARM.w = 1 := rfl
@[simp] theorem F.PORT_CAP_STAT_GEN_width : F.PORT_CAP_STAT_GEN.w = 8 := rfl
@[simp] theorem F.PORT_CAP_STAT_STATE_width : F.PORT_CAP_STAT_STATE.w = 2 := rfl
@[simp] theorem F.PORT_CAP_STAT_WRAP_width : F.PORT_CAP_STAT_WRAP.w = 1 := rfl
@[simp] theorem F.PORT_CAP_STAT_WPTR_width : F.PORT_CAP_STAT_WPTR.w = 13 := rfl
@[simp] theorem F.PORT_CAP_TREC_TRIG_REC_width : F.PORT_CAP_TREC_TRIG_REC.w = 13 := rfl
@[simp] theorem F.PORT_CAP_LOST_LOST_width : F.PORT_CAP_LOST_LOST.w = 32 := rfl
@[simp] theorem F.CMP_CSB_CTL_CNT_CLR_width : F.CMP_CSB_CTL_CNT_CLR.w = 1 := rfl
@[simp] theorem F.CMP_CSB_CTL_RST_width : F.CMP_CSB_CTL_RST.w = 1 := rfl
@[simp] theorem F.CMP_CSB_CTL_EN_width : F.CMP_CSB_CTL_EN.w = 1 := rfl
@[simp] theorem F.CMP_CSB_CFG_RTX_TMO_width : F.CMP_CSB_CFG_RTX_TMO.w = 8 := rfl
@[simp] theorem F.CMP_CSB_CFG_BEACON_width : F.CMP_CSB_CFG_BEACON.w = 8 := rfl
@[simp] theorem F.CMP_CSB_CFG_LOSS_TMO_width : F.CMP_CSB_CFG_LOSS_TMO.w = 16 := rfl
@[simp] theorem F.CMP_CSB_STAT_AGE_width : F.CMP_CSB_STAT_AGE.w = 4 := rfl
@[simp] theorem F.CMP_CSB_STAT_PEER_MINOR_width : F.CMP_CSB_STAT_PEER_MINOR.w = 8 := rfl
@[simp] theorem F.CMP_CSB_STAT_PEER_MAJOR_width : F.CMP_CSB_STAT_PEER_MAJOR.w = 4 := rfl
@[simp] theorem F.CMP_CSB_STAT_PEER_CAP_width : F.CMP_CSB_STAT_PEER_CAP.w = 4 := rfl
@[simp] theorem F.CMP_CSB_STAT_STATE_width : F.CMP_CSB_STAT_STATE.w = 3 := rfl
@[simp] theorem F.CMP_CSB_CNT_CRC_BAD_width : F.CMP_CSB_CNT_CRC_BAD.w = 12 := rfl
@[simp] theorem F.CMP_CSB_CNT_RTX_width : F.CMP_CSB_CNT_RTX.w = 12 := rfl
@[simp] theorem F.CMP_CSB_CNT_DOWN_width : F.CMP_CSB_CNT_DOWN.w = 8 := rfl
@[simp] theorem F.CMP_CSB_CNT2_LOST_width : F.CMP_CSB_CNT2_LOST.w = 16 := rfl
@[simp] theorem F.CMP_CSB_CNT2_UNEXP_width : F.CMP_CSB_CNT2_UNEXP.w = 16 := rfl
@[simp] theorem F.CMP_CFG_CEQ_TMO_width : F.CMP_CFG_CEQ_TMO.w = 8 := rfl
@[simp] theorem F.CMP_CFG_ROWLOSS_N_width : F.CMP_CFG_ROWLOSS_N.w = 4 := rfl
@[simp] theorem F.CMP_CFG_CLOCK_TMO_width : F.CMP_CFG_CLOCK_TMO.w = 4 := rfl
@[simp] theorem F.CMP_CFG_JOIN_TMO_width : F.CMP_CFG_JOIN_TMO.w = 8 := rfl
@[simp] theorem F.CMP_PORT_STAT_AGE_width : F.CMP_PORT_STAT_AGE.w = 4 := rfl
@[simp] theorem F.CMP_PORT_STAT_LVRSN_width : F.CMP_PORT_STAT_LVRSN.w = 8 := rfl
@[simp] theorem F.CMP_PORT_STAT_SP1_width : F.CMP_PORT_STAT_SP1.w = 1 := rfl
@[simp] theorem F.CMP_PORT_STAT_SP0_width : F.CMP_PORT_STAT_SP0.w = 1 := rfl
@[simp] theorem F.CMP_PORT_STAT_FB_CAUSE_width : F.CMP_PORT_STAT_FB_CAUSE.w = 4 := rfl
@[simp] theorem F.CMP_PORT_STAT_ROWLOCK_width : F.CMP_PORT_STAT_ROWLOCK.w = 1 := rfl
@[simp] theorem F.CMP_PORT_STAT_ROWCAP_width : F.CMP_PORT_STAT_ROWCAP.w = 1 := rfl
@[simp] theorem F.CMP_PORT_STAT_SEG_width : F.CMP_PORT_STAT_SEG.w = 3 := rfl
@[simp] theorem F.CMP_PORT_CNT_FB_width : F.CMP_PORT_CNT_FB.w = 8 := rfl
@[simp] theorem F.CMP_PORT_CNT_ROWLOSS_width : F.CMP_PORT_CNT_ROWLOSS.w = 8 := rfl
@[simp] theorem F.CMP_PORT_CNT_BADSLOT_width : F.CMP_PORT_CNT_BADSLOT.w = 16 := rfl
@[simp] theorem F.CMP_PORT_ROW_ROW_IN_width : F.CMP_PORT_ROW_ROW_IN.w = 16 := rfl
@[simp] theorem F.CMP_PORT_ROW_ROW_OUT_width : F.CMP_PORT_ROW_ROW_OUT.w = 16 := rfl
@[simp] theorem F.SPARE_CFG_WIN_width : F.SPARE_CFG_WIN.w = 16 := rfl
@[simp] theorem F.SPARE_CFG_TMO_width : F.SPARE_CFG_TMO.w = 8 := rfl
@[simp] theorem F.SPARE_CFG_PERSIST_width : F.SPARE_CFG_PERSIST.w = 4 := rfl
@[simp] theorem F.SPARE_CFG_SW_REQ_EN_width : F.SPARE_CFG_SW_REQ_EN.w = 1 := rfl
@[simp] theorem F.SPARE_CFG_AUTO_width : F.SPARE_CFG_AUTO.w = 1 := rfl
@[simp] theorem F.SPARE_CTL_CNT_CLR_width : F.SPARE_CTL_CNT_CLR.w = 1 := rfl
@[simp] theorem F.SPARE_CTL_REL_S1_width : F.SPARE_CTL_REL_S1.w = 1 := rfl
@[simp] theorem F.SPARE_CTL_REL_S0_width : F.SPARE_CTL_REL_S0.w = 1 := rfl
@[simp] theorem F.SPARE_CTL_REQ_width : F.SPARE_CTL_REQ.w = 1 := rfl
@[simp] theorem F.SPARE_CTL_LANE_width : F.SPARE_CTL_LANE.w = 5 := rfl
@[simp] theorem F.SPARE_THR_SYM_THR_width : F.SPARE_THR_SYM_THR.w = 16 := rfl
@[simp] theorem F.SPARE_THR_LOCK_THR_width : F.SPARE_THR_LOCK_THR.w = 8 := rfl
@[simp] theorem F.SPARE_STAT_AGE_width : F.SPARE_STAT_AGE.w = 4 := rfl
@[simp] theorem F.SPARE_STAT_LAST_RES_width : F.SPARE_STAT_LAST_RES.w = 4 := rfl
@[simp] theorem F.SPARE_STAT_CAUSE_width : F.SPARE_STAT_CAUSE.w = 4 := rfl
@[simp] theorem F.SPARE_STAT_PORT_width : F.SPARE_STAT_PORT.w = 4 := rfl
@[simp] theorem F.SPARE_STAT_LANE_width : F.SPARE_STAT_LANE.w = 5 := rfl
@[simp] theorem F.SPARE_STAT_STATE_width : F.SPARE_STAT_STATE.w = 3 := rfl
@[simp] theorem F.SPARE_CNT_GRANT_width : F.SPARE_CNT_GRANT.w = 8 := rfl
@[simp] theorem F.SPARE_CNT_FAIL_width : F.SPARE_CNT_FAIL.w = 8 := rfl
@[simp] theorem F.SPARE_CNT_REFUSED_width : F.SPARE_CNT_REFUSED.w = 8 := rfl
@[simp] theorem F.SPARE_CNT_NOSPARE_width : F.SPARE_CNT_NOSPARE.w = 8 := rfl
@[simp] theorem F.CMP_SLOT_CTL_CNT_CLR_width : F.CMP_SLOT_CTL_CNT_CLR.w = 1 := rfl
@[simp] theorem F.CMP_Q_WM_DELAY_WM_width : F.CMP_Q_WM_DELAY_WM.w = 8 := rfl
@[simp] theorem F.CMP_Q_WM_DEPTH_WM_width : F.CMP_Q_WM_DEPTH_WM.w = 13 := rfl
@[simp] theorem F.CMP_SHAPE_CFG_BURST4_width : F.CMP_SHAPE_CFG_BURST4.w = 6 := rfl
@[simp] theorem F.CMP_SHAPE_CFG_RATE4_width : F.CMP_SHAPE_CFG_RATE4.w = 10 := rfl
@[simp] theorem F.CMP_SHAPE_CFG_BURST3_width : F.CMP_SHAPE_CFG_BURST3.w = 6 := rfl
@[simp] theorem F.CMP_SHAPE_CFG_RATE3_width : F.CMP_SHAPE_CFG_RATE3.w = 10 := rfl
@[simp] theorem F.CMP_POLICE_CFG_EN_width : F.CMP_POLICE_CFG_EN.w = 1 := rfl
@[simp] theorem F.CMP_POLICE_CFG_BURST_width : F.CMP_POLICE_CFG_BURST.w = 6 := rfl
@[simp] theorem F.CMP_POLICE_CFG_RATE_width : F.CMP_POLICE_CFG_RATE.w = 10 := rfl
@[simp] theorem F.CMP_HOLD_CFG_DELAY_width : F.CMP_HOLD_CFG_DELAY.w = 8 := rfl
@[simp] theorem F.CMP_TOKEN_STAT_AGE_width : F.CMP_TOKEN_STAT_AGE.w = 4 := rfl
@[simp] theorem F.CMP_TOKEN_STAT_TOK_POL_width : F.CMP_TOKEN_STAT_TOK_POL.w = 8 := rfl
@[simp] theorem F.CMP_TOKEN_STAT_TOK4_width : F.CMP_TOKEN_STAT_TOK4.w = 8 := rfl
@[simp] theorem F.CMP_TOKEN_STAT_TOK3_width : F.CMP_TOKEN_STAT_TOK3.w = 8 := rfl
@[simp] theorem F.CMP_RPL_SENT_SENT_width : F.CMP_RPL_SENT_SENT.w = 32 := rfl
@[simp] theorem F.CMP_RPL_CNT_GONE_width : F.CMP_RPL_CNT_GONE.w = 16 := rfl
@[simp] theorem F.CMP_RPL_CNT_MALREQ_width : F.CMP_RPL_CNT_MALREQ.w = 8 := rfl
@[simp] theorem F.CMP_RPL_CNT_OVF_width : F.CMP_RPL_CNT_OVF.w = 8 := rfl
@[simp] theorem F.CMP_RPL_CNT2_ABORT_width : F.CMP_RPL_CNT2_ABORT.w = 16 := rfl
@[simp] theorem F.CMP_HOLD_CNT_REQ_width : F.CMP_HOLD_CNT_REQ.w = 16 := rfl
@[simp] theorem F.CMP_HOLD_CNT_OK_width : F.CMP_HOLD_CNT_OK.w = 16 := rfl
@[simp] theorem F.CMP_HOLD_CNT2_LATE_width : F.CMP_HOLD_CNT2_LATE.w = 16 := rfl
@[simp] theorem F.CMP_HOLD_CNT2_FAIL_width : F.CMP_HOLD_CNT2_FAIL.w = 16 := rfl
@[simp] theorem F.CMP_SLOT_CNT_PAYBAD_width : F.CMP_SLOT_CNT_PAYBAD.w = 16 := rfl
@[simp] theorem F.CMP_SLOT_CNT_MALF_width : F.CMP_SLOT_CNT_MALF.w = 16 := rfl
@[simp] theorem F.CMP_POLICE_CNT_DROP_width : F.CMP_POLICE_CNT_DROP.w = 16 := rfl
@[simp] theorem F.CMP_POLICE_CNT_NOTICE_width : F.CMP_POLICE_CNT_NOTICE.w = 16 := rfl
@[simp] theorem F.CMP_POLICE_LAST_MSEQ_width : F.CMP_POLICE_LAST_MSEQ.w = 16 := rfl
@[simp] theorem F.CMP_Q_STAT_AGE_width : F.CMP_Q_STAT_AGE.w = 4 := rfl
@[simp] theorem F.CMP_Q_STAT_TWM_width : F.CMP_Q_STAT_TWM.w = 1 := rfl
@[simp] theorem F.CMP_Q_STAT_DWM_width : F.CMP_Q_STAT_DWM.w = 1 := rfl
@[simp] theorem F.CMP_Q_STAT_DELAY_width : F.CMP_Q_STAT_DELAY.w = 8 := rfl
@[simp] theorem F.CMP_Q_STAT_DEPTH_width : F.CMP_Q_STAT_DEPTH.w = 13 := rfl
@[simp] theorem F.HEAT_CTL_CNT_CLR_width : F.HEAT_CTL_CNT_CLR.w = 1 := rfl
@[simp] theorem F.HEAT_CTL_REL_width : F.HEAT_CTL_REL.w = 1 := rfl
@[simp] theorem F.HEAT_CFG_AUTO_REL_width : F.HEAT_CFG_AUTO_REL.w = 1 := rfl
@[simp] theorem F.HEAT_EPOCH_CFG_LEN_width : F.HEAT_EPOCH_CFG_LEN.w = 32 := rfl
@[simp] theorem F.HEAT_STAT_REL_PEND_width : F.HEAT_STAT_REL_PEND.w = 1 := rfl
@[simp] theorem F.HEAT_STAT_EXP_BUSY_width : F.HEAT_STAT_EXP_BUSY.w = 1 := rfl
@[simp] theorem F.HEAT_STAT_SWAP_PEND_width : F.HEAT_STAT_SWAP_PEND.w = 1 := rfl
@[simp] theorem F.HEAT_STAT_OSTATE_width : F.HEAT_STAT_OSTATE.w = 3 := rfl
@[simp] theorem F.HEAT_STAT_LIVE_width : F.HEAT_STAT_LIVE.w = 1 := rfl
@[simp] theorem F.HEAT_EPOCH_EPOCH_width : F.HEAT_EPOCH_EPOCH.w = 32 := rfl
@[simp] theorem F.HEAT_EPOCH_AGE_DRIPS_width : F.HEAT_EPOCH_AGE_DRIPS.w = 32 := rfl
@[simp] theorem F.HEAT_SWAP_CNT_SWAPS_width : F.HEAT_SWAP_CNT_SWAPS.w = 16 := rfl
@[simp] theorem F.HEAT_SWAP_CNT_SWAP_SKIPPED_width : F.HEAT_SWAP_CNT_SWAP_SKIPPED.w = 16 := rfl
@[simp] theorem F.HEAT_BANK_EPOCH_EPOCH_width : F.HEAT_BANK_EPOCH_EPOCH.w = 32 := rfl
@[simp] theorem F.HEAT_BANK_START_LO_START_LO_width : F.HEAT_BANK_START_LO_START_LO.w = 32 := rfl
@[simp] theorem F.HEAT_BANK_START_HI_START_HI_width : F.HEAT_BANK_START_HI_START_HI.w = 16 := rfl
@[simp] theorem F.HEAT_BANK_LEN_LEN_width : F.HEAT_BANK_LEN_LEN.w = 32 := rfl
@[simp] theorem F.HEAT_PCTL_CLR_BUSY_width : F.HEAT_PCTL_CLR_BUSY.w = 1 := rfl
@[simp] theorem F.HEAT_PCTL_CLR_width : F.HEAT_PCTL_CLR.w = 1 := rfl
@[simp] theorem F.HEAT_PCTL_EN_width : F.HEAT_PCTL_EN.w = 1 := rfl
@[simp] theorem F.HEAT_PCFG_LDID_width : F.HEAT_PCFG_LDID.w = 4 := rfl
@[simp] theorem F.HEAT_PCFG_LDID_EN_width : F.HEAT_PCFG_LDID_EN.w = 1 := rfl
@[simp] theorem F.HEAT_PCFG_EXPORT_width : F.HEAT_PCFG_EXPORT.w = 1 := rfl
@[simp] theorem F.HEAT_PCFG_SPEC_width : F.HEAT_PCFG_SPEC.w = 1 := rfl
@[simp] theorem F.HEAT_PCFG_REGION_width : F.HEAT_PCFG_REGION.w = 5 := rfl
@[simp] theorem F.HEAT_PCFG_SPAN_width : F.HEAT_PCFG_SPAN.w = 6 := rfl
@[simp] theorem F.HEAT_PBASE_BASE_width : F.HEAT_PBASE_BASE.w = 31 := rfl
@[simp] theorem F.HEAT_PRANGE_FIRST_width : F.HEAT_PRANGE_FIRST.w = 18 := rfl
@[simp] theorem F.HEAT_EXP_STAT_EPOCH_width : F.HEAT_EXP_STAT_EPOCH.w = 8 := rfl
@[simp] theorem F.HEAT_EXP_STAT_ACTIVE_width : F.HEAT_EXP_STAT_ACTIVE.w = 1 := rfl
@[simp] theorem F.HEAT_EXP_STAT_WAIT_width : F.HEAT_EXP_STAT_WAIT.w = 1 := rfl
@[simp] theorem F.HEAT_EXP_STAT_ZPH_width : F.HEAT_EXP_STAT_ZPH.w = 1 := rfl
@[simp] theorem F.HEAT_EXP_STAT_ZWIN_width : F.HEAT_EXP_STAT_ZWIN.w = 4 := rfl
@[simp] theorem F.HEAT_EXP_STAT_NEXT_width : F.HEAT_EXP_STAT_NEXT.w = 13 := rfl
@[simp] theorem F.HEAT_EXP_CNT_DONE_width : F.HEAT_EXP_CNT_DONE.w = 16 := rfl
@[simp] theorem F.HEAT_EXP_CNT_ABORT_width : F.HEAT_EXP_CNT_ABORT.w = 16 := rfl
@[simp] theorem F.HEAT_PLFSR_STATE_width : F.HEAT_PLFSR_STATE.w = 16 := rfl
@[simp] theorem F.HEAT_LOST_LOST_width : F.HEAT_LOST_LOST.w = 32 := rfl
@[simp] theorem F.HEAT_UNMAP_UNMAP_width : F.HEAT_UNMAP_UNMAP.w = 32 := rfl
@[simp] theorem F.HEAT_OPAQUE_OPAQUE_width : F.HEAT_OPAQUE_OPAQUE.w = 32 := rfl
@[simp] theorem F.HEAT_FOVF_FOVF_width : F.HEAT_FOVF_FOVF.w = 32 := rfl
@[simp] theorem F.HEAT_ZCTL_CLR_BUSY_width : F.HEAT_ZCTL_CLR_BUSY.w = 1 := rfl
@[simp] theorem F.HEAT_ZCTL_CLR_width : F.HEAT_ZCTL_CLR.w = 1 := rfl
@[simp] theorem F.HEAT_ZCTL_EN_width : F.HEAT_ZCTL_EN.w = 1 := rfl
@[simp] theorem F.HEAT_ZCFG_EXPORT_width : F.HEAT_ZCFG_EXPORT.w = 1 := rfl
@[simp] theorem F.HEAT_ZCFG_GRAN_width : F.HEAT_ZCFG_GRAN.w = 5 := rfl
@[simp] theorem F.HEAT_ZCFG_PORT_width : F.HEAT_ZCFG_PORT.w = 4 := rfl
@[simp] theorem F.HEAT_ZBASE_BASE_width : F.HEAT_ZBASE_BASE.w = 28 := rfl
@[simp] theorem F.CLK_SRC_IREF_width : F.CLK_SRC_IREF.w = 1 := rfl
@[simp] theorem F.CLK_SRC_OREF_width : F.CLK_SRC_OREF.w = 1 := rfl
@[simp] theorem F.CLK_SRC_CORE_REF_width : F.CLK_SRC_CORE_REF.w = 2 := rfl
@[simp] theorem F.CLK_SRC_MGMT_width : F.CLK_SRC_MGMT.w = 1 := rfl
@[simp] theorem F.CLK_SRC_SAFE_width : F.CLK_SRC_SAFE.w = 1 := rfl
@[simp] theorem F.CLK_STAT_REFB_LOSS_width : F.CLK_STAT_REFB_LOSS.w = 1 := rfl
@[simp] theorem F.CLK_STAT_REFA_LOSS_width : F.CLK_STAT_REFA_LOSS.w = 1 := rfl
@[simp] theorem F.CLK_STAT_XTAL_LOSS_width : F.CLK_STAT_XTAL_LOSS.w = 1 := rfl
@[simp] theorem F.CLK_STAT_CORE_HELD_width : F.CLK_STAT_CORE_HELD.w = 1 := rfl
@[simp] theorem F.CLK_STAT_SAFE_ON_width : F.CLK_STAT_SAFE_ON.w = 1 := rfl
@[simp] theorem F.CLK_STAT_MGMT_ON_width : F.CLK_STAT_MGMT_ON.w = 1 := rfl
@[simp] theorem F.CLK_STAT_MPLL_LOCK_width : F.CLK_STAT_MPLL_LOCK.w = 1 := rfl
@[simp] theorem F.CLK_STAT_CPLL_LOCK_width : F.CLK_STAT_CPLL_LOCK.w = 1 := rfl
@[simp] theorem F.CLK_STAT_XPLL_LOCK_width : F.CLK_STAT_XPLL_LOCK.w = 1 := rfl
@[simp] theorem F.CLK_STAT_REFB_OK_width : F.CLK_STAT_REFB_OK.w = 1 := rfl
@[simp] theorem F.CLK_STAT_REFA_OK_width : F.CLK_STAT_REFA_OK.w = 1 := rfl
@[simp] theorem F.CLK_STAT_XTAL_OK_width : F.CLK_STAT_XTAL_OK.w = 1 := rfl
@[simp] theorem F.CLK_LOSS_CNT_XTAL_width : F.CLK_LOSS_CNT_XTAL.w = 8 := rfl
@[simp] theorem F.CLK_LOSS_CNT_REFA_width : F.CLK_LOSS_CNT_REFA.w = 8 := rfl
@[simp] theorem F.CLK_LOSS_CNT_REFB_width : F.CLK_LOSS_CNT_REFB.w = 8 := rfl
@[simp] theorem F.CLK_CTL_CNT_CLR_width : F.CLK_CTL_CNT_CLR.w = 1 := rfl
@[simp] theorem F.CLK_FM_CTL_START_width : F.CLK_FM_CTL_START.w = 1 := rfl
@[simp] theorem F.CLK_FM_CTL_BUSY_width : F.CLK_FM_CTL_BUSY.w = 1 := rfl
@[simp] theorem F.CLK_FM_CTL_DONE_width : F.CLK_FM_CTL_DONE.w = 1 := rfl
@[simp] theorem F.CLK_FM_CTL_OVF_width : F.CLK_FM_CTL_OVF.w = 1 := rfl
@[simp] theorem F.CLK_FM_CTL_WIN_width : F.CLK_FM_CTL_WIN.w = 5 := rfl
@[simp] theorem F.CLK_FM_CTL_LSEL_width : F.CLK_FM_CTL_LSEL.w = 7 := rfl
@[simp] theorem F.CLK_FM_CTL_TGT_width : F.CLK_FM_CTL_TGT.w = 4 := rfl
@[simp] theorem F.CLK_FM_CTL_REF_width : F.CLK_FM_CTL_REF.w = 4 := rfl
@[simp] theorem F.CLK_FM_RES_COUNT_width : F.CLK_FM_RES_COUNT.w = 32 := rfl
@[simp] theorem F.CLK_DRIP_LO_DRIP_LO_width : F.CLK_DRIP_LO_DRIP_LO.w = 32 := rfl
@[simp] theorem F.CLK_DRIP_HI_NS_width : F.CLK_DRIP_HI_NS.w = 11 := rfl
@[simp] theorem F.CLK_DRIP_HI_DRIP_HI_width : F.CLK_DRIP_HI_DRIP_HI.w = 16 := rfl
@[simp] theorem F.CLK_TSYNC_CFG_MODE_width : F.CLK_TSYNC_CFG_MODE.w = 2 := rfl
@[simp] theorem F.CLK_TSYNC_CFG_BCN_EN_width : F.CLK_TSYNC_CFG_BCN_EN.w = 1 := rfl
@[simp] theorem F.CLK_TSYNC_CFG_SLEW_MAX_width : F.CLK_TSYNC_CFG_SLEW_MAX.w = 9 := rfl
@[simp] theorem F.CLK_TSYNC_CFG_DELAY_width : F.CLK_TSYNC_CFG_DELAY.w = 8 := rfl
@[simp] theorem F.CLK_TSYNC_CFG_PERIOD_width : F.CLK_TSYNC_CFG_PERIOD.w = 12 := rfl
@[simp] theorem F.CLK_TSYNC_CTL_LOAD_width : F.CLK_TSYNC_CTL_LOAD.w = 1 := rfl
@[simp] theorem F.CLK_TSYNC_STAT_ERR_width : F.CLK_TSYNC_STAT_ERR.w = 16 := rfl
@[simp] theorem F.CLK_TSYNC_STAT_LOAD_PEND_width : F.CLK_TSYNC_STAT_LOAD_PEND.w = 1 := rfl
@[simp] theorem F.CLK_TSYNC_STAT_MISS_width : F.CLK_TSYNC_STAT_MISS.w = 1 := rfl
@[simp] theorem F.CLK_TSYNC_STAT_SRC_width : F.CLK_TSYNC_STAT_SRC.w = 2 := rfl
@[simp] theorem F.CLK_TSYNC_STAT_ALIGNED_width : F.CLK_TSYNC_STAT_ALIGNED.w = 1 := rfl
@[simp] theorem F.CLK_TSYNC_LOAD_LO_LOAD_LO_width : F.CLK_TSYNC_LOAD_LO_LOAD_LO.w = 32 := rfl
@[simp] theorem F.CLK_TSYNC_LOAD_HI_LOAD_HI_width : F.CLK_TSYNC_LOAD_HI_LOAD_HI.w = 16 := rfl
@[simp] theorem F.CLK_TSYNC_CNT_MISS_width : F.CLK_TSYNC_CNT_MISS.w = 8 := rfl
@[simp] theorem F.CLK_TSYNC_CNT_BSTEP_width : F.CLK_TSYNC_CNT_BSTEP.w = 8 := rfl
@[simp] theorem F.CLK_TSYNC_CNT_STEP_width : F.CLK_TSYNC_CNT_STEP.w = 16 := rfl
@[simp] theorem F.CLK_SCHED_TGT_LO_TGT_LO_width : F.CLK_SCHED_TGT_LO_TGT_LO.w = 32 := rfl
@[simp] theorem F.CLK_SCHED_TGT_HI_TGT_HI_width : F.CLK_SCHED_TGT_HI_TGT_HI.w = 16 := rfl
@[simp] theorem F.CLK_SCHED_CTL_CANCEL_width : F.CLK_SCHED_CTL_CANCEL.w = 1 := rfl
@[simp] theorem F.CLK_SCHED_CTL_ARM_width : F.CLK_SCHED_CTL_ARM.w = 1 := rfl
@[simp] theorem F.CLK_SCHED_CTL_ARG_width : F.CLK_SCHED_CTL_ARG.w = 8 := rfl
@[simp] theorem F.CLK_SCHED_CTL_ACTION_width : F.CLK_SCHED_CTL_ACTION.w = 4 := rfl
@[simp] theorem F.CLK_SCHED_STAT_LATENESS_width : F.CLK_SCHED_STAT_LATENESS.w = 16 := rfl
@[simp] theorem F.CLK_SCHED_STAT_FAILQ_width : F.CLK_SCHED_STAT_FAILQ.w = 8 := rfl
@[simp] theorem F.CLK_SCHED_STAT_RESULT_width : F.CLK_SCHED_STAT_RESULT.w = 3 := rfl
@[simp] theorem F.CLK_SCHED_STAT_LATE_width : F.CLK_SCHED_STAT_LATE.w = 1 := rfl
@[simp] theorem F.CLK_SCHED_STAT_STATE_width : F.CLK_SCHED_STAT_STATE.w = 2 := rfl
@[simp] theorem F.PWR_CTL_CAL_RUN_width : F.PWR_CTL_CAL_RUN.w = 8 := rfl
@[simp] theorem F.PWR_CTL_CNT_CLR_width : F.PWR_CTL_CNT_CLR.w = 1 := rfl
@[simp] theorem F.PWR_STAT_VDDH_WARN_width : F.PWR_STAT_VDDH_WARN.w = 1 := rfl
@[simp] theorem F.PWR_STAT_VDDA_WARN_width : F.PWR_STAT_VDDA_WARN.w = 1 := rfl
@[simp] theorem F.PWR_STAT_VDDC_WARN_width : F.PWR_STAT_VDDC_WARN.w = 1 := rfl
@[simp] theorem F.PWR_STAT_PGOOD_width : F.PWR_STAT_PGOOD.w = 1 := rfl
@[simp] theorem F.PWR_STAT_VDDH_OK_width : F.PWR_STAT_VDDH_OK.w = 1 := rfl
@[simp] theorem F.PWR_STAT_VDDA_OK_width : F.PWR_STAT_VDDA_OK.w = 1 := rfl
@[simp] theorem F.PWR_STAT_VDDC_OK_width : F.PWR_STAT_VDDC_OK.w = 1 := rfl
@[simp] theorem F.PWR_VMON0_VDDA_width : F.PWR_VMON0_VDDA.w = 16 := rfl
@[simp] theorem F.PWR_VMON0_VDDC_width : F.PWR_VMON0_VDDC.w = 16 := rfl
@[simp] theorem F.PWR_VMON1_VDDH_width : F.PWR_VMON1_VDDH.w = 16 := rfl
@[simp] theorem F.PWR_AVS_CFG_EN_width : F.PWR_AVS_CFG_EN.w = 1 := rfl
@[simp] theorem F.PWR_AVS_CFG_SAFE_width : F.PWR_AVS_CFG_SAFE.w = 10 := rfl
@[simp] theorem F.PWR_AVS_CFG_VMAX_width : F.PWR_AVS_CFG_VMAX.w = 10 := rfl
@[simp] theorem F.PWR_AVS_CFG_VMIN_width : F.PWR_AVS_CFG_VMIN.w = 10 := rfl
@[simp] theorem F.PWR_AVS_STAT_HELD_width : F.PWR_AVS_STAT_HELD.w = 1 := rfl
@[simp] theorem F.PWR_AVS_STAT_FAULT_width : F.PWR_AVS_STAT_FAULT.w = 1 := rfl
@[simp] theorem F.PWR_AVS_STAT_TARGET_width : F.PWR_AVS_STAT_TARGET.w = 10 := rfl
@[simp] theorem F.PWR_AVS_STAT_CMD_width : F.PWR_AVS_STAT_CMD.w = 10 := rfl
@[simp] theorem F.PWR_DOM_STAT_SEC_DEFER_width : F.PWR_DOM_STAT_SEC_DEFER.w = 1 := rfl
@[simp] theorem F.PWR_DOM_STAT_SEC_GATED_width : F.PWR_DOM_STAT_SEC_GATED.w = 1 := rfl
@[simp] theorem F.PWR_DOM_STAT_SGATED_width : F.PWR_DOM_STAT_SGATED.w = 2 := rfl
@[simp] theorem F.PWR_DOM_STAT_QGATED_width : F.PWR_DOM_STAT_QGATED.w = 8 := rfl
@[simp] theorem F.PWR_TEMP_MAX_width : F.PWR_TEMP_MAX.w = 11 := rfl
@[simp] theorem F.PWR_TEMP_TEMP_width : F.PWR_TEMP_TEMP.w = 11 := rfl
@[simp] theorem F.PWR_THERM_CFG_HYST_width : F.PWR_THERM_CFG_HYST.w = 4 := rfl
@[simp] theorem F.PWR_THERM_CFG_HIGH_width : F.PWR_THERM_CFG_HIGH.w = 8 := rfl
@[simp] theorem F.PWR_THERM_CFG_WARN_width : F.PWR_THERM_CFG_WARN.w = 8 := rfl
@[simp] theorem F.PWR_THERM_STAT_TRIP_NOW_width : F.PWR_THERM_STAT_TRIP_NOW.w = 1 := rfl
@[simp] theorem F.PWR_THERM_STAT_HIGH_NOW_width : F.PWR_THERM_STAT_HIGH_NOW.w = 1 := rfl
@[simp] theorem F.PWR_THERM_STAT_WARN_NOW_width : F.PWR_THERM_STAT_WARN_NOW.w = 1 := rfl
@[simp] theorem F.PWR_THERM_STAT_TRIP_width : F.PWR_THERM_STAT_TRIP.w = 1 := rfl
@[simp] theorem F.PWR_THERM_STAT_HIGH_width : F.PWR_THERM_STAT_HIGH.w = 1 := rfl
@[simp] theorem F.PWR_THERM_STAT_WARN_width : F.PWR_THERM_STAT_WARN.w = 1 := rfl
@[simp] theorem F.PWR_THERM_STAT_HOT_width : F.PWR_THERM_STAT_HOT.w = 4 := rfl
@[simp] theorem F.PWR_THERM_STAT_TMAX_width : F.PWR_THERM_STAT_TMAX.w = 11 := rfl
@[simp] theorem F.PWR_CAL_CFG_GRAD_width : F.PWR_CAL_CFG_GRAD.w = 2 := rfl
@[simp] theorem F.PWR_CAL_CFG_DT_width : F.PWR_CAL_CFG_DT.w = 8 := rfl
@[simp] theorem F.PWR_CAL_CFG_AUTO_width : F.PWR_CAL_CFG_AUTO.w = 1 := rfl
@[simp] theorem F.PWR_ZREF_STAT_FAULT_width : F.PWR_ZREF_STAT_FAULT.w = 1 := rfl
@[simp] theorem F.PWR_ZREF_STAT_OHMS_width : F.PWR_ZREF_STAT_OHMS.w = 16 := rfl
@[simp] theorem F.PWR_CNT_LEG_FAIL_width : F.PWR_CNT_LEG_FAIL.w = 8 := rfl
@[simp] theorem F.PWR_CNT_SLICE_FAIL_width : F.PWR_CNT_SLICE_FAIL.w = 8 := rfl
@[simp] theorem F.PWR_CNT_RUNS_width : F.PWR_CNT_RUNS.w = 16 := rfl
@[simp] theorem F.PWR_CAL_STAT_TREF_width : F.PWR_CAL_STAT_TREF.w = 11 := rfl
@[simp] theorem F.PWR_CAL_STAT_LEN_width : F.PWR_CAL_STAT_LEN.w = 12 := rfl
@[simp] theorem F.PWR_CAL_STAT_GRADUAL_width : F.PWR_CAL_STAT_GRADUAL.w = 1 := rfl
@[simp] theorem F.PWR_CAL_STAT_PEND_width : F.PWR_CAL_STAT_PEND.w = 1 := rfl
@[simp] theorem F.PWR_CAL_STAT_STATE_width : F.PWR_CAL_STAT_STATE.w = 2 := rfl
@[simp] theorem F.PWR_TXSTOP_O_LANES_width : F.PWR_TXSTOP_O_LANES.w = 32 := rfl
@[simp] theorem F.PWR_TXSTOP_I_LANES_width : F.PWR_TXSTOP_I_LANES.w = 32 := rfl
@[simp] theorem F.PWR_TXSTOP_S_SPARES_width : F.PWR_TXSTOP_S_SPARES.w = 2 := rfl
@[simp] theorem F.MGMT_CTL_CNT_CLR_width : F.MGMT_CTL_CNT_CLR.w = 1 := rfl
@[simp] theorem F.MGMT_STAT_SMB_PEND_width : F.MGMT_STAT_SMB_PEND.w = 1 := rfl
@[simp] theorem F.MGMT_STAT_BUS_MODE_width : F.MGMT_STAT_BUS_MODE.w = 1 := rfl
@[simp] theorem F.MGMT_STAT_LRUN_width : F.MGMT_STAT_LRUN.w = 1 := rfl
@[simp] theorem F.MGMT_BUS_CFG_I2C_DIS_width : F.MGMT_BUS_CFG_I2C_DIS.w = 1 := rfl
@[simp] theorem F.MGMT_BUS_CFG_PEC_REQ_width : F.MGMT_BUS_CFG_PEC_REQ.w = 1 := rfl
@[simp] theorem F.MGMT_BUS_STAT_EID_width : F.MGMT_BUS_STAT_EID.w = 8 := rfl
@[simp] theorem F.MGMT_BUS_STAT_DA_VALID_width : F.MGMT_BUS_STAT_DA_VALID.w = 1 := rfl
@[simp] theorem F.MGMT_BUS_STAT_DYN_ADDR_width : F.MGMT_BUS_STAT_DYN_ADDR.w = 7 := rfl
@[simp] theorem F.MGMT_BUS_STAT_STATIC_ADDR_width : F.MGMT_BUS_STAT_STATIC_ADDR.w = 7 := rfl
@[simp] theorem F.MGMT_ACL_MCTP_VIEWS_width : F.MGMT_ACL_MCTP_VIEWS.w = 17 := rfl
@[simp] theorem F.MGMT_ACL_CSB_VIEWS_width : F.MGMT_ACL_CSB_VIEWS.w = 17 := rfl
@[simp] theorem F.MGMT_VDM_ID_PEN_width : F.MGMT_VDM_ID_PEN.w = 32 := rfl
@[simp] theorem F.MGMT_CNT_NOVIEW_width : F.MGMT_CNT_NOVIEW.w = 16 := rfl
@[simp] theorem F.MGMT_CNT_BADHDR_width : F.MGMT_CNT_BADHDR.w = 16 := rfl
@[simp] theorem F.MGMT_SEC_STAT_SPDM_width : F.MGMT_SEC_STAT_SPDM.w = 2 := rfl
@[simp] theorem F.MGMT_SEC_STAT_SEC_HOLD_width : F.MGMT_SEC_STAT_SEC_HOLD.w = 1 := rfl
@[simp] theorem F.MGMT_SEC_STAT_CERT0_OK_width : F.MGMT_SEC_STAT_CERT0_OK.w = 1 := rfl
@[simp] theorem F.MGMT_SEC_STAT_KEY_OK_width : F.MGMT_SEC_STAT_KEY_OK.w = 1 := rfl
@[simp] theorem F.MGMT_SEC_STAT_SEC_RUN_width : F.MGMT_SEC_STAT_SEC_RUN.w = 1 := rfl
@[simp] theorem F.MGMT_SEC_CNT_VIOL_width : F.MGMT_SEC_CNT_VIOL.w = 8 := rfl
@[simp] theorem F.MGMT_SEC_CNT_MEAS_width : F.MGMT_SEC_CNT_MEAS.w = 12 := rfl
@[simp] theorem F.MGMT_SEC_CNT_CHAL_width : F.MGMT_SEC_CNT_CHAL.w = 12 := rfl
@[simp] theorem F.MGMT_VIEW_CTL_RING_RST_width : F.MGMT_VIEW_CTL_RING_RST.w = 1 := rfl
@[simp] theorem F.MGMT_VIEW_CTL_RESTORE_width : F.MGMT_VIEW_CTL_RESTORE.w = 1 := rfl
@[simp] theorem F.MGMT_VIEW_CTL_SAVE_width : F.MGMT_VIEW_CTL_SAVE.w = 1 := rfl
@[simp] theorem F.MGMT_VIEW_CTL_CNT_CLR_width : F.MGMT_VIEW_CTL_CNT_CLR.w = 1 := rfl
@[simp] theorem F.MGMT_VIEW_CTL_FREEZE_width : F.MGMT_VIEW_CTL_FREEZE.w = 1 := rfl
@[simp] theorem F.MGMT_VIEW_CTL_EN_width : F.MGMT_VIEW_CTL_EN.w = 1 := rfl
@[simp] theorem F.MGMT_VIEW_STAT_INPROG_width : F.MGMT_VIEW_STAT_INPROG.w = 1 := rfl
@[simp] theorem F.MGMT_VIEW_STAT_RST_ERR_width : F.MGMT_VIEW_STAT_RST_ERR.w = 1 := rfl
@[simp] theorem F.MGMT_VIEW_STAT_RST_OK_width : F.MGMT_VIEW_STAT_RST_OK.w = 1 := rfl
@[simp] theorem F.MGMT_VIEW_STAT_SAVED_width : F.MGMT_VIEW_STAT_SAVED.w = 1 := rfl
@[simp] theorem F.MGMT_VIEW_STAT_BLOB_BUSY_width : F.MGMT_VIEW_STAT_BLOB_BUSY.w = 1 := rfl
@[simp] theorem F.MGMT_VIEW_STAT_FROZEN_width : F.MGMT_VIEW_STAT_FROZEN.w = 1 := rfl
@[simp] theorem F.MGMT_VIEW_STAT_GAP_SENT_width : F.MGMT_VIEW_STAT_GAP_SENT.w = 1 := rfl
@[simp] theorem F.MGMT_VIEW_STAT_RSP_FULL_width : F.MGMT_VIEW_STAT_RSP_FULL.w = 1 := rfl
@[simp] theorem F.MGMT_VIEW_STAT_REQ_FULL_width : F.MGMT_VIEW_STAT_REQ_FULL.w = 1 := rfl
@[simp] theorem F.MGMT_VIEW_STAT_PRESENT_width : F.MGMT_VIEW_STAT_PRESENT.w = 1 := rfl
@[simp] theorem F.MGMT_VIEW_SEQ_RSEQ_NEXT_width : F.MGMT_VIEW_SEQ_RSEQ_NEXT.w = 16 := rfl
@[simp] theorem F.MGMT_VIEW_SEQ_QSEQ_NEXT_width : F.MGMT_VIEW_SEQ_QSEQ_NEXT.w = 16 := rfl
@[simp] theorem F.MGMT_VIEW_PTR_RSP_TX_width : F.MGMT_VIEW_PTR_RSP_TX.w = 7 := rfl
@[simp] theorem F.MGMT_VIEW_PTR_RSP_WR_width : F.MGMT_VIEW_PTR_RSP_WR.w = 7 := rfl
@[simp] theorem F.MGMT_VIEW_PTR_REQ_RD_width : F.MGMT_VIEW_PTR_REQ_RD.w = 7 := rfl
@[simp] theorem F.MGMT_VIEW_PTR_REQ_WR_width : F.MGMT_VIEW_PTR_REQ_WR.w = 7 := rfl
@[simp] theorem F.MGMT_VIEW_POL_EN_width : F.MGMT_VIEW_POL_EN.w = 1 := rfl
@[simp] theorem F.MGMT_VIEW_POL_BURST_width : F.MGMT_VIEW_POL_BURST.w = 6 := rfl
@[simp] theorem F.MGMT_VIEW_POL_RATE_width : F.MGMT_VIEW_POL_RATE.w = 10 := rfl
@[simp] theorem F.MGMT_VIEW_CNT_SENT_width : F.MGMT_VIEW_CNT_SENT.w = 16 := rfl
@[simp] theorem F.MGMT_VIEW_CNT_ACCEPTED_width : F.MGMT_VIEW_CNT_ACCEPTED.w = 16 := rfl
@[simp] theorem F.MGMT_VIEW_CNT2_POLICED_width : F.MGMT_VIEW_CNT2_POLICED.w = 8 := rfl
@[simp] theorem F.MGMT_VIEW_CNT2_OOS_width : F.MGMT_VIEW_CNT2_OOS.w = 8 := rfl
@[simp] theorem F.MGMT_VIEW_CNT2_FULL_width : F.MGMT_VIEW_CNT2_FULL.w = 8 := rfl
@[simp] theorem F.MGMT_VIEW_CNT2_RSP_DROP_width : F.MGMT_VIEW_CNT2_RSP_DROP.w = 8 := rfl
@[simp] theorem F.MGMT_VIEW_CNT3_CRC_width : F.MGMT_VIEW_CNT3_CRC.w = 8 := rfl
@[simp] theorem F.MGMT_VIEW_CNT3_DENIED_width : F.MGMT_VIEW_CNT3_DENIED.w = 8 := rfl
@[simp] theorem F.MGMT_VIEW_CNT3_BUSY_width : F.MGMT_VIEW_CNT3_BUSY.w = 8 := rfl
@[simp] theorem F.MGMT_VIEW_CNT3_ABORTED_width : F.MGMT_VIEW_CNT3_ABORTED.w = 8 := rfl
@[simp] theorem F.MGMT_VIEW_LAST_POL_SEQ_width : F.MGMT_VIEW_LAST_POL_SEQ.w = 16 := rfl
@[simp] theorem F.MGMT_VIEW_LAST_INPROG_SEQ_width : F.MGMT_VIEW_LAST_INPROG_SEQ.w = 16 := rfl
@[simp] theorem F.MGMT_VIEW_BLOB_WORD_width : F.MGMT_VIEW_BLOB_WORD.w = 32 := rfl
@[simp] theorem F.BOOT_STAT_STAGE_width : F.BOOT_STAT_STAGE.w = 4 := rfl
@[simp] theorem F.BOOT_STAT_BOOTSEL_width : F.BOOT_STAT_BOOTSEL.w = 2 := rfl
@[simp] theorem F.BOOT_STAT_RECOV_width : F.BOOT_STAT_RECOV.w = 1 := rfl
@[simp] theorem F.BOOT_STAT_DBG_LOCK_width : F.BOOT_STAT_DBG_LOCK.w = 1 := rfl
@[simp] theorem F.BOOT_STAT_SV_TRIAL_width : F.BOOT_STAT_SV_TRIAL.w = 1 := rfl
@[simp] theorem F.BOOT_STAT_FW_TRIAL_width : F.BOOT_STAT_FW_TRIAL.w = 1 := rfl
@[simp] theorem F.BOOT_STAT_SV_BANK_width : F.BOOT_STAT_SV_BANK.w = 1 := rfl
@[simp] theorem F.BOOT_STAT_FW_BANK_width : F.BOOT_STAT_FW_BANK.w = 1 := rfl
@[simp] theorem F.BOOT_ERR_COMP_width : F.BOOT_ERR_COMP.w = 1 := rfl
@[simp] theorem F.BOOT_ERR_BANK_width : F.BOOT_ERR_BANK.w = 1 := rfl
@[simp] theorem F.BOOT_ERR_CODE_width : F.BOOT_ERR_CODE.w = 8 := rfl
@[simp] theorem F.BOOT_BANK_SV_B_width : F.BOOT_BANK_SV_B.w = 4 := rfl
@[simp] theorem F.BOOT_BANK_SV_A_width : F.BOOT_BANK_SV_A.w = 4 := rfl
@[simp] theorem F.BOOT_BANK_FW_B_width : F.BOOT_BANK_FW_B.w = 4 := rfl
@[simp] theorem F.BOOT_BANK_FW_A_width : F.BOOT_BANK_FW_A.w = 4 := rfl
@[simp] theorem F.BOOT_FW_VER_A_VERSION_width : F.BOOT_FW_VER_A_VERSION.w = 32 := rfl
@[simp] theorem F.BOOT_FW_VER_B_VERSION_width : F.BOOT_FW_VER_B_VERSION.w = 32 := rfl
@[simp] theorem F.BOOT_SV_VER_A_VERSION_width : F.BOOT_SV_VER_A_VERSION.w = 32 := rfl
@[simp] theorem F.BOOT_SV_VER_B_VERSION_width : F.BOOT_SV_VER_B_VERSION.w = 32 := rfl
@[simp] theorem F.BOOT_TIME_TIME_width : F.BOOT_TIME_TIME.w = 32 := rfl
@[simp] theorem F.BOOT_SPI_CFG_IO_width : F.BOOT_SPI_CFG_IO.w = 2 := rfl
@[simp] theorem F.BOOT_SPI_CFG_DIV_width : F.BOOT_SPI_CFG_DIV.w = 8 := rfl
@[simp] theorem F.BOOT_SPI_STAT_REFUSED_width : F.BOOT_SPI_STAT_REFUSED.w = 16 := rfl
@[simp] theorem F.BOOT_SPI_STAT_ADDR4_width : F.BOOT_SPI_STAT_ADDR4.w = 1 := rfl
@[simp] theorem F.BOOT_SPI_STAT_FBUSY_width : F.BOOT_SPI_STAT_FBUSY.w = 1 := rfl
@[simp] theorem F.BOOT_SPI_STAT_MMAP_width : F.BOOT_SPI_STAT_MMAP.w = 1 := rfl
@[simp] theorem F.BOOT_FLASH_ID_DENS_width : F.BOOT_FLASH_ID_DENS.w = 8 := rfl
@[simp] theorem F.BOOT_FLASH_ID_JEDEC_width : F.BOOT_FLASH_ID_JEDEC.w = 24 := rfl
@[simp] theorem F.BOOT_UPD_CFG_AUTO_CONF_width : F.BOOT_UPD_CFG_AUTO_CONF.w = 1 := rfl
@[simp] theorem F.BOOT_UPD_CFG_SOAK_width : F.BOOT_UPD_CFG_SOAK.w = 8 := rfl
@[simp] theorem F.BOOT_UPD_CFG_ACT_DELAY_width : F.BOOT_UPD_CFG_ACT_DELAY.w = 16 := rfl
@[simp] theorem F.BOOT_UPD_CTL_CNT_CLR_width : F.BOOT_UPD_CTL_CNT_CLR.w = 1 := rfl
@[simp] theorem F.BOOT_UPD_CTL_CONTINUE_width : F.BOOT_UPD_CTL_CONTINUE.w = 1 := rfl
@[simp] theorem F.BOOT_UPD_CTL_REACT_width : F.BOOT_UPD_CTL_REACT.w = 1 := rfl
@[simp] theorem F.BOOT_UPD_CTL_REVERT_width : F.BOOT_UPD_CTL_REVERT.w = 1 := rfl
@[simp] theorem F.BOOT_UPD_CTL_CONFIRM_width : F.BOOT_UPD_CTL_CONFIRM.w = 1 := rfl
@[simp] theorem F.BOOT_UPD_STAT_CONF_LEFT_width : F.BOOT_UPD_STAT_CONF_LEFT.w = 6 := rfl
@[simp] theorem F.BOOT_UPD_STAT_NOTCONF_width : F.BOOT_UPD_STAT_NOTCONF.w = 1 := rfl
@[simp] theorem F.BOOT_UPD_STAT_WINDOW_width : F.BOOT_UPD_STAT_WINDOW.w = 1 := rfl
@[simp] theorem F.BOOT_UPD_STAT_PSTATE_width : F.BOOT_UPD_STAT_PSTATE.w = 4 := rfl
@[simp] theorem F.BOOT_UPD_STAT_COMP_width : F.BOOT_UPD_STAT_COMP.w = 2 := rfl
@[simp] theorem F.BOOT_UPD_STAT_BANK_width : F.BOOT_UPD_STAT_BANK.w = 1 := rfl
@[simp] theorem F.BOOT_UPD_STAT_LAST_RES_width : F.BOOT_UPD_STAT_LAST_RES.w = 8 := rfl
@[simp] theorem F.BOOT_UPD_CNT_REVERTS_width : F.BOOT_UPD_CNT_REVERTS.w = 8 := rfl
@[simp] theorem F.BOOT_UPD_CNT_CONFIRMS_width : F.BOOT_UPD_CNT_CONFIRMS.w = 8 := rfl
@[simp] theorem F.BOOT_UPD_CNT_ABORTS_width : F.BOOT_UPD_CNT_ABORTS.w = 8 := rfl
@[simp] theorem F.BOOT_UPD_CNT_APPLIED_width : F.BOOT_UPD_CNT_APPLIED.w = 8 := rfl
@[simp] theorem F.BOOT_LOG_STAT_TORN_width : F.BOOT_LOG_STAT_TORN.w = 8 := rfl
@[simp] theorem F.BOOT_LOG_STAT_FREE_width : F.BOOT_LOG_STAT_FREE.w = 12 := rfl
@[simp] theorem F.BOOT_LOG_STAT_AREA_width : F.BOOT_LOG_STAT_AREA.w = 1 := rfl
@[simp] theorem F.GLB_TALLY_VALUE_width : F.GLB_TALLY_VALUE.w = 32 := rfl
@[simp] theorem F.GLB_TALLY_REF_REF_width : F.GLB_TALLY_REF_REF.w = 32 := rfl
@[simp] theorem F.GLB_TALLY_STAGE_STAGE_width : F.GLB_TALLY_STAGE_STAGE.w = 32 := rfl
@[simp] theorem F.GLB_TALLY_CTL_SUSP_width : F.GLB_TALLY_CTL_SUSP.w = 1 := rfl
@[simp] theorem F.GLB_TALLY_CTL_ADOPT_width : F.GLB_TALLY_CTL_ADOPT.w = 1 := rfl
@[simp] theorem F.GLB_TALLY_CTL_COMMIT_width : F.GLB_TALLY_CTL_COMMIT.w = 1 := rfl
@[simp] theorem F.GLB_TALLY_STAT_COMMIT_FAIL_width : F.GLB_TALLY_STAT_COMMIT_FAIL.w = 1 := rfl
@[simp] theorem F.GLB_TALLY_STAT_REF_VALID_width : F.GLB_TALLY_STAT_REF_VALID.w = 1 := rfl
@[simp] theorem F.GLB_TALLY_STAT_MISM_width : F.GLB_TALLY_STAT_MISM.w = 1 := rfl
@[simp] theorem F.GLB_TALLY_STAT_MATCH_NOW_width : F.GLB_TALLY_STAT_MATCH_NOW.w = 1 := rfl
@[simp] theorem F.GLB_TALLY_CDRIP_LO_DRIP_LO_width : F.GLB_TALLY_CDRIP_LO_DRIP_LO.w = 32 := rfl
@[simp] theorem F.GLB_TALLY_CDRIP_HI_DRIP_HI_width : F.GLB_TALLY_CDRIP_HI_DRIP_HI.w = 16 := rfl
@[simp] theorem F.GLB_TALLY_SNAP_SNAP_width : F.GLB_TALLY_SNAP_SNAP.w = 32 := rfl
@[simp] theorem F.GLB_TALLY_SNAP_DRIP_LO_DRIP_LO_width : F.GLB_TALLY_SNAP_DRIP_LO_DRIP_LO.w = 32 := rfl
@[simp] theorem F.GLB_TALLY_SNAP_DRIP_HI_DRIP_HI_width : F.GLB_TALLY_SNAP_DRIP_HI_DRIP_HI.w = 16 := rfl
@[simp] theorem F.SUMP_CTL_AVAIL_CLR_width : F.SUMP_CTL_AVAIL_CLR.w = 1 := rfl
@[simp] theorem F.SUMP_CTL_CNT_CLR_width : F.SUMP_CTL_CNT_CLR.w = 1 := rfl
@[simp] theorem F.SUMP_STAT_NSEV_width : F.SUMP_STAT_NSEV.w = 8 := rfl
@[simp] theorem F.SUMP_STAT_IRQ_width : F.SUMP_STAT_IRQ.w = 1 := rfl
@[simp] theorem F.SUMP_STAT_FAULT_width : F.SUMP_STAT_FAULT.w = 1 := rfl
@[simp] theorem F.SUMP_STAT_ALIVE_RUN_width : F.SUMP_STAT_ALIVE_RUN.w = 1 := rfl
@[simp] theorem F.SUMP_STAT_QUIESCED_width : F.SUMP_STAT_QUIESCED.w = 1 := rfl
@[simp] theorem F.SUMP_STAT_SAFE_width : F.SUMP_STAT_SAFE.w = 1 := rfl
@[simp] theorem F.SUMP_FORCE_DETAIL_width : F.SUMP_FORCE_DETAIL.w = 8 := rfl
@[simp] theorem F.SUMP_FORCE_INST_width : F.SUMP_FORCE_INST.w = 8 := rfl
@[simp] theorem F.SUMP_FORCE_SRC_width : F.SUMP_FORCE_SRC.w = 7 := rfl
@[simp] theorem F.SUMP_CLR_ALL_width : F.SUMP_CLR_ALL.w = 1 := rfl
@[simp] theorem F.SUMP_CLR_SRC_width : F.SUMP_CLR_SRC.w = 7 := rfl
@[simp] theorem F.SUMP_PEND_PEND_width : F.SUMP_PEND_PEND.w = 32 := rfl
@[simp] theorem F.SUMP_SEV_SEV_width : F.SUMP_SEV_SEV.w = 32 := rfl
@[simp] theorem F.SUMP_QSTOP_CFG_DISC_width : F.SUMP_QSTOP_CFG_DISC.w = 8 := rfl
@[simp] theorem F.SUMP_QSTOP_STAT_DISAG_width : F.SUMP_QSTOP_STAT_DISAG.w = 1 := rfl
@[simp] theorem F.SUMP_QSTOP_STAT_QUIESCED_width : F.SUMP_QSTOP_STAT_QUIESCED.w = 1 := rfl
@[simp] theorem F.SUMP_QSTOP_STAT_B_width : F.SUMP_QSTOP_STAT_B.w = 1 := rfl
@[simp] theorem F.SUMP_QSTOP_STAT_A_width : F.SUMP_QSTOP_STAT_A.w = 1 := rfl
@[simp] theorem F.SUMP_QSTOP_CNT_QUIESCE_width : F.SUMP_QSTOP_CNT_QUIESCE.w = 16 := rfl
@[simp] theorem F.SUMP_QSTOP_CNT_SHORT_width : F.SUMP_QSTOP_CNT_SHORT.w = 16 := rfl
@[simp] theorem F.SUMP_LWDOG_CFG_TMO_width : F.SUMP_LWDOG_CFG_TMO.w = 16 := rfl
@[simp] theorem F.SUMP_LWDOG_CTL_KICK_width : F.SUMP_LWDOG_CTL_KICK.w = 1 := rfl
@[simp] theorem F.SUMP_LWDOG_STAT_EXP_width : F.SUMP_LWDOG_STAT_EXP.w = 8 := rfl
@[simp] theorem F.SUMP_LWDOG_STAT_RUN_width : F.SUMP_LWDOG_STAT_RUN.w = 1 := rfl
@[simp] theorem F.SUMP_LWDOG_STAT_AGE_width : F.SUMP_LWDOG_STAT_AGE.w = 16 := rfl
@[simp] theorem F.SUMP_ECC_CFG_LAP_WM_width : F.SUMP_ECC_CFG_LAP_WM.w = 16 := rfl
@[simp] theorem F.SUMP_ECC_CFG_LEAK_width : F.SUMP_ECC_CFG_LEAK.w = 8 := rfl
@[simp] theorem F.SUMP_ECC_CFG_THR_width : F.SUMP_ECC_CFG_THR.w = 8 := rfl
@[simp] theorem F.SUMP_ECC_STAT_CE_width : F.SUMP_ECC_STAT_CE.w = 12 := rfl
@[simp] theorem F.SUMP_ECC_STAT_UE_width : F.SUMP_ECC_STAT_UE.w = 8 := rfl
@[simp] theorem F.SUMP_ECC_STAT_LEVEL_width : F.SUMP_ECC_STAT_LEVEL.w = 8 := rfl
@[simp] theorem F.SUMP_ECC_STAT_SLOW_width : F.SUMP_ECC_STAT_SLOW.w = 1 := rfl
@[simp] theorem F.SUMP_ECC_STAT_OVF_width : F.SUMP_ECC_STAT_OVF.w = 1 := rfl
@[simp] theorem F.SUMP_ECC_LAST_UE_width : F.SUMP_ECC_LAST_UE.w = 1 := rfl
@[simp] theorem F.SUMP_ECC_LAST_WORD_width : F.SUMP_ECC_LAST_WORD.w = 24 := rfl
@[simp] theorem F.SUMP_SCRUB_LAP_LAP_width : F.SUMP_SCRUB_LAP_LAP.w = 32 := rfl
@[simp] theorem F.SUMP_SCRUB_AGE_AGE_width : F.SUMP_SCRUB_AGE_AGE.w = 32 := rfl
@[simp] theorem F.SUMP_ATTR_DOWN_DRIPS_width : F.SUMP_ATTR_DOWN_DRIPS.w = 32 := rfl
@[simp] theorem F.SUMP_SRC_CFG_W_width : F.SUMP_SRC_CFG_W.w = 16 := rfl
@[simp] theorem F.SUMP_SRC_CFG_WUNIT_width : F.SUMP_SRC_CFG_WUNIT.w = 1 := rfl
@[simp] theorem F.SUMP_SRC_CFG_REACT_width : F.SUMP_SRC_CFG_REACT.w = 2 := rfl
@[simp] theorem F.SUMP_SRC_CFG_FLT_width : F.SUMP_SRC_CFG_FLT.w = 1 := rfl
@[simp] theorem F.SUMP_SRC_CFG_IRQ_width : F.SUMP_SRC_CFG_IRQ.w = 2 := rfl
@[simp] theorem F.SUMP_SRC_CFG_N_width : F.SUMP_SRC_CFG_N.w = 8 := rfl
@[simp] theorem F.SUMP_SRC_STAT_COUNT_width : F.SUMP_SRC_STAT_COUNT.w = 8 := rfl
@[simp] theorem F.SUMP_SRC_STAT_TOTAL_width : F.SUMP_SRC_STAT_TOTAL.w = 16 := rfl
@[simp] theorem F.SUMP_SRC_STAT_WIREF_width : F.SUMP_SRC_STAT_WIREF.w = 1 := rfl
@[simp] theorem F.SUMP_SRC_STAT_CAUSE_width : F.SUMP_SRC_STAT_CAUSE.w = 1 := rfl
@[simp] theorem F.SUMP_SRC_STAT_HELD_width : F.SUMP_SRC_STAT_HELD.w = 1 := rfl
@[simp] theorem F.SUMP_SRC_STAT_STATE_width : F.SUMP_SRC_STAT_STATE.w = 2 := rfl
@[simp] theorem F.SUMP_CAP_INFO_DRIP_HI_width : F.SUMP_CAP_INFO_DRIP_HI.w = 16 := rfl
@[simp] theorem F.SUMP_CAP_INFO_FORCED_width : F.SUMP_CAP_INFO_FORCED.w = 1 := rfl
@[simp] theorem F.SUMP_CAP_INFO_DETAIL_width : F.SUMP_CAP_INFO_DETAIL.w = 7 := rfl
@[simp] theorem F.SUMP_CAP_INFO_INST_width : F.SUMP_CAP_INFO_INST.w = 8 := rfl
@[simp] theorem F.SUMP_CAP_DRIP_DRIP_LO_width : F.SUMP_CAP_DRIP_DRIP_LO.w = 32 := rfl
@[simp] theorem F.GLB_ID_DEVICE_width : F.GLB_ID_DEVICE.w = 16 := rfl
@[simp] theorem F.GLB_ID_STEP_MAJ_width : F.GLB_ID_STEP_MAJ.w = 4 := rfl
@[simp] theorem F.GLB_ID_STEP_MIN_width : F.GLB_ID_STEP_MIN.w = 4 := rfl
@[simp] theorem F.GLB_ID_PKG_width : F.GLB_ID_PKG.w = 8 := rfl
@[simp] theorem F.GLB_UID_LO_UID_LO_width : F.GLB_UID_LO_UID_LO.w = 32 := rfl
@[simp] theorem F.GLB_UID_HI_UID_HI_width : F.GLB_UID_HI_UID_HI.w = 32 := rfl
@[simp] theorem F.GLB_RST_LANTERN_width : F.GLB_RST_LANTERN.w = 1 := rfl
@[simp] theorem F.GLB_RST_DEVICE_width : F.GLB_RST_DEVICE.w = 1 := rfl
@[simp] theorem F.GLB_RST_CAUSE_PORT_width : F.GLB_RST_CAUSE_PORT.w = 16 := rfl
@[simp] theorem F.GLB_RST_CAUSE_LAN_REG_width : F.GLB_RST_CAUSE_LAN_REG.w = 1 := rfl
@[simp] theorem F.GLB_RST_CAUSE_LAN_WDOG_width : F.GLB_RST_CAUSE_LAN_WDOG.w = 1 := rfl
@[simp] theorem F.GLB_RST_CAUSE_LAN_ACT_width : F.GLB_RST_CAUSE_LAN_ACT.w = 1 := rfl
@[simp] theorem F.GLB_RST_CAUSE_DEVICE_width : F.GLB_RST_CAUSE_DEVICE.w = 1 := rfl
@[simp] theorem F.GLB_RST_CAUSE_PIN_width : F.GLB_RST_CAUSE_PIN.w = 1 := rfl
@[simp] theorem F.GLB_RST_CAUSE_POR_width : F.GLB_RST_CAUSE_POR.w = 1 := rfl
@[simp] theorem F.GLB_BIFUR_QUAD7_width : F.GLB_BIFUR_QUAD7.w = 3 := rfl
@[simp] theorem F.GLB_BIFUR_QUAD6_width : F.GLB_BIFUR_QUAD6.w = 3 := rfl
@[simp] theorem F.GLB_BIFUR_QUAD5_width : F.GLB_BIFUR_QUAD5.w = 3 := rfl
@[simp] theorem F.GLB_BIFUR_QUAD4_width : F.GLB_BIFUR_QUAD4.w = 3 := rfl
@[simp] theorem F.GLB_BIFUR_QUAD3_width : F.GLB_BIFUR_QUAD3.w = 3 := rfl
@[simp] theorem F.GLB_BIFUR_QUAD2_width : F.GLB_BIFUR_QUAD2.w = 3 := rfl
@[simp] theorem F.GLB_BIFUR_QUAD1_width : F.GLB_BIFUR_QUAD1.w = 3 := rfl
@[simp] theorem F.GLB_BIFUR_QUAD0_width : F.GLB_BIFUR_QUAD0.w = 3 := rfl
@[simp] theorem F.GLB_MODE_COMPAT_EN_width : F.GLB_MODE_COMPAT_EN.w = 1 := rfl
@[simp] theorem F.GLB_LOCK_RST_width : F.GLB_LOCK_RST.w = 1 := rfl
@[simp] theorem F.GLB_LOCK_COMPAT_width : F.GLB_LOCK_COMPAT.w = 1 := rfl
@[simp] theorem F.GLB_LOCK_SUMP_width : F.GLB_LOCK_SUMP.w = 1 := rfl
@[simp] theorem F.GLB_WERR_FREQ_width : F.GLB_WERR_FREQ.w = 2 := rfl
@[simp] theorem F.GLB_WERR_ADDR_V_width : F.GLB_WERR_ADDR_V.w = 1 := rfl
@[simp] theorem F.GLB_WERR_COMPAT_width : F.GLB_WERR_COMPAT.w = 1 := rfl
@[simp] theorem F.GLB_WERR_MGMT_width : F.GLB_WERR_MGMT.w = 1 := rfl
@[simp] theorem F.GLB_WERR_HEAT_width : F.GLB_WERR_HEAT.w = 1 := rfl
@[simp] theorem F.GLB_WERR_CMP_width : F.GLB_WERR_CMP.w = 1 := rfl
@[simp] theorem F.GLB_WERR_SPARE_width : F.GLB_WERR_SPARE.w = 1 := rfl
@[simp] theorem F.GLB_WERR_QUAD_width : F.GLB_WERR_QUAD.w = 1 := rfl
@[simp] theorem F.GLB_WERR_PORT_width : F.GLB_WERR_PORT.w = 1 := rfl
@[simp] theorem F.GLB_WERR_BOOT_width : F.GLB_WERR_BOOT.w = 1 := rfl
@[simp] theorem F.GLB_WERR_SUMP_width : F.GLB_WERR_SUMP.w = 1 := rfl
@[simp] theorem F.GLB_WERR_PWR_width : F.GLB_WERR_PWR.w = 1 := rfl
@[simp] theorem F.GLB_WERR_CLK_width : F.GLB_WERR_CLK.w = 1 := rfl
@[simp] theorem F.GLB_WERR_GLB_width : F.GLB_WERR_GLB.w = 1 := rfl
@[simp] theorem F.GLB_WERR_ADDR_ADDR_width : F.GLB_WERR_ADDR_ADDR.w = 32 := rfl
@[simp] theorem F.PORT_FEC_FLITS_LO_FLITS_LO_width : F.PORT_FEC_FLITS_LO_FLITS_LO.w = 32 := rfl
@[simp] theorem F.PORT_FEC_FLITS_HI_FLITS_HI_width : F.PORT_FEC_FLITS_HI_FLITS_HI.w = 16 := rfl
@[simp] theorem F.PORT_FEC_CORR_CORR_width : F.PORT_FEC_CORR_CORR.w = 32 := rfl
@[simp] theorem F.PORT_FEC_SYM_SYM_width : F.PORT_FEC_SYM_SYM.w = 32 := rfl
@[simp] theorem F.PORT_FEC_UNCORR_UNCORR_width : F.PORT_FEC_UNCORR_UNCORR.w = 32 := rfl
@[simp] theorem F.PORT_FEC_CRCBAD_CRCBAD_width : F.PORT_FEC_CRCBAD_CRCBAD.w = 32 := rfl
@[simp] theorem F.PORT_FEC_OOS_OOS_width : F.PORT_FEC_OOS_OOS.w = 32 := rfl
@[simp] theorem F.PORT_FEC_OPAQUE_OPAQUE_width : F.PORT_FEC_OPAQUE_OPAQUE.w = 32 := rfl
@[simp] theorem F.PORT_FEC_LANE_ODD_width : F.PORT_FEC_LANE_ODD.w = 16 := rfl
@[simp] theorem F.PORT_FEC_LANE_EVEN_width : F.PORT_FEC_LANE_EVEN.w = 16 := rfl
@[simp] theorem F.PORT_CAP_MATCH_LO_MATCH_LO_width : F.PORT_CAP_MATCH_LO_MATCH_LO.w = 32 := rfl
@[simp] theorem F.PORT_CAP_MATCH_HI_MATCH_HI_width : F.PORT_CAP_MATCH_HI_MATCH_HI.w = 32 := rfl
@[simp] theorem F.PORT_CAP_MASK_LO_MASK_LO_width : F.PORT_CAP_MASK_LO_MASK_LO.w = 32 := rfl
@[simp] theorem F.PORT_CAP_MASK_HI_MASK_HI_width : F.PORT_CAP_MASK_HI_MASK_HI.w = 32 := rfl
@[simp] theorem F.PORT_CAP_TDRIP_LO_TDRIP_LO_width : F.PORT_CAP_TDRIP_LO_TDRIP_LO.w = 32 := rfl
@[simp] theorem F.PORT_CAP_TDRIP_HI_TDRIP_HI_width : F.PORT_CAP_TDRIP_HI_TDRIP_HI.w = 16 := rfl
@[simp] theorem F.LANE_PRBS_USR_LO_USR_LO_width : F.LANE_PRBS_USR_LO_USR_LO.w = 32 := rfl
@[simp] theorem F.LANE_PRBS_USR_HI_USR_HI_width : F.LANE_PRBS_USR_HI_USR_HI.w = 32 := rfl
@[simp] theorem F.CW_WBUF_OVF_width : F.CW_WBUF_OVF.w = 1 := rfl
@[simp] theorem F.CW_WBUF_WAITING_width : F.CW_WBUF_WAITING.w = 6 := rfl

end Sys2Proof.Machine
end

