-- ==== Sys2Proof/Laws/Layout.lean ====
section
/-! SUPPORT. The layout of lanes, ports and spares (R8, R9, R26, R179) depends on GLB_BIFUR and on the spares' state and lane
alone: no other write changes it. -/
namespace Sys2Proof.Machine

/-- A field that the layout depends on: a width code of GLB_BIFUR, or the state or lane of a spare. -/
def Fld.layout (f : Fld) : Bool :=
  (decide (616 ≤ f.id.val) && decide (f.id.val ≤ 623)) || f.id == F.SPARE_STAT_STATE.id || f.id == F.SPARE_STAT_LANE.id

theorem F.quadCode_layout (q : Nat) : 616 ≤ (F.quadCode q).id.val ∧ (F.quadCode q).id.val ≤ 623 := by
  unfold F.quadCode
  match q with
  | 0 | 1 | 2 | 3 | 4 | 5 | 6 | 7 => decide
  | k + 8 => simp [List.getD]; decide

section
variable (s : State) (f : Fld) (i v : Nat) (h : f.layout = false)
include h

theorem State.wr_qcode (q : Nat) : (s.wr f i v).qcode q = s.qcode q := by
  have hq := F.quadCode_layout q
  refine s.rd_wr_fld v fun he => ?_
  simp only [Fld.layout, he] at h
  simp [hq.1, hq.2] at h

theorem State.wr_spareState (x : Nat) : (s.wr f i v).spareState x = s.spareState x := by
  refine s.rd_wr_fld v fun he => ?_
  simp [Fld.layout, he] at h

theorem State.wr_spareLane (x : Nat) : (s.wr f i v).spareLane x = s.spareLane x := by
  refine s.rd_wr_fld v fun he => ?_
  simp [Fld.layout, he] at h

theorem State.wr_width (n : Nat) : (s.wr f i v).width n = s.width n := by
  simp only [State.width, State.wr_qcode s f i v h]

theorem State.wr_present (n : Nat) : (s.wr f i v).present n = s.present n := by
  simp only [State.present, State.wr_width s f i v h]

theorem State.wr_portLanes (n : Nat) : (s.wr f i v).portLanes n = s.portLanes n := by
  simp only [State.portLanes, State.wr_width s f i v h]

theorem State.wr_portOfLane (l : Nat) : (s.wr f i v).portOfLane l = s.portOfLane l := by
  simp only [State.portOfLane, State.wr_qcode s f i v h]

theorem State.wr_quadPorts (q : Nat) : (s.wr f i v).quadPorts q = s.quadPorts q := by
  simp only [State.quadPorts, State.wr_qcode s f i v h]

theorem State.wr_innerOf (l : Nat) : (s.wr f i v).innerOf l = s.innerOf l := by
  simp only [State.innerOf, State.wr_spareState s f i v h, State.wr_spareLane s f i v h]

theorem State.wr_sideLs (n : Nat) (inner : Bool) : (s.wr f i v).sideLs n inner = s.sideLs n inner := by
  simp only [State.sideLs, State.wr_portLanes s f i v h, State.wr_innerOf s f i v h]

theorem State.wr_portLs (n : Nat) : (s.wr f i v).portLs n = s.portLs n := by
  simp only [State.portLs, State.wr_sideLs s f i v h]

theorem State.wr_laneOfLs (l : Nat) : (s.wr f i v).laneOfLs l = s.laneOfLs l := by
  simp only [State.laneOfLs, State.wr_spareLane s f i v h]

theorem State.wr_portOfLs (l : Nat) : (s.wr f i v).portOfLs l = s.portOfLs l := by
  simp only [State.portOfLs, State.wr_portOfLane s f i v h, State.wr_laneOfLs s f i v h, State.wr_spareState s f i v h, State.wr_spareLane s f i v h]

theorem State.wr_oppositeLs (l : Nat) : (s.wr f i v).oppositeLs l = s.oppositeLs l := by
  simp only [State.oppositeLs, State.wr_innerOf s f i v h, State.wr_laneOfLs s f i v h]

end

section
variable (s : State) (a b c : Nat)
@[simp] theorem State.raise_qcode (q : Nat) : (s.raise a b c).qcode q = s.qcode q := rfl
@[simp] theorem State.raise_width (n : Nat) : (s.raise a b c).width n = s.width n := rfl
@[simp] theorem State.raise_present (n : Nat) : (s.raise a b c).present n = s.present n := rfl
@[simp] theorem State.raise_portLanes (n : Nat) : (s.raise a b c).portLanes n = s.portLanes n := rfl
@[simp] theorem State.raise_portOfLane (l : Nat) : (s.raise a b c).portOfLane l = s.portOfLane l := rfl
@[simp] theorem State.raise_quadPorts (q : Nat) : (s.raise a b c).quadPorts q = s.quadPorts q := rfl
@[simp] theorem State.raise_spareState (x : Nat) : (s.raise a b c).spareState x = s.spareState x := rfl
@[simp] theorem State.raise_spareLane (x : Nat) : (s.raise a b c).spareLane x = s.spareLane x := rfl
@[simp] theorem State.raise_innerOf (l : Nat) : (s.raise a b c).innerOf l = s.innerOf l := rfl
@[simp] theorem State.raise_sideLs (n : Nat) (inner : Bool) : (s.raise a b c).sideLs n inner = s.sideLs n inner := rfl
@[simp] theorem State.raise_portLs (n : Nat) : (s.raise a b c).portLs n = s.portLs n := rfl
@[simp] theorem State.raise_laneOfLs (l : Nat) : (s.raise a b c).laneOfLs l = s.laneOfLs l := rfl
@[simp] theorem State.raise_portOfLs (l : Nat) : (s.raise a b c).portOfLs l = s.portOfLs l := rfl
@[simp] theorem State.raise_oppositeLs (l : Nat) : (s.raise a b c).oppositeLs l = s.oppositeLs l := rfl
end

section
variable (s : State) (f : Fld) (i v : Nat)
@[simp] theorem State.wrMirror_qcode (q : Nat) : (s.wrMirror f i v).qcode q = s.qcode q := rfl
@[simp] theorem State.wrMirror_width (n : Nat) : (s.wrMirror f i v).width n = s.width n := rfl
@[simp] theorem State.wrMirror_present (n : Nat) : (s.wrMirror f i v).present n = s.present n := rfl
@[simp] theorem State.wrMirror_portLanes (n : Nat) : (s.wrMirror f i v).portLanes n = s.portLanes n := rfl
@[simp] theorem State.wrMirror_portOfLane (l : Nat) : (s.wrMirror f i v).portOfLane l = s.portOfLane l := rfl
@[simp] theorem State.wrMirror_quadPorts (q : Nat) : (s.wrMirror f i v).quadPorts q = s.quadPorts q := rfl
@[simp] theorem State.wrMirror_spareState (x : Nat) : (s.wrMirror f i v).spareState x = s.spareState x := rfl
@[simp] theorem State.wrMirror_spareLane (x : Nat) : (s.wrMirror f i v).spareLane x = s.spareLane x := rfl
@[simp] theorem State.wrMirror_innerOf (l : Nat) : (s.wrMirror f i v).innerOf l = s.innerOf l := rfl
@[simp] theorem State.wrMirror_sideLs (n : Nat) (inner : Bool) : (s.wrMirror f i v).sideLs n inner = s.sideLs n inner := rfl
@[simp] theorem State.wrMirror_portLs (n : Nat) : (s.wrMirror f i v).portLs n = s.portLs n := rfl
@[simp] theorem State.wrMirror_laneOfLs (l : Nat) : (s.wrMirror f i v).laneOfLs l = s.laneOfLs l := rfl
@[simp] theorem State.wrMirror_portOfLs (l : Nat) : (s.wrMirror f i v).portOfLs l = s.portOfLs l := rfl
@[simp] theorem State.wrMirror_oppositeLs (l : Nat) : (s.wrMirror f i v).oppositeLs l = s.oppositeLs l := rfl
end

section
variable (s : State) (a : Nat) (b : Byte)
@[simp] theorem State.wrByte_qcode (q : Nat) : (s.wrByte a b).qcode q = s.qcode q := rfl
@[simp] theorem State.wrByte_width (n : Nat) : (s.wrByte a b).width n = s.width n := rfl
@[simp] theorem State.wrByte_present (n : Nat) : (s.wrByte a b).present n = s.present n := rfl
@[simp] theorem State.wrByte_portLanes (n : Nat) : (s.wrByte a b).portLanes n = s.portLanes n := rfl
@[simp] theorem State.wrByte_portOfLane (l : Nat) : (s.wrByte a b).portOfLane l = s.portOfLane l := rfl
@[simp] theorem State.wrByte_quadPorts (q : Nat) : (s.wrByte a b).quadPorts q = s.quadPorts q := rfl
@[simp] theorem State.wrByte_spareState (x : Nat) : (s.wrByte a b).spareState x = s.spareState x := rfl
@[simp] theorem State.wrByte_spareLane (x : Nat) : (s.wrByte a b).spareLane x = s.spareLane x := rfl
@[simp] theorem State.wrByte_innerOf (l : Nat) : (s.wrByte a b).innerOf l = s.innerOf l := rfl
@[simp] theorem State.wrByte_sideLs (n : Nat) (inner : Bool) : (s.wrByte a b).sideLs n inner = s.sideLs n inner := rfl
@[simp] theorem State.wrByte_portLs (n : Nat) : (s.wrByte a b).portLs n = s.portLs n := rfl
@[simp] theorem State.wrByte_laneOfLs (l : Nat) : (s.wrByte a b).laneOfLs l = s.laneOfLs l := rfl
@[simp] theorem State.wrByte_portOfLs (l : Nat) : (s.wrByte a b).portOfLs l = s.portOfLs l := rfl
@[simp] theorem State.wrByte_oppositeLs (l : Nat) : (s.wrByte a b).oppositeLs l = s.oppositeLs l := rfl
end

section
variable (s : State) (k : Nat) (p : PortSt)
@[simp] theorem State.setPort_qcode (q : Nat) : (s.setPort k p).qcode q = s.qcode q := rfl
@[simp] theorem State.setPort_width (n : Nat) : (s.setPort k p).width n = s.width n := rfl
@[simp] theorem State.setPort_present (n : Nat) : (s.setPort k p).present n = s.present n := rfl
@[simp] theorem State.setPort_portLanes (n : Nat) : (s.setPort k p).portLanes n = s.portLanes n := rfl
@[simp] theorem State.setPort_portOfLane (l : Nat) : (s.setPort k p).portOfLane l = s.portOfLane l := rfl
@[simp] theorem State.setPort_quadPorts (q : Nat) : (s.setPort k p).quadPorts q = s.quadPorts q := rfl
@[simp] theorem State.setPort_spareState (x : Nat) : (s.setPort k p).spareState x = s.spareState x := rfl
@[simp] theorem State.setPort_spareLane (x : Nat) : (s.setPort k p).spareLane x = s.spareLane x := rfl
@[simp] theorem State.setPort_innerOf (l : Nat) : (s.setPort k p).innerOf l = s.innerOf l := rfl
@[simp] theorem State.setPort_sideLs (n : Nat) (inner : Bool) : (s.setPort k p).sideLs n inner = s.sideLs n inner := rfl
@[simp] theorem State.setPort_portLs (n : Nat) : (s.setPort k p).portLs n = s.portLs n := rfl
@[simp] theorem State.setPort_laneOfLs (l : Nat) : (s.setPort k p).laneOfLs l = s.laneOfLs l := rfl
@[simp] theorem State.setPort_portOfLs (l : Nat) : (s.setPort k p).portOfLs l = s.portOfLs l := rfl
@[simp] theorem State.setPort_oppositeLs (l : Nat) : (s.setPort k p).oppositeLs l = s.oppositeLs l := rfl
end

section
variable (s : State) (k : Nat) (p : FlitSt)
@[simp] theorem State.setFl_qcode (q : Nat) : (s.setFl k p).qcode q = s.qcode q := rfl
@[simp] theorem State.setFl_width (n : Nat) : (s.setFl k p).width n = s.width n := rfl
@[simp] theorem State.setFl_present (n : Nat) : (s.setFl k p).present n = s.present n := rfl
@[simp] theorem State.setFl_portLanes (n : Nat) : (s.setFl k p).portLanes n = s.portLanes n := rfl
@[simp] theorem State.setFl_portOfLane (l : Nat) : (s.setFl k p).portOfLane l = s.portOfLane l := rfl
@[simp] theorem State.setFl_quadPorts (q : Nat) : (s.setFl k p).quadPorts q = s.quadPorts q := rfl
@[simp] theorem State.setFl_spareState (x : Nat) : (s.setFl k p).spareState x = s.spareState x := rfl
@[simp] theorem State.setFl_spareLane (x : Nat) : (s.setFl k p).spareLane x = s.spareLane x := rfl
@[simp] theorem State.setFl_innerOf (l : Nat) : (s.setFl k p).innerOf l = s.innerOf l := rfl
@[simp] theorem State.setFl_sideLs (n : Nat) (inner : Bool) : (s.setFl k p).sideLs n inner = s.sideLs n inner := rfl
@[simp] theorem State.setFl_portLs (n : Nat) : (s.setFl k p).portLs n = s.portLs n := rfl
@[simp] theorem State.setFl_laneOfLs (l : Nat) : (s.setFl k p).laneOfLs l = s.laneOfLs l := rfl
@[simp] theorem State.setFl_portOfLs (l : Nat) : (s.setFl k p).portOfLs l = s.portOfLs l := rfl
@[simp] theorem State.setFl_oppositeLs (l : Nat) : (s.setFl k p).oppositeLs l = s.oppositeLs l := rfl
end

section
variable (s : State) (k : Nat) (p : LaneSt)
@[simp] theorem State.setLane_qcode (q : Nat) : (s.setLane k p).qcode q = s.qcode q := rfl
@[simp] theorem State.setLane_width (n : Nat) : (s.setLane k p).width n = s.width n := rfl
@[simp] theorem State.setLane_present (n : Nat) : (s.setLane k p).present n = s.present n := rfl
@[simp] theorem State.setLane_portLanes (n : Nat) : (s.setLane k p).portLanes n = s.portLanes n := rfl
@[simp] theorem State.setLane_portOfLane (l : Nat) : (s.setLane k p).portOfLane l = s.portOfLane l := rfl
@[simp] theorem State.setLane_quadPorts (q : Nat) : (s.setLane k p).quadPorts q = s.quadPorts q := rfl
@[simp] theorem State.setLane_spareState (x : Nat) : (s.setLane k p).spareState x = s.spareState x := rfl
@[simp] theorem State.setLane_spareLane (x : Nat) : (s.setLane k p).spareLane x = s.spareLane x := rfl
@[simp] theorem State.setLane_innerOf (l : Nat) : (s.setLane k p).innerOf l = s.innerOf l := rfl
@[simp] theorem State.setLane_sideLs (n : Nat) (inner : Bool) : (s.setLane k p).sideLs n inner = s.sideLs n inner := rfl
@[simp] theorem State.setLane_portLs (n : Nat) : (s.setLane k p).portLs n = s.portLs n := rfl
@[simp] theorem State.setLane_laneOfLs (l : Nat) : (s.setLane k p).laneOfLs l = s.laneOfLs l := rfl
@[simp] theorem State.setLane_portOfLs (l : Nat) : (s.setLane k p).portOfLs l = s.portOfLs l := rfl
@[simp] theorem State.setLane_oppositeLs (l : Nat) : (s.setLane k p).oppositeLs l = s.oppositeLs l := rfl
end

section
variable (s : State) (k : Nat) (p : HeatP)
@[simp] theorem State.setHeat_qcode (q : Nat) : (s.setHeat k p).qcode q = s.qcode q := rfl
@[simp] theorem State.setHeat_width (n : Nat) : (s.setHeat k p).width n = s.width n := rfl
@[simp] theorem State.setHeat_present (n : Nat) : (s.setHeat k p).present n = s.present n := rfl
@[simp] theorem State.setHeat_portLanes (n : Nat) : (s.setHeat k p).portLanes n = s.portLanes n := rfl
@[simp] theorem State.setHeat_portOfLane (l : Nat) : (s.setHeat k p).portOfLane l = s.portOfLane l := rfl
@[simp] theorem State.setHeat_quadPorts (q : Nat) : (s.setHeat k p).quadPorts q = s.quadPorts q := rfl
@[simp] theorem State.setHeat_spareState (x : Nat) : (s.setHeat k p).spareState x = s.spareState x := rfl
@[simp] theorem State.setHeat_spareLane (x : Nat) : (s.setHeat k p).spareLane x = s.spareLane x := rfl
@[simp] theorem State.setHeat_innerOf (l : Nat) : (s.setHeat k p).innerOf l = s.innerOf l := rfl
@[simp] theorem State.setHeat_sideLs (n : Nat) (inner : Bool) : (s.setHeat k p).sideLs n inner = s.sideLs n inner := rfl
@[simp] theorem State.setHeat_portLs (n : Nat) : (s.setHeat k p).portLs n = s.portLs n := rfl
@[simp] theorem State.setHeat_laneOfLs (l : Nat) : (s.setHeat k p).laneOfLs l = s.laneOfLs l := rfl
@[simp] theorem State.setHeat_portOfLs (l : Nat) : (s.setHeat k p).portOfLs l = s.portOfLs l := rfl
@[simp] theorem State.setHeat_oppositeLs (l : Nat) : (s.setHeat k p).oppositeLs l = s.oppositeLs l := rfl
end

section
variable (s : State) (k : Nat) (p : ViewSt)
@[simp] theorem State.setView_qcode (q : Nat) : (s.setView k p).qcode q = s.qcode q := rfl
@[simp] theorem State.setView_width (n : Nat) : (s.setView k p).width n = s.width n := rfl
@[simp] theorem State.setView_present (n : Nat) : (s.setView k p).present n = s.present n := rfl
@[simp] theorem State.setView_portLanes (n : Nat) : (s.setView k p).portLanes n = s.portLanes n := rfl
@[simp] theorem State.setView_portOfLane (l : Nat) : (s.setView k p).portOfLane l = s.portOfLane l := rfl
@[simp] theorem State.setView_quadPorts (q : Nat) : (s.setView k p).quadPorts q = s.quadPorts q := rfl
@[simp] theorem State.setView_spareState (x : Nat) : (s.setView k p).spareState x = s.spareState x := rfl
@[simp] theorem State.setView_spareLane (x : Nat) : (s.setView k p).spareLane x = s.spareLane x := rfl
@[simp] theorem State.setView_innerOf (l : Nat) : (s.setView k p).innerOf l = s.innerOf l := rfl
@[simp] theorem State.setView_sideLs (n : Nat) (inner : Bool) : (s.setView k p).sideLs n inner = s.sideLs n inner := rfl
@[simp] theorem State.setView_portLs (n : Nat) : (s.setView k p).portLs n = s.portLs n := rfl
@[simp] theorem State.setView_laneOfLs (l : Nat) : (s.setView k p).laneOfLs l = s.laneOfLs l := rfl
@[simp] theorem State.setView_portOfLs (l : Nat) : (s.setView k p).portOfLs l = s.portOfLs l := rfl
@[simp] theorem State.setView_oppositeLs (l : Nat) : (s.setView k p).oppositeLs l = s.oppositeLs l := rfl
end

section
variable (s : State) (k : Nat) (p : SpareSt)
@[simp] theorem State.setSpare_qcode (q : Nat) : (s.setSpare k p).qcode q = s.qcode q := rfl
@[simp] theorem State.setSpare_width (n : Nat) : (s.setSpare k p).width n = s.width n := rfl
@[simp] theorem State.setSpare_present (n : Nat) : (s.setSpare k p).present n = s.present n := rfl
@[simp] theorem State.setSpare_portLanes (n : Nat) : (s.setSpare k p).portLanes n = s.portLanes n := rfl
@[simp] theorem State.setSpare_portOfLane (l : Nat) : (s.setSpare k p).portOfLane l = s.portOfLane l := rfl
@[simp] theorem State.setSpare_quadPorts (q : Nat) : (s.setSpare k p).quadPorts q = s.quadPorts q := rfl
@[simp] theorem State.setSpare_spareState (x : Nat) : (s.setSpare k p).spareState x = s.spareState x := rfl
@[simp] theorem State.setSpare_spareLane (x : Nat) : (s.setSpare k p).spareLane x = s.spareLane x := rfl
@[simp] theorem State.setSpare_innerOf (l : Nat) : (s.setSpare k p).innerOf l = s.innerOf l := rfl
@[simp] theorem State.setSpare_sideLs (n : Nat) (inner : Bool) : (s.setSpare k p).sideLs n inner = s.sideLs n inner := rfl
@[simp] theorem State.setSpare_portLs (n : Nat) : (s.setSpare k p).portLs n = s.portLs n := rfl
@[simp] theorem State.setSpare_laneOfLs (l : Nat) : (s.setSpare k p).laneOfLs l = s.laneOfLs l := rfl
@[simp] theorem State.setSpare_portOfLs (l : Nat) : (s.setSpare k p).portOfLs l = s.portOfLs l := rfl
@[simp] theorem State.setSpare_oppositeLs (l : Nat) : (s.setSpare k p).oppositeLs l = s.oppositeLs l := rfl
end

section
variable (s : State) (k : Nat) (g : CalSt → CalSt)
@[simp] theorem State.modCal_qcode (q : Nat) : (s.modCal k g).qcode q = s.qcode q := rfl
@[simp] theorem State.modCal_width (n : Nat) : (s.modCal k g).width n = s.width n := rfl
@[simp] theorem State.modCal_present (n : Nat) : (s.modCal k g).present n = s.present n := rfl
@[simp] theorem State.modCal_portLanes (n : Nat) : (s.modCal k g).portLanes n = s.portLanes n := rfl
@[simp] theorem State.modCal_portOfLane (l : Nat) : (s.modCal k g).portOfLane l = s.portOfLane l := rfl
@[simp] theorem State.modCal_quadPorts (q : Nat) : (s.modCal k g).quadPorts q = s.quadPorts q := rfl
@[simp] theorem State.modCal_spareState (x : Nat) : (s.modCal k g).spareState x = s.spareState x := rfl
@[simp] theorem State.modCal_spareLane (x : Nat) : (s.modCal k g).spareLane x = s.spareLane x := rfl
@[simp] theorem State.modCal_innerOf (l : Nat) : (s.modCal k g).innerOf l = s.innerOf l := rfl
@[simp] theorem State.modCal_sideLs (n : Nat) (inner : Bool) : (s.modCal k g).sideLs n inner = s.sideLs n inner := rfl
@[simp] theorem State.modCal_portLs (n : Nat) : (s.modCal k g).portLs n = s.portLs n := rfl
@[simp] theorem State.modCal_laneOfLs (l : Nat) : (s.modCal k g).laneOfLs l = s.laneOfLs l := rfl
@[simp] theorem State.modCal_portOfLs (l : Nat) : (s.modCal k g).portOfLs l = s.portOfLs l := rfl
@[simp] theorem State.modCal_oppositeLs (l : Nat) : (s.modCal k g).oppositeLs l = s.oppositeLs l := rfl
end

section
variable (s : State) (g : ClkSt → ClkSt)
@[simp] theorem State.modClk_qcode (q : Nat) : (s.modClk g).qcode q = s.qcode q := rfl
@[simp] theorem State.modClk_width (n : Nat) : (s.modClk g).width n = s.width n := rfl
@[simp] theorem State.modClk_present (n : Nat) : (s.modClk g).present n = s.present n := rfl
@[simp] theorem State.modClk_portLanes (n : Nat) : (s.modClk g).portLanes n = s.portLanes n := rfl
@[simp] theorem State.modClk_portOfLane (l : Nat) : (s.modClk g).portOfLane l = s.portOfLane l := rfl
@[simp] theorem State.modClk_quadPorts (q : Nat) : (s.modClk g).quadPorts q = s.quadPorts q := rfl
@[simp] theorem State.modClk_spareState (x : Nat) : (s.modClk g).spareState x = s.spareState x := rfl
@[simp] theorem State.modClk_spareLane (x : Nat) : (s.modClk g).spareLane x = s.spareLane x := rfl
@[simp] theorem State.modClk_innerOf (l : Nat) : (s.modClk g).innerOf l = s.innerOf l := rfl
@[simp] theorem State.modClk_sideLs (n : Nat) (inner : Bool) : (s.modClk g).sideLs n inner = s.sideLs n inner := rfl
@[simp] theorem State.modClk_portLs (n : Nat) : (s.modClk g).portLs n = s.portLs n := rfl
@[simp] theorem State.modClk_laneOfLs (l : Nat) : (s.modClk g).laneOfLs l = s.laneOfLs l := rfl
@[simp] theorem State.modClk_portOfLs (l : Nat) : (s.modClk g).portOfLs l = s.portOfLs l := rfl
@[simp] theorem State.modClk_oppositeLs (l : Nat) : (s.modClk g).oppositeLs l = s.oppositeLs l := rfl
end

section
variable (s : State) (g : BootSt → BootSt)
@[simp] theorem State.modBoot_qcode (q : Nat) : (s.modBoot g).qcode q = s.qcode q := rfl
@[simp] theorem State.modBoot_width (n : Nat) : (s.modBoot g).width n = s.width n := rfl
@[simp] theorem State.modBoot_present (n : Nat) : (s.modBoot g).present n = s.present n := rfl
@[simp] theorem State.modBoot_portLanes (n : Nat) : (s.modBoot g).portLanes n = s.portLanes n := rfl
@[simp] theorem State.modBoot_portOfLane (l : Nat) : (s.modBoot g).portOfLane l = s.portOfLane l := rfl
@[simp] theorem State.modBoot_quadPorts (q : Nat) : (s.modBoot g).quadPorts q = s.quadPorts q := rfl
@[simp] theorem State.modBoot_spareState (x : Nat) : (s.modBoot g).spareState x = s.spareState x := rfl
@[simp] theorem State.modBoot_spareLane (x : Nat) : (s.modBoot g).spareLane x = s.spareLane x := rfl
@[simp] theorem State.modBoot_innerOf (l : Nat) : (s.modBoot g).innerOf l = s.innerOf l := rfl
@[simp] theorem State.modBoot_sideLs (n : Nat) (inner : Bool) : (s.modBoot g).sideLs n inner = s.sideLs n inner := rfl
@[simp] theorem State.modBoot_portLs (n : Nat) : (s.modBoot g).portLs n = s.portLs n := rfl
@[simp] theorem State.modBoot_laneOfLs (l : Nat) : (s.modBoot g).laneOfLs l = s.laneOfLs l := rfl
@[simp] theorem State.modBoot_portOfLs (l : Nat) : (s.modBoot g).portOfLs l = s.portOfLs l := rfl
@[simp] theorem State.modBoot_oppositeLs (l : Nat) : (s.modBoot g).oppositeLs l = s.oppositeLs l := rfl
end

end Sys2Proof.Machine
end

