-- ==== Sys2Proof/Laws/Loops.lean ====
section
/-! SUPPORT. Loops over instances: what holds after each pass holds at the end, what no pass changes is unchanged, and what the
clears of a list of fields leave. -/
namespace Sys2Proof.Machine

/-- What the start has, and each pass carries to the next, holds at the end. -/
theorem forUp_ind {σ : Type} {f : Nat → σ → σ} (P : Nat → σ → Prop) (n : Nat) {s : σ} (h0 : P 0 s)
    (hs : ∀ i a, i < n → P i a → P (i + 1) (f i a)) : P n (forUp n f s) := by
  induction n with
  | zero => simpa [forUp] using h0
  | succ n ih =>
    unfold forUp at ih ⊢
    rw [List.range_succ, List.foldl_append, List.foldl_cons, List.foldl_nil]
    exact hs n _ (Nat.lt_succ_self n) (ih fun i a hi => hs i a (Nat.lt_succ_of_lt hi))

/-- What every pass keeps is kept. -/
theorem forUp_keeps {σ : Type} {f : Nat → σ → σ} (P : σ → Prop) (n : Nat) {s : σ} (h0 : P s)
    (hs : ∀ i a, i < n → P a → P (f i a)) : P (forUp n f s) := forUp_ind (fun _ => P) n h0 hs

theorem forEach_keeps {σ α : Type} {f : α → σ → σ} (P : σ → Prop) (l : List α) {s : σ} (h0 : P s)
    (hs : ∀ x ∈ l, ∀ a, P a → P (f x a)) : P (forEach l f s) := by
  unfold forEach
  induction l generalizing s with
  | nil => exact h0
  | cons x t ih => exact ih (hs x (by simp) s h0) fun y hy a => hs y (by simp [hy]) a

/-- A part that no pass changes is unchanged. -/
theorem Part.same_forUp {p : Part} {f : Nat → State → State} (n : Nat) (s : State)
    (h : ∀ i a, i < n → p.same a (f i a)) : p.same s (forUp n f s) :=
  forUp_keeps (fun t => p.same s t) n (Part.same_refl p s) fun i a hi ha => Part.same_trans ha (h i a hi)

theorem Part.same_forEach {α : Type} {p : Part} {f : α → State → State} (l : List α) (s : State)
    (h : ∀ x ∈ l, ∀ a, p.same a (f x a)) : p.same s (forEach l f s) :=
  forEach_keeps (fun t => p.same s t) l (Part.same_refl p s) fun x hx a ha => Part.same_trans ha (h x hx a)

/-- Events raised, outputs and the like, where no pass changes them. -/
theorem forUp_eq {α : Type} {f : Nat → State → State} (g : State → α) (n : Nat) (s : State)
    (h : ∀ i a, g (f i a) = g a) : g (forUp n f s) = g s :=
  forUp_keeps (fun t => g t = g s) n rfl fun i a _ ha => (h i a).trans ha

theorem forEach_eq {α β : Type} {f : β → State → State} (g : State → α) (l : List β) (s : State)
    (h : ∀ x a, g (f x a) = g a) : g (forEach l f s) = g s :=
  forEach_keeps (fun t => g t = g s) l rfl fun x _ a ha => (h x a).trans ha

/-- Clearing one field of the instances below n. -/
theorem State.rd_forUp_clr (n : Nat) (s : State) (f : Fld) (j : Nat) :
    (forUp n (fun k a => a.clr f k) s).rd f j = if j < n then 0 else s.rd f j := by
  refine forUp_ind (fun i (t : State) => t.rd f j = if j < i then 0 else s.rd f j) n (by simp) fun i a _ h => ?_
  by_cases hj : i = j
  · subst hj; simp [State.clr]
  · rw [State.clr, State.rd_wr_inst a 0 hj, h]
    congr 1
    exact propext ⟨fun h => by omega, fun h => by omega⟩

end Sys2Proof.Machine
end

