-- ==== Sys2Proof/Laws/Memory.lean ====
section
/-! SUPPORT. The addressed memories: what a write of bytes leaves of the state, what a read finds after it, and that every
memory operation keeps the canonical form. -/
namespace Sys2Proof

/-! The canonical form -/

theorem SMap.wf_cons {α : Type} [DecidableEq α] (d : Nat → α) (e : Nat × α) (t : SMap α) :
    SMap.wf d (e :: t) = true ↔ e.2 ≠ d e.1 ∧ (∀ x ∈ t, e.1 < x.1) ∧ SMap.wf d t = true := by
  induction t generalizing e with
  | nil => obtain ⟨k, v⟩ := e; simp [SMap.wf]
  | cons f t ih =>
    obtain ⟨k, v⟩ := e
    obtain ⟨j, u⟩ := f
    have := ih (j, u)
    simp only [SMap.wf, Bool.and_eq_true, decide_eq_true_eq, List.mem_cons, forall_eq_or_imp]
    constructor
    · rintro ⟨⟨h1, h2⟩, h3⟩
      refine ⟨h1, ⟨h2, fun x hx => ?_⟩, h3⟩
      exact h2.trans ((this.mp h3).2.1 x hx)
    · rintro ⟨h1, ⟨h2, -⟩, h3⟩
      exact ⟨⟨h1, h2⟩, h3⟩

theorem SMap.wf_filter {α : Type} [DecidableEq α] (d : Nat → α) (p : Nat × α → Bool) (m : SMap α)
    (h : SMap.wf d m = true) : SMap.wf d (m.filter p) = true := by
  induction m with
  | nil => rfl
  | cons e t ih =>
    rw [SMap.wf_cons] at h
    rw [List.filter_cons]
    split
    · rw [SMap.wf_cons]
      exact ⟨h.1, fun x hx => h.2.1 x (List.mem_of_mem_filter hx), ih h.2.2⟩
    · exact ih h.2.2

theorem SMap.mem_insert {α : Type} (m : SMap α) (k : Nat) (v : α) (x : Nat × α) (h : x ∈ m.insert k v) :
    x = (k, v) ∨ x ∈ m := by
  induction m with
  | nil => simpa [SMap.insert] using h
  | cons e t ih =>
    rw [SMap.insert] at h
    split at h
    · simpa using h
    · rcases List.mem_cons.mp h with h | h
      · exact .inr (by simp [h])
      · rcases ih h with h | h
        · exact .inl h
        · exact .inr (List.mem_cons_of_mem _ h)

theorem SMap.wf_insert {α : Type} [DecidableEq α] (d : Nat → α) (m : SMap α) (k : Nat) (v : α) (hv : v ≠ d k)
    (hk : ∀ x ∈ m, x.1 ≠ k) (h : SMap.wf d m = true) : SMap.wf d (m.insert k v) = true := by
  induction m with
  | nil => simpa [SMap.insert, SMap.wf] using hv
  | cons e t ih =>
    have hc := (SMap.wf_cons d e t).mp h
    rw [SMap.insert]
    split
    · rename_i hlt
      rw [SMap.wf_cons]
      refine ⟨hv, fun x hx => ?_, h⟩
      rcases List.mem_cons.mp hx with rfl | hx
      · exact hlt
      · exact Nat.lt_trans hlt (hc.2.1 x hx)
    · rename_i hlt
      have hne : e.1 ≠ k := hk e (by simp)
      rw [SMap.wf_cons]
      refine ⟨hc.1, fun x hx => ?_, ih (fun x hx => hk x (by simp [hx])) hc.2.2⟩
      rcases SMap.mem_insert t k v x hx with rfl | hx
      · exact Nat.lt_of_le_of_ne (Nat.le_of_not_lt hlt) hne
      · exact hc.2.1 x hx

/-- Setting a key keeps the canonical form. -/
theorem SMap.wf_set {α : Type} [DecidableEq α] (d : Nat → α) (m : SMap α) (k : Nat) (v : α) (h : SMap.wf d m = true) :
    SMap.wf d (m.set k v (d k)) = true := by
  unfold SMap.set
  split
  · exact SMap.wf_filter d _ m h
  · rename_i hv
    refine SMap.wf_insert d _ k v hv (fun x hx => ?_) (SMap.wf_filter d _ m h)
    simpa using List.of_mem_filter hx

namespace Machine

/-- Writing a byte keeps the memories canonical. -/
theorem Memory.wf_wrByte (s : State) (a : Nat) (b : Byte) (h : Memory.wf s.mem = true) :
    Memory.wf (s.wrByte a b).mem = true := SMap.wf_set (fun _ => (0 : Byte)) s.mem a b h

/-- Writing bytes keeps them canonical. -/
theorem Memory.wf_wrBytes (s : State) (a : Nat) (l : List Nat) (h : Memory.wf s.mem = true) :
    Memory.wf (s.wrBytes a l).mem = true := by
  induction l generalizing s a with
  | nil => exact h
  | cons b t ih => exact ih _ _ (Memory.wf_wrByte s a _ h)

/-- Writing a word keeps them canonical. -/
theorem Memory.wf_wrWord32 (s : State) (a v : Nat) (h : Memory.wf s.mem = true) :
    Memory.wf (s.wrWord32 a v).mem = true := Memory.wf_wrBytes s a _ h

/-- Zeroing a range keeps them canonical. -/
theorem Memory.wf_zeroMem (s : State) (a n : Nat) (h : Memory.wf s.mem = true) :
    Memory.wf (s.zeroMem a n).mem = true := SMap.wf_filter (fun _ => (0 : Byte)) _ s.mem h

/-- The memories are canonical at reset. -/
theorem Memory.wf_reset : Memory.wf State.reset.mem = true := rfl

/-! What a write of bytes leaves -/

section
variable (s : State) (a : Nat) (l : List Nat)

@[simp] theorem State.wrBytes_pending : (s.wrBytes a l).pending = s.pending := by
  induction l generalizing s a <;> simp [State.wrBytes, *]
@[simp] theorem State.wrBytes_regs : (s.wrBytes a l).regs = s.regs := by
  induction l generalizing s a <;> simp [State.wrBytes, *]
@[simp] theorem State.wrBytes_mirr : (s.wrBytes a l).mirr = s.mirr := by
  induction l generalizing s a <;> simp [State.wrBytes, *]
@[simp] theorem State.wrBytes_ports : (s.wrBytes a l).ports = s.ports := by
  induction l generalizing s a <;> simp [State.wrBytes, *]
@[simp] theorem State.wrBytes_flits : (s.wrBytes a l).flits = s.flits := by
  induction l generalizing s a <;> simp [State.wrBytes, *]
@[simp] theorem State.wrBytes_lanes : (s.wrBytes a l).lanes = s.lanes := by
  induction l generalizing s a <;> simp [State.wrBytes, *]
@[simp] theorem State.wrBytes_csb : (s.wrBytes a l).csb = s.csb := by
  induction l generalizing s a <;> simp [State.wrBytes, *]
@[simp] theorem State.wrBytes_spares : (s.wrBytes a l).spares = s.spares := by
  induction l generalizing s a <;> simp [State.wrBytes, *]
@[simp] theorem State.wrBytes_heats : (s.wrBytes a l).heats = s.heats := by
  induction l generalizing s a <;> simp [State.wrBytes, *]
@[simp] theorem State.wrBytes_zclr : (s.wrBytes a l).zclr = s.zclr := by
  induction l generalizing s a <;> simp [State.wrBytes, *]
@[simp] theorem State.wrBytes_lenWritten : (s.wrBytes a l).lenWritten = s.lenWritten := by
  induction l generalizing s a <;> simp [State.wrBytes, *]
@[simp] theorem State.wrBytes_shared : (s.wrBytes a l).shared = s.shared := by
  induction l generalizing s a <;> simp [State.wrBytes, *]
@[simp] theorem State.wrBytes_held : (s.wrBytes a l).held = s.held := by
  induction l generalizing s a <;> simp [State.wrBytes, *]
@[simp] theorem State.wrBytes_visits : (s.wrBytes a l).visits = s.visits := by
  induction l generalizing s a <;> simp [State.wrBytes, *]
@[simp] theorem State.wrBytes_clk : (s.wrBytes a l).clk = s.clk := by
  induction l generalizing s a <;> simp [State.wrBytes, *]
@[simp] theorem State.wrBytes_cals : (s.wrBytes a l).cals = s.cals := by
  induction l generalizing s a <;> simp [State.wrBytes, *]
@[simp] theorem State.wrBytes_porDrips : (s.wrBytes a l).porDrips = s.porDrips := by
  induction l generalizing s a <;> simp [State.wrBytes, *]
@[simp] theorem State.wrBytes_secDefer : (s.wrBytes a l).secDefer = s.secDefer := by
  induction l generalizing s a <;> simp [State.wrBytes, *]
@[simp] theorem State.wrBytes_views : (s.wrBytes a l).views = s.views := by
  induction l generalizing s a <;> simp [State.wrBytes, *]
@[simp] theorem State.wrBytes_bus : (s.wrBytes a l).bus = s.bus := by
  induction l generalizing s a <;> simp [State.wrBytes, *]
@[simp] theorem State.wrBytes_spdm : (s.wrBytes a l).spdm = s.spdm := by
  induction l generalizing s a <;> simp [State.wrBytes, *]
@[simp] theorem State.wrBytes_boot : (s.wrBytes a l).boot = s.boot := by
  induction l generalizing s a <;> simp [State.wrBytes, *]
@[simp] theorem State.wrBytes_snaps : (s.wrBytes a l).snaps = s.snaps := by
  induction l generalizing s a <;> simp [State.wrBytes, *]
@[simp] theorem State.wrBytes_staged : (s.wrBytes a l).staged = s.staged := by
  induction l generalizing s a <;> simp [State.wrBytes, *]
@[simp] theorem State.wrBytes_compat : (s.wrBytes a l).compat = s.compat := by
  induction l generalizing s a <;> simp [State.wrBytes, *]
@[simp] theorem State.wrBytes_misAge : (s.wrBytes a l).misAge = s.misAge := by
  induction l generalizing s a <;> simp [State.wrBytes, *]
@[simp] theorem State.wrBytes_winStart : (s.wrBytes a l).winStart = s.winStart := by
  induction l generalizing s a <;> simp [State.wrBytes, *]
@[simp] theorem State.wrBytes_causes : (s.wrBytes a l).causes = s.causes := by
  induction l generalizing s a <;> simp [State.wrBytes, *]
@[simp] theorem State.wrBytes_eccPend : (s.wrBytes a l).eccPend = s.eccPend := by
  induction l generalizing s a <;> simp [State.wrBytes, *]
@[simp] theorem State.wrBytes_scrubPos : (s.wrBytes a l).scrubPos = s.scrubPos := by
  induction l generalizing s a <;> simp [State.wrBytes, *]
@[simp] theorem State.wrBytes_aliveRun : (s.wrBytes a l).aliveRun = s.aliveRun := by
  induction l generalizing s a <;> simp [State.wrBytes, *]
@[simp] theorem State.wrBytes_lwTicks : (s.wrBytes a l).lwTicks = s.lwTicks := by
  induction l generalizing s a <;> simp [State.wrBytes, *]
@[simp] theorem State.wrBytes_alive : (s.wrBytes a l).alive = s.alive := by
  induction l generalizing s a <;> simp [State.wrBytes, *]
@[simp] theorem State.wrBytes_holds : (s.wrBytes a l).holds = s.holds := by
  induction l generalizing s a <;> simp [State.wrBytes, *]
@[simp] theorem State.wrBytes_tap : (s.wrBytes a l).tap = s.tap := by
  induction l generalizing s a <;> simp [State.wrBytes, *]
@[simp] theorem State.wrBytes_safe : (s.wrBytes a l).safe = s.safe := by
  induction l generalizing s a <;> simp [State.wrBytes, *]
@[simp] theorem State.wrBytes_raised : (s.wrBytes a l).raised = s.raised := by
  induction l generalizing s a <;> simp [State.wrBytes, *]
@[simp] theorem State.wrBytes_refusedNow : (s.wrBytes a l).refusedNow = s.refusedNow := by
  induction l generalizing s a <;> simp [State.wrBytes, *]
@[simp] theorem State.wrBytes_out : (s.wrBytes a l).out = s.out := by
  induction l generalizing s a <;> simp [State.wrBytes, *]
@[simp] theorem State.wrBytes_fresh : (s.wrBytes a l).fresh = s.fresh := by
  induction l generalizing s a <;> simp [State.wrBytes, *]

@[simp] theorem State.wrBytes_rd (f : Fld) (i : Nat) : (s.wrBytes a l).rd f i = s.rd f i := by simp [State.rd]

/-- Bytes outside those written read as before. -/
theorem State.rdByte_wrBytes (x : Nat) (h : x < a ∨ a + l.length ≤ x) : (s.wrBytes a l).rdByte x = s.rdByte x := by
  induction l generalizing s a with
  | nil => rfl
  | cons b t ih =>
    rw [State.wrBytes, ih _ _ (by simp only [List.length_cons] at h; omega)]
    exact s.rdByte_wrByte_ne _ (by simp only [List.length_cons] at h; omega)

/-- The bytes written are read. -/
theorem State.rdBytes_wrBytes : (s.wrBytes a l).rdBytes a l.length = l.map (· % 256) := by
  induction l generalizing s a with
  | nil => rfl
  | cons b t ih =>
    simp only [State.wrBytes, List.length_cons, State.rdBytes, List.map_cons, List.cons.injEq]
    refine ⟨?_, ih _ _⟩
    rw [State.rdByte_wrBytes _ _ _ _ (.inl (Nat.lt_succ_self a))]
    simp

end

/-- What bytes read depends on the memories alone. -/
theorem State.rdBytes_congr {s t : State} (h : t.mem = s.mem) (a n : Nat) : t.rdBytes a n = s.rdBytes a n := by
  induction n generalizing a <;> simp [State.rdBytes, State.rdByte, *]

theorem State.rdWord32_congr {s t : State} (h : t.mem = s.mem) (a : Nat) : t.rdWord32 a = s.rdWord32 a := by
  unfold State.rdWord32
  rw [State.rdBytes_congr h]

@[simp] theorem State.wr_rdWord32 (s : State) (f : Fld) (i v a : Nat) : (s.wr f i v).rdWord32 a = s.rdWord32 a :=
  State.rdWord32_congr rfl a

@[simp] theorem leBytes_length (x n : Nat) : (leBytes x n).length = n := by
  induction n generalizing x <;> simp [leBytes, *]

/-- A word is read as it was written. -/
theorem State.rdWord32_wrWord32 (s : State) (a v : Nat) (h : v < 2 ^ 32) : (s.wrWord32 a v).rdWord32 a = v := by
  have := s.rdBytes_wrBytes a (leBytes v 4)
  rw [leBytes_length] at this
  unfold State.rdWord32 State.wrWord32
  rw [this]
  simp only [leBytes, List.map_cons, List.map_nil, ofLeBytes]
  omega

theorem Part.same_wrBytes {p : Part} (s : State) (a : Nat) (l : List Nat) (h : ∀ k < l.length, p ≠ .byte (a + k)) :
    p.same s (s.wrBytes a l) := by
  induction l generalizing s a with
  | nil => exact Part.same_refl _ _
  | cons b t ih =>
    refine Part.same_trans (Part.same_wrByte s a _ (h 0 (by simp))) (ih _ _ fun k hk => ?_)
    have := h (k + 1) (by simp only [List.length_cons]; omega)
    rwa [Nat.add_comm k 1, ← Nat.add_assoc] at this

/-- A word write changes no part but its four bytes. -/
@[simp] theorem Part.same_wrWord32_iff {p : Part} (s t : State) (a v : Nat)
    (h : p ≠ .byte a ∧ p ≠ .byte (a + 1) ∧ p ≠ .byte (a + 2) ∧ p ≠ .byte (a + 3)) :
    p.same s (t.wrWord32 a v) ↔ p.same s t := by
  refine Part.same_iff (Part.same_wrBytes t a _ fun k hk => ?_)
  rw [leBytes_length] at hk
  match k, hk with
  | 0, _ => exact h.1
  | 1, _ => exact h.2.1
  | 2, _ => exact h.2.2.1
  | 3, _ => exact h.2.2.2

@[simp] theorem State.wrWord32_pending (s : State) (a v : Nat) : (s.wrWord32 a v).pending = s.pending := State.wrBytes_pending ..
@[simp] theorem State.wrWord32_regs (s : State) (a v : Nat) : (s.wrWord32 a v).regs = s.regs := State.wrBytes_regs ..
@[simp] theorem State.wrWord32_mirr (s : State) (a v : Nat) : (s.wrWord32 a v).mirr = s.mirr := State.wrBytes_mirr ..
@[simp] theorem State.wrWord32_ports (s : State) (a v : Nat) : (s.wrWord32 a v).ports = s.ports := State.wrBytes_ports ..
@[simp] theorem State.wrWord32_flits (s : State) (a v : Nat) : (s.wrWord32 a v).flits = s.flits := State.wrBytes_flits ..
@[simp] theorem State.wrWord32_lanes (s : State) (a v : Nat) : (s.wrWord32 a v).lanes = s.lanes := State.wrBytes_lanes ..
@[simp] theorem State.wrWord32_csb (s : State) (a v : Nat) : (s.wrWord32 a v).csb = s.csb := State.wrBytes_csb ..
@[simp] theorem State.wrWord32_spares (s : State) (a v : Nat) : (s.wrWord32 a v).spares = s.spares := State.wrBytes_spares ..
@[simp] theorem State.wrWord32_heats (s : State) (a v : Nat) : (s.wrWord32 a v).heats = s.heats := State.wrBytes_heats ..
@[simp] theorem State.wrWord32_zclr (s : State) (a v : Nat) : (s.wrWord32 a v).zclr = s.zclr := State.wrBytes_zclr ..
@[simp] theorem State.wrWord32_lenWritten (s : State) (a v : Nat) : (s.wrWord32 a v).lenWritten = s.lenWritten := State.wrBytes_lenWritten ..
@[simp] theorem State.wrWord32_shared (s : State) (a v : Nat) : (s.wrWord32 a v).shared = s.shared := State.wrBytes_shared ..
@[simp] theorem State.wrWord32_held (s : State) (a v : Nat) : (s.wrWord32 a v).held = s.held := State.wrBytes_held ..
@[simp] theorem State.wrWord32_visits (s : State) (a v : Nat) : (s.wrWord32 a v).visits = s.visits := State.wrBytes_visits ..
@[simp] theorem State.wrWord32_clk (s : State) (a v : Nat) : (s.wrWord32 a v).clk = s.clk := State.wrBytes_clk ..
@[simp] theorem State.wrWord32_cals (s : State) (a v : Nat) : (s.wrWord32 a v).cals = s.cals := State.wrBytes_cals ..
@[simp] theorem State.wrWord32_porDrips (s : State) (a v : Nat) : (s.wrWord32 a v).porDrips = s.porDrips := State.wrBytes_porDrips ..
@[simp] theorem State.wrWord32_secDefer (s : State) (a v : Nat) : (s.wrWord32 a v).secDefer = s.secDefer := State.wrBytes_secDefer ..
@[simp] theorem State.wrWord32_views (s : State) (a v : Nat) : (s.wrWord32 a v).views = s.views := State.wrBytes_views ..
@[simp] theorem State.wrWord32_bus (s : State) (a v : Nat) : (s.wrWord32 a v).bus = s.bus := State.wrBytes_bus ..
@[simp] theorem State.wrWord32_spdm (s : State) (a v : Nat) : (s.wrWord32 a v).spdm = s.spdm := State.wrBytes_spdm ..
@[simp] theorem State.wrWord32_boot (s : State) (a v : Nat) : (s.wrWord32 a v).boot = s.boot := State.wrBytes_boot ..
@[simp] theorem State.wrWord32_snaps (s : State) (a v : Nat) : (s.wrWord32 a v).snaps = s.snaps := State.wrBytes_snaps ..
@[simp] theorem State.wrWord32_staged (s : State) (a v : Nat) : (s.wrWord32 a v).staged = s.staged := State.wrBytes_staged ..
@[simp] theorem State.wrWord32_compat (s : State) (a v : Nat) : (s.wrWord32 a v).compat = s.compat := State.wrBytes_compat ..
@[simp] theorem State.wrWord32_misAge (s : State) (a v : Nat) : (s.wrWord32 a v).misAge = s.misAge := State.wrBytes_misAge ..
@[simp] theorem State.wrWord32_winStart (s : State) (a v : Nat) : (s.wrWord32 a v).winStart = s.winStart := State.wrBytes_winStart ..
@[simp] theorem State.wrWord32_causes (s : State) (a v : Nat) : (s.wrWord32 a v).causes = s.causes := State.wrBytes_causes ..
@[simp] theorem State.wrWord32_eccPend (s : State) (a v : Nat) : (s.wrWord32 a v).eccPend = s.eccPend := State.wrBytes_eccPend ..
@[simp] theorem State.wrWord32_scrubPos (s : State) (a v : Nat) : (s.wrWord32 a v).scrubPos = s.scrubPos := State.wrBytes_scrubPos ..
@[simp] theorem State.wrWord32_aliveRun (s : State) (a v : Nat) : (s.wrWord32 a v).aliveRun = s.aliveRun := State.wrBytes_aliveRun ..
@[simp] theorem State.wrWord32_lwTicks (s : State) (a v : Nat) : (s.wrWord32 a v).lwTicks = s.lwTicks := State.wrBytes_lwTicks ..
@[simp] theorem State.wrWord32_alive (s : State) (a v : Nat) : (s.wrWord32 a v).alive = s.alive := State.wrBytes_alive ..
@[simp] theorem State.wrWord32_holds (s : State) (a v : Nat) : (s.wrWord32 a v).holds = s.holds := State.wrBytes_holds ..
@[simp] theorem State.wrWord32_tap (s : State) (a v : Nat) : (s.wrWord32 a v).tap = s.tap := State.wrBytes_tap ..
@[simp] theorem State.wrWord32_safe (s : State) (a v : Nat) : (s.wrWord32 a v).safe = s.safe := State.wrBytes_safe ..
@[simp] theorem State.wrWord32_raised (s : State) (a v : Nat) : (s.wrWord32 a v).raised = s.raised := State.wrBytes_raised ..
@[simp] theorem State.wrWord32_refusedNow (s : State) (a v : Nat) : (s.wrWord32 a v).refusedNow = s.refusedNow := State.wrBytes_refusedNow ..
@[simp] theorem State.wrWord32_out (s : State) (a v : Nat) : (s.wrWord32 a v).out = s.out := State.wrBytes_out ..
@[simp] theorem State.wrWord32_fresh (s : State) (a v : Nat) : (s.wrWord32 a v).fresh = s.fresh := State.wrBytes_fresh ..
@[simp] theorem State.wrWord32_rd (s : State) (a v : Nat) (f : Fld) (i : Nat) : (s.wrWord32 a v).rd f i = s.rd f i :=
  State.wrBytes_rd ..

end Machine
namespace Machine

/-! Check codes -/

/-- A CRC-32C has 32 bits. -/
theorem crc32c_lt (l : List Nat) : crc32c l < 2 ^ 32 := by
  have step : ∀ c, c < 2 ^ 32 → crc32cStep c < 2 ^ 32 := by
    intro c h
    unfold crc32cStep
    split
    · exact Nat.xor_lt_two_pow (by omega) (by decide)
    · omega
  have turns : ∀ n c, c < 2 ^ 32 → iter crc32cStep n c < 2 ^ 32 := by
    intro n
    induction n with
    | zero => exact fun _ h => h
    | succ n ih => exact fun c h => ih _ (step c h)
  have fold : ∀ (l : List Nat) c, c < 2 ^ 32 →
      l.foldl (fun c b => iter crc32cStep 8 (c ^^^ (b % 256))) c < 2 ^ 32 := by
    intro l
    induction l with
    | nil => exact fun _ h => h
    | cons b t ih =>
      intro c h
      exact ih _ (turns 8 _ (Nat.xor_lt_two_pow h (by omega)))
  exact Nat.xor_lt_two_pow (fold l _ (by decide)) (by decide)

end Machine

end Sys2Proof
end

