-- ==== Sys2Proof/Laws/Readings.lean ====
section
/-! SUPPORT. Beginning a command and driving an output change no reading of the state but that of the outputs themselves. -/
namespace Sys2Proof.Machine
section
variable (s : State)
@[simp] theorem State.begun_rdWord32 (a : Nat) : s.begun.rdWord32 a = s.rdWord32 a := rfl
@[simp] theorem State.emit_rdWord32 (a : Nat) (o : Out) : (s.emit o).rdWord32 a = s.rdWord32 a := rfl
@[simp] theorem State.begun_qcode (q : Nat) : s.begun.qcode q = s.qcode q := rfl
@[simp] theorem State.emit_qcode (q : Nat) (o : Out) : (s.emit o).qcode q = s.qcode q := rfl
@[simp] theorem State.begun_width (n : Nat) : s.begun.width n = s.width n := rfl
@[simp] theorem State.emit_width (n : Nat) (o : Out) : (s.emit o).width n = s.width n := rfl
@[simp] theorem State.begun_present (n : Nat) : s.begun.present n = s.present n := rfl
@[simp] theorem State.emit_present (n : Nat) (o : Out) : (s.emit o).present n = s.present n := rfl
@[simp] theorem State.begun_quadGated (q : Nat) : s.begun.quadGated q = s.quadGated q := rfl
@[simp] theorem State.emit_quadGated (q : Nat) (o : Out) : (s.emit o).quadGated q = s.quadGated q := rfl
@[simp] theorem State.begun_portLanes (n : Nat) : s.begun.portLanes n = s.portLanes n := rfl
@[simp] theorem State.emit_portLanes (n : Nat) (o : Out) : (s.emit o).portLanes n = s.portLanes n := rfl
@[simp] theorem State.begun_portOfLane (l : Nat) : s.begun.portOfLane l = s.portOfLane l := rfl
@[simp] theorem State.emit_portOfLane (l : Nat) (o : Out) : (s.emit o).portOfLane l = s.portOfLane l := rfl
@[simp] theorem State.begun_spareState (h : Nat) : s.begun.spareState h = s.spareState h := rfl
@[simp] theorem State.emit_spareState (h : Nat) (o : Out) : (s.emit o).spareState h = s.spareState h := rfl
@[simp] theorem State.begun_spareLane (h : Nat) : s.begun.spareLane h = s.spareLane h := rfl
@[simp] theorem State.emit_spareLane (h : Nat) (o : Out) : (s.emit o).spareLane h = s.spareLane h := rfl
@[simp] theorem State.begun_innerOf (l : Nat) : s.begun.innerOf l = s.innerOf l := rfl
@[simp] theorem State.emit_innerOf (l : Nat) (o : Out) : (s.emit o).innerOf l = s.innerOf l := rfl
@[simp] theorem State.begun_sideLs (n : Nat) (inner : Bool) : s.begun.sideLs n inner = s.sideLs n inner := rfl
@[simp] theorem State.emit_sideLs (n : Nat) (inner : Bool) (o : Out) : (s.emit o).sideLs n inner = s.sideLs n inner := rfl
@[simp] theorem State.begun_portLs (n : Nat) : s.begun.portLs n = s.portLs n := rfl
@[simp] theorem State.emit_portLs (n : Nat) (o : Out) : (s.emit o).portLs n = s.portLs n := rfl
@[simp] theorem State.begun_laneOfLs (ls : Nat) : s.begun.laneOfLs ls = s.laneOfLs ls := rfl
@[simp] theorem State.emit_laneOfLs (ls : Nat) (o : Out) : (s.emit o).laneOfLs ls = s.laneOfLs ls := rfl
@[simp] theorem State.begun_portOfLs (ls : Nat) : s.begun.portOfLs ls = s.portOfLs ls := rfl
@[simp] theorem State.emit_portOfLs (ls : Nat) (o : Out) : (s.emit o).portOfLs ls = s.portOfLs ls := rfl
@[simp] theorem State.begun_quadPorts (q : Nat) : s.begun.quadPorts q = s.quadPorts q := rfl
@[simp] theorem State.emit_quadPorts (q : Nat) (o : Out) : (s.emit o).quadPorts q = s.quadPorts q := rfl
@[simp] theorem State.begun_ltssm (n : Nat) : s.begun.ltssm n = s.ltssm n := rfl
@[simp] theorem State.emit_ltssm (n : Nat) (o : Out) : (s.emit o).ltssm n = s.ltssm n := rfl
@[simp] theorem State.begun_portEn (n : Nat) : s.begun.portEn n = s.portEn n := rfl
@[simp] theorem State.emit_portEn (n : Nat) (o : Out) : (s.emit o).portEn n = s.portEn n := rfl
@[simp] theorem State.begun_hostFacing (n : Nat) : s.begun.hostFacing n = s.hostFacing n := rfl
@[simp] theorem State.emit_hostFacing (n : Nat) (o : Out) : (s.emit o).hostFacing n = s.hostFacing n := rfl
@[simp] theorem State.begun_uspInner (n : Nat) : s.begun.uspInner n = s.uspInner n := rfl
@[simp] theorem State.emit_uspInner (n : Nat) (o : Out) : (s.emit o).uspInner n = s.uspInner n := rfl
@[simp] theorem State.begun_reqDir (n : Nat) : s.begun.reqDir n = s.reqDir n := rfl
@[simp] theorem State.emit_reqDir (n : Nat) (o : Out) : (s.emit o).reqDir n = s.reqDir n := rfl
@[simp] theorem State.begun_rate (n : Nat) : s.begun.rate n = s.rate n := rfl
@[simp] theorem State.emit_rate (n : Nat) (o : Out) : (s.emit o).rate n = s.rate n := rfl
@[simp] theorem State.begun_werrAny : s.begun.werrAny = s.werrAny := rfl
@[simp] theorem State.emit_werrAny (o : Out) : (s.emit o).werrAny = s.werrAny := rfl
@[simp] theorem State.begun_partSpan (p : Nat) : s.begun.partSpan p = s.partSpan p := rfl
@[simp] theorem State.emit_partSpan (p : Nat) (o : Out) : (s.emit o).partSpan p = s.partSpan p := rfl
@[simp] theorem State.begun_partRegion (p : Nat) : s.begun.partRegion p = s.partRegion p := rfl
@[simp] theorem State.emit_partRegion (p : Nat) (o : Out) : (s.emit o).partRegion p = s.partRegion p := rfl
@[simp] theorem State.begun_partLen (p : Nat) : s.begun.partLen p = s.partLen p := rfl
@[simp] theorem State.emit_partLen (p : Nat) (o : Out) : (s.emit o).partLen p = s.partLen p := rfl
@[simp] theorem State.begun_partEntry (p a : Nat) : s.begun.partEntry p a = s.partEntry p a := rfl
@[simp] theorem State.emit_partEntry (p a : Nat) (o : Out) : (s.emit o).partEntry p a = s.partEntry p a := rfl
@[simp] theorem State.begun_zoomEntry (z a : Nat) : s.begun.zoomEntry z a = s.zoomEntry z a := rfl
@[simp] theorem State.emit_zoomEntry (z a : Nat) (o : Out) : (s.emit o).zoomEntry z a = s.zoomEntry z a := rfl
@[simp] theorem State.begun_liveBank : s.begun.liveBank = s.liveBank := rfl
@[simp] theorem State.emit_liveBank (o : Out) : (s.emit o).liveBank = s.liveBank := rfl
@[simp] theorem State.begun_msgKind (p : Nat) (m : MemMsg) : s.begun.msgKind p m = s.msgKind p m := rfl
@[simp] theorem State.emit_msgKind (p : Nat) (m : MemMsg) (o : Out) : (s.emit o).msgKind p m = s.msgKind p m := rfl
@[simp] theorem State.begun_ldidOk (p : Nat) (m : MemMsg) : s.begun.ldidOk p m = s.ldidOk p m := rfl
@[simp] theorem State.emit_ldidOk (p : Nat) (m : MemMsg) (o : Out) : (s.emit o).ldidOk p m = s.ldidOk p m := rfl
@[simp] theorem State.begun_viewFrozen (p : Nat) : s.begun.viewFrozen p = s.viewFrozen p := rfl
@[simp] theorem State.emit_viewFrozen (p : Nat) (o : Out) : (s.emit o).viewFrozen p = s.viewFrozen p := rfl
@[simp] theorem State.begun_chunksLeft (p : Nat) : s.begun.chunksLeft p = s.chunksLeft p := rfl
@[simp] theorem State.emit_chunksLeft (p : Nat) (o : Out) : (s.emit o).chunksLeft p = s.chunksLeft p := rfl
@[simp] theorem State.begun_lastChunk (p : Nat) : s.begun.lastChunk p = s.lastChunk p := rfl
@[simp] theorem State.emit_lastChunk (p : Nat) (o : Out) : (s.emit o).lastChunk p = s.lastChunk p := rfl
@[simp] theorem State.begun_reqEmpty (v : Nat) : s.begun.reqEmpty v = s.reqEmpty v := rfl
@[simp] theorem State.emit_reqEmpty (v : Nat) (o : Out) : (s.emit o).reqEmpty v = s.reqEmpty v := rfl
@[simp] theorem State.begun_reqFull (v : Nat) : s.begun.reqFull v = s.reqFull v := rfl
@[simp] theorem State.emit_reqFull (v : Nat) (o : Out) : (s.emit o).reqFull v = s.reqFull v := rfl
@[simp] theorem State.begun_rspFull (v : Nat) : s.begun.rspFull v = s.rspFull v := rfl
@[simp] theorem State.emit_rspFull (v : Nat) (o : Out) : (s.emit o).rspFull v = s.rspFull v := rfl
@[simp] theorem State.begun_rspOwned (v p : Nat) : s.begun.rspOwned v p = s.rspOwned v p := rfl
@[simp] theorem State.emit_rspOwned (v p : Nat) (o : Out) : (s.emit o).rspOwned v p = s.rspOwned v p := rfl
@[simp] theorem State.begun_silent (ls : Nat) : s.begun.silent ls = s.silent ls := rfl
@[simp] theorem State.emit_silent (ls : Nat) (o : Out) : (s.emit o).silent ls = s.silent ls := rfl
@[simp] theorem State.begun_modeReason (n d : Nat) : s.begun.modeReason n d = s.modeReason n d := rfl
@[simp] theorem State.emit_modeReason (n d : Nat) (o : Out) : (s.emit o).modeReason n d = s.modeReason n d := rfl
@[simp] theorem State.begun_modeTarget (n d : Nat) : s.begun.modeTarget n d = s.modeTarget n d := rfl
@[simp] theorem State.emit_modeTarget (n d : Nat) (o : Out) : (s.emit o).modeTarget n d = s.modeTarget n d := rfl
@[simp] theorem State.begun_portHeld (n : Nat) : s.begun.portHeld n = s.portHeld n := rfl
@[simp] theorem State.emit_portHeld (n : Nat) (o : Out) : (s.emit o).portHeld n = s.portHeld n := rfl
@[simp] theorem State.begun_rootCause (n cause : Nat) : s.begun.rootCause n cause = s.rootCause n cause := rfl
@[simp] theorem State.emit_rootCause (n cause : Nat) (o : Out) : (s.emit o).rootCause n cause = s.rootCause n cause := rfl
@[simp] theorem State.begun_replaces (n cause : Nat) : s.begun.replaces n cause = s.replaces n cause := rfl
@[simp] theorem State.emit_replaces (n cause : Nat) (o : Out) : (s.emit o).replaces n cause = s.replaces n cause := rfl
@[simp] theorem State.begun_mayRun (n : Nat) : s.begun.mayRun n = s.mayRun n := rfl
@[simp] theorem State.emit_mayRun (n : Nat) (o : Out) : (s.emit o).mayRun n = s.mayRun n := rfl
@[simp] theorem State.begun_slotEmpty (n : Nat) : s.begun.slotEmpty n = s.slotEmpty n := rfl
@[simp] theorem State.emit_slotEmpty (n : Nat) (o : Out) : (s.emit o).slotEmpty n = s.slotEmpty n := rfl
@[simp] theorem State.begun_csbUp : s.begun.csbUp = s.csbUp := rfl
@[simp] theorem State.emit_csbUp (o : Out) : (s.emit o).csbUp = s.csbUp := rfl
@[simp] theorem State.begun_srcCfg (f : Fld) (src : Nat) : s.begun.srcCfg f src = s.srcCfg f src := rfl
@[simp] theorem State.emit_srcCfg (f : Fld) (src : Nat) (o : Out) : (s.emit o).srcCfg f src = s.srcCfg f src := rfl
@[simp] theorem State.begun_srcN (src : Nat) : s.begun.srcN src = s.srcN src := rfl
@[simp] theorem State.emit_srcN (src : Nat) (o : Out) : (s.emit o).srcN src = s.srcN src := rfl
@[simp] theorem State.begun_srcWindow (src : Nat) : s.begun.srcWindow src = s.srcWindow src := rfl
@[simp] theorem State.emit_srcWindow (src : Nat) (o : Out) : (s.emit o).srcWindow src = s.srcWindow src := rfl
@[simp] theorem State.begun_severe (src : Nat) : s.begun.severe src = s.severe src := rfl
@[simp] theorem State.emit_severe (src : Nat) (o : Out) : (s.emit o).severe src = s.severe src := rfl
@[simp] theorem State.begun_srcReact (src : Nat) : s.begun.srcReact src = s.srcReact src := rfl
@[simp] theorem State.emit_srcReact (src : Nat) (o : Out) : (s.emit o).srcReact src = s.srcReact src := rfl
@[simp] theorem State.begun_deviceSevere : s.begun.deviceSevere = s.deviceSevere := rfl
@[simp] theorem State.emit_deviceSevere (o : Out) : (s.emit o).deviceSevere = s.deviceSevere := rfl
@[simp] theorem State.begun_standsIn (h : Nat) : s.begun.standsIn h = s.standsIn h := rfl
@[simp] theorem State.emit_standsIn (h : Nat) (o : Out) : (s.emit o).standsIn h = s.standsIn h := rfl
@[simp] theorem State.begun_laneTxs (l : Nat) : s.begun.laneTxs l = s.laneTxs l := rfl
@[simp] theorem State.emit_laneTxs (l : Nat) (o : Out) : (s.emit o).laneTxs l = s.laneTxs l := rfl
@[simp] theorem State.begun_lsTxs (ls : Nat) : s.begun.lsTxs ls = s.lsTxs ls := rfl
@[simp] theorem State.emit_lsTxs (ls : Nat) (o : Out) : (s.emit o).lsTxs ls = s.lsTxs ls := rfl
@[simp] theorem State.begun_reactTxs (src inst : Nat) : s.begun.reactTxs src inst = s.reactTxs src inst := rfl
@[simp] theorem State.emit_reactTxs (src inst : Nat) (o : Out) : (s.emit o).reactTxs src inst = s.reactTxs src inst := rfl
@[simp] theorem State.begun_nSevere : s.begun.nSevere = s.nSevere := rfl
@[simp] theorem State.emit_nSevere (o : Out) : (s.emit o).nSevere = s.nSevere := rfl
@[simp] theorem State.begun_faultPin : s.begun.faultPin = s.faultPin := rfl
@[simp] theorem State.emit_faultPin (o : Out) : (s.emit o).faultPin = s.faultPin := rfl
@[simp] theorem State.begun_irqPin : s.begun.irqPin = s.irqPin := rfl
@[simp] theorem State.emit_irqPin (o : Out) : (s.emit o).irqPin = s.irqPin := rfl
@[simp] theorem State.begun_sevWord (i : Nat) : s.begun.sevWord i = s.sevWord i := rfl
@[simp] theorem State.emit_sevWord (i : Nat) (o : Out) : (s.emit o).sevWord i = s.sevWord i := rfl
@[simp] theorem State.begun_lapLimit (mem : Nat) : s.begun.lapLimit mem = s.lapLimit mem := rfl
@[simp] theorem State.emit_lapLimit (mem : Nat) (o : Out) : (s.emit o).lapLimit mem = s.lapLimit mem := rfl
@[simp] theorem State.begun_coreRuns : s.begun.coreRuns = s.coreRuns := rfl
@[simp] theorem State.emit_coreRuns (o : Out) : (s.emit o).coreRuns = s.coreRuns := rfl
@[simp] theorem State.begun_reaches (r : Requester) : s.begun.reaches r = s.reaches r := rfl
@[simp] theorem State.emit_reaches (r : Requester) (o : Out) : (s.emit o).reaches r = s.reaches r := rfl
@[simp] theorem State.begun_astate (ls : Nat) : s.begun.astate ls = s.astate ls := rfl
@[simp] theorem State.emit_astate (ls : Nat) (o : Out) : (s.emit o).astate ls = s.astate ls := rfl
@[simp] theorem State.begun_adaptEnabled (ls : Nat) : s.begun.adaptEnabled ls = s.adaptEnabled ls := rfl
@[simp] theorem State.emit_adaptEnabled (ls : Nat) (o : Out) : (s.emit o).adaptEnabled ls = s.adaptEnabled ls := rfl
@[simp] theorem State.begun_oppositeLs (ls : Nat) : s.begun.oppositeLs ls = s.oppositeLs ls := rfl
@[simp] theorem State.emit_oppositeLs (ls : Nat) (o : Out) : (s.emit o).oppositeLs ls = s.oppositeLs ls := rfl
@[simp] theorem State.begun_laneOwnerOff (ls : Nat) : s.begun.laneOwnerOff ls = s.laneOwnerOff ls := rfl
@[simp] theorem State.emit_laneOwnerOff (ls : Nat) (o : Out) : (s.emit o).laneOwnerOff ls = s.laneOwnerOff ls := rfl
@[simp] theorem State.begun_lsPowered (ls : Nat) : s.begun.lsPowered ls = s.lsPowered ls := rfl
@[simp] theorem State.emit_lsPowered (ls : Nat) (o : Out) : (s.emit o).lsPowered ls = s.lsPowered ls := rfl
@[simp] theorem State.begun_patternRate (ls : Nat) : s.begun.patternRate ls = s.patternRate ls := rfl
@[simp] theorem State.emit_patternRate (ls : Nat) (o : Out) : (s.emit o).patternRate ls = s.patternRate ls := rfl
@[simp] theorem State.begun_prbsCan (ls : Nat) : s.begun.prbsCan ls = s.prbsCan ls := rfl
@[simp] theorem State.emit_prbsCan (ls : Nat) (o : Out) : (s.emit o).prbsCan ls = s.prbsCan ls := rfl
@[simp] theorem State.begun_freeSpare (ls : Nat) : s.begun.freeSpare ls = s.freeSpare ls := rfl
@[simp] theorem State.emit_freeSpare (ls : Nat) (o : Out) : (s.emit o).freeSpare ls = s.freeSpare ls := rfl
@[simp] theorem State.begun_marginSide (n rxnum : Nat) : s.begun.marginSide n rxnum = s.marginSide n rxnum := rfl
@[simp] theorem State.emit_marginSide (n rxnum : Nat) (o : Out) : (s.emit o).marginSide n rxnum = s.marginSide n rxnum := rfl
@[simp] theorem State.begun_laneOffL0p (n lane : Nat) : s.begun.laneOffL0p n lane = s.laneOffL0p n lane := rfl
@[simp] theorem State.emit_laneOffL0p (n lane : Nat) (o : Out) : (s.emit o).laneOffL0p n lane = s.laneOffL0p n lane := rfl
@[simp] theorem State.begun_capSegs (n : Nat) : s.begun.capSegs n = s.capSegs n := rfl
@[simp] theorem State.emit_capSegs (n : Nat) (o : Out) : (s.emit o).capSegs n = s.capSegs n := rfl
@[simp] theorem State.begun_capTotal (n : Nat) : s.begun.capTotal n = s.capTotal n := rfl
@[simp] theorem State.emit_capTotal (n : Nat) (o : Out) : (s.emit o).capTotal n = s.capTotal n := rfl
@[simp] theorem State.begun_capPost (n : Nat) : s.begun.capPost n = s.capPost n := rfl
@[simp] theorem State.emit_capPost (n : Nat) (o : Out) : (s.emit o).capPost n = s.capPost n := rfl
@[simp] theorem State.begun_capState (n : Nat) : s.begun.capState n = s.capState n := rfl
@[simp] theorem State.emit_capState (n : Nat) (o : Out) : (s.emit o).capState n = s.capState n := rfl
@[simp] theorem State.begun_capRuns (n d : Nat) : s.begun.capRuns n d = s.capRuns n d := rfl
@[simp] theorem State.emit_capRuns (n d : Nat) (o : Out) : (s.emit o).capRuns n d = s.capRuns n d := rfl
@[simp] theorem State.begun_capNext (n : Nat) : s.begun.capNext n = s.capNext n := rfl
@[simp] theorem State.emit_capNext (n : Nat) (o : Out) : (s.emit o).capNext n = s.capNext n := rfl
@[simp] theorem State.begun_capMatch (n : Nat) (h : Handed) : s.begun.capMatch n h = s.capMatch n h := rfl
@[simp] theorem State.emit_capMatch (n : Nat) (h : Handed) (o : Out) : (s.emit o).capMatch n h = s.capMatch n h := rfl
@[simp] theorem State.begun_capTriggers (n : Nat) (h : Handed) : s.begun.capTriggers n h = s.capTriggers n h := rfl
@[simp] theorem State.emit_capTriggers (n : Nat) (h : Handed) (o : Out) : (s.emit o).capTriggers n h = s.capTriggers n h := rfl
@[simp] theorem State.begun_capAdmits (n : Nat) (h : Handed) : s.begun.capAdmits n h = s.capAdmits n h := rfl
@[simp] theorem State.emit_capAdmits (n : Nat) (h : Handed) (o : Out) : (s.emit o).capAdmits n h = s.capAdmits n h := rfl
@[simp] theorem State.begun_capRecord (n d : Nat) (h : Handed) (trig : Bool) : s.begun.capRecord n d h trig = s.capRecord n d h trig := rfl
@[simp] theorem State.emit_capRecord (n d : Nat) (h : Handed) (trig : Bool) (o : Out) : (s.emit o).capRecord n d h trig = s.capRecord n d h trig := rfl
@[simp] theorem State.begun_capOverlap (n m : Nat) : s.begun.capOverlap n m = s.capOverlap n m := rfl
@[simp] theorem State.emit_capOverlap (n m : Nat) (o : Out) : (s.emit o).capOverlap n m = s.capOverlap n m := rfl
@[simp] theorem State.begun_capBad (n : Nat) : s.begun.capBad n = s.capBad n := rfl
@[simp] theorem State.emit_capBad (n : Nat) (o : Out) : (s.emit o).capBad n = s.capBad n := rfl
@[simp] theorem State.begun_capAddr (n i : Nat) : s.begun.capAddr n i = s.capAddr n i := rfl
@[simp] theorem State.emit_capAddr (n i : Nat) (o : Out) : (s.emit o).capAddr n i = s.capAddr n i := rfl
@[simp] theorem State.begun_capBusy : s.begun.capBusy = s.capBusy := rfl
@[simp] theorem State.emit_capBusy (o : Out) : (s.emit o).capBusy = s.capBusy := rfl
@[simp] theorem State.begun_lossN (n : Nat) : s.begun.lossN n = s.lossN n := rfl
@[simp] theorem State.emit_lossN (n : Nat) (o : Out) : (s.emit o).lossN n = s.lossN n := rfl
@[simp] theorem State.begun_located (n : Nat) : s.begun.located n = s.located n := rfl
@[simp] theorem State.emit_located (n : Nat) (o : Out) : (s.emit o).located n = s.located n := rfl
@[simp] theorem State.begun_provOver (n d : Nat) : s.begun.provOver n d = s.provOver n d := rfl
@[simp] theorem State.emit_provOver (n d : Nat) (o : Out) : (s.emit o).provOver n d = s.provOver n d := rfl
@[simp] theorem State.begun_lossDue (n d : Nat) : s.begun.lossDue n d = s.lossDue n d := rfl
@[simp] theorem State.emit_lossDue (n d : Nat) (o : Out) : (s.emit o).lossDue n d = s.lossDue n d := rfl
@[simp] theorem State.begun_locked (n d : Nat) : s.begun.locked n d = s.locked n d := rfl
@[simp] theorem State.emit_locked (n d : Nat) (o : Out) : (s.emit o).locked n d = s.locked n d := rfl
@[simp] theorem State.begun_replayShare (n : Nat) : s.begun.replayShare n = s.replayShare n := rfl
@[simp] theorem State.emit_replayShare (n : Nat) (o : Out) : (s.emit o).replayShare n = s.replayShare n := rfl
@[simp] theorem State.begun_inPlace (n : Nat) : s.begun.inPlace n = s.inPlace n := rfl
@[simp] theorem State.emit_inPlace (n : Nat) (o : Out) : (s.emit o).inPlace n = s.inPlace n := rfl
@[simp] theorem State.begun_outPlace (n : Nat) : s.begun.outPlace n = s.outPlace n := rfl
@[simp] theorem State.emit_outPlace (n : Nat) (o : Out) : (s.emit o).outPlace n = s.outPlace n := rfl
@[simp] theorem State.begun_sentBytes (n d : Nat) (f : Flit) : s.begun.sentBytes n d f = s.sentBytes n d f := rfl
@[simp] theorem State.emit_sentBytes (n d : Nat) (f : Flit) (o : Out) : (s.emit o).sentBytes n d f = s.sentBytes n d f := rfl
@[simp] theorem State.begun_rowsStart (n : Nat) : s.begun.rowsStart n = s.rowsStart n := rfl
@[simp] theorem State.emit_rowsStart (n : Nat) (o : Out) : (s.emit o).rowsStart n = s.rowsStart n := rfl
@[simp] theorem State.begun_seg (n : Nat) : s.begun.seg n = s.seg n := rfl
@[simp] theorem State.emit_seg (n : Nat) (o : Out) : (s.emit o).seg n = s.seg n := rfl
@[simp] theorem State.begun_associated (n : Nat) : s.begun.associated n = s.associated n := rfl
@[simp] theorem State.emit_associated (n : Nat) (o : Out) : (s.emit o).associated n = s.associated n := rfl
@[simp] theorem State.begun_spareNeeded (h : Nat) : s.begun.spareNeeded h = s.spareNeeded h := rfl
@[simp] theorem State.emit_spareNeeded (h : Nat) (o : Out) : (s.emit o).spareNeeded h = s.spareNeeded h := rfl
@[simp] theorem State.begun_trainedOffs (n : Nat) : s.begun.trainedOffs n = s.trainedOffs n := rfl
@[simp] theorem State.emit_trainedOffs (n : Nat) (o : Out) : (s.emit o).trainedOffs n = s.trainedOffs n := rfl
@[simp] theorem State.begun_lockMap (n : Nat) : s.begun.lockMap n = s.lockMap n := rfl
@[simp] theorem State.emit_lockMap (n : Nat) (o : Out) : (s.emit o).lockMap n = s.lockMap n := rfl
@[simp] theorem State.begun_innerLocked (n : Nat) : s.begun.innerLocked n = s.innerLocked n := rfl
@[simp] theorem State.emit_innerLocked (n : Nat) (o : Out) : (s.emit o).innerLocked n = s.innerLocked n := rfl
@[simp] theorem State.begun_mapFull (n map : Nat) : s.begun.mapFull n map = s.mapFull n map := rfl
@[simp] theorem State.emit_mapFull (n map : Nat) (o : Out) : (s.emit o).mapFull n map = s.mapFull n map := rfl
@[simp] theorem State.begun_bothLocked (n : Nat) : s.begun.bothLocked n = s.bothLocked n := rfl
@[simp] theorem State.emit_bothLocked (n : Nat) (o : Out) : (s.emit o).bothLocked n = s.bothLocked n := rfl
@[simp] theorem State.begun_spareFor (n h : Nat) : s.begun.spareFor n h = s.spareFor n h := rfl
@[simp] theorem State.emit_spareFor (n h : Nat) (o : Out) : (s.emit o).spareFor n h = s.spareFor n h := rfl
@[simp] theorem State.begun_coefWord (ls : Nat) : s.begun.coefWord ls = s.coefWord ls := rfl
@[simp] theorem State.emit_coefWord (ls : Nat) (o : Out) : (s.emit o).coefWord ls = s.coefWord ls := rfl
@[simp] theorem State.begun_presetRate (ls : Nat) : s.begun.presetRate ls = s.presetRate ls := rfl
@[simp] theorem State.emit_presetRate (ls : Nat) (o : Out) : (s.emit o).presetRate ls = s.presetRate ls := rfl
@[simp] theorem State.begun_storeKey (ls : Nat) : s.begun.storeKey ls = s.storeKey ls := rfl
@[simp] theorem State.emit_storeKey (ls : Nat) (o : Out) : (s.emit o).storeKey ls = s.storeKey ls := rfl
@[simp] theorem State.begun_innerStored (n : Nat) : s.begun.innerStored n = s.innerStored n := rfl
@[simp] theorem State.emit_innerStored (n : Nat) (o : Out) : (s.emit o).innerStored n = s.innerStored n := rfl
@[simp] theorem State.begun_sidePreset (n : Nat) (inner : Bool) (ts : TrainSet) : s.begun.sidePreset n inner ts = s.sidePreset n inner ts := rfl
@[simp] theorem State.emit_sidePreset (n : Nat) (inner : Bool) (ts : TrainSet) (o : Out) : (s.emit o).sidePreset n inner ts = s.sidePreset n inner ts := rfl
@[simp] theorem State.begun_maxRate (n : Nat) : s.begun.maxRate n = s.maxRate n := rfl
@[simp] theorem State.emit_maxRate (n : Nat) (o : Out) : (s.emit o).maxRate n = s.maxRate n := rfl
@[simp] theorem State.begun_sendLs (n : Nat) (inner : Bool) : s.begun.sendLs n inner = s.sendLs n inner := rfl
@[simp] theorem State.emit_sendLs (n : Nat) (inner : Bool) (o : Out) : (s.emit o).sendLs n inner = s.sendLs n inner := rfl
@[simp] theorem State.begun_heldSide (n new : Nat) : s.begun.heldSide n new = s.heldSide n new := rfl
@[simp] theorem State.emit_heldSide (n new : Nat) (o : Out) : (s.emit o).heldSide n new = s.heldSide n new := rfl
@[simp] theorem State.begun_quadReady (q : Nat) : s.begun.quadReady q = s.quadReady q := rfl
@[simp] theorem State.emit_quadReady (q : Nat) (o : Out) : (s.emit o).quadReady q = s.quadReady q := rfl
@[simp] theorem State.begun_portClocked (n : Nat) : s.begun.portClocked n = s.portClocked n := rfl
@[simp] theorem State.emit_portClocked (n : Nat) (o : Out) : (s.emit o).portClocked n = s.portClocked n := rfl
@[simp] theorem State.begun_follows (n : Nat) : s.begun.follows n = s.follows n := rfl
@[simp] theorem State.emit_follows (n : Nat) (o : Out) : (s.emit o).follows n = s.follows n := rfl
@[simp] theorem State.begun_trialsHalted (n : Nat) : s.begun.trialsHalted n = s.trialsHalted n := rfl
@[simp] theorem State.emit_trialsHalted (n : Nat) (o : Out) : (s.emit o).trialsHalted n = s.trialsHalted n := rfl
@[simp] theorem State.begun_takesRequests (n ls : Nat) : s.begun.takesRequests n ls = s.takesRequests n ls := rfl
@[simp] theorem State.emit_takesRequests (n ls : Nat) (o : Out) : (s.emit o).takesRequests n ls = s.takesRequests n ls := rfl
@[simp] theorem State.begun_offFor (n width : Nat) : s.begun.offFor n width = s.offFor n width := rfl
@[simp] theorem State.emit_offFor (n width : Nat) (o : Out) : (s.emit o).offFor n width = s.offFor n width := rfl
@[simp] theorem State.begun_holdState (n : Nat) : s.begun.holdState n = s.holdState n := rfl
@[simp] theorem State.emit_holdState (n : Nat) (o : Out) : (s.emit o).holdState n = s.holdState n := rfl
@[simp] theorem State.begun_quadFree (q : Nat) : s.begun.quadFree q = s.quadFree q := rfl
@[simp] theorem State.emit_quadFree (q : Nat) (o : Out) : (s.emit o).quadFree q = s.quadFree q := rfl
@[simp] theorem State.begun_word (r : Reg) (i : Nat) : s.begun.word r i = s.word r i := rfl
@[simp] theorem State.emit_word (r : Reg) (i : Nat) (o : Out) : (s.emit o).word r i = s.word r i := rfl
@[simp] theorem State.begun_vdmBody (v : Nat) (e : List Nat) : s.begun.vdmBody v e = s.vdmBody v e := rfl
@[simp] theorem State.emit_vdmBody (v : Nat) (e : List Nat) (o : Out) : (s.emit o).vdmBody v e = s.vdmBody v e := rfl
@[simp] theorem State.begun_hwQueued (v : Nat) : s.begun.hwQueued v = s.hwQueued v := rfl
@[simp] theorem State.emit_hwQueued (v : Nat) (o : Out) : (s.emit o).hwQueued v = s.hwQueued v := rfl
@[simp] theorem State.begun_mayReach (v route : Nat) : s.begun.mayReach v route = s.mayReach v route := rfl
@[simp] theorem State.emit_mayReach (v route : Nat) (o : Out) : (s.emit o).mayReach v route = s.mayReach v route := rfl
@[simp] theorem State.begun_viewPol (v : Nat) : s.begun.viewPol v = s.viewPol v := rfl
@[simp] theorem State.emit_viewPol (v : Nat) (o : Out) : (s.emit o).viewPol v = s.viewPol v := rfl
@[simp] theorem State.begun_seqMark (v : Nat) (e : List Nat) : s.begun.seqMark v e = s.seqMark v e := rfl
@[simp] theorem State.emit_seqMark (v : Nat) (e : List Nat) (o : Out) : (s.emit o).seqMark v e = s.seqMark v e := rfl
@[simp] theorem State.begun_blobWords (v : Nat) : s.begun.blobWords v = s.blobWords v := rfl
@[simp] theorem State.emit_blobWords (v : Nat) (o : Out) : (s.emit o).blobWords v = s.blobWords v := rfl
@[simp] theorem State.begun_blob (v k : Nat) : s.begun.blob v k = s.blob v k := rfl
@[simp] theorem State.emit_blob (v k : Nat) (o : Out) : (s.emit o).blob v k = s.blob v k := rfl
@[simp] theorem State.begun_ringOwned (addr : Nat) : s.begun.ringOwned addr = s.ringOwned addr := rfl
@[simp] theorem State.emit_ringOwned (addr : Nat) (o : Out) : (s.emit o).ringOwned addr = s.ringOwned addr := rfl
@[simp] theorem State.begun_beaconBytes (drip : Nat) : s.begun.beaconBytes drip = s.beaconBytes drip := rfl
@[simp] theorem State.emit_beaconBytes (drip : Nat) (o : Out) : (s.emit o).beaconBytes drip = s.beaconBytes drip := rfl
@[simp] theorem State.begun_laneActive (n l : Nat) : s.begun.laneActive n l = s.laneActive n l := rfl
@[simp] theorem State.emit_laneActive (n l : Nat) (o : Out) : (s.emit o).laneActive n l = s.laneActive n l := rfl
@[simp] theorem State.begun_sparable (l : Nat) : s.begun.sparable l = s.sparable l := rfl
@[simp] theorem State.emit_sparable (l : Nat) (o : Out) : (s.emit o).sparable l = s.sparable l := rfl
@[simp] theorem State.begun_laneFails (l : Nat) : s.begun.laneFails l = s.laneFails l := rfl
@[simp] theorem State.emit_laneFails (l : Nat) (o : Out) : (s.emit o).laneFails l = s.laneFails l := rfl
@[simp] theorem State.begun_outRow (n : Nat) : s.begun.outRow n = s.outRow n := rfl
@[simp] theorem State.emit_outRow (n : Nat) (o : Out) : (s.emit o).outRow n = s.outRow n := rfl
@[simp] theorem State.begun_inRow (n : Nat) : s.begun.inRow n = s.inRow n := rfl
@[simp] theorem State.emit_inRow (n : Nat) (o : Out) : (s.emit o).inRow n = s.inRow n := rfl
@[simp] theorem State.begun_qDepth (n c : Nat) : s.begun.qDepth n c = s.qDepth n c := rfl
@[simp] theorem State.emit_qDepth (n c : Nat) (o : Out) : (s.emit o).qDepth n c = s.qDepth n c := rfl
@[simp] theorem State.begun_qDelay (n c : Nat) : s.begun.qDelay n c = s.qDelay n c := rfl
@[simp] theorem State.emit_qDelay (n c : Nat) (o : Out) : (s.emit o).qDelay n c = s.qDelay n c := rfl
@[simp] theorem State.begun_classifyRpl (n undecoded : Nat) (q : RplReq) : s.begun.classifyRpl n undecoded q = s.classifyRpl n undecoded q := rfl
@[simp] theorem State.emit_classifyRpl (n undecoded : Nat) (q : RplReq) (o : Out) : (s.emit o).classifyRpl n undecoded q = s.classifyRpl n undecoded q := rfl
@[simp] theorem State.begun_slotFits (n : Nat) (slot : List Nat) : s.begun.slotFits n slot = s.slotFits n slot := rfl
@[simp] theorem State.emit_slotFits (n : Nat) (slot : List Nat) (o : Out) : (s.emit o).slotFits n slot = s.slotFits n slot := rfl
@[simp] theorem State.begun_holdPs (n : Nat) : s.begun.holdPs n = s.holdPs n := rfl
@[simp] theorem State.emit_holdPs (n : Nat) (o : Out) : (s.emit o).holdPs n = s.holdPs n := rfl
@[simp] theorem State.begun_inTime (n ps : Nat) : s.begun.inTime n ps = s.inTime n ps := rfl
@[simp] theorem State.emit_inTime (n ps : Nat) (o : Out) : (s.emit o).inTime n ps = s.inTime n ps := rfl
@[simp] theorem State.begun_sparePowered (h : Nat) : s.begun.sparePowered h = s.sparePowered h := rfl
@[simp] theorem State.emit_sparePowered (h : Nat) (o : Out) : (s.emit o).sparePowered h = s.sparePowered h := rfl
@[simp] theorem State.begun_otherBank : s.begun.otherBank = s.otherBank := rfl
@[simp] theorem State.emit_otherBank (o : Out) : (s.emit o).otherBank = s.otherBank := rfl
@[simp] theorem State.begun_inPart (p i : Nat) : s.begun.inPart p i = s.inPart p i := rfl
@[simp] theorem State.emit_inPart (p i : Nat) (o : Out) : (s.emit o).inPart p i = s.inPart p i := rfl
@[simp] theorem State.begun_sharedEntry (zoom : Bool) (i : Nat) : s.begun.sharedEntry zoom i = s.sharedEntry zoom i := rfl
@[simp] theorem State.emit_sharedEntry (zoom : Bool) (i : Nat) (o : Out) : (s.emit o).sharedEntry zoom i = s.sharedEntry zoom i := rfl
@[simp] theorem State.begun_flushed (b : Nat) : s.begun.flushed b = s.flushed b := rfl
@[simp] theorem State.emit_flushed (b : Nat) (o : Out) : (s.emit o).flushed b = s.flushed b := rfl
@[simp] theorem State.begun_exportZooms (p : Nat) : s.begun.exportZooms p = s.exportZooms p := rfl
@[simp] theorem State.emit_exportZooms (p : Nat) (o : Out) : (s.emit o).exportZooms p = s.exportZooms p := rfl
@[simp] theorem State.begun_chunkEntries (p : Nat) : s.begun.chunkEntries p = s.chunkEntries p := rfl
@[simp] theorem State.emit_chunkEntries (p : Nat) (o : Out) : (s.emit o).chunkEntries p = s.chunkEntries p := rfl
@[simp] theorem State.begun_coreSrc : s.begun.coreSrc = s.coreSrc := rfl
@[simp] theorem State.emit_coreSrc (o : Out) : (s.emit o).coreSrc = s.coreSrc := rfl
@[simp] theorem State.begun_outerSrc : s.begun.outerSrc = s.outerSrc := rfl
@[simp] theorem State.emit_outerSrc (o : Out) : (s.emit o).outerSrc = s.outerSrc := rfl
@[simp] theorem State.begun_innerSrc : s.begun.innerSrc = s.innerSrc := rfl
@[simp] theorem State.emit_innerSrc (o : Out) : (s.emit o).innerSrc = s.innerSrc := rfl
@[simp] theorem State.begun_srcPresent (src : Nat) : s.begun.srcPresent src = s.srcPresent src := rfl
@[simp] theorem State.emit_srcPresent (src : Nat) (o : Out) : (s.emit o).srcPresent src = s.srcPresent src := rfl
@[simp] theorem State.begun_pllMay (src : Nat) : s.begun.pllMay src = s.pllMay src := rfl
@[simp] theorem State.emit_pllMay (src : Nat) (o : Out) : (s.emit o).pllMay src = s.pllMay src := rfl
@[simp] theorem State.begun_portsOff : s.begun.portsOff = s.portsOff := rfl
@[simp] theorem State.emit_portsOff (o : Out) : (s.emit o).portsOff = s.portsOff := rfl
@[simp] theorem State.begun_fmRuns (code : Nat) : s.begun.fmRuns code = s.fmRuns code := rfl
@[simp] theorem State.emit_fmRuns (code : Nat) (o : Out) : (s.emit o).fmRuns code = s.fmRuns code := rfl
@[simp] theorem State.begun_period : s.begun.period = s.period := rfl
@[simp] theorem State.emit_period (o : Out) : (s.emit o).period = s.period := rfl
@[simp] theorem State.begun_edgeError (g : Nat) (t : Int) : s.begun.edgeError g t = s.edgeError g t := rfl
@[simp] theorem State.emit_edgeError (g : Nat) (t : Int) (o : Out) : (s.emit o).edgeError g t = s.edgeError g t := rfl
@[simp] theorem State.begun_edgeTooSoon (arrived : Int) : s.begun.edgeTooSoon arrived = s.edgeTooSoon arrived := rfl
@[simp] theorem State.emit_edgeTooSoon (arrived : Int) (o : Out) : (s.emit o).edgeTooSoon arrived = s.edgeTooSoon arrived := rfl
@[simp] theorem State.begun_reached (t : Nat) : s.begun.reached t = s.reached t := rfl
@[simp] theorem State.emit_reached (t : Nat) (o : Out) : (s.emit o).reached t = s.reached t := rfl
@[simp] theorem State.begun_slotTarget (k : Nat) : s.begun.slotTarget k = s.slotTarget k := rfl
@[simp] theorem State.emit_slotTarget (k : Nat) (o : Out) : (s.emit o).slotTarget k = s.slotTarget k := rfl
@[simp] theorem State.begun_vmax : s.begun.vmax = s.vmax := rfl
@[simp] theorem State.emit_vmax (o : Out) : (s.emit o).vmax = s.vmax := rfl
@[simp] theorem State.begun_vmin : s.begun.vmin = s.vmin := rfl
@[simp] theorem State.emit_vmin (o : Out) : (s.emit o).vmin = s.vmin := rfl
@[simp] theorem State.begun_avsRuns : s.begun.avsRuns = s.avsRuns := rfl
@[simp] theorem State.emit_avsRuns (o : Out) : (s.emit o).avsRuns = s.avsRuns := rfl
@[simp] theorem State.begun_avsNow : s.begun.avsNow = s.avsNow := rfl
@[simp] theorem State.emit_avsNow (o : Out) : (s.emit o).avsNow = s.avsNow := rfl
@[simp] theorem State.begun_avsReached : s.begun.avsReached = s.avsReached := rfl
@[simp] theorem State.emit_avsReached (o : Out) : (s.emit o).avsReached = s.avsReached := rfl
@[simp] theorem State.begun_lowestLane (h : Nat) : s.begun.lowestLane h = s.lowestLane h := rfl
@[simp] theorem State.emit_lowestLane (h : Nat) (o : Out) : (s.emit o).lowestLane h = s.lowestLane h := rfl
@[simp] theorem State.begun_spareQuad (h : Nat) : s.begun.spareQuad h = s.spareQuad h := rfl
@[simp] theorem State.emit_spareQuad (h : Nat) (o : Out) : (s.emit o).spareQuad h = s.spareQuad h := rfl
@[simp] theorem State.begun_calLs (q : Nat) : s.begun.calLs q = s.calLs q := rfl
@[simp] theorem State.emit_calLs (q : Nat) (o : Out) : (s.emit o).calLs q = s.calLs q := rfl
@[simp] theorem State.begun_gradual (q ls : Nat) : s.begun.gradual q ls = s.gradual q ls := rfl
@[simp] theorem State.emit_gradual (q ls : Nat) (o : Out) : (s.emit o).gradual q ls = s.gradual q ls := rfl
@[simp] theorem State.begun_carries (ls : Nat) : s.begun.carries ls = s.carries ls := rfl
@[simp] theorem State.emit_carries (ls : Nat) (o : Out) : (s.emit o).carries ls = s.carries ls := rfl
@[simp] theorem State.begun_txStopped (ls : Nat) : s.begun.txStopped ls = s.txStopped ls := rfl
@[simp] theorem State.emit_txStopped (ls : Nat) (o : Out) : (s.emit o).txStopped ls = s.txStopped ls := rfl
@[simp] theorem State.begun_i3c : s.begun.i3c = s.i3c := rfl
@[simp] theorem State.emit_i3c (o : Out) : (s.emit o).i3c = s.i3c := rfl
@[simp] theorem State.begun_smbus : s.begun.smbus = s.smbus := rfl
@[simp] theorem State.emit_smbus (o : Out) : (s.emit o).smbus = s.smbus := rfl
@[simp] theorem State.begun_strapAddr : s.begun.strapAddr = s.strapAddr := rfl
@[simp] theorem State.emit_strapAddr (o : Out) : (s.emit o).strapAddr = s.strapAddr := rfl
@[simp] theorem State.begun_pid : s.begun.pid = s.pid := rfl
@[simp] theorem State.emit_pid (o : Out) : (s.emit o).pid = s.pid := rfl
@[simp] theorem State.begun_spdmBusy : s.begun.spdmBusy = s.spdmBusy := rfl
@[simp] theorem State.emit_spdmBusy (o : Out) : (s.emit o).spdmBusy = s.spdmBusy := rfl
@[simp] theorem State.begun_shown (r : Reg) (f : Fld) (i : Nat) : s.begun.shown r f i = s.shown r f i := rfl
@[simp] theorem State.emit_shown (r : Reg) (f : Fld) (i : Nat) (o : Out) : (s.emit o).shown r f i = s.shown r f i := rfl
@[simp] theorem State.begun_plainWord (r : Reg) (i : Nat) : s.begun.plainWord r i = s.plainWord r i := rfl
@[simp] theorem State.emit_plainWord (r : Reg) (i : Nat) (o : Out) : (s.emit o).plainWord r i = s.plainWord r i := rfl
@[simp] theorem State.begun_compatWord (r : Reg) (i : Nat) : s.begun.compatWord r i = s.compatWord r i := rfl
@[simp] theorem State.emit_compatWord (r : Reg) (i : Nat) (o : Out) : (s.emit o).compatWord r i = s.compatWord r i := rfl
@[simp] theorem State.begun_regWord (r : Reg) (i : Nat) : s.begun.regWord r i = s.regWord r i := rfl
@[simp] theorem State.emit_regWord (r : Reg) (i : Nat) (o : Out) : (s.emit o).regWord r i = s.regWord r i := rfl
@[simp] theorem State.begun_latchValue (r : Reg) (i ns : Nat) : s.begun.latchValue r i ns = s.latchValue r i ns := rfl
@[simp] theorem State.emit_latchValue (r : Reg) (i ns : Nat) (o : Out) : (s.emit o).latchValue r i ns = s.latchValue r i ns := rfl
@[simp] theorem State.begun_reachable (addr : Nat) : s.begun.reachable addr = s.reachable addr := rfl
@[simp] theorem State.emit_reachable (addr : Nat) (o : Out) : (s.emit o).reachable addr = s.reachable addr := rfl
@[simp] theorem State.begun_compatRuns (addr : Nat) : s.begun.compatRuns addr = s.compatRuns addr := rfl
@[simp] theorem State.emit_compatRuns (addr : Nat) (o : Out) : (s.emit o).compatRuns addr = s.compatRuns addr := rfl
@[simp] theorem State.begun_windowOpen : s.begun.windowOpen = s.windowOpen := rfl
@[simp] theorem State.emit_windowOpen (o : Out) : (s.emit o).windowOpen = s.windowOpen := rfl
@[simp] theorem State.begun_lastStraps : s.begun.lastStraps = s.lastStraps := rfl
@[simp] theorem State.emit_lastStraps (o : Out) : (s.emit o).lastStraps = s.lastStraps := rfl
@[simp] theorem State.begun_idleBank (q : Nat) : s.begun.idleBank q = s.idleBank q := rfl
@[simp] theorem State.emit_idleBank (q : Nat) (o : Out) : (s.emit o).idleBank q = s.idleBank q := rfl
@[simp] theorem State.begun_pendingFw : s.begun.pendingFw = s.pendingFw := rfl
@[simp] theorem State.emit_pendingFw (o : Out) : (s.emit o).pendingFw = s.pendingFw := rfl
@[simp] theorem State.begun_mayConfirm : s.begun.mayConfirm = s.mayConfirm := rfl
@[simp] theorem State.emit_mayConfirm (o : Out) : (s.emit o).mayConfirm = s.mayConfirm := rfl
@[simp] theorem State.begun_owner (r : Reg) (i : Nat) : s.begun.owner r i = s.owner r i := rfl
@[simp] theorem State.emit_owner (r : Reg) (i : Nat) (o : Out) : (s.emit o).owner r i = s.owner r i := rfl
@[simp] theorem State.begun_routeOpen : s.begun.routeOpen = s.routeOpen := rfl
@[simp] theorem State.emit_routeOpen (o : Out) : (s.emit o).routeOpen = s.routeOpen := rfl
@[simp] theorem State.begun_mayServe (v : Nat) : s.begun.mayServe v = s.mayServe v := rfl
@[simp] theorem State.emit_mayServe (v : Nat) (o : Out) : (s.emit o).mayServe v = s.mayServe v := rfl
@[simp] theorem State.begun_portScope (p a : Nat) : s.begun.portScope p a = s.portScope p a := rfl
@[simp] theorem State.emit_portScope (p a : Nat) (o : Out) : (s.emit o).portScope p a = s.portScope p a := rfl
@[simp] theorem State.begun_readScope (p a : Nat) : s.begun.readScope p a = s.readScope p a := rfl
@[simp] theorem State.emit_readScope (p a : Nat) (o : Out) : (s.emit o).readScope p a = s.readScope p a := rfl
@[simp] theorem State.begun_viewMay (v : Nat) (e : List Nat) : s.begun.viewMay v e = s.viewMay v e := rfl
@[simp] theorem State.emit_viewMay (v : Nat) (e : List Nat) (o : Out) : (s.emit o).viewMay v e = s.viewMay v e := rfl
@[simp] theorem State.begun_inReset (p : Nat) : s.begun.inReset p = s.inReset p := rfl
@[simp] theorem State.emit_inReset (p : Nat) (o : Out) : (s.emit o).inReset p = s.inReset p := rfl
@[simp] theorem State.begun_aborts (v : Nat) (e : List Nat) : s.begun.aborts v e = s.aborts v e := rfl
@[simp] theorem State.emit_aborts (v : Nat) (e : List Nat) (o : Out) : (s.emit o).aborts v e = s.aborts v e := rfl
@[simp] theorem State.begun_surveyVersion : s.begun.surveyVersion = s.surveyVersion := rfl
@[simp] theorem State.emit_surveyVersion (o : Out) : (s.emit o).surveyVersion = s.surveyVersion := rfl
@[simp] theorem State.begun_infoBytes (v : Nat) : s.begun.infoBytes v = s.infoBytes v := rfl
@[simp] theorem State.emit_infoBytes (v : Nat) (o : Out) : (s.emit o).infoBytes v = s.infoBytes v := rfl
@[simp] theorem State.begun_bankHead (e : List Nat) : s.begun.bankHead e = s.bankHead e := rfl
@[simp] theorem State.emit_bankHead (e : List Nat) (o : Out) : (s.emit o).bankHead e = s.bankHead e := rfl
@[simp] theorem State.begun_pstate : s.begun.pstate = s.pstate := rfl
@[simp] theorem State.emit_pstate (o : Out) : (s.emit o).pstate = s.pstate := rfl
@[simp] theorem State.begun_pldmServes : s.begun.pldmServes = s.pldmServes := rfl
@[simp] theorem State.emit_pldmServes (o : Out) : (s.emit o).pldmServes = s.pldmServes := rfl
@[simp] theorem State.begun_verOf (comp b : Nat) : s.begun.verOf comp b = s.verOf comp b := rfl
@[simp] theorem State.emit_verOf (comp b : Nat) (o : Out) : (s.emit o).verOf comp b = s.verOf comp b := rfl
@[simp] theorem State.begun_updBank (comp : Nat) : s.begun.updBank comp = s.updBank comp := rfl
@[simp] theorem State.emit_updBank (comp : Nat) (o : Out) : (s.emit o).updBank comp = s.updBank comp := rfl
@[simp] theorem State.begun_confirmedFw : s.begun.confirmedFw = s.confirmedFw := rfl
@[simp] theorem State.emit_confirmedFw (o : Out) : (s.emit o).confirmedFw = s.confirmedFw := rfl
@[simp] theorem State.begun_verifyCode (comp : Nat) (c : Crypto) (certOk : Bool) : s.begun.verifyCode comp c certOk = s.verifyCode comp c certOk := rfl
@[simp] theorem State.emit_verifyCode (comp : Nat) (c : Crypto) (certOk : Bool) (o : Out) : (s.emit o).verifyCode comp c certOk = s.verifyCode comp c certOk := rfl
@[simp] theorem State.begun_slotDue (k : Nat) : s.begun.slotDue k = s.slotDue k := rfl
@[simp] theorem State.emit_slotDue (k : Nat) (o : Out) : (s.emit o).slotDue k = s.slotDue k := rfl
@[simp] theorem State.begun_dueWith (action : Nat) : s.begun.dueWith action = s.dueWith action := rfl
@[simp] theorem State.emit_dueWith (action : Nat) (o : Out) : (s.emit o).dueWith action = s.dueWith action := rfl
@[simp] theorem State.begun_otherValid (q : Nat) : s.begun.otherValid q = s.otherValid q := rfl
@[simp] theorem State.emit_otherValid (q : Nat) (o : Out) : (s.emit o).otherValid q = s.otherValid q := rfl
@[simp] theorem State.begun_modeDiffers (n d : Nat) : s.begun.modeDiffers n d = s.modeDiffers n d := rfl
@[simp] theorem State.emit_modeDiffers (n d : Nat) (o : Out) : (s.emit o).modeDiffers n d = s.modeDiffers n d := rfl
@[simp] theorem State.begun_mismatch (unit i : Nat) : s.begun.mismatch unit i = s.mismatch unit i := rfl
@[simp] theorem State.emit_mismatch (unit i : Nat) (o : Out) : (s.emit o).mismatch unit i = s.mismatch unit i := rfl
@[simp] theorem State.begun_dripAdvance : s.begun.dripAdvance = s.dripAdvance := rfl
@[simp] theorem State.emit_dripAdvance (o : Out) : (s.emit o).dripAdvance = s.dripAdvance := rfl
@[simp] theorem State.begun_pktFrame (p : BusPkt) : s.begun.pktFrame p = s.pktFrame p := rfl
@[simp] theorem State.emit_pktFrame (p : BusPkt) (o : Out) : (s.emit o).pktFrame p = s.pktFrame p := rfl
@[simp] theorem State.begun_capTarget (n : Nat) : s.begun.capTarget n = s.capTarget n := rfl
@[simp] theorem State.emit_capTarget (n : Nat) (o : Out) : (s.emit o).capTarget n = s.capTarget n := rfl
@[simp] theorem State.begun_feeds (src : Nat) : s.begun.feeds src = s.feeds src := rfl
@[simp] theorem State.emit_feeds (src : Nat) (o : Out) : (s.emit o).feeds src = s.feeds src := rfl
@[simp] theorem State.begun_allReturned : s.begun.allReturned = s.allReturned := rfl
@[simp] theorem State.emit_allReturned (o : Out) : (s.emit o).allReturned = s.allReturned := rfl
@[simp] theorem State.begun_lsClock (ls : Nat) : s.begun.lsClock ls = s.lsClock ls := rfl
@[simp] theorem State.emit_lsClock (ls : Nat) (o : Out) : (s.emit o).lsClock ls = s.lsClock ls := rfl
@[simp] theorem State.begun_turns (v : Nat) : s.begun.turns v = s.turns v := rfl
@[simp] theorem State.emit_turns (v : Nat) (o : Out) : (s.emit o).turns v = s.turns v := rfl
@[simp] theorem State.begun_heldRsp (v seq : Nat) : s.begun.heldRsp v seq = s.heldRsp v seq := rfl
@[simp] theorem State.emit_heldRsp (v seq : Nat) (o : Out) : (s.emit o).heldRsp v seq = s.heldRsp v seq := rfl
@[simp] theorem State.begun_replayPlace (n pos : Nat) : s.begun.replayPlace n pos = s.replayPlace n pos := rfl
@[simp] theorem State.emit_replayPlace (n pos : Nat) (o : Out) : (s.emit o).replayPlace n pos = s.replayPlace n pos := rfl
@[simp] theorem State.begun_slotNext (n d : Nat) : s.begun.slotNext n d = s.slotNext n d := rfl
@[simp] theorem State.emit_slotNext (n d : Nat) (o : Out) : (s.emit o).slotNext n d = s.slotNext n d := rfl
@[simp] theorem State.begun_skewFits (n skew : Nat) : s.begun.skewFits n skew = s.skewFits n skew := rfl
@[simp] theorem State.emit_skewFits (n skew : Nat) (o : Out) : (s.emit o).skewFits n skew = s.skewFits n skew := rfl
@[simp] theorem State.begun_partRange (p : Nat) : s.begun.partRange p = s.partRange p := rfl
@[simp] theorem State.emit_partRange (p : Nat) (o : Out) : (s.emit o).partRange p = s.partRange p := rfl
@[simp] theorem State.begun_loopback (ls : Nat) : s.begun.loopback ls = s.loopback ls := rfl
@[simp] theorem State.emit_loopback (ls : Nat) (o : Out) : (s.emit o).loopback ls = s.loopback ls := rfl
@[simp] theorem State.begun_hears (ls : Nat) (signal : Bool) : s.begun.hears ls signal = s.hears ls signal := rfl
@[simp] theorem State.emit_hears (ls : Nat) (signal : Bool) (o : Out) : (s.emit o).hears ls signal = s.hears ls signal := rfl
@[simp] theorem State.begun_patternBit (ls k : Nat) : s.begun.patternBit ls k = s.patternBit ls k := rfl
@[simp] theorem State.emit_patternBit (ls k : Nat) (o : Out) : (s.emit o).patternBit ls k = s.patternBit ls k := rfl
@[simp] theorem State.begun_patternSymbols (ls : Nat) : s.begun.patternSymbols ls = s.patternSymbols ls := rfl
@[simp] theorem State.emit_patternSymbols (ls : Nat) (o : Out) : (s.emit o).patternSymbols ls = s.patternSymbols ls := rfl
@[simp] theorem State.begun_generates (ls : Nat) : s.begun.generates ls = s.generates ls := rfl
@[simp] theorem State.emit_generates (ls : Nat) (o : Out) : (s.emit o).generates ls = s.generates ls := rfl
@[simp] theorem State.begun_phraseLate (ls : Nat) : s.begun.phraseLate ls = s.phraseLate ls := rfl
@[simp] theorem State.emit_phraseLate (ls : Nat) (o : Out) : (s.emit o).phraseLate ls = s.phraseLate ls := rfl
@[simp] theorem State.begun_passed (t : Nat) : s.begun.passed t = s.passed t := rfl
@[simp] theorem State.emit_passed (t : Nat) (o : Out) : (s.emit o).passed t = s.passed t := rfl
@[simp] theorem State.begun_dripAgo (ago : Nat) : s.begun.dripAgo ago = s.dripAgo ago := rfl
@[simp] theorem State.emit_dripAgo (ago : Nat) (o : Out) : (s.emit o).dripAgo ago = s.dripAgo ago := rfl
@[simp] theorem State.begun_loadedBody (comp : Nat) : s.begun.loadedBody comp = s.loadedBody comp := rfl
@[simp] theorem State.emit_loadedBody (comp : Nat) (o : Out) : (s.emit o).loadedBody comp = s.loadedBody comp := rfl
@[simp] theorem State.begun_drive (ls : Nat) : s.begun.drive ls = s.drive ls := rfl
@[simp] theorem State.emit_drive (ls : Nat) (o : Out) : (s.emit o).drive ls = s.drive ls := rfl
@[simp] theorem State.begun_spareWaits (ls : Nat) : s.begun.spareWaits ls = s.spareWaits ls := rfl
@[simp] theorem State.emit_spareWaits (ls : Nat) (o : Out) : (s.emit o).spareWaits ls = s.spareWaits ls := rfl
@[simp] theorem State.begun_calPartDone (ls : Nat) : s.begun.calPartDone ls = s.calPartDone ls := rfl
@[simp] theorem State.emit_calPartDone (ls : Nat) (o : Out) : (s.emit o).calPartDone ls = s.calPartDone ls := rfl
@[simp] theorem State.begun_calDone (q : Nat) : s.begun.calDone q = s.calDone q := rfl
@[simp] theorem State.emit_calDone (q : Nat) (o : Out) : (s.emit o).calDone q = s.calDone q := rfl
@[simp] theorem State.begun_rplPos (n : Nat) (q : RplReq) : s.begun.rplPos n q = s.rplPos n q := rfl
@[simp] theorem State.emit_rplPos (n : Nat) (q : RplReq) (o : Out) : (s.emit o).rplPos n q = s.rplPos n q := rfl
@[simp] theorem State.begun_rplWaits (n undecoded : Nat) (q : RplReq) : s.begun.rplWaits n undecoded q = s.rplWaits n undecoded q := rfl
@[simp] theorem State.emit_rplWaits (n undecoded : Nat) (q : RplReq) (o : Out) : (s.emit o).rplWaits n undecoded q = s.rplWaits n undecoded q := rfl
@[simp] theorem State.begun_slotHere (n : Nat) : s.begun.slotHere n = s.slotHere n := rfl
@[simp] theorem State.emit_slotHere (n : Nat) (o : Out) : (s.emit o).slotHere n = s.slotHere n := rfl
@[simp] theorem State.begun_flashSeen (x : FlashSeen) : s.begun.flashSeen x = s.flashSeen x := rfl
@[simp] theorem State.emit_flashSeen (x : FlashSeen) (o : Out) : (s.emit o).flashSeen x = s.flashSeen x := rfl
@[simp] theorem State.begun_svChosen : s.begun.svChosen = s.svChosen := rfl
@[simp] theorem State.emit_svChosen (o : Out) : (s.emit o).svChosen = s.svChosen := rfl
@[simp] theorem State.begun_sentSet (n : Nat) (ts : TrainSet) : s.begun.sentSet n ts = s.sentSet n ts := rfl
@[simp] theorem State.emit_sentSet (n : Nat) (ts : TrainSet) (o : Out) : (s.emit o).sentSet n ts = s.sentSet n ts := rfl
@[simp] theorem State.begun_sideHint (n : Nat) (inner : Bool) (ts : TrainSet) : s.begun.sideHint n inner ts = s.sideHint n inner ts := rfl
@[simp] theorem State.emit_sideHint (n : Nat) (inner : Bool) (ts : TrainSet) (o : Out) : (s.emit o).sideHint n inner ts = s.sideHint n inner ts := rfl
@[simp] theorem State.begun_dwell (n : Nat) : s.begun.dwell n = s.dwell n := rfl
@[simp] theorem State.emit_dwell (n : Nat) (o : Out) : (s.emit o).dwell n = s.dwell n := rfl
@[simp] theorem State.begun_trialLimit (n : Nat) : s.begun.trialLimit n = s.trialLimit n := rfl
@[simp] theorem State.emit_trialLimit (n : Nat) (o : Out) : (s.emit o).trialLimit n = s.trialLimit n := rfl
@[simp] theorem State.begun_presetsOnly (n : Nat) (inner : Bool) : s.begun.presetsOnly n inner = s.presetsOnly n inner := rfl
@[simp] theorem State.emit_presetsOnly (n : Nat) (inner : Bool) (o : Out) : (s.emit o).presetsOnly n inner = s.presetsOnly n inner := rfl
@[simp] theorem State.begun_mctpUnit (smbus : Bool) : s.begun.mctpUnit smbus = s.mctpUnit smbus := rfl
@[simp] theorem State.emit_mctpUnit (smbus : Bool) (o : Out) : (s.emit o).mctpUnit smbus = s.mctpUnit smbus := rfl
@[simp] theorem State.begun_viewLive (v : Nat) : s.begun.viewLive v = s.viewLive v := rfl
@[simp] theorem State.emit_viewLive (v : Nat) (o : Out) : (s.emit o).viewLive v = s.viewLive v := rfl
end
end Sys2Proof.Machine
end

