-- ==== Sys2Proof/Laws/Sump.lean ====
section
/-! SUPPORT. How the sump takes events at the end of a command: one event whose reaction raises no other, and what stays while
the state is otherwise unchanged. -/
namespace Sys2Proof.Machine

/-- One event waits, and taking it raises no other. -/
theorem State.settle_one (u : State) (e : Ev) (h : u.raised = [e]) (h2 : ((u.putRaised []).sumpEv e).raised = []) :
    u.settle = (u.putRaised []).sumpEv e := by
  unfold State.settle
  rw [h]
  show State.settleEvs (64 + 1) u = _
  unfold State.settleEvs
  rw [h]
  simp only
  unfold State.settleEvs
  rw [h2]

/-- An event raised in a quiet state and taken from the list leaves the state. -/
theorem Part.same_taken {p : Part} (s : State) (a b c : Nat) (h : s.raised = []) :
    p.same s ((s.begun.raise a b c).putRaised []) := by
  by_cases hp : p = .raised
  · subst hp; exact h.symm
  · exact Part.same_trans (Part.same_trans (Part.same_begun p s) (Part.same_raise _ a b c hp)) (Part.same_putRaised _ [] hp)

/-- The drip count depends on its two fields alone. -/
theorem State.drip_wr (s : State) (f : Fld) (i v : Nat) (h1 : f.id ≠ F.CLK_DRIP_LO_DRIP_LO.id)
    (h2 : f.id ≠ F.CLK_DRIP_HI_DRIP_HI.id) : (s.wr f i v).drip = s.drip := by
  simp [State.drip, State.rd_wr_fld s v h1, State.rd_wr_fld s v h2]

/-- A held record stays (R378). -/
theorem State.capture_held (s : State) (e : Ev) (h : s.rd F.SUMP_SRC_STAT_HELD e.src = 1) : s.capture e = s := by
  simp [State.capture, State.flag, h]

/-- A listed source whose pair is not faulted: its event is accepted (R370, R371). -/
theorem State.sumpEv_accepts (s : State) (e : Ev) (h : (srcRow e.src).isNone = false)
    (hw : s.rd F.SUMP_SRC_STAT_WIREF e.src ≠ 1) : s.sumpEv e = s.acceptEv e := by
  simp [State.sumpEv, h, State.flag, hw]

/-- The event starts a window (R373). -/
theorem State.countEv_starts (s : State) (e : Ev)
    (h : s.rd F.SUMP_SRC_STAT_STATE e.src = 0 ∨ s.srcWindow e.src ≤ s.drip - s.winStart.get e.src 0) :
    s.countEv e = ((((s.clr F.SUMP_SRC_STAT_COUNT e.src).putWinStart (s.winStart.set e.src s.drip 0)).inc
      F.SUMP_SRC_STAT_COUNT e.src).wr F.SUMP_SRC_STAT_STATE e.src 1).judge e := by
  unfold State.countEv
  simp only [ge_iff_le, h, if_true]

/-- The event falls in the window (R373). -/
theorem State.countEv_counts (s : State) (e : Ev) (h0 : s.rd F.SUMP_SRC_STAT_STATE e.src ≠ 0)
    (h : s.drip - s.winStart.get e.src 0 < s.srcWindow e.src) :
    s.countEv e = ((s.inc F.SUMP_SRC_STAT_COUNT e.src).wr F.SUMP_SRC_STAT_STATE e.src 1).judge e := by
  unfold State.countEv
  have : ¬(s.rd F.SUMP_SRC_STAT_STATE e.src = 0 ∨ s.srcWindow e.src ≤ s.drip - s.winStart.get e.src 0) := by omega
  simp only [ge_iff_le, this, if_false]

/-- A source with no reaction and no interrupt on becoming SEVERE: only its state changes (R373, R374). -/
theorem State.judge_calm (s : State) (e : Ev) (hf : srcFixed e.src = false) (hr : s.rd F.SUMP_SRC_CFG_REACT e.src = 0)
    (hi : s.rd F.SUMP_SRC_CFG_IRQ e.src ≠ 1) :
    s.judge e = if max (s.rd F.SUMP_SRC_CFG_N e.src) 1 ≤ s.rd F.SUMP_SRC_STAT_COUNT e.src then
      s.wr F.SUMP_SRC_STAT_STATE e.src 2 else s := by
  have h3 : (s.wr F.SUMP_SRC_STAT_STATE e.src 2).rd F.SUMP_SRC_CFG_IRQ e.src ≠ 1 := by
    rw [State.rd_wr_fld _ _ (by decide)]; exact hi
  have h4 : (s.wr F.SUMP_SRC_STAT_STATE e.src 2).rd F.SUMP_SRC_CFG_REACT e.src = 0 := by
    rw [State.rd_wr_fld _ _ (by decide)]; exact hr
  simp [State.judge, State.srcN, State.srcCfg, hf, h3, State.react, State.srcReact, h4]

end Sys2Proof.Machine
end

