-- ==== Sys2Proof/Tests/Slice0.lean ====
section
/-! SUPPORT. Tests: worked examples of the manual, the checks of WellFormed, and a witness for the hypotheses of every
statement. -/
namespace Sys2Proof.Tests
open Sys2Proof Sys2Proof.Machine
-- each theorem is checked before the next one is read, so that few evaluations are held at once
set_option Elab.async false
set_option linter.unusedVariables false

/-! States for the witnesses -/

def up : State := State.reset.wr F.CLK_STAT_CPLL_LOCK 0 1
def link (c : Nat) : State := ((up.wr F.GLB_BIFUR_QUAD0 0 1).wr F.PORT_LINK_STAT_LTSSM 0 c)
def csb (k : Nat) : State := (((link 8).wr F.CMP_CSB_STAT_STATE 0 3).putCsb { rx0 := k })
def flit0 : Flit := ⟨List.replicate 256 3, [.clean, .clean, .clean], true, ⟨none, false, false, []⟩, 1998, 0⟩
def flitLink : State := (((link 8).wr (F.lock 0) 0 2).wr (F.lock 1) 0 2).modPort 0 fun p => { p with stream := true, fmt := 1 }
def mkReq (seq opc : Nat) : List Nat :=
  let b := leBytes seq 2 ++ [0, 0, opc, 0, 0, 0] ++ List.replicate 112 0
  b ++ List.replicate 4 0 ++ leBytes (crc32c b) 4

def spLink : State := ((((csb 255).wr F.CMP_PORT_STAT_SEG 0 2).wr F.PORT_CTL_EN 0 1).modPort 0 fun p => { p with trained := 15 }).wr F.SPARE_STAT_STATE 0 1
def spReq : State := (((spLink.wr F.SPARE_STAT_STATE 0 2).wr F.SPARE_STAT_LANE 0 3).modSpare 0 fun p => { p with asked := true }).modLane 35 fun l => { l with tx := true }
def spCopy : State := (((spLink.wr F.SPARE_STAT_STATE 0 3).wr F.SPARE_STAT_LANE 0 3).modSpare 0 fun p => { p with copying := true }).modLane 35 fun l => { l with tx := true }

def trn (c : Nat) : State := ((((link c).wr F.QUAD_STAT_PLL_O_LOCK 0 1).wr F.QUAD_STAT_PLL_I_LOCK 0 1).wr F.PWR_DOM_STAT_QGATED 0 0).modPort 0 fun p => { p with foundO := 15, foundI := 15, trained := 15 }
def txAll (s : State) : State := ([0, 1, 2, 3, 32, 33, 34, 35].foldl (fun a ls => a.modLane ls fun l => { l with tx := true }) s)
def ts0 : TrainSet := { inner := false, state := 3, ts2 := false, rates := 0x7F, rp := false, trp := false, l0p := true, flit := false, fmt := 0, width := 0, logical := [], inverted := [], rate := 0, presetUsp := 0, presetDsp := 0 }

def heatS : State := (up.wr F.HEAT_STAT_OSTATE 0 1).wrWord32 0x300000 0x12345678

def noReact (s : State) : State := (List.range 128).foldl (fun a k => a.wr F.SUMP_SRC_CFG_REACT k 0) s
def dripS : State := noReact ((((up.wr F.HEAT_EPOCH_CFG_LEN 0 0).setDrip (2 ^ 32 - 1)).modClk fun c => { c with last := 2 ^ 32 - 1 }).wr F.GLB_BIFUR_QUAD0 0 1)
def calm : DripIn := ⟨800, 900, 1800, 5, [], [], List.replicate 8 899, [], false⟩

def i3cS : State := (up.wr F.MGMT_STAT_BUS_MODE 0 1).wr F.MGMT_BUS_STAT_DYN_ADDR 0 9
def smbS : State := ((up.wr F.MGMT_STAT_BUS_MODE 0 0).wr F.MGMT_BUS_CFG_I2C_DIS 0 0).wr F.MGMT_STAT_SMB_PEND 0 1
def pkt (smbus : Bool) : BusPkt := ⟨smbus, some 16, some 0, false, true, [1, 9, 8, 0xC8, 0x7F]⟩
def rspS (s : State) (smbus : Bool) : State := ((s.wr F.MGMT_VIEW_PTR_RSP_WR 16 1).modView 16 fun w => { w with handed := 1 }).putBus { s.bus with pkts := [pkt smbus] }

def mkR (seq opc flags len : Nat) (payload : List Nat) : List Nat :=
  let b := leBytes seq 2 ++ [0, 0, opc, flags, 0, len] ++ padTo payload 112
  b ++ [3, 0, 0, 0] ++ leBytes (crc32c b) 4
def ask (v : Nat) (e : List Nat) : State :=
  ((((link 8).wr F.MGMT_STAT_LRUN 0 1).wr F.MGMT_VIEW_CTL_EN v 1).wr F.MGMT_VIEW_PTR_REQ_WR v 1).wrBytes (reqAddr v 0) e

def frz (v : Nat) : State := (up.wr F.MGMT_VIEW_STAT_FROZEN v 1).wr F.MGMT_VIEW_CTL_FREEZE v 1
def recW : List Nat := [0xEF5A0110, 0xFFFE0007, 0x1020304, 1, 0, 0, 0, 5, 6, 7, 0, 0, 0, 0, 0]
def recB : State := (recW.zipIdx).foldl (fun a p => a.wr F.MGMT_VIEW_BLOB_WORD (16 * 16 + p.2) p.1) (frz 16)
def recS : State :=
  (recB.wr F.MGMT_VIEW_BLOB_WORD (16 * 16 + 15) (recB.blobCrc 16 recW)).modView 16 fun w => { w with blobOp := some false }
theorem recS_blob (k : Nat) (h : k < 15) : recS.blob 16 k = recB.blob 16 k := by
  unfold recS State.blob State.modView
  rw [State.setView_rd, State.rd_wr_inst _ _ (by omega)]
theorem recS_words : (List.range 15).map (recS.blob 16) = recW := by
  rw [List.map_congr_left (g := recB.blob 16) fun k hk => recS_blob k (List.mem_range.1 hk)]
  decide +kernel
theorem recS_crc : recS.blob 16 15 = recS.blobCrc 16 ((List.range 15).map (recS.blob 16)) := by
  have h : recS.blobCrc 16 recW = recB.blobCrc 16 recW := by
    have hm : recS.mem = recB.mem := by
      unfold recS State.modView
      rw [State.setView_mem, State.wr_mem]
    unfold State.blobCrc
    rw [State.rdBytes_congr hm (viewBase 16) 16384]
  rw [recS_words, h]
  unfold recS State.blob State.modView
  rw [State.setView_rd, State.rd_wr_self]
  exact Nat.mod_eq_of_lt (crc32c_lt _)

def spdmS (k : Nat) : State := ((smbS.wr F.MGMT_STAT_LRUN 0 1).wr F.MGMT_STAT_SMB_PEND 0 0).wr F.MGMT_SEC_STAT_SPDM 0 k
def signS (chal : Bool) : State := { (spdmS 3) with spdm := ⟨some (9, chal), 255, 3⟩ }

/-- Bytes placed at an address, and an image: its digest and signature are bytes of 255, as erased ones. -/
def place (a : Nat) (l : List Nat) : SMap Nat := (l.zipIdx.filter fun p => p.1 != 0xFF).map fun p => (a + p.2, p.1)
def hdrOf (comp key ver dig : Nat) (body : List Nat) : List Nat :=
  [0xA1, 0xE5, 0x34, 0x32, comp, 1, key, 0] ++ leBytes ver 4 ++ leBytes body.length 4 ++ List.replicate 240 dig
def imgCrypto (l : List (List Nat × List Nat)) : Crypto :=
  ⟨l.map (fun p => (p.2, hdrDigest p.1)) ++ l.map (fun p => (hdrSigned p.1, hdrDigest p.1)),
   l.map fun p => (hdrKey p.1, hdrDigest p.1, hdrSig p.1)⟩
def svBody1 : List Nat := [1, 0, 8, 0, 0x34, 0x32, 1, 0, 0, 0, 0, 0, 0xFF, 0xFF, 0, 0]
def phrase0 : List Nat := [1, 0, 0, 0, 1, 0, 0, 0] ++ List.replicate 249 255
def fwBody : List Nat :=
  [3, 0, 0, 0, 1, 0, 0, 0, 52, 0, 0, 0, 4, 0, 0, 0, 0, 0, 0, 0, 2, 0, 0, 0, 56, 0, 0, 0, 4, 0, 0, 0, 0, 0, 0, 0,
   3, 0, 0, 0, 60, 0, 0, 0, 1, 1, 0, 0, 0xFF, 0, 0, 0] ++ List.replicate 8 255 ++ phrase0
def phraseKeys : Crypto :=
  ⟨[([255], List.replicate 48 255), (phrase0.take 56, List.replicate 48 255)], [(1, List.replicate 48 255, List.replicate 96 255)]⟩
def addCrypto (a b : Crypto) : Crypto := ⟨a.digests ++ b.digests, a.sigs ++ b.sigs⟩
def svHdr1 : List Nat := hdrOf 2 2 5 255 svBody1
def fwHdr (v : Nat) : List Nat := hdrOf 1 0 v 255 fwBody
def logCells (l : List (RecType × Nat × Nat × Nat)) : SMap Nat :=
  place 0 ((l.zipIdx).flatMap fun p => recBytes ⟨p.1.1, p.1.2.1, p.1.2.2.1, p.2 + 1, p.1.2.2.2, List.replicate 16 255⟩)
def mkFlash (cells : SMap Nat) (c : Crypto) : Flash := ⟨0xC22019, 27, 1, true, cells, c⟩
def svCells : SMap Nat := place 0x40000 (svHdr1 ++ svBody1)
def svKnown : Crypto := imgCrypto [(svHdr1, svBody1)]
def fwKnown : Crypto := addCrypto (imgCrypto [(fwHdr 5, fwBody)]) phraseKeys
/-- A flash with a log of the Survey's bank 0 alone; one with nothing; with a Survey; with a Survey and firmware in bank 0; with
firmware in bank 1 pending; with firmware in bank 0 beside a bank 1 tried; with a verified header in bank 1. -/
def flash0 : Flash := mkFlash (logCells [(.verified, 2, 0, 4), (.confirmed, 2, 0, 4)]) ⟨[], []⟩
def flashE : Flash := mkFlash [] ⟨[], []⟩
def flashS : Flash := mkFlash svCells svKnown
def flash2 : Flash := mkFlash (svCells ++ place 0x100000 (fwHdr 5 ++ fwBody)) (addCrypto svKnown fwKnown)
def flash3 : Flash :=
  mkFlash (logCells [(.verified, 1, 1, 5), (.pending, 1, 1, 5)] ++ svCells ++ place 0x300000 (fwHdr 5 ++ fwBody)) (addCrypto svKnown fwKnown)
def flash4 : Flash := mkFlash (logCells [(.pending, 1, 1, 5), (.trial, 1, 1, 5)] ++ place 0x100000 (fwHdr 5 ++ fwBody)) fwKnown
def flash5 : Flash := mkFlash (logCells [(.verified, 1, 1, 5)] ++ place 0x300000 (fwHdr 5)) fwKnown
def sv1 : List SvRec := [.device 0x3234 1 0, .endRec]
theorem flash2_sv : choose flash2 [2] 2 0 true = ⟨some (0, false), none, false, none⟩ := by decide +kernel
theorem flash2_fw : choose flash2 [2] 1 0 true = ⟨some (0, false), none, false, none⟩ := by decide +kernel
theorem flash4_fw : choose flash4 [2] 1 0 true = ⟨some (0, false), some (.reverted, 1), true, none⟩ := by decide +kernel

def pldmS (k : Nat) : State := (((spdmS 0).wr F.MGMT_ACL_MCTP_VIEWS 0 1).wr F.BOOT_UPD_STAT_PSTATE 0 k).modBoot fun b => { b with flash := some flash0, keys := [2], pldm := { agent := 9 } }
def dlS (k comp got size : Nat) : State := ((pldmS k).wr F.BOOT_UPD_STAT_COMP 0 comp).modBoot fun b => { b with pldm := { b.pldm with got := got, size := size, header := svHdr1 } }
def trialS (f : Flash) : State := (((((up.wr F.BOOT_UPD_STAT_WINDOW 0 1).wr F.BOOT_STAT_FW_TRIAL 0 1).wr F.BOOT_STAT_FW_BANK 0 1).wr F.BOOT_STAT_STAGE 0 11).wr F.MGMT_STAT_LRUN 0 1).modBoot fun b => { b with flash := some f, keys := [2], tallyOk := true, window := some 9, winNew := true }
def wrS (r : SvRec) : State := (up.wr F.BOOT_STAT_STAGE 0 9).modBoot fun b => { b with survey := [r] }
def stS (l : List SvRec) (k : Nat) (g : Nat → Nat) : State :=
  let s := (if k = 3 then ((link 0x1F).wr F.PORT_CFG_PERST_EN 0 0).wr F.PORT_STAT_RSTDONE 0 1 else up).wr F.BOOT_STAT_STAGE 0 10
  s.modBoot fun b => { b with survey := l, svTally := g (tallyOf s.regs) }
theorem ne_next (x : Nat) : (x + 1) % 2 ^ 32 ≠ x % 2 ^ 32 := by omega
theorem stS_g (l : List SvRec) (k : Nat) (g : Nat → Nat) : (stS l k g).boot.svTally = g (tallyOf (stS l k g).regs) := by simp [stS]
theorem stS_eq (l : List SvRec) (k : Nat) (g : Nat → Nat) (h : ∀ x, g x = x) :
    (stS l k g).boot.svTally % 2 ^ 32 = tallyOf (stS l k g).regs % 2 ^ 32 := by rw [stS_g, h]
theorem stS_ne (l : List SvRec) (k : Nat) (g : Nat → Nat) (h : ∀ x, g x % 2 ^ 32 ≠ x % 2 ^ 32) :
    (stS l k g).boot.svTally % 2 ^ 32 ≠ tallyOf (stS l k g).regs % 2 ^ 32 := by
  rw [stS_g]
  exact h _
theorem tally_self (x : SMap Nat) : tallyChanged x x = [] := by simp [tallyChanged]

def ev0 : State := { State.reset with pending := [.rstdaa] }
def memS : State := { (State.reset.wrByte 0x300000 9) with pending := [.rstdaa] }

/-! Worked examples -/

/-- The check values of the codes over the ASCII digits 1 to 9, as catalogues of CRCs give them (R191, R302, R301). -/
theorem test_check_codes :
    (crc16 [49, 50, 51, 52, 53, 54, 55, 56, 57], crc32c [49, 50, 51, 52, 53, 54, 55, 56, 57],
      crc8 [49, 50, 51, 52, 53, 54, 55, 56, 57]) = (0x29B1, 0xE3069283, 0xF4) := by decide +kernel

/-- Chapter 0's example of addresses: lane 13, the Phrase engine of quad 3, PORT_CTL of port 5. -/
theorem test_addresses :
    regAt 0x26800 = some (.LANE_RX_CTL, 13) ∧ regAt 0x27800 = some (.PHR_CTL, 3) ∧ regAt 0x15000 = some (.PORT_CTL, 5) := by
  decide +kernel

/-- Chapter 0's example of a bifurcation: x8, two x4 and eight x2 ports. -/
theorem test_ports_present :
    ((List.range 16).filter fun n => ((State.reset.setWord .GLB_BIFUR 0 0o22221155).present n))
      = [0, 4, 6, 8, 9, 10, 11, 12, 13, 14, 15] := by decide +kernel

/-- Chapter 8's example of a slew: the edge comes 37 ns after the boundary of count 7,000. -/
theorem test_timesync_slew :
    let s := ((up.wr F.CLK_TSYNC_CFG_PERIOD 0 1000).wr F.CLK_TSYNC_CFG_DELAY 0 0).setDrip 7000
    let t := s.tsyncEdge 37
    (t.rd F.CLK_TSYNC_STAT_ERR 0, t.clk.slew, t.clk.stepTo) = (37, 37, none) := by decide +kernel

/-- Chapter 8's example of a step: the edge comes 620 ns into drip 6,999, which ends after 1,620 ns with count 7,001. -/
theorem test_timesync_step :
    let s := ((up.wr F.CLK_TSYNC_CFG_PERIOD 0 1000).wr F.CLK_TSYNC_CFG_DELAY 0 0).setDrip 6999
    let t := s.tsyncEdge 620
    (t.rd F.CLK_TSYNC_STAT_ERR 0, t.clk.stepTo, t.rd F.CLK_TSYNC_CNT_STEP 0) = (65536 - 380, some (7001, 1620), 1) := by
  decide +kernel

/-- Chapter 7's example of a counter: 0x3A40 becomes 0x3A41 where the two low bits of the stepped LFSR are 0, and else stays. -/
theorem test_counter : (counterAdd 0x3A40 16 1).1 = 0x3A41 ∧ (counterAdd 0x3A40 2 1).1 = 0x3A40 := by decide +kernel


/-! The checks of WellFormed -/

def slotOf (c : Nat) : List Nat := 32 * c :: List.replicate 255 0

/- The operands of every command have values that its encoding admits. -/
theorem test_wf_accepts_1 : ([
     .powerOnReset ⟨0, 0⟩, .pinReset ⟨0, 0⟩, .brownOut 0, .glbRstDevice .normal, .glbRstLantern .normal,
     .lanternRestart, .portCtlEn .normal 0 true, .portCtlRst .normal 0, .portResetDone 0, .perstAssert 0,
     .perstRelease 0, .presenceAccepted 0 true, .quadCtlRst .normal 0, .cmpCsbCtlRst .normal,
     .cmpCsbCtlEn .normal true, .laneRxCtlFreeze .normal 0 true, .laneRxCtlRestart .normal 0,
     .laneRxCtlCntClr .normal 0, .signalDetect 0, .cdrLock 0, .lossOfSignal 0, .adaptConverged 0 0 0 0 0,
     .lossOfLock 0, .relockTimeout 0, .ebWatermarkCrossing 0 0, .elasticBufferError 0 true, .skpOrderedSet 0 0 1,
     .lanePrbsCtlClr .normal 0, .prbsLock 0, .prbsLockLoss 0 0 0, .marginCommand 0 0 0 .step, .marginStepSetup 0,
     .phrCtlEn .normal 0 true, .phrWdogClr .normal 0, .phraseOverrun 0, .mirrorRefresh .core,
     .phraseMemoryWrite .normal 0x100000 0, .detectRetry 0 [] [], .trainingSet 0 ts0,
     .coefficientRequest 0 (.preset 0), .eqTrialEnd 0 true ⟨0, none, none⟩, .execTmo 0 true, .l0pTransition 0 1,
     .l1Entry 0, .l1Exit 0 true 0, .hotReset 0 true, .disabledExit 0 true, .trainingWatchdog 0, .timeoutIdleEnd 0,
     .unannouncedIdle 0 true, .portCtlRetrain .normal 0, .portCtlCntClr .normal 0, .portBindTagWrite .normal 0 0,
     .dataStreamStart 0 0 0, .dataStreamEnd 0, .flitDecoded 0 0 flit0, .provisionalLockExpiry 0 0, .lockLoss 0 0,
     .orderedSetMisplaced 0 0, .portFlitCtlCntClr .normal 0, .portCapCtlArm .normal 0, .portCapCtlForce .normal 0,
     .portCapCtlStop .normal 0, .captureRecordWrite 0, .captureDone 0, .captureWindowWrite .normal 0x500000 0,
     .joinRsp ⟨0, 0, 0⟩ 0 true true, .joinTmo 0, .lockRpt ⟨0, 0, 0⟩ 0 0 true 0, .clockTmo 0,
     .ceqDone ⟨0, 0, 0⟩ 0 true, .ceqTmo 0, .fallbackAck ⟨0, 0, 0⟩ 0, .fallbackAckTimeout 0, .fallbackHoldTimeout 0,
     .leave ⟨0, 0, 0⟩ 0 0, .rowLoss 0, .csbAligned, .hello 0 0 0 0, .helloTimer, .csbCodeViolationLoss, .lossTmo,
     .ack 0 0, .rtxTmo 0, .reservedCsbFrame ⟨0, 0, 0⟩ .noPort, .beacon 0 0 0 0, .spareReq ⟨0, 0, 0⟩ 0 0 0,
     .spareRsp ⟨0, 0, 0⟩ 0 0 0, .spareRspTimeout 0, .spareTrack 0 0, .spareSwitchover 0,
     .spareRxOn ⟨0, 0, 0⟩ 0 0 true, .spareTmo 0, .laneHealth ⟨0, 0, 0⟩ 0 0 (List.replicate 16 0), .spareWindow,
     .spareCtlReq .normal 0, .spareCtlRelS0 .normal, .spareCtlRelS1 .normal, .spareCtlCntClr .normal,
     .cmpCsbCtlCntClr .normal] : List Instr).all (fun i => i.wf == true) = true := by decide +kernel
theorem test_wf_accepts_2 : ([
     .slotDecision 0 0 .ok 0 0, .replaySlot 0 (slotOf 0) ⟨0, true, flit0.info⟩, .replayRequestSlot 0 (slotOf 1),
     .portViewMessageSlot 0 (slotOf 3), .fillSlot 0 (slotOf 7), .badSlot 0 (slotOf 1), .holdDeparture 0,
     .erratumDeadline 0, .cmpSlotCtlCntClr .normal, .cacheWriteBack 0 .ok, .flushEnd, .heatCtlRel .normal,
     .autoRelease, .clearEnd, .heatPctlClr .normal 0, .partitionClearEnd 0, .heatZctlClr .normal 0, .zoomClearEnd 0,
     .heatCtlCntClr .normal, .heatPlfsrWrite .normal 0 0, .heatWindowWrite .normal 0x200000 0, .chunkReady 0 [],
     .dripBoundary calm, .crystalPresent, .pllLock .core, .clkSrcSafe .normal true, .clkSrcMgmt .normal true,
     .clkSrcCoreRef .normal 0, .clkSrcOref .normal true, .clkSrcIref .normal true, .sourceLoss 0, .sourceReturn 0,
     .coreRestart 0, .clkFmCtlStart .normal, .fmWindowEnd 0, .timesyncEdge 0, .timesyncMiss,
     .clkTsyncCtlLoad .normal, .clkSchedCtlArm .normal 0, .clkSchedCtlCancel .normal 0, .clkCtlCntClr .normal,
     .snapshotLoRead .normal 0 0, .pairLoWrite .normal 0 0, .pairHiWrite .normal 0 0, .avsTarget 0, .avsCommand,
     .avsFault, .ldoFault 0, .bifurcationWrite .normal 0, .quadUngate 0, .temperatureSample (List.replicate 10 0),
     .thermalTrip, .tripRelease, .pwrCtlCalRun .normal 0, .calRunEnd 0, .stepCorrection 0, .pwrCtlCntClr .normal,
     .secureGateRequest true, .secureDomainRelease, .secureAccessViolation, .entdaa 0, .setdasa 0 0, .setaasa,
     .setnewda 0 0, .rstdaa, .enec true, .disec true, .getpid, .getbcr, .getdcr, .getstatus, .getmwl, .setmwl 0,
     .getmrl, .setmrl 0, .getmxds, .i3cPrivateRead true, .smbusWrite none [], .sclLowTimeout, .alertResponse,
     .smbusBlockRead true, .smbusPacketTimeout, .setEndpointId 0 0 0, .getEndpointId 0 0, .getMctpVersionSupport 0 0,
     .getMessageTypeSupport 0 0, .getVendorDefinedMsgSupport 0 0,
     .efsiaRequest (.i3c 0 0) 0 (List.replicate 128 0) .ok, .getInfo 0, .read 0 [] 0, .write 0, .rmw 0 true 0,
     .resync 0, .portSummary 0, .heatRead 0 [], .zoomRead 0 [], .capRead 0 [], .viewFreeze .normal 0,
     .viewThaw .normal 0, .mgmtViewCtlSave .normal 0] : List Instr).all (fun i => i.wf == true) = true := by decide +kernel
theorem test_wf_accepts_3 : ([
     .mgmtViewCtlRestore .normal 0, .mgmtViewCtlRingRst .normal 0, .mgmtViewCtlCntClr .normal 0,
     .mgmtCtlCntClr .normal, .mailboxWrite .normal 0x140000 0, .getVersion 0, .getCapabilities 0,
     .negotiateAlgorithms 0 true, .getDigests 0, .getCertificate 0 0 0 0, .challenge 0 0, .getMeasurements 0 0 true,
     .spdmUnsupportedRequest 0, .startupStageComplete ⟨.absent, 0⟩, .queryDeviceIdentifiers 0,
     .getFirmwareParameters 0, .requestUpdate 0 0, .passComponentTable 0 true, .updateComponent 0 0 0,
     .requestFirmwareData 0 [], .transferComplete 0, .verifyComplete 0 ⟨[], []⟩ true, .applyComplete 0 true,
     .activateFirmware 0 true, .getStatus 0, .cancelUpdateComponent 0, .cancelUpdate 0, .updateAgentTimeout,
     .bootUpdCtlConfirm .normal, .bootUpdCtlRevert .normal, .bootUpdCtlReact .normal, .bootUpdCtlContinue .normal,
     .bootUpdCtlCntClr .normal, .confirmationWindowEnd, .autoConfirm, .tallyPassEnd, .glbTallyCtlCommit .normal,
     .glbTallyCtlAdopt .normal, .sourceEvent 0 0 0 true, .wireFault 0, .sumpWindowEnd 0, .sumpClr .normal 0,
     .sumpClrAll .normal, .sumpForce .normal 0 0 0, .sumpCtlCntClr .normal, .sumpCtlAvailClr .normal,
     .sumpLwdogCtlKick .normal, .lanternWatchdog, .qstopAssert, .qstopRelease, .qstopDiscrepancy,
     .eccWriteBack 0 0 true, .eccLeak 0, .scrubRead 0 .ok, .compatWrite .normal 0x8000 0, .cwWbufRead .normal,
     .glbLockWrite .normal 0, .extest .extest, .tapReset .fiveTms, .registerWrite .normal 0 0,
     .qstopDisagreement true true, .prsntLevelChange 0 true, .ldoOutputInRange 0, .wireFaultEnd 0,
     .flashProgramEraseComplete, .csbFrameCrcBad [], .csbFrameBoundary, .saveRestoreComplete 0, .signingComplete,
     .sparePowerUp 0] : List Instr).all (fun i => i.wf == true) = true := by decide +kernel

theorem test_wf_refuses_1 : ([
     .powerOnReset ⟨8, 0⟩, .powerOnReset ⟨0, 4⟩, .pinReset ⟨8, 0⟩, .pinReset ⟨0, 4⟩, .brownOut 4,
     .portCtlEn .normal 16 true, .portCtlRst .normal 16, .portResetDone 16, .perstAssert 16, .perstRelease 16,
     .presenceAccepted 16 true, .quadCtlRst .normal 8, .laneRxCtlFreeze .normal 66 true,
     .laneRxCtlRestart .normal 66, .laneRxCtlCntClr .normal 66, .signalDetect 66, .cdrLock 66, .lossOfSignal 66,
     .adaptConverged 66 0 0 0 0, .adaptConverged 0 64 0 0 0, .adaptConverged 0 0 64 0 0, .adaptConverged 0 0 0 64 0,
     .adaptConverged 0 0 0 0 64, .lossOfLock 66, .relockTimeout 66, .ebWatermarkCrossing 66 0,
     .ebWatermarkCrossing 0 65, .elasticBufferError 66 true, .skpOrderedSet 66 0 1, .skpOrderedSet 0 65 1,
     .skpOrderedSet 0 0 65, .skpOrderedSet 0 0 0, .lanePrbsCtlClr .normal 66, .prbsLock 66, .prbsLockLoss 66 0 0,
     .prbsLockLoss 0 0 1, .marginCommand 16 0 0 .step, .marginCommand 0 32 0 .step, .marginCommand 0 0 8 .step,
     .marginStepSetup 66, .phrCtlEn .normal 8 true, .phrWdogClr .normal 8, .phraseOverrun 8,
     .mirrorRefresh (.quad 8), .phraseMemoryWrite .normal 0x140000 0, .phraseMemoryWrite .normal 0xfffff 0,
     .phraseMemoryWrite .normal 0x100002 0, .phraseMemoryWrite .normal 0x100000 (2 ^ 32), .detectRetry 16 [] [],
     .detectRetry 0 [16] [], .detectRetry 0 [] [16], .trainingSet 16 ts0, .trainingSet 0 { ts0 with state := 0x0A },
     .trainingSet 0 { ts0 with rates := 128 }, .trainingSet 0 { ts0 with fmt := 4 },
     .trainingSet 0 { ts0 with width := 3 }, .trainingSet 0 { ts0 with logical := [16] },
     .trainingSet 0 { ts0 with inverted := [16] }, .trainingSet 0 { ts0 with rate := 7 },
     .trainingSet 0 { ts0 with presetUsp := 16 }, .trainingSet 0 { ts0 with presetDsp := 16 },
     .trainingSet 0 { ts0 with link := 256 }, .trainingSet 0 { ts0 with hintUsp := some 8 },
     .trainingSet 0 { ts0 with hintDsp := some 8 }, .trainingSet 0 { ts0 with fs := 64 },
     .trainingSet 0 { ts0 with lf := 64 }, .coefficientRequest 66 (.preset 0), .coefficientRequest 0 (.preset 16),
     .coefficientRequest 0 (.coefs 64 0 0 0), .coefficientRequest 0 (.coefs 0 64 0 0),
     .coefficientRequest 0 (.coefs 0 0 64 0), .coefficientRequest 0 (.coefs 0 0 0 64),
     .eqTrialEnd 16 true ⟨0, none, none⟩, .eqTrialEnd 0 true ⟨0, none, some (.preset 16)⟩, .execTmo 16 true,
     .l0pTransition 16 1, .l0pTransition 0 3, .l1Entry 16, .l1Exit 16 true 0, .l1Exit 0 true 32, .hotReset 16 true,
     .disabledExit 16 true, .trainingWatchdog 16, .timeoutIdleEnd 16, .unannouncedIdle 16 true,
     .portCtlRetrain .normal 16, .portCtlCntClr .normal 16, .portBindTagWrite .normal 16 0,
     .portBindTagWrite .normal 0 (2 ^ 16), .dataStreamStart 16 0 0, .dataStreamStart 0 (2 ^ 32) 0,
     .dataStreamStart 0 0 (2 ^ 32), .dataStreamEnd 16, .flitDecoded 16 0 flit0, .flitDecoded 0 2 flit0,
     .flitDecoded 0 0 { flit0 with bytes := List.replicate 255 0 },
     .flitDecoded 0 0 { flit0 with bytes := List.replicate 256 256 },
     .flitDecoded 0 0 { flit0 with cw := [.clean, .clean] },
     .flitDecoded 0 0 { flit0 with cw := [.corrected 1 1, .clean, .clean] },
     .flitDecoded 0 0 { flit0 with cw := [.clean, .corrected 1 0, .clean] }] : List Instr).all (fun i => i.wf == false) = true := by decide +kernel
theorem test_wf_refuses_2 : ([
     .flitDecoded 0 0 { flit0 with cw := [.clean, .corrected 1 256, .clean] },
     .flitDecoded 0 0 { flit0 with cw := [.clean, .corrected 256 1, .clean] },
     .flitDecoded 0 0 { flit0 with ns := 1999 }, .flitDecoded 0 0 { flit0 with ago := 3 },
     .provisionalLockExpiry 16 0, .provisionalLockExpiry 0 2, .lockLoss 16 0, .lockLoss 0 2,
     .orderedSetMisplaced 16 0, .orderedSetMisplaced 0 2, .portFlitCtlCntClr .normal 16, .portCapCtlArm .normal 16,
     .portCapCtlForce .normal 16, .portCapCtlStop .normal 16, .captureRecordWrite 16, .captureDone 16,
     .captureWindowWrite .normal 0x700000 0, .captureWindowWrite .normal 0x4fffff 0,
     .captureWindowWrite .normal 0x500002 0, .captureWindowWrite .normal 0x500000 (2 ^ 32),
     .joinRsp ⟨2, 0, 0⟩ 0 true true, .joinRsp ⟨0, 256, 0⟩ 0 true true, .joinRsp ⟨0, 0, 256⟩ 0 true true,
     .joinRsp ⟨0, 0, 0⟩ 16 true true, .joinTmo 16, .lockRpt ⟨2, 0, 0⟩ 0 0 true 0, .lockRpt ⟨0, 256, 0⟩ 0 0 true 0,
     .lockRpt ⟨0, 0, 256⟩ 0 0 true 0, .lockRpt ⟨0, 0, 0⟩ 16 0 true 0, .lockRpt ⟨0, 0, 0⟩ 0 8 true 0,
     .lockRpt ⟨0, 0, 0⟩ 0 0 true (2 ^ 16), .clockTmo 16, .ceqDone ⟨2, 0, 0⟩ 0 true, .ceqDone ⟨0, 256, 0⟩ 0 true,
     .ceqDone ⟨0, 0, 256⟩ 0 true, .ceqDone ⟨0, 0, 0⟩ 16 true, .ceqTmo 16, .fallbackAck ⟨2, 0, 0⟩ 0,
     .fallbackAck ⟨0, 256, 0⟩ 0, .fallbackAck ⟨0, 0, 256⟩ 0, .fallbackAck ⟨0, 0, 0⟩ 16, .fallbackAckTimeout 16,
     .fallbackHoldTimeout 16, .leave ⟨2, 0, 0⟩ 0 0, .leave ⟨0, 256, 0⟩ 0 0, .leave ⟨0, 0, 256⟩ 0 0,
     .leave ⟨0, 0, 0⟩ 16 0, .leave ⟨0, 0, 0⟩ 0 256, .rowLoss 16, .hello 256 0 0 0, .hello 0 256 0 0,
     .hello 0 0 256 0, .hello 0 0 0 256, .ack 2 0, .ack 0 256, .rtxTmo 2, .reservedCsbFrame ⟨2, 0, 0⟩ .noPort,
     .reservedCsbFrame ⟨0, 256, 0⟩ .noPort, .reservedCsbFrame ⟨0, 0, 256⟩ .noPort, .beacon (2 ^ 48) 0 0 0,
     .beacon 0 (2 ^ 16) 0 0, .beacon 0 0 (2 ^ 32) 0, .beacon 0 0 0 256, .spareReq ⟨2, 0, 0⟩ 0 0 0,
     .spareReq ⟨0, 256, 0⟩ 0 0 0, .spareReq ⟨0, 0, 256⟩ 0 0 0, .spareReq ⟨0, 0, 0⟩ 2 0 0,
     .spareReq ⟨0, 0, 0⟩ 0 256 0, .spareReq ⟨0, 0, 0⟩ 0 0 256, .spareRsp ⟨2, 0, 0⟩ 0 0 0,
     .spareRsp ⟨0, 256, 0⟩ 0 0 0, .spareRsp ⟨0, 0, 256⟩ 0 0 0, .spareRsp ⟨0, 0, 0⟩ 2 0 0,
     .spareRsp ⟨0, 0, 0⟩ 0 256 0, .spareRsp ⟨0, 0, 0⟩ 0 0 256, .spareRspTimeout 2, .spareTrack 2 0,
     .spareSwitchover 2, .spareRxOn ⟨2, 0, 0⟩ 0 0 true, .spareRxOn ⟨0, 256, 0⟩ 0 0 true,
     .spareRxOn ⟨0, 0, 256⟩ 0 0 true, .spareRxOn ⟨0, 0, 0⟩ 2 0 true, .spareRxOn ⟨0, 0, 0⟩ 0 256 true, .spareTmo 2,
     .laneHealth ⟨2, 0, 0⟩ 0 0 (List.replicate 16 0), .laneHealth ⟨0, 256, 0⟩ 0 0 (List.replicate 16 0),
     .laneHealth ⟨0, 0, 256⟩ 0 0 (List.replicate 16 0), .laneHealth ⟨0, 0, 0⟩ 16 0 (List.replicate 16 0),
     .laneHealth ⟨0, 0, 0⟩ 0 256 (List.replicate 16 0), .laneHealth ⟨0, 0, 0⟩ 0 0 [],
     .laneHealth ⟨0, 0, 0⟩ 0 0 (List.replicate 16 65536), .spareCtlReq .normal 32, .slotDecision 16 0 .ok 0 0,
     .slotDecision 0 0 (.ce (2 ^ 24)) 0 0, .slotDecision 0 0 (.ue (2 ^ 24)) 0 0, .slotDecision 0 0 .ok 33 0,
     .slotDecision 0 0 .ok 0 33, .replaySlot 16 (slotOf 0) ⟨0, true, flit0.info⟩,
     .replaySlot 0 [32 * 0] ⟨0, true, flit0.info⟩, .replaySlot 0 (slotOf 1) ⟨0, true, flit0.info⟩] : List Instr).all (fun i => i.wf == false) = true := by decide +kernel
theorem test_wf_refuses_3 : ([
     .replaySlot 0 ((slotOf 0).set 9 256) ⟨0, true, flit0.info⟩, .replayRequestSlot 16 (slotOf 1),
     .replayRequestSlot 0 [32 * 1], .replayRequestSlot 0 (slotOf 0), .replayRequestSlot 0 ((slotOf 1).set 9 256),
     .portViewMessageSlot 16 (slotOf 3), .portViewMessageSlot 0 [32 * 3], .portViewMessageSlot 0 (slotOf 0),
     .portViewMessageSlot 0 ((slotOf 3).set 9 256), .fillSlot 16 (slotOf 7), .fillSlot 0 [32 * 7],
     .fillSlot 0 (slotOf 0), .fillSlot 0 ((slotOf 7).set 9 256), .badSlot 16 (slotOf 1), .badSlot 0 [32 * 1],
     .badSlot 0 (slotOf 0), .badSlot 0 ((slotOf 1).set 9 256), .holdDeparture 16, .erratumDeadline 16,
     .cacheWriteBack 16 .ok, .heatPctlClr .normal 16, .partitionClearEnd 16, .heatZctlClr .normal 16,
     .zoomClearEnd 16, .heatPlfsrWrite .normal 16 0, .heatPlfsrWrite .normal 0 (2 ^ 32),
     .heatWindowWrite .normal 0x480000 0, .heatWindowWrite .normal 0x1fffff 0, .heatWindowWrite .normal 0x200002 0,
     .heatWindowWrite .normal 0x200000 (2 ^ 32), .chunkReady 16 [], .dripBoundary { calm with vddc := 2 ^ 16 },
     .dripBoundary { calm with vdda := 2 ^ 16 }, .dripBoundary { calm with vddh := 2 ^ 16 },
     .dripBoundary { calm with zref := 2 ^ 16 }, .dripBoundary { calm with badSlices := [(66, 0)] },
     .dripBoundary { calm with badSlices := [(0, 66)] }, .dripBoundary { calm with badLegs := [(66, 0)] },
     .dripBoundary { calm with badLegs := [(0, 50)] }, .dripBoundary { calm with cycles := [] },
     .dripBoundary { calm with cycles := List.replicate 8 901 }, .dripBoundary { calm with prbs := [(66, 0, 0)] },
     .dripBoundary { calm with prbs := [(0, 1, 2)] }, .pllLock (.quadOuter 8), .pllLock (.quadInner 8),
     .clkSrcCoreRef .normal 4, .sourceLoss 3, .sourceReturn 3, .timesyncEdge (-1), .timesyncEdge 2000,
     .clkSchedCtlArm .normal 8, .clkSchedCtlCancel .normal 8, .snapshotLoRead .normal (2 ^ 32) 0,
     .snapshotLoRead .normal 0 2000, .pairLoWrite .normal (2 ^ 32) 0, .pairLoWrite .normal 0 (2 ^ 32),
     .pairHiWrite .normal (2 ^ 32) 0, .pairHiWrite .normal 0 (2 ^ 32), .avsTarget 1024, .ldoFault 10,
     .bifurcationWrite .normal (2 ^ 32), .quadUngate 8, .temperatureSample [],
     .temperatureSample (List.replicate 10 1024), .temperatureSample (List.replicate 10 (-1025)),
     .pwrCtlCalRun .normal 256, .calRunEnd 8, .stepCorrection 66, .entdaa 128, .setdasa 128 0, .setdasa 0 128,
     .setnewda 128 0, .setnewda 0 128, .setmwl (2 ^ 16), .setmrl (2 ^ 16), .smbusWrite none [256],
     .setEndpointId 256 0 0, .setEndpointId 0 256 0, .setEndpointId 0 0 8, .getEndpointId 256 0, .getEndpointId 0 8,
     .getMctpVersionSupport 256 0, .getMctpVersionSupport 0 8, .getMessageTypeSupport 256 0,
     .getMessageTypeSupport 0 8, .getVendorDefinedMsgSupport 256 0, .getVendorDefinedMsgSupport 0 8,
     .efsiaRequest (.i3c 256 0) 0 (List.replicate 128 0) .ok, .efsiaRequest (.i3c 0 8) 0 (List.replicate 128 0) .ok,
     .efsiaRequest (.smbus 256 0) 0 (List.replicate 128 0) .ok,
     .efsiaRequest (.smbus 0 8) 0 (List.replicate 128 0) .ok,
     .efsiaRequest (.csb ⟨2, 0, 0⟩) 0 (List.replicate 128 0) .ok,
     .efsiaRequest (.i3c 0 0) 256 (List.replicate 128 0) .ok, .efsiaRequest (.i3c 0 0) 0 [] .ok,
     .efsiaRequest (.i3c 0 0) 0 (List.replicate 128 256) .ok,
     .efsiaRequest (.i3c 0 0) 0 (List.replicate 128 0) (.ce (2 ^ 24)),
     .efsiaRequest (.i3c 0 0) 0 (List.replicate 128 0) (.ue (2 ^ 24)), .getInfo 17, .read 17 [] 0, .read 0 [] 2000] : List Instr).all (fun i => i.wf == false) = true := by decide +kernel
theorem test_wf_refuses_4 : ([
     .write 17, .rmw 17 true 0, .rmw 0 true 2000, .resync 17, .portSummary 17, .heatRead 17 [], .zoomRead 17 [],
     .capRead 17 [], .viewFreeze .normal 17, .viewThaw .normal 17, .mgmtViewCtlSave .normal 17,
     .mgmtViewCtlRestore .normal 17, .mgmtViewCtlRingRst .normal 17, .mgmtViewCtlCntClr .normal 17,
     .mailboxWrite .normal 0x184000 0, .mailboxWrite .normal 0x13ffff 0, .mailboxWrite .normal 0x140002 0,
     .mailboxWrite .normal 0x140000 (2 ^ 32), .getVersion 256, .getCapabilities 256, .negotiateAlgorithms 256 true,
     .getDigests 256, .getCertificate 256 0 0 0, .getCertificate 0 8 0 0, .getCertificate 0 0 (2 ^ 16) 0,
     .getCertificate 0 0 0 (2 ^ 16), .challenge 256 0, .challenge 0 8, .getMeasurements 256 0 true,
     .getMeasurements 0 256 true, .spdmUnsupportedRequest 256,
     .startupStageComplete ⟨.holds { flashE with cells := [(1, 0), (0, 0)] }, 0⟩,
     .startupStageComplete ⟨.holds { flashE with cells := [(0, 256)] }, 0⟩,
     .startupStageComplete ⟨.holds { flashE with cells := [(0, 255)] }, 0⟩, .queryDeviceIdentifiers 256,
     .getFirmwareParameters 256, .requestUpdate 256 0, .passComponentTable 256 true, .updateComponent 256 0 0,
     .updateComponent 0 (2 ^ 16) 0, .requestFirmwareData 256 [], .requestFirmwareData 0 [256], .transferComplete 256,
     .verifyComplete 256 ⟨[], []⟩ true, .applyComplete 256 true, .activateFirmware 256 true, .getStatus 256,
     .cancelUpdateComponent 256, .cancelUpdate 256, .sourceEvent 128 0 0 true, .sourceEvent 0 256 0 true,
     .sourceEvent 0 0 256 true, .wireFault 128, .sumpWindowEnd 128, .sumpClr .normal 128, .sumpForce .normal 128 0 0,
     .sumpForce .normal 0 256 0, .sumpForce .normal 0 0 256, .eccWriteBack 9 0 true, .eccWriteBack 0 (2 ^ 24) true,
     .eccLeak 9, .scrubRead 9 .ok, .scrubRead 0 (.ce (2 ^ 24)), .scrubRead 0 (.ue (2 ^ 24)),
     .compatWrite .normal 0x10000 0, .compatWrite .normal 0x7fff 0, .compatWrite .normal 0x8002 0,
     .compatWrite .normal 0x8000 (2 ^ 32), .glbLockWrite .normal (2 ^ 32), .registerWrite .normal (2 ^ 32) 0,
     .registerWrite .normal 0 (2 ^ 32), .prsntLevelChange 16 true, .ldoOutputInRange 10, .wireFaultEnd 128,
     .csbFrameCrcBad [256], .saveRestoreComplete 17, .sparePowerUp 2] : List Instr).all (fun i => i.wf == false) = true := by decide +kernel

/-- A command whose operand names nothing is refused. -/
theorem test_refusal : (match exec (.perstAssert 16) State.reset with | .refused .illFormed => true | _ => false) = true := by decide +kernel

/-! Witnesses -/

theorem wit_TheFrontCommandRuns :
    (∃ (c : Instr) (q : List Instr) (s : State), s.pending = c :: q) ∧
    (∃ (s : State), s.pending = []) :=
  ⟨⟨.rstdaa, [.tallyPassEnd], { State.reset with pending := [.rstdaa, .tallyPassEnd] }, by decide +kernel⟩,
   ⟨State.reset, by decide +kernel⟩⟩

theorem wit_EveryStepCountsItsEvents :
    ∃ (s t : State), Quiet s ∧ step s = .next t :=
  ⟨ev0, _, rfl, rfl⟩

theorem wit_EveryStepKeepsTheMemoryForm :
    ∃ (s t : State), Memory.wf s.mem = true ∧ step s = .next t :=
  ⟨memS, _, by decide +kernel, rfl⟩

theorem wit_NoCommandTouchesTheQueue :
    ∃ (c : Instr) (s t : State), exec c s = .next t :=
  ⟨.rstdaa, ev0, _, rfl⟩

theorem wit_EveryCommandCompletesOrStopsByName :
    (∃ (c : Instr) (s : State), c.wf = false) ∧
    (∃ (c : Instr) (s : State), c.wf = true) ∧
    (∃ (c : Instr) (s : State), c.wf = true ∧ c.alwaysCompletes = true) :=
  ⟨⟨.signalDetect 99, State.reset, by decide +kernel⟩,
   ⟨.rstdaa, State.reset, by decide +kernel⟩,
   ⟨.rstdaa, State.reset, by decide +kernel⟩⟩

theorem wit_StoppedDomainsAndLockedTapsAnswer :
    (∃ (c : Instr) (s : State) (r : Requester), BusReady s r ∧ c.wf = true ∧ c.requester = some r ∧ c.ofCore = true ∧
      s.coreRuns = false) ∧
    (∃ (c : Instr) (s : State), Quiet s ∧ c.wf = true ∧ c.requester = some .jtag ∧ s.rd F.BOOT_STAT_DBG_LOCK 0 = 1) :=
  ⟨⟨.portCtlEn .normal 15 true, State.reset, .normal, by decide +kernel⟩,
   ⟨.glbRstDevice .jtag, up.wr F.BOOT_STAT_DBG_LOCK 0 1, by decide +kernel⟩⟩

theorem wit_CompactionKeepsTheBankState :
    (∃ (f g : Flash) (area c : Nat), (f.wf = true ∧ area < 2 ∧ (c = 1 ∨ c = 2) ∧ g = flashCompact f area) ∧ areaLog f (1
      - area) = [] ∧ nextSeq (flashLog f) + 10 < 2 ^ 32) ∧
    (∃ (f : Flash) (area a : Nat), (f.wf = true ∧ area < 2 ∧ (a < areaBase (1 - area) ∨ areaBase (1 - area) + 0x10000 ≤
      a))) ∧
    (∃ (s : State) (f : Flash), s.boot.flash = some f ∧ 16 ≤ flashFree f s.boot.area) :=
  ⟨⟨flash0, flashCompact flash0 0, 0, 1, by decide +kernel⟩,
   ⟨flash0, 0, 0xFFFF, by decide +kernel⟩,
   ⟨trialS flashE, flashE, by decide +kernel⟩⟩

theorem wit_FillSlotsCarryNothing :
    (∃ (s : State) (n young und uns : Nat) (ecc : Ecc), Quiet s ∧ n < 16 ∧ ecc.wf = true ∧ und ≤ 32 ∧ uns ≤ 32 ∧ (s.port
      n).outPos + und + uns = 32 * ((s.port n).slotsOut + 1) ∧ (s.port n).rows = true ∧ (s.port n).errata = [] ∧ (s.port
      n).holdReqs = [] ∧ (s.port n).rplReqs = [] ∧ (s.port n).refused = [] ∧ (s.view (n + 1)).q3 = [] ∧ (s.heat n).chunk
      = none) ∧
    (∃ (s : State) (n : Nat) (x y : List Nat), n < 16 ∧ x.length = 256 ∧ y.length = 256 ∧ bytesWf x = true ∧ bytesWf y =
      true ∧ byteAt x 0 / 32 = 7 ∧ x.take 6 = y.take 6) :=
  ⟨⟨up.modPort 15 fun p => { p with rows := true, slotsOut := 65535, outPos := 2097149 }, 15, 0, 2, 1, .ok, by decide +kernel⟩,
   ⟨up.modPort 15 fun p => { p with rows := true }, 15, mkSlot 15 0 [224, 0, 0, 0] [] false, mkSlot 15 0 [224, 0, 0, 0] [1, 2, 255] false, by decide +kernel⟩⟩

theorem wit_ResetsInitializeOrStopService :
    (∃ (s : State) (st : Straps), st.addr < 8 ∧ st.bootsel < 4 ∧ s.rd F.PWR_THERM_STAT_TRIP_NOW 0 ≠ 1 ∧ s.rd
      F.SUMP_QSTOP_STAT_A 0 ≠ 1 ∧ s.rd F.SUMP_QSTOP_STAT_B 0 ≠ 1) ∧
    (∃ (s : State) (rail : Nat), rail < 4 ∧ s.rd F.PWR_THERM_STAT_TRIP_NOW 0 ≠ 1 ∧ s.rd F.SUMP_QSTOP_STAT_A 0 ≠ 1 ∧ s.rd
      F.SUMP_QSTOP_STAT_B 0 ≠ 1) ∧
    (∃ (s : State) (st : Straps), st.addr < 8 ∧ st.bootsel < 4 ∧ s.rd F.PWR_THERM_STAT_TRIP_NOW 0 ≠ 1 ∧ s.rd
      F.SUMP_QSTOP_STAT_A 0 ≠ 1 ∧ s.rd F.SUMP_QSTOP_STAT_B 0 ≠ 1) ∧
    (∃ (s : State) (r : Requester), BusReady s r ∧ s.rd F.GLB_LOCK_RST 0 ≠ 1 ∧ s.rd F.PWR_THERM_STAT_TRIP_NOW 0 ≠ 1 ∧
      s.rd F.SUMP_QSTOP_STAT_A 0 ≠ 1 ∧ s.rd F.SUMP_QSTOP_STAT_B 0 ≠ 1) ∧
    (∃ (s : State) (r : Requester), BusReady s r ∧ s.rd F.GLB_LOCK_RST 0 = 1 ∧ s.werrAny = true) ∧
    (∃ (s : State) (r : Requester), BusReady s r ∧ s.boot.flash = none ∧ s.secDefer = none ∧ (∀ v ∈ List.range 17,
      (s.view v).handed = s.rd F.MGMT_VIEW_PTR_RSP_TX v ∧ (s.view v).q3 = [])) ∧
    (∃ (s : State), Quiet s ∧ s.rd F.SUMP_LWDOG_STAT_RUN 0 = 1 ∧ s.boot.flash = none ∧ s.secDefer = none ∧ (∀ v ∈
      List.range 17, (s.view v).handed = s.rd F.MGMT_VIEW_PTR_RSP_TX v ∧ (s.view v).q3 = [])) ∧
    (∃ (s : State), Quiet s ∧ s.rd F.SUMP_LWDOG_STAT_RUN 0 ≠ 1) ∧
    (∃ (s : State) (d : Nat), Quiet s ∧ s.boot.lantern = some d ∧ s.boot.newFw = false ∧ (s.boot.flash.all fun f =>
      decide (16 ≤ flashFree f s.boot.area)) = true ∧ (∀ v ∈ List.range 17, s.rd F.MGMT_VIEW_STAT_INPROG v ≠ 1)) ∧
    (∃ (s : State), Quiet s ∧ s.boot.lantern = none) :=
  ⟨⟨link 8, ⟨7, 3⟩, by decide +kernel⟩,
   ⟨link 8, 3, by decide +kernel⟩,
   ⟨link 8, ⟨7, 3⟩, by decide +kernel⟩,
   ⟨link 8, .jtag, by decide +kernel⟩,
   ⟨(up.wr F.GLB_LOCK_RST 0 1).wr F.GLB_WERR_CLK 0 1, .normal, by decide +kernel⟩,
   ⟨up, .secure, by decide +kernel⟩,
   ⟨up.wr F.SUMP_LWDOG_STAT_RUN 0 1, by decide +kernel⟩,
   ⟨up, by decide +kernel⟩,
   ⟨up.modBoot fun b => { b with lantern := some 5 }, 5, by decide +kernel⟩,
   ⟨up, by decide +kernel⟩⟩

theorem wit_PortControlsAreWritten :
    (∃ (s : State) (r : Requester) (n : Nat), CoreReady s r ∧ n < 16 ∧ s.present n = true ∧ s.rd F.PORT_CTL_EN n ≠ 1 ∧
      (s.port n).released = false ∧ (∀ ls ∈ s.portLs n, (s.lane ls).tx = false)) ∧
    (∃ (s : State) (r : Requester) (n : Nat), CoreReady s r ∧ n < 16 ∧ s.present n = true ∧ s.rd F.PORT_CTL_EN n ≠ 1 ∧
      (s.port n).released = true ∧ s.rd F.PORT_CFG_PERST_EN n ≠ 1 ∧ s.rd F.PORT_CFG_PRSNT_EN n ≠ 1 ∧ s.rd
      F.PORT_STAT_RSTDONE n = 1 ∧ s.ltssm n = 0x1F ∧ (∀ ls ∈ s.portLs n, (s.lane ls).tx = false) ∧ (s.port n).foundO = 0
      ∧ (s.port n).foundI = 0) ∧
    (∃ (s : State) (r : Requester) (n : Nat), CoreReady s r ∧ n < 16 ∧ s.present n = true ∧ s.rd F.PORT_CTL_EN n = 1 ∧
      (s.port n).reachedL0 = false ∧ (s.port n).down = none ∧ (∀ ls ∈ s.portLs n, (s.lane ls).tx = false) ∧ (s.port
      n).foundO = 0 ∧ (s.port n).foundI = 0 ∧ s.spareState 0 < 2 ∧ s.spareState 1 < 2) ∧
    (∃ (s : State) (r : Requester) (n : Nat) (en : Bool), CoreReady s r ∧ n < 16 ∧ (s.present n = false ∨ s.flag
      F.PORT_CTL_EN n = en)) ∧
    (∃ (s : State) (r : Requester) (n : Nat), CoreReady s r ∧ n < 16) ∧
    (∃ (s : State) (r : Requester) (n tag : Nat), CoreReady s r ∧ n < 16 ∧ tag < 2 ^ 16 ∧ s.rd F.PORT_BIND_TAG n ≠ tag ∧
      s.portEn n = false) ∧
    (∃ (s : State) (r : Requester) (n tag : Nat), CoreReady s r ∧ n < 16 ∧ tag < 2 ^ 16 ∧ s.rd F.PORT_BIND_TAG n = tag)
      ∧
    (∃ (s : State) (r : Requester) (n tag : Nat), CoreReady s r ∧ n < 16 ∧ tag < 2 ^ 16 ∧ s.rd F.PORT_BIND_TAG n ≠ tag ∧
      s.portEn n = true ∧ s.werrAny = true) :=
  ⟨⟨link 0x1F, .jtag, 0, by decide +kernel⟩,
   ⟨((link 0x1F).wr F.PORT_CFG_PERST_EN 0 0).modPort 0 fun p => { p with released := true }, .jtag, 0, by decide +kernel⟩,
   ⟨(link 2).wr F.PORT_CTL_EN 0 1, .normal, 0, by decide +kernel⟩,
   ⟨up, .secure, 15, true, by decide +kernel⟩,
   ⟨up, .normal, 15, by decide +kernel⟩,
   ⟨up.wr F.PORT_BIND_GEN 15 0xFFFF, .normal, 15, 0xFFFF, by decide +kernel⟩,
   ⟨up, .normal, 15, 0, by decide +kernel⟩,
   ⟨((link 8).wr F.PORT_CTL_EN 0 1).wr F.GLB_WERR_CLK 0 1, .normal, 0, 0xFFFF, by decide +kernel⟩⟩

theorem wit_PortResetsSettleTheirWork :
    (∃ (s : State) (r : Requester) (n : Nat), CoreReady s r ∧ n < 16 ∧ s.portEn n = true ∧ (s.port n).reachedL0 = false
      ∧ (s.port n).down = none ∧ (∀ ls ∈ s.portLs n, (s.lane ls).tx = false) ∧ (s.port n).foundO = 0 ∧ (s.port n).foundI
      = 0 ∧ s.spareState 0 < 2 ∧ s.spareState 1 < 2 ∧ s.rd F.GLB_RST_CAUSE_PORT 0 < 2 ^ 16) ∧
    (∃ (s : State) (r : Requester) (n : Nat), CoreReady s r ∧ n < 16 ∧ s.portEn n = true ∧ (s.port n).reachedL0 = true ∧
      (s.port n).down = none ∧ (s.port n).noted = none ∧ (s.portHeld n) = false ∧ (∀ ls ∈ s.portLs n, (s.lane ls).tx =
      false) ∧ (s.port n).foundO = 0 ∧ (s.port n).foundI = 0 ∧ s.spareState 0 < 2 ∧ s.spareState 1 < 2 ∧ s.ltssm n < 32)
      ∧
    (∃ (s : State) (n : Nat), Quiet s ∧ n < 16 ∧ s.rd F.PORT_STAT_RSTDONE n ≠ 1 ∧ s.mayRun n = false ∧ (s.heat n).cache
      = [] ∧ (s.heat n).queue = []) ∧
    (∃ (s : State) (n : Nat), Quiet s ∧ n < 16 ∧ s.rd F.PORT_STAT_RSTDONE n ≠ 1 ∧ s.mayRun n = true ∧ s.slotEmpty n =
      true ∧ (s.ltssm n = 0x1F ∨ s.ltssm n = 0x1D) ∧ (s.heat n).cache = [] ∧ (s.heat n).queue = []) ∧
    (∃ (s : State) (n : Nat), Quiet s ∧ n < 16 ∧ s.rd F.PORT_STAT_RSTDONE n ≠ 1 ∧ s.mayRun n = true ∧ s.slotEmpty n =
      false ∧ (s.ltssm n = 0x1F ∨ s.ltssm n = 0x1D) ∧ (s.heat n).cache = [] ∧ (s.heat n).queue = [] ∧ (∀ ls ∈ s.portLs
      n, (s.lane ls).tx = false) ∧ (s.port n).foundO = 0 ∧ (s.port n).foundI = 0) ∧
    (∃ (s : State) (n : Nat), Quiet s ∧ n < 16 ∧ s.rd F.PORT_STAT_RSTDONE n = 1) :=
  ⟨⟨(link 2).wr F.PORT_CTL_EN 0 1, .normal, 0, by decide +kernel⟩,
   ⟨((link 8).wr F.PORT_CTL_EN 0 1).modPort 0 fun p => { p with reachedL0 := true }, .normal, 0, by decide +kernel⟩,
   ⟨(link 0x1F).wr F.PORT_STAT_RSTDONE 0 0, 0, by decide +kernel⟩,
   ⟨((((link 0x1F).wr F.PORT_STAT_RSTDONE 0 0).wr F.PORT_CTL_EN 0 1).wr F.PORT_CFG_PRSNT_EN 0 1).modPort 0 fun p => { p with released := true }, 0, by decide +kernel⟩,
   ⟨(((link 0x1F).wr F.PORT_STAT_RSTDONE 0 0).wr F.PORT_CTL_EN 0 1).modPort 0 fun p => { p with released := true }, 0, by decide +kernel⟩,
   ⟨up, 15, by decide +kernel⟩⟩

theorem wit_PinsReachThePorts :
    (∃ (s : State) (n : Nat), Quiet s ∧ n < 16 ∧ s.rd F.PORT_HP_STAT_PERST n ≠ 1 ∧ s.rd F.PORT_CFG_PERST_EN n ≠ 1) ∧
    (∃ (s : State) (n : Nat), Quiet s ∧ n < 16 ∧ s.portEn n = true ∧ s.rd F.PORT_HP_STAT_PERST n ≠ 1 ∧ s.rd
      F.PORT_CFG_PERST_EN n = 1 ∧ (s.port n).reachedL0 = false ∧ (s.port n).down = none ∧ (∀ ls ∈ s.portLs n, (s.lane
      ls).tx = false) ∧ (s.port n).foundO = 0 ∧ (s.port n).foundI = 0 ∧ s.spareState 0 < 2 ∧ s.spareState 1 < 2) ∧
    (∃ (s : State) (n : Nat), Quiet s ∧ n < 16 ∧ (s.rd F.PORT_HP_STAT_PERST n = 1 ∧ (s.rd F.PORT_CFG_PERST_EN n ≠ 1 ∨
      s.portEn n = false))) ∧
    (∃ (s : State) (n : Nat), Quiet s ∧ n < 16 ∧ s.rd F.PORT_HP_STAT_PERST n ≠ 1) ∧
    (∃ (s : State) (n : Nat) (high : Bool), Quiet s ∧ n < 16 ∧ s.flag F.PORT_HP_STAT_PRSNT n = high ∧ s.rd
      F.PORT_CFG_PRSNT_EN n ≠ 1) ∧
    (∃ (s : State) (n : Nat) (high : Bool), Quiet s ∧ n < 16) :=
  ⟨⟨up.wr F.PORT_CFG_PERST_EN 15 0, 15, by decide +kernel⟩,
   ⟨((link 2).wr F.PORT_CFG_PERST_EN 0 1).wr F.PORT_CTL_EN 0 1, 0, by decide +kernel⟩,
   ⟨up.wr F.PORT_HP_STAT_PERST 15 1, 15, by decide +kernel⟩,
   ⟨up, 15, by decide +kernel⟩,
   ⟨up, 15, false, by decide +kernel⟩,
   ⟨up, 15, false, by decide +kernel⟩⟩

theorem wit_QuadResetsWaitForTheirPorts :
    (∃ (s : State) (r : Requester) (q : Nat), CoreReady s r ∧ q < 8 ∧ (∀ n ∈ s.quadPorts q, HeldPort s n)) ∧
    (∃ (s : State) (r : Requester) (q : Nat), CoreReady s r ∧ q < 8 ∧ (∃ n ∈ s.quadPorts q, ¬HeldPort s n) ∧ s.werrAny =
      true) ∧
    (∃ (s : State) (r : Requester) (q : Nat), CoreReady s r ∧ q < 8 ∧ (∃ n ∈ s.quadPorts q, ¬HeldPort s n) ∧ s.werrAny =
      false) :=
  ⟨⟨up, .normal, 7, by decide +kernel⟩,
   ⟨((link 8).wr F.PORT_CTL_EN 0 1).wr F.GLB_WERR_CLK 0 1, .normal, 0, by decide +kernel⟩,
   ⟨(link 8).wr F.PORT_CTL_EN 0 1, .normal, 0, by decide +kernel⟩⟩

theorem wit_LaneCountersFollowTheirEvents :
    (∃ (s : State) (r : Requester) (ls : Nat), CoreReady s r ∧ ls < 66) ∧
    (∃ (s : State) (r : Requester) (ls : Nat), CoreReady s r ∧ ls < 66) ∧
    (∃ (s : State) (ls fill : Nat), Quiet s ∧ ls < 66 ∧ fill ≤ 64) ∧
    (∃ (s : State) (ls fill unit : Nat), Quiet s ∧ ls < 66 ∧ 36 < fill ∧ fill ≤ 64 ∧ 0 < unit ∧ unit ≤ 64) ∧
    (∃ (s : State) (ls fill unit : Nat), Quiet s ∧ ls < 66 ∧ fill < 28 ∧ 0 < unit ∧ unit ≤ 64) ∧
    (∃ (s : State) (ls fill unit : Nat), Quiet s ∧ ls < 66 ∧ 28 ≤ fill ∧ fill ≤ 36 ∧ 0 < unit ∧ unit ≤ 64) ∧
    (∃ (s : State) (ls : Nat) (full : Bool), Quiet s ∧ ls < 66) ∧
    (∃ (s : State) (ls : Nat), Quiet s ∧ ls < 66) ∧
    (∃ (s : State) (ls bits errs : Nat), Quiet s ∧ ls < 66 ∧ errs ≤ bits ∧ s.rd F.LANE_PRBS_STAT_LOCK ls = 1 ∧ s.prbsCan
      ls = true) ∧
    (∃ (s : State) (ls bits errs : Nat), Quiet s ∧ ls < 66 ∧ errs ≤ bits ∧ (s.rd F.LANE_PRBS_STAT_LOCK ls ≠ 1 ∨
      s.prbsCan ls = false)) :=
  ⟨⟨up, .normal, 65, by decide +kernel⟩,
   ⟨up, .jtag, 0, by decide +kernel⟩,
   ⟨up, 65, 64, by decide +kernel⟩,
   ⟨up, 65, 37, 64, by decide +kernel⟩,
   ⟨up, 65, 27, 1, by decide +kernel⟩,
   ⟨up, 0, 28, 4, by decide +kernel⟩,
   ⟨up, 65, true, by decide +kernel⟩,
   ⟨up, 65, by decide +kernel⟩,
   ⟨(up.wr F.LANE_PRBS_STAT_LOCK 65 1).wr F.LANE_PRBS_CTL_CHK_EN 65 1, 65, 1024, 32, by decide +kernel⟩,
   ⟨up, 65, 1024, 32, by decide +kernel⟩⟩

theorem wit_ReceiversAreMovedAndHeld :
    (∃ (s : State) (r : Requester) (ls : Nat), CoreReady s r ∧ ls < 66) ∧
    (∃ (s : State) (r : Requester) (ls : Nat), CoreReady s r ∧ ls < 66) ∧
    (∃ (s : State) (r : Requester) (ls : Nat), CoreReady s r ∧ ls < 66 ∧ (s.astate ls = 0 ∨ s.astate ls = 1 ∨ s.astate
      ls = 2 ∨ s.astate ls = 7)) ∧
    (∃ (s : State) (r : Requester) (ls : Nat), CoreReady s r ∧ ls < 66 ∧ 3 ≤ s.astate ls ∧ s.astate ls ≤ 6 ∧ s.flag
      F.LANE_SLICE_STAT_MARG ls = false) ∧
    (∃ (s : State) (ls : Nat), Quiet s ∧ ls < 66 ∧ s.astate ls = 1 ∧ s.hears ls true = true ∧ (∀ n, s.portOfLs ls = some
      n → forwards (s.ltssm n) = false)) ∧
    (∃ (s : State) (ls : Nat), Quiet s ∧ ls < 66 ∧ 1 < s.astate ls ∧ s.hears ls true = true) ∧
    (∃ (s : State) (ls : Nat), Quiet s ∧ ls < 66 ∧ (s.astate ls = 0 ∨ s.hears ls true = false)) ∧
    (∃ (s : State) (ls n : Nat), Quiet s ∧ ls < 66 ∧ s.astate ls = 1 ∧ s.portOfLs ls = some n ∧ s.hears ls true = true ∧
      forwards (s.ltssm n) = true ∧ s.oppositeLs ls ∈ s.sendLs n (decide (32 ≤ s.oppositeLs ls)) ∧ (s.lane (s.oppositeLs
      ls)).tx = false) ∧
    (∃ (s : State) (ls : Nat), Quiet s ∧ ls < 66 ∧ s.astate ls = 2 ∧ s.adaptEnabled ls = false ∧ ls < 32) ∧
    (∃ (s : State) (ls n : Nat), Quiet s ∧ ls < 32 ∧ s.astate ls = 2 ∧ s.portOfLs ls = some n ∧ adaptState (s.ltssm n) =
      true) ∧
    (∃ (s : State) (ls : Nat), Quiet s ∧ ls < 32 ∧ s.astate ls = 7) ∧
    (∃ (s : State) (ls : Nat), Quiet s ∧ ls < 66 ∧ s.astate ls ≠ 0 ∧ s.hears ls false = true ∧ s.flag
      F.LANE_SLICE_STAT_MARG ls = false ∧ (∀ n, s.portOfLs ls = some n → forwards (s.ltssm n) = false)) ∧
    (∃ (s : State) (ls n : Nat), Quiet s ∧ ls < 66 ∧ s.astate ls ≠ 0 ∧ s.hears ls false = true ∧ s.flag
      F.LANE_SLICE_STAT_MARG ls = false ∧ s.portOfLs ls = some n ∧ forwards (s.ltssm n) = true ∧ s.oppositeLs ls ≠ ls ∧
      (s.lane (s.oppositeLs ls)).tx = true) ∧
    (∃ (s : State) (ls ctle dfe1 m1 p1 : Nat), Quiet s ∧ ls < 66 ∧ ctle < 64 ∧ dfe1 < 64 ∧ m1 < 64 ∧ p1 < 64 ∧ s.astate
      ls = 4) ∧
    (∃ (s : State) (ls : Nat), Quiet s ∧ ls < 66 ∧ (s.astate ls = 5 ∨ s.astate ls = 6) ∧ s.flag F.LANE_SLICE_STAT_MARG
      ls = false) ∧
    (∃ (s : State) (ls : Nat), Quiet s ∧ ls < 66 ∧ s.flag F.LANE_SLICE_STAT_MARG ls = true ∧ s.astate ls = 6) ∧
    (∃ (s : State) (ls : Nat), Quiet s ∧ ls < 66) :=
  ⟨⟨up, .normal, 65, by decide +kernel⟩,
   ⟨up, .normal, 65, by decide +kernel⟩,
   ⟨up, .normal, 65, by decide +kernel⟩,
   ⟨up.wr F.LANE_RX_STAT_ASTATE 65 6, .normal, 65, by decide +kernel⟩,
   ⟨up.wr F.LANE_RX_STAT_ASTATE 65 1, 65, by decide +kernel⟩,
   ⟨up.wr F.LANE_RX_STAT_ASTATE 65 2, 65, by decide +kernel⟩,
   ⟨(up.wr F.LANE_RX_STAT_ASTATE 65 2).wr F.LANE_ECHO_CTL_MODE 65 1, 65, by decide +kernel⟩,
   ⟨(trn 8).wr F.LANE_RX_STAT_ASTATE 3 1, 3, 0, by decide +kernel⟩,
   ⟨up.wr F.LANE_RX_STAT_ASTATE 31 2, 31, by decide +kernel⟩,
   ⟨(link 8).wr F.LANE_RX_STAT_ASTATE 3 2, 3, 0, by decide +kernel⟩,
   ⟨up.wr F.LANE_RX_STAT_ASTATE 31 7, 31, by decide +kernel⟩,
   ⟨up.wr F.LANE_RX_STAT_ASTATE 65 5, 65, by decide +kernel⟩,
   ⟨((link 8).wr F.LANE_RX_STAT_ASTATE 3 5).modLane 35 (fun l => { l with tx := true }), 3, 0, by decide +kernel⟩,
   ⟨up.wr F.LANE_RX_STAT_ASTATE 65 4, 65, 63, 63, 63, 63, by decide +kernel⟩,
   ⟨up.wr F.LANE_RX_STAT_ASTATE 65 6, 65, by decide +kernel⟩,
   ⟨(up.wr F.LANE_RX_STAT_ASTATE 65 6).wr F.LANE_SLICE_STAT_MARG 65 1, 65, by decide +kernel⟩,
   ⟨up.wr F.LANE_RX_STAT_ASTATE 65 7, 65, by decide +kernel⟩⟩

theorem wit_MarginingHoldsTheLane :
    (∃ (s : State) (n lane rxnum : Nat) (ask : MarginAsk), Quiet s ∧ n < 16 ∧ lane < 32 ∧ rxnum < 8 ∧ (s.marginSide n
      rxnum = none ∨ ask = .response)) ∧
    (∃ (s : State) (n lane rxnum : Nat) (inner : Bool) (ask : MarginAsk), Quiet s ∧ n < 16 ∧ lane < 32 ∧ rxnum < 8 ∧
      s.marginSide n rxnum = some inner ∧ (s.portLanes n).contains lane = true ∧ s.rd F.PORT_LINK_STAT_XS_RTMR n ≠ 1 ∧
      (s.rd F.PORT_CFG_MARG_EN n ≠ 1 ∨ s.rate n < 3) ∧ ask ≠ .response) ∧
    (∃ (s : State) (n lane rxnum : Nat) (inner : Bool) (ask : MarginAsk), Quiet s ∧ n < 16 ∧ lane < 32 ∧ rxnum < 8 ∧
      s.marginSide n rxnum = some inner ∧ (s.portLanes n).contains lane = true ∧ s.rd F.PORT_LINK_STAT_XS_RTMR n ≠ 1 ∧
      s.rd F.PORT_CFG_MARG_EN n = 1 ∧ 3 ≤ s.rate n ∧ s.ltssm n ≠ 8 ∧ ask ≠ .response) ∧
    (∃ (s : State) (n lane rxnum : Nat) (inner : Bool) (p : MarginParam), Quiet s ∧ n < 16 ∧ lane < 32 ∧ rxnum < 8 ∧
      s.marginSide n rxnum = some inner ∧ (s.portLanes n).contains lane = true ∧ s.rd F.PORT_LINK_STAT_XS_RTMR n ≠ 1 ∧
      s.rd F.PORT_CFG_MARG_EN n = 1 ∧ 3 ≤ s.rate n ∧ s.ltssm n = 8) ∧
    (∃ (s : State) (n lane rxnum ls : Nat) (inner : Bool), Quiet s ∧ n < 16 ∧ lane < 32 ∧ rxnum < 8 ∧ s.marginSide n
      rxnum = some inner ∧ (s.portLanes n).contains lane = true ∧ s.rd F.PORT_LINK_STAT_XS_RTMR n ≠ 1 ∧ s.rd
      F.PORT_CFG_MARG_EN n = 1 ∧ 3 ≤ s.rate n ∧ s.ltssm n = 8 ∧ (ls = if inner then s.innerOf lane else outerLs lane) ∧
      (s.rd F.LANE_SLICE_STAT_CALSTOP ls = 1 ∨ s.laneOffL0p n lane = true)) ∧
    (∃ (s : State) (n lane rxnum ls : Nat) (inner : Bool), Quiet s ∧ n < 16 ∧ lane < 32 ∧ rxnum < 8 ∧ s.marginSide n
      rxnum = some inner ∧ (s.portLanes n).contains lane = true ∧ s.rd F.PORT_LINK_STAT_XS_RTMR n ≠ 1 ∧ s.rd
      F.PORT_CFG_MARG_EN n = 1 ∧ 3 ≤ s.rate n ∧ s.ltssm n = 8 ∧ (ls = if inner then s.innerOf lane else outerLs lane) ∧
      s.rd F.LANE_SLICE_STAT_CALSTOP ls ≠ 1 ∧ s.laneOffL0p n lane = false) ∧
    (∃ (s : State) (n lane rxnum ls : Nat) (inner : Bool), Quiet s ∧ n < 16 ∧ lane < 32 ∧ rxnum < 8 ∧ s.marginSide n
      rxnum = some inner ∧ (s.portLanes n).contains lane = true ∧ s.rd F.PORT_LINK_STAT_XS_RTMR n ≠ 1 ∧ s.rd
      F.PORT_CFG_MARG_EN n = 1 ∧ 3 ≤ s.rate n ∧ s.ltssm n = 8 ∧ (ls = if inner then s.innerOf lane else outerLs lane) ∧
      s.rd F.LANE_SLICE_STAT_CALSTOP ls ≠ 1 ∧ s.laneOffL0p n lane = false ∧ s.rd F.LANE_SLICE_STAT_MARG ls = 1 ∧
      s.astate ls = 6 ∧ s.rd F.LANE_RX_CTL_FREEZE ls ≠ 1) ∧
    (∃ (s : State) (ls n : Nat), Quiet s ∧ ls < 66 ∧ s.portOfLs ls = some n ∧ (s.lane ls).marginReq = true ∧ s.ltssm n =
      8 ∧ s.rd F.LANE_SLICE_STAT_CALSLICE ls = 0x7F ∧ s.rd F.LANE_SLICE_STAT_CALSTOP ls ≠ 1 ∧ ((s.astate ls = 4 ∨
      s.astate ls = 5 ∨ s.astate ls = 6) ∧ s.phraseLate ls = false)) :=
  ⟨⟨link 8, 15, 31, 7, .step, by decide +kernel⟩,
   ⟨link 8, 0, 3, 3, true, .report .sampleRate, by decide +kernel⟩,
   ⟨((link 2).wr F.PORT_CFG_MARG_EN 0 1).wr F.PORT_LINK_STAT_RATE 0 6, 0, 3, 3, true, .stop, by decide +kernel⟩,
   ⟨((link 8).wr F.PORT_CFG_MARG_EN 0 1).wr F.PORT_LINK_STAT_RATE 0 6, 0, 3, 3, true, .voltageOffset, by decide +kernel⟩,
   ⟨(((link 8).wr F.PORT_CFG_MARG_EN 0 1).wr F.PORT_LINK_STAT_RATE 0 6).wr F.LANE_SLICE_STAT_CALSTOP 35 1, 0, 3, 3, 35, true, by decide +kernel⟩,
   ⟨((link 8).wr F.PORT_CFG_MARG_EN 0 1).wr F.PORT_LINK_STAT_RATE 0 6, 0, 3, 3, 35, true, by decide +kernel⟩,
   ⟨(((link 8).wr F.PORT_LINK_STAT_RATE 0 6).wr F.LANE_SLICE_STAT_MARG 35 1).wr F.LANE_RX_STAT_ASTATE 35 6, 0, 3, 3, 35, true, by decide +kernel⟩,
   ⟨((link 8).modLane 35 fun l => { l with marginReq := true }).wr F.LANE_RX_STAT_ASTATE 35 5, 35, 0, by decide +kernel⟩⟩

theorem wit_PhraseEngineRunsAndStops :
    (∃ (s : State) (r : Requester) (q : Nat) (en : Bool), CoreReady s r ∧ q < 8) ∧
    (∃ (s : State) (r : Requester) (q : Nat), CoreReady s r ∧ q < 8) ∧
    (∃ (s : State) (q : Nat), Quiet s ∧ q < 8 ∧ s.rd F.PHR_STAT_RUN q = 1) ∧
    (∃ (s : State) (r : Requester) (addr val q region : Nat), CoreReady s r ∧ 0x100000 ≤ addr ∧ addr < 0x140000 ∧ addr %
      4 = 0 ∧ val < 2 ^ 32 ∧ q = phrQuad addr ∧ region = phrPart addr ∧ (¬(s.rd F.PHR_CTL_EN q = 1 ∧ (region = 2 ∨
      region = s.rd F.PHR_STAT_ACT q)))) ∧
    (∃ (s : State) (r : Requester) (addr val q region : Nat), CoreReady s r ∧ 0x100000 ≤ addr ∧ addr < 0x140000 ∧ addr %
      4 = 0 ∧ val < 2 ^ 32 ∧ q = phrQuad addr ∧ region = phrPart addr ∧ (s.rd F.PHR_CTL_EN q = 1 ∧ (region = 2 ∨ region
      = s.rd F.PHR_STAT_ACT q)) ∧ s.werrAny = true) :=
  ⟨⟨up, .normal, 7, true, by decide +kernel⟩,
   ⟨up, .normal, 7, by decide +kernel⟩,
   ⟨up.wr F.PHR_STAT_RUN 7 1, 7, by decide +kernel⟩,
   ⟨up, .normal, 0x13FFFC, 0xFFFFFFFF, 7, 2, by decide +kernel⟩,
   ⟨(up.wr F.PHR_CTL_EN 7 1).wr F.GLB_WERR_CLK 0 1, .normal, 0x13FFFC, 0xFFFFFFFF, 7, 2, by decide +kernel⟩⟩

theorem wit_TrainingSetsAreFollowed :
    (∃ (s : State) (n o i : Nat) (outer inner : List Nat), Quiet s ∧ (n < 16 ∧ (∀ k ∈ outer, k < 16) ∧ ∀ k ∈ inner, k <
      16) ∧ s.ltssm n ≤ 1 ∧ s.portClocked n = true ∧ s.safe = false ∧ s.flag F.SUMP_QSTOP_STAT_QUIESCED 0 = false ∧
      (s.port n).detectRetries ≤ 12 ∧ s.spareState 0 < 4 ∧ s.spareState 1 < 4 ∧ o = (s.port n).foundO ||| offBits outer
      (s.width n) ∧ i = (s.port n).foundI ||| offBits inner (s.width n)) ∧
    (∃ (s : State) (n : Nat) (outer inner : List Nat), Quiet s ∧ (n < 16 ∧ (∀ k ∈ outer, k < 16) ∧ ∀ k ∈ inner, k < 16)
      ∧ 1 < s.ltssm n) ∧
    (∃ (s : State) (n : Nat) (ts : TrainSet), Quiet s ∧ n < 16 ∧ ts.wf = true ∧ s.follows n = false) ∧
    (∃ (s : State) (n : Nat) (ts : TrainSet), Quiet s ∧ n < 16 ∧ ts.wf = true ∧ s.follows n = true ∧ (s.port
      n).retraining = false ∧ (s.port n).attempt = .none ∧ (ts.state = s.ltssm n ∧ ts.ts2 = false ∧ (ts.state = 8 ∨
      ts.state = 0x10 ∨ ts.state = 0x12 ∨ ts.state = 0x16)) ∧ (∀ ls ∈ s.sendLs n (!ts.inner), (s.lane ls).tx = true)) ∧
    (∃ (s : State) (n : Nat) (ts : TrainSet), Quiet s ∧ n < 16 ∧ ts.wf = true ∧ s.follows n = true ∧ (s.port
      n).retraining = false ∧ (s.port n).attempt = .none ∧ s.ltssm n = 2 ∧ ts.state = 3 ∧ ts.ts2 = false ∧ (∀ ls ∈
      s.sendLs n (!ts.inner), (s.lane ls).tx = true) ∧ (∀ ls ∈ s.portLs n, s.astate ls ≠ 3)) ∧
    (∃ (s : State) (n : Nat) (ts : TrainSet), Quiet s ∧ n < 16 ∧ ts.wf = true ∧ s.follows n = true ∧ (s.port
      n).retraining = false ∧ (s.port n).attempt = .none ∧ s.ltssm n = 0x12 ∧ ts.state = 8 ∧ ts.ts2 = false ∧ (∀ ls ∈
      s.sendLs n (!ts.inner), (s.lane ls).tx = true)) ∧
    (∃ (s : State) (n : Nat) (ts : TrainSet), Quiet s ∧ n < 16 ∧ ts.wf = true ∧ s.follows n = true ∧ (s.port
      n).retraining = false ∧ (s.port n).attempt = .none ∧ s.associated n = false ∧ s.ltssm n = 0x11 ∧ ts.state = 0x13 ∧
      ts.ts2 = false ∧ (∀ ls ∈ s.portLs n, (s.lane ls).tx = false) ∧ s.spareState 0 < 4 ∧ s.spareState 1 < 4) ∧
    (∃ (s : State) (n : Nat) (ts : TrainSet), Quiet s ∧ n < 16 ∧ ts.wf = true ∧ s.follows n = true ∧ (s.port
      n).retraining = false ∧ (s.port n).attempt = .none ∧ s.ltssm n = 4 ∧ ts.state = 4 ∧ ts.ts2 = false ∧ (∀ ls ∈
      s.sendLs n (!ts.inner), (s.lane ls).tx = true)) ∧
    (∃ (s : State) (n : Nat), Quiet s ∧ n < 16 ∧ s.ltssm n = 8 ∧ NoStream s n ∧ (∀ ls ∈ s.portLs n, (s.lane ls).tx =
      true ∧ (s.lane ls).marginReq = false ∧ s.flag F.LANE_SLICE_STAT_MARG ls = false)) ∧
    (∃ (s : State) (n : Nat), Quiet s ∧ n < 16 ∧ s.ltssm n ≠ 8) ∧
    (∃ (s : State) (n lane o : Nat) (inner : Bool), Quiet s ∧ (n < 16 ∧ lane < 32 ∧ s.ltssm n = 0x0A ∧ o = (if inner
      then outerLs lane else s.innerOf lane)) ∧ (s.sendLs n (!inner)).contains o = true ∧ (s.lane o).tx = false) ∧
    (∃ (s : State) (n lane : Nat) (inner : Bool), Quiet s ∧ (n < 16 ∧ lane < 32 ∧ (s.sendLs n (!inner)).contains (if
      inner then outerLs lane else s.innerOf lane) = false)) ∧
    (∃ (s : State) (n lane : Nat) (inner : Bool), Quiet s ∧ n < 16 ∧ lane < 32 ∧ s.ltssm n ≠ 0x0A) ∧
    (∃ (s : State) (r : Requester) (n : Nat), CoreReady s r ∧ n < 16 ∧ s.ltssm n = 8 ∧ NoStream s n ∧ (s.port
      n).leavePend = false) ∧
    (∃ (s : State) (r : Requester) (n : Nat), CoreReady s r ∧ n < 16 ∧ s.ltssm n ≠ 8) :=
  ⟨⟨(trn 0).modPort 0 (fun p => { p with foundO := 1, foundI := 0 }), 0, 15, 5, [1, 2, 3], [0, 2], by decide +kernel⟩,
   ⟨trn 2, 0, [15], [], by decide +kernel⟩,
   ⟨up, 15, ts0, by decide +kernel⟩,
   ⟨(txAll (trn 0x10)).wr F.PORT_CFG_MAX_RATE 0 4, 0, { ts0 with state := 0x10 }, by decide +kernel⟩,
   ⟨txAll (trn 2), 0, { ts0 with inverted := [1, 3], inner := true }, by decide +kernel⟩,
   ⟨(txAll (trn 0x12)).modPort 0 (fun p => { p with fmt := 2, down := some (3, 4) }), 0, { ts0 with state := 8 }, by decide +kernel⟩,
   ⟨trn 0x11, 0, { ts0 with state := 0x13, rate := 4 }, by decide +kernel⟩,
   ⟨txAll (trn 4), 0, { ts0 with state := 4, rate := 5, presetUsp := 3, sixDb := true }, by decide +kernel⟩,
   ⟨(txAll (trn 8)).wr F.LANE_RX_STAT_ASTATE 2 5, 0, by decide +kernel⟩,
   ⟨up, 15, by decide +kernel⟩,
   ⟨trn 0x0A, 0, 3, 3, true, by decide +kernel⟩,
   ⟨trn 0x0A, 0, 31, false, by decide +kernel⟩,
   ⟨up, 15, 31, true, by decide +kernel⟩,
   ⟨trn 8, .normal, 0, by decide +kernel⟩,
   ⟨up, .normal, 15, by decide +kernel⟩⟩

theorem wit_CoefficientsAreTriedAndApplied :
    (∃ (s : State) (ls n a b c d : Nat), Quiet s ∧ ls < 66 ∧ n < 16 ∧ a < 64 ∧ b < 64 ∧ c < 64 ∧ d < 64 ∧ s.portOfLs ls
      = some n ∧ s.takesRequests n ls = true ∧ s.flag F.LANE_TX_CTL_OVR ls = false ∧ coefsLegal (s.lane ls).rate a b c d
      = true) ∧
    (∃ (s : State) (ls n p : Nat) (ok : Bool), Quiet s ∧ ls < 66 ∧ n < 16 ∧ p < 16 ∧ s.portOfLs ls = some n ∧
      s.takesRequests n ls = true ∧ s.flag F.LANE_TX_CTL_OVR ls = false ∧ 2 ≤ (s.lane ls).rate ∧ ok =
      Config.presetDefined (s.lane ls).rate p) ∧
    (∃ (s : State) (ls n a b c d : Nat), Quiet s ∧ ls < 66 ∧ n < 16 ∧ a < 64 ∧ b < 64 ∧ c < 64 ∧ d < 64 ∧ s.portOfLs ls
      = some n ∧ s.takesRequests n ls = true ∧ (s.flag F.LANE_TX_CTL_OVR ls = true ∨ coefsLegal (s.lane ls).rate a b c d
      = false)) ∧
    (∃ (s : State) (ls : Nat) (req : CoefReq), Quiet s ∧ ls < 66 ∧ req.wf = true ∧ s.portOfLs ls = none) ∧
    (∃ (s : State) (n : Nat) (inner : Bool) (tr : Trial) (e : Exec) (v : Nat) (c : CoefReq) (rest : List Nat), Quiet s ∧
      n < 16 ∧ tr.wf = true ∧ (s.port n).exec inner = some e ∧ s.trialsHalted n = false ∧ max (s.rd F.PORT_EQ_CFG_DWELL
      n) 16 ≤ tr.dwelt ∧ tr.score = some v ∧ e.trials + 1 < max (s.rd F.PORT_EQ_CFG_MAX_TRIALS n) 1 ∧ e.next
      (s.presetsOnly n inner) tr.step = some (c, rest)) ∧
    (∃ (s : State) (n : Nat) (inner : Bool) (tr : Trial) (e : Exec), Quiet s ∧ n < 16 ∧ tr.wf = true ∧ (s.port n).exec
      inner = some e ∧ s.trialsHalted n = false ∧ max (s.rd F.PORT_EQ_CFG_DWELL n) 16 ≤ tr.dwelt ∧ tr.score = none ∧
      e.repeated = false ∧ e.trials + 1 < max (s.rd F.PORT_EQ_CFG_MAX_TRIALS n) 1) ∧
    (∃ (s : State) (n : Nat) (inner : Bool) (tr : Trial) (e : Exec) (v : Nat), Quiet s ∧ n < 16 ∧ tr.wf = true ∧
      ((s.port n).exec inner = some e ∧ s.trialsHalted n = false ∧ max (s.rd F.PORT_EQ_CFG_DWELL n) 16 ≤ tr.dwelt ∧
      tr.score = some v ∧ e.best = none ∧ (max (s.rd F.PORT_EQ_CFG_MAX_TRIALS n) 1 ≤ e.trials + 1 ∨ e.next
      (s.presetsOnly n inner) tr.step = none)) ∧ (s.port n).heldPhase = none ∧ (s.port n).attempt = .none) ∧
    (∃ (s : State) (n : Nat) (inner : Bool) (tr : Trial), Quiet s ∧ n < 16 ∧ tr.wf = true ∧ ((s.port n).exec inner =
      none ∨ s.trialsHalted n = true ∨ tr.dwelt < max (s.rd F.PORT_EQ_CFG_DWELL n) 16)) ∧
    (∃ (s : State) (n : Nat) (inner : Bool) (e : Exec), Quiet s ∧ n < 16 ∧ (s.port n).exec inner = some e ∧ (s.port
      n).heldPhase = none ∧ (s.port n).attempt = .none) ∧
    (∃ (s : State) (n : Nat) (inner : Bool), Quiet s ∧ n < 16 ∧ (s.port n).exec inner = none) :=
  ⟨⟨(trn 0x16).modLane 32 (fun l => { l with rate := 5 }), 32, 0, 6, 12, 30, 0, by decide +kernel⟩,
   ⟨(trn 0x16).modLane 32 (fun l => { l with rate := 6 }), 32, 0, 15, Config.presetDefined 6 15, by exact ⟨by decide +kernel, by decide, by decide, by decide, by decide +kernel, by decide +kernel, by decide +kernel, by decide +kernel, rfl⟩⟩,
   ⟨trn 0x16, 32, 0, 63, 63, 63, 63, by decide +kernel⟩,
   ⟨up, 65, .preset 15, by decide +kernel⟩,
   ⟨(trn 0x16).modPort 0 (fun p => { p with execI := some ⟨1, 255, none, true, .preset 14, [15]⟩ }), 0, true, ⟨64, some 9, none⟩, ⟨1, 255, none, true, .preset 14, [15]⟩, 9, .preset 15, [], by decide +kernel⟩,
   ⟨(trn 0x16).modPort 0 (fun p => { p with execI := some ⟨1, 3, none, false, .preset 14, [15]⟩ }), 0, true, ⟨65536, none, none⟩, ⟨1, 3, none, false, .preset 14, [15]⟩, by decide +kernel⟩,
   ⟨(trn 0x16).modPort 0 (fun p => { p with execI := some ⟨1, 0, none, true, .coefs 0 6 36 6, []⟩ }), 0, true, ⟨64, some 9, none⟩, ⟨1, 0, none, true, .coefs 0 6 36 6, []⟩, 9, by decide +kernel⟩,
   ⟨up, 15, true, ⟨0, none, some (.preset 15)⟩, by decide +kernel⟩,
   ⟨(trn 0x17).modPort 0 (fun p => { p with execO := some ⟨1, 1, some (.preset 3, 9), true, .preset 3, []⟩ }), 0, false, ⟨1, 1, some (.preset 3, 9), true, .preset 3, []⟩, by decide +kernel⟩,
   ⟨up, 15, true, by decide +kernel⟩⟩

theorem wit_LinksNarrowAndGoDown :
    (∃ (s : State) (n w : Nat), Quiet s ∧ (n < 16 ∧ (w = 1 ∨ w = 2 ∨ w = 4 ∨ w = 8 ∨ w = 16)) ∧ s.ltssm n = 8 ∧ s.flag
      F.PORT_CFG_L0P_EN n = true ∧ w ≤ s.rd F.PORT_LINK_STAT_WIDTH n ∧ (s.port n).innerComp = false ∧ s.spareState 0 < 2
      ∧ s.spareState 1 < 2 ∧ (∀ k ∈ List.range (s.width n), (s.lane (outerLs (firstLane n + k))).tx = !bit (s.port
      n).offLanes k ∧ (s.lane (innerLs (firstLane n + k))).tx = !bit (s.port n).offLanes k)) ∧
    (∃ (s : State) (n w : Nat), Quiet s ∧ (n < 16 ∧ (w = 1 ∨ w = 2 ∨ w = 4 ∨ w = 8 ∨ w = 16)) ∧ (s.ltssm n ≠ 8 ∨ s.flag
      F.PORT_CFG_L0P_EN n = false ∨ s.rd F.PORT_LINK_STAT_WIDTH n < w)) ∧
    (∃ (s : State) (n : Nat) (inner : Bool), Quiet s ∧ n < 16 ∧ s.ltssm n = 0x18 ∧ ((s.port n).foundO = 0 ∧ (s.port
      n).foundI = 0 ∧ ∀ ls ∈ s.portLs n, (s.lane ls).tx = false)) ∧
    (∃ (s : State) (n : Nat) (inner : Bool), Quiet s ∧ n < 16 ∧ s.ltssm n ≠ 0x18) ∧
    (∃ (s : State) (n : Nat) (inner : Bool), Quiet s ∧ n < 16 ∧ s.ltssm n = 0x19 ∧ ((s.port n).foundO = 0 ∧ (s.port
      n).foundI = 0 ∧ ∀ ls ∈ s.portLs n, (s.lane ls).tx = false)) ∧
    (∃ (s : State) (n : Nat) (inner : Bool), Quiet s ∧ n < 16 ∧ s.ltssm n ≠ 0x19) ∧
    (∃ (s : State) (n : Nat), Quiet s ∧ n < 16 ∧ s.ltssm n = 0x1C ∧ ((s.port n).foundO = 0 ∧ (s.port n).foundI = 0 ∧ ∀
      ls ∈ s.portLs n, (s.lane ls).tx = false)) ∧
    (∃ (s : State) (n : Nat), Quiet s ∧ n < 16 ∧ s.ltssm n ≠ 0x1C) ∧
    (∃ (s : State) (n : Nat), Quiet s ∧ (n < 16 ∧ (s.ltssm n = 2 ∨ s.ltssm n = 3 ∨ s.ltssm n = 5 ∨ isRecovery (s.ltssm
      n) = true)) ∧ ((s.port n).foundO = 0 ∧ (s.port n).foundI = 0 ∧ ∀ ls ∈ s.portLs n, (s.lane ls).tx = false) ∧
      (s.port n).reachedL0 = false) ∧
    (∃ (s : State) (n : Nat), Quiet s ∧ (n < 16 ∧ (s.ltssm n = 2 ∨ s.ltssm n = 3 ∨ s.ltssm n = 5 ∨ isRecovery (s.ltssm
      n) = true)) ∧ ((s.port n).foundO = 0 ∧ (s.port n).foundI = 0 ∧ ∀ ls ∈ s.portLs n, (s.lane ls).tx = false) ∧
      (s.port n).reachedL0 = true ∧ (s.port n).down = none ∧ (s.port n).noted = none ∧ s.portHeld n = false ∧ s.ltssm n
      < 32) ∧
    (∃ (s : State) (n : Nat), Quiet s ∧ n < 16 ∧ s.ltssm n ≠ 2 ∧ s.ltssm n ≠ 3 ∧ s.ltssm n ≠ 5 ∧ isRecovery (s.ltssm n)
      = false) ∧
    (∃ (s : State) (n : Nat) (inner : Bool), Quiet s ∧ n < 16 ∧ s.ltssm n = 8 ∧ NoStream s n ∧ (s.port n).reachedL0 =
      true ∧ (s.port n).down = none ∧ (s.port n).noted = none ∧ (∀ ls ∈ s.sideLs n (!inner), (s.lane ls).tx = true)) ∧
    (∃ (s : State) (n : Nat) (inner : Bool), Quiet s ∧ n < 16 ∧ s.ltssm n ≠ 8 ∧ isRecovery (s.ltssm n) = false) :=
  ⟨⟨((((((((txAll (trn 8)).wr F.PORT_CFG_L0P_EN 0 1).wr F.PORT_LINK_STAT_WIDTH 0 4).wr F.LANE_RX_STAT_LOGICAL 1 1).wr F.LANE_RX_STAT_LOGICAL 2 2).wr F.LANE_RX_STAT_LOGICAL 3 3).modLane 1 fun l => { l with tx := false }).modLane 33 fun l => { l with tx := false }).modPort 0 fun p => { p with offLanes := 2 }, 0, 2, by decide +kernel⟩,
   ⟨up, 15, 16, by decide +kernel⟩,
   ⟨link 0x18, 0, true, by decide +kernel⟩,
   ⟨up, 15, true, by decide +kernel⟩,
   ⟨link 0x19, 0, true, by decide +kernel⟩,
   ⟨up, 15, true, by decide +kernel⟩,
   ⟨link 0x1C, 0, by decide +kernel⟩,
   ⟨up, 15, by decide +kernel⟩,
   ⟨link 0x17, 0, by decide +kernel⟩,
   ⟨(link 0x17).modPort 0 fun p => { p with reachedL0 := true }, 0, by decide +kernel⟩,
   ⟨up, 15, by decide +kernel⟩,
   ⟨(txAll (trn 8)).modPort 0 (fun p => { p with reachedL0 := true }), 0, true, by decide +kernel⟩,
   ⟨up, 15, true, by decide +kernel⟩⟩

theorem wit_FlitsAreDecodedAndForwarded :
    (∃ (s : State) (n d : Nat) (f : Flit), Quiet s ∧ n < 16 ∧ d < 2 ∧ f.wf = true ∧ s.located n = false) ∧
    (∃ (s : State) (n d : Nat) (f : Flit), Quiet s ∧ n < 16 ∧ d < 2 ∧ f.wf = true ∧ s.located n = true ∧ s.locked n d =
      false ∧ (s.port n).rows = false ∧ (d = 0 ∨ s.rd F.PORT_STAT_EMODE_IO n ≠ 3)) ∧
    (∃ (s : State) (n : Nat) (f : Flit), Quiet s ∧ n < 16 ∧ f.wf = true ∧ s.located n = true ∧ s.locked n 1 = false ∧
      (s.port n).rows = false ∧ s.rd F.PORT_STAT_EMODE_IO n = 3) ∧
    (∃ (s : State) (n k v : Nat) (f : Flit), Quiet s ∧ n < 16 ∧ f.wf = true ∧ s.located n = true ∧ s.locked n 1 = true ∧
      s.rd (F.lock 1) n = 2 ∧ (s.port n).rows = false ∧ s.rd F.PORT_STAT_EMODE_IO n ≠ 3 ∧ s.hostFacing n = true ∧
      s.capRuns n 1 = false ∧ flitOutcome f = .clean ∧ f.info.seq = none ∧ f.info.cacheMem = false ∧ k = flKey n 1 ∧ v =
      min (s.rd F.PORT_FEC_FLITS_LO_FLITS_LO k + 2 ^ 32 * s.rd F.PORT_FEC_FLITS_HI_FLITS_HI k + 1) (2 ^ 48 - 1) ∧ s.rd
      F.PORT_STAT_EMODE_IO n ≠ 1) ∧
    (∃ (s : State) (n k : Nat) (f : Flit), Quiet s ∧ n < 16 ∧ f.wf = true ∧ s.located n = true ∧ s.locked n 1 = true ∧
      s.rd (F.lock 1) n = 2 ∧ (s.port n).rows = false ∧ s.hostFacing n = true ∧ s.capRuns n 1 = false ∧ flitOutcome f =
      .corrected ∧ f.info.seq = none ∧ f.info.cacheMem = false ∧ k = flKey n 1 ∧ s.rd F.PORT_STAT_EMODE_IO n = 1 ∧ s.rd
      F.PORT_LINK_STAT_AWIDTH n ≤ 16) ∧
    (∃ (s : State) (n k : Nat) (f : Flit), Quiet s ∧ n < 16 ∧ f.wf = true ∧ s.located n = true ∧ s.locked n 1 = true ∧
      s.rd (F.lock 1) n = 2 ∧ (s.port n).rows = false ∧ s.rd F.PORT_STAT_EMODE_IO n ≠ 3 ∧ s.hostFacing n = true ∧
      s.capRuns n 1 = false ∧ flitOutcome f = .uncorrectable ∧ f.info.seq = none ∧ f.info.cacheMem = false ∧ k = flKey n
      1) :=
  ⟨⟨up, 15, 1, flit0, by decide +kernel⟩,
   ⟨flitLink.wr (F.lock 1) 0 0, 0, 1, flit0, by decide +kernel⟩,
   ⟨(flitLink.wr (F.lock 1) 0 0).wr F.PORT_STAT_EMODE_IO 0 3, 0, { flit0 with cw := [.clean, .uncorrectable, .clean] }, by decide +kernel⟩,
   ⟨flitLink, 0, 1, 1, flit0, by decide +kernel⟩,
   ⟨flitLink.wr F.PORT_STAT_EMODE_IO 0 1, 0, 1, { flit0 with cw := [.corrected 255 1, .clean, .clean] }, by decide +kernel⟩,
   ⟨flitLink, 0, 1, { flit0 with cw := [.clean, .uncorrectable, .clean] }, by decide +kernel⟩⟩

theorem wit_StreamsStartEndAndLoseLock :
    (∃ (s : State) (n skO skI : Nat), Quiet s ∧ n < 16 ∧ skO < 2 ^ 32 ∧ skI < 2 ^ 32 ∧ s.ltssm n = 8 ∧ (s.port n).stream
      = false ∧ s.rowsStart n = false) ∧
    (∃ (s : State) (n skO skI : Nat), Quiet s ∧ n < 16 ∧ skO < 2 ^ 32 ∧ skI < 2 ^ 32 ∧ (s.ltssm n ≠ 8 ∨ (s.port
      n).stream = true)) ∧
    (∃ (s : State) (n : Nat), Quiet s ∧ n < 16 ∧ (s.port n).stream = true ∧ (s.port n).held = [] ∧ (s.port n).errata =
      [] ∧ (s.port n).rplReqs = [] ∧ (s.port n).holdReqs = [] ∧ s.rd F.HEAT_EXP_STAT_ACTIVE n ≠ 1) ∧
    (∃ (s : State) (n : Nat), Quiet s ∧ n < 16 ∧ (s.port n).stream = false) ∧
    (∃ (s : State) (n d : Nat), Quiet s ∧ n < 16 ∧ d < 2 ∧ s.rd (F.lock d) n = 1 ∧ 64 ≤ (s.fl (flKey n d)).provFlits ∧
      s.rd F.PORT_CAP_CFG_TRIG n ≠ 4) ∧
    (∃ (s : State) (n d : Nat), Quiet s ∧ n < 16 ∧ d < 2 ∧ (s.rd (F.lock d) n ≠ 1 ∨ (s.fl (flKey n d)).provFlits < 64))
      ∧
    (∃ (s : State) (n d : Nat), Quiet s ∧ n < 16 ∧ d < 2 ∧ s.rd (F.lock d) n ≠ 0 ∧ s.lossN n ≤ (s.fl (flKey n
      d)).failRun ∧ s.rd F.PORT_CAP_CFG_TRIG n ≠ 4) ∧
    (∃ (s : State) (n d : Nat), Quiet s ∧ n < 16 ∧ d < 2 ∧ (s.rd (F.lock d) n = 0 ∨ (s.fl (flKey n d)).failRun < s.lossN
      n)) ∧
    (∃ (s : State) (n d : Nat), Quiet s ∧ n < 16 ∧ d < 2 ∧ s.rd (F.lock d) n ≠ 0 ∧ s.rd F.PORT_CAP_CFG_TRIG n ≠ 4) ∧
    (∃ (s : State) (n d : Nat), Quiet s ∧ n < 16 ∧ d < 2 ∧ s.rd (F.lock d) n = 0) ∧
    (∃ (s : State) (n : Nat) (h : HeldFlit), Quiet s ∧ n < 16 ∧ (s.port n).held = [h] ∧ s.locked n 1 = false ∧ (s.port
      n).holdReqs = []) ∧
    (∃ (s : State) (n : Nat), Quiet s ∧ n < 16 ∧ (s.port n).held = []) ∧
    (∃ (s : State) (r : Requester) (n : Nat), CoreReady s r ∧ n < 16) :=
  ⟨⟨(link 8).modPort 0 fun p => { p with fmt := 1 }, 0, 2400, 2401, by decide +kernel⟩,
   ⟨up, 15, 0, 0, by decide +kernel⟩,
   ⟨flitLink, 0, by decide +kernel⟩,
   ⟨up, 15, by decide +kernel⟩,
   ⟨(flitLink.wr (F.lock 1) 0 1).modFl 1 fun e => { e with provFlits := 64 }, 0, 1, by decide +kernel⟩,
   ⟨up, 15, 1, by decide +kernel⟩,
   ⟨flitLink.modFl 1 fun e => { e with failRun := 255 }, 0, 1, by decide +kernel⟩,
   ⟨up, 15, 1, by decide +kernel⟩,
   ⟨flitLink, 0, 0, by decide +kernel⟩,
   ⟨up, 15, 1, by decide +kernel⟩,
   ⟨up.modPort 15 fun p => { p with held := [⟨flit0, 0, .uncorrectable, [], 0, 0, false, none⟩] }, 15, ⟨flit0, 0, .uncorrectable, [], 0, 0, false, none⟩, by decide +kernel⟩,
   ⟨up, 15, by decide +kernel⟩,
   ⟨up, .normal, 15, by decide +kernel⟩⟩

theorem wit_CapturesRunAndStop :
    (∃ (s : State) (r : Requester) (n : Nat), CoreReady s r ∧ n < 16 ∧ (s.capState n = 0 ∨ s.capState n = 3)) ∧
    (∃ (s : State) (r : Requester) (n : Nat), CoreReady s r ∧ n < 16 ∧ (s.capState n = 1 ∨ s.capState n = 2)) ∧
    (∃ (s : State) (r : Requester) (n : Nat), CoreReady s r ∧ n < 16 ∧ s.capState n = 1) ∧
    (∃ (s : State) (r : Requester) (n : Nat), CoreReady s r ∧ n < 16 ∧ s.capState n ≠ 1) ∧
    (∃ (s : State) (r : Requester) (n : Nat), CoreReady s r ∧ n < 16) ∧
    (∃ (s : State) (n : Nat) (x : List Nat) (q : List (List Nat)) (a : Nat), Quiet s ∧ n < 16 ∧ ((s.port n).capQueue = x
      :: q ∧ x.length = 288 ∧ ∀ b ∈ x, b < 256) ∧ s.capBad n = false ∧ a = s.capAddr n (s.rd F.PORT_CAP_STAT_WPTR n) ∧
      s.rd F.PORT_CAP_STAT_WPTR n + 1 < s.capTotal n) ∧
    (∃ (s : State) (n : Nat), Quiet s ∧ n < 16 ∧ (s.port n).capQueue = []) ∧
    (∃ (s : State) (n : Nat), Quiet s ∧ n < 16) ∧
    (∃ (s : State) (r : Requester) (addr val : Nat), CoreReady s r ∧ 0x500000 ≤ addr ∧ addr < 0x700000 ∧ addr % 4 = 0 ∧
      val < 2 ^ 32 ∧ s.capBusy = false) ∧
    (∃ (s : State) (r : Requester) (addr val : Nat), CoreReady s r ∧ 0x500000 ≤ addr ∧ addr < 0x700000 ∧ addr % 4 = 0 ∧
      val < 2 ^ 32 ∧ s.capBusy = true ∧ s.werrAny = true) :=
  ⟨⟨up.wr F.PORT_CAP_STAT_STATE 15 3, .normal, 15, by decide +kernel⟩,
   ⟨up.wr F.PORT_CAP_STAT_STATE 15 2, .normal, 15, by decide +kernel⟩,
   ⟨up.wr F.PORT_CAP_STAT_STATE 15 1, .normal, 15, by decide +kernel⟩,
   ⟨up, .normal, 15, by decide +kernel⟩,
   ⟨up.wr F.PORT_CAP_STAT_STATE 15 2, .normal, 15, by decide +kernel⟩,
   ⟨up.modPort 15 fun p => { p with capQueue := [List.replicate 288 255] }, 15, List.replicate 288 255, [], 0x500000, by decide +kernel⟩,
   ⟨up, 15, by decide +kernel⟩,
   ⟨up.wr F.PORT_CAP_STAT_STATE 15 2, 15, by decide +kernel⟩,
   ⟨up, .normal, 0x6FFFFC, 0xFFFFFFFF, by decide +kernel⟩,
   ⟨(up.wr F.PORT_CAP_STAT_STATE 15 1).wr F.GLB_WERR_CLK 0 1, .normal, 0x500000, 0xFFFFFFFF, by decide +kernel⟩⟩

theorem wit_TheSidebandMovesThroughItsStates :
    (∃ (s : State), Quiet s ∧ s.rd F.CMP_CSB_STAT_STATE 0 = 1) ∧
    (∃ (s : State), Quiet s ∧ s.rd F.CMP_CSB_STAT_STATE 0 ≠ 1) ∧
    (∃ (s : State) (minor role cap : Nat), Quiet s ∧ minor < 256 ∧ role < 256 ∧ cap < 256 ∧ s.rd F.CMP_CSB_STAT_STATE 0
      = 2 ∧ (∀ n ∈ List.range 16, s.associated n = false) ∧ (∀ v ∈ List.range 17, (s.view v).handed = s.rd
      F.MGMT_VIEW_PTR_RSP_TX v)) ∧
    (∃ (s : State) (major minor role cap : Nat), Quiet s ∧ major < 16 ∧ minor < 256 ∧ role < 256 ∧ cap < 256 ∧ major ≠ 1
      ∧ s.rd F.CMP_CSB_STAT_STATE 0 = 2) ∧
    (∃ (s : State) (major minor role cap : Nat), Quiet s ∧ major < 256 ∧ minor < 256 ∧ role < 256 ∧ cap < 256 ∧ s.rd
      F.CMP_CSB_STAT_STATE 0 < 2) ∧
    (∃ (s : State), Quiet s ∧ s.rd F.CMP_CSB_STAT_STATE 0 = 2) ∧
    (∃ (s : State), Quiet s ∧ s.rd F.CMP_CSB_STAT_STATE 0 ≠ 2) ∧
    (∃ (s : State) (r : Requester), CoreReady s r ∧ s.rd F.CMP_CSB_CTL_EN 0 = 1 ∧ s.csbUp = false) ∧
    (∃ (s : State) (r : Requester), CoreReady s r ∧ s.rd F.CMP_CSB_CTL_EN 0 ≠ 1 ∧ s.rd F.CMP_CSB_STAT_STATE 0 = 0) ∧
    (∃ (s : State) (r : Requester) (en : Bool), CoreReady s r ∧ s.flag F.CMP_CSB_CTL_EN 0 = en) ∧
    (∃ (s : State) (r : Requester), CoreReady s r ∧ s.csbUp = false) ∧
    (∃ (s : State), Quiet s ∧ s.csbUp = true ∧ s.csb.q0 = [] ∧ s.csb.q1 = [] ∧ s.csb.un0 = [] ∧ s.csb.un1 = [] ∧ (∀ n ∈
      List.range 16, (s.port n).rejoin = false) ∧ s.spareState 0 < 2 ∧ s.spareState 1 < 2 ∧ (s.spare 0).peerWanted = []
      ∧ (s.spare 1).peerWanted = []) ∧
    (∃ (s : State), Quiet s ∧ s.csbUp = true ∧ s.csb.q0 = [] ∧ s.csb.q1 = [] ∧ s.csb.un0 = [] ∧ s.csb.un1 = [] ∧ (∀ n ∈
      List.range 16, (s.port n).rejoin = false) ∧ s.spareState 0 < 2 ∧ s.spareState 1 < 2 ∧ (s.spare 0).peerWanted = []
      ∧ (s.spare 1).peerWanted = []) ∧
    (∃ (s : State), Quiet s ∧ s.csbUp = false) ∧
    (∃ (s : State) (r : Requester), CoreReady s r) :=
  ⟨⟨up.wr F.CMP_CSB_STAT_STATE 0 1, by decide +kernel⟩,
   ⟨up, by decide +kernel⟩,
   ⟨up.wr F.CMP_CSB_STAT_STATE 0 2, 255, 255, 255, by decide +kernel⟩,
   ⟨up.wr F.CMP_CSB_STAT_STATE 0 2, 15, 255, 255, 255, by decide +kernel⟩,
   ⟨up, 1, 255, 255, 255, by decide +kernel⟩,
   ⟨up.wr F.CMP_CSB_STAT_STATE 0 2, by decide +kernel⟩,
   ⟨up, by decide +kernel⟩,
   ⟨up.wr F.CMP_CSB_STAT_STATE 0 2, .normal, by decide +kernel⟩,
   ⟨(up.wr F.CMP_CSB_CTL_EN 0 0).wr F.CLK_STAT_XPLL_LOCK 0 1, .normal, by decide +kernel⟩,
   ⟨up, .normal, true, by decide +kernel⟩,
   ⟨(up.wr F.CMP_CSB_STAT_STATE 0 4).wr F.CLK_STAT_XPLL_LOCK 0 1, .jtag, by decide +kernel⟩,
   ⟨up.wr F.CMP_CSB_STAT_STATE 0 3, by decide +kernel⟩,
   ⟨up.wr F.CMP_CSB_STAT_STATE 0 3, by decide +kernel⟩,
   ⟨up, by decide +kernel⟩,
   ⟨up, .normal, by decide +kernel⟩⟩

theorem wit_FramesAreNumberedAndAcknowledged :
    (∃ (s : State) (num : Nat), Quiet s ∧ num < 256 ∧ s.csbUp = true ∧ (∀ f ∈ s.csb.un0, f.ring = none)) ∧
    (∃ (s : State) (vc num : Nat), Quiet s ∧ vc < 2 ∧ num < 256 ∧ s.csbUp = false) ∧
    (∃ (s : State) (vc : Nat) (f : CsbFrame), Quiet s ∧ vc < 2 ∧ s.csbUp = true ∧ ((if vc = 0 then s.csb.un0 else
      s.csb.un1) = [f])) ∧
    (∃ (s : State) (vc : Nat), Quiet s ∧ vc < 2 ∧ s.csbUp = false) ∧
    (∃ (s : State) (d : Nat), Quiet s ∧ s.csbUp = true ∧ s.csb.beaconDue = some d) ∧
    (∃ (s : State), Quiet s ∧ s.csbUp = true ∧ s.csb.beaconDue = none ∧ s.csb.ackDue0 = true) ∧
    (∃ (s : State) (f : CsbFrame) (q : List CsbFrame), Quiet s ∧ s.csbUp = true ∧ s.csb.beaconDue = none ∧ s.csb.ackDue0
      = false ∧ s.csb.ackDue1 = false ∧ s.csb.q0 = f :: q ∧ f.vc = 0 ∧ s.csb.un0.length < 32) ∧
    (∃ (s : State), Quiet s ∧ s.csbUp = false) ∧
    (∃ (s : State) (h : CsbHdr) (why : BadFrame), InOrder s h) ∧
    (∃ (s : State) (bytes : List Nat), Quiet s ∧ bytesWf bytes = true ∧ 2 ≤ s.rd F.CMP_CSB_STAT_STATE 0 ∧ csbFrameOk
      bytes = false) ∧
    (∃ (s : State) (bytes : List Nat), Quiet s ∧ bytesWf bytes = true ∧ (s.rd F.CMP_CSB_STAT_STATE 0 < 2 ∨ csbFrameOk
      bytes = true)) :=
  ⟨⟨(up.wr F.CMP_CSB_STAT_STATE 0 3).putCsb { un0 := [⟨0x10, 0, 255, [], none, none⟩, ⟨0x10, 0, 0, [], none, none⟩] }, 255, by decide +kernel⟩,
   ⟨up, 1, 255, by decide +kernel⟩,
   ⟨(up.wr F.CMP_CSB_STAT_STATE 0 3).putCsb { un1 := [⟨0x40, 1, 255, [], none, none⟩] }, 1, ⟨0x40, 1, 255, [], none, none⟩, by decide +kernel⟩,
   ⟨up, 1, by decide +kernel⟩,
   ⟨(up.wr F.CMP_CSB_STAT_STATE 0 3).putCsb { beaconDue := some 100, heartbeat := 65535 }, 100, by decide +kernel⟩,
   ⟨(up.wr F.CMP_CSB_STAT_STATE 0 3).putCsb { ackDue0 := true }, by decide +kernel⟩,
   ⟨(up.wr F.CMP_CSB_STAT_STATE 0 3).putCsb { q0 := [⟨0x10, 0, 255, [], none, none⟩] }, ⟨0x10, 0, 255, [], none, none⟩, [], by decide +kernel⟩,
   ⟨up, by decide +kernel⟩,
   ⟨csb 255, ⟨0, 255, 9⟩, .noPort, by decide +kernel⟩,
   ⟨up.wr F.CMP_CSB_STAT_STATE 0 4, [0x10, 128, 255, 9, 0, 0, 1, 2, 3, 4], by decide +kernel⟩,
   ⟨up, [], by decide +kernel⟩⟩

theorem wit_PortsAssociateAndFallBack :
    (∃ (s : State) (h : CsbHdr) (n : Nat) (rows : Bool), InOrder s h ∧ n < 16 ∧ s.present n = true ∧ (s.port n).joinWait
      = true ∧ (s.port n).rejoin = false) ∧
    (∃ (s : State) (h : CsbHdr) (n : Nat) (rows : Bool), InOrder s h ∧ n < 16 ∧ s.present n = true ∧ (s.port n).joinWait
      = true ∧ (s.port n).rejoin = false ∧ NoWork s n) ∧
    (∃ (s : State) (h : CsbHdr) (n : Nat) (refuse rows : Bool), InOrder s h ∧ n < 16 ∧ (s.present n = false ∨ (s.port
      n).joinWait = false)) ∧
    (∃ (s : State) (n : Nat), Quiet s ∧ n < 16 ∧ (s.port n).joinWait = true ∧ (s.port n).rejoin = false ∧ NoWork s n) ∧
    (∃ (s : State) (n : Nat), Quiet s ∧ n < 16 ∧ (s.port n).joinWait = false) ∧
    (∃ (s : State) (h : CsbHdr) (n rate lanes : Nat) (comp : Bool), InOrder s h ∧ n < 16 ∧ rate < 8 ∧ lanes < 2 ^ 16 ∧
      s.present n = true ∧ (s.port n).attempt = .lock false ∧ comp = true ∧ rate = s.rate n ∧ s.innerLocked n = false) ∧
    (∃ (s : State) (h : CsbHdr) (n rate lanes : Nat) (comp : Bool), InOrder s h ∧ n < 16 ∧ rate < 8 ∧ lanes < 2 ^ 16 ∧
      s.present n = true ∧ s.associated n = true ∧ rate ≠ s.rate n) ∧
    (∃ (s : State) (n : Nat), Quiet s ∧ n < 16 ∧ (s.port n).attempt = .lock false ∧ NoWork s n ∧ s.csbUp = true) ∧
    (∃ (s : State) (n : Nat), Quiet s ∧ n < 16 ∧ (s.port n).attempt = .none) ∧
    (∃ (s : State) (h : CsbHdr) (n : Nat) (none_ : Bool), InOrder s h ∧ n < 16 ∧ s.present n = true ∧ (s.port n).attempt
      = .ceq ∧ (s.port n).ownCeq = false) ∧
    (∃ (s : State) (n : Nat), Quiet s ∧ n < 16 ∧ (s.port n).attempt = .ceq ∧ (s.port n).execI = none ∧ s.rd (F.trials
      true) n = 0 ∧ NoWork s n ∧ s.csbUp = true) ∧
    (∃ (s : State) (h : CsbHdr) (n : Nat), InOrder s h ∧ n < 16 ∧ s.present n = true ∧ (s.port n).attempt = .fbAck ∧ (∀
      ls ∈ s.sideLs n true, (s.lane ls).tx = true ∧ s.astate ls = 0)) ∧
    (∃ (s : State) (n : Nat), Quiet s ∧ n < 16 ∧ (s.port n).attempt = .fbAck ∧ (∀ ls ∈ s.sideLs n true, (s.lane ls).tx =
      true ∧ s.astate ls = 0)) ∧
    (∃ (s : State) (n : Nat), Quiet s ∧ n < 16 ∧ (s.port n).attempt = .fbHold ∧ (s.port n).heldPhase = none) ∧
    (∃ (s : State) (h : CsbHdr) (n reason : Nat), InOrder s h ∧ n < 16 ∧ reason < 256 ∧ s.present n = true ∧
      s.associated n = true) ∧
    (∃ (s : State) (n : Nat), Quiet s ∧ n < 16 ∧ (s.port n).rows = true ∧ max (s.rd F.CMP_CFG_ROWLOSS_N 0) 1 ≤ (s.port
      n).badRun ∧ s.ltssm n ≠ 8) ∧
    (∃ (s : State) (n : Nat), Quiet s ∧ n < 16 ∧ (s.port n).rows = false) :=
  ⟨⟨(csb 255).modPort 0 fun p => { p with joinWait := true }, ⟨0, 255, 9⟩, 0, true, by decide +kernel⟩,
   ⟨(csb 255).modPort 0 fun p => { p with joinWait := true }, ⟨0, 255, 9⟩, 0, true, by decide +kernel⟩,
   ⟨csb 255, ⟨0, 255, 9⟩, 15, true, true, by decide +kernel⟩,
   ⟨up.modPort 15 fun p => { p with joinWait := true }, 15, by decide +kernel⟩,
   ⟨up, 15, by decide +kernel⟩,
   ⟨(csb 255).modPort 0 fun p => { p with attempt := .lock false }, ⟨0, 255, 9⟩, 0, 0, 0xF, true, by decide +kernel⟩,
   ⟨(csb 255).wr F.CMP_PORT_STAT_SEG 0 2, ⟨0, 255, 9⟩, 0, 7, 0xF, true, by decide +kernel⟩,
   ⟨(csb 255).modPort 0 fun p => { p with attempt := .lock false }, 0, by decide +kernel⟩,
   ⟨up, 15, by decide +kernel⟩,
   ⟨(csb 255).modPort 0 fun p => { p with attempt := .ceq }, ⟨0, 255, 9⟩, 0, true, by decide +kernel⟩,
   ⟨(csb 255).modPort 0 fun p => { p with attempt := .ceq }, 0, by decide +kernel⟩,
   ⟨(((((csb 255).modPort 0 fun p => { p with attempt := .fbAck, trained := 7 }).modLane 32 fun l => { l with tx := true }).modLane 33 fun l => { l with tx := true }).modLane 34 fun l => { l with tx := true }).modLane 35 fun l => { l with tx := true }, ⟨0, 255, 9⟩, 0, by decide +kernel⟩,
   ⟨(((((csb 255).modPort 0 fun p => { p with attempt := .fbAck, trained := 7 }).modLane 32 fun l => { l with tx := true }).modLane 33 fun l => { l with tx := true }).modLane 34 fun l => { l with tx := true }).modLane 35 fun l => { l with tx := true }, 0, by decide +kernel⟩,
   ⟨up.modPort 15 fun p => { p with attempt := .fbHold }, 15, by decide +kernel⟩,
   ⟨(csb 255).wr F.CMP_PORT_STAT_SEG 0 3, ⟨0, 255, 9⟩, 0, 255, by decide +kernel⟩,
   ⟨(link 0x10).modPort 0 fun p => { p with rows := true, badRun := 255 }, 0, by decide +kernel⟩,
   ⟨up, 15, by decide +kernel⟩⟩

theorem wit_SparesAreRequestedAndAnswered :
    (∃ (s : State) (r : Requester) (l n k : Nat), CoreReady s r ∧ l < 32 ∧ n < 16 ∧ k = halfOf l ∧ s.sparable l = some n
      ∧ s.spareState k = 1) ∧
    (∃ (s : State) (r : Requester) (l : Nat), CoreReady s r ∧ l < 32 ∧ s.sparable l = none) ∧
    (∃ (s : State) (r : Requester) (l n k : Nat), CoreReady s r ∧ l < 32 ∧ n < 16 ∧ k = halfOf l ∧ s.sparable l = some n
      ∧ s.spareState k ≠ 1) ∧
    (∃ (s : State) (h : CsbHdr) (k l : Nat), InOrder s h ∧ k < 2 ∧ l < 32 ∧ (s.spare k).asked = true ∧ s.spareLane k = l
      ∧ s.spareState k = 2 ∧ (s.lane (64 + k)).tx = false ∧ s.astate (64 + k) ≠ 2 ∧ s.rd F.LANE_SLICE_STAT_CALSLICE (64
      + k) = 0x7F) ∧
    (∃ (s : State) (h : CsbHdr) (k l : Nat), InOrder s h ∧ k < 2 ∧ l < 32 ∧ (s.spare k).asked = true ∧ s.spareLane k = l
      ∧ s.spareState k = 2 ∧ s.rd F.LANE_SLICE_STAT_CALSLICE (64 + k) ≠ 0x7F) ∧
    (∃ (s : State) (h : CsbHdr) (k l n : Nat), InOrder s h ∧ k < 2 ∧ l < 32 ∧ n < 16 ∧ (s.spare k).asked = true ∧
      s.spareLane k = l ∧ s.spareState k = 2 ∧ (s.lane (64 + k)).tx = false ∧ s.portOfLane l = some n) ∧
    (∃ (s : State) (h : CsbHdr) (k l n : Nat), InOrder s h ∧ k < 2 ∧ l < 32 ∧ n < 16 ∧ (s.spare k).asked = true ∧
      (s.spare k).ending = false ∧ (s.spare k).rxOwn = false ∧ (s.spare k).rxPeer = false ∧ s.spareLane k = l ∧
      s.spareState k = 2 ∧ (s.lane (64 + k)).tx = false ∧ s.portOfLane l = some n) ∧
    (∃ (s : State) (h : CsbHdr) (k l res : Nat), InOrder s h ∧ k < 2 ∧ l < 256 ∧ res < 256 ∧ (s.spare k).asked = false)
      ∧
    (∃ (s : State) (k l n : Nat), Quiet s ∧ k < 2 ∧ l < 32 ∧ n < 16 ∧ (s.spare k).asked = true ∧ (s.spare k).ending =
      false ∧ (s.spare k).rxOwn = false ∧ (s.spare k).rxPeer = false ∧ s.spareLane k = l ∧ s.spareState k = 2 ∧ (s.lane
      (64 + k)).tx = false ∧ s.portOfLane l = some n) ∧
    (∃ (s : State) (k : Nat), Quiet s ∧ k < 2 ∧ (s.spare k).asked = false) ∧
    (∃ (s : State) (h : CsbHdr) (k l n : Nat), InOrder s h ∧ k < 2 ∧ l < 32 ∧ n < 16 ∧ s.flag F.SPARE_CFG_SW_REQ_EN 0 =
      true ∧ s.sparable l = some n ∧ s.present n = true ∧ k = halfOf l ∧ s.spareState k = 1) ∧
    (∃ (s : State) (h : CsbHdr) (k l n : Nat), InOrder s h ∧ k < 2 ∧ l < 256 ∧ n < 16 ∧ s.flag F.SPARE_CFG_SW_REQ_EN 0 =
      false ∧ s.present n = true ∧ s.associated n = true) ∧
    (∃ (s : State) (h : CsbHdr) (k l n : Nat), InOrder s h ∧ k < 2 ∧ l < 256 ∧ n < 256 ∧ (16 ≤ n ∨ s.present n = false ∨
      s.associated n = false)) :=
  ⟨⟨spLink, .normal, 3, 0, 0, by decide +kernel⟩,
   ⟨up, .normal, 31, by decide +kernel⟩,
   ⟨spLink.wr F.SPARE_STAT_STATE 0 4, .normal, 3, 0, 0, by decide +kernel⟩,
   ⟨spReq, ⟨0, 255, 9⟩, 0, 3, by decide +kernel⟩,
   ⟨spReq.wr F.LANE_SLICE_STAT_CALSLICE 64 5, ⟨0, 255, 9⟩, 0, 3, by decide +kernel⟩,
   ⟨spReq, ⟨0, 255, 9⟩, 0, 3, 0, by decide +kernel⟩,
   ⟨spReq, ⟨0, 255, 9⟩, 0, 3, 0, by decide +kernel⟩,
   ⟨csb 255, ⟨0, 255, 9⟩, 1, 255, 255, by decide +kernel⟩,
   ⟨spReq, 0, 3, 0, by decide +kernel⟩,
   ⟨up, 1, by decide +kernel⟩,
   ⟨spLink, ⟨0, 255, 9⟩, 0, 3, 0, by decide +kernel⟩,
   ⟨spLink.wr F.SPARE_CFG_SW_REQ_EN 0 0, ⟨0, 255, 9⟩, 1, 255, 0, by decide +kernel⟩,
   ⟨csb 255, ⟨0, 255, 9⟩, 1, 255, 255, by decide +kernel⟩⟩

theorem wit_SpareRequestsAreArbitrated :
    (∃ (s : State) (k l n c m i d : Nat), k < 2 ∧ l < m ∧ m < 32 ∧ n < 16 ∧ i < 16 ∧ c < 8 ∧ s.raised = [] ∧
      s.spareState k = 1 ∧ s.csbUp = true ∧ (s.spare k).peerWanted = [] ∧ ((s.spare k).wanted = [(l, n, c), (m, i, d)] ∨
      (s.spare k).wanted = [(m, i, d), (l, n, c)]) ∧ s.sparable l = some n ∧ s.sparable m = some i) ∧
    (∃ (s : State) (k l n c m i : Nat), k < 2 ∧ l < 32 ∧ m < 32 ∧ n < 16 ∧ i < 16 ∧ c < 8 ∧ s.raised = [] ∧ s.spareState
      k = 1 ∧ s.csbUp = true ∧ (s.spare k).wanted = [(l, n, c)] ∧ (s.spare k).peerWanted = [(m, i)] ∧ s.sparable l =
      some n ∧ s.sparable m = some i) ∧
    (∃ (s : State) (k m i : Nat), k < 2 ∧ m < 32 ∧ i < 16 ∧ s.spareState k = 1 ∧ s.csbUp = true ∧ s.rd
      F.LANE_SLICE_STAT_CALSLICE (64 + k) ≠ 0x7F ∧ (s.spare k).wanted = [] ∧ (s.spare k).peerWanted = [(m, i)] ∧
      s.sparable m = some i) :=
  ⟨⟨spLink.modSpare 0 fun p => { p with wanted := [(3, 0, 2), (1, 0, 7)] }, 0, 1, 0, 7, 3, 0, 2, by decide +kernel⟩,
   ⟨spLink.modSpare 0 fun p => { p with wanted := [(3, 0, 2)], peerWanted := [(0, 0)] }, 0, 3, 0, 2, 0, 0, by decide +kernel⟩,
   ⟨(spLink.wr F.LANE_SLICE_STAT_CALSLICE 64 5).modSpare 0 fun p => { p with peerWanted := [(3, 0)] }, 0, 3, 0, by decide +kernel⟩⟩

theorem wit_SparesEnterAndLeaveService :
    (∃ (s : State) (k offset : Nat), Quiet s ∧ k < 2 ∧ (s.spare k).copying = true ∧ s.spareState k = 3) ∧
    (∃ (s : State) (k offset : Nat), Quiet s ∧ k < 2 ∧ (s.spare k).copying = false) ∧
    (∃ (s : State) (k : Nat), Quiet s ∧ k < 2 ∧ (s.spare k).tracked = true ∧ (s.spare k).ending = false ∧ (s.spare
      k).rxOwn = false ∧ (s.spare k).rxPeer = false ∧ s.spareState k = 3 ∧ s.csbUp = true) ∧
    (∃ (s : State) (k : Nat), Quiet s ∧ k < 2 ∧ (s.spare k).tracked = false ∧ (s.spare k).ending = false) ∧
    (∃ (s : State) (h : CsbHdr) (k l : Nat), InOrder s h ∧ k < 2 ∧ l < 32 ∧ s.spareLane k = l ∧ s.spareState k = 3 ∧
      (s.spare k).ending = false ∧ (s.spare k).rxOwn = false ∧ (s.lane (innerLs l)).tx = true) ∧
    (∃ (s : State) (h : CsbHdr) (k l n : Nat), InOrder s h ∧ k < 2 ∧ l < 32 ∧ n < 16 ∧ s.spareLane k = l ∧ s.spareState
      k = 3 ∧ (s.spare k).ending = false ∧ (s.spare k).rxOwn = true ∧ (s.lane (innerLs l)).tx = true ∧ s.portOfLane l =
      some n) ∧
    (∃ (s : State) (h : CsbHdr) (k l : Nat) (uses : Bool), InOrder s h ∧ k < 2 ∧ l < 256 ∧ s.spareLane k ≠ l) ∧
    (∃ (s : State) (k l n : Nat), Quiet s ∧ k < 2 ∧ n < 16 ∧ l = s.spareLane k ∧ ((s.spare k).ending = false ∧ (s.spare
      k).rxOwn = false ∧ (s.spare k).rxPeer = false ∧ (s.spareState k = 2 ∨ s.spareState k = 3) ∧ (s.lane (64 + k)).tx =
      false ∧ s.portOfLane l = some n)) ∧
    (∃ (s : State) (k : Nat), Quiet s ∧ k < 2 ∧ ((s.spare k).ending = false ∧ (s.spareState k < 2 ∨ s.spareState k =
      4))) ∧
    (∃ (s : State) (r : Requester) (n : Nat), CoreReady s r ∧ s.spareState 0 = 4 ∧ s.csbUp = true ∧ s.portOfLane
      (s.spareLane 0) = some n) ∧
    (∃ (s : State) (r : Requester), CoreReady s r ∧ s.spareState 0 ≠ 4) ∧
    (∃ (s : State) (r : Requester) (n : Nat), CoreReady s r ∧ s.spareState 1 = 4 ∧ s.csbUp = true ∧ s.portOfLane
      (s.spareLane 1) = some n) ∧
    (∃ (s : State) (r : Requester), CoreReady s r ∧ s.spareState 1 ≠ 4) ∧
    (∃ (s : State) (r : Requester), CoreReady s r) ∧
    (∃ (s : State) (h : CsbHdr) (n w : Nat) (counts : List Nat), InOrder s h ∧ (n < 16 ∧ w < 256 ∧ counts.length = 16 ∧
      ∀ c ∈ counts, c < 2 ^ 16) ∧ s.present n = true ∧ s.associated n = true) ∧
    (∃ (s : State) (h : CsbHdr) (n w : Nat) (counts : List Nat), InOrder s h ∧ (n < 16 ∧ w < 256 ∧ counts.length = 16 ∧
      ∀ c ∈ counts, c < 2 ^ 16) ∧ s.associated n = false ∧ (s.port n).attempt = .none) ∧
    (∃ (s : State), Quiet s ∧ s.flag F.SPARE_CFG_AUTO 0 = true ∧ (∀ l ∈ List.range 32, (s.lane (s.innerOf l)).badWindows
      + 1 < s.rd F.SPARE_CFG_PERSIST 0)) ∧
    (∃ (s : State), Quiet s ∧ s.flag F.SPARE_CFG_AUTO 0 = false) ∧
    (∃ (s : State) (k : Nat), Quiet s ∧ k < 2 ∧ (s.spareState k = 0 ∧ s.spareNeeded k = true ∧ (s.spareState (1 - k) ≠ 1
      ∨ s.spareNeeded (1 - k) = true))) ∧
    (∃ (s : State) (k : Nat), Quiet s ∧ k < 2 ∧ (s.spareState k ≠ 0 ∨ s.spareNeeded k = false)) :=
  ⟨⟨spCopy, 0, 999999, by decide +kernel⟩,
   ⟨up, 1, 0, by decide +kernel⟩,
   ⟨spCopy.modSpare 0 fun p => { p with tracked := true }, 0, by decide +kernel⟩,
   ⟨up, 1, by decide +kernel⟩,
   ⟨spCopy, ⟨0, 255, 9⟩, 0, 3, by decide +kernel⟩,
   ⟨spCopy.modSpare 0 fun p => { p with rxOwn := true, tracked := true }, ⟨0, 255, 9⟩, 0, 3, 0, by decide +kernel⟩,
   ⟨csb 255, ⟨0, 255, 9⟩, 1, 255, true, by decide +kernel⟩,
   ⟨spCopy, 0, 3, 0, by decide +kernel⟩,
   ⟨spCopy.wr F.SPARE_STAT_STATE 0 4, 0, by decide +kernel⟩,
   ⟨spCopy.wr F.SPARE_STAT_STATE 0 4, .normal, 0, by decide +kernel⟩,
   ⟨up, .normal, by decide +kernel⟩,
   ⟨((csb 255).wr F.SPARE_STAT_STATE 1 4).wr F.SPARE_STAT_LANE 1 3, .normal, 0, by decide +kernel⟩,
   ⟨up, .normal, by decide +kernel⟩,
   ⟨up.wr F.SPARE_CNT_GRANT 0 255, .normal, by decide +kernel⟩,
   ⟨spLink, ⟨0, 255, 9⟩, 0, 255, List.replicate 16 65535, by decide +kernel⟩,
   ⟨csb 255, ⟨0, 255, 9⟩, 15, 255, List.replicate 16 0, by decide +kernel⟩,
   ⟨(spLink.modLane 35 fun l => { l with relocks := 2, badWindows := 1 }).modLane 36 fun l => { l with syms := 5000, badWindows := 1 }, by decide +kernel⟩,
   ⟨(spLink.modLane 35 fun l => { l with relocks := 2, badWindows := 1 }).wr F.SPARE_CFG_AUTO 0 0, by decide +kernel⟩,
   ⟨(spLink.wr F.SPARE_STAT_STATE 0 0).wr F.PORT_CFG_COMP 0 1, 0, by decide +kernel⟩,
   ⟨up.wr F.SPARE_STAT_STATE 1 4, 1, by decide +kernel⟩⟩

theorem wit_SlotsAreSentAndTaken :
    (∃ (s : State) (n young und uns : Nat) (ecc : Ecc), Quiet s ∧ n < 16 ∧ ecc.wf = true ∧ und ≤ 32 ∧ uns ≤ 32 ∧
      ((s.port n).rows = false ∨ (s.port n).outPos + und + uns ≠ 32 * ((s.port n).slotsOut + 1))) ∧
    (∃ (s : State) (n young und uns : Nat) (ecc : Ecc), Quiet s ∧ n < 16 ∧ ecc.wf = true ∧ und ≤ 32 ∧ uns ≤ 32 ∧ (s.port
      n).rows = true ∧ (s.port n).outPos + und + uns = 32 * ((s.port n).slotsOut + 1) ∧ (s.port n).errata = [] ∧ (s.port
      n).holdReqs = [] ∧ (s.port n).rplReqs = [] ∧ (s.port n).refused = [] ∧ (s.view (n + 1)).q3 = [] ∧ (s.heat n).chunk
      = none) ∧
    (∃ (s : State) (n young und uns num : Nat) (ecc : Ecc) (e : ErrEntry), Quiet s ∧ n < 16 ∧ ecc.wf = true ∧ und ≤ 32 ∧
      uns ≤ 32 ∧ (s.port n).rows = true ∧ (s.port n).outPos + und + uns = 32 * ((s.port n).slotsOut + 1) ∧ (s.port
      n).errata = [e] ∧ e.eligible (s.port n).slotsOut = true ∧ e.issue ≠ 0 ∧ num = (s.port n).errNum ∧ num < 65536) ∧
    (∃ (s : State) (n : Nat) (slot : List Nat), Quiet s ∧ n < 16 ∧ slot.length = 256 ∧ bytesWf slot = true ∧ byte0 slot
      / 32 = 7 ∧ s.slotHere n = true ∧ hcrcOk n (s.inRow n) slot = true) ∧
    (∃ (s : State) (n : Nat) (slot : List Nat), Quiet s ∧ n < 16 ∧ slot.length = 256 ∧ bytesWf slot = true ∧ byte0 slot
      / 32 ≠ 0 ∧ s.slotHere n = true ∧ hcrcOk n (s.inRow n) slot = false) ∧
    (∃ (s : State) (n : Nat) (slot : List Nat), Quiet s ∧ n < 16 ∧ slot.length = 256 ∧ bytesWf slot = true ∧ s.slotHere
      n = false ∧ byte0 slot / 32 = 7) ∧
    (∃ (s : State) (n : Nat) (slot : List Nat), Quiet s ∧ n < 16 ∧ slot.length = 256 ∧ bytesWf slot = true ∧ byte0 slot
      / 32 = 1 ∧ slotClass slot = 1 ∧ s.slotHere n = true ∧ hcrcOk n (s.inRow n) slot = true ∧ pcrcOk slot = true ∧
      byteAt slot 1 = 1 ∧ (s.port n).rplReqs.length < 64) ∧
    (∃ (s : State) (n : Nat) (slot : List Nat), Quiet s ∧ n < 16 ∧ slot.length = 256 ∧ bytesWf slot = true ∧ byte0 slot
      / 32 = 1 ∧ slotClass slot = 1 ∧ (s.slotHere n = true ∧ hcrcOk n (s.inRow n) slot = true ∧ (byteAt slot 1 = 0 ∨ 60
      < byteAt slot 1))) ∧
    (∃ (s : State) (n : Nat) (slot : List Nat) (arr : BodyArrival) (q : HoldReq), Quiet s ∧ n < 16 ∧ slot.length = 256 ∧
      bytesWf slot = true ∧ byte0 slot / 32 = 0 ∧ slotClass slot = 0 ∧ byteAt slot 0 = 0 ∧ s.slotHere n = true ∧ hcrcOk
      n (s.inRow n) slot = true ∧ s.rd F.PORT_STAT_EMODE_IO n = 3 ∧ (s.port n).holdReqs = [q] ∧ q.row = leAt slot 2 2 ∧
      q.index = byteAt slot 1 / 8 ∧ q.held = true ∧ s.inTime n arr.ps = true ∧ arr.crcOk = true) ∧
    (∃ (s : State) (n v : Nat) (slot e : List Nat), Quiet s ∧ n < 16 ∧ slot.length = 256 ∧ bytesWf slot = true ∧ byte0
      slot / 32 = 3 ∧ slotClass slot = 3 ∧ byteAt slot 1 = 0 ∧ s.slotHere n = true ∧ hcrcOk n (s.inRow n) slot = true ∧
      pcrcOk slot = true ∧ bit (s.port n).police 16 = false ∧ v = n + 1 ∧ e = sliceBytes slot 6 128 ∧ Admits s v e ∧
      s.present n = true ∧ s.seqMark v e = .ok ∧ e.length = 128) ∧
    (∃ (s : State) (n : Nat) (e : ErrEntry), Quiet s ∧ n < 16 ∧ (s.port n).errata = [e] ∧ e.due < (s.port n).slotsOut) ∧
    (∃ (s : State) (n : Nat), Quiet s ∧ n < 16 ∧ (∀ e ∈ (s.port n).errata, (s.port n).slotsOut ≤ e.due)) ∧
    (∃ (s : State) (r : Requester), CoreReady s r) :=
  ⟨⟨up, 15, 0, 0, 1, .ok, by decide +kernel⟩,
   ⟨up.modPort 15 fun p => { p with rows := true, slotsOut := 65535, outPos := 2097149 }, 15, 0, 2, 1, .ok, by decide +kernel⟩,
   ⟨up.modPort 15 (fun p => { p with rows := true, slotsOut := 9, outPos := 320, errNum := 65535, errata := [⟨3, 4, 7, [(1, 2)], 8, 9, 10, 0⟩] }), 15, 0, 0, 0, 65535, .ok, ⟨3, 4, 7, [(1, 2)], 8, 9, 10, 0⟩, by decide +kernel⟩,
   ⟨up.modPort 15 fun p => { p with rows := true, inPos := 31, badRun := 3 }, 15, mkSlot 15 0 [224, 0, 0, 0] [] false, by decide +kernel⟩,
   ⟨up.modPort 15 fun p => { p with rows := true, inPos := 31, badRun := 3 }, 15, List.replicate 256 255, by decide +kernel⟩,
   ⟨up, 15, List.replicate 256 255, by decide +kernel⟩,
   ⟨up.modPort 15 fun p => { p with rows := true, inPos := 32 }, 15, mkSlot 15 0 [32, 1, 0, 0] [5, 0, 16, 0] true, by decide +kernel⟩,
   ⟨up.modPort 15 fun p => { p with rows := true, inPos := 32 }, 15, mkSlot 15 0 [32, 61, 0, 0] [5, 0, 16, 0] true, by decide +kernel⟩,
   ⟨((link 8).wr F.PORT_STAT_EMODE_IO 0 3).modPort 0 (fun p => { p with rows := true, inPos := 32, holdReqs := [⟨5, 2, true, true, 0⟩], held := [⟨flit0, 0, .uncorrectable, [], 5, 2, true, none⟩] }), 0, mkSlot 0 0 [0, 16, 5, 0] [] false, ⟨0, true, flit0.info⟩, ⟨5, 2, true, true, 0⟩, by decide +kernel⟩,
   ⟨(((link 8).wr F.MGMT_STAT_LRUN 0 1).wr F.MGMT_VIEW_CTL_EN 1 1).modPort 0 (fun p => { p with rows := true, inPos := 32, police := 0 }), 0, 1, mkSlot 0 0 [96, 0, 0, 0] (mkReq 0 1) true, mkReq 0 1, by decide +kernel⟩,
   ⟨up.modPort 15 (fun p => { p with slotsOut := 11, errata := [⟨3, 4, 0, [], 8, 9, 10, 0⟩] }), 15, ⟨3, 4, 0, [], 8, 9, 10, 0⟩, by decide +kernel⟩,
   ⟨up.modPort 15 fun p => { p with slotsOut := 10, errata := [⟨3, 4, 0, [], 8, 9, 10, 0⟩] }, 15, by decide +kernel⟩,
   ⟨up, .normal, by decide +kernel⟩⟩

theorem wit_HeatUpdatesReachTheirBanks :
    (∃ (s : State) (n a : Nat) (c : CacheEnt), Quiet s ∧ n < 16 ∧ s.coreRuns = true ∧ (c.bank < 2 ∧ c.idx < (if c.zoom
      then 65536 else 262144) ∧ a = heatAddr c.zoom c.bank c.idx) ∧ (s.heat n).wbq = [c.key] ∧ (s.heat n).cache = [c] ∧
      (s.heat n).queue = [] ∧ s.sharedEntry c.zoom c.idx = false ∧ s.rd F.HEAT_PLFSR_STATE n < 65536) ∧
    (∃ (s : State) (n : Nat) (ecc : Ecc), Quiet s ∧ n < 16 ∧ ((s.heat n).wbq = [] ∨ s.coreRuns = false)) ∧
    (∃ (s : State), Quiet s ∧ s.coreRuns = true ∧ s.rd F.HEAT_STAT_OSTATE 0 = 0 ∧ s.flushed s.otherBank = true ∧ s.flag
      F.HEAT_STAT_REL_PEND 0 = false ∧ NoExport s ∧ (∀ p ∈ List.range 16, s.rd F.HEAT_PCFG_EXPORT p ≠ 1)) ∧
    (∃ (s : State) (p : Nat), Quiet s ∧ s.coreRuns = true ∧ s.rd F.HEAT_STAT_OSTATE 0 = 0 ∧ s.flushed s.otherBank = true
      ∧ s.flag F.HEAT_STAT_REL_PEND 0 = false ∧ NoExport s ∧ (p < 16 ∧ s.rd F.HEAT_PCTL_EN p = 1 ∧ s.associated p = true
      ∧ ∀ q ∈ List.range 16, (s.rd F.HEAT_PCFG_EXPORT q = 1 ↔ q = p))) ∧
    (∃ (s : State), Quiet s ∧ s.coreRuns = true ∧ s.rd F.HEAT_STAT_OSTATE 0 = 0 ∧ s.flushed s.otherBank = true ∧ s.flag
      F.HEAT_STAT_REL_PEND 0 = true ∧ s.rd F.HEAT_STAT_LIVE 0 < 2) ∧
    (∃ (s : State), Quiet s ∧ (s.coreRuns = false ∨ s.rd F.HEAT_STAT_OSTATE 0 ≠ 0 ∨ s.flushed s.otherBank = false)) ∧
    (∃ (s : State) (p : Nat), Quiet s ∧ p < 16 ∧ s.coreRuns = true ∧ s.rd F.HEAT_EXP_STAT_ACTIVE p = 1 ∧ (s.heat
      p).chunk = none ∧ ((s.chunkEntries p).all
      (fun e => match e with | some (z, i) => !s.sharedEntry z i | none => true) = true)) ∧
    (∃ (s : State) (p : Nat) (ue : List Nat), Quiet s ∧ p < 16 ∧ (s.coreRuns = false ∨ s.rd F.HEAT_EXP_STAT_ACTIVE p ≠ 1
      ∨ (s.heat p).chunk.isSome = true)) ∧
    (∃ (s : State) (r : Requester) (p v : Nat), CoreReady s r ∧ p < 16 ∧ v < 2 ^ 32) ∧
    (∃ (s : State) (r : Requester) (a v : Nat), CoreReady s r ∧ 0x200000 ≤ a ∧ a < 0x480000 ∧ a % 4 = 0 ∧ v < 2 ^ 32 ∧
      (∀ k ∈ List.range 16, s.rd F.HEAT_PCTL_EN k ≠ 1 ∧ s.rd F.HEAT_ZCTL_EN k ≠ 1)) ∧
    (∃ (s : State) (r : Requester) (a v : Nat), CoreReady s r ∧ 0x200000 ≤ a ∧ a < 0x480000 ∧ a % 4 = 0 ∧ v < 2 ^ 32 ∧
      (¬ ∀ k ∈ List.range 16, s.rd F.HEAT_PCTL_EN k ≠ 1 ∧ s.rd F.HEAT_ZCTL_EN k ≠ 1) ∧ s.werrAny = true) :=
  ⟨⟨heatS.modHeat 15 (fun h => { h with wbq := [(false, 1, 262143)], cache := [⟨false, 1, 262143, 5000, 3, true⟩] }), 15, 0x3FFFFC, ⟨false, 1, 262143, 5000, 3, true⟩, by decide +kernel⟩,
   ⟨up, 15, .ok, by decide +kernel⟩,
   ⟨heatS.wr F.HEAT_STAT_OSTATE 0 0, by decide +kernel⟩,
   ⟨(((heatS.wr F.HEAT_STAT_OSTATE 0 0).wr F.HEAT_PCTL_EN 15 1).wr F.HEAT_PCFG_EXPORT 15 1).wr F.CMP_PORT_STAT_SEG 15 2, 15, by decide +kernel⟩,
   ⟨(heatS.wr F.HEAT_STAT_OSTATE 0 0).wr F.HEAT_STAT_REL_PEND 0 1, by decide +kernel⟩,
   ⟨up.modHeat 15 fun h => { h with cache := [⟨false, 1, 0, 1, 1, false⟩] }, by decide +kernel⟩,
   ⟨(heatS.wr F.HEAT_EXP_STAT_ACTIVE 15 1).modHeat 15 (fun h => { h with exBank := 1, exFirst := 262143, exLen := 50 }), 15, by decide +kernel⟩,
   ⟨up, 15, [0], by decide +kernel⟩,
   ⟨up, .jtag, 15, 0xFFFF0000, by decide +kernel⟩,
   ⟨up, .normal, 0x47FFFC, 0xFFFFFFFF, by decide +kernel⟩,
   ⟨(up.wr F.HEAT_ZCTL_EN 15 1).wr F.GLB_WERR_CLK 0 1, .normal, 0x200000, 0xFFFFFFFF, by decide +kernel⟩⟩

theorem wit_BanksAndWindowsAreCleared :
    (∃ (s : State) (r : Requester), CoreReady s r ∧ s.rd F.HEAT_STAT_OSTATE 0 = 1 ∧ s.rd F.HEAT_STAT_LIVE 0 < 2 ∧
      NoExport s) ∧
    (∃ (s : State) (r : Requester), CoreReady s r ∧ s.rd F.HEAT_STAT_OSTATE 0 = 0) ∧
    (∃ (s : State) (r : Requester), CoreReady s r ∧ 2 ≤ s.rd F.HEAT_STAT_OSTATE 0) ∧
    (∃ (s : State), Quiet s ∧ s.flag F.HEAT_CFG_AUTO_REL 0 = true ∧ s.rd F.HEAT_STAT_OSTATE 0 = 1 ∧ s.rd
      F.HEAT_STAT_LIVE 0 < 2 ∧ NoExport s) ∧
    (∃ (s : State), Quiet s ∧ (s.flag F.HEAT_CFG_AUTO_REL 0 = false ∨ s.rd F.HEAT_STAT_OSTATE 0 ≠ 1)) ∧
    (∃ (s : State), Quiet s) ∧
    (∃ (s : State) (r : Requester) (p : Nat), CoreReady s r ∧ p < 16 ∧ (s.heat p).clr = none) ∧
    (∃ (s : State) (p b i n : Nat), Quiet s ∧ p < 16 ∧ b < 2 ∧ n ≤ 262144 ∧ i + n ≤ 262144 ∧ s.coreRuns = true ∧ (s.heat
      p).clr = some (b, i, n)) ∧
    (∃ (s : State) (p : Nat), Quiet s ∧ p < 16 ∧ (s.coreRuns = false ∨ (s.heat p).clr = none)) ∧
    (∃ (s : State) (r : Requester) (z : Nat), CoreReady s r ∧ z < 16 ∧ s.zclr.get z 0 = 0) ∧
    (∃ (s : State) (z b : Nat), Quiet s ∧ z < 16 ∧ b < 2 ∧ s.coreRuns = true ∧ s.zclr.get z 0 = b + 1) ∧
    (∃ (s : State) (z : Nat), Quiet s ∧ z < 16 ∧ (s.coreRuns = false ∨ s.zclr.get z 0 = 0)) ∧
    (∃ (s : State) (r : Requester), CoreReady s r) :=
  ⟨⟨heatS, .normal, by decide +kernel⟩,
   ⟨heatS.wr F.HEAT_STAT_OSTATE 0 0, .normal, by decide +kernel⟩,
   ⟨up, .normal, by decide +kernel⟩,
   ⟨heatS.wr F.HEAT_CFG_AUTO_REL 0 1, by decide +kernel⟩,
   ⟨up, by decide +kernel⟩,
   ⟨heatS.wr F.HEAT_STAT_OSTATE 0 2, by decide +kernel⟩,
   ⟨up, .normal, 15, by decide +kernel⟩,
   ⟨heatS.modHeat 15 (fun h => { h with clr := some (1, 0, 3) }), 15, 1, 0, 3, by decide +kernel⟩,
   ⟨up, 15, by decide +kernel⟩,
   ⟨up, .normal, 15, by decide +kernel⟩,
   ⟨(heatS.wrWord32 0x47FFFC 9).putZclr [(15, 2)], 15, 1, by decide +kernel⟩,
   ⟨up, 15, by decide +kernel⟩,
   ⟨up.wr F.HEAT_EXP_CNT_DONE 15 255, .normal, by decide +kernel⟩⟩

theorem wit_SourcesAndPllsStart :
    (∃ (s : State), Quiet s) ∧
    (∃ (s : State) (src : Nat), Quiet s ∧ src < 3) ∧
    (∃ (s : State) (q : Nat), Quiet s ∧ q < 8 ∧ s.pllMay s.outerSrc = true ∧ s.quadGated q = false) ∧
    (∃ (s : State) (q : Nat), Quiet s ∧ q < 8 ∧ s.pllMay s.innerSrc = true ∧ s.quadGated q = false) ∧
    (∃ (s : State), Quiet s ∧ s.pllMay 0 = true) ∧
    (∃ (s : State), Quiet s ∧ s.pllMay s.coreSrc = true ∧ s.rd F.CMP_CSB_CTL_EN 0 ≠ 1 ∧ 5 ≤ s.rd F.BOOT_STAT_STAGE 0) ∧
    (∃ (s : State), Quiet s ∧ s.rd F.BOOT_STAT_STAGE 0 < 5) ∧
    (∃ (s : State) (p : Pll), Quiet s ∧ (s.held = true ∨ ∃ k ∈ s.clk.lost, s.feeds k = true) ∧ p.wf = true) ∧
    (∃ (s : State), Quiet s ∧ 2 ∉ s.clk.lost ∧ s.outerSrc = 1 ∧ s.innerSrc = 2 ∧ s.coreSrc ≠ 2 ∧ (∀ n ∈ List.range 16,
      s.ltssm n = 0x1F ∨ s.ltssm n = 0x1D ∨ s.ltssm n = 0) ∧ (∀ ls ∈ List.range 66, (s.lane ls).tx = false)) ∧
    (∃ (s : State) (src : Nat), Quiet s ∧ src < 3 ∧ src ∈ s.clk.lost) :=
  ⟨⟨up.modClk fun c => { c with lost := [2, 0] }, by decide +kernel⟩,
   ⟨up.modClk fun c => { c with lost := [2, 0] }, 2, by decide +kernel⟩,
   ⟨(up.wr F.CLK_STAT_REFA_OK 0 1).wr F.PWR_DOM_STAT_QGATED 0 0, 7, by decide +kernel⟩,
   ⟨(up.wr F.CLK_STAT_REFA_OK 0 1).wr F.PWR_DOM_STAT_QGATED 0 0, 7, by decide +kernel⟩,
   ⟨up.wr F.CLK_STAT_XTAL_OK 0 1, by decide +kernel⟩,
   ⟨((State.reset.wr F.CLK_STAT_XTAL_OK 0 1).wr F.CMP_CSB_CTL_EN 0 0).wr F.BOOT_STAT_STAGE 0 5, by decide +kernel⟩,
   ⟨State.reset.wr F.BOOT_STAT_STAGE 0 4, by decide +kernel⟩,
   ⟨up.modClk fun c => { c with lost := [2, 0] }, .quadOuter 7, by decide +kernel⟩,
   ⟨(up.wr F.CLK_STAT_REFB_OK 0 1).wr F.CLK_SRC_IREF 0 1, by decide +kernel⟩,
   ⟨up.modClk fun c => { c with lost := [1, 2] }, 2, by decide +kernel⟩⟩

theorem wit_ClocksAreSelectedAndMeasured :
    (∃ (s : State) (r : Requester) (v : Bool), BusReady s r) ∧
    (∃ (s : State) (r : Requester) (v : Bool), BusReady s r) ∧
    (∃ (s : State) (r : Requester) (v : Nat), BusReady s r ∧ v < 4 ∧ s.clk.coreLocked = false) ∧
    (∃ (s : State) (r : Requester) (v : Nat), BusReady s r ∧ v < 4 ∧ s.rd F.CLK_SRC_CORE_REF 0 ≠ v ∧ s.clk.coreLocked =
      true ∧ s.werrAny = true) ∧
    (∃ (s : State) (r : Requester) (v : Bool), BusReady s r ∧ s.portsOff = true ∧ s.rd F.CLK_SRC_OREF 0 ≠ b2n v) ∧
    (∃ (s : State) (r : Requester) (v : Bool), BusReady s r ∧ s.portsOff = true ∧ s.rd F.CLK_SRC_IREF 0 ≠ b2n v) ∧
    (∃ (s : State) (r : Requester) (v : Bool), BusReady s r ∧ s.portsOff = false ∧ s.rd F.CLK_SRC_IREF 0 ≠ b2n v ∧
      s.werrAny = true) ∧
    (∃ (s : State) (r : Requester), BusReady s r ∧ s.rd F.CLK_FM_CTL_BUSY 0 ≠ 1) ∧
    (∃ (s : State) (r : Requester), BusReady s r ∧ s.rd F.CLK_FM_CTL_BUSY 0 = 1) ∧
    (∃ (s : State) (count : Nat), Quiet s ∧ s.rd F.CLK_FM_CTL_BUSY 0 = 1 ∧ s.fmRuns (s.rd F.CLK_FM_CTL_REF 0) = true ∧
      s.rd F.CLK_FM_CTL_REF 0 < 10 ∧ s.rd F.CLK_FM_CTL_TGT 0 < 10) ∧
    (∃ (s : State) (count : Nat), Quiet s ∧ s.rd F.CLK_FM_CTL_BUSY 0 = 1 ∧ s.fmRuns (s.rd F.CLK_FM_CTL_REF 0) = true ∧
      (10 ≤ s.rd F.CLK_FM_CTL_REF 0 ∨ 10 ≤ s.rd F.CLK_FM_CTL_TGT 0)) ∧
    (∃ (s : State) (count : Nat), Quiet s ∧ (s.rd F.CLK_FM_CTL_BUSY 0 ≠ 1 ∨ s.fmRuns (s.rd F.CLK_FM_CTL_REF 0) = false)) :=
  ⟨⟨up.wr F.CLK_STAT_XPLL_LOCK 0 1, .jtag, true, by decide +kernel⟩,
   ⟨up.wr F.CLK_STAT_MPLL_LOCK 0 1, .jtag, true, by decide +kernel⟩,
   ⟨State.reset, .secure, 3, by decide +kernel⟩,
   ⟨(up.modClk fun c => { c with coreLocked := true }).wr F.GLB_WERR_GLB 0 1, .secure, 3, by decide +kernel⟩,
   ⟨up.wr F.QUAD_STAT_PLL_O_LOCK 7 1, .normal, true, by decide +kernel⟩,
   ⟨up.wr F.QUAD_STAT_PLL_I_LOCK 7 1, .normal, true, by decide +kernel⟩,
   ⟨((link 8).wr F.PORT_CTL_EN 0 1).wr F.GLB_WERR_GLB 0 1, .normal, true, by decide +kernel⟩,
   ⟨up, .normal, by decide +kernel⟩,
   ⟨up.wr F.CLK_FM_CTL_BUSY 0 1, .normal, by decide +kernel⟩,
   ⟨(up.wr F.CLK_FM_CTL_BUSY 0 1).wr F.CLK_FM_CTL_REF 0 0, 0x100000000, by decide +kernel⟩,
   ⟨((up.wr F.CLK_FM_CTL_BUSY 0 1).wr F.CLK_FM_CTL_REF 0 0).wr F.CLK_FM_CTL_TGT 0 10, 77, by decide +kernel⟩,
   ⟨up, 5, by decide +kernel⟩⟩

theorem wit_TheDripCounterIsAligned :
    (∃ (s : State) (r : Requester), BusReady s r) ∧
    (∃ (s : State) (ns e : Int), Quiet s ∧ 0 ≤ ns ∧ ns < 2000 ∧ s.coreRuns = true ∧ s.rd F.CLK_TSYNC_CFG_MODE 0 = 1 ∧
      s.edgeTooSoon ns = false ∧ s.rd F.CLK_TSYNC_STAT_LOAD_PEND 0 ≠ 1 ∧ e = s.edgeError (nearestMultiple s.period
      s.drip) (ns - s.rd F.CLK_TSYNC_CFG_DELAY 0) ∧ e.natAbs ≤ 4 ∧ e.natAbs ≤ s.rd F.CLK_TSYNC_CFG_SLEW_MAX 0 ∧ 1 ≤
      s.clk.good) ∧
    (∃ (s : State) (ns : Int), Quiet s ∧ 0 ≤ ns ∧ ns < 2000 ∧ s.rd F.CLK_TSYNC_CFG_MODE 0 ≠ 1) ∧
    (∃ (s : State) (a : Int), Quiet s ∧ s.coreRuns = true ∧ s.rd F.CLK_TSYNC_CFG_MODE 0 = 1 ∧ s.clk.edgeAgo = some a ∧
      3000 * (s.period : Int) < 2 * (a + 1000)) ∧
    (∃ (s : State), Quiet s ∧ s.clk.edgeAgo = none) ∧
    (∃ (s : State) (d hb tally flags : Nat), Quiet s ∧ d < 2 ^ 48 ∧ hb < 2 ^ 16 ∧ tally < 2 ^ 32 ∧ flags < 256 ∧ bit
      flags 1 = true ∧ s.csbUp = true ∧ s.coreRuns = true ∧ s.rd F.CLK_TSYNC_CFG_BCN_EN 0 = 1 ∧ s.rd
      F.CLK_TSYNC_CFG_MODE 0 ≠ 1 ∧ (s.drip + 2 ^ 48 - d) % 2 ^ 48 ≤ 3 ∧ 1 ≤ s.clk.beaconGood) ∧
    (∃ (s : State) (d hb tally flags : Nat), Quiet s ∧ d < 2 ^ 48 ∧ hb < 2 ^ 16 ∧ tally < 2 ^ 32 ∧ flags < 256 ∧ bit
      flags 1 = true ∧ s.csbUp = true ∧ s.coreRuns = true ∧ s.rd F.CLK_TSYNC_CFG_BCN_EN 0 = 1 ∧ s.rd
      F.CLK_TSYNC_CFG_MODE 0 ≠ 1 ∧ 3 < (s.drip + 2 ^ 48 - d) % 2 ^ 48) ∧
    (∃ (s : State) (d hb tally flags : Nat), Quiet s ∧ d < 2 ^ 48 ∧ hb < 2 ^ 16 ∧ tally < 2 ^ 32 ∧ flags < 256 ∧
      (s.csbUp = false ∨ s.rd F.CLK_TSYNC_CFG_BCN_EN 0 ≠ 1 ∨ bit flags 1 = false)) ∧
    (∃ (s : State) (cycles : Nat), Quiet s ∧ s.rd F.CLK_STAT_CORE_HELD 0 = 1 ∧ s.rd F.CLK_STAT_CPLL_LOCK 0 = 1 ∧
      s.clk.lost = [] ∧ s.rd F.CMP_CSB_CTL_EN 0 ≠ 1) ∧
    (∃ (s : State) (r : Requester), BusReady s r) :=
  ⟨⟨up, .normal, by decide +kernel⟩,
   ⟨((up.wr F.CLK_TSYNC_CFG_MODE 0 1).wr F.CLK_TSYNC_CFG_SLEW_MAX 0 4).modClk fun c => { c with good := 1 }, 4, 4, by decide +kernel⟩,
   ⟨up, 1999, by decide +kernel⟩,
   ⟨(up.wr F.CLK_TSYNC_CFG_MODE 0 1).modClk fun c => { c with edgeAgo := some 5000000, missed := 1 }, 5000000, by decide +kernel⟩,
   ⟨up, by decide +kernel⟩,
   ⟨((up.wr F.CMP_CSB_STAT_STATE 0 3).wr F.CLK_TSYNC_CFG_BCN_EN 0 1).modClk fun c => { c with beaconGood := 1 }, 0xFFFFFFFFFFFD, 0, 0, 2, by decide +kernel⟩,
   ⟨(up.wr F.CMP_CSB_STAT_STATE 0 3).wr F.CLK_TSYNC_CFG_BCN_EN 0 1, 0xFFFFFFFFFFFC, 0, 0, 2, by decide +kernel⟩,
   ⟨up, 0xFFFFFFFFFFFF, 0, 0, 2, by decide +kernel⟩,
   ⟨((up.wr F.CLK_STAT_CORE_HELD 0 1).wr F.CMP_CSB_CTL_EN 0 0).setDrip 0xFFFFFFFFFFFF, 400, by decide +kernel⟩,
   ⟨up, .normal, by decide +kernel⟩⟩

theorem wit_ScheduleSlotsAreArmedAndCancelled :
    (∃ (s : State) (r : Requester) (k : Nat), BusReady s r ∧ k < 8 ∧ s.rd F.CLK_SCHED_STAT_STATE k ≠ 1 ∧ 1 ≤ s.rd
      F.CLK_SCHED_CTL_ACTION k ∧ s.rd F.CLK_SCHED_CTL_ACTION k ≤ 6) ∧
    (∃ (s : State) (r : Requester) (k : Nat), BusReady s r ∧ k < 8 ∧ s.rd F.CLK_SCHED_STAT_STATE k ≠ 1 ∧ s.rd
      F.CLK_SCHED_CTL_ACTION k = 0 ∧ s.werrAny = true) ∧
    (∃ (s : State) (r : Requester) (k : Nat), BusReady s r ∧ k < 8 ∧ s.rd F.CLK_SCHED_STAT_STATE k = 1) ∧
    (∃ (s : State) (r : Requester) (k : Nat), BusReady s r ∧ k < 8 ∧ s.rd F.CLK_SCHED_STAT_STATE k = 1) ∧
    (∃ (s : State) (r : Requester) (k : Nat), BusReady s r ∧ k < 8 ∧ s.rd F.CLK_SCHED_STAT_STATE k ≠ 1) :=
  ⟨⟨up.wr F.CLK_SCHED_CTL_ACTION 7 6, .normal, 7, by decide +kernel⟩,
   ⟨up.wr F.GLB_WERR_GLB 0 1, .normal, 7, by decide +kernel⟩,
   ⟨up.wr F.CLK_SCHED_STAT_STATE 7 1, .normal, 7, by decide +kernel⟩,
   ⟨up.wr F.CLK_SCHED_STAT_STATE 7 1, .normal, 7, by decide +kernel⟩,
   ⟨up, .normal, 7, by decide +kernel⟩⟩

theorem wit_BoundariesMoveTheClockAndMirrorsFollow :
    (∃ (s : State) (d : DripIn), Quiet s ∧ d.wf = true ∧ s.coreRuns = false) ∧
    (∃ (s : State) (d : DripIn), CalmDrip s d ∧ NoSlot s ∧ s.rd F.HEAT_EPOCH_CFG_LEN 0 = 0 ∧ s.rd F.HEAT_STAT_SWAP_PEND
      0 ≠ 1) ∧
    (∃ (s : State) (d : DripIn) (old : Nat), CalmDrip s d ∧ NoSlot s ∧ s.rd F.HEAT_EPOCH_CFG_LEN 0 = s.rd
      F.HEAT_EPOCH_AGE_DRIPS 0 + 1 ∧ s.rd F.HEAT_STAT_OSTATE 0 = 3 ∧ old = s.rd F.HEAT_STAT_LIVE 0 ∧ old < 2 ∧ s.rd
      F.HEAT_EPOCH_CFG_LEN 0 < 2 ^ 32) ∧
    (∃ (s : State) (d : DripIn) (k q : Nat), CalmDrip s d ∧ k < 8 ∧ q < 8 ∧ s.rd F.CLK_SCHED_STAT_STATE k = 1 ∧ s.rd
      F.CLK_SCHED_CTL_ACTION k = 3 ∧ s.rd F.CLK_SCHED_CTL_ARG k = 2 ^ q ∧ s.slotTarget k = (s.drip + 1) % 2 ^ 48 ∧
      s.clk.late = [] ∧ (∀ j ∈ List.range 8, j ≠ k → s.rd F.CLK_SCHED_STAT_STATE j ≠ 1) ∧ s.rd F.HEAT_EPOCH_CFG_LEN 0 =
      0 ∧ s.rd F.HEAT_STAT_SWAP_PEND 0 ≠ 1 ∧ s.rd F.PHR_STAT_ACT q = 0 ∧ s.rd F.PHR_STAT_VALID_B q = 1) ∧
    (∃ (s : State) (q : Nat), Quiet s ∧ q < 8 ∧ s.coreRuns = true ∧ s.quadGated q = false) ∧
    (∃ (s : State) (q : Nat), Quiet s ∧ q < 8 ∧ (s.coreRuns = false ∨ s.quadGated q = true)) ∧
    (∃ (s : State), Quiet s ∧ s.coreRuns = true) ∧
    (∃ (s : State) (u : MirrorUnit), Quiet s ∧ u.wf = true ∧ s.coreRuns = false) :=
  ⟨⟨State.reset, calm, by decide +kernel⟩,
   ⟨dripS, calm, by decide +kernel⟩,
   ⟨(dripS.wr F.HEAT_EPOCH_CFG_LEN 0 8).wr F.HEAT_EPOCH_AGE_DRIPS 0 7, calm, 0, by decide +kernel⟩,
   ⟨(((((dripS.wr F.CLK_SCHED_STAT_STATE 7 1).wr F.CLK_SCHED_CTL_ACTION 7 3).wr F.CLK_SCHED_CTL_ARG 7 128).wr F.CLK_SCHED_TGT_LO_TGT_LO 7 0).wr F.CLK_SCHED_TGT_HI_TGT_HI 7 1).wr F.PHR_STAT_VALID_B 7 1, calm, 7, 7, by decide +kernel⟩,
   ⟨up.wr F.PWR_DOM_STAT_QGATED 0 0x7F, 7, by decide +kernel⟩,
   ⟨up.wr F.PWR_DOM_STAT_QGATED 0 0x80, 7, by decide +kernel⟩,
   ⟨up.modPort 15 fun p => { p with tok3 := 64 }, by decide +kernel⟩,
   ⟨State.reset, .core, by decide +kernel⟩⟩

theorem wit_VoltagesAndTemperaturesAreFollowed :
    (∃ (s : State) (mv : Nat), Quiet s ∧ mv < 1024 ∧ s.avsRuns = true ∧ s.rd F.PWR_THERM_STAT_HIGH_NOW 0 ≠ 1) ∧
    (∃ (s : State) (mv : Nat), Quiet s ∧ mv < 1024 ∧ s.avsRuns = true ∧ s.rd F.PWR_THERM_STAT_HIGH_NOW 0 = 1) ∧
    (∃ (s : State) (mv : Nat), Quiet s ∧ mv < 1024 ∧ s.avsRuns = false) ∧
    (∃ (s : State) (v : Nat), Quiet s ∧ s.avsRuns = true ∧ s.rd F.PWR_AVS_STAT_TARGET 0 ≠ 0 ∧ v = avsStep s.avsNow (s.rd
      F.PWR_AVS_STAT_TARGET 0) ∧ v < 1024) ∧
    (∃ (s : State), Quiet s ∧ (s.avsRuns = false ∨ s.rd F.PWR_AVS_STAT_TARGET 0 = 0)) ∧
    (∃ (s : State) (v : Nat), Quiet s ∧ s.avsRuns = true ∧ s.rd F.PWR_AVS_STAT_CMD 0 ≠ 0 ∧ v = avsClamp (s.rd
      F.PWR_AVS_CFG_SAFE 0) / 5 * 5) ∧
    (∃ (s : State) (k : Nat), Quiet s ∧ k < 10 ∧ s.causes.contains (7, k) = false) ∧
    (∃ (s : State) (k : Nat), Quiet s ∧ k < 10 ∧ s.causes = [(7, k)]) ∧
    (∃ (s : State) (temps : List Int) (m : Int) (hot : Nat), Quiet s ∧ (temps.length = 10 ∧ ∀ t ∈ temps, -1024 ≤ t ∧ t <
      1024) ∧ (m, hot) = hottest (temps.drop 1) 1 (temps.headD 0, 0) ∧ m < thermLimit (s.rd F.PWR_THERM_CFG_WARN 0) - 4
      * (max (s.rd F.PWR_THERM_CFG_HYST 0) 1 : Nat) ∧ m < thermLimit (s.rd F.PWR_THERM_CFG_HIGH 0) - 4 * (max (s.rd
      F.PWR_THERM_CFG_HYST 0) 1 : Nat)) ∧
    (∃ (s : State) (temps : List Int) (m : Int) (hot : Nat), Quiet s ∧ (temps.length = 10 ∧ ∀ t ∈ temps, -1024 ≤ t ∧ t <
      1024) ∧ (m, hot) = hottest (temps.drop 1) 1 (temps.headD 0, 0) ∧ thermLimit (s.rd F.PWR_THERM_CFG_WARN 0) ≤ m ∧
      s.rd F.PWR_THERM_STAT_WARN_NOW 0 ≠ 1 ∧ m < thermLimit (s.rd F.PWR_THERM_CFG_HIGH 0) - 4 * (max (s.rd
      F.PWR_THERM_CFG_HYST 0) 1 : Nat) ∧ s.causes.contains (4, hot) = false) ∧
    (∃ (s : State), Quiet s ∧ s.causes.contains (2, 0) = false) ∧
    (∃ (s : State), Quiet s ∧ ofTwos11 (s.rd F.PWR_THERM_STAT_TMAX 0) < 580) ∧
    (∃ (s : State), Quiet s ∧ 580 ≤ ofTwos11 (s.rd F.PWR_THERM_STAT_TMAX 0)) :=
  ⟨⟨up.wr F.PWR_AVS_CFG_EN 0 1, 1023, by decide +kernel⟩,
   ⟨(up.wr F.PWR_AVS_CFG_EN 0 1).wr F.PWR_THERM_STAT_HIGH_NOW 0 1, 700, by decide +kernel⟩,
   ⟨up.wr F.PWR_AVS_CFG_EN 0 0, 700, by decide +kernel⟩,
   ⟨(up.wr F.PWR_AVS_CFG_EN 0 1).wr F.PWR_AVS_STAT_TARGET 0 850, 810, by decide +kernel⟩,
   ⟨up, by decide +kernel⟩,
   ⟨((up.wr F.PWR_AVS_CFG_EN 0 1).wr F.PWR_AVS_STAT_CMD 0 700).wr F.PWR_AVS_CFG_SAFE 0 849, 845, by decide +kernel⟩,
   ⟨up, 9, by decide +kernel⟩,
   ⟨up.putCauses [(7, 9)], 9, by decide +kernel⟩,
   ⟨up, [-1024, 0, 1, 2, 3, 4, 5, 6, 7, 200], 200, 9, by decide +kernel⟩,
   ⟨(up.wr F.PWR_THERM_CFG_WARN 0 100).wr F.PWR_THERM_CFG_HIGH 0 150, [-1024, 0, 1, 2, 3, 4, 5, 6, 7, 400], 400, 9, by decide +kernel⟩,
   ⟨up.putAliveRun true, by decide +kernel⟩,
   ⟨(up.wr F.PWR_THERM_STAT_TRIP_NOW 0 1).putCauses [(2, 0), (4, 3)], by decide +kernel⟩,
   ⟨up.wr F.PWR_THERM_STAT_TMAX 0 580, by decide +kernel⟩⟩

theorem wit_WidthMapsAndGating :
    (∃ (s : State) (r : Requester) (val : Nat), BusReady s r ∧ val < 2 ^ 32 ∧ (∀ n ∈ List.range 16, s.rd F.PORT_CTL_EN n
      ≠ 1) ∧ legalMap (fun q => bits val (3 * q) 3) = true ∧ (∀ q ∈ List.range 8, bits val (3 * q) 3 ≠ 0 ∨ s.qcode q =
      0) ∧ s.spareState 0 = 0 ∧ s.spareState 1 = 0) ∧
    (∃ (s : State) (r : Requester) (val : Nat), BusReady s r ∧ val < 2 ^ 32 ∧ (∀ n ∈ List.range 16, s.rd F.PORT_CTL_EN n
      ≠ 1) ∧ legalMap (fun q => bits val (3 * q) 3) = false) ∧
    (∃ (s : State) (r : Requester) (val : Nat), BusReady s r ∧ val < 2 ^ 32 ∧ legalMap (fun q => bits val (3 * q) 3) =
      true ∧ (∀ q ∈ List.range 8, bits val (3 * q) 3 = s.qcode q ∨ (s.quadPorts q).any (fun n => s.flag F.PORT_CTL_EN n)
      = true) ∧ (∃ q ∈ List.range 8, bits val (3 * q) 3 ≠ s.qcode q) ∧ s.werrAny = true ∧ s.spareState 0 ≠ 1 ∧
      s.spareState 1 ≠ 1) ∧
    (∃ (s : State) (q : Nat), Quiet s ∧ q < 8 ∧ s.qcode q ≠ 0 ∧ s.quadGated q = true ∧ s.avsReached = true ∧ s.rd
      F.BOOT_STAT_STAGE 0 ≠ 9 ∧ (∀ p ∈ (s.cal q).after, s.quadGated p = false ∨ s.qcode p = 0) ∧ (∀ n ∈ s.quadPorts q,
      s.rd F.PORT_CTL_EN n ≠ 1) ∧ (∀ ls ∈ quadLs q, s.rd F.LANE_PRBS_CTL_GEN_EN ls ≠ 1 ∧ s.rd F.LANE_ECHO_CTL_MODE ls =
      0 ∧ (s.lane ls).tx = false) ∧ s.rd F.PWR_DOM_STAT_QGATED 0 < 256) ∧
    (∃ (s : State) (q : Nat), Quiet s ∧ q < 8 ∧ (s.qcode q = 0 ∨ s.quadGated q = false ∨ s.avsReached = false ∨ ∃ p ∈
      (s.cal q).after, s.quadGated p = true ∧ s.qcode p ≠ 0)) :=
  ⟨⟨up, .secure, 0xDB6249, by decide +kernel⟩,
   ⟨up, .secure, 7, by decide +kernel⟩,
   ⟨((link 8).wr F.PORT_CTL_EN 0 1).wr F.GLB_WERR_CLK 0 1, .normal, 2, by decide +kernel⟩,
   ⟨(link 0x1F).modCal 0 fun c => { c with after := [7] }, 0, by decide +kernel⟩,
   ⟨up, 7, by decide +kernel⟩⟩

theorem wit_CalibrationRunsAreAskedForAndEnd :
    (∃ (s : State) (r : Requester) (q : Nat), BusReady s r ∧ q < 8 ∧ s.quadGated q = false ∧ s.rd F.PWR_CAL_STAT_STATE q
      = 0) ∧
    (∃ (s : State) (r : Requester) (q : Nat), BusReady s r ∧ q < 8 ∧ s.quadGated q = false ∧ s.rd F.PWR_CAL_STAT_STATE q
      ≠ 0) ∧
    (∃ (s : State) (r : Requester) (mask : Nat), BusReady s r ∧ mask < 256 ∧ (∀ q ∈ List.range 8, bit mask q = true →
      s.quadGated q = true)) ∧
    (∃ (s : State) (q : Nat), Quiet s ∧ q < 8 ∧ s.rd F.PWR_CAL_STAT_STATE q ≠ 0 ∧ s.calDone q = true) ∧
    (∃ (s : State) (q : Nat), Quiet s ∧ q < 8 ∧ (s.rd F.PWR_CAL_STAT_STATE q = 0 ∨ s.calDone q = false)) ∧
    (∃ (s : State) (ls : Nat), Quiet s ∧ ls < 66) ∧
    (∃ (s : State) (r : Requester), BusReady s r) :=
  ⟨⟨up.wr F.PWR_DOM_STAT_QGATED 0 0, .normal, 7, by decide +kernel⟩,
   ⟨(up.wr F.PWR_DOM_STAT_QGATED 0 0).wr F.PWR_CAL_STAT_STATE 7 2, .normal, 7, by decide +kernel⟩,
   ⟨up, .normal, 255, by decide +kernel⟩,
   ⟨(up.wr F.PWR_CAL_STAT_STATE 7 1).modCal 7 fun c => { c with drips := 9 }, 7, by decide +kernel⟩,
   ⟨up, 7, by decide +kernel⟩,
   ⟨up, 65, by decide +kernel⟩,
   ⟨up, .normal, by decide +kernel⟩⟩

theorem wit_SecureGatingIsDeferredWhileHeld :
    (∃ (s : State) (g : Bool), Quiet s ∧ s.rd F.MGMT_SEC_STAT_SEC_HOLD 0 ≠ 1) ∧
    (∃ (s : State) (g : Bool), Quiet s ∧ s.rd F.MGMT_SEC_STAT_SEC_HOLD 0 = 1) ∧
    (∃ (s : State), Quiet s ∧ s.secDefer = none) ∧
    (∃ (s : State) (g : Bool), Quiet s ∧ s.secDefer = some g) :=
  ⟨⟨up, true, by decide +kernel⟩,
   ⟨up.wr F.MGMT_SEC_STAT_SEC_HOLD 0 1, true, by decide +kernel⟩,
   ⟨up.wr F.MGMT_SEC_STAT_SEC_HOLD 0 1, by decide +kernel⟩,
   ⟨(up.wr F.MGMT_SEC_STAT_SEC_HOLD 0 1).putSecDefer (some true), true, by decide +kernel⟩⟩

theorem wit_RequestsEnterTheirViews :
    (∃ (s : State) (h : CsbHdr) (v : Nat) (e : List Nat), s.raised = [] ∧ h.vc = 1 ∧ h.seq < 256 ∧ h.ack < 256 ∧ s.csbUp
      = true ∧ h.seq = s.csb.rx1 ∧ s.csb.un1 = [] ∧ (v < 17 ∧ e.length = 128 ∧ bytesWf e = true ∧ (v = 0 ∨ s.present (v
      - 1) = true)) ∧ Admits s v e ∧ s.mayReach v 3 = true ∧ bit (s.viewPol v) 16 = false ∧ s.seqMark v e = .ok) ∧
    (∃ (s : State) (h : CsbHdr) (v : Nat) (e : List Nat), s.raised = [] ∧ h.vc = 1 ∧ h.seq < 256 ∧ h.ack < 256 ∧ s.csbUp
      = true ∧ h.seq = s.csb.rx1 ∧ s.csb.un1 = [] ∧ (v < 17 ∧ e.length = 128 ∧ bytesWf e = true ∧ (v = 0 ∨ s.present (v
      - 1) = true)) ∧ s.mayReach v 3 = true ∧ s.flag F.MGMT_VIEW_CTL_EN v = true ∧ entryCrcOk e = false) ∧
    (∃ (s : State) (eid tag v : Nat) (e : List Nat), s.raised = [] ∧ eid < 256 ∧ tag < 8 ∧ s.i3c = true ∧ (v < 17 ∧
      e.length = 128 ∧ bytesWf e = true ∧ (v = 0 ∨ s.present (v - 1) = true)) ∧ Admits s v e ∧ s.mayReach v 1 = true ∧
      bit (s.viewPol v) 16 = false ∧ s.seqMark v e = .ok) ∧
    (∃ (s : State) (eid tag v : Nat) (e : List Nat), s.raised = [] ∧ eid < 256 ∧ tag < 8 ∧ v < 256 ∧ e.length = 128 ∧
      bytesWf e = true ∧ s.i3c = false) ∧
    (∃ (s : State) (eid tag v : Nat) (e : List Nat), s.raised = [] ∧ eid < 256 ∧ tag < 8 ∧ v < 256 ∧ e.length = 128 ∧
      bytesWf e = true ∧ s.smbus = true ∧ 16 < v) ∧
    (∃ (s : State) (eid tag v : Nat) (e : List Nat), s.raised = [] ∧ eid < 256 ∧ tag < 8 ∧ v < 17 ∧ e.length = 128 ∧
      bytesWf e = true ∧ s.smbus = true ∧ 0 < v ∧ s.present (v - 1) = false) :=
  ⟨⟨(((link 8).wr F.MGMT_STAT_LRUN 0 1).wr F.CMP_CSB_STAT_STATE 0 3).wr F.MGMT_ACL_CSB_VIEWS 0 0x1FFFF, ⟨1, 0, 9⟩, 0, mkR 0 1 0 0 [], by decide +kernel⟩,
   ⟨(((link 8).wr F.MGMT_STAT_LRUN 0 1).wr F.CMP_CSB_STAT_STATE 0 3).wr F.MGMT_ACL_CSB_VIEWS 0 0x1FFFF, ⟨1, 0, 9⟩, 0, List.replicate 128 255, by decide +kernel⟩,
   ⟨(((link 8).wr F.MGMT_STAT_LRUN 0 1).wr F.MGMT_STAT_BUS_MODE 0 1).wr F.MGMT_ACL_MCTP_VIEWS 0 0x1FFFF, 255, 7, 0, mkR 0 1 0 0 [], by decide +kernel⟩,
   ⟨smbS, 255, 7, 255, List.replicate 128 255, by decide +kernel⟩,
   ⟨smbS, 255, 7, 255, List.replicate 128 255, by decide +kernel⟩,
   ⟨smbS, 255, 7, 16, List.replicate 128 255, by decide +kernel⟩⟩

theorem wit_RequestsAreServed :
    (∃ (s : State) (v : Nat) (e : List Nat), Passes s v 1 e) ∧
    (∃ (s : State) (v ns : Nat) (e : List Nat), Passes s v 2 e ∧ ns < 1000 ∧ (entryWords e).all plainAddr = true) ∧
    (∃ (s : State) (n : Nat) (e : List Nat), Passes s 0 3 e ∧ n < 16 ∧ s.coreRuns = true ∧ s.portEn n = false ∧
      entryAddr e = 0x10028 + 0x1000 * n ∧ entryCount e = 1 ∧ leAt (entryPayload e) 8 4 < 256) ∧
    (∃ (s : State) (n : Nat) (e : List Nat), Passes s 0 3 e ∧ n < 16 ∧ s.coreRuns = true ∧ s.portEn n = true ∧ s.werrAny
      = true ∧ s.rd F.PORT_TMO_CFG_PRSNT_DB n ≠ 0 ∧ entryAddr e = 0x10028 + 0x1000 * n ∧ entryCount e = 1 ∧ leAt
      (entryPayload e) 8 4 < 256) ∧
    (∃ (s : State) (n old ns : Nat) (e : List Nat), Passes s 0 4 e ∧ ns < 1000 ∧ n < 16 ∧ s.coreRuns = true ∧ s.portEn n
      = false ∧ entryAddr e = 0x10028 + 0x1000 * n ∧ leAt (entryPayload e) 4 4 = 0xFF ∧ leAt (entryPayload e) 8 4 < 256
      ∧ old = s.rd F.PORT_TMO_CFG_FWD_TMO n + 65536 * s.rd F.PORT_TMO_CFG_PRSNT_DB n ∧ s.rd F.PORT_TMO_CFG_FWD_TMO n <
      256 ∧ s.rd F.PORT_TMO_CFG_PRSNT_DB n < 256) ∧
    (∃ (s : State) (v k : Nat) (e : List Nat), Passes s v 5 e ∧ s.kept v (s.rd F.MGMT_VIEW_PTR_REQ_RD v) = (k, s)) ∧
    (∃ (s : State) (v : Nat) (e : List Nat), Passes s v 5 e ∧ (∀ g ∈ (s.view v).gaps, g.1 ≠ s.rd F.MGMT_VIEW_PTR_REQ_RD
      v)) ∧
    (∃ (s : State) (v p : Nat) (e : List Nat), Passes s v 6 e ∧ p = reqPort v e ∧ p < 16 ∧ s.coreRuns = true) ∧
    (∃ (s : State) (v p first n b : Nat) (live : Bool) (e : List Nat), Passes s v 7 e ∧ p = reqPort v e ∧ p < 16 ∧
      s.coreRuns = true ∧ first = leAt (entryPayload e) 4 4 ∧ n = byteAt (entryPayload e) 8 ∧ first + n ≤ s.partLen p ∧
      (byteAt (entryPayload e) 1 = b2n live ∧ b = (if live then s.liveBank else s.otherBank) ∧ s.liveBank < 2) ∧ (∀ k ∈
      List.range n, s.sharedEntry false ((s.rd F.HEAT_PRANGE_FIRST p + first + k) % 262144) = false)) ∧
    (∃ (s : State) (v z first n b : Nat) (live : Bool) (e : List Nat), Passes s v 8 e ∧ z = byteAt (entryPayload e) 0 ∧
      z < 16 ∧ s.coreRuns = true ∧ first = leAt (entryPayload e) 4 2 ∧ n = byteAt (entryPayload e) 8 ∧ first + n ≤ 4096
      ∧ (byteAt (entryPayload e) 1 = b2n live ∧ b = (if live then s.liveBank else s.otherBank) ∧ s.liveBank < 2)) ∧
    (∃ (s : State) (v p i part a : Nat) (e : List Nat), Passes s v 9 e ∧ p = reqPort v e ∧ p < 16 ∧ s.coreRuns = true ∧
      i = leAt (entryPayload e) 2 2 ∧ part = byteAt (entryPayload e) 4 ∧ part ≤ 2 ∧ i < s.capTotal p ∧ s.rd
      F.PORT_CAP_CFG_SEG_BASE p + i / 910 < 8 ∧ a = 0x500000 + (s.rd F.PORT_CAP_CFG_SEG_BASE p + i / 910) * 0x40000 + i
      % 910 * 288 + 112 * part) ∧
    (∃ (s : State) (v ns : Nat) (e : List Nat), Waits s v 2 e ∧ lenOk e = false ∧ ns < 1000) ∧
    (∃ (s : State) (v : Nat) (e : List Nat), Waits s v 3 e ∧ lenOk e = true ∧ v ≠ 0) ∧
    (∃ (s : State) (v : Nat) (e : List Nat), Waits s v 6 e ∧ lenOk e = true ∧ v ≠ 0 ∧ s.rd F.PORT_STAT_RSTDONE (v - 1) =
      0) ∧
    (∃ (s : State) (v k : Nat) (e : List Nat), s.raised = [] ∧ v < 17 ∧ s.mayServe v = true ∧ s.turns v ≠ [] ∧ e =
      s.rdBytes (reqAddr v (s.rd F.MGMT_VIEW_PTR_REQ_RD v)) 128 ∧ bit (entryFlags e) 4 = true ∧ byteAt e 120 = 3 ∧
      s.csbUp = false ∧ (s.view v).handed = s.rd F.MGMT_VIEW_PTR_RSP_WR v ∧ s.rd F.MGMT_VIEW_PTR_RSP_WR v < 128 ∧ s.kept
      v (s.rd F.MGMT_VIEW_PTR_REQ_RD v) = (k, s)) ∧
    (∃ (s : State) (v : Nat) (c : Instr), Quiet s ∧ (v < 17 ∧ (s.mayServe v = false ∨ s.turns v = [])) ∧ (c = .getInfo v
      ∨ c = .read v [] 0 ∨ c = .write v ∨ c = .rmw v false 0 ∨ c = .resync v ∨ c = .portSummary v ∨ c = .heatRead v [] ∨
      c = .zoomRead v [] ∨ c = .capRead v [])) ∧
    (∃ (s : State) (ns a : Nat) (e : List Nat), Passes s 0 4 e ∧ ns < 1000 ∧ s.coreRuns = true ∧ a = entryAddr e ∧
      windowAt a = some .phrase) :=
  ⟨⟨ask 1 (mkR 0xFFFF 1 0 0 []), 1, mkR 0xFFFF 1 0 0 [], by decide +kernel⟩,
   ⟨ask 1 (mkR 7 2 0 5 (leBytes 0x20 4 ++ [2])), 1, 999, mkR 7 2 0 5 (leBytes 0x20 4 ++ [2]), by decide +kernel⟩,
   ⟨ask 0 (mkR 7 3 0 12 (leBytes 0x1F028 4 ++ [1, 0, 0, 0, 255])), 15, mkR 7 3 0 12 (leBytes 0x1F028 4 ++ [1, 0, 0, 0, 255]), by decide +kernel⟩,
   ⟨((ask 0 (mkR 7 3 0 12 (leBytes 0x10028 4 ++ [1, 0, 0, 0, 255]))).wr F.PORT_CTL_EN 0 1).wr F.GLB_WERR_GLB 0 1, 0, mkR 7 3 0 12 (leBytes 0x10028 4 ++ [1, 0, 0, 0, 255]), by decide +kernel⟩,
   ⟨ask 0 (mkR 7 4 0 12 (leBytes 0x1F028 4 ++ leBytes 0xFF 4 ++ [255])), 15, 1310768, 999, mkR 7 4 0 12 (leBytes 0x1F028 4 ++ leBytes 0xFF 4 ++ [255]), by decide +kernel⟩,
   ⟨(ask 1 (mkR 7 5 0 0 [])).modView 1 (fun w => { w with gaps := [(0, 0x3000FF)] }), 1, 0x3000FF, mkR 7 5 0 0 [], by decide +kernel⟩,
   ⟨ask 1 (mkR 7 5 0 0 []), 1, mkR 7 5 0 0 [], by decide +kernel⟩,
   ⟨ask 1 (mkR 7 6 0 1 []), 1, 0, mkR 7 6 0 1 [], by decide +kernel⟩,
   ⟨(ask 1 (mkR 7 7 0 9 ([0, 0, 0, 0] ++ leBytes 2 4 ++ [26]))).wrWord32 0x300008 0xFFFFFFFF, 1, 0, 2, 26, 1, false, mkR 7 7 0 9 ([0, 0, 0, 0] ++ leBytes 2 4 ++ [26]), by decide +kernel⟩,
   ⟨(ask 0 (mkR 7 8 0 9 ([15, 1, 0, 0] ++ leBytes 4070 4 ++ [26]))).wrWord32 0x43FFFC 0xFFFFFFFF, 0, 15, 4070, 26, 0, true, mkR 7 8 0 9 ([15, 1, 0, 0] ++ leBytes 4070 4 ++ [26]), by decide +kernel⟩,
   ⟨(ask 1 (mkR 7 9 0 5 [0, 0, 1, 0, 2])).wrWord32 0x500200 0xFFFFFFFF, 1, 0, 1, 2, 0x500200, mkR 7 9 0 5 [0, 0, 1, 0, 2], by decide +kernel⟩,
   ⟨ask 1 (mkR 7 2 0 5 (leBytes 0x20 4 ++ [29])), 1, 999, mkR 7 2 0 5 (leBytes 0x20 4 ++ [29]), by decide +kernel⟩,
   ⟨ask 1 (mkR 7 3 0 12 (leBytes 0x10028 4 ++ [1, 0, 0, 0, 255])), 1, mkR 7 3 0 12 (leBytes 0x10028 4 ++ [1, 0, 0, 0, 255]), by decide +kernel⟩,
   ⟨(ask 1 (mkR 7 6 0 1 [])).wr F.PORT_STAT_RSTDONE 0 0, 1, mkR 7 6 0 1 [], by decide +kernel⟩,
   ⟨(ask 1 (mkR 7 9 16 5 [])).modView 1 (fun w => { w with gaps := [(0, 0x1234)] }), 1, 0x1234, mkR 7 9 16 5 [], by decide +kernel⟩,
   ⟨up, 16, .capRead 16 [], by decide +kernel⟩,
   ⟨ask 0 (mkR 7 4 0 12 (leBytes 0x100018 4 ++ leBytes 0xFF 4 ++ [255])), 999, 0x100018, mkR 7 4 0 12 (leBytes 0x100018 4 ++ leBytes 0xFF 4 ++ [255]), by decide +kernel⟩⟩

theorem wit_ViewsAreFrozenSavedAndRestored :
    (∃ (s : State) (r : Requester) (v : Nat), BusReady s r ∧ 0 < v ∧ v < 17 ∧ s.rd F.MGMT_VIEW_CTL_FREEZE v = 0) ∧
    (∃ (s : State) (r : Requester) (v : Nat), BusReady s r ∧ v = 0) ∧
    (∃ (s : State) (r : Requester) (v : Nat), BusReady s r ∧ v ≠ 0 ∧ v < 17 ∧ s.rd F.MGMT_VIEW_CTL_FREEZE v = 1) ∧
    (∃ (s : State) (r : Requester) (v : Nat), BusReady s r ∧ 0 < v ∧ v < 17 ∧ s.rd F.MGMT_VIEW_CTL_FREEZE v = 1 ∧
      (s.view v).handed = s.rd F.MGMT_VIEW_PTR_RSP_WR v) ∧
    (∃ (s : State) (r : Requester) (v : Nat), BusReady s r ∧ v = 0) ∧
    (∃ (s : State) (r : Requester) (v : Nat), BusReady s r ∧ v ≠ 0 ∧ v < 17 ∧ s.rd F.MGMT_VIEW_CTL_FREEZE v ≠ 1) ∧
    (∃ (s : State) (r : Requester) (v : Nat), BusReady s r ∧ v < 17 ∧ s.flag F.MGMT_VIEW_STAT_FROZEN v = true) ∧
    (∃ (s : State) (r : Requester) (v : Nat), BusReady s r ∧ v < 17 ∧ s.flag F.MGMT_VIEW_STAT_FROZEN v = false ∧
      s.werrAny = true) ∧
    (∃ (s : State) (r : Requester) (v : Nat), BusReady s r ∧ v < 17 ∧ s.flag F.MGMT_VIEW_STAT_FROZEN v = true) ∧
    (∃ (s : State) (r : Requester) (v : Nat), BusReady s r ∧ v < 17 ∧ s.flag F.MGMT_VIEW_STAT_FROZEN v = false) ∧
    (∃ (s : State) (v : Nat) (ws : List Nat), Quiet s ∧ v < 17 ∧ ((s.view v).blobOp = some true ∧ ws = s.blobWords v ∧ ∀
      w ∈ ws, w < 2 ^ 32)) ∧
    (∃ (s : State) (v : Nat), Quiet s ∧ v < 17 ∧ (s.view v).blobOp = some false ∧ Detached s v ∧ s.blob v 0 / 2 ^ 8 =
      0xEF5A01 ∧ s.blob v 15 = s.blobCrc v ((List.range 15).map (s.blob v)) ∧ s.blob v 1 < 2 ^ 32 ∧ s.blob v 2 < 2 ^ 31)
      ∧
    (∃ (s : State) (v : Nat), Quiet s ∧ v < 17 ∧ (s.view v).blobOp = some false ∧ ¬(s.blob v 0 / 2 ^ 8 = 0xEF5A01 ∧
      s.blob v 15 = s.blobCrc v ((List.range 15).map (s.blob v)))) ∧
    (∃ (s : State) (v : Nat), Quiet s ∧ v < 17 ∧ (s.view v).blobOp = none) ∧
    (∃ (s : State) (r : Requester) (v : Nat), BusReady s r ∧ v < 17 ∧ s.flag F.MGMT_VIEW_STAT_FROZEN v = true ∧ Detached
      s v ∧ s.rd F.MGMT_VIEW_PTR_REQ_WR v < 128 ∧ s.rd F.MGMT_VIEW_PTR_RSP_WR v < 128) ∧
    (∃ (s : State) (r : Requester) (v : Nat), BusReady s r ∧ v < 17 ∧ s.flag F.MGMT_VIEW_STAT_FROZEN v = false ∧
      s.werrAny = true) ∧
    (∃ (s : State) (r : Requester) (v : Nat), BusReady s r ∧ v < 17) ∧
    (∃ (s : State) (r : Requester), BusReady s r) ∧
    (∃ (s : State) (r : Requester) (a x : Nat), CoreReady s r ∧ 0x140000 ≤ a ∧ a < 0x184000 ∧ a % 4 = 0 ∧ x < 2 ^ 32 ∧
      s.ringOwned a = false) ∧
    (∃ (s : State) (r : Requester) (a x : Nat), CoreReady s r ∧ 0x140000 ≤ a ∧ a < 0x184000 ∧ a % 4 = 0 ∧ x < 2 ^ 32 ∧
      s.ringOwned a = true) :=
  ⟨⟨up.modView 16 fun w => { w with restored := true }, .normal, 16, by decide +kernel⟩,
   ⟨frz 0, .normal, 0, by decide +kernel⟩,
   ⟨(frz 16).wr F.MGMT_VIEW_STAT_SAVED 16 1, .normal, 16, by decide +kernel⟩,
   ⟨frz 16, .normal, 16, by decide +kernel⟩,
   ⟨up, .normal, 0, by decide +kernel⟩,
   ⟨up.wr F.MGMT_VIEW_STAT_SAVED 16 1, .normal, 16, by decide +kernel⟩,
   ⟨frz 16, .normal, 16, by decide +kernel⟩,
   ⟨up.wr F.GLB_WERR_GLB 0 1, .normal, 16, by decide +kernel⟩,
   ⟨frz 16, .normal, 16, by decide +kernel⟩,
   ⟨up, .normal, 16, by decide +kernel⟩,
   ⟨(frz 16).modView 16 (fun w => { w with blobOp := some true }), 16, [0xEF5A0010, 0, 0, 0, 0, 0, 0, 0, 0, 0, 0, 0, 0, 0, 0].set 0 (0xEF5A * 2 ^ 16 + 2 ^ 8 + 16), by decide +kernel⟩,
   ⟨recS, 16, by decide +kernel, by decide, by decide +kernel, by decide +kernel, by rw [recS_blob 0 (by decide)]; decide +kernel, recS_crc, by rw [recS_blob 1 (by decide)]; decide +kernel, by rw [recS_blob 2 (by decide)]; decide +kernel⟩,
   ⟨(frz 16).modView 16 (fun w => { w with blobOp := some false }), 16, by decide +kernel⟩,
   ⟨up, 16, by decide +kernel⟩,
   ⟨(frz 16).wr F.MGMT_VIEW_PTR_REQ_WR 16 127, .normal, 16, by decide +kernel⟩,
   ⟨up.wr F.GLB_WERR_GLB 0 1, .normal, 16, by decide +kernel⟩,
   ⟨up.wr F.MGMT_VIEW_CNT_SENT 16 5, .normal, 16, by decide +kernel⟩,
   ⟨up.wr F.MGMT_VIEW_CNT_SENT 16 5, .normal, by decide +kernel⟩,
   ⟨up, .normal, 0x183FFC, 0xFFFFFFFF, by decide +kernel⟩,
   ⟨up.wr F.MGMT_VIEW_PTR_RSP_WR 16 1, .normal, 0x182000, 0xFFFFFFFF, by decide +kernel⟩⟩

theorem wit_TheBusTargetTakesItsAddresses :
    (∃ (s : State) (a : Nat), Quiet s ∧ a < 128 ∧ s.i3c = false ∧ s.held = false) ∧
    (∃ (s : State) (a : Nat), Quiet s ∧ a < 128 ∧ (s.i3c = true ∨ s.held = true)) ∧
    (∃ (s : State) (st a : Nat), Quiet s ∧ st < 128 ∧ a < 128 ∧ s.i3c = false ∧ s.held = false ∧ s.rd
      F.MGMT_BUS_STAT_STATIC_ADDR 0 = st) ∧
    (∃ (s : State) (st a : Nat), Quiet s ∧ st < 128 ∧ a < 128 ∧ (s.i3c = true ∨ s.held = true ∨ s.rd
      F.MGMT_BUS_STAT_STATIC_ADDR 0 ≠ st)) ∧
    (∃ (s : State), Quiet s ∧ s.i3c = false ∧ s.held = false) ∧
    (∃ (s : State), Quiet s ∧ (s.i3c = true ∨ s.held = true)) ∧
    (∃ (s : State) (a b : Nat), Quiet s ∧ a < 128 ∧ b < 128 ∧ s.i3c = true ∧ s.held = false ∧ s.rd
      F.MGMT_BUS_STAT_DYN_ADDR 0 = a) ∧
    (∃ (s : State) (a b : Nat), Quiet s ∧ a < 128 ∧ b < 128 ∧ (s.i3c = false ∨ s.held = true ∨ s.rd
      F.MGMT_BUS_STAT_DYN_ADDR 0 ≠ a)) ∧
    (∃ (s : State), Quiet s) ∧
    (∃ (s : State), Quiet s ∧ s.i3c = true) ∧
    (∃ (s : State), Quiet s ∧ s.i3c = true) ∧
    (∃ (s : State), Quiet s ∧ s.i3c = true) ∧
    (∃ (s : State), Quiet s ∧ s.i3c = true) ∧
    (∃ (s : State) (c : Instr), Quiet s ∧ s.i3c = false ∧ (c = .getpid ∨ c = .getbcr ∨ c = .getdcr ∨ c = .getstatus ∨ c
      = .getmwl ∨ c = .getmrl ∨ c = .getmxds ∨ c = .enec true ∨ c = .disec true ∨ c = .i3cPrivateRead true ∨ c =
      .i3cPrivateRead false)) ∧
    (∃ (s : State), Quiet s ∧ s.i3c = true) ∧
    (∃ (s : State), Quiet s ∧ s.i3c = true) ∧
    (∃ (s : State), Quiet s ∧ s.i3c = true) ∧
    (∃ (s : State), Quiet s ∧ s.i3c = true) ∧
    (∃ (s : State), Quiet s ∧ s.i3c = true) ∧
    (∃ (s : State), Quiet s ∧ s.i3c = true) ∧
    (∃ (s : State), Quiet s ∧ s.i3c = true) ∧
    (∃ (s : State) (n : Nat), Quiet s ∧ n < 2 ^ 16 ∧ s.i3c = true) ∧
    (∃ (s : State) (n : Nat), Quiet s ∧ n < 2 ^ 16 ∧ s.i3c = true) ∧
    (∃ (s : State) (n : Nat), Quiet s ∧ n < 2 ^ 16 ∧ s.i3c = false) ∧
    (∃ (s : State) (n : Nat), Quiet s ∧ n < 2 ^ 16 ∧ s.i3c = false) :=
  ⟨⟨smbS, 127, by decide +kernel⟩,
   ⟨i3cS, 127, by decide +kernel⟩,
   ⟨smbS, 0x58, 127, by decide +kernel⟩,
   ⟨smbS, 0, 127, by decide +kernel⟩,
   ⟨smbS, by decide +kernel⟩,
   ⟨i3cS, by decide +kernel⟩,
   ⟨i3cS, 9, 127, by decide +kernel⟩,
   ⟨i3cS, 8, 127, by decide +kernel⟩,
   ⟨i3cS, by decide +kernel⟩,
   ⟨rspS i3cS false, by decide +kernel⟩,
   ⟨i3cS.putBus { i3cS.bus with ibi := true }, by decide +kernel⟩,
   ⟨i3cS, by decide +kernel⟩,
   ⟨i3cS, by decide +kernel⟩,
   ⟨smbS, .getpid, by decide +kernel⟩,
   ⟨i3cS, by decide +kernel⟩,
   ⟨i3cS, by decide +kernel⟩,
   ⟨i3cS, by decide +kernel⟩,
   ⟨rspS i3cS false, by decide +kernel⟩,
   ⟨i3cS, by decide +kernel⟩,
   ⟨i3cS, by decide +kernel⟩,
   ⟨i3cS, by decide +kernel⟩,
   ⟨i3cS, 65535, by decide +kernel⟩,
   ⟨i3cS, 0, by decide +kernel⟩,
   ⟨smbS, 0, by decide +kernel⟩,
   ⟨smbS, 0, by decide +kernel⟩⟩

theorem wit_PacketsAreReadAndAnswered :
    (∃ (s : State) (p : BusPkt) (q : List BusPkt), Quiet s ∧ s.i3c = true ∧ s.bus.pkts = p :: q ∧ p.smbus = false ∧
      p.ptr = none ∧ BusShown s) ∧
    (∃ (s : State) (p : BusPkt) (v k : Nat), Quiet s ∧ v < 17 ∧ s.i3c = true ∧ s.bus.pkts = [p] ∧ p.smbus = false ∧
      p.view = some v ∧ p.ptr = some k ∧ p.last = true ∧ BusShown s ∧ k = s.rd F.MGMT_VIEW_PTR_RSP_TX v ∧ k < 128 ∧ s.rd
      F.MGMT_VIEW_PTR_RSP_WR v = (k + 1) % 128 ∧ (s.view v).done = []) ∧
    (∃ (s : State) (b : Bool), Quiet s ∧ s.i3c = true ∧ s.bus.pkts.any (fun p => !p.smbus) = false) ∧
    (∃ (s : State) (p : BusPkt) (v k : Nat), Quiet s ∧ v < 17 ∧ s.i3c = true ∧ s.bus.pkts = [p] ∧ p.smbus = false ∧
      p.view = some v ∧ p.ptr = some k ∧ p.last = true ∧ BusShown s ∧ k = s.rd F.MGMT_VIEW_PTR_RSP_TX v ∧ k < 128 ∧ s.rd
      F.MGMT_VIEW_PTR_RSP_WR v = (k + 1) % 128 ∧ (s.view v).done = []) ∧
    (∃ (s : State) (pec : Option Bool) (x : List Nat), Quiet s ∧ (∀ b ∈ x, b < 256)) ∧
    (∃ (s : State), Quiet s) ∧
    (∃ (s : State), Quiet s) ∧
    (∃ (s : State) (p : BusPkt) (v k : Nat), Quiet s ∧ v < 17 ∧ s.smbus = true ∧ s.bus.pkts = [p] ∧ p.smbus = true ∧
      p.view = some v ∧ p.ptr = some k ∧ p.last = true ∧ k = s.rd F.MGMT_VIEW_PTR_RSP_TX v ∧ k < 128 ∧ s.rd
      F.MGMT_VIEW_PTR_RSP_WR v = (k + 1) % 128 ∧ (s.view v).done = []) ∧
    (∃ (s : State) (b : Bool), Quiet s ∧ (s.smbus = false ∨ s.bus.pkts.any (fun p => p.smbus) = false)) ∧
    (∃ (s : State) (p : BusPkt) (v k : Nat), Quiet s ∧ v < 17 ∧ s.bus.pkts = [p] ∧ p.smbus = true ∧ p.view = some v ∧
      p.ptr = some k ∧ p.last = true ∧ k = s.rd F.MGMT_VIEW_PTR_RSP_TX v ∧ k < 128 ∧ s.rd F.MGMT_VIEW_PTR_RSP_WR v = (k
      + 1) % 128 ∧ (s.view v).done = []) ∧
    (∃ (s : State), Quiet s ∧ s.bus.pkts.any (fun p => p.smbus) = false) ∧
    (∃ (s : State) (eid src tag : Nat), Quiet s ∧ eid < 255 ∧ 0 < eid ∧ src < 256 ∧ tag < 8 ∧ BusShown s ∧ Hears s) ∧
    (∃ (s : State) (eid src tag e : Nat), Quiet s ∧ ((eid = 0 ∨ eid = 255) ∧ src < 256 ∧ tag < 8) ∧ BusShown s ∧ Hears s
      ∧ e = s.rd F.MGMT_BUS_STAT_EID 0) ∧
    (∃ (s : State) (src tag e : Nat), Quiet s ∧ src < 256 ∧ tag < 8 ∧ BusShown s ∧ Hears s ∧ e = s.rd
      F.MGMT_BUS_STAT_EID 0) ∧
    (∃ (s : State) (src tag e : Nat), Quiet s ∧ src < 256 ∧ tag < 8 ∧ BusShown s ∧ Hears s ∧ e = s.rd
      F.MGMT_BUS_STAT_EID 0) ∧
    (∃ (s : State) (src tag e : Nat), Quiet s ∧ src < 256 ∧ tag < 8 ∧ BusShown s ∧ Hears s ∧ e = s.rd
      F.MGMT_BUS_STAT_EID 0) ∧
    (∃ (s : State) (src tag e : Nat), Quiet s ∧ src < 256 ∧ tag < 8 ∧ BusShown s ∧ Hears s ∧ e = s.rd
      F.MGMT_BUS_STAT_EID 0) ∧
    (∃ (s : State) (c : Instr) (eid src tag : Nat), Quiet s ∧ eid < 256 ∧ src < 256 ∧ tag < 8 ∧ s.i3c = false ∧ s.smbus
      = false ∧ (c = .setEndpointId eid src tag ∨ c = .getEndpointId src tag ∨ c = .getMctpVersionSupport src tag ∨ c =
      .getMessageTypeSupport src tag ∨ c = .getVendorDefinedMsgSupport src tag)) :=
  ⟨⟨((i3cS).putBus { pkts := [{ pkt false with ptr := none }] }).wr F.MGMT_STAT_SMB_PEND 0 0, { pkt false with ptr := none }, [], by decide +kernel⟩,
   ⟨(rspS i3cS false).wr F.MGMT_STAT_SMB_PEND 0 0, pkt false, 16, 0, by decide +kernel⟩,
   ⟨i3cS, true, by decide +kernel⟩,
   ⟨(rspS i3cS false).wr F.MGMT_STAT_SMB_PEND 0 0, pkt false, 16, 0, by decide +kernel⟩,
   ⟨smbS, none, [15, 255], by decide +kernel⟩,
   ⟨i3cS, by decide +kernel⟩,
   ⟨rspS smbS true, by decide +kernel⟩,
   ⟨rspS smbS true, pkt true, 16, 0, by decide +kernel⟩,
   ⟨smbS, true, by decide +kernel⟩,
   ⟨rspS smbS true, pkt true, 16, 0, by decide +kernel⟩,
   ⟨smbS, by decide +kernel⟩,
   ⟨smbS.wr F.MGMT_STAT_SMB_PEND 0 0, 254, 255, 7, by decide +kernel⟩,
   ⟨smbS.wr F.MGMT_STAT_SMB_PEND 0 0, 255, 255, 7, 0, by decide +kernel⟩,
   ⟨i3cS, 255, 7, 0, by decide +kernel⟩,
   ⟨i3cS, 255, 7, 0, by decide +kernel⟩,
   ⟨i3cS, 255, 7, 0, by decide +kernel⟩,
   ⟨i3cS, 255, 7, 0, by decide +kernel⟩,
   ⟨smbS.wr F.MGMT_BUS_CFG_I2C_DIS 0 1, .getEndpointId 255 7, 0, 255, 7, by decide +kernel⟩⟩

theorem wit_TheResponderNegotiatesAndMeasures :
    (∃ (s : State) (src : Nat), SpdmAt s 0 ∧ src < 256) ∧
    (∃ (s : State) (src e : Nat) (chal : Bool), Quiet s ∧ Hears s ∧ BusShown s ∧ src < 256 ∧ s.flag F.MGMT_STAT_LRUN 0 =
      true ∧ s.spdm.signing = some (e, chal)) ∧
    (∃ (s : State) (src slot off len index : Nat) (ok signed : Bool) (c : Instr), Quiet s ∧ Hears s ∧ BusShown s ∧ src <
      256 ∧ slot < 8 ∧ off < 2 ^ 16 ∧ len < 2 ^ 16 ∧ index < 256 ∧ s.spdmBusy = true ∧ (c = .getCapabilities src ∨ c =
      .negotiateAlgorithms src ok ∨ c = .getDigests src ∨ c = .getCertificate src slot off len ∨ c = .challenge src slot
      ∨ c = .getMeasurements src index signed ∨ c = .spdmUnsupportedRequest src ∨ (c = .getVersion src ∧ s.flag
      F.MGMT_STAT_LRUN 0 = false))) ∧
    (∃ (s : State) (src slot off len index : Nat) (ok signed : Bool) (c : Instr), SpdmAt s 0 ∧ src < 256 ∧ slot < 8 ∧
      off < 2 ^ 16 ∧ len < 2 ^ 16 ∧ index < 256 ∧ ((s.rd F.MGMT_SEC_STAT_SPDM 0 < 1 ∧ (c = .getCapabilities src ∨ c =
      .negotiateAlgorithms src ok)) ∨ (s.rd F.MGMT_SEC_STAT_SPDM 0 < 2 ∧ (c = .getDigests src ∨ c = .getCertificate src
      slot off len ∨ c = .challenge src slot ∨ c = .getMeasurements src index signed)))) ∧
    (∃ (s : State) (src : Nat), SpdmAt s 0 ∧ src < 256) ∧
    (∃ (s : State) (src : Nat), SpdmAt s 1 ∧ src < 256) ∧
    (∃ (s : State) (src : Nat), SpdmAt s 1 ∧ src < 256) ∧
    (∃ (s : State) (src : Nat), SpdmAt s 1 ∧ src < 256) ∧
    (∃ (s : State) (src : Nat), SpdmAt s 2 ∧ src < 256) ∧
    (∃ (s : State) (src off len : Nat), SpdmAt s 2 ∧ src < 256 ∧ off < 2 ^ 16 ∧ len < 2 ^ 16) ∧
    (∃ (s : State) (src slot off len : Nat), SpdmAt s 2 ∧ src < 256 ∧ off < 2 ^ 16 ∧ len < 2 ^ 16 ∧ 0 < slot ∧ slot < 8)
      ∧
    (∃ (s : State) (src slot : Nat), SpdmAt s 2 ∧ src < 256 ∧ 0 < slot ∧ slot < 8) ∧
    (∃ (s : State) (src : Nat), SpdmAt s 2 ∧ src < 256) ∧
    (∃ (s : State) (src index : Nat), (SpdmAt s 2 ∧ src < 256 ∧ (index < 8 ∨ index = 255))) ∧
    (∃ (s : State) (src : Nat), SpdmAt s 2 ∧ src < 256) ∧
    (∃ (s : State) (src index n : Nat), (SpdmAt s 2 ∧ src < 256 ∧ ((0 < index ∧ index < 8 ∧ n = 1) ∨ (index = 255 ∧ n =
      7)))) ∧
    (∃ (s : State) (src index : Nat) (signed : Bool), SpdmAt s 2 ∧ src < 256 ∧ 7 < index ∧ index < 255) ∧
    (∃ (s : State) (e : Nat), Quiet s ∧ BusShown s ∧ s.spdm.signing = some (e, true)) ∧
    (∃ (s : State) (e : Nat), Quiet s ∧ BusShown s ∧ s.spdm.signing = some (e, false)) ∧
    (∃ (s : State), Quiet s ∧ s.spdm.signing = none) ∧
    (∃ (s : State) (src slot off len index : Nat) (ok signed : Bool) (c : Instr), Quiet s ∧ src < 256 ∧ slot < 8 ∧ off <
      2 ^ 16 ∧ len < 2 ^ 16 ∧ index < 256 ∧ s.i3c = false ∧ s.smbus = false ∧ (c = .getVersion src ∨ c =
      .getCapabilities src ∨ c = .negotiateAlgorithms src ok ∨ c = .getDigests src ∨ c = .getCertificate src slot off
      len ∨ c = .challenge src slot ∨ c = .getMeasurements src index signed ∨ c = .spdmUnsupportedRequest src)) :=
  ⟨⟨spdmS 0, 255, by decide +kernel⟩,
   ⟨signS true, 255, 9, true, by decide +kernel⟩,
   ⟨signS true, 255, 7, 65535, 65535, 255, true, true, .getCapabilities 255, by decide +kernel⟩,
   ⟨spdmS 1, 255, 7, 65535, 65535, 255, true, true, .getDigests 255, by decide +kernel⟩,
   ⟨spdmS 2, 255, by decide +kernel⟩,
   ⟨spdmS 1, 255, by decide +kernel⟩,
   ⟨spdmS 1, 255, by decide +kernel⟩,
   ⟨spdmS 1, 255, by decide +kernel⟩,
   ⟨spdmS 2, 255, by decide +kernel⟩,
   ⟨spdmS 2, 255, 65535, 1, by decide +kernel⟩,
   ⟨spdmS 2, 255, 1, 65535, 1, by decide +kernel⟩,
   ⟨spdmS 2, 255, 7, by decide +kernel⟩,
   ⟨spdmS 2, 255, by decide +kernel⟩,
   ⟨spdmS 2, 255, 255, by decide +kernel⟩,
   ⟨spdmS 2, 255, by decide +kernel⟩,
   ⟨spdmS 2, 255, 255, 7, by decide +kernel⟩,
   ⟨spdmS 2, 255, 8, true, by decide +kernel⟩,
   ⟨signS true, 9, by decide +kernel⟩,
   ⟨signS false, 9, by decide +kernel⟩,
   ⟨spdmS 2, by decide +kernel⟩,
   ⟨(spdmS 2).wr F.MGMT_BUS_CFG_I2C_DIS 0 1, 255, 7, 65535, 65535, 255, true, true, .getDigests 255, by decide +kernel⟩⟩

theorem wit_UpdateRequestsAreAnswered :
    (∃ (s : State) (src : Nat), Serves s ∧ src < 256) ∧
    (∃ (s : State) (src fwA fwB svA svB : Nat), Serves s ∧ src < 256 ∧ fwA = s.rd F.BOOT_FW_VER_A_VERSION 0 ∧ fwB = s.rd
      F.BOOT_FW_VER_B_VERSION 0 ∧ svA = s.rd F.BOOT_SV_VER_A_VERSION 0 ∧ svB = s.rd F.BOOT_SV_VER_B_VERSION 0 ∧ s.rd
      F.BOOT_STAT_FW_BANK 0 = 1 ∧ s.rd F.BOOT_STAT_SV_BANK 0 = 0) ∧
    (∃ (s : State) (src : Nat), Serves s ∧ src < 256) ∧
    (∃ (s : State) (src maxXfer : Nat), Serves s ∧ src < 256 ∧ s.rd F.BOOT_UPD_STAT_WINDOW 0 ≠ 1 ∧ s.pstate = 0) ∧
    (∃ (s : State) (src maxXfer : Nat), Serves s ∧ src < 256 ∧ (s.rd F.BOOT_UPD_STAT_WINDOW 0 = 1 ∨ s.pstate ≠ 0)) ∧
    (∃ (s : State) (src n : Nat) (b : Bool) (bytes : List Nat) (k : Crypto) (c : Instr), Quiet s ∧ (s.pldmServes = false
      ∨ (s.i3c = false ∧ s.smbus = false)) ∧ (src < 256 ∧ (∀ x ∈ bytes, x < 256) ∧ n < 2 ^ 16) ∧ (c =
      .queryDeviceIdentifiers src ∨ c = .getFirmwareParameters src ∨ c = .getStatus src ∨ c = .requestUpdate src n ∨ c =
      .passComponentTable src b ∨ c = .updateComponent src n n ∨ c = .requestFirmwareData src bytes ∨ c =
      .transferComplete src ∨ c = .verifyComplete src k b ∨ c = .applyComplete src b ∨ c = .activateFirmware src b ∨ c =
      .cancelUpdateComponent src ∨ c = .cancelUpdate src)) ∧
    (∃ (s : State) (src comp size cmd : Nat) (b : Bool) (c : Instr), Serves s ∧ src < 256 ∧ comp < 2 ^ 16 ∧ s.pstate = 0
      ∧ ((cmd = 0x13 ∧ c = .passComponentTable src b) ∨ (cmd = 0x14 ∧ c = .updateComponent src comp size) ∨ (cmd = 0x1A
      ∧ c = .activateFirmware src b) ∨ (cmd = 0x1C ∧ c = .cancelUpdateComponent src) ∨ (cmd = 0x1D ∧ c = .cancelUpdate
      src))) ∧
    (∃ (s : State) (src comp size cmd p : Nat) (b : Bool) (c : Instr), Serves s ∧ src < 256 ∧ comp < 2 ^ 16 ∧ s.pstate =
      p ∧ p ≠ 0 ∧ ((cmd = 0x13 ∧ c = .passComponentTable src b ∧ (p ≠ 1 ∨ s.boot.pldm.agent ≠ src)) ∨ (cmd = 0x14 ∧ c =
      .updateComponent src comp size ∧ (p ≠ 2 ∨ s.boot.pldm.agent ≠ src)) ∨ (cmd = 0x1A ∧ c = .activateFirmware src b ∧
      (p ≠ 2 ∨ s.boot.pldm.agent ≠ src)) ∨ (cmd = 0x1C ∧ c = .cancelUpdateComponent src ∧ (p < 3 ∨ 5 < p ∨
      s.boot.pldm.agent ≠ src)) ∨ (cmd = 0x1D ∧ c = .cancelUpdate src ∧ s.boot.pldm.agent ≠ src))) ∧
    (∃ (s : State) (src : Nat) (last : Bool), Updates s src 1) ∧
    (∃ (s : State) (src comp size : Nat), Updates s src 2 ∧ (comp < 2 ^ 16 ∧ comp ≠ 1 ∧ comp ≠ 2 ∧ (comp = 3 → s.rd
      F.BOOT_STAT_RECOV 0 ≠ 1 ∨ 2 ≤ s.boot.keys.length))) ∧
    (∃ (s : State) (src comp size : Nat), Updates s src 2 ∧ ((comp = 1 ∧ 0x200000 < size) ∨ (comp = 2 ∧ 0x20000 <
      size))) ∧
    (∃ (s : State) (src comp size : Nat) (f : Flash), Updates s src 2 ∧ ((comp = 1 ∧ size ≤ 0x200000) ∨ (comp = 2 ∧ size
      ≤ 0x20000)) ∧ s.boot.flash = some f ∧ s.flag F.BOOT_SPI_STAT_MMAP 0 = true ∧ s.werrAny = true) ∧
    (∃ (s : State) (src comp size b : Nat) (f g : Flash) (next : List Nat), Updates s src 2 ∧ ((comp = 1 ∧ size ≤
      0x200000) ∨ (comp = 2 ∧ size ≤ 0x20000)) ∧ Writable s f 1 ∧ b = 1 - (flashReplay f comp).conf.getD 0 ∧ g =
      downloadStarts f s.boot.area comp b size ∧ next = askedFor s.boot.pldm.maxXfer 0 size) ∧
    (∃ (s : State) (src size : Nat) (next : List Nat), Updates s src 2 ∧ s.rd F.BOOT_STAT_RECOV 0 = 1 ∧
      s.boot.keys.length < 2 ∧ next = askedFor s.boot.pldm.maxXfer 0 size) ∧
    (∃ (s : State) (src p : Nat), Updates s src p ∧ 3 ≤ p ∧ p ≤ 5) ∧
    (∃ (s : State) (src p : Nat), Updates s src p) ∧
    (∃ (s : State), Quiet s ∧ s.pstate ≠ 0) ∧
    (∃ (s : State), Quiet s ∧ s.pstate = 0) ∧
    (∃ (s : State) (src : Nat), Updates s src 2 ∧ s.boot.pldm.applied = []) ∧
    (∃ (s : State) (src comp b : Nat) (f g : Flash), Updates s src 2 ∧ (s.boot.pldm.applied = [comp] ∧ (comp = 1 ∨ comp
      = 2)) ∧ Writable s f 1 ∧ b = 1 - (flashReplay f comp).conf.getD 0 ∧ g = flashAppend f s.boot.area .pending comp b)
      ∧
    (∃ (s : State) (src at_ : Nat), Updates s src 2 ∧ s.boot.pldm.applied = [] ∧ s.rd F.BOOT_STAT_RECOV 0 ≠ 1 ∧ s.rd
      F.CLK_SCHED_STAT_STATE 0 ≠ 1 ∧ at_ = s.drip + max 1 (s.rd F.BOOT_UPD_CFG_ACT_DELAY 0) ∧ at_ < 2 ^ 48 ∧ s.rd
      F.BOOT_UPD_CFG_ACT_DELAY 0 < 2 ^ 16) :=
  ⟨⟨pldmS 0, 255, by decide +kernel⟩,
   ⟨(pldmS 0).wr F.BOOT_STAT_FW_BANK 0 1, 255, 0, 0, 0, 0, by decide +kernel⟩,
   ⟨pldmS 3, 255, by decide +kernel⟩,
   ⟨pldmS 0, 255, 4096, by decide +kernel⟩,
   ⟨pldmS 2, 255, 4096, by decide +kernel⟩,
   ⟨up, 255, 65535, true, [255], ⟨[], []⟩, .cancelUpdate 255, by decide +kernel⟩,
   ⟨pldmS 0, 255, 1, 9, 0x1D, true, .cancelUpdate 255, by decide +kernel⟩,
   ⟨pldmS 2, 255, 1, 9, 0x1D, 2, true, .cancelUpdate 255, by decide +kernel⟩,
   ⟨pldmS 1, 9, true, by decide +kernel⟩,
   ⟨pldmS 2, 9, 3, 99, by decide +kernel⟩,
   ⟨pldmS 2, 9, 2, 0x20001, by decide +kernel⟩,
   ⟨((pldmS 2).wr F.BOOT_SPI_STAT_MMAP 0 1).wr F.GLB_WERR_GLB 0 1, 9, 2, 0x20000, flash0, by decide +kernel⟩,
   ⟨pldmS 2, 9, 2, 0x20000, 1, flash0, downloadStarts flash0 0 2 1 0x20000, [0, 0, 0, 0, 0, 4, 0, 0], by decide +kernel⟩,
   ⟨(pldmS 2).wr F.BOOT_STAT_RECOV 0 1, 9, 3, [0, 0, 0, 0, 3, 0, 0, 0], by decide +kernel⟩,
   ⟨pldmS 5, 9, 5, by decide +kernel⟩,
   ⟨pldmS 1, 9, 1, by decide +kernel⟩,
   ⟨pldmS 3, by decide +kernel⟩,
   ⟨pldmS 0, by decide +kernel⟩,
   ⟨pldmS 2, 9, by decide +kernel⟩,
   ⟨(pldmS 2).modBoot fun x => { x with pldm := { x.pldm with applied := [2] } }, 9, 2, 1, flash0, flashAppend flash0 0 .pending 2 1, by decide +kernel⟩,
   ⟨pldmS 2, 9, 1000, by decide +kernel⟩⟩

theorem wit_ComponentsAreDownloadedVerifiedAndApplied :
    (∃ (s : State) (src n got size comp : Nat) (bytes next : List Nat) (f g : Flash), Updates s src 3 ∧ ((∀ x ∈ bytes, x
      < 256) ∧ bytes.length = n) ∧ Writable s f 0 ∧ s.rd F.BOOT_UPD_STAT_COMP 0 = comp ∧ comp ≠ 3 ∧ 256 < got + n ∧
      s.boot.pldm.got = got ∧ s.boot.pldm.size = size ∧ got < size ∧ n = min (max 1 (min 1024 s.boot.pldm.maxXfer))
      (size - got) ∧ g = flashProgram f (bankBase comp (1 - (flashReplay f comp).conf.getD 0) + max got 256) (bytes.drop
      (256 - got)) ∧ next = askedFor s.boot.pldm.maxXfer (got + n) size) ∧
    (∃ (s : State) (src n got size : Nat) (bytes next : List Nat), Updates s src 3 ∧ ((∀ x ∈ bytes, x < 256) ∧
      bytes.length = n) ∧ (s.rd F.BOOT_UPD_STAT_COMP 0 = 3 ∨ got + n ≤ 256) ∧ s.boot.pldm.got = got ∧ s.boot.pldm.size =
      size ∧ got < size ∧ n = min (max 1 (min 1024 s.boot.pldm.maxXfer)) (size - got) ∧ next = askedFor
      s.boot.pldm.maxXfer (got + n) size) ∧
    (∃ (s : State) (src got size : Nat) (bytes next : List Nat), Updates s src 3 ∧ ((∀ x ∈ bytes, x < 256) ∧
      bytes.length ≠ min (max 1 (min 1024 s.boot.pldm.maxXfer)) (size - got)) ∧ s.boot.pldm.got = got ∧ s.boot.pldm.size
      = size ∧ got < size ∧ next = askedFor s.boot.pldm.maxXfer got size) ∧
    (∃ (s : State) (src n got size : Nat) (bytes : List Nat) (f : Flash), Updates s src 3 ∧ ((∀ x ∈ bytes, x < 256) ∧
      bytes.length = n) ∧ s.boot.flash = some f ∧ s.flag F.BOOT_SPI_STAT_MMAP 0 = true ∧ s.werrAny = true ∧ s.rd
      F.BOOT_UPD_STAT_COMP 0 ≠ 3 ∧ 256 < got + n ∧ s.boot.pldm.got = got ∧ s.boot.pldm.size = size ∧ got < size ∧ n =
      min (max 1 (min 1024 s.boot.pldm.maxXfer)) (size - got)) ∧
    (∃ (s : State) (src : Nat) (bytes : List Nat), Updates s src 3 ∧ (∀ x ∈ bytes, x < 256) ∧ s.boot.pldm.size ≤
      s.boot.pldm.got) ∧
    (∃ (s : State) (src : Nat), Updates s src 3 ∧ s.boot.pldm.size ≤ s.boot.pldm.got) ∧
    (∃ (s : State) (src : Nat), Updates s src 3 ∧ s.boot.pldm.got < s.boot.pldm.size) ∧
    (∃ (s : State) (src : Nat) (c : Crypto) (cert : Bool), Updates s src 4 ∧ s.verifyCode (s.rd F.BOOT_UPD_STAT_COMP 0)
      c cert = 1) ∧
    (∃ (s : State) (src k comp : Nat) (c : Crypto) (cert : Bool) (h body : List Nat), Updates s src 4 ∧ (s.rd
      F.BOOT_UPD_STAT_COMP 0 = comp ∧ (comp = 1 ∨ comp = 2) ∧ h = s.boot.pldm.header ∧ body = s.loadedBody comp ∧
      headerForm s.boot.keys comp h = true) ∧ ((headerSigned c h = false ∧ k = 2) ∨ (headerSigned c h = true ∧
      cryptoHashes c body (hdrDigest h) = false ∧ k = 3) ∨ (comp = 2 ∧ headerSigned c h = true ∧ cryptoHashes c body
      (hdrDigest h) = true ∧ (surveyOk body = false ∨ s.confirmedFw < minFw ((surveyOf body).getD [])) ∧ k = 4))) ∧
    (∃ (s : State) (src : Nat) (c : Crypto), Updates s src 4 ∧ s.rd F.BOOT_UPD_STAT_COMP 0 = 3) ∧
    (∃ (s : State) (src comp b : Nat) (f g : Flash), Updates s src 5 ∧ (comp = s.rd F.BOOT_UPD_STAT_COMP 0 ∧ (comp = 1 ∨
      comp = 2)) ∧ Writable s f 1 ∧ b = 1 - (flashReplay f comp).conf.getD 0 ∧ g = flashAppend (flashProgram f (bankBase
      comp b) s.boot.pldm.header) s.boot.area .verified comp b) ∧
    (∃ (s : State) (src : Nat) (keys : List Nat), Updates s src 5 ∧ s.rd F.BOOT_UPD_STAT_COMP 0 = 3 ∧ s.boot.flash =
      none ∧ (keys = s.boot.keys ++ [if s.boot.keys.contains 2 then 3 else 2])) ∧
    (∃ (s : State) (src : Nat) (keys : List Nat) (f : Flash), Updates s src 5 ∧ s.rd F.BOOT_UPD_STAT_COMP 0 = 3 ∧
      s.boot.flash = some f ∧ (keys = s.boot.keys ++ [if s.boot.keys.contains 2 then 3 else 2])) ∧
    (∃ (s : State) (src : Nat), Updates s src 5) ∧
    (∃ (s : State) (src p : Nat) (b : Bool) (bytes : List Nat) (k : Crypto) (c : Instr), Serves s ∧ src < 256 ∧ (∀ x ∈
      bytes, x < 256) ∧ ((p = 3 ∧ (c = .requestFirmwareData src bytes ∨ c = .transferComplete src)) ∨ (p = 4 ∧ c =
      .verifyComplete src k b) ∨ (p = 5 ∧ c = .applyComplete src b)) ∧ (s.pstate ≠ p ∨ s.boot.pldm.agent ≠ src)) :=
  ⟨⟨dlS 3 2 0 1030, 9, 1024, 0, 1030, 2, List.replicate 1024 255, [0, 4, 0, 0, 6, 0, 0, 0], flash0, flash0, by decide +kernel⟩,
   ⟨dlS 3 3 0 3, 9, 3, 0, 3, [1, 2, 255], [], by decide +kernel⟩,
   ⟨dlS 3 2 0 1030, 9, 0, 1030, List.replicate 6 255, [0, 0, 0, 0, 0, 4, 0, 0], by decide +kernel⟩,
   ⟨((dlS 3 2 1024 1030).wr F.BOOT_SPI_STAT_MMAP 0 1).wr F.GLB_WERR_GLB 0 1, 9, 6, 1024, 1030, List.replicate 6 255, flash0, by decide +kernel⟩,
   ⟨dlS 3 2 6 6, 9, [1], by decide +kernel⟩,
   ⟨dlS 3 2 6 6, 9, by decide +kernel⟩,
   ⟨dlS 3 2 5 6, 9, by decide +kernel⟩,
   ⟨dlS 4 3 6 6, 9, imgCrypto [(svHdr1, svBody1)], true, by decide +kernel⟩,
   ⟨dlS 4 2 6 6, 9, 2, 2, ⟨[], []⟩, true, svHdr1, List.replicate 16 255, by decide +kernel⟩,
   ⟨dlS 4 3 6 6, 9, ⟨[], []⟩, by decide +kernel⟩,
   ⟨dlS 5 2 6 6, 9, 2, 1, flash0, flashAppend (flashProgram flash0 (bankBase 2 1) (dlS 5 2 6 6).boot.pldm.header) (dlS 5 2 6 6).boot.area .verified 2 1, by exact ⟨by decide +kernel, by decide +kernel, by decide +kernel, by decide +kernel, rfl⟩⟩,
   ⟨(dlS 5 3 6 6).modBoot fun x => { x with flash := none }, 9, [2, 3], by decide +kernel⟩,
   ⟨dlS 5 3 6 6, 9, [2, 3], flash0, by decide +kernel⟩,
   ⟨dlS 5 2 6 6, 9, by decide +kernel⟩,
   ⟨pldmS 2, 9, 5, true, [255], ⟨[], []⟩, .applyComplete 9 true, by decide +kernel⟩⟩

theorem wit_BootRomStagesRun :
    (∃ (s : State) (x : StageIn), Quiet s ∧ (s.boot.failed = true ∨ s.rd F.BOOT_STAT_STAGE 0 = 0 ∨ 11 ≤ s.rd
      F.BOOT_STAT_STAGE 0)) ∧
    (∃ (s : State) (x : StageIn), InStage s 1 ∧ x.wf = true) ∧
    (∃ (s : State) (x : StageIn), InStage s 2 ∧ x.wf = true ∧ s.rd F.CLK_STAT_XTAL_OK 0 = 1 ∧ s.rd F.CLK_STAT_XPLL_LOCK
      0 = 1 ∧ s.rd F.CLK_STAT_MPLL_LOCK 0 = 1) ∧
    (∃ (s : State) (x : StageIn), InStage s 2 ∧ x.wf = true ∧ (s.rd F.CLK_STAT_XTAL_OK 0 ≠ 1 ∨ s.rd F.CLK_STAT_XPLL_LOCK
      0 ≠ 1 ∨ s.rd F.CLK_STAT_MPLL_LOCK 0 ≠ 1)) ∧
    (∃ (s : State) (x : StageIn), InStage s 3 ∧ x.wf = true ∧ s.flashSeen x.flash = none) ∧
    (∃ (s : State) (x : StageIn) (f : Flash), InStage s 3 ∧ x.wf = true ∧ s.flashSeen x.flash = some f ∧ (f.suitable =
      false ∨ f.dens < 26 ∨ 2 ≤ f.io)) ∧
    (∃ (s : State) (x : StageIn) (f : Flash) (b1 b2 sel low : Nat), InStage s 3 ∧ x.wf = true ∧ s.flashSeen x.flash =
      some f ∧ flashSuits f = true ∧ sel = s.rd F.BOOT_STAT_BOOTSEL 0 ∧ choose f s.boot.keys 2 0 (sel == 0 || sel == 3)
      = ⟨some (b2, false), none, false, none⟩ ∧ low = minFw (bankSurvey f b2) ∧ choose f s.boot.keys 1 low (sel == 0 ||
      sel == 3) = ⟨some (b1, false), none, false, none⟩) ∧
    (∃ (s : State) (x : StageIn) (f : Flash) (b2 low e b : Nat), InStage s 3 ∧ x.wf = true ∧ s.flashSeen x.flash = some
      f ∧ flashSuits f = true ∧ s.rd F.BOOT_STAT_BOOTSEL 0 = 0 ∧ choose f s.boot.keys 2 0 true = ⟨some (b2, false),
      none, false, none⟩ ∧ low = minFw (bankSurvey f b2) ∧ choose f s.boot.keys 1 low true = ⟨none, none, false, some
      (e, b)⟩ ∧ b < 2) ∧
    (∃ (s : State) (x : StageIn) (f : Flash) (b1 e b : Nat), InStage s 3 ∧ x.wf = true ∧ s.flashSeen x.flash = some f ∧
      flashSuits f = true ∧ choose f s.boot.keys 2 0 (s.rd F.BOOT_STAT_BOOTSEL 0 == 0 || s.rd F.BOOT_STAT_BOOTSEL 0 ==
      3) = ⟨none, none, false, some (e, b)⟩ ∧ b < 2 ∧ choose f s.boot.keys 1 0 false = ⟨some (b1, false), none, false,
      none⟩) ∧
    (∃ (s : State) (x : StageIn) (f g : Flash) (b1 b2 low : Nat), InStage s 3 ∧ x.wf = true ∧ s.flashSeen x.flash = some
      f ∧ flashSuits f = true ∧ s.rd F.BOOT_STAT_BOOTSEL 0 = 0 ∧ s.rd F.BOOT_SPI_STAT_MMAP 0 = 0 ∧ 17 ≤ flashFree f
      (flashArea f) ∧ g = flashAppend f (flashArea f) .trial 1 b1 ∧ choose f s.boot.keys 2 0 true = ⟨some (b2, false),
      none, false, none⟩ ∧ low = minFw (bankSurvey f b2) ∧ choose f s.boot.keys 1 low true = ⟨some (b1, true), some
      (.trial, b1), false, none⟩) ∧
    (∃ (s : State) (x : StageIn), InStage s 4 ∧ x.wf = true ∧ s.boot.sv = none) ∧
    (∃ (s : State) (x : StageIn) (b : Nat) (trial : Bool) (f : Flash) (l : List SvRec), InStage s 4 ∧ x.wf = true ∧
      s.boot.sv = some (b, trial) ∧ s.boot.flash = some f ∧ bankSurvey f b = l ∧ b < 2) ∧
    (∃ (s : State) (x : StageIn), InStage s 5 ∧ x.wf = true ∧ s.coreRuns = false) ∧
    (∃ (s : State) (x : StageIn), InStage s 5 ∧ x.wf = true ∧ s.coreRuns = true ∧ s.rd F.BOOT_STAT_RECOV 0 ≠ 1 ∧ s.rd
      F.BOOT_STAT_BOOTSEL 0 ≠ 2) ∧
    (∃ (s : State) (x : StageIn), InStage s 5 ∧ x.wf = true ∧ s.coreRuns = true ∧ s.rd F.BOOT_STAT_RECOV 0 ≠ 1 ∧ s.rd
      F.BOOT_STAT_BOOTSEL 0 = 2 ∧ s.rd F.BOOT_STAT_DBG_LOCK 0 ≠ 1) ∧
    (∃ (s : State) (x : StageIn), InStage s 5 ∧ x.wf = true ∧ s.coreRuns = true ∧ s.rd F.BOOT_STAT_RECOV 0 ≠ 1 ∧ s.rd
      F.BOOT_STAT_BOOTSEL 0 = 2 ∧ s.rd F.BOOT_STAT_DBG_LOCK 0 = 1) ∧
    (∃ (s : State) (x : StageIn), InStage s 5 ∧ x.wf = true ∧ (s.coreRuns = true ∧ s.rd F.BOOT_STAT_RECOV 0 = 1 ∧ ∀ n ∈
      List.range 16, s.rd F.PORT_CTL_EN n ≠ 1)) :=
  ⟨⟨up.wr F.BOOT_STAT_STAGE 0 12, ⟨.absent, 9⟩, by decide +kernel⟩,
   ⟨State.reset, ⟨.absent, 9⟩, by decide +kernel⟩,
   ⟨(((up.wr F.BOOT_STAT_STAGE 0 2).wr F.CLK_STAT_XTAL_OK 0 1).wr F.CLK_STAT_XPLL_LOCK 0 1).wr F.CLK_STAT_MPLL_LOCK 0 1, ⟨.absent, 9⟩, by decide +kernel⟩,
   ⟨up.wr F.BOOT_STAT_STAGE 0 2, ⟨.absent, 9⟩, by decide +kernel⟩,
   ⟨up.wr F.BOOT_STAT_STAGE 0 3, ⟨.absent, 9⟩, by decide +kernel⟩,
   ⟨up.wr F.BOOT_STAT_STAGE 0 3, ⟨.holds { flashE with dens := 25 }, 9⟩, { flashE with dens := 25 }, by decide +kernel⟩,
   ⟨(up.wr F.BOOT_STAT_STAGE 0 3).modBoot fun b => { b with keys := [2] }, ⟨.holds flash2, 9⟩, flash2, 0, 0, 0, 0, by exact ⟨by decide +kernel, by decide +kernel, rfl, by decide +kernel, rfl, flash2_sv, by decide +kernel, flash2_fw⟩⟩,
   ⟨(up.wr F.BOOT_STAT_STAGE 0 3).modBoot fun b => { b with keys := [2] }, ⟨.holds flashS, 9⟩, flashS, 0, 0, 9, 0, by decide +kernel⟩,
   ⟨up.wr F.BOOT_STAT_STAGE 0 3, ⟨.holds flash2, 9⟩, flash2, 0, 5, 0, by decide +kernel⟩,
   ⟨(up.wr F.BOOT_STAT_STAGE 0 3).modBoot fun b => { b with keys := [2] }, ⟨.holds flash3, 9⟩, flash3, flashAppend flash3 (flashArea flash3) .trial 1 1, 1, 0, 0, by exact ⟨by decide +kernel, by decide +kernel, rfl, by decide +kernel, by decide +kernel, by decide +kernel, by decide +kernel, rfl, by decide +kernel⟩⟩,
   ⟨up.wr F.BOOT_STAT_STAGE 0 4, ⟨.absent, 9⟩, by decide +kernel⟩,
   ⟨(up.wr F.BOOT_STAT_STAGE 0 4).modBoot fun b => { b with flash := some flashS, sv := some (0, true) }, ⟨.absent, 9⟩, 0, true, flashS, sv1, by decide +kernel⟩,
   ⟨State.reset.wr F.BOOT_STAT_STAGE 0 5, ⟨.absent, 9⟩, by decide +kernel⟩,
   ⟨(up.wr F.BOOT_STAT_STAGE 0 5).modBoot fun b => { b with survey := sv1 }, ⟨.absent, 9⟩, by decide +kernel⟩,
   ⟨(up.wr F.BOOT_STAT_STAGE 0 5).wr F.BOOT_STAT_BOOTSEL 0 2, ⟨.absent, 9⟩, by decide +kernel⟩,
   ⟨((up.wr F.BOOT_STAT_STAGE 0 5).wr F.BOOT_STAT_BOOTSEL 0 2).wr F.BOOT_STAT_DBG_LOCK 0 1, ⟨.absent, 9⟩, by decide +kernel⟩,
   ⟨(up.wr F.BOOT_STAT_STAGE 0 5).wr F.BOOT_STAT_RECOV 0 1, ⟨.absent, 9⟩, by decide +kernel⟩⟩

theorem wit_FirmwareStagesRun :
    (∃ (s : State) (x : StageIn), InStage s 6 ∧ x.wf = true ∧ s.boot.fw = none) ∧
    (∃ (s : State) (x : StageIn) (b : Nat) (trial : Bool), InStage s 6 ∧ x.wf = true ∧ s.boot.fw = some (b, trial) ∧ b <
      2) ∧
    (∃ (s : State) (x : StageIn), InStage s 7 ∧ x.wf = true ∧ LogRoom s) ∧
    (∃ (s : State) (x : StageIn), InStage s 8 ∧ x.wf = true ∧ s.boot.flash = none ∧ s.spareState 0 = 0 ∧ s.spareState 1
      = 0) ∧
    (∃ (s : State) (x : StageIn) (p : Section) (f : Flash), InStage s 8 ∧ x.wf = true ∧ (s.boot.flash = some f ∧
      sectionsAre (bankSections f (s.rd F.BOOT_STAT_FW_BANK 0)) 3 = [p] ∧ p.load % 256 = 0xFF ∧ phraseSigned f.crypto p
      = true ∧ phraseFits p = true ∧ (∀ y ∈ p.bytes, y < 256)) ∧ s.boot.survey = []) ∧
    (∃ (s : State) (x : StageIn), InStage s 9 ∧ x.wf = true ∧ svRegs s.boot.survey = []) ∧
    (∃ (s : State) (x : StageIn) (v : Nat), InStage s 9 ∧ x.wf = true ∧ svRegs s.boot.survey = [.regWrite [(0x4030, v)]]
      ∧ v < 2 ^ 25) ∧
    (∃ (s : State) (x : StageIn) (v : Nat), InStage s 9 ∧ x.wf = true ∧ svRegs s.boot.survey = [.regRmw [(0x4030,
      0xFFFF, v)]] ∧ v < 2 ^ 32 ∧ s.rd F.BOOT_UPD_CFG_AUTO_CONF 0 < 2 ∧ s.rd F.BOOT_UPD_CFG_SOAK 0 < 2 ^ 8 ∧ s.rd
      F.BOOT_UPD_CFG_ACT_DELAY 0 < 2 ^ 16) ∧
    (∃ (s : State) (x : StageIn) (a v b w : Nat), InStage s 9 ∧ x.wf = true ∧ svRegs s.boot.survey = [.regWrite
      [(0x4030, w), (a, v)]] ∧ w < 2 ^ 25 ∧ b = s.rd F.BOOT_STAT_SV_BANK 0 ∧ b < 2 ∧ regAt a = none ∧ windowAt a = none
      ∧ s.rd F.BOOT_STAT_SV_TRIAL 0 ≠ 1) ∧
    (∃ (s : State) (x : StageIn) (tally : Nat), InStage s 10 ∧ x.wf = true ∧ tally = tallyOf s.regs % 2 ^ 32 ∧
      s.boot.svTally % 2 ^ 32 = tally ∧ svLocks s.boot.survey = [] ∧ svMask s.boot.survey = 0) ∧
    (∃ (s : State) (x : StageIn) (tally v : Nat), InStage s 10 ∧ x.wf = true ∧ tally = tallyOf s.regs % 2 ^ 32 ∧
      s.boot.svTally % 2 ^ 32 = tally ∧ (s.boot.survey = [.lock v] ∧ ∀ f ∈ Reg.GLB_LOCK.fields, s.rd f 0 < 2 ^ f.w)) ∧
    (∃ (s : State) (x : StageIn) (tally n k : Nat), InStage s 10 ∧ x.wf = true ∧ tally = tallyOf s.regs % 2 ^ 32 ∧
      s.boot.svTally % 2 ^ 32 = tally ∧ n < 16 ∧ s.boot.survey = [.release (2 ^ n) k] ∧ s.present n = true ∧ s.rd
      F.PORT_CTL_EN n ≠ 1 ∧ s.rd F.PORT_CFG_PERST_EN n ≠ 1 ∧ s.rd F.PORT_CFG_PRSNT_EN n ≠ 1 ∧ s.rd F.PORT_STAT_RSTDONE n
      = 1 ∧ s.ltssm n = 0x1F ∧ (∀ ls ∈ s.portLs n, (s.lane ls).tx = false) ∧ (s.port n).foundO = 0 ∧ (s.port n).foundI =
      0) ∧
    (∃ (s : State) (x : StageIn) (tally b : Nat), InStage s 10 ∧ x.wf = true ∧ tally = tallyOf s.regs % 2 ^ 32 ∧
      s.boot.svTally % 2 ^ 32 ≠ tally ∧ s.rd F.BOOT_STAT_SV_TRIAL 0 ≠ 1 ∧ b = s.rd F.BOOT_STAT_SV_BANK 0 ∧ b < 2) :=
  ⟨⟨up.wr F.BOOT_STAT_STAGE 0 6, ⟨.absent, 9⟩, by decide +kernel⟩,
   ⟨(up.wr F.BOOT_STAT_STAGE 0 6).modBoot fun b => { b with fw := some (1, true) }, ⟨.absent, 9⟩, 1, true, by decide +kernel⟩,
   ⟨(up.wr F.BOOT_STAT_STAGE 0 7).wrByte 0x300000 9, ⟨.absent, 9⟩, by decide +kernel⟩,
   ⟨(up.wr F.BOOT_STAT_STAGE 0 8).modBoot fun b => { b with survey := [.width 0o11111111] }, ⟨.absent, 9⟩, by decide +kernel⟩,
   ⟨(up.wr F.BOOT_STAT_STAGE 0 8).modBoot fun b => { b with flash := some flash2 }, ⟨.absent, 9⟩, ⟨3, 0xFF, phrase0⟩, flash2, by decide +kernel⟩,
   ⟨(up.wr F.BOOT_STAT_STAGE 0 9).modBoot fun b => { b with survey := sv1 }, ⟨.absent, 9⟩, by decide +kernel⟩,
   ⟨wrS (.regWrite [(0x4030, 0x1FE1234)]), ⟨.absent, 9⟩, 0x1FE1234, by decide +kernel⟩,
   ⟨wrS (.regRmw [(0x4030, 0xFFFF, 0xFFFFFFFF)]), ⟨.absent, 9⟩, 0xFFFFFFFF, by decide +kernel⟩,
   ⟨wrS (.regWrite [(0x4030, 0x1FE1234), (0xFFC, 1)]), ⟨.absent, 9⟩, 0xFFC, 1, 0, 0x1FE1234, by decide +kernel⟩,
   ⟨stS [] 2 id, ⟨.absent, 9⟩, tallyOf (stS [] 2 id).regs % 2 ^ 32, by exact ⟨by decide +kernel, by decide +kernel, rfl, stS_eq _ _ _ fun _ => rfl, by decide +kernel⟩⟩,
   ⟨stS [.lock 1] 2 id, ⟨.absent, 9⟩, tallyOf (stS [.lock 1] 2 id).regs % 2 ^ 32, 1, by exact ⟨by decide +kernel, by decide +kernel, rfl, stS_eq _ _ _ fun _ => rfl, by decide +kernel⟩⟩,
   ⟨stS [.release 1 0] 3 id, ⟨.absent, 9⟩, tallyOf (stS [.release 1 0] 3 id).regs % 2 ^ 32, 0, 0, by exact ⟨by decide +kernel, by decide +kernel, rfl, stS_eq _ _ _ fun _ => rfl, by decide +kernel⟩⟩,
   ⟨stS [] 4 (· + 1), ⟨.absent, 9⟩, tallyOf (stS [] 4 (· + 1)).regs % 2 ^ 32, 0, by exact ⟨by decide +kernel, by decide +kernel, rfl, stS_ne _ _ _ ne_next, by decide +kernel⟩⟩⟩

theorem wit_TheTallyIsComparedCommittedAndAdopted :
    (∃ (s : State), Quiet s ∧ (s.boot.pass = none ∨ s.coreRuns = false)) ∧
    (∃ (s : State) (p : TallyPass), Quiet s ∧ s.coreRuns = true ∧ s.boot.pass = some p ∧ tallyChanged p.regs s.regs = []
      ∧ (s.rd F.GLB_TALLY_STAT_REF_VALID 0 ≠ 1 ∨ s.rd F.GLB_TALLY_CTL_SUSP 0 = 1)) ∧
    (∃ (s : State) (p : TallyPass), Quiet s ∧ s.coreRuns = true ∧ s.boot.pass = some p ∧ tallyChanged p.regs s.regs = []
      ∧ s.rd F.GLB_TALLY_STAT_REF_VALID 0 = 1 ∧ s.rd F.GLB_TALLY_CTL_SUSP 0 = 0) ∧
    (∃ (s : State) (p : TallyPass), Quiet s ∧ s.coreRuns = true ∧ s.boot.pass = some p ∧ tallyChanged p.regs s.regs ≠ []
      ∧ (s.rd F.GLB_TALLY_STAT_REF_VALID 0 ≠ 1 ∨ s.rd F.GLB_TALLY_CTL_SUSP 0 = 1)) ∧
    (∃ (s : State) (r : Requester), BusReady s r) ∧
    (∃ (s : State) (r : Requester), BusReady s r) :=
  ⟨⟨up, by decide +kernel⟩,
   ⟨up.modBoot fun b => { b with pass := some ⟨up.regs, 1, true⟩ }, ⟨up.regs, 1, true⟩, by exact ⟨by decide +kernel, by decide +kernel, rfl, tally_self up.regs, by decide +kernel⟩⟩,
   ⟨(up.wr F.GLB_TALLY_STAT_REF_VALID 0 1).modBoot fun b => { b with pass := some ⟨(up.wr F.GLB_TALLY_STAT_REF_VALID 0 1).regs, 1, true⟩ }, ⟨(up.wr F.GLB_TALLY_STAT_REF_VALID 0 1).regs, 1, true⟩, by exact ⟨by decide +kernel, by decide +kernel, rfl, tally_self (up.wr F.GLB_TALLY_STAT_REF_VALID 0 1).regs, by decide +kernel⟩⟩,
   ⟨(link 0).modBoot fun b => { b with pass := some ⟨State.reset.regs, 1, true⟩ }, ⟨State.reset.regs, 1, true⟩, by decide +kernel⟩,
   ⟨up, .secure, by decide +kernel⟩,
   ⟨up, .normal, by decide +kernel⟩⟩

theorem wit_TrialsAreConfirmedOrReverted :
    (∃ (s : State) (r : Requester) (f g : Flash) (fw sv : Bool), BusReady s r ∧ Writable s f 2 ∧ s.rd
      F.BOOT_UPD_STAT_WINDOW 0 = 1 ∧ fw = s.flag F.BOOT_STAT_FW_TRIAL 0 ∧ sv = s.flag F.BOOT_STAT_SV_TRIAL 0 ∧ (fw ||
      sv) = true ∧ s.rd F.BOOT_STAT_FW_TRIAL 0 < 2 ∧ s.rd F.BOOT_STAT_SV_TRIAL 0 < 2 ∧ g = loggedIf sv (loggedIf fw f
      s.boot.area .confirmed 1 (s.rd F.BOOT_STAT_FW_BANK 0)) s.boot.area .confirmed 2 (s.rd F.BOOT_STAT_SV_BANK 0)) ∧
    (∃ (s : State) (r : Requester), BusReady s r ∧ s.rd F.BOOT_UPD_STAT_WINDOW 0 ≠ 1) ∧
    (∃ (s : State) (f g : Flash) (fw sv : Bool), Quiet s ∧ s.mayConfirm = true ∧ Writable s f 2 ∧ fw = s.flag
      F.BOOT_STAT_FW_TRIAL 0 ∧ sv = s.flag F.BOOT_STAT_SV_TRIAL 0 ∧ (fw || sv) = true ∧ s.rd F.BOOT_STAT_FW_TRIAL 0 < 2
      ∧ s.rd F.BOOT_STAT_SV_TRIAL 0 < 2 ∧ g = loggedIf sv (loggedIf fw f s.boot.area .confirmed 1 (s.rd
      F.BOOT_STAT_FW_BANK 0)) s.boot.area .confirmed 2 (s.rd F.BOOT_STAT_SV_BANK 0)) ∧
    (∃ (s : State), Quiet s ∧ (s.rd F.BOOT_UPD_CFG_AUTO_CONF 0 ≠ 1 ∨ s.rd F.BOOT_UPD_STAT_WINDOW 0 ≠ 1 ∨ s.rd
      F.MGMT_STAT_LRUN 0 ≠ 1 ∨ s.rd F.BOOT_STAT_STAGE 0 ≠ 11 ∨ s.boot.failed = true ∨ s.boot.lantern ≠ none ∨
      s.boot.tallyOk = false ∨ s.boot.wdog = true ∨ ∃ k ∈ s.boot.swaps, s.rd F.CLK_SCHED_STAT_RESULT k ≠ 1)) ∧
    (∃ (s : State) (r : Requester) (f g : Flash) (b q : Nat), BusReady s r ∧ Unsent s ∧ Writable s f 1 ∧ s.rd
      F.BOOT_UPD_STAT_WINDOW 0 = 1 ∧ s.rd F.BOOT_STAT_RECOV 0 = 0 ∧ trialOpen (flashLog f) 2 = none ∧ choose f
      s.boot.keys 1 (minFw s.boot.survey) true = ⟨some (b, false), some (.reverted, q), true, none⟩ ∧ b < 2 ∧ q < 2 ∧ g
      = flashAppend f s.boot.area .reverted 1 q) ∧
    (∃ (s : State) (r : Requester), BusReady s r ∧ s.rd F.BOOT_UPD_STAT_WINDOW 0 ≠ 1) ∧
    (∃ (s : State) (f g : Flash) (b q : Nat), Quiet s ∧ Unsent s ∧ Writable s f 1 ∧ s.rd F.BOOT_UPD_STAT_WINDOW 0 = 1 ∧
      s.rd F.BOOT_STAT_RECOV 0 = 0 ∧ trialOpen (flashLog f) 2 = none ∧ choose f s.boot.keys 1 (minFw s.boot.survey) true
      = ⟨some (b, false), some (.reverted, q), true, none⟩ ∧ b < 2 ∧ q < 2 ∧ g = flashAppend f s.boot.area .reverted 1
      q) ∧
    (∃ (s : State), Quiet s ∧ s.rd F.BOOT_UPD_STAT_WINDOW 0 ≠ 1) ∧
    (∃ (s : State) (r : Requester), BusReady s r ∧ s.boot.flash = none) ∧
    (∃ (s : State) (r : Requester) (f g : Flash) (b1 b2 : Nat) (p1 p2 : Bool), BusReady s r ∧ Writable s f 2 ∧ b1 = 1 -
      (flashReplay f 1).conf.getD 0 ∧ b2 = 1 - (flashReplay f 2).conf.getD 0 ∧ p1 = (headerPasses s.boot.keys f 1 b1 &&
      (flashReplay f 1).ver b1 == some (bankDigest f 1 b1)) ∧ p2 = (headerPasses s.boot.keys f 2 b2 && (flashReplay f
      2).ver b2 == some (bankDigest f 2 b2)) ∧ (p1 || p2) = true ∧ g = loggedIf p2 (loggedIf p1 f s.boot.area .pending 1
      b1) s.boot.area .pending 2 b2) ∧
    (∃ (s : State) (r : Requester) (f : Flash), BusReady s r ∧ s.boot.flash = some f ∧ (flashReplay f 1).ver (1 -
      (flashReplay f 1).conf.getD 0) = none ∧ (flashReplay f 2).ver (1 - (flashReplay f 2).conf.getD 0) = none) ∧
    (∃ (s : State) (r : Requester), BusReady s r ∧ s.rd F.BOOT_STAT_STAGE 0 = 12) ∧
    (∃ (s : State) (r : Requester), BusReady s r ∧ s.rd F.BOOT_STAT_STAGE 0 ≠ 12) ∧
    (∃ (s : State) (r : Requester), BusReady s r) ∧
    (∃ (s : State), Quiet s) :=
  ⟨⟨trialS flashE, .secure, flashE, flashAppend flashE 0 .confirmed 1 1, true, false, by decide +kernel⟩,
   ⟨up, .secure, by decide +kernel⟩,
   ⟨trialS flashE, flashE, flashAppend flashE 0 .confirmed 1 1, true, false, by decide +kernel⟩,
   ⟨(trialS flashE).modBoot fun b => { b with wdog := true }, by decide +kernel⟩,
   ⟨trialS flash4, .secure, flash4, flashAppend flash4 0 .reverted 1 1, 0, 1, by exact ⟨by decide +kernel, by decide +kernel, by decide +kernel, by decide +kernel, by decide +kernel, by decide +kernel, flash4_fw, by decide, by decide, by decide +kernel⟩⟩,
   ⟨up, .secure, by decide +kernel⟩,
   ⟨trialS flash4, flash4, flashAppend flash4 0 .reverted 1 1, 0, 1, by exact ⟨by decide +kernel, by decide +kernel, by decide +kernel, by decide +kernel, by decide +kernel, by decide +kernel, flash4_fw, by decide, by decide, by decide +kernel⟩⟩,
   ⟨up, by decide +kernel⟩,
   ⟨up, .secure, by decide +kernel⟩,
   ⟨trialS flash5, .secure, flash5, flashAppend flash5 0 .pending 1 1, 1, 1, true, false, by decide +kernel⟩,
   ⟨pldmS 0, .secure, flash0, by decide +kernel⟩,
   ⟨(up.wr F.BOOT_STAT_STAGE 0 12).modBoot fun b => { b with survey := [.device 0x3234 1 0, .clock 0 4, .endRec] }, .jtag, by decide +kernel⟩,
   ⟨up, .secure, by decide +kernel⟩,
   ⟨up, .secure, by decide +kernel⟩,
   ⟨up.wr F.BOOT_SPI_STAT_FBUSY 0 1, by decide +kernel⟩⟩

theorem wit_TheSumpTakesItsEvents :
    (∃ (s : State) (src inst detail : Nat) (level : Bool), Quiet s ∧ src < 128 ∧ inst < 256 ∧ detail < 256 ∧ isCondition
      src = false) ∧
    (∃ (s : State) (src inst detail : Nat), Quiet s ∧ src < 128 ∧ inst < 256 ∧ detail < 256 ∧ isCondition src = true ∧
      s.causes.contains (src, inst + 256 * detail) = false) ∧
    (∃ (s : State) (src inst detail : Nat), Quiet s ∧ src < 128 ∧ inst < 256 ∧ detail < 256 ∧ isCondition src = true ∧
      s.causes.contains (src, inst + 256 * detail) = true) ∧
    (∃ (s : State) (src inst detail : Nat), Quiet s ∧ src < 128 ∧ inst < 256 ∧ detail < 256 ∧ isCondition src = true ∧
      s.causes.contains (src, inst + 256 * detail) = true) ∧
    (∃ (s : State) (src : Nat), Quiet s ∧ src < 128 ∧ (srcRow src).isSome = true ∧ s.causes.contains (0, src) = false) ∧
    (∃ (s : State) (src : Nat), Quiet s ∧ src < 128 ∧ srcRow src = none) ∧
    (∃ (s : State) (src : Nat), Quiet s ∧ src < 128 ∧ (srcRow src).isSome = true ∧ s.causes = [(0, src)]) ∧
    (∃ (s : State) (r : Requester) (src inst detail : Nat), BusReady s r ∧ src < 128 ∧ inst < 256 ∧ detail < 256 ∧ s.rd
      F.GLB_LOCK_SUMP 0 ≠ 1) ∧
    (∃ (s : State) (r : Requester) (src inst detail : Nat), BusReady s r ∧ src < 128 ∧ inst < 256 ∧ detail < 256 ∧ s.rd
      F.GLB_LOCK_SUMP 0 = 1 ∧ s.werrAny = true) ∧
    (∃ (s : State), Quiet s) ∧
    (∃ (s : State) (src inst detail : Nat) (level : Bool), Quiet s ∧ src < 128 ∧ inst < 256 ∧ detail < 256 ∧ isCondition
      src = false ∧ (srcRow src).isSome = true ∧ srcFixed src = false ∧ s.rd F.SUMP_SRC_STAT_WIREF src ≠ 1 ∧ s.rd
      F.SUMP_SRC_CFG_REACT src = 0 ∧ s.rd F.SUMP_SRC_CFG_IRQ src = 0 ∧ s.rd F.SUMP_SRC_STAT_HELD src = 1 ∧ (s.rd
      F.SUMP_SRC_STAT_STATE src = 0 ∨ s.rd F.SUMP_SRC_STAT_STATE src = 1 ∧ s.srcWindow src ≤ s.drip - s.winStart.get src
      0)) ∧
    (∃ (s : State) (src inst detail : Nat) (level : Bool), Quiet s ∧ src < 128 ∧ inst < 256 ∧ detail < 256 ∧ isCondition
      src = false ∧ (srcRow src).isSome = true ∧ srcFixed src = false ∧ s.rd F.SUMP_SRC_STAT_WIREF src ≠ 1 ∧ s.rd
      F.SUMP_SRC_CFG_REACT src = 0 ∧ s.rd F.SUMP_SRC_CFG_IRQ src = 0 ∧ s.rd F.SUMP_SRC_STAT_HELD src = 1 ∧ s.rd
      F.SUMP_SRC_STAT_STATE src = 1 ∧ s.drip - s.winStart.get src 0 < s.srcWindow src) ∧
    (∃ (s : State) (src inst detail : Nat) (level : Bool), Quiet s ∧ src < 128 ∧ inst < 256 ∧ detail < 256 ∧ isCondition
      src = false ∧ (srcRow src).isSome = true ∧ srcFixed src = false ∧ s.rd F.SUMP_SRC_STAT_WIREF src ≠ 1 ∧ s.rd
      F.SUMP_SRC_CFG_REACT src = 0 ∧ s.rd F.SUMP_SRC_CFG_IRQ src = 0 ∧ s.rd F.SUMP_SRC_STAT_HELD src ≠ 1 ∧ s.rd
      F.SUMP_SRC_STAT_STATE src = 2) ∧
    (∃ (s : State) (src inst detail : Nat) (level : Bool), Quiet s ∧ src < 128 ∧ inst < 256 ∧ detail < 256 ∧ isCondition
      src = false ∧ (srcRow src).isSome = true ∧ srcFixed src = false ∧ s.rd F.SUMP_SRC_STAT_WIREF src ≠ 1 ∧ s.rd
      F.SUMP_SRC_CFG_REACT src = 0 ∧ 2 ≤ s.rd F.SUMP_SRC_CFG_IRQ src ∧ s.rd F.SUMP_SRC_STAT_HELD src = 1 ∧ s.rd
      F.SUMP_SRC_STAT_STATE src = 2) :=
  ⟨⟨up, 127, 255, 255, true, by decide +kernel⟩,
   ⟨up, 35, 255, 255, by decide +kernel⟩,
   ⟨up.putCauses [(35, 0)], 35, 0, 0, by decide +kernel⟩,
   ⟨up.putCauses [(35, 0), (35, 1)], 35, 0, 0, by decide +kernel⟩,
   ⟨up, 58, by decide +kernel⟩,
   ⟨up, 127, by decide +kernel⟩,
   ⟨up.putCauses [(0, 58)], 58, by decide +kernel⟩,
   ⟨up, .secure, 0, 0, 0, by decide +kernel⟩,
   ⟨(up.wr F.GLB_LOCK_SUMP 0 1).wr F.GLB_WERR_PWR 0 1, .secure, 0, 0, 0, by decide +kernel⟩,
   ⟨up, by decide +kernel⟩,
   ⟨(up.wr F.SUMP_SRC_CFG_IRQ 36 0).wr F.SUMP_SRC_STAT_HELD 36 1, 36, 65, 0, true, by decide +kernel⟩,
   ⟨((up.wr F.SUMP_SRC_CFG_IRQ 36 0).wr F.SUMP_SRC_STAT_HELD 36 1).wr F.SUMP_SRC_STAT_STATE 36 1, 36, 65, 0, true, by decide +kernel⟩,
   ⟨(up.wr F.SUMP_SRC_CFG_IRQ 36 0).wr F.SUMP_SRC_STAT_STATE 36 2, 36, 65, 0, true, by decide +kernel⟩,
   ⟨((up.wr F.SUMP_SRC_CFG_IRQ 36 2).wr F.SUMP_SRC_STAT_STATE 36 2).wr F.SUMP_SRC_STAT_HELD 36 1, 36, 65, 0, true, by decide +kernel⟩⟩

theorem wit_SumpClears :
    (∃ (s : State) (src : Nat), Quiet s ∧ src < 128 ∧ s.rd F.SUMP_SRC_STAT_STATE src = 1 ∧ s.srcWindow src ≤ s.drip -
      s.winStart.get src 0) ∧
    (∃ (s : State) (src : Nat), Quiet s ∧ src < 128 ∧ ¬(s.rd F.SUMP_SRC_STAT_STATE src = 1 ∧ s.srcWindow src ≤ s.drip -
      s.winStart.get src 0)) ∧
    (∃ (s : State) (r : Requester) (src : Nat), BusReady s r ∧ src < 128 ∧ (srcRow src).isSome = true ∧ s.rd
      F.SUMP_SRC_STAT_CAUSE src ≠ 1) ∧
    (∃ (s : State) (r : Requester) (src : Nat), BusReady s r ∧ src < 128 ∧ (srcRow src).isSome = true ∧ s.rd
      F.SUMP_SRC_STAT_CAUSE src = 1 ∧ s.werrAny = true) ∧
    (∃ (s : State) (r : Requester) (src : Nat), BusReady s r ∧ src < 128 ∧ srcRow src = none) ∧
    (∃ (s : State) (r : Requester), BusReady s r) ∧
    (∃ (s : State) (r : Requester), BusReady s r) ∧
    (∃ (s : State) (r : Requester), BusReady s r) ∧
    (∃ (s : State), BusReady s .normal) ∧
    (∃ (s : State) (r : Requester), BusReady s r ∧ r ≠ .normal ∧ s.werrAny = true) :=
  ⟨⟨(up.wr F.SUMP_SRC_STAT_STATE 127 1).setDrip 5000, 127, by decide +kernel⟩,
   ⟨up, 127, by decide +kernel⟩,
   ⟨up, .secure, 58, by decide +kernel⟩,
   ⟨(up.wr F.SUMP_SRC_STAT_CAUSE 58 1).wr F.GLB_WERR_GLB 0 1, .secure, 58, by decide +kernel⟩,
   ⟨up, .secure, 127, by decide +kernel⟩,
   ⟨up, .normal, by decide +kernel⟩,
   ⟨up, .normal, by decide +kernel⟩,
   ⟨up, .normal, by decide +kernel⟩,
   ⟨up, by decide +kernel⟩,
   ⟨up.wr F.GLB_WERR_GLB 0 1, .secure, by decide +kernel⟩⟩

theorem wit_QstopQuiescesAndReleases :
    (∃ (s : State), Quiet s ∧ (∀ n ∈ List.range 16, s.ltssm n = 0x1F ∨ s.ltssm n = 0x1D ∨ s.ltssm n = 0) ∧
      s.causes.contains (1, 0) = false) ∧
    (∃ (s : State), Quiet s ∧ s.causes.contains (1, 0) = false) ∧
    (∃ (s : State), Quiet s ∧ s.causes = [(1, 0)]) ∧
    (∃ (s : State), Quiet s ∧ s.rd F.SUMP_QSTOP_STAT_DISAG 0 = 1 ∧ s.causes.contains (1, 0) = false) ∧
    (∃ (s : State), Quiet s ∧ s.rd F.SUMP_QSTOP_STAT_DISAG 0 ≠ 1) ∧
    (∃ (s : State) (asserted : Bool), Quiet s ∧ s.flag F.SUMP_QSTOP_STAT_A 0 ≠ asserted) ∧
    (∃ (s : State) (asserted : Bool), Quiet s ∧ s.flag F.SUMP_QSTOP_STAT_B 0 ≠ asserted) :=
  ⟨⟨up, by decide +kernel⟩,
   ⟨up, by decide +kernel⟩,
   ⟨up.putCauses [(1, 0)], by decide +kernel⟩,
   ⟨up.wr F.SUMP_QSTOP_STAT_DISAG 0 1, by decide +kernel⟩,
   ⟨up, by decide +kernel⟩,
   ⟨up, true, by decide +kernel⟩,
   ⟨up, true, by decide +kernel⟩⟩

theorem wit_MemoryErrorsAreCountedAndScrubbed :
    (∃ (s : State) (mem word : Nat) (ov : Bool), Quiet s ∧ mem < 9 ∧ word < 2 ^ 24) ∧
    (∃ (s : State) (mem : Nat), Quiet s ∧ mem < 9 ∧ s.rd F.SUMP_ECC_STAT_LEVEL mem < 256) ∧
    (∃ (s : State) (mem : Nat), Quiet s ∧ mem < 9 ∧ (mem = 5 ∨ mem = 8 ∨ s.coreRuns = true) ∧ s.scrubPos.get mem 0 + 1 ≠
      memWords mem) ∧
    (∃ (s : State) (mem word : Nat), Quiet s ∧ mem < 9 ∧ word < 2 ^ 24 ∧ (mem = 5 ∨ mem = 8 ∨ s.coreRuns = true) ∧
      s.scrubPos.get mem 0 + 1 ≠ memWords mem) ∧
    (∃ (s : State) (mem word : Nat), Quiet s ∧ mem < 9 ∧ word < 2 ^ 24 ∧ (mem = 5 ∨ mem = 8 ∨ s.coreRuns = true) ∧
      s.scrubPos.get mem 0 + 1 ≠ memWords mem ∧ s.rd F.SUMP_ECC_STAT_LEVEL mem + 1 < s.rd F.SUMP_ECC_CFG_THR mem ∧ s.rd
      F.SUMP_ECC_CFG_THR mem < 256) ∧
    (∃ (s : State) (mem : Nat), Quiet s ∧ mem < 9 ∧ (mem = 5 ∨ mem = 8 ∨ s.coreRuns = true) ∧ s.scrubPos.get mem 0 + 1 =
      memWords mem ∧ s.rd F.SUMP_SCRUB_AGE_AGE mem < 2 ^ 32 ∧ s.causes.contains (13, mem) = false) :=
  ⟨⟨up, 8, 0xFFFFFF, true, by decide +kernel⟩,
   ⟨up, 8, by decide +kernel⟩,
   ⟨up, 8, by decide +kernel⟩,
   ⟨up, 8, 0xFFFFFF, by decide +kernel⟩,
   ⟨up, 8, 0xFFFFFF, by decide +kernel⟩,
   ⟨up.putScrubPos [(8, 16383)], 8, by decide +kernel⟩⟩

theorem wit_WritesFollowTheirAccessCodes :
    (∃ (s : State) (r : Requester) (n a v : Nat), CoreReady s r ∧ n < 16 ∧ a = 0x10028 + 0x1000 * n ∧ v < 256 ∧ s.portEn
      n = false) ∧
    (∃ (s : State) (r : Requester) (n a v : Nat), CoreReady s r ∧ n < 16 ∧ a = 0x10028 + 0x1000 * n ∧ v < 256 ∧ s.portEn
      n = true ∧ s.rd F.PORT_TMO_CFG_FWD_TMO n ≠ v ∧ s.rd F.PORT_TMO_CFG_PRSNT_DB n = 20 ∧ s.werrAny = false) ∧
    (∃ (s : State) (r : Requester) (n a v : Nat), CoreReady s r ∧ n < 16 ∧ a = 0x10028 + 0x1000 * n ∧ v < 256 ∧ s.portEn
      n = true ∧ s.rd F.PORT_TMO_CFG_FWD_TMO n ≠ v ∧ s.rd F.PORT_TMO_CFG_PRSNT_DB n = 20 ∧ s.werrAny = true) ∧
    (∃ (s : State) (r : Requester) (n a v : Nat), CoreReady s r ∧ n < 16 ∧ a = 0x10030 + 0x1000 * n ∧ v < 2 ^ 32 ∧ v &&&
      namedBits .PORT_LDN_LOG = v) ∧
    (∃ (s : State) (r : Requester), BusReady s r) ∧
    (∃ (s : State) (r : Requester), BusReady s r ∧ s.rd F.GLB_WERR_PORT 0 = 1 ∧ s.rd F.GLB_WERR_CLK 0 = 1 ∧ (∀ f ∈
      Reg.GLB_WERR.fields, s.rd f 0 < 2 ^ f.w)) ∧
    (∃ (s : State) (r : Requester) (v : Nat), BusReady s r ∧ v < 8) ∧
    (∃ (s : State) (r : Requester) (v : Nat), BusReady s r ∧ 8 ≤ v ∧ v < 2 ^ 32) ∧
    (∃ (s : State) (r : Requester) (a v : Nat), BusReady s r ∧ a < 2 ^ 32 ∧ v < 2 ^ 32 ∧ regAt a = none ∧ windowAt a =
      none) ∧
    (∃ (s : State) (r : Requester) (a v n : Nat) (g : Reg), BusReady s r ∧ a < 2 ^ 32 ∧ v < 2 ^ 32 ∧ regAt a = some (g,
      n) ∧ coreBlock a = true ∧ s.coreRuns = false) ∧
    (∃ (s : State) (a v : Nat), Quiet s ∧ a < 2 ^ 32 ∧ v < 2 ^ 32 ∧ s.flag F.BOOT_STAT_DBG_LOCK 0 = true) :=
  ⟨⟨up.wr F.PORT_CTL_EN 15 0, .normal, 15, 0x1F028, 255, by decide +kernel⟩,
   ⟨(link 0).wr F.PORT_CTL_EN 0 1, .jtag, 0, 0x10028, 255, by decide +kernel⟩,
   ⟨((link 0).wr F.PORT_CTL_EN 0 1).wr F.GLB_WERR_GLB 0 1, .secure, 0, 0x10028, 0, by decide +kernel⟩,
   ⟨up, .normal, 15, 0x1F030, 255, by decide +kernel⟩,
   ⟨(up.wr F.GLB_WERR_PORT 0 1).wr F.GLB_WERR_ADDR_V 0 1, .normal, by decide +kernel⟩,
   ⟨((up.wr F.GLB_WERR_PORT 0 1).wr F.GLB_WERR_CLK 0 1).wr F.GLB_WERR_ADDR_V 0 1, .normal, by decide +kernel⟩,
   ⟨up.wr F.GLB_LOCK_SUMP 0 1, .normal, 6, by decide +kernel⟩,
   ⟨up, .normal, 8, by decide +kernel⟩,
   ⟨up, .normal, 0x80000000, 0xFFFFFFFF, by decide +kernel⟩,
   ⟨State.reset, .normal, 0x10028, 0, 0, .PORT_TMO_CFG, by decide +kernel⟩,
   ⟨up.wr F.BOOT_STAT_DBG_LOCK 0 1, 0x20, 7, by decide +kernel⟩⟩

theorem wit_PairsSnapshotsAndTheWindow :
    (∃ (s : State) (r : Requester) (ns : Nat), BusReady s r ∧ ns < 1999) ∧
    (∃ (s : State) (r : Requester) (ns : Nat), BusReady s r ∧ ns < 2000) ∧
    (∃ (s : State) (ns : Nat), Quiet s ∧ ns < 2000 ∧ s.flag F.BOOT_STAT_DBG_LOCK 0 = true) ∧
    (∃ (s : State) (r : Requester) (v : Nat), BusReady s r ∧ v < 2 ^ 32) ∧
    (∃ (s : State) (r : Requester) (v w : Nat), BusReady s r ∧ v < 65536 ∧ w < 2 ^ 32 ∧ s.staged.get 0x103C 0 = w + 1) ∧
    (∃ (s : State) (r : Requester) (v : Nat), BusReady s r ∧ v < 65536 ∧ s.staged.get 0x103C 0 = 0 ∧ s.rd
      F.CLK_TSYNC_LOAD_LO_LOAD_LO 0 < 2 ^ 32) ∧
    (∃ (s : State) (r : Requester) (a v n : Nat) (g : Reg), CoreReady s r ∧ 0x8000 ≤ a ∧ a < 0x10000 ∧ v < 2 ^ 32 ∧
      regAt a = some (g, n) ∧ compatWritable g = true ∧ s.flag F.GLB_MODE_COMPAT_EN 0 = true ∧ s.compat.length < 32) ∧
    (∃ (s : State) (r : Requester) (a v n : Nat) (g : Reg), CoreReady s r ∧ 0x8000 ≤ a ∧ a < 0x10000 ∧ v < 2 ^ 32 ∧
      regAt a = some (g, n) ∧ compatWritable g = true ∧ s.flag F.GLB_MODE_COMPAT_EN 0 = true ∧ 32 ≤ s.compat.length ∧
      s.werrAny = false) ∧
    (∃ (s : State) (r : Requester) (a v n : Nat) (g : Reg), CoreReady s r ∧ 0x8000 ≤ a ∧ a < 0x10000 ∧ v < 2 ^ 32 ∧
      regAt a = some (g, n) ∧ compatWritable g = false ∧ s.flag F.GLB_MODE_COMPAT_EN 0 = true ∧ s.werrAny = true) ∧
    (∃ (s : State) (r : Requester) (a v : Nat), CoreReady s r ∧ 0x8000 ≤ a ∧ a < 0x10000 ∧ a % 4 = 0 ∧ v < 2 ^ 32 ∧
      s.flag F.GLB_MODE_COMPAT_EN 0 = false) ∧
    (∃ (s : State) (r : Requester), BusReady s r ∧ s.flag F.GLB_MODE_COMPAT_EN 0 = true) ∧
    (∃ (s : State) (ins : TapIns), Quiet s) ∧
    (∃ (s : State) (how : TapRst), Quiet s) :=
  ⟨⟨up.setDrip (2 ^ 47 + 5), .jtag, 1998, by decide +kernel⟩,
   ⟨up.putSnaps [(4 * 0x1024, 9)], .normal, 0, by decide +kernel⟩,
   ⟨up.wr F.BOOT_STAT_DBG_LOCK 0 1, 0, by decide +kernel⟩,
   ⟨up, .normal, 0xFFFFFFFF, by decide +kernel⟩,
   ⟨up.putStaged [(0x103C, 2 ^ 32)], .normal, 65535, 2 ^ 32 - 1, by decide +kernel⟩,
   ⟨up, .normal, 65535, by decide +kernel⟩,
   ⟨up.wr F.GLB_MODE_COMPAT_EN 0 1, .normal, 0xC700, 0xFFFFFFFF, 7, .CW_PORT_CTL, by decide +kernel⟩,
   ⟨(up.wr F.GLB_MODE_COMPAT_EN 0 1).putCompat (List.replicate 32 (0xC000, 0)), .normal, 0xC700, 0xFFFFFFFF, 7, .CW_PORT_CTL, by decide +kernel⟩,
   ⟨(up.wr F.GLB_MODE_COMPAT_EN 0 1).wr F.GLB_WERR_GLB 0 1, .normal, 0xF000, 0, 0, .CW_ID, by decide +kernel⟩,
   ⟨up.wr F.GLB_MODE_COMPAT_EN 0 0, .normal, 0xC700, 0, by decide +kernel⟩,
   ⟨(up.wr F.GLB_MODE_COMPAT_EN 0 1).wr F.CW_WBUF_OVF 0 1, .normal, by decide +kernel⟩,
   ⟨up, .extestTrain, by decide +kernel⟩,
   ⟨up.putTap (some .extest), .fiveTms, by decide +kernel⟩⟩

end Sys2Proof.Tests
end

section
/-! SUPPORT. No operation of the model touches the commands that wait (R400, R401). One equation for each operation, in the
model's order; the operations over the state itself have theirs in Laws/State. `simp` takes its steps here with
`-implicitDefEqProofs` where a loop's body is one of those, or where the kernel would evaluate the state to see that an
equation holds by definition. -/
namespace Sys2Proof.Machine

@[simp] theorem State.pending_ite (c : Prop) [Decidable c] (a b : State) :
    (if c then a else b).pending = if c then a.pending else b.pending := apply_ite State.pending c a b
@[simp] theorem forUp_pending {f : Nat → State → State} (n : Nat) (s : State) (h : ∀ i a, (f i a).pending = a.pending) :
    (forUp n f s).pending = s.pending := forUp_eq State.pending n s h
@[simp] theorem forEach_pending {α : Type} {f : α → State → State} (l : List α) (s : State) (h : ∀ x a, (f x a).pending = a.pending) :
    (forEach l f s).pending = s.pending := forEach_eq State.pending l s h
@[simp] theorem foldl_pending {α : Type} {f : State → α → State} (l : List α) (s : State) (h : ∀ a x, (f a x).pending = a.pending) :
    (l.foldl f s).pending = s.pending := by
  induction l generalizing s with
  | nil => rfl
  | cons x t ih => rw [List.foldl_cons, ih, h]

/-! Registers and memories -/

@[simp] theorem State.rst_pending (s : State) (f : Fld) (i : Nat) : (s.rst f i).pending = s.pending := by simp [State.rst]
@[simp] theorem State.rstAll_pending (s : State) (fs : List Fld) (i : Nat) : (s.rstAll fs i).pending = s.pending := by simp [State.rstAll]
@[simp] theorem State.wrBoth_pending (s : State) (f : Fld) (i v : Nat) : (s.wrBoth f i v).pending = s.pending := by simp [State.wrBoth]
@[simp] theorem State.rstBoth_pending (s : State) (f : Fld) (i : Nat) : (s.rstBoth f i).pending = s.pending := by simp [State.rstBoth]
@[simp] theorem State.modPort_pending (s : State) (n : Nat) (f : PortSt → PortSt) : (s.modPort n f).pending = s.pending := by
  simp [State.modPort]
@[simp] theorem State.modFl_pending (s : State) (k : Nat) (f : FlitSt → FlitSt) : (s.modFl k f).pending = s.pending := by simp [State.modFl]
@[simp] theorem State.modLane_pending (s : State) (k : Nat) (f : LaneSt → LaneSt) : (s.modLane k f).pending = s.pending := by
  simp [State.modLane]
@[simp] theorem State.modHeat_pending (s : State) (k : Nat) (f : HeatP → HeatP) : (s.modHeat k f).pending = s.pending := by
  simp [State.modHeat]
@[simp] theorem State.modView_pending (s : State) (k : Nat) (f : ViewSt → ViewSt) : (s.modView k f).pending = s.pending := by
  simp [State.modView]
@[simp] theorem State.free_pending (s : State) : (s.free).2.pending = s.pending := by simp [State.free]
@[simp] theorem State.setDrip_pending (s : State) (d : Nat) : (s.setDrip d).pending = s.pending := by simp [State.setDrip]

/-! Flags and counters -/

@[simp] theorem State.incBy_pending (s : State) (f : Fld) (i n : Nat) : (s.incBy f i n).pending = s.pending := by simp [State.incBy]
@[simp] theorem State.inc_pending (s : State) (f : Fld) (i : Nat) : (s.inc f i).pending = s.pending := by simp [State.inc]
@[simp] theorem State.incWrap_pending (s : State) (f : Fld) (i : Nat) : (s.incWrap f i).pending = s.pending := by simp [State.incWrap]
@[simp] theorem State.setF_pending (s : State) (f : Fld) (i : Nat) : (s.setF f i).pending = s.pending := by simp [State.setF]
@[simp] theorem State.clr_pending (s : State) (f : Fld) (i : Nat) : (s.clr f i).pending = s.pending := by simp [State.clr]
@[simp] theorem State.clrAll_pending (s : State) (fs : List Fld) (i : Nat) : (s.clrAll fs i).pending = s.pending := by simp [State.clrAll]
@[simp] theorem State.wrB_pending (s : State) (f : Fld) (i : Nat) (b : Bool) : (s.wrB f i b).pending = s.pending := by simp [State.wrB]
@[simp] theorem State.wrMax_pending (s : State) (f : Fld) (i v : Nat) : (s.wrMax f i v).pending = s.pending := by simp [State.wrMax]
@[simp] theorem State.inc48_pending (s : State) (lo hi : Fld) (i n : Nat) : (s.inc48 lo hi i n).pending = s.pending := by simp [State.inc48]
@[simp] theorem State.clrFlitCounters_pending (s : State) (n : Nat) : (s.clrFlitCounters n).pending = s.pending := by
  simp [State.clrFlitCounters]
@[simp] theorem State.refuse_pending (s : State) (f : Fld) (req addr : Nat) : (s.refuse f req addr).pending = s.pending := by
  simp [State.refuse]

/-! The heat map (chapter 7) -/

@[simp] theorem State.lookup_pending (s : State) (p : Nat) (zoom : Bool) (idx : Nat) (isRead : Bool) :
    (s.lookup p zoom idx isRead).pending = s.pending := by simp [State.lookup]
@[simp] theorem State.countMsg_pending (s : State) (p : Nat) (m : MemMsg) (isRead : Bool) :
    (s.countMsg p m isRead).pending = s.pending := by
  unfold State.countMsg
  refine (forUp_pending _ _ fun z t => ?_).trans ?_
  · split
    · split <;> simp
    · rfl
  · split
    · split <;> simp
    · rfl
@[simp] theorem State.parseMsg_pending (s : State) (p : Nat) (m : MemMsg) : (s.parseMsg p m).pending = s.pending := by
  unfold State.parseMsg
  split <;> simp
@[simp] theorem State.heatFlit_pending (s : State) (p : Nat) (good inSeq ide : Bool) (info : FlitInfo) :
    (s.heatFlit p good inSeq ide info).pending = s.pending := by simp [State.heatFlit]
@[simp] theorem State.expBusy_pending (s : State) : s.expBusy.pending = s.pending := by simp [State.expBusy]
@[simp] theorem State.endExport_pending (s : State) (p : Nat) : (s.endExport p).pending = s.pending := by simp [State.endExport]
@[simp] theorem State.abandonExport_pending (s : State) (p : Nat) : (s.abandonExport p).pending = s.pending := by simp [State.abandonExport]
@[simp] theorem State.pauseExport_pending (s : State) (p : Nat) : (s.pauseExport p).pending = s.pending := by simp [State.pauseExport]
@[simp] theorem State.resumeExport_pending (s : State) (p : Nat) : (s.resumeExport p).pending = s.pending := by simp [State.resumeExport]
@[simp] theorem State.chunkSent_pending (s : State) (p : Nat) : (s.chunkSent p).pending = s.pending := by
  simp only [State.chunkSent]
  (repeat' split) <;> simp
@[simp] theorem State.flushCache_pending (s : State) (p : Nat) : (s.flushCache p).pending = s.pending := by simp [State.flushCache]
@[simp] theorem State.loseUpdates_pending (s : State) (p b n : Nat) : (s.loseUpdates p b n).pending = s.pending := by
  simp [State.loseUpdates]
@[simp] theorem State.dropCache_pending (s : State) (p : Nat) : (s.dropCache p).pending = s.pending := by simp [State.dropCache]

/-! Views -/

@[simp] theorem State.advanceTx_pending (k : Nat) (s : State) (v : Nat) : (State.advanceTx k s v).pending = s.pending := by
  induction k generalizing s with
  | zero => rfl
  | succ k ih => simp [State.advanceTx, ih]
@[simp] theorem State.rspFree_pending (s : State) (v p : Nat) : (s.rspFree v p).pending = s.pending := by simp [State.rspFree]
@[simp] theorem State.rspSent_pending (s : State) (v p : Nat) : (s.rspSent v p).pending = s.pending := by simp [State.rspSent]
@[simp] theorem State.rspDrop_pending (s : State) (v : Nat) (p : Option Nat) : (s.rspDrop v p).pending = s.pending := by
  unfold State.rspDrop
  split <;> simp
@[simp] theorem State.dropClass3_pending (s : State) (n : Nat) : (s.dropClass3 n).pending = s.pending := by simp [State.dropClass3]

/-! Leaving association -/

@[simp] theorem State.leaveSlots_pending (s : State) (n : Nat) : (s.leaveSlots n).pending = s.pending := by simp [State.leaveSlots]

/-! Capture -/

@[simp] theorem State.capQueueRec_pending (s : State) (n d : Nat) (h : Handed) (trig : Bool) :
    (s.capQueueRec n d h trig).2.pending = s.pending := by
  unfold State.capQueueRec
  split <;> simp
@[simp] theorem State.capPostStart_pending (s : State) (n idx left : Nat) : (s.capPostStart n idx left).pending = s.pending := by
  simp [State.capPostStart]
@[simp] theorem State.capTrigger_pending (s : State) (n : Nat) : (s.capTrigger n).pending = s.pending := by simp [State.capTrigger]
@[simp] theorem State.captureFlit_pending (s : State) (n d : Nat) (h : Handed) : (s.captureFlit n d h).pending = s.pending := by
  simp [State.captureFlit]
@[simp] theorem State.capDrip_pending (s : State) (n : Nat) : (s.capDrip n).pending = s.pending := by simp [State.capDrip]
@[simp] theorem State.freeBytes_pending (s : State) (n : Nat) : (s.freeBytes n).2.pending = s.pending := by simp [State.freeBytes]
@[simp] theorem State.capAdvance_pending (s : State) (n : Nat) : (s.capAdvance n).pending = s.pending := by simp [State.capAdvance]
@[simp] theorem State.capWrite_pending (s : State) (n : Nat) : (s.capWrite n).pending = s.pending := by
  unfold State.capWrite
  split <;> simp
@[simp] theorem State.capArm_pending (s : State) (n : Nat) : (s.capArm n).pending = s.pending := by simp [State.capArm]
@[simp] theorem State.capStop_pending (s : State) (n : Nat) : (s.capStop n).pending = s.pending := by simp [State.capStop]
@[simp] theorem State.capDone_pending (s : State) (n : Nat) : (s.capDone n).pending = s.pending := by simp [State.capDone]

/-! Flits handed over -/

@[simp] theorem State.showIde_pending (s : State) (n : Nat) : (s.showIde n).pending = s.pending := by simp [State.showIde]
@[simp] theorem State.handOver_pending (s : State) (n d : Nat) (h : Handed) (info : FlitInfo) :
    (s.handOver n d h info).pending = s.pending := by simp [State.handOver]
@[simp] theorem State.holdLeft_pending (s : State) (n row index : Nat) : (s.holdLeft n row index).pending = s.pending := by
  simp [State.holdLeft]
@[simp] theorem State.departHeld_pending (s : State) (n : Nat) (replace : Bool) :
    (s.departHeld n replace).pending = s.pending := by
  simp only [State.departHeld]
  (repeat' split) <;> simp
@[simp] theorem State.departAll_pending (k : Nat) (s : State) (n : Nat) : (State.departAll k s n).pending = s.pending := by
  induction k generalizing s with
  | zero => rfl
  | succ k ih => simp [State.departAll, ih]

/-! Ports -/

@[simp] theorem State.showDrive_pending (s : State) (ls : Nat) : (s.showDrive ls).pending = s.pending := by simp [State.showDrive]
@[simp] theorem State.setTx_pending (s : State) (on : Bool) (ls : Nat) : (s.setTx on ls).pending = s.pending := by simp [State.setTx]
@[simp] theorem State.portTx_pending (s : State) (n : Nat) (on : Bool) : (s.portTx n on).pending = s.pending := by simp [State.portTx]
@[simp] theorem State.setAstate_pending (s : State) (ls v : Nat) : (s.setAstate ls v).pending = s.pending := by simp [State.setAstate]
@[simp] theorem State.endMargin_pending (s : State) (ls : Nat) : (s.endMargin ls).pending = s.pending := by simp [State.endMargin]
@[simp] theorem State.laneIdle_pending (s : State) (ls : Nat) : (s.laneIdle ls).pending = s.pending := by simp [State.laneIdle]
@[simp] theorem State.laneOff_pending (s : State) (ls : Nat) : (s.laneOff ls).pending = s.pending := by simp [State.laneOff]
@[simp] theorem State.updPend_pending (s : State) (n : Nat) : (s.updPend n).pending = s.pending := by simp [State.updPend]
@[simp] theorem State.retargetDir_pending (s : State) (n d : Nat) (written : Bool) :
    (s.retargetDir n d written).pending = s.pending := by
  simp only [State.retargetDir]
  split <;> simp
@[simp] theorem State.retarget_pending (s : State) (n : Nat) (written : Bool) : (s.retarget n written).pending = s.pending := by
  simp [State.retarget]
@[simp] theorem State.armModes_pending (s : State) (n : Nat) : (s.armModes n).pending = s.pending := by simp [State.armModes]
@[simp] theorem State.applyMode_pending (s : State) (n d : Nat) : (s.applyMode n d).pending = s.pending := by simp [State.applyMode]
@[simp] theorem State.modesAtStart_pending (s : State) (n : Nat) : (s.modesAtStart n).pending = s.pending := by simp [State.modesAtStart]
@[simp] theorem State.modesAtRow_pending (s : State) (n : Nat) : (s.modesAtRow n).pending = s.pending := by simp [State.modesAtRow]
@[simp] theorem State.abortErrata_pending (s : State) (n : Nat) : (s.abortErrata n).pending = s.pending := by simp [State.abortErrata]
@[simp] theorem State.abortReplay_pending (s : State) (n : Nat) : (s.abortReplay n).pending = s.pending := by simp [State.abortReplay]
@[simp] theorem State.endHoldReqs_pending (s : State) (n : Nat) : (s.endHoldReqs n).pending = s.pending := by simp [State.endHoldReqs]
@[simp] theorem State.stopRows_pending (s : State) (n : Nat) : (s.stopRows n).pending = s.pending := by simp [State.stopRows]
@[simp] theorem State.settlePort_pending (s : State) (n : Nat) : (s.settlePort n).pending = s.pending := by simp [State.settlePort]
@[simp] theorem State.settleDown_pending (s : State) (n : Nat) : (s.settleDown n).pending = s.pending := by simp [State.settleDown]
@[simp] theorem State.logDown_pending (s : State) (n cause state rate : Nat) :
    (s.logDown n cause state rate).pending = s.pending := by simp [State.logDown]
@[simp] theorem State.noteCause_pending (s : State) (n cause : Nat) : (s.noteCause n cause).pending = s.pending := by simp [State.noteCause]
@[simp] theorem State.recount_pending (s : State) (n old new : Nat) : (s.recount n old new).pending = s.pending := by simp [State.recount]
@[simp] theorem State.linkDown_pending (s : State) (n cause : Nat) : (s.linkDown n cause).pending = s.pending := by simp [State.linkDown]
@[simp] theorem State.rampWaiting_pending (s : State) (ls : Nat) : (s.rampWaiting ls).pending = s.pending := by simp [State.rampWaiting]
@[simp] theorem State.setLtssm_pending (s : State) (n v : Nat) : (s.setLtssm n v).pending = s.pending := by simp [State.setLtssm]
@[simp] theorem State.termsOff_pending (s : State) (n : Nat) : (s.termsOff n).pending = s.pending := by
  simp -implicitDefEqProofs [State.termsOff]
@[simp] theorem State.forgetLink_pending (s : State) (n : Nat) : (s.forgetLink n).pending = s.pending := by simp [State.forgetLink]
@[simp] theorem State.enterDetect_pending (s : State) (n : Nat) : (s.enterDetect n).pending = s.pending := by simp [State.enterDetect]
@[simp] theorem State.downToDetect_pending (s : State) (n cause : Nat) : (s.downToDetect n cause).pending = s.pending := by
  simp [State.downToDetect]
@[simp] theorem State.disarmCapture_pending (s : State) (n : Nat) : (s.disarmCapture n).pending = s.pending := by simp [State.disarmCapture]
@[simp] theorem State.zeroQueues_pending (s : State) (n : Nat) : (s.zeroQueues n).pending = s.pending := by simp [State.zeroQueues]
@[simp] theorem State.portReset_pending (s : State) (n cause hold : Nat) : (s.portReset n cause hold).pending = s.pending := by
  simp -implicitDefEqProofs [State.portReset]
@[simp] theorem State.leaveReset_pending (s : State) (n : Nat) : (s.leaveReset n).pending = s.pending := by simp [State.leaveReset]
@[simp] theorem State.lanesOn_pending (s : State) (n : Nat) : (s.lanesOn n).pending = s.pending := by simp [State.lanesOn]

/-! The CSB and the spares -/

@[simp] theorem State.csbQueue_pending (s : State) (type vc : Nat) (payload : List Nat) (ring : Option (Nat × Nat)) (hw : Option Nat) :
    (s.csbQueue type vc payload ring hw).pending = s.pending := by simp [State.csbQueue]
@[simp] theorem State.csbSend_pending (s : State) (type vc : Nat) (payload : List Nat) :
    (s.csbSend type vc payload).pending = s.pending := by simp [State.csbSend]
@[simp] theorem State.sendFrame_pending (s : State) (f : CsbFrame) (ack : Nat) : (s.sendFrame f ack).pending = s.pending := by
  simp [State.sendFrame]
@[simp] theorem State.modSpare_pending (s : State) (h : Nat) (f : SpareSt → SpareSt) : (s.modSpare h f).pending = s.pending := by
  simp [State.modSpare]
@[simp] theorem State.sendRxOn_pending (s : State) (h l on : Nat) : (s.sendRxOn h l on).pending = s.pending := by simp [State.sendRxOn]
@[simp] theorem State.markSpare_pending (s : State) (h : Nat) (on : Bool) : (s.markSpare h on).pending = s.pending := by
  unfold State.markSpare
  split <;> simp
@[simp] theorem State.spareIdle_pending (s : State) (h : Nat) : (s.spareIdle h).pending = s.pending := by
  simp only [State.spareIdle]
  split <;> simp
@[simp] theorem State.spareEnd_pending (s : State) (h : Nat) : (s.spareEnd h).pending = s.pending := by simp [State.spareEnd]
@[simp] theorem State.abandonSpare_pending (s : State) (h res : Nat) (now : Bool) :
    (s.abandonSpare h res now).pending = s.pending := by simp [State.abandonSpare]
@[simp] theorem State.abandonPortSpares_pending (s : State) (n : Nat) : (s.abandonPortSpares n).pending = s.pending := by
  simp [State.abandonPortSpares]
@[simp] theorem State.csbLeaveUp_pending (s : State) (next : Nat) : (s.csbLeaveUp next).pending = s.pending := by simp [State.csbLeaveUp]
@[simp] theorem State.csbLoss_pending (s : State) (next : Nat) : (s.csbLoss next).pending = s.pending := by simp [State.csbLoss]

/-! The fault sump -/

@[simp] theorem State.holdTx_pending (s : State) (src ls : Nat) : (s.holdTx src ls).pending = s.pending := by simp [State.holdTx]
@[simp] theorem State.laneReaction_pending (s : State) (src inst : Nat) : (s.laneReaction src inst).pending = s.pending := by
  unfold State.laneReaction
  dsimp only
  split
  on_goal 1 => rw [State.pending_ite, State.abandonSpare_pending, ite_self]
  all_goals
    refine (forEach_pending _ _ fun ls a => ?_).trans (by simp)
    split <;> simp
@[simp] theorem State.allPortsDown_pending (s : State) (cause : Nat) : (s.allPortsDown cause).pending = s.pending := by
  simp [State.allPortsDown]
@[simp] theorem State.enterSafe_pending (s : State) : s.enterSafe.pending = s.pending := by simp [State.enterSafe]
@[simp] theorem State.react_pending (s : State) (src inst : Nat) : (s.react src inst).pending = s.pending := by simp [State.react]
@[simp] theorem State.setPend_pending (s : State) (src : Nat) : (s.setPend src).pending = s.pending := by simp [State.setPend]
@[simp] theorem State.capture_pending (s : State) (e : Ev) : (s.capture e).pending = s.pending := by simp [State.capture]
@[simp] theorem State.judge_pending (s : State) (e : Ev) : (s.judge e).pending = s.pending := by simp [State.judge]
@[simp] theorem State.countEv_pending (s : State) (e : Ev) : (s.countEv e).pending = s.pending := by simp [State.countEv]
@[simp] theorem State.acceptEv_pending (s : State) (e : Ev) : (s.acceptEv e).pending = s.pending := by simp [State.acceptEv]
@[simp] theorem State.sumpEv_pending (s : State) (e : Ev) : (s.sumpEv e).pending = s.pending := by simp [State.sumpEv]
@[simp] theorem State.settleEvs_pending (k : Nat) (s : State) : (State.settleEvs k s).pending = s.pending := by
  induction k generalizing s with
  | zero => rfl
  | succ k ih => unfold State.settleEvs; split <;> simp [ih]
@[simp] theorem State.settle_pending (s : State) : s.settle.pending = s.pending := by simp [State.settle]
@[simp] theorem State.updCause_pending (s : State) (src : Nat) : (s.updCause src).pending = s.pending := by simp [State.updCause]
@[simp] theorem State.condOn_pending (s : State) (src inst detail : Nat) : (s.condOn src inst detail).pending = s.pending := by
  simp [State.condOn]
@[simp] theorem State.condOff_pending (s : State) (src inst detail : Nat) : (s.condOff src inst detail).pending = s.pending := by
  simp [State.condOff]
@[simp] theorem State.cond_pending (s : State) (src inst detail : Nat) (on : Bool) :
    (s.cond src inst detail on).pending = s.pending := by simp [State.cond]
@[simp] theorem State.sourceEvent_pending (s : State) (src inst detail : Nat) (level : Bool) :
    (s.sourceEvent src inst detail level).pending = s.pending := by simp [State.sourceEvent]
@[simp] theorem State.wireFault_pending (s : State) (src : Nat) : (s.wireFault src).pending = s.pending := by simp [State.wireFault]
@[simp] theorem State.wireFaultEnd_pending (s : State) (src : Nat) : (s.wireFaultEnd src).pending = s.pending := by
  simp [State.wireFaultEnd]
@[simp] theorem State.windowEnd_pending (s : State) (src : Nat) : (s.windowEnd src).pending = s.pending := by simp [State.windowEnd]
@[simp] theorem State.clearSrc_pending (s : State) (src : Nat) : (s.clearSrc src).pending = s.pending := by simp [State.clearSrc]
@[simp] theorem State.sumpClr_pending (s : State) (req addr src : Nat) : (s.sumpClr req addr src).pending = s.pending := by
  simp [State.sumpClr]
@[simp] theorem State.sumpClrAll_pending (s : State) : s.sumpClrAll.pending = s.pending := by simp [State.sumpClrAll]
@[simp] theorem State.sumpForce_pending (s : State) (req addr src inst detail : Nat) :
    (s.sumpForce req addr src inst detail).pending = s.pending := by simp [State.sumpForce]
@[simp] theorem State.sumpCntClr_pending (s : State) : s.sumpCntClr.pending = s.pending := by simp [State.sumpCntClr]
@[simp] theorem State.availClr_pending (s : State) : s.availClr.pending = s.pending := by simp [State.availClr]
@[simp] theorem State.lwdogKick_pending (s : State) (req addr : Nat) : (s.lwdogKick req addr).pending = s.pending := by
  simp [State.lwdogKick]
@[simp] theorem State.eccCe_pending (s : State) (mem word : Nat) : (s.eccCe mem word).pending = s.pending := by simp [State.eccCe]
@[simp] theorem State.eccUe_pending (s : State) (mem word : Nat) : (s.eccUe mem word).pending = s.pending := by simp [State.eccUe]
@[simp] theorem State.eccRead_pending (s : State) (mem : Nat) (e : Ecc) : (s.eccRead mem e).pending = s.pending := by
  cases e <;> simp [State.eccRead]
@[simp] theorem State.quiesce_pending (s : State) : s.quiesce.pending = s.pending := by simp [State.quiesce]
@[simp] theorem State.qstopLevels_pending (s : State) (a b : Bool) : (s.qstopLevels a b).pending = s.pending := by simp [State.qstopLevels]
@[simp] theorem State.qstopDisc_pending (s : State) : s.qstopDisc.pending = s.pending := by simp [State.qstopDisc]
@[simp] theorem State.eccLeak_pending (s : State) (mem : Nat) : (s.eccLeak mem).pending = s.pending := by simp [State.eccLeak]
@[simp] theorem State.lapJudge_pending (s : State) (mem : Nat) : (s.lapJudge mem).pending = s.pending := by simp [State.lapJudge]

/-! Memory protection and management accesses -/

@[simp] theorem State.viaBus_pending (s : State) (r : Requester) (k : State → State) (hk : ∀ a, (k a).pending = a.pending) :
    (s.viaBus r k).pending = s.pending := by simp [State.viaBus, hk]
@[simp] theorem State.viaCore_pending (s : State) (r : Requester) (k : State → State) (hk : ∀ a, (k a).pending = a.pending) :
    (s.viaCore r k).pending = s.pending := by simp [State.viaCore, hk]
@[simp] theorem State.scrub_pending (s : State) (mem : Nat) (ecc : Ecc) : (s.scrub mem ecc).pending = s.pending := by
  unfold State.scrub
  (repeat' split) <;> simp

/-! Lanes -/

@[simp] theorem State.startAdapt_pending (s : State) (ls : Nat) : (s.startAdapt ls).pending = s.pending := by simp [State.startAdapt]
@[simp] theorem State.unfreeze_pending (s : State) (ls : Nat) : (s.unfreeze ls).pending = s.pending := by simp [State.unfreeze]
@[simp] theorem State.setFreeze_pending (s : State) (ls : Nat) (on : Bool) : (s.setFreeze ls on).pending = s.pending := by
  simp [State.setFreeze]
@[simp] theorem State.setPolarity_pending (s : State) (ls : Nat) : (s.setPolarity ls).pending = s.pending := by simp [State.setPolarity]
@[simp] theorem State.startEq_pending (s : State) (ls : Nat) : (s.startEq ls).pending = s.pending := by simp [State.startEq]
@[simp] theorem State.restartLane_pending (s : State) (ls : Nat) : (s.restartLane ls).pending = s.pending := by simp [State.restartLane]
@[simp] theorem State.adaptDrip_pending (s : State) : s.adaptDrip.pending = s.pending := by simp [State.adaptDrip]
@[simp] theorem State.clrLaneErr_pending (s : State) (ls : Nat) : (s.clrLaneErr ls).pending = s.pending := by simp [State.clrLaneErr]
@[simp] theorem State.forwardIdle_pending (s : State) (ls : Nat) (idle : Bool) : (s.forwardIdle ls idle).pending = s.pending := by
  unfold State.forwardIdle
  split <;> simp
@[simp] theorem State.signalDetect_pending (s : State) (ls : Nat) : (s.signalDetect ls).pending = s.pending := by simp [State.signalDetect]
@[simp] theorem State.cdrLocked_pending (s : State) (ls : Nat) : (s.cdrLocked ls).pending = s.pending := by simp [State.cdrLocked]
@[simp] theorem State.lossOfSignal_pending (s : State) (ls : Nat) : (s.lossOfSignal ls).pending = s.pending := by simp [State.lossOfSignal]
@[simp] theorem State.adaptConverged_pending (s : State) (ls ctle dfe1 m1 p1 : Nat) :
    (s.adaptConverged ls ctle dfe1 m1 p1).pending = s.pending := by simp [State.adaptConverged]
@[simp] theorem State.lossOfLock_pending (s : State) (ls : Nat) : (s.lossOfLock ls).pending = s.pending := by simp [State.lossOfLock]
@[simp] theorem State.relockTimeout_pending (s : State) (ls : Nat) : (s.relockTimeout ls).pending = s.pending := by
  simp [State.relockTimeout]
@[simp] theorem State.ebFill_pending (s : State) (ls fill : Nat) : (s.ebFill ls fill).pending = s.pending := by simp [State.ebFill]
@[simp] theorem State.ebError_pending (s : State) (ls : Nat) (full : Bool) : (s.ebError ls full).pending = s.pending := by
  simp [State.ebError]
@[simp] theorem State.skp_pending (s : State) (ls fill unit : Nat) : (s.skp ls fill unit).pending = s.pending := by simp [State.skp]
@[simp] theorem State.prbsClr_pending (s : State) (ls : Nat) : (s.prbsClr ls).pending = s.pending := by simp [State.prbsClr]
@[simp] theorem State.dropPrbsLock_pending (s : State) (ls : Nat) : (s.dropPrbsLock ls).pending = s.pending := by simp [State.dropPrbsLock]
@[simp] theorem State.patternTx_pending (s : State) (ls : Nat) : (s.patternTx ls).pending = s.pending := by simp [State.patternTx]
@[simp] theorem State.patternCtl_pending (s : State) (ls : Nat) : (s.patternCtl ls).pending = s.pending := by simp [State.patternCtl]
@[simp] theorem State.prbsCount_pending (s : State) (ls bits errs : Nat) : (s.prbsCount ls bits errs).pending = s.pending := by
  simp [State.prbsCount]
@[simp] theorem State.prbsLock_pending (s : State) (ls : Nat) : (s.prbsLock ls).pending = s.pending := by simp [State.prbsLock]
@[simp] theorem State.prbsLockLoss_pending (s : State) (ls bits errs : Nat) :
    (s.prbsLockLoss ls bits errs).pending = s.pending := by simp [State.prbsLockLoss]
@[simp] theorem State.failSlice_pending (s : State) (ls k : Nat) : (s.failSlice ls k).pending = s.pending := by simp [State.failSlice]
@[simp] theorem State.marginCommand_pending (s : State) (n lane rxnum : Nat) (ask : MarginAsk) :
    (s.marginCommand n lane rxnum ask).pending = s.pending := by
  unfold State.marginCommand
  (repeat' split) <;> simp
@[simp] theorem State.marginSetup_pending (s : State) (ls : Nat) : (s.marginSetup ls).pending = s.pending := by
  unfold State.marginSetup
  split <;> simp
@[simp] theorem State.endPortMargins_pending (s : State) (n : Nat) : (s.endPortMargins n).pending = s.pending := by
  simp [State.endPortMargins]

/-! The capture window -/

@[simp] theorem State.capWindow_pending (s : State) (req addr val : Nat) : (s.capWindow req addr val).pending = s.pending := by
  simp [State.capWindow]

/-! The flit engine -/

@[simp] theorem State.loseLock_pending (s : State) (n d : Nat) : (s.loseLock n d).pending = s.pending := by simp [State.loseLock]
@[simp] theorem State.stepLock_pending (s : State) (n d : Nat) (good : Bool) : (s.stepLock n d good).pending = s.pending := by
  simp [State.stepLock]
@[simp] theorem State.countWindow_pending (s : State) (n m : Nat) : (s.countWindow n m).pending = s.pending := by simp [State.countWindow]
@[simp] theorem State.countLane_pending (s : State) (n d off : Nat) : (s.countLane n d off).pending = s.pending := by simp [State.countLane]
@[simp] theorem State.countFlit_pending (s : State) (n d : Nat) (f : Flit) : (s.countFlit n d f).pending = s.pending := by
  unfold State.countFlit
  split <;> simp
@[simp] theorem State.showRows_pending (s : State) (n : Nat) : (s.showRows n).pending = s.pending := by simp [State.showRows]
@[simp] theorem State.sentRowFlit_pending (s : State) (n : Nat) (f : Flit) (sent : List Nat) (lock : Bool) :
    (s.sentRowFlit n f sent lock).pending = s.pending := by simp [State.sentRowFlit]
@[simp] theorem State.gotRowFlit_pending (s : State) (n : Nat) : (s.gotRowFlit n).pending = s.pending := by simp [State.gotRowFlit]
@[simp] theorem State.holdFlit_pending (s : State) (n : Nat) (f : Flit) (lock : Bool) :
    (s.holdFlit n f lock).pending = s.pending := by simp [State.holdFlit]
@[simp] theorem State.flitUnlocked_pending (s : State) (n d : Nat) (f : Flit) : (s.flitUnlocked n d f).pending = s.pending := by
  simp [State.flitUnlocked]
@[simp] theorem State.flitDecoded_pending (s : State) (n d : Nat) (f : Flit) : (s.flitDecoded n d f).pending = s.pending := by
  simp [State.flitDecoded]
@[simp] theorem State.streamEnd_pending (s : State) (n : Nat) : (s.streamEnd n).pending = s.pending := by simp [State.streamEnd]
@[simp] theorem State.streamStart_pending (s : State) (n skewOI skewIO : Nat) :
    (s.streamStart n skewOI skewIO).pending = s.pending := by simp [State.streamStart]

/-! Companion mode -/

@[simp] theorem State.gateSpares_pending (s : State) : s.gateSpares.pending = s.pending := by simp [State.gateSpares]
@[simp] theorem State.releaseSpare_pending (s : State) (h : Nat) : (s.releaseSpare h).pending = s.pending := by simp [State.releaseSpare]
@[simp] theorem State.releasePortSpares_pending (s : State) (n : Nat) : (s.releasePortSpares n).pending = s.pending := by
  simp [State.releasePortSpares]
@[simp] theorem State.fallback_pending (s : State) (n cause : Nat) : (s.fallback n cause).pending = s.pending := by simp [State.fallback]
@[simp] theorem State.laneToRate_pending (s : State) (rate : Nat) (comp : Bool) (ls : Nat) :
    (s.laneToRate rate comp ls).pending = s.pending := by simp [State.laneToRate]
@[simp] theorem State.restartInner_pending (s : State) (n : Nat) (stopped : Bool) :
    (s.restartInner n stopped).pending = s.pending := by simp [State.restartInner]
@[simp] theorem State.sendFallback_pending (s : State) (n cause : Nat) : (s.sendFallback n cause).pending = s.pending := by
  simp [State.sendFallback]
@[simp] theorem State.attemptFallback_pending (s : State) (n cause : Nat) : (s.attemptFallback n cause).pending = s.pending := by
  simp [State.attemptFallback]
@[simp] theorem State.recoveryFallback_pending (s : State) (n cause : Nat) :
    (s.recoveryFallback n cause).pending = s.pending := by simp [State.recoveryFallback]
@[simp] theorem State.sendLockRpt_pending (s : State) (n : Nat) (comp : Bool) : (s.sendLockRpt n comp).pending = s.pending := by
  simp [State.sendLockRpt]
@[simp] theorem State.reportLock_pending (s : State) (n : Nat) : (s.reportLock n).pending = s.pending := by
  unfold State.reportLock
  split <;> simp
@[simp] theorem State.sendJoin_pending (s : State) (n : Nat) : (s.sendJoin n).pending = s.pending := by simp [State.sendJoin]
@[simp] theorem State.seekAssociation_pending (s : State) (n : Nat) : (s.seekAssociation n).pending = s.pending := by
  simp [State.seekAssociation]

/-! Training -/

@[simp] theorem State.setCoefs_pending (s : State) (ls preset word : Nat) : (s.setCoefs ls preset word).pending = s.pending := by
  simp [State.setCoefs]
@[simp] theorem State.setPreset_pending (s : State) (ls p : Nat) : (s.setPreset ls p).pending = s.pending := by simp [State.setPreset]
@[simp] theorem State.storeCoefs_pending (s : State) (ls : Nat) : (s.storeCoefs ls).pending = s.pending := by simp [State.storeCoefs]
@[simp] theorem State.recallCoefs_pending (s : State) (ls preset : Nat) : (s.recallCoefs ls preset).pending = s.pending := by
  simp [State.recallCoefs]
@[simp] theorem State.sendSet_pending (s : State) (n : Nat) (ts : TrainSet) : (s.sendSet n ts).pending = s.pending := by
  simp [State.sendSet]
@[simp] theorem State.forwardSet_pending (s : State) (n : Nat) (ts : TrainSet) : (s.forwardSet n ts).pending = s.pending := by
  simp [State.forwardSet]
@[simp] theorem State.learnPos_pending (s : State) (n : Nat) (ts : TrainSet) : (s.learnPos n ts).pending = s.pending := by
  simp [State.learnPos]
@[simp] theorem State.learnPolarity_pending (s : State) (n : Nat) (ts : TrainSet) :
    (s.learnPolarity n ts).pending = s.pending := by simp [State.learnPolarity]
@[simp] theorem State.learnWidth_pending (s : State) (n : Nat) (ts : TrainSet) : (s.learnWidth n ts).pending = s.pending := by
  simp -implicitDefEqProofs [State.learnWidth]
@[simp] theorem State.learnFlit_pending (s : State) (n : Nat) (ts : TrainSet) : (s.learnFlit n ts).pending = s.pending := by
  simp [State.learnFlit]
@[simp] theorem State.leaveL0_pending (s : State) (n : Nat) : (s.leaveL0 n).pending = s.pending := by simp [State.leaveL0]
@[simp] theorem State.enterRecovery_pending (s : State) (n : Nat) : (s.enterRecovery n).pending = s.pending := by simp [State.enterRecovery]
@[simp] theorem State.adaptPort_pending (s : State) (n : Nat) : (s.adaptPort n).pending = s.pending := by simp [State.adaptPort]
@[simp] theorem State.endAdapt_pending (s : State) (n : Nat) : (s.endAdapt n).pending = s.pending := by simp [State.endAdapt]
@[simp] theorem State.leaveEq_pending (s : State) (n old : Nat) : (s.leaveEq n old).pending = s.pending := by simp [State.leaveEq]
@[simp] theorem State.startExec_pending (s : State) (n : Nat) (inner : Bool) : (s.startExec n inner).pending = s.pending := by
  simp [State.startExec]
@[simp] theorem State.speedDecision_pending (s : State) (n old new : Nat) : (s.speedDecision n old new).pending = s.pending := by
  simp [State.speedDecision]
@[simp] theorem State.speedChange_pending (s : State) (n : Nat) (ts : TrainSet) : (s.speedChange n ts).pending = s.pending := by
  simp [State.speedChange]
@[simp] theorem State.namedPresets_pending (s : State) (n : Nat) (ts : TrainSet) : (s.namedPresets n ts).pending = s.pending := by
  simp [State.namedPresets]
@[simp] theorem State.phase0_pending (s : State) (n : Nat) (ts : TrainSet) : (s.phase0 n ts).pending = s.pending := by simp [State.phase0]
@[simp] theorem State.compliance_pending (s : State) (n : Nat) (ts : TrainSet) : (s.compliance n ts).pending = s.pending := by
  simp [State.compliance]
@[simp] theorem State.keepPhase_pending (s : State) (n : Nat) (side : Bool) : (s.keepPhase n side).pending = s.pending := by
  simp [State.keepPhase]
@[simp] theorem State.onEntry_pending (s : State) (n old : Nat) (ts : TrainSet) : (s.onEntry n old ts).pending = s.pending := by
  simp [State.onEntry]
@[simp] theorem State.widthFallback_pending (s : State) (n : Nat) (ts : TrainSet) :
    (s.widthFallback n ts).pending = s.pending := by simp [State.widthFallback]
@[simp] theorem State.moveTo_pending (s : State) (n : Nat) (ts : TrainSet) : (s.moveTo n ts).pending = s.pending := by simp [State.moveTo]
@[simp] theorem State.takeSet_pending (s : State) (n : Nat) (ts : TrainSet) : (s.takeSet n ts).pending = s.pending := by
  simp [State.takeSet]
@[simp] theorem State.retrainSet_pending (s : State) (n : Nat) (ts : TrainSet) : (s.retrainSet n ts).pending = s.pending := by
  simp [State.retrainSet]
@[simp] theorem State.trainSet_pending (s : State) (n : Nat) (ts : TrainSet) : (s.trainSet n ts).pending = s.pending := by
  unfold State.trainSet
  (repeat' split) <;> simp
@[simp] theorem State.releaseHeld_pending (s : State) (n : Nat) : (s.releaseHeld n).pending = s.pending := by
  unfold State.releaseHeld
  split <;> simp
@[simp] theorem State.endAttempt_pending (s : State) (n : Nat) : (s.endAttempt n).pending = s.pending := by simp [State.endAttempt]
@[simp] theorem State.lockPassed_pending (s : State) (n : Nat) : (s.lockPassed n).pending = s.pending := by simp [State.lockPassed]
@[simp] theorem State.lockProgress_pending (s : State) (n : Nat) : (s.lockProgress n).pending = s.pending := by
  simp only [State.lockProgress]
  split <;> simp
@[simp] theorem State.ceqOver_pending (s : State) (n : Nat) : (s.ceqOver n).pending = s.pending := by simp [State.ceqOver]
@[simp] theorem State.ownCeqEnd_pending (s : State) (n : Nat) (scored : Nat) : (s.ownCeqEnd n scored).pending = s.pending := by
  simp [State.ownCeqEnd]
@[simp] theorem State.peerCeqEnd_pending (s : State) (n : Nat) : (s.peerCeqEnd n).pending = s.pending := by simp [State.peerCeqEnd]
@[simp] theorem State.endExec_pending (s : State) (n : Nat) (inner : Bool) (result : Nat) :
    (s.endExec n inner result).pending = s.pending := by
  unfold State.endExec
  split
  · rfl
  · split <;> simp
@[simp] theorem State.trialEnd_pending (s : State) (n : Nat) (inner : Bool) (tr : Trial) :
    (s.trialEnd n inner tr).pending = s.pending := by
  simp only [State.trialEnd]
  (repeat' split) <;> simp
@[simp] theorem State.execTimeout_pending (s : State) (n : Nat) (inner : Bool) : (s.execTimeout n inner).pending = s.pending := by
  unfold State.execTimeout
  (repeat' split) <;> simp
@[simp] theorem State.ceqTimeout_pending (s : State) (n : Nat) : (s.ceqTimeout n).pending = s.pending := by
  unfold State.ceqTimeout
  (repeat' split) <;> simp
@[simp] theorem State.coefRequest_pending (s : State) (ls : Nat) (req : CoefReq) :
    (s.coefRequest ls req).pending = s.pending := by
  unfold State.coefRequest
  (repeat' split) <;> simp
@[simp] theorem State.retrain_pending (s : State) (n : Nat) : (s.retrain n).2.pending = s.pending := by
  unfold State.retrain
  split <;> simp
@[simp] theorem State.l0pLane_pending (s : State) (off : Bool) (ls : Nat) : (s.l0pLane off ls).pending = s.pending := by
  simp [State.l0pLane]
@[simp] theorem State.l0pSpare_pending (s : State) (n off : Nat) : (s.l0pSpare n off).pending = s.pending := by simp [State.l0pSpare]
@[simp] theorem State.l0p_pending (s : State) (n width : Nat) : (s.l0p n width).pending = s.pending := by simp [State.l0p]
@[simp] theorem State.l1Entry_pending (s : State) (n : Nat) : (s.l1Entry n).pending = s.pending := by simp [State.l1Entry]
@[simp] theorem State.l1Exit_pending (s : State) (n : Nat) (inner : Bool) (lane : Nat) :
    (s.l1Exit n inner lane).pending = s.pending := by simp [State.l1Exit]
@[simp] theorem State.watchdog_pending (s : State) (n : Nat) : (s.watchdog n).pending = s.pending := by simp [State.watchdog]
@[simp] theorem State.unannounced_pending (s : State) (n : Nat) (inner : Bool) : (s.unannounced n inner).pending = s.pending := by
  simp [State.unannounced]
@[simp] theorem State.detect_pending (s : State) (n : Nat) (outer inner : List Nat) :
    (s.detect n outer inner).pending = s.pending := by simp [State.detect]

/-! Port controls -/

@[simp] theorem State.resetPort_pending (s : State) (n cause hold : Nat) : (s.resetPort n cause hold).pending = s.pending := by
  simp [State.resetPort]
@[simp] theorem State.enablePort_pending (s : State) (n : Nat) (en : Bool) : (s.enablePort n en).pending = s.pending := by
  simp [State.enablePort]
@[simp] theorem State.rstPort_pending (s : State) (n : Nat) : (s.rstPort n).pending = s.pending := by simp [State.rstPort]
@[simp] theorem State.portResetDone_pending (s : State) (n : Nat) : (s.portResetDone n).pending = s.pending := by simp [State.portResetDone]
@[simp] theorem State.perst_pending (s : State) (n : Nat) (low : Bool) : (s.perst n low).pending = s.pending := by simp [State.perst]
@[simp] theorem State.presenceActs_pending (s : State) (n : Nat) : (s.presenceActs n).pending = s.pending := by simp [State.presenceActs]
@[simp] theorem State.presence_pending (s : State) (n : Nat) (high : Bool) : (s.presence n high).pending = s.pending := by
  simp [State.presence]
@[simp] theorem State.clrPortCnt_pending (s : State) (n : Nat) : (s.clrPortCnt n).pending = s.pending := by simp [State.clrPortCnt]
@[simp] theorem State.bindTag_pending (s : State) (req n tag : Nat) : (s.bindTag req n tag).pending = s.pending := by simp [State.bindTag]
@[simp] theorem State.resetLaneStatus_pending (s : State) (ls : Nat) : (s.resetLaneStatus ls).pending = s.pending := by
  simp [State.resetLaneStatus]
@[simp] theorem State.zeroMem_pending (s : State) (lo n : Nat) : (s.zeroMem lo n).pending = s.pending := by simp [State.zeroMem]
@[simp] theorem State.abandonCal_pending (s : State) (q : Nat) : (s.abandonCal q).pending = s.pending := by simp [State.abandonCal]
@[simp] theorem State.quadReset_pending (s : State) (req q : Nat) : (s.quadReset req q).pending = s.pending := by simp [State.quadReset]
@[simp] theorem State.phraseEnable_pending (s : State) (q : Nat) (en : Bool) : (s.phraseEnable q en).pending = s.pending := by
  simp [State.phraseEnable]
@[simp] theorem State.clrPhrWdog_pending (s : State) (q : Nat) : (s.clrPhrWdog q).pending = s.pending := by simp [State.clrPhrWdog]
@[simp] theorem State.phraseOverrun_pending (s : State) (q : Nat) : (s.phraseOverrun q).pending = s.pending := by
  simp only [State.phraseOverrun]
  (repeat' split) <;> simp
@[simp] theorem State.phraseRan_pending (s : State) (q cycles : Nat) : (s.phraseRan q cycles).pending = s.pending := by
  simp [State.phraseRan]
@[simp] theorem State.phraseWrite_pending (s : State) (req addr val : Nat) :
    (s.phraseWrite req addr val).pending = s.pending := by simp [State.phraseWrite]

/-! The heat map's commands -/

@[simp] theorem State.noteShared_pending (s : State) (p : Nat) : (s.noteShared p).pending = s.pending := by simp [State.noteShared]
@[simp] theorem State.readEntry_pending (s : State) (zoom : Bool) (bank i : Nat) :
    (s.readEntry zoom bank i).2.pending = s.pending := by
  unfold State.readEntry
  split <;> simp
@[simp] theorem State.writeEntry_pending (s : State) (zoom : Bool) (bank i v : Nat) :
    (s.writeEntry zoom bank i v).pending = s.pending := by simp [State.writeEntry]
@[simp] theorem State.mergeEntry_pending (s : State) (p : Nat) (c : CacheEnt) (ecc : Ecc) :
    (s.mergeEntry p c ecc).pending = s.pending := by
  unfold State.mergeEntry
  split <;> simp
@[simp] theorem State.writeBack_pending (s : State) (p : Nat) (ecc : Ecc) : (s.writeBack p ecc).pending = s.pending := by
  unfold State.writeBack
  (repeat' split) <;> simp
@[simp] theorem State.clearBank_pending (s : State) (b : Nat) : (s.clearBank b).pending = s.pending := by simp [State.clearBank]
@[simp] theorem State.startClearing_pending (s : State) : s.startClearing.pending = s.pending := by
  simp -implicitDefEqProofs [State.startClearing]
@[simp] theorem State.releaseBank_pending (s : State) : s.releaseBank.pending = s.pending := by simp [State.releaseBank]
@[simp] theorem State.startExport_pending (s : State) (p : Nat) : (s.startExport p).pending = s.pending := by simp [State.startExport]
@[simp] theorem State.flushEnd_pending (s : State) : s.flushEnd.pending = s.pending := by simp -implicitDefEqProofs [State.flushEnd]
@[simp] theorem State.readChunk_pending (ue : List Nat) (b : Nat) (l : List (Option (Bool × Nat))) (s : State) :
    (State.readChunk ue b l s).2.pending = s.pending := by
  induction l generalizing s with
  | nil => rfl
  | cons x t ih =>
    match x with
    | none => exact ih s
    | some (zoom, i) => unfold State.readChunk; split <;> simp [ih]
@[simp] theorem State.chunkReady_pending (s : State) (p : Nat) (ue : List Nat) : (s.chunkReady p ue).pending = s.pending := by
  simp [State.chunkReady]
@[simp] theorem State.clearEntries_pending (s : State) (b i n : Nat) : (s.clearEntries b i n).pending = s.pending := by
  simp [State.clearEntries]
@[simp] theorem State.partClearEnd_pending (s : State) (p : Nat) : (s.partClearEnd p).pending = s.pending := by
  unfold State.partClearEnd
  split <;> simp
@[simp] theorem State.partClear_pending (s : State) (p : Nat) : (s.partClear p).pending = s.pending := by simp [State.partClear]
@[simp] theorem State.pctlWrite_pending (s : State) (req addr p : Nat) (en clr : Bool) :
    (s.pctlWrite req addr p en clr).pending = s.pending := by simp [State.pctlWrite]
@[simp] theorem State.zoomClearEnd_pending (s : State) (z : Nat) : (s.zoomClearEnd z).pending = s.pending := by
  unfold State.zoomClearEnd
  split <;> simp
@[simp] theorem State.zoomClear_pending (s : State) (z : Nat) : (s.zoomClear z).pending = s.pending := by simp [State.zoomClear]
@[simp] theorem State.zctlWrite_pending (s : State) (req addr z : Nat) (en clr : Bool) :
    (s.zctlWrite req addr z en clr).pending = s.pending := by simp [State.zctlWrite]
@[simp] theorem State.clrHeatCnt_pending (s : State) : s.clrHeatCnt.pending = s.pending := by simp [State.clrHeatCnt]
@[simp] theorem State.loadLfsr_pending (s : State) (p v : Nat) : (s.loadLfsr p v).pending = s.pending := by simp [State.loadLfsr]
@[simp] theorem State.heatWrite_pending (s : State) (req addr val : Nat) : (s.heatWrite req addr val).pending = s.pending := by
  simp [State.heatWrite]
@[simp] theorem State.epochTick_pending (s : State) : (s.epochTick).2.pending = s.pending := by simp [State.epochTick]
@[simp] theorem State.makeSwap_pending (s : State) : s.makeSwap.pending = s.pending := by simp [State.makeSwap]
@[simp] theorem State.trySwap_pending (s : State) (due : Bool) : (s.trySwap due).2.pending = s.pending := by
  unfold State.trySwap
  (repeat' split) <;> simp
@[simp] theorem State.queueCaches_pending (s : State) : s.queueCaches.pending = s.pending := by simp [State.queueCaches]

/-! Views and their rings -/

@[simp] theorem State.setWord_pending (s : State) (r : Reg) (i v : Nat) : (s.setWord r i v).pending = s.pending := by
  simp -implicitDefEqProofs [State.setWord]
@[simp] theorem State.showPend_pending (s : State) : s.showPend.pending = s.pending := by simp [State.showPend]
@[simp] theorem State.busQueue_pending (s : State) (smbus : Bool) (view ptr : Option Nat) (dest tag : Nat) (body : List Nat) :
    (s.busQueue smbus view ptr dest tag body).pending = s.pending := by simp [State.busQueue]
@[simp] theorem State.handEntry_pending (s : State) (v p : Nat) : (s.handEntry v p).pending = s.pending := by simp [State.handEntry]
@[simp] theorem State.handOut_pending (k : Nat) (s : State) (v : Nat) : (State.handOut k s v).pending = s.pending := by
  induction k generalizing s with
  | zero => rfl
  | succ k ih => simp [State.handOut, ih]
@[simp] theorem State.post_pending (s : State) (v echo opc repeat_ status : Nat) (payload route : List Nat) :
    (s.post v echo opc repeat_ status payload route).pending = s.pending := by simp [State.post]
@[simp] theorem State.hwRsp_pending (s : State) (v route eid tag : Nat) (req : List Nat) (status : Nat) :
    (s.hwRsp v route eid tag req status).pending = s.pending := by simp [State.hwRsp]
@[simp] theorem State.requeueCsb_pending (s : State) : s.requeueCsb.pending = s.pending := by simp [State.requeueCsb]
@[simp] theorem State.refuseMsg_pending (s : State) (n mseq : Nat) : (s.refuseMsg n mseq).pending = s.pending := by simp [State.refuseMsg]
@[simp] theorem State.acceptReq_pending (s : State) (v : Nat) (e route : List Nat) (mark : SeqMark) :
    (s.acceptReq v e route mark).pending = s.pending := by simp [State.acceptReq]
@[simp] theorem State.seqStep_pending (s : State) (v : Nat) (e route : List Nat) : (s.seqStep v e route).pending = s.pending := by
  unfold State.seqStep
  split <;> simp
@[simp] theorem State.request_pending (s : State) (v route eid tag : Nat) (e : List Nat) (ue : Bool) :
    (s.request v route eid tag e ue).pending = s.pending := by simp [State.request]
@[simp] theorem State.clrBlobFlags_pending (s : State) (v : Nat) : (s.clrBlobFlags v).pending = s.pending := by simp [State.clrBlobFlags]
@[simp] theorem State.freezeView_pending (s : State) (v : Nat) (on : Bool) : (s.freezeView v on).pending = s.pending := by
  simp [State.freezeView]
@[simp] theorem State.saveView_pending (s : State) (req v : Nat) : (s.saveView req v).pending = s.pending := by simp [State.saveView]
@[simp] theorem State.restoreView_pending (s : State) (v : Nat) : (s.restoreView v).pending = s.pending := by simp [State.restoreView]
@[simp] theorem State.finishSave_pending (s : State) (v : Nat) : (s.finishSave v).pending = s.pending := by
  simp -implicitDefEqProofs [State.finishSave]
@[simp] theorem State.detachView_pending (s : State) (v : Nat) : (s.detachView v).pending = s.pending := by simp [State.detachView]
@[simp] theorem State.finishRestore_pending (s : State) (v : Nat) : (s.finishRestore v).pending = s.pending := by simp [State.finishRestore]
@[simp] theorem State.blobDone_pending (s : State) (v : Nat) : (s.blobDone v).pending = s.pending := by
  unfold State.blobDone
  split <;> simp
@[simp] theorem State.emptyRings_pending (s : State) (v : Nat) : (s.emptyRings v).pending = s.pending := by simp [State.emptyRings]
@[simp] theorem State.ringReset_pending (s : State) (req v : Nat) : (s.ringReset req v).pending = s.pending := by simp [State.ringReset]
@[simp] theorem State.dropView_pending (s : State) (v : Nat) : (s.dropView v).pending = s.pending := by simp [State.dropView]
@[simp] theorem State.clrViewCnt_pending (s : State) (v : Nat) : (s.clrViewCnt v).pending = s.pending := by simp [State.clrViewCnt]
@[simp] theorem State.clrMgmtCnt_pending (s : State) : s.clrMgmtCnt.pending = s.pending := by simp [State.clrMgmtCnt]

/-! The CSB's messages -/

@[simp] theorem State.csbAck_pending (s : State) (vc num : Nat) : (s.csbAck vc num).pending = s.pending := by
  refine (forEach_pending _ _ fun f a => ?_).trans (by simp)
  split <;> simp
@[simp] theorem State.csbOwe_pending (s : State) (vc : Nat) : (s.csbOwe vc).pending = s.pending := by simp [State.csbOwe]
@[simp] theorem State.csbTake_pending (s : State) (h : CsbHdr) : (s.csbTake h).pending = s.pending := by simp [State.csbTake]
@[simp] theorem State.csbAccept_pending (s : State) (h : CsbHdr) (k : State → State) (hk : ∀ a, (k a).pending = a.pending) :
    (s.csbAccept h k).pending = s.pending := by simp [State.csbAccept, hk]
@[simp] theorem State.unexp_pending (s : State) : s.unexp.pending = s.pending := by simp [State.unexp]
@[simp] theorem State.csbMsg_pending (s : State) (h : CsbHdr) (vc : Nat) (k : State → State) (hk : ∀ a, (k a).pending = a.pending) :
    (s.csbMsg h vc k).pending = s.pending := by simp [State.csbMsg, hk]
@[simp] theorem State.portMsg_pending (s : State) (h : CsbHdr) (n : Nat) (k : State → State) (hk : ∀ a, (k a).pending = a.pending) :
    (s.portMsg h n k).pending = s.pending := by simp [State.portMsg, hk]
@[simp] theorem State.emitPlain_pending (s : State) (type : Nat) (payload : List Nat) :
    (s.emitPlain type payload).pending = s.pending := by simp [State.emitPlain]
@[simp] theorem State.sendHello_pending (s : State) : s.sendHello.pending = s.pending := by simp [State.sendHello]
@[simp] theorem State.csbStart_pending (s : State) : s.csbStart.pending = s.pending := by simp [State.csbStart]
@[simp] theorem State.csbOff_pending (s : State) : s.csbOff.pending = s.pending := by simp [State.csbOff]
@[simp] theorem State.csbEnterUp_pending (s : State) : s.csbEnterUp.pending = s.pending := by simp [State.csbEnterUp]
@[simp] theorem State.peerMajor_pending (s : State) (major : Nat) : (s.peerMajor major).pending = s.pending := by simp [State.peerMajor]
@[simp] theorem State.takeHello_pending (s : State) (major minor cap : Nat) :
    (s.takeHello major minor cap).pending = s.pending := by simp [State.takeHello]
@[simp] theorem State.hello_pending (s : State) (major minor cap : Nat) : (s.hello major minor cap).pending = s.pending := by
  simp [State.hello]
@[simp] theorem State.csbReset_pending (s : State) : s.csbReset.pending = s.pending := by simp [State.csbReset]
@[simp] theorem State.csbEnable_pending (s : State) (en : Bool) : (s.csbEnable en).pending = s.pending := by simp [State.csbEnable]
@[simp] theorem State.startFrame_pending (s : State) (f : CsbFrame) : (s.startFrame f).pending = s.pending := by simp [State.startFrame]
@[simp] theorem State.frameBoundary_pending (s : State) : s.frameBoundary.pending = s.pending := by
  simp only [State.frameBoundary]
  (repeat' split) <;> simp
@[simp] theorem State.retransmit_pending (s : State) (vc : Nat) : (s.retransmit vc).pending = s.pending := by simp [State.retransmit]
@[simp] theorem State.clrCsbCnt_pending (s : State) : s.clrCsbCnt.pending = s.pending := by simp [State.clrCsbCnt]
@[simp] theorem State.joinRsp_pending (s : State) (n : Nat) (refuse rows : Bool) :
    (s.joinRsp n refuse rows).pending = s.pending := by simp [State.joinRsp]
@[simp] theorem State.joinTimeout_pending (s : State) (n : Nat) : (s.joinTimeout n).pending = s.pending := by simp [State.joinTimeout]
@[simp] theorem State.lockRpt_pending (s : State) (n rate : Nat) (companion : Bool) (lanes : Nat) :
    (s.lockRpt n rate companion lanes).pending = s.pending := by simp [State.lockRpt]
@[simp] theorem State.fallbackAnswered_pending (s : State) (n : Nat) : (s.fallbackAnswered n).pending = s.pending := by
  simp [State.fallbackAnswered]
@[simp] theorem State.fallbackHoldEnd_pending (s : State) (n : Nat) : (s.fallbackHoldEnd n).pending = s.pending := by
  simp [State.fallbackHoldEnd]
@[simp] theorem State.lockTimeout_pending (s : State) (n : Nat) : (s.lockTimeout n).pending = s.pending := by
  unfold State.lockTimeout
  split <;> simp
@[simp] theorem State.leave_pending (s : State) (n reason : Nat) : (s.leave n reason).pending = s.pending := by simp [State.leave]
@[simp] theorem State.rowLoss_pending (s : State) (n : Nat) : (s.rowLoss n).pending = s.pending := by simp [State.rowLoss]

/-! Spares -/

@[simp] theorem State.noSpare_pending (s : State) (h : Nat) : (s.noSpare h).pending = s.pending := by simp [State.noSpare]
@[simp] theorem State.nameSpare_pending (s : State) (h l n cause : Nat) : (s.nameSpare h l n cause).pending = s.pending := by
  simp [State.nameSpare]
@[simp] theorem State.askSpare_pending (s : State) (l n cause : Nat) : (s.askSpare l n cause).pending = s.pending := by
  simp [State.askSpare]
@[simp] theorem State.sendSpareReq_pending (s : State) (h l n cause : Nat) :
    (s.sendSpareReq h l n cause).pending = s.pending := by simp [State.sendSpareReq]
@[simp] theorem State.takeOver_pending (s : State) (src dst : Nat) : (s.takeOver src dst).pending = s.pending := by simp [State.takeOver]
@[simp] theorem State.shadowSpare_pending (s : State) (h : Nat) : (s.shadowSpare h).pending = s.pending := by simp [State.shadowSpare]
@[simp] theorem State.grantSpare_pending (s : State) (h : Nat) : (s.grantSpare h).pending = s.pending := by simp [State.grantSpare]
@[simp] theorem State.unshadowSpare_pending (s : State) (h : Nat) : (s.unshadowSpare h).pending = s.pending := by simp [State.unshadowSpare]
@[simp] theorem State.spareRefused_pending (s : State) (h res : Nat) : (s.spareRefused h res).pending = s.pending := by
  simp [State.spareRefused]
@[simp] theorem State.releaseRefused_pending (s : State) (h : Nat) : (s.releaseRefused h).pending = s.pending := by
  simp [State.releaseRefused]
@[simp] theorem State.spareRsp_pending (s : State) (h l res : Nat) : (s.spareRsp h l res).pending = s.pending := by simp [State.spareRsp]
@[simp] theorem State.spareRspTimeout_pending (s : State) (h : Nat) : (s.spareRspTimeout h).pending = s.pending := by
  simp [State.spareRspTimeout]
@[simp] theorem State.spareTrack_pending (s : State) (h offset : Nat) : (s.spareTrack h offset).pending = s.pending := by
  simp [State.spareTrack]
@[simp] theorem State.spareActive_pending (s : State) (h : Nat) : (s.spareActive h).pending = s.pending := by simp [State.spareActive]
@[simp] theorem State.spareProgress_pending (s : State) (h : Nat) : (s.spareProgress h).pending = s.pending := by simp [State.spareProgress]
@[simp] theorem State.spareSwitch_pending (s : State) (h : Nat) : (s.spareSwitch h).pending = s.pending := by simp [State.spareSwitch]
@[simp] theorem State.spareRxOn_pending (s : State) (h l : Nat) (uses : Bool) : (s.spareRxOn h l uses).pending = s.pending := by
  simp [State.spareRxOn]
@[simp] theorem State.answerSpare_pending (s : State) (h l res : Nat) : (s.answerSpare h l res).pending = s.pending := by
  simp [State.answerSpare]
@[simp] theorem State.spareReq_pending (s : State) (h l n : Nat) : (s.spareReq h l n).pending = s.pending := by simp [State.spareReq]
@[simp] theorem State.arbitrate_pending (s : State) (h : Nat) : (s.arbitrate h).pending = s.pending := by
  simp only [State.arbitrate]
  (repeat' split) <;> simp
@[simp] theorem State.spareDrip_pending (s : State) (h : Nat) : (s.spareDrip h).pending = s.pending := by simp [State.spareDrip]
@[simp] theorem State.spareManual_pending (s : State) (l : Nat) : (s.spareManual l).pending = s.pending := by
  unfold State.spareManual
  split <;> simp
@[simp] theorem State.spareRelease_pending (s : State) (h : Nat) : (s.spareRelease h).pending = s.pending := by simp [State.spareRelease]
@[simp] theorem State.spareTimeout_pending (s : State) (h : Nat) : (s.spareTimeout h).pending = s.pending := by simp [State.spareTimeout]
@[simp] theorem State.laneHealth_pending (s : State) (n : Nat) (counts : List Nat) :
    (s.laneHealth n counts).pending = s.pending := by simp [State.laneHealth]
@[simp] theorem State.windowLane_pending (s : State) (l : Nat) : (s.windowLane l).pending = s.pending := by
  unfold State.windowLane
  split <;> simp
@[simp] theorem State.spareWindow_pending (s : State) : s.spareWindow.pending = s.pending := by simp [State.spareWindow]
@[simp] theorem State.sliceLowSpare_pending (s : State) (ls : Nat) : (s.sliceLowSpare ls).pending = s.pending := by
  unfold State.sliceLowSpare
  (repeat' split) <;> simp
@[simp] theorem State.sparePowerUp_pending (s : State) (h : Nat) : (s.sparePowerUp h).pending = s.pending := by simp [State.sparePowerUp]

/-! Surplus slots -/

@[simp] theorem State.sendSlot_pending (s : State) (n : Nat) (h payload : List Nat) (pcrc : Bool) :
    (s.sendSlot n h payload pcrc).pending = s.pending := by simp [State.sendSlot]
@[simp] theorem State.qCompare_pending (s : State) (n : Nat) : (s.qCompare n).pending = s.pending := by simp [State.qCompare]
@[simp] theorem State.qSample_pending (s : State) (n : Nat) : (s.qSample n).pending = s.pending := by
  simp -implicitDefEqProofs [State.qSample]
@[simp] theorem State.ageQueues_pending (s : State) (n young : Nat) : (s.ageQueues n young).pending = s.pending := by simp [State.ageQueues]
@[simp] theorem State.refillPort_pending (s : State) (n : Nat) : (s.refillPort n).pending = s.pending := by simp [State.refillPort]
@[simp] theorem State.refillView_pending (s : State) (v : Nat) : (s.refillView v).pending = s.pending := by simp [State.refillView]
@[simp] theorem State.showTokens_pending (s : State) (n : Nat) : (s.showTokens n).pending = s.pending := by simp [State.showTokens]
@[simp] theorem State.sendErrata_pending (s : State) (n : Nat) : (s.sendErrata n).pending = s.pending := by simp [State.sendErrata]
@[simp] theorem State.sendHoldReqs_pending (s : State) (n : Nat) : (s.sendHoldReqs n).pending = s.pending := by simp [State.sendHoldReqs]
@[simp] theorem State.sendGone_pending (s : State) (n : Nat) (q : RplReq) (reason : Nat) :
    (s.sendGone n q reason).pending = s.pending := by simp [State.sendGone]
@[simp] theorem State.sendBody_pending (s : State) (n : Nat) (q : RplReq) (e : RplEntry) :
    (s.sendBody n q e).pending = s.pending := by simp [State.sendBody]
@[simp] theorem State.sendReplay_pending (s : State) (n undecoded : Nat) (q : RplReq) (ecc : Ecc) :
    (s.sendReplay n undecoded q ecc).pending = s.pending := by
  simp only [State.sendReplay]
  (repeat' split) <;> simp
@[simp] theorem State.sendNotice_pending (s : State) (n : Nat) : (s.sendNotice n).pending = s.pending := by simp [State.sendNotice]
@[simp] theorem State.sendMessage_pending (s : State) (n : Nat) (i : C3Item) : (s.sendMessage n i).pending = s.pending := by
  unfold State.sendMessage
  split <;> simp
@[simp] theorem State.sendChunk_pending (s : State) (n : Nat) (c : List Nat) : (s.sendChunk n c).pending = s.pending := by
  simp [State.sendChunk]
@[simp] theorem State.sendFill_pending (s : State) (n : Nat) : (s.sendFill n).pending = s.pending := by simp [State.sendFill]
@[simp] theorem State.sendLow_pending (s : State) (n : Nat) : (s.sendLow n).pending = s.pending := by
  unfold State.sendLow
  split <;> simp
@[simp] theorem State.sendClass3_pending (s : State) (n : Nat) (ecc : Ecc) : (s.sendClass3 n ecc).pending = s.pending := by
  unfold State.sendClass3
  (repeat' split) <;> simp
@[simp] theorem State.sendUpper_pending (s : State) (n : Nat) (ecc : Ecc) : (s.sendUpper n ecc).pending = s.pending := by
  simp [State.sendUpper]
@[simp] theorem State.chooseSlot_pending (s : State) (n young undecoded : Nat) (ecc : Ecc) :
    (s.chooseSlot n young undecoded ecc).pending = s.pending := by
  simp only [State.chooseSlot]
  (repeat' split) <;> simp
@[simp] theorem State.slotDecision_pending (s : State) (n young undecoded unsent : Nat) (ecc : Ecc) :
    (s.slotDecision n young undecoded unsent ecc).pending = s.pending := by simp [State.slotDecision]
@[simp] theorem State.errDeadline_pending (s : State) (n : Nat) : (s.errDeadline n).pending = s.pending := by simp [State.errDeadline]
@[simp] theorem State.endHold_pending (s : State) (n : Nat) (q : HoldReq) : (s.endHold n q).pending = s.pending := by simp [State.endHold]
@[simp] theorem State.putBody_pending (s : State) (n : Nat) (q : HoldReq) (body : List Nat) (info : FlitInfo) :
    (s.putBody n q body info).pending = s.pending := by simp [State.putBody]
@[simp] theorem State.holdAnswer_pending (s : State) (n : Nat) (slot : List Nat) (arr : BodyArrival) :
    (s.holdAnswer n slot arr).pending = s.pending := by
  simp only [State.holdAnswer]
  split <;> simp
@[simp] theorem State.takeRequests_pending (s : State) (n : Nat) (slot : List Nat) :
    (s.takeRequests n slot).pending = s.pending := by simp [State.takeRequests]
@[simp] theorem State.takeMessage_pending (s : State) (n : Nat) (slot : List Nat) :
    (s.takeMessage n slot).pending = s.pending := by simp [State.takeMessage]
@[simp] theorem State.actSlot_pending (s : State) (n : Nat) (slot : List Nat) (arr : Option BodyArrival) :
    (s.actSlot n slot arr).pending = s.pending := by
  unfold State.actSlot
  split <;> simp
@[simp] theorem State.inboundSlot_pending (s : State) (n : Nat) (slot : List Nat) (arr : Option BodyArrival) :
    (s.inboundSlot n slot arr).pending = s.pending := by simp [State.inboundSlot]
@[simp] theorem State.clrSlotCnt_pending (s : State) : s.clrSlotCnt.pending = s.pending := by simp [State.clrSlotCnt]

/-! Clocks and the timebase -/

@[simp] theorem State.switchDomains_pending (s : State) : s.switchDomains.pending = s.pending := by simp [State.switchDomains]
@[simp] theorem State.sourceBack_pending (s : State) (src : Nat) : (s.sourceBack src).pending = s.pending := by simp [State.sourceBack]
@[simp] theorem State.pllLock_pending (s : State) (p : Pll) : (s.pllLock p).pending = s.pending := by
  cases p <;> simp [State.pllLock]
@[simp] theorem State.setCoreRef_pending (s : State) (req v : Nat) : (s.setCoreRef req v).pending = s.pending := by simp [State.setCoreRef]
@[simp] theorem State.setQuadRef_pending (s : State) (f lock : Fld) (req : Nat) (v : Bool) :
    (s.setQuadRef f lock req v).pending = s.pending := by simp [State.setQuadRef]
@[simp] theorem State.clocksDown_pending (s : State) : s.clocksDown.pending = s.pending := by simp [State.clocksDown]
@[simp] theorem State.unalign_pending (s : State) : s.unalign.pending = s.pending := by simp [State.unalign]
@[simp] theorem State.lossReaction_pending (s : State) (src : Nat) : (s.lossReaction src).pending = s.pending := by
  simp [State.lossReaction]
@[simp] theorem State.sourceLoss_pending (s : State) (src : Nat) : (s.sourceLoss src).pending = s.pending := by simp [State.sourceLoss]
@[simp] theorem State.coreRestart_pending (s : State) (cycles : Nat) : (s.coreRestart cycles).pending = s.pending := by
  simp [State.coreRestart]
@[simp] theorem State.fmStart_pending (s : State) : s.fmStart.pending = s.pending := by simp [State.fmStart]
@[simp] theorem State.fmEnd_pending (s : State) (count : Nat) : (s.fmEnd count).pending = s.pending := by simp [State.fmEnd]
@[simp] theorem State.tsyncEdge_pending (s : State) (arrived : Int) : (s.tsyncEdge arrived).pending = s.pending := by simp [State.tsyncEdge]
@[simp] theorem State.tsyncMiss_pending (s : State) : s.tsyncMiss.pending = s.pending := by
  unfold State.tsyncMiss
  split <;> simp
@[simp] theorem State.beaconAlign_pending (s : State) (d : Nat) : (s.beaconAlign d).pending = s.pending := by simp [State.beaconAlign]
@[simp] theorem State.setTsyncMode_pending (s : State) (v : Nat) : (s.setTsyncMode v).pending = s.pending := by simp [State.setTsyncMode]
@[simp] theorem State.advanceDrip_pending (s : State) : s.advanceDrip.pending = s.pending := by simp [State.advanceDrip]
@[simp] theorem State.armSlot_pending (s : State) (req k : Nat) : (s.armSlot req k).pending = s.pending := by simp [State.armSlot]
@[simp] theorem State.cancelSlot_pending (s : State) (k : Nat) : (s.cancelSlot k).pending = s.pending := by simp [State.cancelSlot]
@[simp] theorem State.slotCtl_pending (s : State) (req k : Nat) (arm cancel : Bool) :
    (s.slotCtl req k arm cancel).pending = s.pending := by simp [State.slotCtl]
@[simp] theorem State.clrClkCnt_pending (s : State) : s.clrClkCnt.pending = s.pending := by simp [State.clrClkCnt]

/-! Power and calibration -/

@[simp] theorem State.railSample_pending (s : State) (ok warn : Fld) (inst v lo hi bad : Nat) (compare : Bool) :
    (s.railSample ok warn inst v lo hi bad compare).pending = s.pending := by simp [State.railSample]
@[simp] theorem State.rails_pending (s : State) (vddc vdda vddh : Nat) (early : Bool) :
    (s.rails vddc vdda vddh early).pending = s.pending := by simp [State.rails]
@[simp] theorem State.avsTarget_pending (s : State) (mv : Nat) : (s.avsTarget mv).pending = s.pending := by simp [State.avsTarget]
@[simp] theorem State.avsCommand_pending (s : State) : s.avsCommand.pending = s.pending := by simp [State.avsCommand]
@[simp] theorem State.avsFault_pending (s : State) : s.avsFault.pending = s.pending := by simp [State.avsFault]
@[simp] theorem State.setAvsEn_pending (s : State) (on : Bool) : (s.setAvsEn on).pending = s.pending := by simp [State.setAvsEn]
@[simp] theorem State.gateQuad_pending (s : State) (q : Nat) : (s.gateQuad q).pending = s.pending := by simp [State.gateQuad]
@[simp] theorem State.bifurQuad_pending (s : State) (req q new : Nat) : (s.bifurQuad req q new).pending = s.pending := by
  simp [State.bifurQuad]
@[simp] theorem State.askUngate_pending (s : State) (qs : List Nat) : (s.askUngate qs).pending = s.pending := by
  simp -implicitDefEqProofs [State.askUngate]
@[simp] theorem State.dropViews_pending (s old : State) : (s.dropViews old).pending = s.pending := by simp [State.dropViews]
@[simp] theorem State.quadUngate_pending (s : State) (q : Nat) : (s.quadUngate q).pending = s.pending := by simp [State.quadUngate]
@[simp] theorem State.condEnd_pending (s : State) (src : Nat) : (s.condEnd src).pending = s.pending := by simp [State.condEnd]
@[simp] theorem State.thermCompare_pending (s : State) (now sticky : Fld) (src : Nat) (limit tmax : Int) (hot : Nat) :
    (s.thermCompare now sticky src limit tmax hot).pending = s.pending := by simp [State.thermCompare]
@[simp] theorem State.tripGone_pending (s : State) : s.tripGone.pending = s.pending := by simp [State.tripGone]
@[simp] theorem State.sensor_pending (s : State) (k : Nat) (t : Int) : (s.sensor k t).pending = s.pending := by simp [State.sensor]
@[simp] theorem State.temperatures_pending (s : State) (temps : List Int) : (s.temperatures temps).pending = s.pending := by
  simp [State.temperatures]
@[simp] theorem State.thermalTrip_pending (s : State) : s.thermalTrip.pending = s.pending := by simp [State.thermalTrip]
@[simp] theorem State.startCal_pending (s : State) (q zref : Nat) (startup : Bool) :
    (s.startCal q zref startup).pending = s.pending := by simp [State.startCal]
@[simp] theorem State.correct_pending (s : State) (q ls : Nat) : (s.correct q ls).pending = s.pending := by simp [State.correct]
@[simp] theorem State.calSlice_pending (s : State) (q ls : Nat) : (s.calSlice q ls).pending = s.pending := by
  simp only [State.calSlice]
  (repeat' split) <;> simp
@[simp] theorem State.calLeg_pending (s : State) (q ls : Nat) : (s.calLeg q ls).pending = s.pending := by simp [State.calLeg]
@[simp] theorem State.calLane_pending (s : State) (q ls : Nat) : (s.calLane q ls).pending = s.pending := by simp [State.calLane]
@[simp] theorem State.calDrip_pending (s : State) (q zref : Nat) (slip : Bool) : (s.calDrip q zref slip).pending = s.pending := by
  simp [State.calDrip]
@[simp] theorem State.rampDrip_pending (s : State) : s.rampDrip.pending = s.pending := by simp [State.rampDrip]
@[simp] theorem State.calEnd_pending (s : State) (q : Nat) : (s.calEnd q).pending = s.pending := by simp [State.calEnd]
@[simp] theorem State.calRequest_pending (s : State) (q : Nat) : (s.calRequest q).pending = s.pending := by simp [State.calRequest]
@[simp] theorem State.calRun_pending (s : State) (mask : Nat) : (s.calRun mask).pending = s.pending := by simp [State.calRun]
@[simp] theorem State.failLeg_pending (s : State) (ls k : Nat) : (s.failLeg ls k).pending = s.pending := by simp [State.failLeg]
@[simp] theorem State.clrPwrCnt_pending (s : State) : s.clrPwrCnt.pending = s.pending := by simp -implicitDefEqProofs [State.clrPwrCnt]
@[simp] theorem State.secureGate_pending (s : State) (gate : Bool) : (s.secureGate gate).pending = s.pending := by simp [State.secureGate]
@[simp] theorem State.secureRelease_pending (s : State) : s.secureRelease.pending = s.pending := by
  simp only [State.secureRelease]
  split <;> simp

/-! The management bus -/

@[simp] theorem State.takeAddr_pending (s : State) (a : Nat) : (s.takeAddr a).pending = s.pending := by simp [State.takeAddr]
@[simp] theorem State.ccc_pending (s : State) (k : State → State) (hk : ∀ a, (k a).pending = a.pending) :
    (s.ccc k).pending = s.pending := by simp [State.ccc, hk]
@[simp] theorem State.cccRead_pending (s : State) (bytes : List Nat) : (s.cccRead bytes).pending = s.pending := by
  simp -implicitDefEqProofs [State.cccRead]
@[simp] theorem State.pktRead_pending (s : State) (p : BusPkt) : (s.pktRead p).pending = s.pending := by
  unfold State.pktRead
  split <;> simp
@[simp] theorem State.dropOldest_pending (s : State) (smbus : Bool) : (s.dropOldest smbus).pending = s.pending := by
  unfold State.dropOldest
  (repeat' split) <;> simp
@[simp] theorem State.readPkt_pending (s : State) (smbus refused : Bool) : (s.readPkt smbus refused).pending = s.pending := by
  unfold State.readPkt
  split <;> simp
@[simp] theorem State.heard_pending (s : State) (k : State → State) (hk : ∀ a, (k a).pending = a.pending) :
    (s.heard k).pending = s.pending := by simp [State.heard, hk]
@[simp] theorem State.mctpAnswer_pending (s : State) (src tag code : Nat) (bytes : List Nat) :
    (s.mctpAnswer src tag code bytes).pending = s.pending := by simp [State.mctpAnswer]

/-! Reads at an address -/

@[simp] theorem State.readReg_pending (s : State) (req addr ns : Nat) (r : Reg) (i : Nat) :
    (s.readReg req addr ns r i).2.pending = s.pending := by
  unfold State.readReg
  (repeat' split) <;> simp
@[simp] theorem State.readWindow_pending (s : State) (w : Window) (addr : Nat) : (s.readWindow w addr).2.pending = s.pending := by
  unfold State.readWindow
  split <;> simp
@[simp] theorem State.readWord_pending (s : State) (req addr ns : Nat) : (s.readWord req addr ns).2.pending = s.pending := by
  unfold State.readWord
  (repeat' split) <;> simp

/-! The configuration tally -/

@[simp] theorem State.passStart_pending (s : State) : s.passStart.pending = s.pending := by simp [State.passStart]
@[simp] theorem State.passCompare_pending (s : State) (lrun : Bool) : (s.passCompare lrun).pending = s.pending := by
  simp [State.passCompare]
@[simp] theorem State.passEnd_pending (s : State) : s.passEnd.pending = s.pending := by
  unfold State.passEnd
  split
  · rfl
  · dsimp only
    split <;> simp -implicitDefEqProofs
@[simp] theorem State.passDrip_pending (s : State) : s.passDrip.pending = s.pending := by
  unfold State.passDrip
  split <;> simp
@[simp] theorem State.takeRef_pending (s : State) (v : Nat) : (s.takeRef v).pending = s.pending := by simp [State.takeRef]
@[simp] theorem State.commit_pending (s : State) : (s.commit).2.pending = s.pending := by
  unfold State.commit
  split <;> simp
@[simp] theorem State.adopt_pending (s : State) : s.adopt.pending = s.pending := by simp [State.adopt]
@[simp] theorem State.tallySnap_pending (s : State) : s.tallySnap.pending = s.pending := by simp [State.tallySnap]
@[simp] theorem State.askCommit_pending (s : State) : s.askCommit.pending = s.pending := by simp [State.askCommit]
@[simp] theorem State.askAdopt_pending (s : State) : s.askAdopt.pending = s.pending := by simp [State.askAdopt]

/-! Resets and update control -/

@[simp] theorem State.showFlash_pending (s : State) : s.showFlash.pending = s.pending := by
  unfold State.showFlash
  split <;> simp
@[simp] theorem State.flashWrite_pending (s : State) (k : Flash → Flash) : (s.flashWrite k).2.pending = s.pending := by
  unfold State.flashWrite
  (repeat' split) <;> simp
@[simp] theorem State.compactLog_pending (s : State) : s.compactLog.pending = s.pending := by
  unfold State.compactLog
  split <;> simp
@[simp] theorem State.compactFw_pending (s : State) : s.compactFw.pending = s.pending := by simp [State.compactFw]
@[simp] theorem State.appendLog_pending (s : State) (t : RecType) (comp b : Nat) :
    (s.appendLog t comp b).pending = s.pending := by simp [State.appendLog]
@[simp] theorem State.bootErr_pending (s : State) (code comp b : Nat) : (s.bootErr code comp b).pending = s.pending := by
  simp [State.bootErr]
@[simp] theorem State.reportRevert_pending (s : State) (comp b : Nat) : (s.reportRevert comp b).pending = s.pending := by
  simp [State.reportRevert]
@[simp] theorem State.openWindow_pending (s : State) (byAct : Bool) : (s.openWindow byAct).pending = s.pending := by simp [State.openWindow]
@[simp] theorem State.closeWindow_pending (s : State) : s.closeWindow.pending = s.pending := by simp [State.closeWindow]
@[simp] theorem State.windowDrip_pending (s : State) (advance : Nat) : (s.windowDrip advance).pending = s.pending := by
  unfold State.windowDrip
  split <;> simp
@[simp] theorem State.applyChoice_pending (s : State) (comp : Nat) (c : Choice) : (s.applyChoice comp c).pending = s.pending := by
  unfold State.applyChoice
  (repeat' split) <;> simp
@[simp] theorem State.keepPins_pending (t s : State) (por : Bool) : (State.keepPins t s por).pending = t.pending := by
  simp -implicitDefEqProofs [State.keepPins]
@[simp] theorem State.wipe_pending (s : State) (por : Bool) (st : Straps) : (s.wipe por st).pending = s.pending := by
  unfold State.wipe
  simp -implicitDefEqProofs
@[simp] theorem State.warmStart_pending (s : State) (cause : Fld) (st : Straps) : (s.warmStart cause st).pending = s.pending := by
  simp [State.warmStart]
@[simp] theorem State.deviceReset_pending (s : State) : s.deviceReset.pending = s.pending := by simp [State.deviceReset]
@[simp] theorem State.askDeviceReset_pending (s : State) (req : Nat) : (s.askDeviceReset req).pending = s.pending := by
  simp [State.askDeviceReset]
@[simp] theorem State.rehand_pending (s : State) (v : Nat) : (s.rehand v).pending = s.pending := by simp [State.rehand]
@[simp] theorem State.busRestart_pending (s : State) : s.busRestart.pending = s.pending := by simp [State.busRestart]
@[simp] theorem State.bootRecovery_pending (s : State) : s.bootRecovery.pending = s.pending := by simp [State.bootRecovery]
@[simp] theorem State.warmPath_pending (s : State) (byAct : Bool) : (s.warmPath byAct).pending = s.pending := by
  simp only [State.warmPath]
  (repeat' split) <;> simp
@[simp] theorem State.lanternReset_pending (s : State) (cause : Fld) (byAct : Bool) :
    (s.lanternReset cause byAct).pending = s.pending := by simp [State.lanternReset]
@[simp] theorem State.watchdogExpires_pending (s : State) : s.watchdogExpires.pending = s.pending := by simp [State.watchdogExpires]
@[simp] theorem State.loadPhrase_pending (s : State) (p : Section) (ok : Bool) (q bank : Nat) :
    (s.loadPhrase p ok q bank).pending = s.pending := by simp [State.loadPhrase]
@[simp] theorem State.loadPhrases_pending (s : State) (bank : State → Nat → Nat) : (s.loadPhrases bank).pending = s.pending := by
  unfold State.loadPhrases
  split <;> simp
@[simp] theorem State.armFree_pending (s : State) (action arg target : Nat) :
    (s.armFree action arg target).2.pending = s.pending := by
  unfold State.armFree
  split <;> simp
@[simp] theorem State.swapPhrases_pending (s : State) (start : Nat) : (s.swapPhrases start).pending = s.pending := by
  simp [State.swapPhrases]
@[simp] theorem State.abortInProgress_pending (s : State) (v : Nat) : (s.abortInProgress v).pending = s.pending := by
  simp [State.abortInProgress]
@[simp] theorem State.firmwareRuns_pending (s : State) : s.firmwareRuns.pending = s.pending := by simp [State.firmwareRuns]
@[simp] theorem State.lanternRestart_pending (s : State) : s.lanternRestart.pending = s.pending := by
  unfold State.lanternRestart
  split <;> simp
@[simp] theorem State.activate_pending (s : State) : (s.activate).2.pending = s.pending := by
  simp only [State.activate]
  split <;> simp
@[simp] theorem State.confirmTrials_pending (s : State) : s.confirmTrials.pending = s.pending := by simp [State.confirmTrials]
@[simp] theorem State.revertTrials_pending (s : State) : s.revertTrials.pending = s.pending := by simp [State.revertTrials]
@[simp] theorem State.reactivate_pending (s : State) : s.reactivate.pending = s.pending := by
  refine forEach_pending _ _ fun comp a => ?_
  split <;> simp
@[simp] theorem State.beginLoad_pending (s : State) : s.beginLoad.pending = s.pending := by
  simp only [State.beginLoad]
  split <;> simp
@[simp] theorem State.continueHold_pending (s : State) : s.continueHold.pending = s.pending := by simp [State.continueHold]
@[simp] theorem State.clrBootCnt_pending (s : State) : s.clrBootCnt.pending = s.pending := by simp [State.clrBootCnt]
@[simp] theorem State.updCtl_pending (s : State) (v : Nat) : (s.updCtl v).pending = s.pending := by simp [State.updCtl]

/-! Mirrors -/

@[simp] theorem State.refreshReg_pending (s : State) (m : Reg × Nat) : (s.refreshReg m).pending = s.pending := by
  simp -implicitDefEqProofs [State.refreshReg]
@[simp] theorem State.ageReg_pending (s : State) (m : Reg × Nat) : (s.ageReg m).pending = s.pending := by simp [State.ageReg]
@[simp] theorem State.ageMirrors_pending (s : State) : s.ageMirrors.pending = s.pending := by simp [State.ageMirrors]
@[simp] theorem State.mirrorRefresh_pending (s : State) (u : MirrorUnit) : (s.mirrorRefresh u).pending = s.pending := by
  unfold State.mirrorRefresh
  (repeat' split) <;> simp

/-! Writes of registers -/

@[simp] theorem State.writeField_pending (s : State) (own : Option Fld) (req addr val i : Nat) (f : Fld) :
    (s.writeField own req addr val i f).pending = s.pending := by
  unfold State.writeField
  (repeat' split) <;> simp
@[simp] theorem State.writeFields_pending (s : State) (r : Reg) (req addr val i : Nat) :
    (s.writeFields r req addr val i).pending = s.pending := by simp [State.writeFields]
@[simp] theorem State.overrideCoefs_pending (s : State) (ls : Nat) (was : Bool) :
    (s.overrideCoefs ls was).pending = s.pending := by simp [State.overrideCoefs]
@[simp] theorem State.portCfgActs_pending (s : State) (n : Nat) (comp prsnt : Bool) :
    (s.portCfgActs n comp prsnt).pending = s.pending := by simp [State.portCfgActs]
@[simp] theorem State.capCtl_pending (s : State) (n val : Nat) : (s.capCtl n val).pending = s.pending := by simp [State.capCtl]
@[simp] theorem State.viewCtl_pending (s : State) (req v val : Nat) : (s.viewCtl req v val).pending = s.pending := by simp [State.viewCtl]
@[simp] theorem State.glbRst_pending (s : State) (req val : Nat) : (s.glbRst req val).pending = s.pending := by simp [State.glbRst]
@[simp] theorem State.writeActs_pending (s old : State) (r : Reg) (req addr val i : Nat) :
    (s.writeActs old r req addr val i).pending = s.pending := by
  unfold State.writeActs
  split <;> simp
@[simp] theorem State.stage_pending (s : State) (addr val : Nat) : (s.stage addr val).pending = s.pending := by simp [State.stage]
@[simp] theorem State.movePair_pending (s : State) (lo hi : Reg) (req addr val i : Nat) :
    (s.movePair lo hi req addr val i).pending = s.pending := by
  simp only [State.movePair]
  split <;> simp
@[simp] theorem State.compatBuffer_pending (s : State) (r : Reg) (req addr val : Nat) :
    (s.compatBuffer r req addr val).pending = s.pending := by simp [State.compatBuffer]
@[simp] theorem State.compatPortCfg_pending (s : State) (n val : Nat) : (s.compatPortCfg n val).pending = s.pending := by
  simp [State.compatPortCfg]
@[simp] theorem State.compatApply_pending (s : State) (addr val : Nat) : (s.compatApply addr val).pending = s.pending := by
  unfold State.compatApply
  (repeat' split) <;> simp
@[simp] theorem State.compatDrain_pending (s : State) : s.compatDrain.pending = s.pending := by simp [State.compatDrain]
@[simp] theorem State.busRead_pending (s : State) (r : Requester) (addr ns : Nat) :
    (s.busRead r addr ns).pending = s.pending := by
  unfold State.busRead
  split
  · rfl
  · have h := s.readWord_pending (reqCode r) addr ns
    split <;> simp_all

/-! The management protocol -/

@[simp] theorem State.arrive_pending (s : State) (rt : Route) (view : Nat) (entry : List Nat) (ecc : Ecc) :
    (s.arrive rt view entry ecc).pending = s.pending := by
  unfold State.arrive
  (repeat' split) <;> simp
@[simp] theorem State.visited_pending (s : State) (next : List Nat) : (s.visited next).pending = s.pending := by simp [State.visited]
@[simp] theorem State.answer_pending (s : State) (v slot : Nat) (e : List Nat) (rep status : Nat) (payload : List Nat) :
    (s.answer v slot e rep status payload).pending = s.pending := by simp [State.answer]
@[simp] theorem State.kept_pending (s : State) (v slot : Nat) : (s.kept v slot).2.pending = s.pending := by
  unfold State.kept
  split <;> simp
@[simp] theorem State.ueAt_pending (s : State) (a : Nat) : (s.ueAt a).pending = s.pending := by
  unfold State.ueAt
  split <;> simp
@[simp] theorem serveReads_pending (ns : Nat) (l : List (Nat × Nat)) (ue : List Nat) (s : State) :
    (serveReads ns l ue s).2.2.pending = s.pending := by
  induction l generalizing s with
  | nil => rfl
  | cons x t ih =>
    unfold serveReads
    have h := s.readWord_pending 0 x.2 ns
    split
    · simp
    · split <;> simp_all
@[simp] theorem State.resyncBytes_pending (s : State) (v slot : Nat) : (s.resyncBytes v slot).2.pending = s.pending := by
  simp [State.resyncBytes]

/-! Start-up -/

@[simp] theorem State.readFlash_pending (s : State) (f : Flash) : (s.readFlash f).pending = s.pending := by simp [State.readFlash]
@[simp] theorem State.recover_pending (s : State) : s.recover.pending = s.pending := by simp [State.recover]
@[simp] theorem State.chooseBanks_pending (s : State) (f : Flash) : (s.chooseBanks f).pending = s.pending := by simp [State.chooseBanks]
@[simp] theorem State.endStage3_pending (s : State) (seen : FlashSeen) : (s.endStage3 seen).pending = s.pending := by
  unfold State.endStage3
  split <;> simp
@[simp] theorem State.endStage4_pending (s : State) : s.endStage4.pending = s.pending := by
  simp only [State.endStage4]
  (repeat' split) <;> simp
@[simp] theorem State.endStage5_pending (s : State) : s.endStage5.pending = s.pending := by
  unfold State.endStage5
  (repeat' split) <;> simp
@[simp] theorem State.endStage6_pending (s : State) : s.endStage6.pending = s.pending := by
  unfold State.endStage6
  split <;> simp
@[simp] theorem State.endStage7_pending (s : State) : s.endStage7.pending = s.pending := by simp [State.endStage7]
@[simp] theorem State.applyWidth_pending (s : State) : s.applyWidth.pending = s.pending := by
  unfold State.applyWidth
  split
  · simp -implicitDefEqProofs
  · rfl
@[simp] theorem State.endStage8_pending (s : State) : s.endStage8.pending = s.pending := by simp [State.endStage8]
@[simp] theorem State.bootFails_pending (s : State) (code : Nat) : (s.bootFails code).pending = s.pending := by
  simp only [State.bootFails]
  split <;> simp
@[simp] theorem State.applyLocks_pending (s : State) : s.applyLocks.pending = s.pending := by
  refine forEach_pending _ _ fun r a => ?_
  split <;> simp
@[simp] theorem State.releaseNext_pending (k : Nat) (s : State) : (State.releaseNext k s).pending = s.pending := by
  induction k generalizing s with
  | zero => rfl
  | succ k ih => unfold State.releaseNext; split <;> simp [ih]
@[simp] theorem State.releaseDrip_pending (s : State) : s.releaseDrip.pending = s.pending := by simp [State.releaseDrip]
@[simp] theorem State.releasePorts_pending (s : State) (us : Nat) : (s.releasePorts us).pending = s.pending := by simp [State.releasePorts]
@[simp] theorem State.endStage10_pending (s : State) (us : Nat) : (s.endStage10 us).pending = s.pending := by
  simp -implicitDefEqProofs [State.endStage10]

/-! Firmware update -/

@[simp] theorem State.modPldm_pending (s : State) (f : PldmSt → PldmSt) : (s.modPldm f).pending = s.pending := by simp [State.modPldm]
@[simp] theorem State.setPstate_pending (s : State) (v : Nat) : (s.setPstate v).pending = s.pending := by simp [State.setPstate]
@[simp] theorem State.pldmSend_pending (s : State) (dest cmd : Nat) (req : Bool) (bytes : List Nat) :
    (s.pldmSend dest cmd req bytes).pending = s.pending := by simp [State.pldmSend]
@[simp] theorem State.pldmTake_pending (s : State) (k : State → State) (hk : ∀ a, (k a).pending = a.pending) :
    (s.pldmTake k).pending = s.pending := by simp [State.pldmTake, hk]
@[simp] theorem State.pldmIn_pending (s : State) (src cmd : Nat) (ok : Nat → Bool) (k : State → State) (hk : ∀ a, (k a).pending = a.pending) :
    (s.pldmIn src cmd ok k).pending = s.pending := by simp [State.pldmIn, hk]
@[simp] theorem State.pldmOwn_pending (s : State) (src st : Nat) (k : State → State) (hk : ∀ a, (k a).pending = a.pending) :
    (s.pldmOwn src st k).pending = s.pending := by simp [State.pldmOwn, hk]
@[simp] theorem State.endComponent_pending (s : State) (res : Nat) : (s.endComponent res).pending = s.pending := by
  simp [State.endComponent]
@[simp] theorem State.abortComponent_pending (s : State) (res : Nat) : (s.abortComponent res).pending = s.pending := by
  simp [State.abortComponent]
@[simp] theorem State.abortUpdate_pending (s : State) (res : Nat) : (s.abortUpdate res).pending = s.pending := by simp [State.abortUpdate]
@[simp] theorem State.requestUpdate_pending (s : State) (src maxXfer : Nat) :
    (s.requestUpdate src maxXfer).pending = s.pending := by simp [State.requestUpdate]
@[simp] theorem State.askPiece_pending (s : State) : s.askPiece.pending = s.pending := by simp [State.askPiece]
@[simp] theorem State.startDownload_pending (s : State) (comp size : Nat) : (s.startDownload comp size).pending = s.pending := by
  simp [State.startDownload]
@[simp] theorem State.updateComponent_pending (s : State) (src comp size : Nat) :
    (s.updateComponent src comp size).pending = s.pending := by simp [State.updateComponent]
@[simp] theorem State.pieceArrives_pending (s : State) (bytes : List Nat) : (s.pieceArrives bytes).pending = s.pending := by
  simp [State.pieceArrives]
@[simp] theorem State.learnCrypto_pending (s : State) (c : Crypto) : (s.learnCrypto c).pending = s.pending := by simp [State.learnCrypto]
@[simp] theorem State.verifyEnds_pending (s : State) (src : Nat) (crypto : Crypto) (certOk : Bool) :
    (s.verifyEnds src crypto certOk).pending = s.pending := by simp [State.verifyEnds]
@[simp] theorem State.applyComponent_pending (s : State) (comp : Nat) (ok : Bool) :
    (s.applyComponent comp ok).2.pending = s.pending := by
  unfold State.applyComponent
  (repeat' split) <;> simp
@[simp] theorem State.applyEnds_pending (s : State) (src : Nat) (ok : Bool) : (s.applyEnds src ok).pending = s.pending := by
  simp [State.applyEnds]
@[simp] theorem State.activateFirmware_pending (s : State) (src : Nat) (own : Bool) :
    (s.activateFirmware src own).pending = s.pending := by
  simp only [State.activateFirmware]
  split <;> simp

/-! The drip boundary -/

@[simp] theorem State.slotDone_pending (s : State) (k result failq : Nat) : (s.slotDone k result failq).pending = s.pending := by
  simp [State.slotDone]
@[simp] theorem State.slotsDone_pending (s : State) (ks : List Nat) (ok : Bool) : (s.slotsDone ks ok).pending = s.pending := by
  simp [State.slotsDone]
@[simp] theorem State.commitDrip_pending (s : State) : s.commitDrip.pending = s.pending := by simp [State.commitDrip]
@[simp] theorem State.snapDrip_pending (s : State) : s.snapDrip.pending = s.pending := by simp [State.snapDrip]
@[simp] theorem State.bankDrip_pending (s : State) : s.bankDrip.pending = s.pending := by simp [State.bankDrip]
@[simp] theorem State.heatDrip_pending (s : State) : s.heatDrip.pending = s.pending := by simp [State.heatDrip]
@[simp] theorem State.retrainDrip_pending (s : State) : s.retrainDrip.pending = s.pending := by simp [State.retrainDrip]
@[simp] theorem State.activateDrip_pending (s : State) : s.activateDrip.pending = s.pending := by simp [State.activateDrip]
@[simp] theorem State.schedule_pending (s : State) : s.schedule.pending = s.pending := by simp [State.schedule]
@[simp] theorem State.phraseDrip_pending (s : State) (d : DripIn) : (s.phraseDrip d).pending = s.pending := by simp [State.phraseDrip]
@[simp] theorem State.pulseDrip_pending (s : State) : s.pulseDrip.pending = s.pending := by simp [State.pulseDrip]
@[simp] theorem State.sliceDrip_pending (s : State) (ls k : Nat) : (s.sliceDrip ls k).pending = s.pending := by simp [State.sliceDrip]
@[simp] theorem State.laneDrip_pending (s : State) (d : DripIn) : (s.laneDrip d).pending = s.pending := by simp [State.laneDrip]
@[simp] theorem State.lwdogDrip_pending (s : State) : s.lwdogDrip.pending = s.pending := by simp [State.lwdogDrip]
@[simp] theorem State.scrubDrip_pending (s : State) : s.scrubDrip.pending = s.pending := by simp [State.scrubDrip]
@[simp] theorem State.safeDrip_pending (s : State) : s.safeDrip.pending = s.pending := by simp [State.safeDrip]
@[simp] theorem State.aliveDrip_pending (s : State) : s.aliveDrip.pending = s.pending := by simp [State.aliveDrip]
@[simp] theorem State.downDrip_pending (s : State) : s.downDrip.pending = s.pending := by simp [State.downDrip]
@[simp] theorem State.misCompare_pending (s : State) (unit i : Nat) : (s.misCompare unit i).pending = s.pending := by
  simp [State.misCompare]
@[simp] theorem State.misDrip_pending (s : State) : s.misDrip.pending = s.pending := by simp [State.misDrip]
@[simp] theorem State.sumpDrip_pending (s : State) : s.sumpDrip.pending = s.pending := by simp [State.sumpDrip]
@[simp] theorem State.dripStart_pending (s : State) : s.dripStart.pending = s.pending := by simp [State.dripStart]
@[simp] theorem State.dripEnd_pending (s : State) (d : DripIn) : (s.dripEnd d).pending = s.pending := by simp [State.dripEnd]
@[simp] theorem State.dripBoundary_pending (s : State) (d : DripIn) : (s.dripBoundary d).pending = s.pending := by simp [State.dripBoundary]

/-! SPDM -/

@[simp] theorem State.spdmSend_pending (s : State) (src code : Nat) (bytes : List Nat) :
    (s.spdmSend src code bytes).pending = s.pending := by simp [State.spdmSend]
@[simp] theorem State.spdmError_pending (s : State) (src err : Nat) : (s.spdmError src err).pending = s.pending := by simp [State.spdmError]
@[simp] theorem State.spdmReq_pending (s : State) (src need : Nat) (k : State → State) (hk : ∀ a, (k a).pending = a.pending) :
    (s.spdmReq src need k).pending = s.pending := by simp [State.spdmReq, hk]
@[simp] theorem State.spdmFree_pending (s : State) (src code : Nat) (bytes : List Nat) (n : Nat) :
    (s.spdmFree src code bytes n).pending = s.pending := by simp [State.spdmFree]
@[simp] theorem State.spdmVersion_pending (s : State) (src : Nat) : (s.spdmVersion src).pending = s.pending := by simp [State.spdmVersion]
@[simp] theorem State.spdmSign_pending (s : State) (src index : Nat) (chal : Bool) :
    (s.spdmSign src index chal).pending = s.pending := by simp [State.spdmSign]
@[simp] theorem State.spdmMeasure_pending (s : State) (src index n : Nat) : (s.spdmMeasure src index n).pending = s.pending := by
  simp [State.spdmMeasure]
@[simp] theorem State.signDone_pending (s : State) : s.signDone.pending = s.pending := by
  unfold State.signDone
  split <;> simp

end Sys2Proof.Machine
end

section
/-! What a command can answer (R10, R14, R27, R308, R321): by its dispatch each command is an effect behind the check of its
operands; the effects answer with a next state that has the queue they found, or with a fault that `Instr.mayStop` admits. -/
namespace Sys2Proof.Machine

/-- What an effect may answer: a next state with the queue it found, or a fault that `may` admits. -/
def Answers (may : Fault → Bool) (s : State) : Res → Prop
  | .next t => t.pending = s.pending
  | .fault f => may f = true
  | .refused _ => False

/-- The same of a write at an address. -/
def Written (may : Fault → Bool) (s : State) : WriteRes → Prop
  | .done t => t.pending = s.pending
  | .busErr => True
  | .fault f => may f = true

/-- The same of an opcode that a view serves (R304). -/
def ServedIn (may : Fault → Bool) (s : State) : Served → Prop
  | .done _ _ t => t.pending = s.pending
  | .fault f => may f = true

/-- The same of a Survey's register records (R331). -/
def AppliedIn (may : Fault → Bool) (s : State) : Applied → Prop
  | .done t => t.pending = s.pending
  | .refused t => t.pending = s.pending
  | .fault f => may f = true

/-- Every fault. -/
abbrev anyFault : Fault → Bool := fun _ => true

/-! Writes at an address -/

theorem State.bifurWrite_answers (s : State) (req val : Nat) :
    Answers (· == .illegalWidthMap) s (s.bifurWrite req val) := by
  unfold State.bifurWrite
  split
  · rfl
  · simp -implicitDefEqProofs [Answers]

theorem State.writeReg_written (s : State) (r : Reg) (req addr val i : Nat) :
    Written anyFault s (s.writeReg r req addr val i) := by
  unfold State.writeReg
  split
  · rfl
  split
  · rfl
  split
  · simp [Written]
  split
  · simp [Written]
  split
  · have h := s.bifurWrite_answers req val
    split <;> simp_all [Answers, Written]
  split
  · rfl
  · simp [Written]

theorem State.writeWindow_written (s : State) (w : Window) (req addr val : Nat) :
    Written anyFault s (s.writeWindow w req addr val) := by
  cases w with
  | mailbox =>
    unfold State.writeWindow
    generalize s.ringOwned addr = owned
    cases owned with
    | true => rfl
    | false => exact State.wrWord32_pending ..
  | phrase => exact State.phraseWrite_pending ..
  | heat | zoom => exact State.heatWrite_pending ..
  | capture => exact State.capWindow_pending ..

theorem State.writeWord_written (s : State) (req addr val : Nat) : Written anyFault s (s.writeWord req addr val) := by
  unfold State.writeWord
  split
  · split
    · trivial
    · split
      · simp [Written]
      · exact s.writeReg_written ..
  · split
    · split
      · exact s.writeWindow_written ..
      · trivial
    · trivial

/-- GLB_LOCK is a register of plain lock bits: only a reserved bit faults (R14, R403). -/
theorem State.writeWord_glbLock (s : State) (req val : Nat) :
    Written (· == .reservedBits) s (s.writeWord req 0x20 val) := by
  have ha : regAt 0x20 = some (.GLB_LOCK, 0) := by decide +kernel
  unfold State.writeWord
  rw [ha]
  dsimp only
  split
  · trivial
  · rw [if_neg (by decide)]
    unfold State.writeReg
    rw [if_neg (by decide)]
    split
    · rfl
    · simp [isPairLo, pairOf, Written]

/-- The compatibility window takes every write (R408). -/
theorem State.writeWord_compat (s : State) (req addr val : Nat) (h : 0x8000 ≤ addr ∧ addr < 0x10000) :
    Written (fun _ => false) s (s.writeWord req addr val) := by
  have hw : windowAt addr = none := by
    unfold windowAt
    grind
  unfold State.writeWord
  rw [hw]
  split
  · split
    · trivial
    · exact State.compatBuffer_pending ..
  · trivial

theorem State.busWrite_answers {may : Fault → Bool} (s : State) (r : Requester) (addr val : Nat)
    (h : Written may s (s.writeWord (reqCode r) addr val)) : Answers may s (s.busWrite r addr val) := by
  unfold State.busWrite
  split
  · rfl
  · split <;> simp_all [Written, Answers]

/-! Requests that a view serves (R314) -/

theorem State.judgeReq_served {may : Fault → Bool} (s : State) (v : Nat) (e : List Nat) {perform : State → Served}
    (h : ServedIn may s (perform s)) : ServedIn may s (s.judgeReq v e perform) := by
  unfold State.judgeReq
  split
  · rfl
  · split
    · rfl
    · split
      · simp [ServedIn]
      · exact h

/-- What follows a next state follows it in the answer. -/
theorem Answers.andThen {may : Fault → Bool} {s : State} {k : State → State} (hk : ∀ t, (k t).pending = t.pending)
    (r : Res) : Answers may s r → Answers may s (match r with | .next t => .next (k t) | r => r) := by
  intro h
  cases r with
  | next t => exact (hk t).trans h
  | fault f => exact h
  | refused x => exact h

theorem ServedIn.answers {may : Fault → Bool} {s : State} (v slot : Nat) (e : List Nat) (x : Served) :
    ServedIn may s x → Answers may s (match x with
      | .done status payload t => .next (t.answer v slot e 0 status payload)
      | .fault f => .fault f) := by
  intro h
  cases x with
  | done status payload t => exact (t.answer_pending ..).trans h
  | fault f => exact h

theorem ServedIn.of_pending {may : Fault → Bool} {s a : State} {x : Served} (ha : a.pending = s.pending)
    (h : ServedIn may a x) : ServedIn may s x := by
  cases x with
  | done status payload t => exact Eq.trans h ha
  | fault f => exact h

theorem State.serve_answers {may : Fault → Bool} (s : State) (v opc : Nat) {perform : List Nat → Nat → State → Served}
    (h : ∀ e slot a, ServedIn may a (perform e slot a)) : Answers may s (s.serve v opc perform) := by
  unfold State.serve
  dsimp only
  split
  · rfl
  · refine Answers.andThen (fun t => t.visited_pending _) _ ?_
    split
    · simp [Answers]
    · split
      · split <;> simp [Answers]
      · refine ServedIn.answers _ _ _ _ (ServedIn.of_pending ?_ (State.judgeReq_served _ _ _ (h _ _ _)))
        simp

/-! What each opcode does (R304) -/

theorem State.doRead_served {may : Fault → Bool} (s : State) (ue : List Nat) (ns : Nat) (e : List Nat) :
    ServedIn may s (s.doRead ue ns e) := serveReads_pending ..

theorem serveWrites_served (l : List (Nat × Nat × Nat)) (m : Nat) (s : State) :
    ServedIn anyFault s (serveWrites l m s) := by
  induction l generalizing m s with
  | nil => rfl
  | cons x t ih =>
    obtain ⟨k, a, v⟩ := x
    have hw := (s.putRefused false).writeWord_written 0 a v
    unfold serveWrites
    split
    next s' h =>
      rw [h] at hw
      split
      · exact hw
      · exact ServedIn.of_pending hw (ih _ s')
    · rfl
    · rfl

theorem State.doWrite_served (s : State) (e : List Nat) : ServedIn anyFault s (s.doWrite e) := serveWrites_served ..

theorem State.doRmw_served (s : State) (ue : Bool) (ns : Nat) (e : List Nat) : ServedIn anyFault s (s.doRmw ue ns e) := by
  unfold State.doRmw
  have hr := s.readWord_pending 0 (entryAddr e) ns
  split
  · simp [ServedIn]
  · split
    next a h => rw [h] at hr; exact hr
    next old a h =>
      rw [h] at hr
      have hw := (a.putRefused false).writeWord_written 0 (entryAddr e)
        (rmwWord (entryAddr e) old (leAt (entryPayload e) 4 4) (leAt (entryPayload e) 8 4))
      dsimp only
      split
      next t h => rw [h] at hw; exact Eq.trans hw hr
      · exact hr
      · rfl

theorem State.doSummary_served {may : Fault → Bool} (s : State) (v : Nat) (e : List Nat) :
    ServedIn may s (s.doSummary v e) := by
  unfold State.doSummary
  dsimp only
  split
  · rfl
  · exact serveReads_pending ..

theorem State.doEntries_served {may : Fault → Bool} (s : State) (e : List Nat) (ok : Bool) (addrs ue : List Nat) :
    ServedIn may s (s.doEntries e ok addrs ue) := by
  unfold State.doEntries
  split
  · rfl
  · exact serveReads_pending ..

theorem State.doCap_served {may : Fault → Bool} (s : State) (v : Nat) (ue e : List Nat) :
    ServedIn may s (s.doCap v ue e) := by
  unfold State.doCap
  dsimp only
  split
  · rfl
  · exact serveReads_pending ..

/-! Start-up (R331) -/

theorem AppliedIn.of_pending {may : Fault → Bool} {s a : State} {x : Applied} (ha : a.pending = s.pending)
    (h : AppliedIn may a x) : AppliedIn may s x := by
  cases x with
  | done t => exact Eq.trans h ha
  | refused t => exact Eq.trans h ha
  | fault f => exact h

theorem State.surveyWrite_applied (s : State) (addr val : Nat) : AppliedIn anyFault s (s.surveyWrite addr val) := by
  have hw := (s.putRefused false).writeWord_written 0 addr val
  unfold State.surveyWrite
  split
  next t h =>
    rw [h] at hw
    split <;> exact hw
  · rfl
  · rfl

theorem State.surveyWrites_applied (l : List (Nat × Nat)) (s : State) : AppliedIn anyFault s (State.surveyWrites l s) := by
  induction l generalizing s with
  | nil => rfl
  | cons x t ih =>
    have hw := s.surveyWrite_applied x.1 x.2
    unfold State.surveyWrites
    split
    next a h => rw [h] at hw; exact (ih a).of_pending hw
    · exact hw

theorem State.surveyRmws_applied (l : List (Nat × Nat × Nat)) (s : State) :
    AppliedIn anyFault s (State.surveyRmws l s) := by
  induction l generalizing s with
  | nil => rfl
  | cons x t ih =>
    obtain ⟨a, m, v⟩ := x
    have hr := s.readWord_pending 0 a 0
    unfold State.surveyRmws
    split
    next b h => rw [h] at hr; exact hr
    next old b h =>
      rw [h] at hr
      have hw := b.surveyWrite_applied a (rmwWord a old m v)
      split
      next c h => rw [h] at hw; exact (ih c).of_pending (Eq.trans hw hr)
      · exact hw.of_pending hr

theorem State.surveyRegs_applied (l : List SvRec) (s : State) : AppliedIn anyFault s (State.surveyRegs l s) := by
  induction l generalizing s with
  | nil => rfl
  | cons r t ih =>
    have step : ∀ x : Applied, AppliedIn anyFault s x → AppliedIn anyFault s (match x with
        | .done s => State.surveyRegs t s
        | y => y) := by
      intro x hx
      cases x with
      | done a => exact (ih a).of_pending hx
      | refused a => exact hx
      | fault f => exact hx
    unfold State.surveyRegs
    refine step _ ?_
    split
    · exact State.surveyWrites_applied ..
    · exact State.surveyRmws_applied ..
    · rfl

theorem State.stageEnd_answers (s : State) (x : StageIn) : Answers anyFault s (s.stageEnd x) := by
  unfold State.stageEnd
  split
  · rfl
  split
  case h_9 =>
    have h := State.surveyRegs_applied s.boot.survey s
    unfold State.endStage9
    split <;> simp_all [AppliedIn, Answers]
  all_goals simp -implicitDefEqProofs [Answers]

/-! Every command -/

/-- A command's answer is that of its effect, taken where its operands name objects of the device. -/
def Framed (c : Instr) (s : State) (r : Res) : Prop :=
  ∃ k : State → Res, r = guarded c.wf s k ∧ (c.wf = true → ∀ a, Answers (fun f => c.mayStop f) a (k a))

theorem Framed.of_effect {c : Instr} {s : State} {ok : Bool} {k : State → State} (hok : c.wf = ok)
    (h : ∀ a, (k a).pending = a.pending) : Framed c s (effect ok s k) :=
  ⟨fun a => .next (k a), by rw [hok]; rfl, fun _ => h⟩

theorem Framed.of_guarded {c : Instr} {s : State} {ok : Bool} {k : State → Res} (hok : c.wf = ok)
    (h : ∀ a, Answers (fun f => c.mayStop f) a (k a)) : Framed c s (guarded ok s k) :=
  ⟨k, by rw [hok], fun _ => h⟩

theorem exec_framed (c : Instr) (s : State) : Framed c s (exec c s) := by
  cases c
  all_goals unfold exec
  case mgmtViewCtlRestore r v =>
    refine .of_guarded rfl fun a => ?_
    split
    · rfl
    · simp [Answers]
  case mailboxWrite r addr val =>
    refine .of_guarded rfl fun a => ?_
    generalize (a.reaches r && a.coreRuns && a.ringOwned addr) = owned
    cases owned with
    | true => rfl
    | false => simp -implicitDefEqProofs [Answers]
  case bifurcationWrite r val =>
    refine .of_guarded rfl fun a => ?_
    have h := a.bifurWrite_answers (reqCode r) val
    split
    · unfold ackRes
      split <;> simp_all [Answers, Instr.mayStop]
    · rfl
  case registerWrite r addr val => exact .of_guarded rfl fun a => a.busWrite_answers r addr val (a.writeWord_written ..)
  case pairLoWrite r addr val => exact .of_guarded rfl fun a => a.busWrite_answers r addr val (a.writeWord_written ..)
  case pairHiWrite r addr val => exact .of_guarded rfl fun a => a.busWrite_answers r addr val (a.writeWord_written ..)
  case glbLockWrite r val => exact .of_guarded rfl fun a => a.busWrite_answers r 0x20 val (a.writeWord_glbLock ..)
  case compatWrite r addr val =>
    refine ⟨_, rfl, fun hwf a => a.busWrite_answers r addr val (a.writeWord_compat _ _ _ ?_)⟩
    simp only [Instr.wf, Wf.compatWrite, Bool.and_eq_true, decide_eq_true_eq] at hwf
    exact ⟨hwf.1.1, hwf.1.2.1⟩
  case cdrLock ls =>
    refine .of_effect rfl fun a => ?_
    dsimp only
    (repeat' split) <;> simp
  case getInfo v => exact .of_guarded rfl fun a => a.serve_answers v 1 fun _ _ _ => rfl
  case read v ecc ns => exact .of_guarded rfl fun a => a.serve_answers v 2 fun _ _ b => b.doRead_served ..
  case write v => exact .of_guarded rfl fun a => a.serve_answers v 3 fun _ _ b => b.doWrite_served ..
  case rmw v ue ns => exact .of_guarded rfl fun a => a.serve_answers v 4 fun _ _ b => b.doRmw_served ..
  case resync v => exact .of_guarded rfl fun a => a.serve_answers v 5 fun _ _ b => b.resyncBytes_pending ..
  case portSummary v => exact .of_guarded rfl fun a => a.serve_answers v 6 fun _ _ b => b.doSummary_served ..
  case heatRead v ecc => exact .of_guarded rfl fun a => a.serve_answers v 7 fun _ _ b => b.doEntries_served ..
  case zoomRead v ecc => exact .of_guarded rfl fun a => a.serve_answers v 8 fun _ _ b => b.doEntries_served ..
  case capRead v ecc => exact .of_guarded rfl fun a => a.serve_answers v 9 fun _ _ b => b.doCap_served ..
  case startupStageComplete inp => exact .of_guarded rfl fun a => a.stageEnd_answers inp
  all_goals
    refine .of_effect rfl fun a => ?_
    simp -implicitDefEqProofs

/-- No fault ends a command that always completes. -/
theorem alwaysCompletes_and_mayStop (c : Instr) (f : Fault) : (c.alwaysCompletes && c.mayStop f) = false := by
  cases c <;> rfl

/-- An ill-formed command is refused for its operands. -/
theorem exec_illFormed (c : Instr) (s : State) (h : c.wf = false) : exec c s = .refused .illFormed := by
  obtain ⟨k, hk, -⟩ := exec_framed c s
  rw [hk, h]
  rfl

/-- A well-formed command gives a next state with the queue it found and no event uncounted, or stops in a fault of its
own. -/
theorem exec_wellFormed (c : Instr) (s : State) (h : c.wf = true) :
    (∃ t, exec c s = .next t ∧ t.pending = s.pending ∧ t.raised = []) ∨ ∃ f, exec c s = .fault f ∧ c.mayStop f = true := by
  obtain ⟨k, hk, ha⟩ := exec_framed c s
  have ha := ha h s.begun
  rw [hk, h, guarded, if_pos rfl]
  cases hr : k s.begun with
  | next t =>
    rw [hr] at ha
    exact .inl ⟨t.settle, rfl, (t.settle_pending).trans ha, t.settle_raised⟩
  | fault f => rw [hr] at ha; exact .inr ⟨f, rfl, ha⟩
  | refused x => rw [hr] at ha; exact ha.elim

/-- Settles O6: the operand check refuses an ill-formed command, and by `exec_wellFormed` every other one keeps the queue
and counts its events, or stops in a fault that `Instr.mayStop` admits, which it admits of no command of
`Instr.alwaysCompletes`. -/
theorem everyCommandCompletesOrStopsByName : Obligations.EveryCommandCompletesOrStopsByName := by
  unfold Obligations.EveryCommandCompletesOrStopsByName
  refine ⟨exec_illFormed, fun c s h => ?_, fun c s ⟨h, hc⟩ => ?_⟩
  · exact (exec_wellFormed c s h).imp_left fun ⟨t, ht, _⟩ => ⟨t, ht⟩
  · obtain ⟨t, ht, hq, hr⟩ | ⟨f, -, hf⟩ := exec_wellFormed c s h
    · exact ⟨t, ht, hq, fun _ => hr⟩
    · simpa [hc, hf] using alwaysCompletes_and_mayStop c f


end Sys2Proof.Machine
end

section
/-! O22: what a decoded flit of the inner direction changes on its way through the counters, the lock and the hand-over. -/
namespace Sys2Proof.Machine

/-! Reading parts that are unchanged -/

section
variable {ps qs : List Part} {s t u : State} (h : Only ps s t)
include h

theorem Only.rd {f : Fld} {i : Nat} (hp : Part.fld f i ∉ ps) : t.rd f i = s.rd f i := h _ hp _
theorem Only.port {n : Nat} (hp : Part.port n ∉ ps) : t.port n = s.port n := h _ hp
theorem Only.fl {k : Nat} (hp : Part.flit k ∉ ps) : t.fl k = s.fl k := h _ hp
theorem Only.raised (hp : Part.raised ∉ ps) : t.raised = s.raised := h _ hp
theorem Only.mono (hsub : ∀ p ∈ ps, p ∈ qs) : Only qs s t := fun p hp => h p fun hm => hp (hsub p hm)
theorem Only.append (k : Only qs t u) : Only (ps ++ qs) s u := fun p hp =>
  Part.same_trans (h p fun hm => hp (List.mem_append_left _ hm)) (k p fun hm => hp (List.mem_append_right _ hm))
theorem Only.trans (k : Only ps t u) : Only ps s u := (h.append k).mono (by simp)
end

theorem Holds.nil (t : State) : Holds [] t := fun _ hv => by cases hv
theorem Holds.cons {t : State} {f : Fld} {i v : Nat} {vs : Vals} (h : t.rd f i = v) (hs : Holds vs t) :
    Holds ((f, i, v) :: vs) t := List.forall_mem_cons.2 ⟨h, hs⟩

theorem fld_notMem_partsOf {l : List Fld} {g : Fld} {i j : Nat} (h : ∀ f ∈ l, f.id ≠ g.id) :
    Part.fld g i ∉ partsOf l j := by
  intro hm
  obtain ⟨f, hf, he⟩ := List.mem_map.1 hm
  simp only [Part.field.injEq, Fld.key_inj] at he
  exact h f hf he.1

theorem Only.holds {ps : List Part} {s t : State} {vs : Vals} (h : Only ps s t) (hv : Holds vs s)
    (hn : ∀ v ∈ vs, Part.fld v.1 v.2.1 ∉ ps) : Holds vs t := fun v hm => (h.rd (hn v hm)).trans (hv v hm)

/-! Flits that nothing counts -/

section
variable (s : State) (n d : Nat) (f : Flit)

theorem State.flitDecoded_notLocated (h : s.located n = false) : s.flitDecoded n d f = s := by
  simp [State.flitDecoded, h]

theorem State.flitDecoded_unlocked (hl : s.located n = true) (hk : s.locked n d = false) (hr : (s.port n).rows = false) :
    s.flitDecoded n d f = s.flitUnlocked n d f := by
  simp [State.flitDecoded, State.slotNext, hl, hk, hr]

theorem State.gotRowFlit_noRows (h : (s.port n).rows = false) : s.gotRowFlit n = s := by simp [State.gotRowFlit, h]

theorem State.sentRowFlit_noRows (sent : List Nat) (lock : Bool) (h : (s.port n).rows = false) :
    s.sentRowFlit n f sent lock = s := by simp [State.sentRowFlit, h]

theorem State.flitUnlocked_passes (hr : (s.port n).rows = false) (hm : d = 0 ∨ s.rd F.PORT_STAT_EMODE_IO n ≠ 3) :
    s.flitUnlocked n d f = s.emit (.flit n d f.bytes) := by
  have hhold : ¬(d = 1 ∧ s.rd F.PORT_STAT_EMODE_IO n = 3) := by omega
  simp [State.flitUnlocked, hhold, State.gotRowFlit_noRows s n hr, State.sentRowFlit_noRows s n f _ _ hr]

/-- The entry of the Hold store for a flit received without lock. -/
def State.unlockedEntry : HeldFlit :=
  { flit := f, drip := s.dripAgo f.ago, outcome := flitOutcome f, pairs := flitPairs f,
    row := (s.port n).inPos / 32 % 65536, index := (s.port n).inPos % 32, locked := false, body := none }

theorem State.flitUnlocked_holds (hr : (s.port n).rows = false) (hm : s.rd F.PORT_STAT_EMODE_IO n = 3) :
    s.flitUnlocked n 1 f = s.modPort n fun p => { p with held := p.held ++ [s.unlockedEntry n f] } := by
  simp [State.flitUnlocked, hm, State.holdFlit, State.gotRowFlit, State.modPort, hr, State.unlockedEntry]

end

theorem State.located_begun (s : State) (n : Nat) : s.begun.located n = s.located n := rfl
theorem State.locked_begun (s : State) (n d : Nat) : s.begun.locked n d = s.locked n d := rfl

theorem wf_flitDecoded {n d : Nat} {f : Flit} (hn : n < 16) (hd : d < 2) (hf : f.wf = true) :
    Wf.flitDecoded n d f = true := by simp [Wf.flitDecoded, hn, hd, hf]

theorem flit_notLocated (s : State) (n d : Nat) (f : Flit) (hq : Quiet s) (hw : n < 16 ∧ d < 2 ∧ f.wf = true)
    (hl : s.located n = false) : Gives (.flitDecoded n d f) s [] [] [] anyState := by
  obtain ⟨hn, hd, hf⟩ := hw
  have he : s.begun.flitDecoded n d f = s.begun := State.flitDecoded_notLocated s.begun n d f hl
  refine Gives.of_effect (exec_flitDecoded s n d f) (wf_flitDecoded hn hd hf) ?_ ?_ ?_ ?_ trivial <;> rw [he]
  · exact hq
  · exact Holds.nil _
  · exact fun p _ => Part.same_begun p s
  · rfl

theorem flit_passesUnlocked (s : State) (n d : Nat) (f : Flit) (hq : Quiet s) (hw : n < 16 ∧ d < 2 ∧ f.wf = true)
    (hs : s.located n = true ∧ s.locked n d = false ∧ (s.port n).rows = false)
    (hm : d = 0 ∨ s.rd F.PORT_STAT_EMODE_IO n ≠ 3) :
    Gives (.flitDecoded n d f) s [] [] [.flit n d f.bytes] anyState := by
  obtain ⟨hn, hd, hf⟩ := hw
  obtain ⟨hl, hk, hr⟩ := hs
  have he : s.begun.flitDecoded n d f = s.begun.emit (.flit n d f.bytes) :=
    (State.flitDecoded_unlocked s.begun n d f hl hk hr).trans (State.flitUnlocked_passes s.begun n d f hr hm)
  refine Gives.of_effect (exec_flitDecoded s n d f) (wf_flitDecoded hn hd hf) ?_ ?_ ?_ ?_ trivial <;> rw [he]
  · exact hq
  · exact Holds.nil _
  · exact fun p _ => Part.same_trans (Part.same_begun p s) (Part.same_emit p _ _)
  · rfl

theorem flit_heldUnlocked (s : State) (n : Nat) (f : Flit) (hq : Quiet s) (hw : n < 16 ∧ f.wf = true)
    (hs : s.located n = true ∧ s.locked n 1 = false ∧ (s.port n).rows = false ∧ s.rd F.PORT_STAT_EMODE_IO n = 3) :
    Gives (.flitDecoded n 1 f) s [] [.port n] [] fun t => t.port n = { s.port n with held := (t.port n).held } ∧ (t.port
      n).held.dropLast = (s.port n).held ∧ ((t.port n).held.getLast?.map fun h => (h.flit, h.locked, h.body.isSome)) =
      some (f, false, false) := by
  obtain ⟨hn, hf⟩ := hw
  obtain ⟨hl, hk, hr, hm⟩ := hs
  have he : s.begun.flitDecoded n 1 f =
      s.begun.modPort n fun p => { p with held := p.held ++ [s.begun.unlockedEntry n f] } :=
    (State.flitDecoded_unlocked s.begun n 1 f hl hk hr).trans (State.flitUnlocked_holds s.begun n f hr hm)
  refine Gives.of_effect (exec_flitDecoded s n 1 f) (wf_flitDecoded hn (by decide) hf) ?_ ?_ ?_ ?_ ?_ <;> rw [he]
  · exact hq
  · exact Holds.nil _
  · intro p hp
    exact Part.same_trans (Part.same_begun p s) (Part.same_setPort _ _ _ (by simpa [Vals.parts] using hp))
  · rfl
  · simp [State.modPort, State.unlockedEntry]

/-! Flits with lock in the inner direction -/

/-- A located flit of the inner direction with confirmed lock that no capture, no heat parser and no row takes. -/
structure InnerFlit (s : State) (n : Nat) (f : Flit) : Prop where
  located : s.located n = true
  locked : s.locked n 1 = true
  confirmed : s.rd (F.lock 1) n = 2
  noRows : (s.port n).rows = false
  hostFacing : s.hostFacing n = true
  noCapture : s.capRuns n 1 = false
  noSeq : f.info.seq = none
  noMem : f.info.cacheMem = false

theorem InnerFlit.begun {s : State} {n : Nat} {f : Flit} (h : InnerFlit s n f) : InnerFlit s.begun n f :=
  ⟨h.located, h.locked, h.confirmed, h.noRows, h.hostFacing, h.noCapture, h.noSeq, h.noMem⟩

/-- The counters of a direction that one flit may step. -/
def flitCounters : List Fld :=
  [F.PORT_FEC_FLITS_LO_FLITS_LO, F.PORT_FEC_FLITS_HI_FLITS_HI, F.PORT_FEC_CORR_CORR, F.PORT_FEC_SYM_SYM,
    F.PORT_FEC_UNCORR_UNCORR]

/-- Where the corrected symbols of a flit of the inner direction are counted by lane: sixteen counters, and the windows of
the inner lane-sides (R127, R175). -/
def symbolParts (s : State) (n : Nat) : List Part :=
  (List.range 8).flatMap (fun m => partsOf [F.PORT_FEC_LANE_EVEN, F.PORT_FEC_LANE_ODD] (8 * flKey n 1 + m)) ++
    (s.sideLs n true).map .lane

/-- What counting a flit of the inner direction may change. -/
def countParts (s : State) (n : Nat) : List Part := .raised :: partsOf flitCounters (flKey n 1) ++ symbolParts s n

theorem fld_notMem_countParts {f : Fld} {i : Nat} (s : State) (n : Nat)
    (h : ∀ g ∈ flitCounters ++ [F.PORT_FEC_LANE_EVEN, F.PORT_FEC_LANE_ODD], f.id ≠ g.id) :
    Part.fld f i ∉ countParts s n := by
  simp [flitCounters] at h
  simp [countParts, symbolParts, partsOf, flitCounters, h]

theorem port_notMem_countParts (s : State) (n m : Nat) : Part.port m ∉ countParts s n := by
  simp [countParts, symbolParts, partsOf]

theorem flit_notMem_countParts (s : State) (n k : Nat) : Part.flit k ∉ countParts s n := by
  simp [countParts, symbolParts, partsOf]

/-- The lock record of a direction after one more flit (R124, R125). -/
def FlitSt.counted (good : Bool) (e : FlitSt) : FlitSt :=
  if good then { e with goodRun := e.goodRun + 1, failRun := 0, provFlits := e.provFlits + 1 }
  else { e with goodRun := 0, failRun := e.failRun + 1, provFlits := e.provFlits + 1 }

theorem State.stepLock_confirmed (s : State) (n d : Nat) (good : Bool) (h : s.rd (F.lock d) n = 2) :
    s.stepLock n d good = s.modFl (flKey n d) (FlitSt.counted good) := by
  simp [State.stepLock, State.modFl, h, FlitSt.counted]

/-- A flit outside the requests' direction, with no sequence number, is handed over without being taken: the flags of IDE are
shown again as they stand (R128, R141). -/
theorem State.handOver_untaken (s : State) (n d : Nat) (h : Handed) (info : FlitInfo) (hseq : info.seq = none)
    (hmem : info.cacheMem = false) (hdir : d ≠ s.reqDir n) (hcap : s.capRuns n d = false) :
    s.handOver n d h info = (s.modFl (flKey n d) id).showIde n := by
  simp [State.handOver, FlitSt.judge, hseq, hmem, hdir, State.captureFlit, hcap, State.modFl]

/-- The state after a flit of the inner direction that was counted in `c`. -/
def State.passedOn (c : State) (n : Nat) (f : Flit) (sent : List Nat) : State :=
  (((c.modFl (flKey n 1) (FlitSt.counted (flitOutcome f).good)).modFl (flKey n 1) id).showIde n).emit (.flit n 1 sent)

/-- The bytes with which a flit of the inner direction leaves outside Hold (R142, R143). -/
def State.innerBytes (s : State) (n : Nat) (f : Flit) : List Nat :=
  if s.rd F.PORT_STAT_EMODE_IO n = 1 ∧ (flitOutcome f).good then flitContent f else f.bytes

@[simp] theorem State.modFl_rd (s : State) (k : Nat) (m : FlitSt → FlitSt) (g : Fld) (i : Nat) :
    (s.modFl k m).rd g i = s.rd g i := rfl
@[simp] theorem State.modFl_port (s : State) (k : Nat) (m : FlitSt → FlitSt) (n : Nat) :
    (s.modFl k m).port n = s.port n := rfl
@[simp] theorem State.showIde_port (s : State) (n m : Nat) : (s.showIde n).port m = s.port m := rfl

theorem State.showIde_rd (s : State) (n : Nat) {g : Fld} (i : Nat) (h : (F.ideStat 0).id ≠ g.id ∧ (F.ideStat 1).id ≠ g.id) :
    (s.showIde n).rd g i = s.rd g i := by
  obtain ⟨ho, hi⟩ := h
  exact (State.rd_wr_fld _ _ hi).trans (State.rd_wr_fld _ _ ho)

theorem State.flitDecoded_inner {s : State} {n : Nat} {f : Flit} (h : InnerFlit s n f)
    (hmode : s.rd F.PORT_STAT_EMODE_IO n ≠ 3) (hc : Only (countParts s n) s (s.countFlit n 1 f)) :
    s.flitDecoded n 1 f = (s.countFlit n 1 f).passedOn n f (s.innerBytes n f) := by
  have hread : ∀ g : Fld, (∀ x ∈ flitCounters ++ [F.PORT_FEC_LANE_EVEN, F.PORT_FEC_LANE_ODD], g.id ≠ x.id) →
      (s.countFlit n 1 f).rd g n = s.rd g n := fun g hg => hc.rd (fld_notMem_countParts s n hg)
  have hemode := hread F.PORT_STAT_EMODE_IO (by decide)
  have hport := hc.port (port_notMem_countParts s n n)
  have hlock := State.stepLock_confirmed _ n 1 (flitOutcome f).good ((hread (F.lock 1) (by decide)).trans h.confirmed)
  have hhand : ∀ x, State.handOver ((s.countFlit n 1 f).modFl (flKey n 1) (FlitSt.counted (flitOutcome f).good)) n 1 x f.info =
      (((s.countFlit n 1 f).modFl (flKey n 1) (FlitSt.counted (flitOutcome f).good)).modFl (flKey n 1) id).showIde n := by
    refine fun x => State.handOver_untaken _ n 1 x f.info h.noSeq h.noMem ?_ ?_
    · have hface := (hread F.PORT_CFG_ORIENT (by decide))
      have hs := h.hostFacing
      simp only [State.hostFacing] at hs
      simp [State.reqDir, State.hostFacing, hface, hs]
    · have hstate := hread F.PORT_CAP_STAT_STATE (by decide)
      have hdir := hread F.PORT_CAP_CFG_DIR (by decide)
      have hs := h.noCapture
      simp only [State.capRuns, State.capState] at hs
      simpa only [State.capRuns, State.capState, State.modFl_rd, hstate, hdir] using hs
  have hshown := fun t : State => State.showIde_rd t n (g := F.PORT_STAT_EMODE_IO) n (by decide)
  simp [State.flitDecoded, State.slotNext, State.gotRowFlit, State.sentBytes, F.emode, State.passedOn, State.innerBytes,
    h.located, h.locked, h.noRows, hlock, hhand, hmode, hemode, hport, hshown]

/-! What a flit passed on changes after it was counted -/

section
variable (c : State) (n : Nat) (f : Flit) (sent : List Nat)

theorem State.passedOn_only :
    Only (.flit (flKey n 1) :: partsOf [F.ideStat 0, F.ideStat 1] n) c (c.passedOn n f sent) := by
  intro p hp
  obtain ⟨hfl, ho, hi⟩ : p ≠ .flit (flKey n 1) ∧ p ≠ .fld (F.ideStat 0) n ∧ p ≠ .fld (F.ideStat 1) n := by
    simpa [partsOf] using hp
  have hshow : ∀ t : State, p.same t (t.showIde n) := fun t =>
    Part.same_trans (Part.same_wr t _ _ _ ho) (Part.same_wr _ _ _ _ hi)
  exact Part.same_trans (Part.same_setFl c _ _ hfl) (Part.same_trans (Part.same_setFl _ _ _ hfl)
    (Part.same_trans (hshow _) (Part.same_emit p _ _)))

theorem State.passedOn_out : (c.passedOn n f sent).out = c.out ++ [.flit n 1 sent] := rfl

theorem State.passedOn_raised : (c.passedOn n f sent).raised = c.raised := rfl

theorem State.passedOn_fl : (c.passedOn n f sent).fl (flKey n 1) =
    FlitSt.counted (flitOutcome f).good (c.fl (flKey n 1)) := by
  change (State.modFl (State.modFl c _ _) _ id).fl (flKey n 1) = _
  simp [State.modFl]

theorem State.passedOn_counter {g : Fld} (i : Nat) (h : g ∈ flitCounters) : (c.passedOn n f sent).rd g i = c.rd g i := by
  have hne : ∀ g ∈ flitCounters, g.id ≠ (F.ideStat 0).id ∧ g.id ≠ (F.ideStat 1).id := by decide
  exact (c.passedOn_only n f sent).rd (by simp [partsOf, hne g h])

end

/-- A flit passed on leaves the counts as they were taken. -/
theorem State.passedOn_holds {vs : Vals} {c : State} (n : Nat) (f : Flit) (sent : List Nat)
    (hf : ∀ v ∈ vs, v.1 ∈ flitCounters) (h : Holds vs c) : Holds vs (c.passedOn n f sent) := fun v hv =>
  (c.passedOn_counter n f sent v.2.1 (hf v hv)).trans (h v hv)

/-! Counting a flit, by its outcome (R127) -/

theorem State.incBy_only (s : State) (f : Fld) (i k : Nat) : Only [.fld f i] s (s.incBy f i k) :=
  fun _ hp => Part.same_wr s _ _ _ (by simpa using hp)

theorem State.raise_only (s : State) (a b c : Nat) : Only [.raised] s (s.raise a b c) :=
  fun _ hp => Part.same_raise s _ _ _ (by simpa using hp)

/-- A counter of 32 bits stops at its largest value. -/
theorem State.rd_incBy (s : State) (f : Fld) (i k : Nat) (h : f.w = 32) :
    (s.incBy f i k).rd f i = min (s.rd f i + k) 0xFFFFFFFF := by
  simp only [State.incBy, State.rd_wr_self, satAdd, h]
  exact Nat.mod_eq_of_lt (by omega)

section
variable (s : State) (n : Nat) (f : Flit)

/-- One more flit in the count of flits received. -/
abbrev State.oneFlit : State := s.inc48 F.PORT_FEC_FLITS_LO_FLITS_LO F.PORT_FEC_FLITS_HI_FLITS_HI (flKey n 1) 1

theorem State.oneFlit_only :
    Only (partsOf [F.PORT_FEC_FLITS_LO_FLITS_LO, F.PORT_FEC_FLITS_HI_FLITS_HI] (flKey n 1)) s (s.oneFlit n) := by
  intro p hp
  obtain ⟨hlo, hhi⟩ : p ≠ .fld F.PORT_FEC_FLITS_LO_FLITS_LO (flKey n 1) ∧ p ≠ .fld F.PORT_FEC_FLITS_HI_FLITS_HI (flKey n 1) := by
    simpa [partsOf] using hp
  exact Part.same_trans (Part.same_wr s _ _ _ hlo) (Part.same_wr _ _ _ _ hhi)

theorem State.oneFlit_rd {g : Fld} {i : Nat}
    (h : g.id ≠ F.PORT_FEC_FLITS_LO_FLITS_LO.id ∧ g.id ≠ F.PORT_FEC_FLITS_HI_FLITS_HI.id) : (s.oneFlit n).rd g i = s.rd g i :=
  (s.oneFlit_only n).rd (by simp [partsOf, h])

theorem State.oneFlit_counts :
    let v := min (s.rd F.PORT_FEC_FLITS_LO_FLITS_LO (flKey n 1) +
      2 ^ 32 * s.rd F.PORT_FEC_FLITS_HI_FLITS_HI (flKey n 1) + 1) (2 ^ 48 - 1)
    Holds [(F.PORT_FEC_FLITS_LO_FLITS_LO, flKey n 1, v % 2 ^ 32), (F.PORT_FEC_FLITS_HI_FLITS_HI, flKey n 1, v / 2 ^ 32)]
      (s.oneFlit n) := by
  intro v
  refine .cons ((State.rd_wr_fld _ _ (by decide)).trans ((State.rd_wr_self _ _ _ _).trans ?_))
    (.cons ((State.rd_wr_self _ _ _ _).trans ?_) (.nil _))
  · exact Nat.mod_mod _ _
  · rw [F.PORT_FEC_FLITS_HI_FLITS_HI_width]
    exact Nat.mod_eq_of_lt (by omega)

theorem State.countFlit_clean (h : flitOutcome f = .clean) : s.countFlit n 1 f = s.oneFlit n := by
  simp [State.countFlit, h]

theorem State.countFlit_uncorrectable (h : flitOutcome f = .uncorrectable) :
    s.countFlit n 1 f = ((s.oneFlit n).inc F.PORT_FEC_UNCORR_UNCORR (flKey n 1)).raise 50 n 1 := by
  simp [State.countFlit, h]

theorem State.countFlit_uncorrectable_only (h : flitOutcome f = .uncorrectable) :
    Only (.raised :: partsOf [F.PORT_FEC_FLITS_LO_FLITS_LO, F.PORT_FEC_FLITS_HI_FLITS_HI, F.PORT_FEC_UNCORR_UNCORR]
      (flKey n 1)) s (s.countFlit n 1 f) := by
  rw [s.countFlit_uncorrectable n f h]
  refine (((s.oneFlit_only n).append (State.incBy_only _ F.PORT_FEC_UNCORR_UNCORR _ 1)).append
    (State.raise_only _ 50 n 1)).mono (by simp [partsOf])

theorem State.countFlit_uncorrectable_count (h : flitOutcome f = .uncorrectable) :
    Holds [(F.PORT_FEC_UNCORR_UNCORR, flKey n 1, min (s.rd F.PORT_FEC_UNCORR_UNCORR (flKey n 1) + 1) 0xFFFFFFFF)]
      (s.countFlit n 1 f) := by
  rw [s.countFlit_uncorrectable n f h]
  refine .cons ((State.raise_rd _ _ _ _ _ _).trans ((State.rd_incBy _ F.PORT_FEC_UNCORR_UNCORR _ _ rfl).trans ?_)) (.nil _)
  rw [s.oneFlit_rd n (by decide)]

/-- One more flit in the counts of flits received and corrected, and its symbols in the count of symbols. -/
def State.oneCorrected (symbols : Nat) : State :=
  ((s.oneFlit n).inc F.PORT_FEC_CORR_CORR (flKey n 1)).incBy F.PORT_FEC_SYM_SYM (flKey n 1) symbols

theorem State.oneCorrected_only (symbols : Nat) :
    Only (partsOf [F.PORT_FEC_FLITS_LO_FLITS_LO, F.PORT_FEC_FLITS_HI_FLITS_HI, F.PORT_FEC_CORR_CORR, F.PORT_FEC_SYM_SYM]
      (flKey n 1)) s (s.oneCorrected n symbols) :=
  (((s.oneFlit_only n).append (State.incBy_only _ F.PORT_FEC_CORR_CORR _ 1)).append
    (State.incBy_only _ F.PORT_FEC_SYM_SYM _ symbols)).mono (by simp [partsOf])

theorem State.oneCorrected_counts (symbols : Nat) :
    Holds [(F.PORT_FEC_CORR_CORR, flKey n 1, min (s.rd F.PORT_FEC_CORR_CORR (flKey n 1) + 1) 0xFFFFFFFF),
      (F.PORT_FEC_SYM_SYM, flKey n 1, min (s.rd F.PORT_FEC_SYM_SYM (flKey n 1) + symbols) 0xFFFFFFFF)]
      (s.oneCorrected n symbols) := by
  refine .cons ((State.rd_wr_fld _ _ (by decide)).trans ((State.rd_incBy _ _ _ _ rfl).trans ?_))
    (.cons ((State.rd_incBy _ _ _ _ rfl).trans ?_) (.nil _))
  · rw [s.oneFlit_rd n (by decide)]
  · rw [State.inc, State.incBy, State.rd_wr_fld _ _ (by decide), s.oneFlit_rd n (by decide)]

/-- The corrected symbols of a flit counted by lane. -/
def State.countSymbols (s : State) (n : Nat) (l : List (Nat × Nat)) : State :=
  forEach l (fun p a => a.countLane n 1 p.1) s

theorem State.countFlit_corrected (h : flitOutcome f = .corrected) :
    s.countFlit n 1 f = (s.oneCorrected n (flitPairs f).length).countSymbols n (flitPairs f) := by
  simp [State.countFlit, h, State.countSymbols, State.oneCorrected]

end

/-! Corrected symbols, by lane (R127, R175) -/

theorem F.quadCode_isLayout (q : Nat) : (F.quadCode q).layout = true := by
  simp [Fld.layout, F.quadCode_layout q]

/-- What leaves the fields of the layout alone leaves the lane-sides of every port. -/
theorem Only.sideLs {ps : List Part} {s t : State} (h : Only ps s t)
    (hps : ∀ g : Fld, g.layout = true → ∀ i, Part.fld g i ∉ ps) (n : Nat) (inner : Bool) :
    t.sideLs n inner = s.sideLs n inner := by
  have hq : ∀ q, t.qcode q = s.qcode q := fun q => h.rd (hps _ (F.quadCode_isLayout q) 0)
  have hs : ∀ k, t.spareState k = s.spareState k := fun k => h.rd (hps F.SPARE_STAT_STATE (by decide) k)
  have hl : ∀ k, t.spareLane k = s.spareLane k := fun k => h.rd (hps F.SPARE_STAT_LANE (by decide) k)
  simp only [State.sideLs, State.portLanes, State.width, State.innerOf, hq, hs, hl]

theorem fld_notMem_symbolParts (s : State) (n : Nat) {g : Fld} {i : Nat}
    (h : g.id ≠ F.PORT_FEC_LANE_EVEN.id ∧ g.id ≠ F.PORT_FEC_LANE_ODD.id) : Part.fld g i ∉ symbolParts s n := by
  simp [symbolParts, partsOf, h]

theorem Fld.layout_congr {f g : Fld} (h : f.id = g.id) : f.layout = g.layout := by simp only [Fld.layout, h]

theorem layout_notMem_partsOf {l : List Fld} (hl : ∀ f ∈ l, f.layout = false) (j : Nat) (g : Fld) (hg : g.layout = true)
    (i : Nat) : Part.fld g i ∉ partsOf l j := by
  refine fld_notMem_partsOf fun f hf he => ?_
  exact absurd ((hl f hf).symm.trans (Fld.layout_congr he)) (by simp [hg])

theorem layout_notMem_symbolParts (s : State) (n : Nat) (g : Fld) (hg : g.layout = true) (i : Nat) :
    Part.fld g i ∉ symbolParts s n := by
  refine fld_notMem_symbolParts s n ⟨fun he => ?_, fun he => ?_⟩ <;>
    exact absurd (hg.symm.trans (Fld.layout_congr he)) (by decide)

section
variable (s : State) (n : Nat)

theorem State.countWindow_only (m : Nat) : Only ((s.sideLs n true).map .lane) s (s.countWindow n m) := by
  intro p hp
  refine (forEach_keeps (fun t => (∀ l, t.innerOf l = s.innerOf l) ∧ p.same s t) _ ⟨fun _ => rfl, p.same_refl s⟩ ?_).2
  rintro l hl a ⟨hin, ha⟩
  have hne : p ≠ .lane (a.innerOf l) := by
    rintro rfl
    exact hp (List.mem_map_of_mem (by simpa [State.sideLs, hin] using ⟨l, hl, rfl⟩))
  split
  · exact ⟨hin, Part.same_trans ha (Part.same_setLane a _ _ hne)⟩
  · exact ⟨hin, ha⟩

theorem State.countWindow_out (m : Nat) : (s.countWindow n m).out = s.out :=
  forEach_eq State.out _ s fun l a => by split <;> rfl

theorem State.countLane_only (off : Nat) (hw : s.rd F.PORT_LINK_STAT_AWIDTH n ≤ 16) :
    Only (symbolParts s n) s (s.countLane n 1 off) := by
  have hm : off % max (s.rd F.PORT_LINK_STAT_AWIDTH n) 1 / 2 < 8 := by
    have := Nat.mod_lt off (show 0 < max (s.rd F.PORT_LINK_STAT_AWIDTH n) 1 by omega)
    omega
  have hwin : Only (symbolParts s n) s (s.countWindow n (off % max (s.rd F.PORT_LINK_STAT_AWIDTH n) 1)) :=
    (s.countWindow_only n _).mono fun p hp => List.mem_append_right _ hp
  refine hwin.trans ((State.incBy_only _ _ _ 1).mono fun p hp => List.mem_append_left _ ?_)
  rw [List.mem_singleton] at hp
  subst hp
  refine List.mem_flatMap.2 ⟨_, List.mem_range.2 hm, ?_⟩
  split <;> simp [partsOf]

theorem State.countLane_out (off : Nat) : (s.countLane n 1 off).out = s.out := s.countWindow_out n _

theorem State.countSymbols_only (l : List (Nat × Nat)) (hw : s.rd F.PORT_LINK_STAT_AWIDTH n ≤ 16) :
    Only (symbolParts s n) s (s.countSymbols n l) := by
  refine forEach_keeps (fun a => Only (symbolParts s n) s a) l (fun p _ => p.same_refl s) fun x _ a ha => ?_
  have hparts : symbolParts a n = symbolParts s n := by
    simp only [symbolParts, ha.sideLs (layout_notMem_symbolParts s n)]
  have hwidth : a.rd F.PORT_LINK_STAT_AWIDTH n = s.rd F.PORT_LINK_STAT_AWIDTH n :=
    ha.rd (fld_notMem_symbolParts s n (by decide))
  exact ha.trans (hparts ▸ a.countLane_only n x.1 (hwidth ▸ hw))

theorem State.countSymbols_out (l : List (Nat × Nat)) : (s.countSymbols n l).out = s.out :=
  forEach_eq State.out l s fun x a => a.countLane_out n x.1

theorem State.countFlit_corrected_only {f : Flit} (ho : flitOutcome f = .corrected)
    (hw : s.rd F.PORT_LINK_STAT_AWIDTH n ≤ 16) :
    Only (partsOf [F.PORT_FEC_FLITS_LO_FLITS_LO, F.PORT_FEC_FLITS_HI_FLITS_HI, F.PORT_FEC_CORR_CORR, F.PORT_FEC_SYM_SYM]
      (flKey n 1) ++ symbolParts s n) s (s.countFlit n 1 f) := by
  rw [s.countFlit_corrected n f ho]
  have hhead := s.oneCorrected_only n (flitPairs f).length
  have hside := hhead.sideLs (layout_notMem_partsOf (by decide) _) n true
  have hwidth := hhead.rd (f := F.PORT_LINK_STAT_AWIDTH) (i := n) (fld_notMem_partsOf (by decide))
  have hsym := State.countSymbols_only _ n (flitPairs f) (hwidth.trans_le hw)
  simp only [symbolParts, hside] at hsym
  exact hhead.append hsym

theorem State.countFlit_corrected_counts {f : Flit} (ho : flitOutcome f = .corrected)
    (hw : s.rd F.PORT_LINK_STAT_AWIDTH n ≤ 16) :
    Holds [(F.PORT_FEC_CORR_CORR, flKey n 1, min (s.rd F.PORT_FEC_CORR_CORR (flKey n 1) + 1) 0xFFFFFFFF),
      (F.PORT_FEC_SYM_SYM, flKey n 1, min (s.rd F.PORT_FEC_SYM_SYM (flKey n 1) + (flitPairs f).length) 0xFFFFFFFF)]
      (s.countFlit n 1 f) := by
  rw [s.countFlit_corrected n f ho]
  have hhead := s.oneCorrected_only n (flitPairs f).length
  have hwidth := hhead.rd (f := F.PORT_LINK_STAT_AWIDTH) (i := n) (fld_notMem_partsOf (by decide))
  have hsym := State.countSymbols_only _ n (flitPairs f) (hwidth.trans_le hw)
  refine hsym.holds (s.oneCorrected_counts n (flitPairs f).length) ?_
  simp only [List.forall_mem_cons, List.not_mem_nil, false_imp_iff, implies_true, and_true]
  exact ⟨fld_notMem_symbolParts _ n (by decide), fld_notMem_symbolParts _ n (by decide)⟩

end

/-! The three outcomes of a flit with lock -/

theorem Only.begun {ps : List Part} {s t : State} (h : Only ps s.begun t) : Only ps s t :=
  fun p hp => Part.same_trans (Part.same_begun p s) (h p hp)

theorem State.passedOn_frame {ps qs : List Part} {s c : State} {n : Nat} {f : Flit} {sent : List Nat}
    (h : Only ps s.begun c)
    (hsub : ∀ p ∈ ps ++ .flit (flKey n 1) :: partsOf [F.ideStat 0, F.ideStat 1] n, p ∈ qs) :
    Only qs s (c.passedOn n f sent) :=
  ((h.append (c.passedOn_only n f sent)).mono hsub).begun

theorem flit_clean (s : State) (n k v : Nat) (f : Flit) (hq : Quiet s) (hw : n < 16 ∧ f.wf = true)
    (hi : InnerFlit s n f) (hm : s.rd F.PORT_STAT_EMODE_IO n ≠ 3) (ho : flitOutcome f = .clean)
    (hkv : k = flKey n 1 ∧ v = min (s.rd F.PORT_FEC_FLITS_LO_FLITS_LO k + 2 ^ 32 * s.rd F.PORT_FEC_FLITS_HI_FLITS_HI k + 1)
      (2 ^ 48 - 1)) (hc : s.rd F.PORT_STAT_EMODE_IO n ≠ 1) :
    Gives (.flitDecoded n 1 f) s [(F.PORT_FEC_FLITS_LO_FLITS_LO, k, v % 2 ^ 32), (F.PORT_FEC_FLITS_HI_FLITS_HI, k, v / 2
      ^ 32)] (.flit k :: partsOf [F.ideStat 0, F.ideStat 1] n) [.flit n 1 f.bytes] fun t => t.fl k =
      { s.fl k with goodRun := (s.fl k).goodRun + 1, failRun := 0, provFlits := (s.fl k).provFlits + 1 } := by
  obtain ⟨rfl, rfl⟩ := hkv
  have hcount := s.begun.countFlit_clean n f ho
  have honly := s.begun.oneFlit_only n
  have he : s.begun.flitDecoded n 1 f = (s.begun.oneFlit n).passedOn n f f.bytes := by
    rw [State.flitDecoded_inner hi.begun hm (hcount ▸ honly.mono (by simp [countParts, partsOf, flitCounters])), hcount]
    congr 1
    exact if_neg fun h => hc h.1
  refine Gives.of_effect (exec_flitDecoded s n 1 f) (wf_flitDecoded hw.1 (by decide) hw.2) ?_ ?_ ?_ ?_ ?_ <;> rw [he]
  · exact hq
  · exact State.passedOn_holds n f _ (by simp [flitCounters]) (s.begun.oneFlit_counts n)
  · exact State.passedOn_frame honly (by simp [Vals.parts, partsOf])
  · rfl
  · rw [State.passedOn_fl, ho]
    rfl

theorem flit_corrected (s : State) (n k : Nat) (f : Flit) (hq : Quiet s) (hw : n < 16 ∧ f.wf = true)
    (hi : InnerFlit s n f) (ho : flitOutcome f = .corrected)
    (hk : k = flKey n 1 ∧ s.rd F.PORT_STAT_EMODE_IO n = 1 ∧ s.rd F.PORT_LINK_STAT_AWIDTH n ≤ 16) :
    Gives (.flitDecoded n 1 f) s [(F.PORT_FEC_CORR_CORR, k, min (s.rd F.PORT_FEC_CORR_CORR k + 1) 0xFFFFFFFF),
      (F.PORT_FEC_SYM_SYM, k, min (s.rd F.PORT_FEC_SYM_SYM k + (flitPairs f).length) 0xFFFFFFFF)] (.flit k :: partsOf
      [F.PORT_FEC_FLITS_LO_FLITS_LO, F.PORT_FEC_FLITS_HI_FLITS_HI] k ++ (List.range 8).flatMap (fun m => partsOf
      [F.PORT_FEC_LANE_EVEN, F.PORT_FEC_LANE_ODD] (8 * k + m)) ++ partsOf [F.ideStat 0, F.ideStat 1] n ++ (s.sideLs n
      true).map .lane) [.flit n 1 (flitContent f)] anyState := by
  obtain ⟨rfl, hm, ha⟩ := hk
  have honly := s.begun.countFlit_corrected_only n ho ha
  have he : s.begun.flitDecoded n 1 f = (s.begun.countFlit n 1 f).passedOn n f (flitContent f) := by
    rw [State.flitDecoded_inner hi.begun (by simp [hm]) (honly.mono (by simp +contextual [countParts, partsOf, flitCounters]))]
    congr 1
    exact if_pos ⟨hm, by rw [ho]; rfl⟩
  refine Gives.of_effect (exec_flitDecoded s n 1 f) (wf_flitDecoded hw.1 (by decide) hw.2) ?_ ?_ ?_ ?_ trivial <;> rw [he]
  · exact (honly.raised (by simp [partsOf, symbolParts])).trans hq
  · exact State.passedOn_holds n f _ (by simp [flitCounters]) (s.begun.countFlit_corrected_counts n ho ha)
  · refine State.passedOn_frame honly fun p hp => ?_
    simp only [symbolParts, State.begun_sideLs, Vals.parts, List.mem_append, List.mem_cons, partsOf, List.map_cons, List.map_nil,
      List.not_mem_nil, or_false] at hp ⊢
    rcases hp with ((h | h | h | h) | h | h) | h | h | h <;> simp only [h, true_or, or_true]
  · rw [State.passedOn_out, s.begun.countFlit_corrected n f ho, State.countSymbols_out]
    rfl

theorem flit_uncorrectable (s : State) (n k : Nat) (f : Flit) (hq : Quiet s) (hw : n < 16 ∧ f.wf = true)
    (hi : InnerFlit s n f) (hm : s.rd F.PORT_STAT_EMODE_IO n ≠ 3) (ho : flitOutcome f = .uncorrectable)
    (hk : k = flKey n 1) :
    Reports (.flitDecoded n 1 f) s [(F.PORT_FEC_UNCORR_UNCORR, k, min (s.rd F.PORT_FEC_UNCORR_UNCORR k + 1) 0xFFFFFFFF)]
      (.flit k :: partsOf [F.PORT_FEC_FLITS_LO_FLITS_LO, F.PORT_FEC_FLITS_HI_FLITS_HI] k ++ partsOf [F.ideStat 0,
      F.ideStat 1] n) [⟨50, n, 1, false⟩] [.flit n 1 f.bytes] fun t => (t.fl k).failRun = (s.fl k).failRun + 1 := by
  subst hk
  have honly := s.begun.countFlit_uncorrectable_only n f ho
  have he : s.begun.flitDecoded n 1 f = (s.begun.countFlit n 1 f).passedOn n f f.bytes := by
    rw [State.flitDecoded_inner hi.begun hm (honly.mono (by simp [countParts, partsOf, flitCounters]))]
    congr 1
    exact if_neg (by simp [ho, Outcome.good])
  have hcount := s.begun.countFlit_uncorrectable n f ho
  refine Reports.of_effect (exec_flitDecoded s n 1 f) (wf_flitDecoded hw.1 (by decide) hw.2) ?_ ?_ ?_ ?_ ?_ <;> rw [he]
  · exact State.passedOn_holds n f _ (by simp [flitCounters]) (s.begun.countFlit_uncorrectable_count n f ho)
  · exact State.passedOn_frame honly (by simp [Vals.parts, partsOf])
  · rw [State.passedOn_raised, hcount, State.raise_raised]
    exact congrArg (· ++ [_]) hq
  · rw [State.passedOn_out, hcount]
    rfl
  · rw [State.passedOn_fl, ho, hcount]
    rfl

/-- Settles O22, clause by clause: what is not located or not locked touches no counter, and with lock the three outcomes
differ only in what counting them changes. -/
theorem flitsAreDecodedAndForwarded : Obligations.FlitsAreDecodedAndForwarded := by
  unfold Obligations.FlitsAreDecodedAndForwarded
  refine ⟨flit_notLocated, flit_passesUnlocked, flit_heldUnlocked, ?_, ?_, ?_⟩
  · rintro s n k v f hq hw ⟨hl, hk, hlock⟩ ⟨hr, hm, hface, hcap⟩ ⟨ho, hseq, hmem⟩ hkv hc
    exact flit_clean s n k v f hq hw ⟨hl, hk, hlock, hr, hface, hcap, hseq, hmem⟩ hm ho hkv hc
  · rintro s n k f hq hw ⟨hl, hk, hlock⟩ ⟨hr, hface, hcap⟩ ⟨ho, hseq, hmem⟩ hkm
    exact flit_corrected s n k f hq hw ⟨hl, hk, hlock, hr, hface, hcap, hseq, hmem⟩ ho hkm
  · rintro s n k f hq hw ⟨hl, hk, hlock⟩ ⟨hr, hm, hface, hcap⟩ ⟨ho, hseq, hmem⟩ hk'
    exact flit_uncorrectable s n k f hq hw ⟨hl, hk, hlock, hr, hface, hcap, hseq, hmem⟩ hm ho hk'

end Sys2Proof.Machine
end

section
/-! O11: what a disabled port's pattern generators drive at once. -/
namespace Sys2Proof.Machine

/-- Port 0 of four powered lanes, enabled, with LTSSM at 2 and no receiver found yet, and with the core domain running; the pattern
generator of its first lane is on, which drives nothing while the port is enabled (R67, R68). -/
def State.generatorWaits : State :=
  [(F.CLK_STAT_CPLL_LOCK, 1), (F.PWR_DOM_STAT_QGATED, 0), (F.GLB_BIFUR_QUAD0, 1), (F.PORT_CTL_EN, 1),
    (F.PORT_LINK_STAT_LTSSM, 2), (F.LANE_PRBS_CTL_GEN_EN, 1)].foldl (fun s w => s.wr w.1 0 w.2) State.reset

/-- The outputs that a command drives. -/
def outputsOf (r : Res) : List Out :=
  match r with
  | .next t => t.out
  | _ => []

/-- Disabling the port gives the lane back to its generator, whose transmitter leaves electrical idle. -/
theorem State.generatorWaits_drives :
    outputsOf (exec (.portCtlEn .normal 0 false) State.generatorWaits) = [.txIdle 0 false, .writeAck] := by
  decide +kernel

/-- Refutes O11, by its third clause: where the pattern generator of a lane of the port is on (LANE_PRBS_CTL.GEN_EN), a
write of 0 to PORT_CTL.EN also takes that lane's transmitter out of electrical idle, an output beside the
acknowledgement that the clause does not allow. -/
theorem not_portControlsAreWritten : ¬ Obligations.PortControlsAreWritten := by
  unfold Obligations.PortControlsAreWritten
  rintro ⟨-, -, clause, -⟩
  obtain ⟨t, hexec, -, -, hout, -⟩ :=
    clause State.generatorWaits .normal 0 (by decide +kernel) (by decide +kernel) (by decide +kernel) (by decide +kernel)
      (by decide +kernel) (by decide +kernel) (by decide +kernel)
  have hdrives : t.out = [.txIdle 0 false, .writeAck] := by
    simpa only [hexec, outputsOf] using State.generatorWaits_drives
  simp [hout] at hdrives

end Sys2Proof.Machine
end

section
/-! O40: what emptying a view's request ring leaves where its write pointer is wider than its field. -/
namespace Sys2Proof.Machine

/-- Port 0 has its four lanes and is disabled, both spares are unpowered, and the table of register fields lists 128 for
MGMT_VIEW_PTR.REQ_WR of its view, a field of seven bits. -/
def State.widePointer : State :=
  let s := State.reset.wr F.GLB_BIFUR_QUAD0 0 1
  { s with held := false, regs := (F.MGMT_VIEW_PTR_REQ_WR.key 1, 128) :: s.regs }

/-- Whether the request ring of view 1 is empty in the state that a command leads to. -/
def emptiesViewOne (r : Res) : Bool :=
  match r with
  | .next t => t.reqEmpty 1
  | _ => false

/-- The map that gives quad 0 to port 1 takes port 0 away, but REQ_RD takes 128 as 0, so the ring does not read empty. -/
theorem State.widePointer_remains :
    emptiesViewOne (exec (.bifurcationWrite .normal 4) State.widePointer) = false := by decide +kernel

/-- Refutes O40, by its first clause: a view that a new width map takes away has its REQ_RD set to its REQ_WR, so its request
ring reads empty only where REQ_WR is below 2^7. The clause does not ask that, as it does not ask that the fields of the
state keep to their widths. -/
theorem not_widthMapsAndGating : ¬ Obligations.WidthMapsAndGating := by
  unfold Obligations.WidthMapsAndGating
  rintro ⟨clause, -⟩
  obtain ⟨t, hexec, hcodes, -, -, -, hviews⟩ :=
    clause State.widePointer .normal 4 (by decide +kernel) (by decide +kernel) (by decide +kernel) (by decide +kernel)
      (by decide +kernel) (by decide +kernel)
  have hcode : t.rd (F.quadCode 0) 0 = 4 := hcodes (F.quadCode 0, 0, 4) (by decide +kernel)
  have hgone : t.present 0 = false := by simp [State.present, State.width, State.qcode, hcode]
  have hempty := hviews 0 (by decide)
  rw [if_pos ⟨by decide +kernel, hgone⟩] at hempty
  have hremains : t.reqEmpty 1 = false := by
    simpa only [hexec, emptiesViewOne] using State.widePointer_remains
  simp [hempty.1] at hremains

end Sys2Proof.Machine
end

section
/-! O59: what a write of GLB_WERR leaves in a table of register fields that is not in canonical form. -/
namespace Sys2Proof.Machine

/-- A state at the end of reset in which a refusal has left GLB_WERR.PORT and GLB_WERR.CLK, and whose table of register
fields lists GLB_WERR.GLB with 0, the value that an unlisted flag reads as. It reads as the canonical state does. -/
def State.listsClearFlag : State :=
  let s := (State.reset.wr F.GLB_WERR_PORT 0 1).wr F.GLB_WERR_CLK 0 1
  { s with held := false, regs := (F.GLB_WERR_GLB.key 0, 0) :: s.regs }

/-- What a table lookup of GLB_WERR.GLB answers in the state that a command leads to, `d` standing for the value of an
unlisted field. -/
def clearFlagEntry (r : Res) (d : Nat) : Nat :=
  match r with
  | .next t => t.regs.get (F.GLB_WERR_GLB.key 0) d
  | _ => 0

/-- The write that clears GLB_WERR.CLK rewrites GLB_WERR.GLB with its own value, which takes its entry out of the table. -/
theorem State.listsClearFlag_unlisted :
    clearFlagEntry (exec (.registerWrite .normal 0x24 2) State.listsClearFlag) 1 = 1 := by decide +kernel

/-- Refutes O59, by its sixth clause: in a state whose table lists GLB_WERR.GLB with the value it reads as when unlisted,
a write of 2 to GLB_WERR drops that entry, so that the part of GLB_WERR.GLB is not the same, though the flag reads 0
before and after. The clause does not ask that the table be in canonical form, and fails where it is not. -/
theorem not_writesFollowTheirAccessCodes : ¬ Obligations.WritesFollowTheirAccessCodes := by
  unfold Obligations.WritesFollowTheirAccessCodes
  rintro ⟨-, -, -, -, -, clause, -⟩
  obtain ⟨t, hexec, -, honly, -⟩ :=
    clause State.listsClearFlag .normal (by decide +kernel) (by decide +kernel) (by decide +kernel)
  have hsame : t.regs.get (F.GLB_WERR_GLB.key 0) 1 = State.listsClearFlag.regs.get (F.GLB_WERR_GLB.key 0) 1 :=
    honly (.fld F.GLB_WERR_GLB 0) (by decide +kernel) 1
  have hgone : t.regs.get (F.GLB_WERR_GLB.key 0) 1 = 1 := by
    simpa [hexec, clearFlagEntry] using State.listsClearFlag_unlisted
  have hlisted : State.listsClearFlag.regs.get (F.GLB_WERR_GLB.key 0) 1 = 0 := by decide +kernel
  omega

end Sys2Proof.Machine
end

section
/-! O4: what the operations that write no memory leave (R35): the memories are those they found. -/
namespace Sys2Proof.Machine

@[simp] theorem State.mem_ite (c : Prop) [Decidable c] (a b : State) :
    (if c then a else b).mem = if c then a.mem else b.mem := apply_ite State.mem c a b
@[simp] theorem forUp_mem {f : Nat → State → State} (n : Nat) (s : State) (h : ∀ i a, (f i a).mem = a.mem) :
    (forUp n f s).mem = s.mem := forUp_eq State.mem n s h
@[simp] theorem forEach_mem {α : Type} {f : α → State → State} (l : List α) (s : State)
    (h : ∀ x a, (f x a).mem = a.mem) :
    (forEach l f s).mem = s.mem := forEach_eq State.mem l s h
@[simp] theorem foldl_mem {α : Type} {f : State → α → State} (l : List α) (s : State)
    (h : ∀ a x, (f a x).mem = a.mem) :
    (l.foldl f s).mem = s.mem := by
  induction l generalizing s with
  | nil => rfl
  | cons x t ih => rw [List.foldl_cons, ih, h]

/-! Registers and memories -/

@[simp] theorem State.rst_mem (s : State) (f : Fld) (i : Nat) : (s.rst f i).mem = s.mem := by simp [State.rst]
@[simp] theorem State.rstAll_mem (s : State) (fs : List Fld) (i : Nat) : (s.rstAll fs i).mem = s.mem := by
  simp [State.rstAll]
@[simp] theorem State.wrBoth_mem (s : State) (f : Fld) (i v : Nat) : (s.wrBoth f i v).mem = s.mem := by
  simp [State.wrBoth]
@[simp] theorem State.rstBoth_mem (s : State) (f : Fld) (i : Nat) : (s.rstBoth f i).mem = s.mem := by
  simp [State.rstBoth]
@[simp] theorem State.modPort_mem (s : State) (n : Nat) (f : PortSt → PortSt) : (s.modPort n f).mem = s.mem := by
  simp [State.modPort]
@[simp] theorem State.modFl_mem (s : State) (k : Nat) (f : FlitSt → FlitSt) : (s.modFl k f).mem = s.mem := by
  simp [State.modFl]
@[simp] theorem State.modLane_mem (s : State) (k : Nat) (f : LaneSt → LaneSt) : (s.modLane k f).mem = s.mem := by
  simp [State.modLane]
@[simp] theorem State.modHeat_mem (s : State) (k : Nat) (f : HeatP → HeatP) : (s.modHeat k f).mem = s.mem := by
  simp [State.modHeat]
@[simp] theorem State.modView_mem (s : State) (k : Nat) (f : ViewSt → ViewSt) : (s.modView k f).mem = s.mem := by
  simp [State.modView]
@[simp] theorem State.free_mem (s : State) : (s.free).2.mem = s.mem := by simp [State.free]
@[simp] theorem State.setDrip_mem (s : State) (d : Nat) : (s.setDrip d).mem = s.mem := by simp [State.setDrip]

/-! Flags and counters -/

@[simp] theorem State.incBy_mem (s : State) (f : Fld) (i n : Nat) : (s.incBy f i n).mem = s.mem := by simp [State.incBy]
@[simp] theorem State.inc_mem (s : State) (f : Fld) (i : Nat) : (s.inc f i).mem = s.mem := by simp [State.inc]
@[simp] theorem State.incWrap_mem (s : State) (f : Fld) (i : Nat) : (s.incWrap f i).mem = s.mem := by
  simp [State.incWrap]
@[simp] theorem State.setF_mem (s : State) (f : Fld) (i : Nat) : (s.setF f i).mem = s.mem := by simp [State.setF]
@[simp] theorem State.clr_mem (s : State) (f : Fld) (i : Nat) : (s.clr f i).mem = s.mem := by simp [State.clr]
@[simp] theorem State.clrAll_mem (s : State) (fs : List Fld) (i : Nat) : (s.clrAll fs i).mem = s.mem := by
  simp [State.clrAll]
@[simp] theorem State.wrB_mem (s : State) (f : Fld) (i : Nat) (b : Bool) : (s.wrB f i b).mem = s.mem := by
  simp [State.wrB]
@[simp] theorem State.wrMax_mem (s : State) (f : Fld) (i v : Nat) : (s.wrMax f i v).mem = s.mem := by simp [State.wrMax]
@[simp] theorem State.inc48_mem (s : State) (lo hi : Fld) (i n : Nat) : (s.inc48 lo hi i n).mem = s.mem := by
  simp [State.inc48]
@[simp] theorem State.clrFlitCounters_mem (s : State) (n : Nat) : (s.clrFlitCounters n).mem = s.mem := by
  simp [State.clrFlitCounters]
@[simp] theorem State.refuse_mem (s : State) (f : Fld) (req addr : Nat) : (s.refuse f req addr).mem = s.mem := by
  simp [State.refuse]

/-! The heat map (chapter 7) -/

@[simp] theorem State.lookup_mem (s : State) (p : Nat) (zoom : Bool) (idx : Nat) (isRead : Bool) :
    (s.lookup p zoom idx isRead).mem = s.mem := by simp [State.lookup]
@[simp] theorem State.countMsg_mem (s : State) (p : Nat) (m : MemMsg) (isRead : Bool) :
    (s.countMsg p m isRead).mem = s.mem := by
  unfold State.countMsg
  refine (forUp_mem _ _ fun z t => ?_).trans ?_
  · split
    · split <;> simp
    · rfl
  · split
    · split <;> simp
    · rfl
@[simp] theorem State.parseMsg_mem (s : State) (p : Nat) (m : MemMsg) : (s.parseMsg p m).mem = s.mem := by
  unfold State.parseMsg
  split <;> simp
@[simp] theorem State.heatFlit_mem (s : State) (p : Nat) (good inSeq ide : Bool) (info : FlitInfo) :
    (s.heatFlit p good inSeq ide info).mem = s.mem := by simp [State.heatFlit]
@[simp] theorem State.expBusy_mem (s : State) : s.expBusy.mem = s.mem := by simp [State.expBusy]
@[simp] theorem State.endExport_mem (s : State) (p : Nat) : (s.endExport p).mem = s.mem := by simp [State.endExport]
@[simp] theorem State.abandonExport_mem (s : State) (p : Nat) : (s.abandonExport p).mem = s.mem := by
  simp [State.abandonExport]
@[simp] theorem State.pauseExport_mem (s : State) (p : Nat) : (s.pauseExport p).mem = s.mem := by
  simp [State.pauseExport]
@[simp] theorem State.resumeExport_mem (s : State) (p : Nat) : (s.resumeExport p).mem = s.mem := by
  simp [State.resumeExport]
@[simp] theorem State.chunkSent_mem (s : State) (p : Nat) : (s.chunkSent p).mem = s.mem := by
  simp only [State.chunkSent]
  (repeat' split) <;> simp
@[simp] theorem State.flushCache_mem (s : State) (p : Nat) : (s.flushCache p).mem = s.mem := by simp [State.flushCache]
@[simp] theorem State.loseUpdates_mem (s : State) (p b n : Nat) : (s.loseUpdates p b n).mem = s.mem := by
  simp [State.loseUpdates]
@[simp] theorem State.dropCache_mem (s : State) (p : Nat) : (s.dropCache p).mem = s.mem := by simp [State.dropCache]

/-! Views -/

@[simp] theorem State.advanceTx_mem (k : Nat) (s : State) (v : Nat) : (State.advanceTx k s v).mem = s.mem := by
  induction k generalizing s with
  | zero => rfl
  | succ k ih => simp [State.advanceTx, ih]
@[simp] theorem State.rspFree_mem (s : State) (v p : Nat) : (s.rspFree v p).mem = s.mem := by simp [State.rspFree]
@[simp] theorem State.rspSent_mem (s : State) (v p : Nat) : (s.rspSent v p).mem = s.mem := by simp [State.rspSent]
@[simp] theorem State.rspDrop_mem (s : State) (v : Nat) (p : Option Nat) : (s.rspDrop v p).mem = s.mem := by
  unfold State.rspDrop
  split <;> simp
@[simp] theorem State.dropClass3_mem (s : State) (n : Nat) : (s.dropClass3 n).mem = s.mem := by simp [State.dropClass3]

/-! Leaving association -/

@[simp] theorem State.leaveSlots_mem (s : State) (n : Nat) : (s.leaveSlots n).mem = s.mem := by simp [State.leaveSlots]

/-! Capture -/

@[simp] theorem State.capQueueRec_mem (s : State) (n d : Nat) (h : Handed) (trig : Bool) :
    (s.capQueueRec n d h trig).2.mem = s.mem := by
  unfold State.capQueueRec
  split <;> simp
@[simp] theorem State.capPostStart_mem (s : State) (n idx left : Nat) : (s.capPostStart n idx left).mem = s.mem := by
  simp [State.capPostStart]
@[simp] theorem State.capTrigger_mem (s : State) (n : Nat) : (s.capTrigger n).mem = s.mem := by simp [State.capTrigger]
@[simp] theorem State.captureFlit_mem (s : State) (n d : Nat) (h : Handed) : (s.captureFlit n d h).mem = s.mem := by
  simp [State.captureFlit]
@[simp] theorem State.capDrip_mem (s : State) (n : Nat) : (s.capDrip n).mem = s.mem := by simp [State.capDrip]
@[simp] theorem State.freeBytes_mem (s : State) (n : Nat) : (s.freeBytes n).2.mem = s.mem := by simp [State.freeBytes]
@[simp] theorem State.capAdvance_mem (s : State) (n : Nat) : (s.capAdvance n).mem = s.mem := by simp [State.capAdvance]
@[simp] theorem State.capArm_mem (s : State) (n : Nat) : (s.capArm n).mem = s.mem := by simp [State.capArm]
@[simp] theorem State.capStop_mem (s : State) (n : Nat) : (s.capStop n).mem = s.mem := by simp [State.capStop]
@[simp] theorem State.capDone_mem (s : State) (n : Nat) : (s.capDone n).mem = s.mem := by simp [State.capDone]

/-! Flits handed over -/

@[simp] theorem State.showIde_mem (s : State) (n : Nat) : (s.showIde n).mem = s.mem := by simp [State.showIde]
@[simp] theorem State.handOver_mem (s : State) (n d : Nat) (h : Handed) (info : FlitInfo) :
    (s.handOver n d h info).mem = s.mem := by simp [State.handOver]
@[simp] theorem State.holdLeft_mem (s : State) (n row index : Nat) : (s.holdLeft n row index).mem = s.mem := by
  simp [State.holdLeft]
@[simp] theorem State.departHeld_mem (s : State) (n : Nat) (replace : Bool) :
    (s.departHeld n replace).mem = s.mem := by
  simp only [State.departHeld]
  (repeat' split) <;> simp
@[simp] theorem State.departAll_mem (k : Nat) (s : State) (n : Nat) : (State.departAll k s n).mem = s.mem := by
  induction k generalizing s with
  | zero => rfl
  | succ k ih => simp [State.departAll, ih]

/-! Ports -/

@[simp] theorem State.showDrive_mem (s : State) (ls : Nat) : (s.showDrive ls).mem = s.mem := by simp [State.showDrive]
@[simp] theorem State.setTx_mem (s : State) (on : Bool) (ls : Nat) : (s.setTx on ls).mem = s.mem := by
  simp [State.setTx]
@[simp] theorem State.portTx_mem (s : State) (n : Nat) (on : Bool) : (s.portTx n on).mem = s.mem := by
  simp [State.portTx]
@[simp] theorem State.setAstate_mem (s : State) (ls v : Nat) : (s.setAstate ls v).mem = s.mem := by
  simp [State.setAstate]
@[simp] theorem State.endMargin_mem (s : State) (ls : Nat) : (s.endMargin ls).mem = s.mem := by simp [State.endMargin]
@[simp] theorem State.laneIdle_mem (s : State) (ls : Nat) : (s.laneIdle ls).mem = s.mem := by simp [State.laneIdle]
@[simp] theorem State.laneOff_mem (s : State) (ls : Nat) : (s.laneOff ls).mem = s.mem := by simp [State.laneOff]
@[simp] theorem State.updPend_mem (s : State) (n : Nat) : (s.updPend n).mem = s.mem := by simp [State.updPend]
@[simp] theorem State.retargetDir_mem (s : State) (n d : Nat) (written : Bool) :
    (s.retargetDir n d written).mem = s.mem := by
  simp only [State.retargetDir]
  split <;> simp
@[simp] theorem State.retarget_mem (s : State) (n : Nat) (written : Bool) : (s.retarget n written).mem = s.mem := by
  simp [State.retarget]
@[simp] theorem State.armModes_mem (s : State) (n : Nat) : (s.armModes n).mem = s.mem := by simp [State.armModes]
@[simp] theorem State.applyMode_mem (s : State) (n d : Nat) : (s.applyMode n d).mem = s.mem := by simp [State.applyMode]
@[simp] theorem State.modesAtStart_mem (s : State) (n : Nat) : (s.modesAtStart n).mem = s.mem := by
  simp [State.modesAtStart]
@[simp] theorem State.modesAtRow_mem (s : State) (n : Nat) : (s.modesAtRow n).mem = s.mem := by simp [State.modesAtRow]
@[simp] theorem State.abortErrata_mem (s : State) (n : Nat) : (s.abortErrata n).mem = s.mem := by
  simp [State.abortErrata]
@[simp] theorem State.abortReplay_mem (s : State) (n : Nat) : (s.abortReplay n).mem = s.mem := by
  simp [State.abortReplay]
@[simp] theorem State.endHoldReqs_mem (s : State) (n : Nat) : (s.endHoldReqs n).mem = s.mem := by
  simp [State.endHoldReqs]
@[simp] theorem State.stopRows_mem (s : State) (n : Nat) : (s.stopRows n).mem = s.mem := by simp [State.stopRows]
@[simp] theorem State.settlePort_mem (s : State) (n : Nat) : (s.settlePort n).mem = s.mem := by simp [State.settlePort]
@[simp] theorem State.settleDown_mem (s : State) (n : Nat) : (s.settleDown n).mem = s.mem := by simp [State.settleDown]
@[simp] theorem State.logDown_mem (s : State) (n cause state rate : Nat) :
    (s.logDown n cause state rate).mem = s.mem := by simp [State.logDown]
@[simp] theorem State.noteCause_mem (s : State) (n cause : Nat) : (s.noteCause n cause).mem = s.mem := by
  simp [State.noteCause]
@[simp] theorem State.recount_mem (s : State) (n old new : Nat) : (s.recount n old new).mem = s.mem := by
  simp [State.recount]
@[simp] theorem State.linkDown_mem (s : State) (n cause : Nat) : (s.linkDown n cause).mem = s.mem := by
  simp [State.linkDown]
@[simp] theorem State.rampWaiting_mem (s : State) (ls : Nat) : (s.rampWaiting ls).mem = s.mem := by
  simp [State.rampWaiting]
@[simp] theorem State.setLtssm_mem (s : State) (n v : Nat) : (s.setLtssm n v).mem = s.mem := by simp [State.setLtssm]
@[simp] theorem State.termsOff_mem (s : State) (n : Nat) : (s.termsOff n).mem = s.mem := by
  simp -implicitDefEqProofs [State.termsOff]
@[simp] theorem State.forgetLink_mem (s : State) (n : Nat) : (s.forgetLink n).mem = s.mem := by simp [State.forgetLink]
@[simp] theorem State.enterDetect_mem (s : State) (n : Nat) : (s.enterDetect n).mem = s.mem := by
  simp [State.enterDetect]
@[simp] theorem State.downToDetect_mem (s : State) (n cause : Nat) : (s.downToDetect n cause).mem = s.mem := by
  simp [State.downToDetect]
@[simp] theorem State.disarmCapture_mem (s : State) (n : Nat) : (s.disarmCapture n).mem = s.mem := by
  simp [State.disarmCapture]
@[simp] theorem State.zeroQueues_mem (s : State) (n : Nat) : (s.zeroQueues n).mem = s.mem := by simp [State.zeroQueues]
@[simp] theorem State.portReset_mem (s : State) (n cause hold : Nat) : (s.portReset n cause hold).mem = s.mem := by
  simp -implicitDefEqProofs [State.portReset]
@[simp] theorem State.leaveReset_mem (s : State) (n : Nat) : (s.leaveReset n).mem = s.mem := by simp [State.leaveReset]
@[simp] theorem State.lanesOn_mem (s : State) (n : Nat) : (s.lanesOn n).mem = s.mem := by simp [State.lanesOn]

/-! The CSB and the spares -/

@[simp] theorem State.csbQueue_mem (s : State) (type vc : Nat) (payload : List Nat) (ring : Option (Nat × Nat))
    (hw : Option Nat) :
    (s.csbQueue type vc payload ring hw).mem = s.mem := by simp [State.csbQueue]
@[simp] theorem State.csbSend_mem (s : State) (type vc : Nat) (payload : List Nat) :
    (s.csbSend type vc payload).mem = s.mem := by simp [State.csbSend]
@[simp] theorem State.sendFrame_mem (s : State) (f : CsbFrame) (ack : Nat) : (s.sendFrame f ack).mem = s.mem := by
  simp [State.sendFrame]
@[simp] theorem State.modSpare_mem (s : State) (h : Nat) (f : SpareSt → SpareSt) : (s.modSpare h f).mem = s.mem := by
  simp [State.modSpare]
@[simp] theorem State.sendRxOn_mem (s : State) (h l on : Nat) : (s.sendRxOn h l on).mem = s.mem := by
  simp [State.sendRxOn]
@[simp] theorem State.markSpare_mem (s : State) (h : Nat) (on : Bool) : (s.markSpare h on).mem = s.mem := by
  unfold State.markSpare
  split <;> simp
@[simp] theorem State.spareIdle_mem (s : State) (h : Nat) : (s.spareIdle h).mem = s.mem := by
  simp only [State.spareIdle]
  split <;> simp
@[simp] theorem State.spareEnd_mem (s : State) (h : Nat) : (s.spareEnd h).mem = s.mem := by simp [State.spareEnd]
@[simp] theorem State.abandonSpare_mem (s : State) (h res : Nat) (now : Bool) :
    (s.abandonSpare h res now).mem = s.mem := by simp [State.abandonSpare]
@[simp] theorem State.abandonPortSpares_mem (s : State) (n : Nat) : (s.abandonPortSpares n).mem = s.mem := by
  simp [State.abandonPortSpares]
@[simp] theorem State.csbLeaveUp_mem (s : State) (next : Nat) : (s.csbLeaveUp next).mem = s.mem := by
  simp [State.csbLeaveUp]
@[simp] theorem State.csbLoss_mem (s : State) (next : Nat) : (s.csbLoss next).mem = s.mem := by simp [State.csbLoss]

/-! The fault sump -/

@[simp] theorem State.holdTx_mem (s : State) (src ls : Nat) : (s.holdTx src ls).mem = s.mem := by simp [State.holdTx]
@[simp] theorem State.laneReaction_mem (s : State) (src inst : Nat) : (s.laneReaction src inst).mem = s.mem := by
  unfold State.laneReaction
  dsimp only
  split
  on_goal 1 => rw [State.mem_ite, State.abandonSpare_mem, ite_self]
  all_goals
    refine (forEach_mem _ _ fun ls a => ?_).trans (by simp)
    split <;> simp
@[simp] theorem State.allPortsDown_mem (s : State) (cause : Nat) : (s.allPortsDown cause).mem = s.mem := by
  simp [State.allPortsDown]
@[simp] theorem State.enterSafe_mem (s : State) : s.enterSafe.mem = s.mem := by simp [State.enterSafe]
@[simp] theorem State.react_mem (s : State) (src inst : Nat) : (s.react src inst).mem = s.mem := by simp [State.react]
@[simp] theorem State.setPend_mem (s : State) (src : Nat) : (s.setPend src).mem = s.mem := by simp [State.setPend]
@[simp] theorem State.capture_mem (s : State) (e : Ev) : (s.capture e).mem = s.mem := by simp [State.capture]
@[simp] theorem State.judge_mem (s : State) (e : Ev) : (s.judge e).mem = s.mem := by simp [State.judge]
@[simp] theorem State.countEv_mem (s : State) (e : Ev) : (s.countEv e).mem = s.mem := by simp [State.countEv]
@[simp] theorem State.acceptEv_mem (s : State) (e : Ev) : (s.acceptEv e).mem = s.mem := by simp [State.acceptEv]
@[simp] theorem State.sumpEv_mem (s : State) (e : Ev) : (s.sumpEv e).mem = s.mem := by simp [State.sumpEv]
@[simp] theorem State.settleEvs_mem (k : Nat) (s : State) : (State.settleEvs k s).mem = s.mem := by
  induction k generalizing s with
  | zero => rfl
  | succ k ih => unfold State.settleEvs; split <;> simp [ih]
@[simp] theorem State.settle_mem (s : State) : s.settle.mem = s.mem := by simp [State.settle]
@[simp] theorem State.updCause_mem (s : State) (src : Nat) : (s.updCause src).mem = s.mem := by simp [State.updCause]
@[simp] theorem State.condOn_mem (s : State) (src inst detail : Nat) : (s.condOn src inst detail).mem = s.mem := by
  simp [State.condOn]
@[simp] theorem State.condOff_mem (s : State) (src inst detail : Nat) : (s.condOff src inst detail).mem = s.mem := by
  simp [State.condOff]
@[simp] theorem State.cond_mem (s : State) (src inst detail : Nat) (on : Bool) :
    (s.cond src inst detail on).mem = s.mem := by simp [State.cond]
@[simp] theorem State.sourceEvent_mem (s : State) (src inst detail : Nat) (level : Bool) :
    (s.sourceEvent src inst detail level).mem = s.mem := by simp [State.sourceEvent]
@[simp] theorem State.wireFault_mem (s : State) (src : Nat) : (s.wireFault src).mem = s.mem := by simp [State.wireFault]
@[simp] theorem State.wireFaultEnd_mem (s : State) (src : Nat) : (s.wireFaultEnd src).mem = s.mem := by
  simp [State.wireFaultEnd]
@[simp] theorem State.windowEnd_mem (s : State) (src : Nat) : (s.windowEnd src).mem = s.mem := by simp [State.windowEnd]
@[simp] theorem State.clearSrc_mem (s : State) (src : Nat) : (s.clearSrc src).mem = s.mem := by simp [State.clearSrc]
@[simp] theorem State.sumpClr_mem (s : State) (req addr src : Nat) : (s.sumpClr req addr src).mem = s.mem := by
  simp [State.sumpClr]
@[simp] theorem State.sumpClrAll_mem (s : State) : s.sumpClrAll.mem = s.mem := by simp [State.sumpClrAll]
@[simp] theorem State.sumpForce_mem (s : State) (req addr src inst detail : Nat) :
    (s.sumpForce req addr src inst detail).mem = s.mem := by simp [State.sumpForce]
@[simp] theorem State.sumpCntClr_mem (s : State) : s.sumpCntClr.mem = s.mem := by simp [State.sumpCntClr]
@[simp] theorem State.availClr_mem (s : State) : s.availClr.mem = s.mem := by simp [State.availClr]
@[simp] theorem State.lwdogKick_mem (s : State) (req addr : Nat) : (s.lwdogKick req addr).mem = s.mem := by
  simp [State.lwdogKick]
@[simp] theorem State.eccCe_mem (s : State) (mem word : Nat) : (s.eccCe mem word).mem = s.mem := by simp [State.eccCe]
@[simp] theorem State.eccUe_mem (s : State) (mem word : Nat) : (s.eccUe mem word).mem = s.mem := by simp [State.eccUe]
@[simp] theorem State.eccRead_mem (s : State) (mem : Nat) (e : Ecc) : (s.eccRead mem e).mem = s.mem := by
  cases e <;> simp [State.eccRead]
@[simp] theorem State.quiesce_mem (s : State) : s.quiesce.mem = s.mem := by simp [State.quiesce]
@[simp] theorem State.qstopLevels_mem (s : State) (a b : Bool) : (s.qstopLevels a b).mem = s.mem := by
  simp [State.qstopLevels]
@[simp] theorem State.qstopDisc_mem (s : State) : s.qstopDisc.mem = s.mem := by simp [State.qstopDisc]
@[simp] theorem State.eccLeak_mem (s : State) (mem : Nat) : (s.eccLeak mem).mem = s.mem := by simp [State.eccLeak]
@[simp] theorem State.lapJudge_mem (s : State) (mem : Nat) : (s.lapJudge mem).mem = s.mem := by simp [State.lapJudge]

/-! Memory protection and management accesses -/

@[simp] theorem State.viaBus_mem (s : State) (r : Requester) (k : State → State)
    (hk : ∀ a, (k a).mem = a.mem) :
    (s.viaBus r k).mem = s.mem := by simp [State.viaBus, hk]
@[simp] theorem State.viaCore_mem (s : State) (r : Requester) (k : State → State)
    (hk : ∀ a, (k a).mem = a.mem) :
    (s.viaCore r k).mem = s.mem := by simp [State.viaCore, hk]
@[simp] theorem State.scrub_mem (s : State) (mem : Nat) (ecc : Ecc) : (s.scrub mem ecc).mem = s.mem := by
  unfold State.scrub
  (repeat' split) <;> simp

/-! Lanes -/

@[simp] theorem State.startAdapt_mem (s : State) (ls : Nat) : (s.startAdapt ls).mem = s.mem := by
  simp [State.startAdapt]
@[simp] theorem State.unfreeze_mem (s : State) (ls : Nat) : (s.unfreeze ls).mem = s.mem := by simp [State.unfreeze]
@[simp] theorem State.setFreeze_mem (s : State) (ls : Nat) (on : Bool) : (s.setFreeze ls on).mem = s.mem := by
  simp [State.setFreeze]
@[simp] theorem State.setPolarity_mem (s : State) (ls : Nat) : (s.setPolarity ls).mem = s.mem := by
  simp [State.setPolarity]
@[simp] theorem State.startEq_mem (s : State) (ls : Nat) : (s.startEq ls).mem = s.mem := by simp [State.startEq]
@[simp] theorem State.restartLane_mem (s : State) (ls : Nat) : (s.restartLane ls).mem = s.mem := by
  simp [State.restartLane]
@[simp] theorem State.adaptDrip_mem (s : State) : s.adaptDrip.mem = s.mem := by simp [State.adaptDrip]
@[simp] theorem State.clrLaneErr_mem (s : State) (ls : Nat) : (s.clrLaneErr ls).mem = s.mem := by
  simp [State.clrLaneErr]
@[simp] theorem State.forwardIdle_mem (s : State) (ls : Nat) (idle : Bool) : (s.forwardIdle ls idle).mem = s.mem := by
  unfold State.forwardIdle
  split <;> simp
@[simp] theorem State.signalDetect_mem (s : State) (ls : Nat) : (s.signalDetect ls).mem = s.mem := by
  simp [State.signalDetect]
@[simp] theorem State.cdrLocked_mem (s : State) (ls : Nat) : (s.cdrLocked ls).mem = s.mem := by simp [State.cdrLocked]
@[simp] theorem State.lossOfSignal_mem (s : State) (ls : Nat) : (s.lossOfSignal ls).mem = s.mem := by
  simp [State.lossOfSignal]
@[simp] theorem State.adaptConverged_mem (s : State) (ls ctle dfe1 m1 p1 : Nat) :
    (s.adaptConverged ls ctle dfe1 m1 p1).mem = s.mem := by simp [State.adaptConverged]
@[simp] theorem State.lossOfLock_mem (s : State) (ls : Nat) : (s.lossOfLock ls).mem = s.mem := by
  simp [State.lossOfLock]
@[simp] theorem State.relockTimeout_mem (s : State) (ls : Nat) : (s.relockTimeout ls).mem = s.mem := by
  simp [State.relockTimeout]
@[simp] theorem State.ebFill_mem (s : State) (ls fill : Nat) : (s.ebFill ls fill).mem = s.mem := by simp [State.ebFill]
@[simp] theorem State.ebError_mem (s : State) (ls : Nat) (full : Bool) : (s.ebError ls full).mem = s.mem := by
  simp [State.ebError]
@[simp] theorem State.skp_mem (s : State) (ls fill unit : Nat) : (s.skp ls fill unit).mem = s.mem := by simp [State.skp]
@[simp] theorem State.prbsClr_mem (s : State) (ls : Nat) : (s.prbsClr ls).mem = s.mem := by simp [State.prbsClr]
@[simp] theorem State.dropPrbsLock_mem (s : State) (ls : Nat) : (s.dropPrbsLock ls).mem = s.mem := by
  simp [State.dropPrbsLock]
@[simp] theorem State.patternTx_mem (s : State) (ls : Nat) : (s.patternTx ls).mem = s.mem := by simp [State.patternTx]
@[simp] theorem State.patternCtl_mem (s : State) (ls : Nat) : (s.patternCtl ls).mem = s.mem := by
  simp [State.patternCtl]
@[simp] theorem State.prbsCount_mem (s : State) (ls bits errs : Nat) : (s.prbsCount ls bits errs).mem = s.mem := by
  simp [State.prbsCount]
@[simp] theorem State.prbsLock_mem (s : State) (ls : Nat) : (s.prbsLock ls).mem = s.mem := by simp [State.prbsLock]
@[simp] theorem State.prbsLockLoss_mem (s : State) (ls bits errs : Nat) :
    (s.prbsLockLoss ls bits errs).mem = s.mem := by simp [State.prbsLockLoss]
@[simp] theorem State.failSlice_mem (s : State) (ls k : Nat) : (s.failSlice ls k).mem = s.mem := by
  simp [State.failSlice]
@[simp] theorem State.marginCommand_mem (s : State) (n lane rxnum : Nat) (ask : MarginAsk) :
    (s.marginCommand n lane rxnum ask).mem = s.mem := by
  unfold State.marginCommand
  (repeat' split) <;> simp
@[simp] theorem State.marginSetup_mem (s : State) (ls : Nat) : (s.marginSetup ls).mem = s.mem := by
  unfold State.marginSetup
  split <;> simp
@[simp] theorem State.endPortMargins_mem (s : State) (n : Nat) : (s.endPortMargins n).mem = s.mem := by
  simp [State.endPortMargins]

/-! The capture window -/


/-! The flit engine -/

@[simp] theorem State.loseLock_mem (s : State) (n d : Nat) : (s.loseLock n d).mem = s.mem := by
  unfold State.loseLock
  dsimp only
  split <;> simp
@[simp] theorem State.stepLock_mem (s : State) (n d : Nat) (good : Bool) : (s.stepLock n d good).mem = s.mem := by
  simp [State.stepLock]
@[simp] theorem State.countWindow_mem (s : State) (n m : Nat) : (s.countWindow n m).mem = s.mem := by
  simp [State.countWindow]
@[simp] theorem State.countLane_mem (s : State) (n d off : Nat) : (s.countLane n d off).mem = s.mem := by
  simp [State.countLane]
@[simp] theorem State.countFlit_mem (s : State) (n d : Nat) (f : Flit) : (s.countFlit n d f).mem = s.mem := by
  unfold State.countFlit
  split <;> simp
@[simp] theorem State.showRows_mem (s : State) (n : Nat) : (s.showRows n).mem = s.mem := by simp [State.showRows]
@[simp] theorem State.sentRowFlit_mem (s : State) (n : Nat) (f : Flit) (sent : List Nat) (lock : Bool) :
    (s.sentRowFlit n f sent lock).mem = s.mem := by simp [State.sentRowFlit]
@[simp] theorem State.gotRowFlit_mem (s : State) (n : Nat) : (s.gotRowFlit n).mem = s.mem := by simp [State.gotRowFlit]
@[simp] theorem State.holdFlit_mem (s : State) (n : Nat) (f : Flit) (lock : Bool) :
    (s.holdFlit n f lock).mem = s.mem := by simp [State.holdFlit]
@[simp] theorem State.flitUnlocked_mem (s : State) (n d : Nat) (f : Flit) : (s.flitUnlocked n d f).mem = s.mem := by
  simp [State.flitUnlocked]
@[simp] theorem State.flitDecoded_mem (s : State) (n d : Nat) (f : Flit) : (s.flitDecoded n d f).mem = s.mem := by
  simp [State.flitDecoded]
@[simp] theorem State.streamEnd_mem (s : State) (n : Nat) : (s.streamEnd n).mem = s.mem := by simp [State.streamEnd]
@[simp] theorem State.streamStart_mem (s : State) (n skewOI skewIO : Nat) :
    (s.streamStart n skewOI skewIO).mem = s.mem := by simp [State.streamStart]

/-! Companion mode -/

@[simp] theorem State.gateSpares_mem (s : State) : s.gateSpares.mem = s.mem := by simp [State.gateSpares]
@[simp] theorem State.releaseSpare_mem (s : State) (h : Nat) : (s.releaseSpare h).mem = s.mem := by
  simp [State.releaseSpare]
@[simp] theorem State.releasePortSpares_mem (s : State) (n : Nat) : (s.releasePortSpares n).mem = s.mem := by
  simp [State.releasePortSpares]
@[simp] theorem State.fallback_mem (s : State) (n cause : Nat) : (s.fallback n cause).mem = s.mem := by
  simp [State.fallback]
@[simp] theorem State.laneToRate_mem (s : State) (rate : Nat) (comp : Bool) (ls : Nat) :
    (s.laneToRate rate comp ls).mem = s.mem := by simp [State.laneToRate]
@[simp] theorem State.restartInner_mem (s : State) (n : Nat) (stopped : Bool) :
    (s.restartInner n stopped).mem = s.mem := by simp [State.restartInner]
@[simp] theorem State.sendFallback_mem (s : State) (n cause : Nat) : (s.sendFallback n cause).mem = s.mem := by
  simp [State.sendFallback]
@[simp] theorem State.attemptFallback_mem (s : State) (n cause : Nat) : (s.attemptFallback n cause).mem = s.mem := by
  simp [State.attemptFallback]
@[simp] theorem State.recoveryFallback_mem (s : State) (n cause : Nat) :
    (s.recoveryFallback n cause).mem = s.mem := by simp [State.recoveryFallback]
@[simp] theorem State.sendLockRpt_mem (s : State) (n : Nat) (comp : Bool) : (s.sendLockRpt n comp).mem = s.mem := by
  simp [State.sendLockRpt]
@[simp] theorem State.reportLock_mem (s : State) (n : Nat) : (s.reportLock n).mem = s.mem := by
  unfold State.reportLock
  split <;> simp
@[simp] theorem State.sendJoin_mem (s : State) (n : Nat) : (s.sendJoin n).mem = s.mem := by simp [State.sendJoin]
@[simp] theorem State.seekAssociation_mem (s : State) (n : Nat) : (s.seekAssociation n).mem = s.mem := by
  simp [State.seekAssociation]

/-! Training -/

@[simp] theorem State.setCoefs_mem (s : State) (ls preset word : Nat) : (s.setCoefs ls preset word).mem = s.mem := by
  simp [State.setCoefs]
@[simp] theorem State.setPreset_mem (s : State) (ls p : Nat) : (s.setPreset ls p).mem = s.mem := by
  simp [State.setPreset]
@[simp] theorem State.storeCoefs_mem (s : State) (ls : Nat) : (s.storeCoefs ls).mem = s.mem := by
  simp [State.storeCoefs]
@[simp] theorem State.recallCoefs_mem (s : State) (ls preset : Nat) : (s.recallCoefs ls preset).mem = s.mem := by
  simp [State.recallCoefs]
@[simp] theorem State.sendSet_mem (s : State) (n : Nat) (ts : TrainSet) : (s.sendSet n ts).mem = s.mem := by
  simp [State.sendSet]
@[simp] theorem State.forwardSet_mem (s : State) (n : Nat) (ts : TrainSet) : (s.forwardSet n ts).mem = s.mem := by
  simp [State.forwardSet]
@[simp] theorem State.learnPos_mem (s : State) (n : Nat) (ts : TrainSet) : (s.learnPos n ts).mem = s.mem := by
  simp [State.learnPos]
@[simp] theorem State.learnPolarity_mem (s : State) (n : Nat) (ts : TrainSet) :
    (s.learnPolarity n ts).mem = s.mem := by simp [State.learnPolarity]
@[simp] theorem State.learnWidth_mem (s : State) (n : Nat) (ts : TrainSet) : (s.learnWidth n ts).mem = s.mem := by
  simp -implicitDefEqProofs [State.learnWidth]
@[simp] theorem State.learnFlit_mem (s : State) (n : Nat) (ts : TrainSet) : (s.learnFlit n ts).mem = s.mem := by
  simp [State.learnFlit]
@[simp] theorem State.leaveL0_mem (s : State) (n : Nat) : (s.leaveL0 n).mem = s.mem := by simp [State.leaveL0]
@[simp] theorem State.enterRecovery_mem (s : State) (n : Nat) : (s.enterRecovery n).mem = s.mem := by
  simp [State.enterRecovery]
@[simp] theorem State.adaptPort_mem (s : State) (n : Nat) : (s.adaptPort n).mem = s.mem := by simp [State.adaptPort]
@[simp] theorem State.endAdapt_mem (s : State) (n : Nat) : (s.endAdapt n).mem = s.mem := by simp [State.endAdapt]
@[simp] theorem State.leaveEq_mem (s : State) (n old : Nat) : (s.leaveEq n old).mem = s.mem := by simp [State.leaveEq]
@[simp] theorem State.startExec_mem (s : State) (n : Nat) (inner : Bool) : (s.startExec n inner).mem = s.mem := by
  simp [State.startExec]
@[simp] theorem State.speedDecision_mem (s : State) (n old new : Nat) : (s.speedDecision n old new).mem = s.mem := by
  simp [State.speedDecision]
@[simp] theorem State.speedChange_mem (s : State) (n : Nat) (ts : TrainSet) : (s.speedChange n ts).mem = s.mem := by
  simp [State.speedChange]
@[simp] theorem State.namedPresets_mem (s : State) (n : Nat) (ts : TrainSet) : (s.namedPresets n ts).mem = s.mem := by
  simp [State.namedPresets]
@[simp] theorem State.phase0_mem (s : State) (n : Nat) (ts : TrainSet) : (s.phase0 n ts).mem = s.mem := by
  simp [State.phase0]
@[simp] theorem State.compliance_mem (s : State) (n : Nat) (ts : TrainSet) : (s.compliance n ts).mem = s.mem := by
  simp [State.compliance]
@[simp] theorem State.keepPhase_mem (s : State) (n : Nat) (side : Bool) : (s.keepPhase n side).mem = s.mem := by
  simp [State.keepPhase]
@[simp] theorem State.onEntry_mem (s : State) (n old : Nat) (ts : TrainSet) : (s.onEntry n old ts).mem = s.mem := by
  simp [State.onEntry]
@[simp] theorem State.widthFallback_mem (s : State) (n : Nat) (ts : TrainSet) :
    (s.widthFallback n ts).mem = s.mem := by simp [State.widthFallback]
@[simp] theorem State.moveTo_mem (s : State) (n : Nat) (ts : TrainSet) : (s.moveTo n ts).mem = s.mem := by
  simp [State.moveTo]
@[simp] theorem State.takeSet_mem (s : State) (n : Nat) (ts : TrainSet) : (s.takeSet n ts).mem = s.mem := by
  simp [State.takeSet]
@[simp] theorem State.retrainSet_mem (s : State) (n : Nat) (ts : TrainSet) : (s.retrainSet n ts).mem = s.mem := by
  simp [State.retrainSet]
@[simp] theorem State.trainSet_mem (s : State) (n : Nat) (ts : TrainSet) : (s.trainSet n ts).mem = s.mem := by
  unfold State.trainSet
  (repeat' split) <;> simp
@[simp] theorem State.releaseHeld_mem (s : State) (n : Nat) : (s.releaseHeld n).mem = s.mem := by
  unfold State.releaseHeld
  split <;> simp
@[simp] theorem State.endAttempt_mem (s : State) (n : Nat) : (s.endAttempt n).mem = s.mem := by simp [State.endAttempt]
@[simp] theorem State.lockPassed_mem (s : State) (n : Nat) : (s.lockPassed n).mem = s.mem := by simp [State.lockPassed]
@[simp] theorem State.lockProgress_mem (s : State) (n : Nat) : (s.lockProgress n).mem = s.mem := by
  simp only [State.lockProgress]
  split <;> simp
@[simp] theorem State.ceqOver_mem (s : State) (n : Nat) : (s.ceqOver n).mem = s.mem := by simp [State.ceqOver]
@[simp] theorem State.ownCeqEnd_mem (s : State) (n : Nat) (scored : Nat) : (s.ownCeqEnd n scored).mem = s.mem := by
  simp [State.ownCeqEnd]
@[simp] theorem State.peerCeqEnd_mem (s : State) (n : Nat) : (s.peerCeqEnd n).mem = s.mem := by simp [State.peerCeqEnd]
@[simp] theorem State.endExec_mem (s : State) (n : Nat) (inner : Bool) (result : Nat) :
    (s.endExec n inner result).mem = s.mem := by
  unfold State.endExec
  split
  · rfl
  · split <;> simp
@[simp] theorem State.trialEnd_mem (s : State) (n : Nat) (inner : Bool) (tr : Trial) :
    (s.trialEnd n inner tr).mem = s.mem := by
  simp only [State.trialEnd]
  (repeat' split) <;> simp
@[simp] theorem State.execTimeout_mem (s : State) (n : Nat) (inner : Bool) : (s.execTimeout n inner).mem = s.mem := by
  unfold State.execTimeout
  (repeat' split) <;> simp
@[simp] theorem State.ceqTimeout_mem (s : State) (n : Nat) : (s.ceqTimeout n).mem = s.mem := by
  unfold State.ceqTimeout
  (repeat' split) <;> simp
@[simp] theorem State.coefRequest_mem (s : State) (ls : Nat) (req : CoefReq) :
    (s.coefRequest ls req).mem = s.mem := by
  unfold State.coefRequest
  (repeat' split) <;> simp
@[simp] theorem State.retrain_mem (s : State) (n : Nat) : (s.retrain n).2.mem = s.mem := by
  unfold State.retrain
  split <;> simp
@[simp] theorem State.l0pLane_mem (s : State) (off : Bool) (ls : Nat) : (s.l0pLane off ls).mem = s.mem := by
  simp [State.l0pLane]
@[simp] theorem State.l0pSpare_mem (s : State) (n off : Nat) : (s.l0pSpare n off).mem = s.mem := by
  simp [State.l0pSpare]
@[simp] theorem State.l0p_mem (s : State) (n width : Nat) : (s.l0p n width).mem = s.mem := by simp [State.l0p]
@[simp] theorem State.l1Entry_mem (s : State) (n : Nat) : (s.l1Entry n).mem = s.mem := by simp [State.l1Entry]
@[simp] theorem State.l1Exit_mem (s : State) (n : Nat) (inner : Bool) (lane : Nat) :
    (s.l1Exit n inner lane).mem = s.mem := by simp [State.l1Exit]
@[simp] theorem State.watchdog_mem (s : State) (n : Nat) : (s.watchdog n).mem = s.mem := by simp [State.watchdog]
@[simp] theorem State.unannounced_mem (s : State) (n : Nat) (inner : Bool) : (s.unannounced n inner).mem = s.mem := by
  simp [State.unannounced]
@[simp] theorem State.detect_mem (s : State) (n : Nat) (outer inner : List Nat) :
    (s.detect n outer inner).mem = s.mem := by simp [State.detect]

/-! Port controls -/

@[simp] theorem State.resetPort_mem (s : State) (n cause hold : Nat) : (s.resetPort n cause hold).mem = s.mem := by
  simp [State.resetPort]
@[simp] theorem State.enablePort_mem (s : State) (n : Nat) (en : Bool) : (s.enablePort n en).mem = s.mem := by
  simp [State.enablePort]
@[simp] theorem State.rstPort_mem (s : State) (n : Nat) : (s.rstPort n).mem = s.mem := by simp [State.rstPort]
@[simp] theorem State.portResetDone_mem (s : State) (n : Nat) : (s.portResetDone n).mem = s.mem := by
  simp [State.portResetDone]
@[simp] theorem State.perst_mem (s : State) (n : Nat) (low : Bool) : (s.perst n low).mem = s.mem := by
  simp [State.perst]
@[simp] theorem State.presenceActs_mem (s : State) (n : Nat) : (s.presenceActs n).mem = s.mem := by
  simp [State.presenceActs]
@[simp] theorem State.presence_mem (s : State) (n : Nat) (high : Bool) : (s.presence n high).mem = s.mem := by
  simp [State.presence]
@[simp] theorem State.clrPortCnt_mem (s : State) (n : Nat) : (s.clrPortCnt n).mem = s.mem := by simp [State.clrPortCnt]
@[simp] theorem State.bindTag_mem (s : State) (req n tag : Nat) : (s.bindTag req n tag).mem = s.mem := by
  simp [State.bindTag]
@[simp] theorem State.resetLaneStatus_mem (s : State) (ls : Nat) : (s.resetLaneStatus ls).mem = s.mem := by
  simp [State.resetLaneStatus]
@[simp] theorem State.abandonCal_mem (s : State) (q : Nat) : (s.abandonCal q).mem = s.mem := by simp [State.abandonCal]
@[simp] theorem State.phraseEnable_mem (s : State) (q : Nat) (en : Bool) : (s.phraseEnable q en).mem = s.mem := by
  simp [State.phraseEnable]
@[simp] theorem State.clrPhrWdog_mem (s : State) (q : Nat) : (s.clrPhrWdog q).mem = s.mem := by simp [State.clrPhrWdog]
@[simp] theorem State.phraseOverrun_mem (s : State) (q : Nat) : (s.phraseOverrun q).mem = s.mem := by
  simp only [State.phraseOverrun]
  (repeat' split) <;> simp
@[simp] theorem State.phraseRan_mem (s : State) (q cycles : Nat) : (s.phraseRan q cycles).mem = s.mem := by
  simp [State.phraseRan]

/-! The heat map's commands -/

@[simp] theorem State.noteShared_mem (s : State) (p : Nat) : (s.noteShared p).mem = s.mem := by simp [State.noteShared]
@[simp] theorem State.readEntry_mem (s : State) (zoom : Bool) (bank i : Nat) :
    (s.readEntry zoom bank i).2.mem = s.mem := by
  unfold State.readEntry
  split <;> simp
@[simp] theorem State.startExport_mem (s : State) (p : Nat) : (s.startExport p).mem = s.mem := by
  simp [State.startExport]
@[simp] theorem State.readChunk_mem (ue : List Nat) (b : Nat) (l : List (Option (Bool × Nat))) (s : State) :
    (State.readChunk ue b l s).2.mem = s.mem := by
  induction l generalizing s with
  | nil => rfl
  | cons x t ih =>
    match x with
    | none => exact ih s
    | some (zoom, i) => unfold State.readChunk; split <;> simp [ih]
@[simp] theorem State.chunkReady_mem (s : State) (p : Nat) (ue : List Nat) : (s.chunkReady p ue).mem = s.mem := by
  simp [State.chunkReady]
@[simp] theorem State.clrHeatCnt_mem (s : State) : s.clrHeatCnt.mem = s.mem := by simp [State.clrHeatCnt]
@[simp] theorem State.loadLfsr_mem (s : State) (p v : Nat) : (s.loadLfsr p v).mem = s.mem := by simp [State.loadLfsr]
@[simp] theorem State.epochTick_mem (s : State) : (s.epochTick).2.mem = s.mem := by simp [State.epochTick]
@[simp] theorem State.makeSwap_mem (s : State) : s.makeSwap.mem = s.mem := by simp [State.makeSwap]
@[simp] theorem State.trySwap_mem (s : State) (due : Bool) : (s.trySwap due).2.mem = s.mem := by
  unfold State.trySwap
  (repeat' split) <;> simp
@[simp] theorem State.queueCaches_mem (s : State) : s.queueCaches.mem = s.mem := by simp [State.queueCaches]

/-! Views and their rings -/

@[simp] theorem State.setWord_mem (s : State) (r : Reg) (i v : Nat) : (s.setWord r i v).mem = s.mem := by
  simp -implicitDefEqProofs [State.setWord]
@[simp] theorem State.showPend_mem (s : State) : s.showPend.mem = s.mem := by simp [State.showPend]
@[simp] theorem State.busQueue_mem (s : State) (smbus : Bool) (view ptr : Option Nat) (dest tag : Nat) (body : List Nat) :
    (s.busQueue smbus view ptr dest tag body).mem = s.mem := by simp [State.busQueue]
@[simp] theorem State.handEntry_mem (s : State) (v p : Nat) : (s.handEntry v p).mem = s.mem := by simp [State.handEntry]
@[simp] theorem State.handOut_mem (k : Nat) (s : State) (v : Nat) : (State.handOut k s v).mem = s.mem := by
  induction k generalizing s with
  | zero => rfl
  | succ k ih => simp [State.handOut, ih]
@[simp] theorem State.hwRsp_mem (s : State) (v route eid tag : Nat) (req : List Nat) (status : Nat) :
    (s.hwRsp v route eid tag req status).mem = s.mem := by simp [State.hwRsp]
@[simp] theorem State.requeueCsb_mem (s : State) : s.requeueCsb.mem = s.mem := by simp [State.requeueCsb]
@[simp] theorem State.refuseMsg_mem (s : State) (n mseq : Nat) : (s.refuseMsg n mseq).mem = s.mem := by
  simp [State.refuseMsg]
@[simp] theorem State.clrBlobFlags_mem (s : State) (v : Nat) : (s.clrBlobFlags v).mem = s.mem := by
  simp [State.clrBlobFlags]
@[simp] theorem State.freezeView_mem (s : State) (v : Nat) (on : Bool) : (s.freezeView v on).mem = s.mem := by
  simp [State.freezeView]
@[simp] theorem State.saveView_mem (s : State) (req v : Nat) : (s.saveView req v).mem = s.mem := by
  simp [State.saveView]
@[simp] theorem State.restoreView_mem (s : State) (v : Nat) : (s.restoreView v).mem = s.mem := by
  simp [State.restoreView]
@[simp] theorem State.finishSave_mem (s : State) (v : Nat) : (s.finishSave v).mem = s.mem := by
  simp -implicitDefEqProofs [State.finishSave]
@[simp] theorem State.detachView_mem (s : State) (v : Nat) : (s.detachView v).mem = s.mem := by simp [State.detachView]
@[simp] theorem State.finishRestore_mem (s : State) (v : Nat) : (s.finishRestore v).mem = s.mem := by
  simp [State.finishRestore]
@[simp] theorem State.blobDone_mem (s : State) (v : Nat) : (s.blobDone v).mem = s.mem := by
  unfold State.blobDone
  split <;> simp
@[simp] theorem State.emptyRings_mem (s : State) (v : Nat) : (s.emptyRings v).mem = s.mem := by simp [State.emptyRings]
@[simp] theorem State.ringReset_mem (s : State) (req v : Nat) : (s.ringReset req v).mem = s.mem := by
  simp [State.ringReset]
@[simp] theorem State.dropView_mem (s : State) (v : Nat) : (s.dropView v).mem = s.mem := by simp [State.dropView]
@[simp] theorem State.clrViewCnt_mem (s : State) (v : Nat) : (s.clrViewCnt v).mem = s.mem := by simp [State.clrViewCnt]
@[simp] theorem State.clrMgmtCnt_mem (s : State) : s.clrMgmtCnt.mem = s.mem := by simp [State.clrMgmtCnt]

/-! The CSB's messages -/

@[simp] theorem State.csbAck_mem (s : State) (vc num : Nat) : (s.csbAck vc num).mem = s.mem := by
  refine (forEach_mem _ _ fun f a => ?_).trans (by simp)
  split <;> simp
@[simp] theorem State.csbOwe_mem (s : State) (vc : Nat) : (s.csbOwe vc).mem = s.mem := by simp [State.csbOwe]
@[simp] theorem State.csbTake_mem (s : State) (h : CsbHdr) : (s.csbTake h).mem = s.mem := by simp [State.csbTake]
@[simp] theorem State.csbAccept_mem (s : State) (h : CsbHdr) (k : State → State)
    (hk : ∀ a, (k a).mem = a.mem) :
    (s.csbAccept h k).mem = s.mem := by simp [State.csbAccept, hk]
@[simp] theorem State.unexp_mem (s : State) : s.unexp.mem = s.mem := by simp [State.unexp]
@[simp] theorem State.csbMsg_mem (s : State) (h : CsbHdr) (vc : Nat) (k : State → State)
    (hk : ∀ a, (k a).mem = a.mem) :
    (s.csbMsg h vc k).mem = s.mem := by simp [State.csbMsg, hk]
@[simp] theorem State.portMsg_mem (s : State) (h : CsbHdr) (n : Nat) (k : State → State)
    (hk : ∀ a, (k a).mem = a.mem) :
    (s.portMsg h n k).mem = s.mem := by simp [State.portMsg, hk]
@[simp] theorem State.emitPlain_mem (s : State) (type : Nat) (payload : List Nat) :
    (s.emitPlain type payload).mem = s.mem := by simp [State.emitPlain]
@[simp] theorem State.sendHello_mem (s : State) : s.sendHello.mem = s.mem := by simp [State.sendHello]
@[simp] theorem State.csbStart_mem (s : State) : s.csbStart.mem = s.mem := by simp [State.csbStart]
@[simp] theorem State.csbOff_mem (s : State) : s.csbOff.mem = s.mem := by simp [State.csbOff]
@[simp] theorem State.csbEnterUp_mem (s : State) : s.csbEnterUp.mem = s.mem := by simp [State.csbEnterUp]
@[simp] theorem State.peerMajor_mem (s : State) (major : Nat) : (s.peerMajor major).mem = s.mem := by
  simp [State.peerMajor]
@[simp] theorem State.takeHello_mem (s : State) (major minor cap : Nat) :
    (s.takeHello major minor cap).mem = s.mem := by simp [State.takeHello]
@[simp] theorem State.hello_mem (s : State) (major minor cap : Nat) : (s.hello major minor cap).mem = s.mem := by
  simp [State.hello]
@[simp] theorem State.csbReset_mem (s : State) : s.csbReset.mem = s.mem := by simp [State.csbReset]
@[simp] theorem State.csbEnable_mem (s : State) (en : Bool) : (s.csbEnable en).mem = s.mem := by simp [State.csbEnable]
@[simp] theorem State.startFrame_mem (s : State) (f : CsbFrame) : (s.startFrame f).mem = s.mem := by
  simp [State.startFrame]
@[simp] theorem State.frameBoundary_mem (s : State) : s.frameBoundary.mem = s.mem := by
  simp only [State.frameBoundary]
  (repeat' split) <;> simp
@[simp] theorem State.retransmit_mem (s : State) (vc : Nat) : (s.retransmit vc).mem = s.mem := by
  simp [State.retransmit]
@[simp] theorem State.clrCsbCnt_mem (s : State) : s.clrCsbCnt.mem = s.mem := by simp [State.clrCsbCnt]
@[simp] theorem State.joinRsp_mem (s : State) (n : Nat) (refuse rows : Bool) :
    (s.joinRsp n refuse rows).mem = s.mem := by simp [State.joinRsp]
@[simp] theorem State.joinTimeout_mem (s : State) (n : Nat) : (s.joinTimeout n).mem = s.mem := by
  simp [State.joinTimeout]
@[simp] theorem State.lockRpt_mem (s : State) (n rate : Nat) (companion : Bool) (lanes : Nat) :
    (s.lockRpt n rate companion lanes).mem = s.mem := by simp [State.lockRpt]
@[simp] theorem State.fallbackAnswered_mem (s : State) (n : Nat) : (s.fallbackAnswered n).mem = s.mem := by
  simp [State.fallbackAnswered]
@[simp] theorem State.fallbackHoldEnd_mem (s : State) (n : Nat) : (s.fallbackHoldEnd n).mem = s.mem := by
  simp [State.fallbackHoldEnd]
@[simp] theorem State.lockTimeout_mem (s : State) (n : Nat) : (s.lockTimeout n).mem = s.mem := by
  unfold State.lockTimeout
  split <;> simp
@[simp] theorem State.leave_mem (s : State) (n reason : Nat) : (s.leave n reason).mem = s.mem := by simp [State.leave]
@[simp] theorem State.rowLoss_mem (s : State) (n : Nat) : (s.rowLoss n).mem = s.mem := by simp [State.rowLoss]

/-! Spares -/

@[simp] theorem State.noSpare_mem (s : State) (h : Nat) : (s.noSpare h).mem = s.mem := by simp [State.noSpare]
@[simp] theorem State.nameSpare_mem (s : State) (h l n cause : Nat) : (s.nameSpare h l n cause).mem = s.mem := by
  simp [State.nameSpare]
@[simp] theorem State.askSpare_mem (s : State) (l n cause : Nat) : (s.askSpare l n cause).mem = s.mem := by
  simp [State.askSpare]
@[simp] theorem State.sendSpareReq_mem (s : State) (h l n cause : Nat) :
    (s.sendSpareReq h l n cause).mem = s.mem := by simp [State.sendSpareReq]
@[simp] theorem State.takeOver_mem (s : State) (src dst : Nat) : (s.takeOver src dst).mem = s.mem := by
  simp [State.takeOver]
@[simp] theorem State.shadowSpare_mem (s : State) (h : Nat) : (s.shadowSpare h).mem = s.mem := by
  simp [State.shadowSpare]
@[simp] theorem State.grantSpare_mem (s : State) (h : Nat) : (s.grantSpare h).mem = s.mem := by simp [State.grantSpare]
@[simp] theorem State.unshadowSpare_mem (s : State) (h : Nat) : (s.unshadowSpare h).mem = s.mem := by
  simp [State.unshadowSpare]
@[simp] theorem State.spareRefused_mem (s : State) (h res : Nat) : (s.spareRefused h res).mem = s.mem := by
  simp [State.spareRefused]
@[simp] theorem State.releaseRefused_mem (s : State) (h : Nat) : (s.releaseRefused h).mem = s.mem := by
  simp [State.releaseRefused]
@[simp] theorem State.spareRsp_mem (s : State) (h l res : Nat) : (s.spareRsp h l res).mem = s.mem := by
  simp [State.spareRsp]
@[simp] theorem State.spareRspTimeout_mem (s : State) (h : Nat) : (s.spareRspTimeout h).mem = s.mem := by
  simp [State.spareRspTimeout]
@[simp] theorem State.spareTrack_mem (s : State) (h offset : Nat) : (s.spareTrack h offset).mem = s.mem := by
  simp [State.spareTrack]
@[simp] theorem State.spareActive_mem (s : State) (h : Nat) : (s.spareActive h).mem = s.mem := by
  simp [State.spareActive]
@[simp] theorem State.spareProgress_mem (s : State) (h : Nat) : (s.spareProgress h).mem = s.mem := by
  simp [State.spareProgress]
@[simp] theorem State.spareSwitch_mem (s : State) (h : Nat) : (s.spareSwitch h).mem = s.mem := by
  simp [State.spareSwitch]
@[simp] theorem State.spareRxOn_mem (s : State) (h l : Nat) (uses : Bool) : (s.spareRxOn h l uses).mem = s.mem := by
  simp [State.spareRxOn]
@[simp] theorem State.answerSpare_mem (s : State) (h l res : Nat) : (s.answerSpare h l res).mem = s.mem := by
  simp [State.answerSpare]
@[simp] theorem State.spareReq_mem (s : State) (h l n : Nat) : (s.spareReq h l n).mem = s.mem := by
  simp [State.spareReq]
@[simp] theorem State.arbitrate_mem (s : State) (h : Nat) : (s.arbitrate h).mem = s.mem := by
  simp only [State.arbitrate]
  (repeat' split) <;> simp
@[simp] theorem State.spareDrip_mem (s : State) (h : Nat) : (s.spareDrip h).mem = s.mem := by simp [State.spareDrip]
@[simp] theorem State.spareManual_mem (s : State) (l : Nat) : (s.spareManual l).mem = s.mem := by
  unfold State.spareManual
  split <;> simp
@[simp] theorem State.spareRelease_mem (s : State) (h : Nat) : (s.spareRelease h).mem = s.mem := by
  simp [State.spareRelease]
@[simp] theorem State.spareTimeout_mem (s : State) (h : Nat) : (s.spareTimeout h).mem = s.mem := by
  simp [State.spareTimeout]
@[simp] theorem State.laneHealth_mem (s : State) (n : Nat) (counts : List Nat) :
    (s.laneHealth n counts).mem = s.mem := by simp [State.laneHealth]
@[simp] theorem State.windowLane_mem (s : State) (l : Nat) : (s.windowLane l).mem = s.mem := by
  unfold State.windowLane
  split <;> simp
@[simp] theorem State.spareWindow_mem (s : State) : s.spareWindow.mem = s.mem := by simp [State.spareWindow]
@[simp] theorem State.sliceLowSpare_mem (s : State) (ls : Nat) : (s.sliceLowSpare ls).mem = s.mem := by
  unfold State.sliceLowSpare
  (repeat' split) <;> simp
@[simp] theorem State.sparePowerUp_mem (s : State) (h : Nat) : (s.sparePowerUp h).mem = s.mem := by
  simp [State.sparePowerUp]

/-! Surplus slots -/

@[simp] theorem State.sendSlot_mem (s : State) (n : Nat) (h payload : List Nat) (pcrc : Bool) :
    (s.sendSlot n h payload pcrc).mem = s.mem := by simp [State.sendSlot]
@[simp] theorem State.qCompare_mem (s : State) (n : Nat) : (s.qCompare n).mem = s.mem := by simp [State.qCompare]
@[simp] theorem State.qSample_mem (s : State) (n : Nat) : (s.qSample n).mem = s.mem := by
  simp -implicitDefEqProofs [State.qSample]
@[simp] theorem State.ageQueues_mem (s : State) (n young : Nat) : (s.ageQueues n young).mem = s.mem := by
  simp [State.ageQueues]
@[simp] theorem State.refillPort_mem (s : State) (n : Nat) : (s.refillPort n).mem = s.mem := by simp [State.refillPort]
@[simp] theorem State.refillView_mem (s : State) (v : Nat) : (s.refillView v).mem = s.mem := by simp [State.refillView]
@[simp] theorem State.showTokens_mem (s : State) (n : Nat) : (s.showTokens n).mem = s.mem := by simp [State.showTokens]
@[simp] theorem State.sendErrata_mem (s : State) (n : Nat) : (s.sendErrata n).mem = s.mem := by simp [State.sendErrata]
@[simp] theorem State.sendHoldReqs_mem (s : State) (n : Nat) : (s.sendHoldReqs n).mem = s.mem := by
  simp [State.sendHoldReqs]
@[simp] theorem State.sendGone_mem (s : State) (n : Nat) (q : RplReq) (reason : Nat) :
    (s.sendGone n q reason).mem = s.mem := by simp [State.sendGone]
@[simp] theorem State.sendBody_mem (s : State) (n : Nat) (q : RplReq) (e : RplEntry) :
    (s.sendBody n q e).mem = s.mem := by simp [State.sendBody]
@[simp] theorem State.sendReplay_mem (s : State) (n undecoded : Nat) (q : RplReq) (ecc : Ecc) :
    (s.sendReplay n undecoded q ecc).mem = s.mem := by
  simp only [State.sendReplay]
  (repeat' split) <;> simp
@[simp] theorem State.sendNotice_mem (s : State) (n : Nat) : (s.sendNotice n).mem = s.mem := by simp [State.sendNotice]
@[simp] theorem State.sendMessage_mem (s : State) (n : Nat) (i : C3Item) : (s.sendMessage n i).mem = s.mem := by
  unfold State.sendMessage
  split <;> simp
@[simp] theorem State.sendChunk_mem (s : State) (n : Nat) (c : List Nat) : (s.sendChunk n c).mem = s.mem := by
  simp [State.sendChunk]
@[simp] theorem State.sendFill_mem (s : State) (n : Nat) : (s.sendFill n).mem = s.mem := by simp [State.sendFill]
@[simp] theorem State.sendLow_mem (s : State) (n : Nat) : (s.sendLow n).mem = s.mem := by
  unfold State.sendLow
  split <;> simp
@[simp] theorem State.sendClass3_mem (s : State) (n : Nat) (ecc : Ecc) : (s.sendClass3 n ecc).mem = s.mem := by
  unfold State.sendClass3
  (repeat' split) <;> simp
@[simp] theorem State.sendUpper_mem (s : State) (n : Nat) (ecc : Ecc) : (s.sendUpper n ecc).mem = s.mem := by
  simp [State.sendUpper]
@[simp] theorem State.chooseSlot_mem (s : State) (n young undecoded : Nat) (ecc : Ecc) :
    (s.chooseSlot n young undecoded ecc).mem = s.mem := by
  simp only [State.chooseSlot]
  (repeat' split) <;> simp
@[simp] theorem State.slotDecision_mem (s : State) (n young undecoded unsent : Nat) (ecc : Ecc) :
    (s.slotDecision n young undecoded unsent ecc).mem = s.mem := by simp [State.slotDecision]
@[simp] theorem State.errDeadline_mem (s : State) (n : Nat) : (s.errDeadline n).mem = s.mem := by
  simp [State.errDeadline]
@[simp] theorem State.endHold_mem (s : State) (n : Nat) (q : HoldReq) : (s.endHold n q).mem = s.mem := by
  simp [State.endHold]
@[simp] theorem State.putBody_mem (s : State) (n : Nat) (q : HoldReq) (body : List Nat) (info : FlitInfo) :
    (s.putBody n q body info).mem = s.mem := by simp [State.putBody]
@[simp] theorem State.holdAnswer_mem (s : State) (n : Nat) (slot : List Nat) (arr : BodyArrival) :
    (s.holdAnswer n slot arr).mem = s.mem := by
  simp only [State.holdAnswer]
  split <;> simp
@[simp] theorem State.takeRequests_mem (s : State) (n : Nat) (slot : List Nat) :
    (s.takeRequests n slot).mem = s.mem := by simp [State.takeRequests]
@[simp] theorem State.clrSlotCnt_mem (s : State) : s.clrSlotCnt.mem = s.mem := by simp [State.clrSlotCnt]

/-! Clocks and the timebase -/

@[simp] theorem State.switchDomains_mem (s : State) : s.switchDomains.mem = s.mem := by simp [State.switchDomains]
@[simp] theorem State.sourceBack_mem (s : State) (src : Nat) : (s.sourceBack src).mem = s.mem := by
  simp [State.sourceBack]
@[simp] theorem State.pllLock_mem (s : State) (p : Pll) : (s.pllLock p).mem = s.mem := by
  cases p <;> simp [State.pllLock]
@[simp] theorem State.setCoreRef_mem (s : State) (req v : Nat) : (s.setCoreRef req v).mem = s.mem := by
  simp [State.setCoreRef]
@[simp] theorem State.setQuadRef_mem (s : State) (f lock : Fld) (req : Nat) (v : Bool) :
    (s.setQuadRef f lock req v).mem = s.mem := by simp [State.setQuadRef]
@[simp] theorem State.clocksDown_mem (s : State) : s.clocksDown.mem = s.mem := by simp [State.clocksDown]
@[simp] theorem State.unalign_mem (s : State) : s.unalign.mem = s.mem := by simp [State.unalign]
@[simp] theorem State.lossReaction_mem (s : State) (src : Nat) : (s.lossReaction src).mem = s.mem := by
  simp [State.lossReaction]
@[simp] theorem State.sourceLoss_mem (s : State) (src : Nat) : (s.sourceLoss src).mem = s.mem := by
  simp [State.sourceLoss]
@[simp] theorem State.coreRestart_mem (s : State) (cycles : Nat) : (s.coreRestart cycles).mem = s.mem := by
  simp [State.coreRestart]
@[simp] theorem State.fmStart_mem (s : State) : s.fmStart.mem = s.mem := by simp [State.fmStart]
@[simp] theorem State.fmEnd_mem (s : State) (count : Nat) : (s.fmEnd count).mem = s.mem := by simp [State.fmEnd]
@[simp] theorem State.tsyncEdge_mem (s : State) (arrived : Int) : (s.tsyncEdge arrived).mem = s.mem := by
  simp [State.tsyncEdge]
@[simp] theorem State.tsyncMiss_mem (s : State) : s.tsyncMiss.mem = s.mem := by
  unfold State.tsyncMiss
  split <;> simp
@[simp] theorem State.beaconAlign_mem (s : State) (d : Nat) : (s.beaconAlign d).mem = s.mem := by
  simp [State.beaconAlign]
@[simp] theorem State.setTsyncMode_mem (s : State) (v : Nat) : (s.setTsyncMode v).mem = s.mem := by
  simp [State.setTsyncMode]
@[simp] theorem State.advanceDrip_mem (s : State) : s.advanceDrip.mem = s.mem := by simp [State.advanceDrip]
@[simp] theorem State.armSlot_mem (s : State) (req k : Nat) : (s.armSlot req k).mem = s.mem := by simp [State.armSlot]
@[simp] theorem State.cancelSlot_mem (s : State) (k : Nat) : (s.cancelSlot k).mem = s.mem := by simp [State.cancelSlot]
@[simp] theorem State.slotCtl_mem (s : State) (req k : Nat) (arm cancel : Bool) :
    (s.slotCtl req k arm cancel).mem = s.mem := by simp [State.slotCtl]
@[simp] theorem State.clrClkCnt_mem (s : State) : s.clrClkCnt.mem = s.mem := by simp [State.clrClkCnt]

/-! Power and calibration -/

@[simp] theorem State.railSample_mem (s : State) (ok warn : Fld) (inst v lo hi bad : Nat) (compare : Bool) :
    (s.railSample ok warn inst v lo hi bad compare).mem = s.mem := by simp [State.railSample]
@[simp] theorem State.rails_mem (s : State) (vddc vdda vddh : Nat) (early : Bool) :
    (s.rails vddc vdda vddh early).mem = s.mem := by simp [State.rails]
@[simp] theorem State.avsTarget_mem (s : State) (mv : Nat) : (s.avsTarget mv).mem = s.mem := by simp [State.avsTarget]
@[simp] theorem State.avsCommand_mem (s : State) : s.avsCommand.mem = s.mem := by simp [State.avsCommand]
@[simp] theorem State.avsFault_mem (s : State) : s.avsFault.mem = s.mem := by simp [State.avsFault]
@[simp] theorem State.setAvsEn_mem (s : State) (on : Bool) : (s.setAvsEn on).mem = s.mem := by simp [State.setAvsEn]
@[simp] theorem State.gateQuad_mem (s : State) (q : Nat) : (s.gateQuad q).mem = s.mem := by simp [State.gateQuad]
@[simp] theorem State.bifurQuad_mem (s : State) (req q new : Nat) : (s.bifurQuad req q new).mem = s.mem := by
  simp [State.bifurQuad]
@[simp] theorem State.askUngate_mem (s : State) (qs : List Nat) : (s.askUngate qs).mem = s.mem := by
  simp -implicitDefEqProofs [State.askUngate]
@[simp] theorem State.dropViews_mem (s old : State) : (s.dropViews old).mem = s.mem := by simp [State.dropViews]
@[simp] theorem State.quadUngate_mem (s : State) (q : Nat) : (s.quadUngate q).mem = s.mem := by simp [State.quadUngate]
@[simp] theorem State.condEnd_mem (s : State) (src : Nat) : (s.condEnd src).mem = s.mem := by simp [State.condEnd]
@[simp] theorem State.thermCompare_mem (s : State) (now sticky : Fld) (src : Nat) (limit tmax : Int) (hot : Nat) :
    (s.thermCompare now sticky src limit tmax hot).mem = s.mem := by simp [State.thermCompare]
@[simp] theorem State.tripGone_mem (s : State) : s.tripGone.mem = s.mem := by simp [State.tripGone]
@[simp] theorem State.sensor_mem (s : State) (k : Nat) (t : Int) : (s.sensor k t).mem = s.mem := by simp [State.sensor]
@[simp] theorem State.temperatures_mem (s : State) (temps : List Int) : (s.temperatures temps).mem = s.mem := by
  simp [State.temperatures]
@[simp] theorem State.thermalTrip_mem (s : State) : s.thermalTrip.mem = s.mem := by simp [State.thermalTrip]
@[simp] theorem State.startCal_mem (s : State) (q zref : Nat) (startup : Bool) :
    (s.startCal q zref startup).mem = s.mem := by simp [State.startCal]
@[simp] theorem State.correct_mem (s : State) (q ls : Nat) : (s.correct q ls).mem = s.mem := by simp [State.correct]
@[simp] theorem State.calSlice_mem (s : State) (q ls : Nat) : (s.calSlice q ls).mem = s.mem := by
  simp only [State.calSlice]
  (repeat' split) <;> simp
@[simp] theorem State.calLeg_mem (s : State) (q ls : Nat) : (s.calLeg q ls).mem = s.mem := by simp [State.calLeg]
@[simp] theorem State.calLane_mem (s : State) (q ls : Nat) : (s.calLane q ls).mem = s.mem := by simp [State.calLane]
@[simp] theorem State.calDrip_mem (s : State) (q zref : Nat) (slip : Bool) : (s.calDrip q zref slip).mem = s.mem := by
  simp [State.calDrip]
@[simp] theorem State.rampDrip_mem (s : State) : s.rampDrip.mem = s.mem := by simp [State.rampDrip]
@[simp] theorem State.calEnd_mem (s : State) (q : Nat) : (s.calEnd q).mem = s.mem := by simp [State.calEnd]
@[simp] theorem State.calRequest_mem (s : State) (q : Nat) : (s.calRequest q).mem = s.mem := by simp [State.calRequest]
@[simp] theorem State.calRun_mem (s : State) (mask : Nat) : (s.calRun mask).mem = s.mem := by simp [State.calRun]
@[simp] theorem State.failLeg_mem (s : State) (ls k : Nat) : (s.failLeg ls k).mem = s.mem := by simp [State.failLeg]
@[simp] theorem State.clrPwrCnt_mem (s : State) : s.clrPwrCnt.mem = s.mem := by
  simp -implicitDefEqProofs [State.clrPwrCnt]
@[simp] theorem State.secureGate_mem (s : State) (gate : Bool) : (s.secureGate gate).mem = s.mem := by
  simp [State.secureGate]
@[simp] theorem State.secureRelease_mem (s : State) : s.secureRelease.mem = s.mem := by
  simp only [State.secureRelease]
  split <;> simp

/-! The management bus -/

@[simp] theorem State.takeAddr_mem (s : State) (a : Nat) : (s.takeAddr a).mem = s.mem := by simp [State.takeAddr]
@[simp] theorem State.ccc_mem (s : State) (k : State → State)
    (hk : ∀ a, (k a).mem = a.mem) :
    (s.ccc k).mem = s.mem := by simp [State.ccc, hk]
@[simp] theorem State.cccRead_mem (s : State) (bytes : List Nat) : (s.cccRead bytes).mem = s.mem := by
  simp -implicitDefEqProofs [State.cccRead]
@[simp] theorem State.pktRead_mem (s : State) (p : BusPkt) : (s.pktRead p).mem = s.mem := by
  unfold State.pktRead
  split <;> simp
@[simp] theorem State.dropOldest_mem (s : State) (smbus : Bool) : (s.dropOldest smbus).mem = s.mem := by
  unfold State.dropOldest
  (repeat' split) <;> simp
@[simp] theorem State.readPkt_mem (s : State) (smbus refused : Bool) : (s.readPkt smbus refused).mem = s.mem := by
  unfold State.readPkt
  split <;> simp
@[simp] theorem State.heard_mem (s : State) (k : State → State)
    (hk : ∀ a, (k a).mem = a.mem) :
    (s.heard k).mem = s.mem := by simp [State.heard, hk]
@[simp] theorem State.mctpAnswer_mem (s : State) (src tag code : Nat) (bytes : List Nat) :
    (s.mctpAnswer src tag code bytes).mem = s.mem := by simp [State.mctpAnswer]

/-! Reads at an address -/

@[simp] theorem State.readReg_mem (s : State) (req addr ns : Nat) (r : Reg) (i : Nat) :
    (s.readReg req addr ns r i).2.mem = s.mem := by
  unfold State.readReg
  (repeat' split) <;> simp
@[simp] theorem State.readWindow_mem (s : State) (w : Window) (addr : Nat) : (s.readWindow w addr).2.mem = s.mem := by
  unfold State.readWindow
  split <;> simp
@[simp] theorem State.readWord_mem (s : State) (req addr ns : Nat) : (s.readWord req addr ns).2.mem = s.mem := by
  unfold State.readWord
  (repeat' split) <;> simp

/-! The configuration tally -/

@[simp] theorem State.passStart_mem (s : State) : s.passStart.mem = s.mem := by simp [State.passStart]
@[simp] theorem State.passCompare_mem (s : State) (lrun : Bool) : (s.passCompare lrun).mem = s.mem := by
  simp [State.passCompare]
@[simp] theorem State.passEnd_mem (s : State) : s.passEnd.mem = s.mem := by
  unfold State.passEnd
  split
  · rfl
  · dsimp only
    split <;> simp -implicitDefEqProofs
@[simp] theorem State.passDrip_mem (s : State) : s.passDrip.mem = s.mem := by
  unfold State.passDrip
  split <;> simp
@[simp] theorem State.takeRef_mem (s : State) (v : Nat) : (s.takeRef v).mem = s.mem := by simp [State.takeRef]
@[simp] theorem State.commit_mem (s : State) : (s.commit).2.mem = s.mem := by
  unfold State.commit
  split <;> simp
@[simp] theorem State.adopt_mem (s : State) : s.adopt.mem = s.mem := by simp [State.adopt]
@[simp] theorem State.tallySnap_mem (s : State) : s.tallySnap.mem = s.mem := by simp [State.tallySnap]
@[simp] theorem State.askCommit_mem (s : State) : s.askCommit.mem = s.mem := by simp [State.askCommit]
@[simp] theorem State.askAdopt_mem (s : State) : s.askAdopt.mem = s.mem := by simp [State.askAdopt]

/-! Resets and update control -/

@[simp] theorem State.showFlash_mem (s : State) : s.showFlash.mem = s.mem := by
  unfold State.showFlash
  split <;> simp
@[simp] theorem State.flashWrite_mem (s : State) (k : Flash → Flash) : (s.flashWrite k).2.mem = s.mem := by
  unfold State.flashWrite
  (repeat' split) <;> simp
@[simp] theorem State.compactLog_mem (s : State) : s.compactLog.mem = s.mem := by
  unfold State.compactLog
  split <;> simp
@[simp] theorem State.compactFw_mem (s : State) : s.compactFw.mem = s.mem := by simp [State.compactFw]
@[simp] theorem State.appendLog_mem (s : State) (t : RecType) (comp b : Nat) :
    (s.appendLog t comp b).mem = s.mem := by simp [State.appendLog]
@[simp] theorem State.bootErr_mem (s : State) (code comp b : Nat) : (s.bootErr code comp b).mem = s.mem := by
  simp [State.bootErr]
@[simp] theorem State.reportRevert_mem (s : State) (comp b : Nat) : (s.reportRevert comp b).mem = s.mem := by
  simp [State.reportRevert]
@[simp] theorem State.openWindow_mem (s : State) (byAct : Bool) : (s.openWindow byAct).mem = s.mem := by
  simp [State.openWindow]
@[simp] theorem State.closeWindow_mem (s : State) : s.closeWindow.mem = s.mem := by simp [State.closeWindow]
@[simp] theorem State.windowDrip_mem (s : State) (advance : Nat) : (s.windowDrip advance).mem = s.mem := by
  unfold State.windowDrip
  split <;> simp
@[simp] theorem State.applyChoice_mem (s : State) (comp : Nat) (c : Choice) : (s.applyChoice comp c).mem = s.mem := by
  unfold State.applyChoice
  (repeat' split) <;> simp
@[simp] theorem State.keepPins_mem (t s : State) (por : Bool) : (State.keepPins t s por).mem = t.mem := by
  simp -implicitDefEqProofs [State.keepPins]
@[simp] theorem State.rehand_mem (s : State) (v : Nat) : (s.rehand v).mem = s.mem := by simp [State.rehand]
@[simp] theorem State.busRestart_mem (s : State) : s.busRestart.mem = s.mem := by simp [State.busRestart]
@[simp] theorem State.bootRecovery_mem (s : State) : s.bootRecovery.mem = s.mem := by simp [State.bootRecovery]
@[simp] theorem State.armFree_mem (s : State) (action arg target : Nat) :
    (s.armFree action arg target).2.mem = s.mem := by
  unfold State.armFree
  split <;> simp
@[simp] theorem State.firmwareRuns_mem (s : State) : s.firmwareRuns.mem = s.mem := by simp [State.firmwareRuns]
@[simp] theorem State.confirmTrials_mem (s : State) : s.confirmTrials.mem = s.mem := by simp [State.confirmTrials]
@[simp] theorem State.reactivate_mem (s : State) : s.reactivate.mem = s.mem := by
  refine forEach_mem _ _ fun comp a => ?_
  split <;> simp
@[simp] theorem State.beginLoad_mem (s : State) : s.beginLoad.mem = s.mem := by
  simp only [State.beginLoad]
  split <;> simp
@[simp] theorem State.continueHold_mem (s : State) : s.continueHold.mem = s.mem := by simp [State.continueHold]
@[simp] theorem State.clrBootCnt_mem (s : State) : s.clrBootCnt.mem = s.mem := by simp [State.clrBootCnt]

/-! Mirrors -/

@[simp] theorem State.refreshReg_mem (s : State) (m : Reg × Nat) : (s.refreshReg m).mem = s.mem := by
  simp -implicitDefEqProofs [State.refreshReg]
@[simp] theorem State.ageReg_mem (s : State) (m : Reg × Nat) : (s.ageReg m).mem = s.mem := by simp [State.ageReg]
@[simp] theorem State.ageMirrors_mem (s : State) : s.ageMirrors.mem = s.mem := by simp [State.ageMirrors]
@[simp] theorem State.mirrorRefresh_mem (s : State) (u : MirrorUnit) : (s.mirrorRefresh u).mem = s.mem := by
  unfold State.mirrorRefresh
  (repeat' split) <;> simp

/-! Writes of registers -/

@[simp] theorem State.writeField_mem (s : State) (own : Option Fld) (req addr val i : Nat) (f : Fld) :
    (s.writeField own req addr val i f).mem = s.mem := by
  unfold State.writeField
  (repeat' split) <;> simp
@[simp] theorem State.writeFields_mem (s : State) (r : Reg) (req addr val i : Nat) :
    (s.writeFields r req addr val i).mem = s.mem := by simp [State.writeFields]
@[simp] theorem State.overrideCoefs_mem (s : State) (ls : Nat) (was : Bool) :
    (s.overrideCoefs ls was).mem = s.mem := by simp [State.overrideCoefs]
@[simp] theorem State.portCfgActs_mem (s : State) (n : Nat) (comp prsnt : Bool) :
    (s.portCfgActs n comp prsnt).mem = s.mem := by simp [State.portCfgActs]
@[simp] theorem State.capCtl_mem (s : State) (n val : Nat) : (s.capCtl n val).mem = s.mem := by simp [State.capCtl]
@[simp] theorem State.viewCtl_mem (s : State) (req v val : Nat) : (s.viewCtl req v val).mem = s.mem := by
  simp [State.viewCtl]
@[simp] theorem State.stage_mem (s : State) (addr val : Nat) : (s.stage addr val).mem = s.mem := by simp [State.stage]
@[simp] theorem State.movePair_mem (s : State) (lo hi : Reg) (req addr val i : Nat) :
    (s.movePair lo hi req addr val i).mem = s.mem := by
  simp only [State.movePair]
  split <;> simp
@[simp] theorem State.compatBuffer_mem (s : State) (r : Reg) (req addr val : Nat) :
    (s.compatBuffer r req addr val).mem = s.mem := by simp [State.compatBuffer]
@[simp] theorem State.compatPortCfg_mem (s : State) (n val : Nat) : (s.compatPortCfg n val).mem = s.mem := by
  simp [State.compatPortCfg]
@[simp] theorem State.compatApply_mem (s : State) (addr val : Nat) : (s.compatApply addr val).mem = s.mem := by
  unfold State.compatApply
  (repeat' split) <;> simp
@[simp] theorem State.compatDrain_mem (s : State) : s.compatDrain.mem = s.mem := by simp [State.compatDrain]
@[simp] theorem State.busRead_mem (s : State) (r : Requester) (addr ns : Nat) :
    (s.busRead r addr ns).mem = s.mem := by
  unfold State.busRead
  split
  · rfl
  · have h := s.readWord_mem (reqCode r) addr ns
    split <;> simp_all

/-! The management protocol -/

@[simp] theorem State.visited_mem (s : State) (next : List Nat) : (s.visited next).mem = s.mem := by
  simp [State.visited]
@[simp] theorem State.kept_mem (s : State) (v slot : Nat) : (s.kept v slot).2.mem = s.mem := by
  unfold State.kept
  split <;> simp
@[simp] theorem State.ueAt_mem (s : State) (a : Nat) : (s.ueAt a).mem = s.mem := by
  unfold State.ueAt
  split <;> simp
@[simp] theorem serveReads_mem (ns : Nat) (l : List (Nat × Nat)) (ue : List Nat) (s : State) :
    (serveReads ns l ue s).2.2.mem = s.mem := by
  induction l generalizing s with
  | nil => rfl
  | cons x t ih =>
    unfold serveReads
    have h := s.readWord_mem 0 x.2 ns
    split
    · simp
    · split <;> simp_all
@[simp] theorem State.resyncBytes_mem (s : State) (v slot : Nat) : (s.resyncBytes v slot).2.mem = s.mem := by
  simp [State.resyncBytes]

/-! Start-up -/

@[simp] theorem State.readFlash_mem (s : State) (f : Flash) : (s.readFlash f).mem = s.mem := by simp [State.readFlash]
@[simp] theorem State.recover_mem (s : State) : s.recover.mem = s.mem := by simp [State.recover]
@[simp] theorem State.chooseBanks_mem (s : State) (f : Flash) : (s.chooseBanks f).mem = s.mem := by
  simp [State.chooseBanks]
@[simp] theorem State.endStage3_mem (s : State) (seen : FlashSeen) : (s.endStage3 seen).mem = s.mem := by
  unfold State.endStage3
  split <;> simp
@[simp] theorem State.endStage4_mem (s : State) : s.endStage4.mem = s.mem := by
  simp only [State.endStage4]
  (repeat' split) <;> simp
@[simp] theorem State.endStage5_mem (s : State) : s.endStage5.mem = s.mem := by
  unfold State.endStage5
  (repeat' split) <;> simp
@[simp] theorem State.endStage6_mem (s : State) : s.endStage6.mem = s.mem := by
  unfold State.endStage6
  split <;> simp
@[simp] theorem State.applyWidth_mem (s : State) : s.applyWidth.mem = s.mem := by
  unfold State.applyWidth
  split
  · simp -implicitDefEqProofs
  · rfl
@[simp] theorem State.applyLocks_mem (s : State) : s.applyLocks.mem = s.mem := by
  refine forEach_mem _ _ fun r a => ?_
  split <;> simp
@[simp] theorem State.releaseNext_mem (k : Nat) (s : State) : (State.releaseNext k s).mem = s.mem := by
  induction k generalizing s with
  | zero => rfl
  | succ k ih => unfold State.releaseNext; split <;> simp [ih]
@[simp] theorem State.releaseDrip_mem (s : State) : s.releaseDrip.mem = s.mem := by simp [State.releaseDrip]
@[simp] theorem State.releasePorts_mem (s : State) (us : Nat) : (s.releasePorts us).mem = s.mem := by
  simp [State.releasePorts]

/-! Firmware update -/

@[simp] theorem State.modPldm_mem (s : State) (f : PldmSt → PldmSt) : (s.modPldm f).mem = s.mem := by
  simp [State.modPldm]
@[simp] theorem State.setPstate_mem (s : State) (v : Nat) : (s.setPstate v).mem = s.mem := by simp [State.setPstate]
@[simp] theorem State.pldmSend_mem (s : State) (dest cmd : Nat) (req : Bool) (bytes : List Nat) :
    (s.pldmSend dest cmd req bytes).mem = s.mem := by simp [State.pldmSend]
@[simp] theorem State.pldmTake_mem (s : State) (k : State → State)
    (hk : ∀ a, (k a).mem = a.mem) :
    (s.pldmTake k).mem = s.mem := by simp [State.pldmTake, hk]
@[simp] theorem State.pldmIn_mem (s : State) (src cmd : Nat) (ok : Nat → Bool) (k : State → State)
    (hk : ∀ a, (k a).mem = a.mem) :
    (s.pldmIn src cmd ok k).mem = s.mem := by simp [State.pldmIn, hk]
@[simp] theorem State.pldmOwn_mem (s : State) (src st : Nat) (k : State → State)
    (hk : ∀ a, (k a).mem = a.mem) :
    (s.pldmOwn src st k).mem = s.mem := by simp [State.pldmOwn, hk]
@[simp] theorem State.endComponent_mem (s : State) (res : Nat) : (s.endComponent res).mem = s.mem := by
  simp [State.endComponent]
@[simp] theorem State.abortComponent_mem (s : State) (res : Nat) : (s.abortComponent res).mem = s.mem := by
  simp [State.abortComponent]
@[simp] theorem State.abortUpdate_mem (s : State) (res : Nat) : (s.abortUpdate res).mem = s.mem := by
  simp [State.abortUpdate]
@[simp] theorem State.requestUpdate_mem (s : State) (src maxXfer : Nat) :
    (s.requestUpdate src maxXfer).mem = s.mem := by simp [State.requestUpdate]
@[simp] theorem State.askPiece_mem (s : State) : s.askPiece.mem = s.mem := by simp [State.askPiece]
@[simp] theorem State.startDownload_mem (s : State) (comp size : Nat) : (s.startDownload comp size).mem = s.mem := by
  simp [State.startDownload]
@[simp] theorem State.updateComponent_mem (s : State) (src comp size : Nat) :
    (s.updateComponent src comp size).mem = s.mem := by simp [State.updateComponent]
@[simp] theorem State.pieceArrives_mem (s : State) (bytes : List Nat) : (s.pieceArrives bytes).mem = s.mem := by
  simp [State.pieceArrives]
@[simp] theorem State.learnCrypto_mem (s : State) (c : Crypto) : (s.learnCrypto c).mem = s.mem := by
  simp [State.learnCrypto]
@[simp] theorem State.verifyEnds_mem (s : State) (src : Nat) (crypto : Crypto) (certOk : Bool) :
    (s.verifyEnds src crypto certOk).mem = s.mem := by simp [State.verifyEnds]
@[simp] theorem State.applyComponent_mem (s : State) (comp : Nat) (ok : Bool) :
    (s.applyComponent comp ok).2.mem = s.mem := by
  unfold State.applyComponent
  (repeat' split) <;> simp
@[simp] theorem State.applyEnds_mem (s : State) (src : Nat) (ok : Bool) : (s.applyEnds src ok).mem = s.mem := by
  simp [State.applyEnds]
@[simp] theorem State.activateFirmware_mem (s : State) (src : Nat) (own : Bool) :
    (s.activateFirmware src own).mem = s.mem := by
  simp only [State.activateFirmware]
  split <;> simp

/-! The drip boundary -/

@[simp] theorem State.slotDone_mem (s : State) (k result failq : Nat) : (s.slotDone k result failq).mem = s.mem := by
  simp [State.slotDone]
@[simp] theorem State.slotsDone_mem (s : State) (ks : List Nat) (ok : Bool) : (s.slotsDone ks ok).mem = s.mem := by
  simp [State.slotsDone]
@[simp] theorem State.commitDrip_mem (s : State) : s.commitDrip.mem = s.mem := by simp [State.commitDrip]
@[simp] theorem State.snapDrip_mem (s : State) : s.snapDrip.mem = s.mem := by simp [State.snapDrip]
@[simp] theorem State.bankDrip_mem (s : State) : s.bankDrip.mem = s.mem := by simp [State.bankDrip]
@[simp] theorem State.heatDrip_mem (s : State) : s.heatDrip.mem = s.mem := by simp [State.heatDrip]
@[simp] theorem State.retrainDrip_mem (s : State) : s.retrainDrip.mem = s.mem := by simp [State.retrainDrip]
@[simp] theorem State.phraseDrip_mem (s : State) (d : DripIn) : (s.phraseDrip d).mem = s.mem := by
  simp [State.phraseDrip]
@[simp] theorem State.pulseDrip_mem (s : State) : s.pulseDrip.mem = s.mem := by simp [State.pulseDrip]
@[simp] theorem State.sliceDrip_mem (s : State) (ls k : Nat) : (s.sliceDrip ls k).mem = s.mem := by
  simp [State.sliceDrip]
@[simp] theorem State.laneDrip_mem (s : State) (d : DripIn) : (s.laneDrip d).mem = s.mem := by simp [State.laneDrip]
@[simp] theorem State.lwdogDrip_mem (s : State) : s.lwdogDrip.mem = s.mem := by simp [State.lwdogDrip]
@[simp] theorem State.scrubDrip_mem (s : State) : s.scrubDrip.mem = s.mem := by simp [State.scrubDrip]
@[simp] theorem State.safeDrip_mem (s : State) : s.safeDrip.mem = s.mem := by simp [State.safeDrip]
@[simp] theorem State.aliveDrip_mem (s : State) : s.aliveDrip.mem = s.mem := by simp [State.aliveDrip]
@[simp] theorem State.downDrip_mem (s : State) : s.downDrip.mem = s.mem := by simp [State.downDrip]
@[simp] theorem State.misCompare_mem (s : State) (unit i : Nat) : (s.misCompare unit i).mem = s.mem := by
  simp [State.misCompare]
@[simp] theorem State.misDrip_mem (s : State) : s.misDrip.mem = s.mem := by simp [State.misDrip]
@[simp] theorem State.sumpDrip_mem (s : State) : s.sumpDrip.mem = s.mem := by simp [State.sumpDrip]
@[simp] theorem State.dripStart_mem (s : State) : s.dripStart.mem = s.mem := by simp [State.dripStart]
@[simp] theorem State.dripEnd_mem (s : State) (d : DripIn) : (s.dripEnd d).mem = s.mem := by simp [State.dripEnd]

/-! SPDM -/

@[simp] theorem State.spdmSend_mem (s : State) (src code : Nat) (bytes : List Nat) :
    (s.spdmSend src code bytes).mem = s.mem := by simp [State.spdmSend]
@[simp] theorem State.spdmError_mem (s : State) (src err : Nat) : (s.spdmError src err).mem = s.mem := by
  simp [State.spdmError]
@[simp] theorem State.spdmReq_mem (s : State) (src need : Nat) (k : State → State)
    (hk : ∀ a, (k a).mem = a.mem) :
    (s.spdmReq src need k).mem = s.mem := by simp [State.spdmReq, hk]
@[simp] theorem State.spdmFree_mem (s : State) (src code : Nat) (bytes : List Nat) (n : Nat) :
    (s.spdmFree src code bytes n).mem = s.mem := by simp [State.spdmFree]
@[simp] theorem State.spdmVersion_mem (s : State) (src : Nat) : (s.spdmVersion src).mem = s.mem := by
  simp [State.spdmVersion]
@[simp] theorem State.spdmSign_mem (s : State) (src index : Nat) (chal : Bool) :
    (s.spdmSign src index chal).mem = s.mem := by simp [State.spdmSign]
@[simp] theorem State.spdmMeasure_mem (s : State) (src index n : Nat) : (s.spdmMeasure src index n).mem = s.mem := by
  simp [State.spdmMeasure]
@[simp] theorem State.signDone_mem (s : State) : s.signDone.mem = s.mem := by
  unfold State.signDone
  split <;> simp

end Sys2Proof.Machine
end

section
/-! O4: the operations that write the memories keep their canonical form (R35): each sets bytes, clears a range
or starts from the empty memory. -/
namespace Sys2Proof.Machine

@[simp] theorem Memory.wf_ite (c : Prop) [Decidable c] (a b : SMap Byte) :
    Memory.wf (if c then a else b) = if c then Memory.wf a else Memory.wf b := apply_ite Memory.wf c a b
@[simp] theorem Memory.wf_nil : Memory.wf [] = true := rfl
@[simp] theorem State.wrByte_memWf (s : State) (a : Nat) (b : Byte) (h : Memory.wf s.mem = true) :
    Memory.wf (s.wrByte a b).mem = true := Memory.wf_wrByte s a b h
@[simp] theorem State.wrBytes_memWf (s : State) (a : Nat) (l : List Nat) (h : Memory.wf s.mem = true) :
    Memory.wf (s.wrBytes a l).mem = true := Memory.wf_wrBytes s a l h
@[simp] theorem State.wrWord32_memWf (s : State) (a v : Nat) (h : Memory.wf s.mem = true) :
    Memory.wf (s.wrWord32 a v).mem = true := Memory.wf_wrWord32 s a v h
theorem forUp_memWf {f : Nat → State → State} (n : Nat) (s : State) (h : Memory.wf s.mem = true)
    (hf : ∀ i a, Memory.wf a.mem = true → Memory.wf (f i a).mem = true) : Memory.wf (forUp n f s).mem = true :=
  forUp_keeps (fun a => Memory.wf a.mem = true) n h fun i a _ => hf i a
theorem forEach_memWf {α : Type} {f : α → State → State} (l : List α) (s : State) (h : Memory.wf s.mem = true)
    (hf : ∀ x a, Memory.wf a.mem = true → Memory.wf (f x a).mem = true) : Memory.wf (forEach l f s).mem = true :=
  forEach_keeps (fun a : State => Memory.wf a.mem = true) l h fun x _ => hf x
theorem State.viaBus_memWf (s : State) (r : Requester) {k : State → State} (h : Memory.wf s.mem = true)
    (hk : ∀ a, Memory.wf a.mem = true → Memory.wf (k a).mem = true) : Memory.wf (s.viaBus r k).mem = true := by
  simp [State.viaBus, h, hk]
theorem State.viaCore_memWf (s : State) (r : Requester) {k : State → State} (h : Memory.wf s.mem = true)
    (hk : ∀ a, Memory.wf a.mem = true → Memory.wf (k a).mem = true) : Memory.wf (s.viaCore r k).mem = true := by
  simp [State.viaCore, h, hk]
theorem State.csbMsg_memWf (s : State) (x : CsbHdr) (vc : Nat) {k : State → State} (h : Memory.wf s.mem = true)
    (hk : ∀ a, Memory.wf a.mem = true → Memory.wf (k a).mem = true) : Memory.wf (s.csbMsg x vc k).mem = true := by
  simp [State.csbMsg, State.csbAccept, h, hk]

@[simp] theorem State.capWrite_memWf (s : State) (n : Nat) (h : Memory.wf s.mem = true) :
    Memory.wf (s.capWrite n).mem = true := by
  unfold State.capWrite
  split <;> simp [h]
@[simp] theorem State.capWindow_memWf (s : State) (req addr val : Nat) (h : Memory.wf s.mem = true) :
    Memory.wf (s.capWindow req addr val).mem = true := by
  simp [State.capWindow, h]
@[simp] theorem State.zeroMem_memWf (s : State) (lo n : Nat) (h : Memory.wf s.mem = true) :
    Memory.wf (s.zeroMem lo n).mem = true := Memory.wf_zeroMem s lo n h
@[simp] theorem State.quadReset_memWf (s : State) (req q : Nat) (h : Memory.wf s.mem = true) :
    Memory.wf (s.quadReset req q).mem = true := by simp [State.quadReset, h]
@[simp] theorem State.phraseWrite_memWf (s : State) (req addr val : Nat) (h : Memory.wf s.mem = true) :
    Memory.wf (s.phraseWrite req addr val).mem = true := by simp [State.phraseWrite, h]
@[simp] theorem State.writeEntry_memWf (s : State) (zoom : Bool) (bank i v : Nat) (h : Memory.wf s.mem = true) :
    Memory.wf (s.writeEntry zoom bank i v).mem = true := by simp [State.writeEntry, h]
@[simp] theorem State.mergeEntry_memWf (s : State) (p : Nat) (c : CacheEnt) (ecc : Ecc) (h : Memory.wf s.mem = true) :
    Memory.wf (s.mergeEntry p c ecc).mem = true := by
  unfold State.mergeEntry
  split <;> simp [h]
@[simp] theorem State.writeBack_memWf (s : State) (p : Nat) (ecc : Ecc) (h : Memory.wf s.mem = true) :
    Memory.wf (s.writeBack p ecc).mem = true := by
  unfold State.writeBack
  (repeat' split) <;> simp [h]
@[simp] theorem State.clearBank_memWf (s : State) (b : Nat) (h : Memory.wf s.mem = true) :
    Memory.wf (s.clearBank b).mem = true := by simp [State.clearBank, h]
@[simp] theorem State.startClearing_memWf (s : State) (h : Memory.wf s.mem = true) :
    Memory.wf s.startClearing.mem = true := by
  simp -implicitDefEqProofs [State.startClearing, h]
@[simp] theorem State.releaseBank_memWf (s : State) (h : Memory.wf s.mem = true) :
    Memory.wf s.releaseBank.mem = true := by simp [State.releaseBank, h]
@[simp] theorem State.flushEnd_memWf (s : State) (h : Memory.wf s.mem = true) :
    Memory.wf s.flushEnd.mem = true := by simp -implicitDefEqProofs [State.flushEnd, h]
@[simp] theorem State.clearEntries_memWf (s : State) (b i n : Nat) (h : Memory.wf s.mem = true) :
    Memory.wf (s.clearEntries b i n).mem = true := by
  simp [State.clearEntries, h]
@[simp] theorem State.partClearEnd_memWf (s : State) (p : Nat) (h : Memory.wf s.mem = true) :
    Memory.wf (s.partClearEnd p).mem = true := by
  unfold State.partClearEnd
  split <;> simp [h]
@[simp] theorem State.partClear_memWf (s : State) (p : Nat) (h : Memory.wf s.mem = true) :
    Memory.wf (s.partClear p).mem = true := by simp [State.partClear, h]
@[simp] theorem State.pctlWrite_memWf (s : State) (req addr p : Nat) (en clr : Bool) (h : Memory.wf s.mem = true) :
    Memory.wf (s.pctlWrite req addr p en clr).mem = true := by simp [State.pctlWrite, h]
@[simp] theorem State.zoomClearEnd_memWf (s : State) (z : Nat) (h : Memory.wf s.mem = true) :
    Memory.wf (s.zoomClearEnd z).mem = true := by
  unfold State.zoomClearEnd
  split <;> simp [h]
@[simp] theorem State.zoomClear_memWf (s : State) (z : Nat) (h : Memory.wf s.mem = true) :
    Memory.wf (s.zoomClear z).mem = true := by simp [State.zoomClear, h]
@[simp] theorem State.zctlWrite_memWf (s : State) (req addr z : Nat) (en clr : Bool) (h : Memory.wf s.mem = true) :
    Memory.wf (s.zctlWrite req addr z en clr).mem = true := by simp [State.zctlWrite, h]
@[simp] theorem State.heatWrite_memWf (s : State) (req addr val : Nat) (h : Memory.wf s.mem = true) :
    Memory.wf (s.heatWrite req addr val).mem = true := by
  simp [State.heatWrite, h]
@[simp] theorem State.post_memWf (s : State) (v echo opc repeat_ status : Nat) (payload route : List Nat)
    (h : Memory.wf s.mem = true) :
    Memory.wf (s.post v echo opc repeat_ status payload route).mem = true := by simp [State.post, h]
@[simp] theorem State.acceptReq_memWf (s : State) (v : Nat) (e route : List Nat) (mark : SeqMark)
    (h : Memory.wf s.mem = true) :
    Memory.wf (s.acceptReq v e route mark).mem = true := by simp [State.acceptReq, h]
@[simp] theorem State.seqStep_memWf (s : State) (v : Nat) (e route : List Nat) (h : Memory.wf s.mem = true) :
    Memory.wf (s.seqStep v e route).mem = true := by
  unfold State.seqStep
  split <;> simp [h]
@[simp] theorem State.request_memWf (s : State) (v route eid tag : Nat) (e : List Nat) (ue : Bool)
    (h : Memory.wf s.mem = true) :
    Memory.wf (s.request v route eid tag e ue).mem = true := by simp [State.request, h]
@[simp] theorem State.takeMessage_memWf (s : State) (n : Nat) (slot : List Nat) (h : Memory.wf s.mem = true) :
    Memory.wf (s.takeMessage n slot).mem = true := by simp [State.takeMessage, h]
@[simp] theorem State.actSlot_memWf (s : State) (n : Nat) (slot : List Nat) (arr : Option BodyArrival)
    (h : Memory.wf s.mem = true) :
    Memory.wf (s.actSlot n slot arr).mem = true := by
  unfold State.actSlot
  split <;> simp [h]
@[simp] theorem State.inboundSlot_memWf (s : State) (n : Nat) (slot : List Nat) (arr : Option BodyArrival)
    (h : Memory.wf s.mem = true) :
    Memory.wf (s.inboundSlot n slot arr).mem = true := by simp [State.inboundSlot, h]
@[simp] theorem State.wipe_memWf (s : State) (por : Bool) (st : Straps) (h : Memory.wf s.mem = true) :
    Memory.wf (s.wipe por st).mem = true := by
  unfold State.wipe
  simp -implicitDefEqProofs [h]
@[simp] theorem State.warmStart_memWf (s : State) (cause : Fld) (st : Straps) (h : Memory.wf s.mem = true) :
    Memory.wf (s.warmStart cause st).mem = true := by
  simp [State.warmStart, h]
@[simp] theorem State.deviceReset_memWf (s : State) (h : Memory.wf s.mem = true) :
    Memory.wf s.deviceReset.mem = true := by simp [State.deviceReset, h]
@[simp] theorem State.askDeviceReset_memWf (s : State) (req : Nat) (h : Memory.wf s.mem = true) :
    Memory.wf (s.askDeviceReset req).mem = true := by
  simp [State.askDeviceReset, h]
@[simp] theorem State.warmPath_memWf (s : State) (byAct : Bool) (h : Memory.wf s.mem = true) :
    Memory.wf (s.warmPath byAct).mem = true := by
  simp only [State.warmPath]
  (repeat' split) <;> simp [h]
@[simp] theorem State.lanternReset_memWf (s : State) (cause : Fld) (byAct : Bool) (h : Memory.wf s.mem = true) :
    Memory.wf (s.lanternReset cause byAct).mem = true := by simp [State.lanternReset, h]
@[simp] theorem State.watchdogExpires_memWf (s : State) (h : Memory.wf s.mem = true) :
    Memory.wf s.watchdogExpires.mem = true := by simp [State.watchdogExpires, h]
@[simp] theorem State.loadPhrase_memWf (s : State) (p : Section) (ok : Bool) (q bank : Nat)
    (h : Memory.wf s.mem = true) :
    Memory.wf (s.loadPhrase p ok q bank).mem = true := by simp [State.loadPhrase, h]
@[simp] theorem State.loadPhrases_memWf (s : State) (bank : State → Nat → Nat) (h : Memory.wf s.mem = true) :
    Memory.wf (s.loadPhrases bank).mem = true := by
  unfold State.loadPhrases
  split
  · exact h
  · refine forEach_memWf _ _ h fun p a ha => forUp_memWf 8 a ha fun q b hb => ?_
    simp [hb]
@[simp] theorem State.swapPhrases_memWf (s : State) (start : Nat) (h : Memory.wf s.mem = true) :
    Memory.wf (s.swapPhrases start).mem = true := by
  simp [State.swapPhrases, h]
@[simp] theorem State.abortInProgress_memWf (s : State) (v : Nat) (h : Memory.wf s.mem = true) :
    Memory.wf (s.abortInProgress v).mem = true := by
  simp [State.abortInProgress, h]
@[simp] theorem State.lanternRestart_memWf (s : State) (h : Memory.wf s.mem = true) :
    Memory.wf s.lanternRestart.mem = true := by
  unfold State.lanternRestart
  split
  · exact h
  · have hloop : Memory.wf (forUp 17 (fun v a => a.abortInProgress v)
        (s.clrAll [F.BOOT_UPD_STAT_PSTATE, F.BOOT_UPD_STAT_COMP] 0).firmwareRuns).mem = true :=
      forUp_memWf 17 _ (by simp [h]) fun v a ha => a.abortInProgress_memWf v ha
    simp [hloop]
@[simp] theorem State.activate_memWf (s : State) (h : Memory.wf s.mem = true) :
    Memory.wf (s.activate).2.mem = true := by
  simp only [State.activate]
  split <;> simp [h]
@[simp] theorem State.revertTrials_memWf (s : State) (h : Memory.wf s.mem = true) :
    Memory.wf s.revertTrials.mem = true := by simp [State.revertTrials, h]
@[simp] theorem State.updCtl_memWf (s : State) (v : Nat) (h : Memory.wf s.mem = true) :
    Memory.wf (s.updCtl v).mem = true := by simp [State.updCtl, h]
@[simp] theorem State.glbRst_memWf (s : State) (req val : Nat) (h : Memory.wf s.mem = true) :
    Memory.wf (s.glbRst req val).mem = true := by simp [State.glbRst, h]
@[simp] theorem State.writeActs_memWf (s old : State) (r : Reg) (req addr val i : Nat) (h : Memory.wf s.mem = true) :
    Memory.wf (s.writeActs old r req addr val i).mem = true := by
  unfold State.writeActs
  split <;> simp [h]
@[simp] theorem State.arrive_memWf (s : State) (rt : Route) (view : Nat) (entry : List Nat) (ecc : Ecc)
    (h : Memory.wf s.mem = true) :
    Memory.wf (s.arrive rt view entry ecc).mem = true := by
  unfold State.arrive
  split
  · exact h
  · split
    · simp [h]
    · simp [h]
    · exact State.csbMsg_memWf s _ _ h fun a ha => by simp [ha]
@[simp] theorem State.answer_memWf (s : State) (v slot : Nat) (e : List Nat) (rep status : Nat) (payload : List Nat)
    (h : Memory.wf s.mem = true) :
    Memory.wf (s.answer v slot e rep status payload).mem = true := by simp [State.answer, h]
@[simp] theorem State.endStage7_memWf (s : State) : Memory.wf s.endStage7.mem = true := by simp [State.endStage7]
@[simp] theorem State.endStage8_memWf (s : State) (h : Memory.wf s.mem = true) :
    Memory.wf s.endStage8.mem = true := by simp [State.endStage8, h]
@[simp] theorem State.bootFails_memWf (s : State) (code : Nat) (h : Memory.wf s.mem = true) :
    Memory.wf (s.bootFails code).mem = true := by
  simp only [State.bootFails]
  split <;> simp [h]
@[simp] theorem State.endStage10_memWf (s : State) (us : Nat) (h : Memory.wf s.mem = true) :
    Memory.wf (s.endStage10 us).mem = true := by
  simp -implicitDefEqProofs [State.endStage10, h]
@[simp] theorem State.activateDrip_memWf (s : State) (h : Memory.wf s.mem = true) :
    Memory.wf s.activateDrip.mem = true := by simp [State.activateDrip, h]
@[simp] theorem State.schedule_memWf (s : State) (h : Memory.wf s.mem = true) :
    Memory.wf s.schedule.mem = true := by simp [State.schedule, h]
@[simp] theorem State.dripBoundary_memWf (s : State) (d : DripIn) (h : Memory.wf s.mem = true) :
    Memory.wf (s.dripBoundary d).mem = true := by simp [State.dripBoundary, h]

end Sys2Proof.Machine
end

section
/-! O4: every answer of a command keeps the canonical form of the memories (R35). -/
namespace Sys2Proof.Machine

/-! Answers whose memory is canonical -/

/-- A next state has canonical memories. -/
def Formed : Res → Prop
  | .next t => Memory.wf t.mem = true
  | _ => True

/-- The same of a write at an address. -/
def FormedWrite : WriteRes → Prop
  | .done t => Memory.wf t.mem = true
  | _ => True

/-- The same of an opcode that a view serves (R304). -/
def FormedServed : Served → Prop
  | .done _ _ t => Memory.wf t.mem = true
  | .fault _ => True

/-- The same of a Survey's register records (R331). -/
def FormedApplied : Applied → Prop
  | .done t | .refused t => Memory.wf t.mem = true
  | .fault _ => True

theorem Formed.of_next {t : State} {r : Res} (h : Formed r) (hr : r = .next t) : Memory.wf t.mem = true := by
  subst hr
  exact h

/-! Writes at an address -/

section
variable (s : State) (h : Memory.wf s.mem = true)
include h

theorem State.bifurWrite_formed (req val : Nat) : Formed (s.bifurWrite req val) := by
  unfold State.bifurWrite
  split
  · trivial
  · simp [Formed, h]

theorem State.writeReg_formed (r : Reg) (req addr val i : Nat) : FormedWrite (s.writeReg r req addr val i) := by
  unfold State.writeReg
  split
  · exact h
  split
  · trivial
  split
  · simp [FormedWrite, h]
  split
  · simp [FormedWrite, h]
  split
  · have hb := s.bifurWrite_formed h req val
    split <;> simp_all [Formed, FormedWrite]
  split
  · trivial
  · simp [FormedWrite, h]

theorem State.writeWindow_formed (w : Window) (req addr val : Nat) : FormedWrite (s.writeWindow w req addr val) := by
  cases w with
  | mailbox =>
    unfold State.writeWindow
    generalize s.ringOwned addr = owned
    cases owned with
    | true => trivial
    | false => exact s.wrWord32_memWf addr val h
  | phrase => exact s.phraseWrite_memWf _ _ _ h
  | heat | zoom => exact s.heatWrite_memWf _ _ _ h
  | capture => exact s.capWindow_memWf _ _ _ h

theorem State.writeWord_formed (req addr val : Nat) : FormedWrite (s.writeWord req addr val) := by
  unfold State.writeWord
  split
  · split
    · trivial
    · split
      · simp [FormedWrite, h]
      · exact s.writeReg_formed h ..
  · split
    · split
      · exact s.writeWindow_formed h ..
      · trivial
    · trivial

theorem State.busWrite_formed (r : Requester) (addr val : Nat) : Formed (s.busWrite r addr val) := by
  unfold State.busWrite
  split
  · exact h
  · have hw := s.writeWord_formed h (reqCode r) addr val
    split <;> simp_all [FormedWrite, Formed]

/-! Requests that a view serves (R314) -/

theorem State.judgeReq_formed (v : Nat) (e : List Nat) {perform : State → Served} (hp : FormedServed (perform s)) :
    FormedServed (s.judgeReq v e perform) := by
  unfold State.judgeReq
  split
  · exact h
  · split
    · exact h
    · split
      · simp [FormedServed, h]
      · exact hp

omit h in
theorem FormedServed.answers (v slot : Nat) (e : List Nat) (x : Served) :
    FormedServed x → Formed (match x with
      | .done status payload t => .next (t.answer v slot e 0 status payload)
      | .fault f => .fault f) := by
  intro hx
  cases x with
  | done status payload t => exact t.answer_memWf _ _ _ _ _ _ hx
  | fault f => trivial

omit h in
theorem Formed.andThen {k : State → State} (hk : ∀ t, (k t).mem = t.mem) (r : Res) :
    Formed r → Formed (match r with | .next t => .next (k t) | r => r) := by
  intro hr
  cases r with
  | next t => exact (congrArg Memory.wf (hk t)).trans hr
  | fault f => trivial
  | refused x => trivial

theorem State.serve_formed (v opc : Nat) {perform : List Nat → Nat → State → Served}
    (hp : ∀ e slot a, Memory.wf a.mem = true → FormedServed (perform e slot a)) : Formed (s.serve v opc perform) := by
  unfold State.serve
  dsimp only
  split
  · exact h
  · refine Formed.andThen (fun t => t.visited_mem _) _ ?_
    split
    · simp [Formed, h]
    · split
      · split <;> simp [Formed, h]
      · refine FormedServed.answers _ _ _ _ (State.judgeReq_formed _ ?_ _ _ (hp _ _ _ ?_)) <;> simp [h]

end

/-! What each opcode does (R304) -/

theorem serveWrites_formed (l : List (Nat × Nat × Nat)) (m : Nat) (s : State) (h : Memory.wf s.mem = true) :
    FormedServed (serveWrites l m s) := by
  induction l generalizing m s with
  | nil => exact h
  | cons x t ih =>
    obtain ⟨k, a, v⟩ := x
    have hw := (s.putRefused false).writeWord_formed h 0 a v
    unfold serveWrites
    split
    next s' hs =>
      rw [hs] at hw
      split
      · exact hw
      · exact ih _ s' hw
    · exact h
    · trivial

theorem State.doRmw_formed (s : State) (ue : Bool) (ns : Nat) (e : List Nat) (h : Memory.wf s.mem = true) :
    FormedServed (s.doRmw ue ns e) := by
  unfold State.doRmw
  have hr := s.readWord_mem 0 (entryAddr e) ns
  split
  · simp [FormedServed, h]
  · split
    next a ha => rw [ha] at hr; exact (congrArg Memory.wf hr).trans h
    next old a ha =>
      rw [ha] at hr
      have ha' : Memory.wf a.mem = true := (congrArg Memory.wf hr).trans h
      have hw := (a.putRefused false).writeWord_formed ha' 0 (entryAddr e)
        (rmwWord (entryAddr e) old (leAt (entryPayload e) 4 4) (leAt (entryPayload e) 8 4))
      dsimp only
      split
      next t ht => rw [ht] at hw; exact hw
      · exact ha'
      · trivial

theorem serveReads_formed (ns : Nat) (l : List (Nat × Nat)) (ue : List Nat) (s : State) (h : Memory.wf s.mem = true) :
    FormedServed (.done (serveReads ns l ue s).1 (serveReads ns l ue s).2.1 (serveReads ns l ue s).2.2) := by
  simp [FormedServed, h]

theorem State.doSummary_formed (s : State) (v : Nat) (e : List Nat) (h : Memory.wf s.mem = true) :
    FormedServed (s.doSummary v e) := by
  unfold State.doSummary
  dsimp only
  split
  · exact h
  · simp [FormedServed, h]

theorem State.doEntries_formed (s : State) (e : List Nat) (ok : Bool) (addrs ue : List Nat)
    (h : Memory.wf s.mem = true) :
    FormedServed (s.doEntries e ok addrs ue) := by
  unfold State.doEntries
  split
  · exact h
  · simp [FormedServed, h]

theorem State.doCap_formed (s : State) (v : Nat) (ue e : List Nat) (h : Memory.wf s.mem = true) :
    FormedServed (s.doCap v ue e) := by
  unfold State.doCap
  dsimp only
  split
  · exact h
  · simp [FormedServed, h]

/-! Start-up (R331) -/

theorem State.surveyWrite_formed (s : State) (addr val : Nat) (h : Memory.wf s.mem = true) :
    FormedApplied (s.surveyWrite addr val) := by
  have hw := (s.putRefused false).writeWord_formed h 0 addr val
  unfold State.surveyWrite
  split
  next t ht =>
    rw [ht] at hw
    split <;> exact hw
  · exact h
  · trivial

theorem State.surveyWrites_formed (l : List (Nat × Nat)) (s : State) (h : Memory.wf s.mem = true) :
    FormedApplied (State.surveyWrites l s) := by
  induction l generalizing s with
  | nil => exact h
  | cons x t ih =>
    have hw := s.surveyWrite_formed x.1 x.2 h
    unfold State.surveyWrites
    split
    next a ha => rw [ha] at hw; exact ih a hw
    · exact hw

theorem State.surveyRmws_formed (l : List (Nat × Nat × Nat)) (s : State) (h : Memory.wf s.mem = true) :
    FormedApplied (State.surveyRmws l s) := by
  induction l generalizing s with
  | nil => exact h
  | cons x t ih =>
    obtain ⟨a, m, v⟩ := x
    have hr := s.readWord_mem 0 a 0
    unfold State.surveyRmws
    split
    next b hb => rw [hb] at hr; exact (congrArg Memory.wf hr).trans h
    next old b hb =>
      rw [hb] at hr
      have hw := b.surveyWrite_formed a (rmwWord a old m v) ((congrArg Memory.wf hr).trans h)
      split
      next c hc => rw [hc] at hw; exact ih c hw
      · exact hw

theorem State.surveyRegs_formed (l : List SvRec) (s : State) (h : Memory.wf s.mem = true) :
    FormedApplied (State.surveyRegs l s) := by
  induction l generalizing s with
  | nil => exact h
  | cons r t ih =>
    have step : ∀ x : Applied, FormedApplied x → FormedApplied (match x with
        | .done s => State.surveyRegs t s
        | y => y) := by
      intro x hx
      cases x with
      | done a => exact ih a hx
      | refused a => exact hx
      | fault f => trivial
    unfold State.surveyRegs
    refine step _ ?_
    split
    · exact State.surveyWrites_formed _ s h
    · exact State.surveyRmws_formed _ s h
    · exact h

theorem State.stageEnd_formed (s : State) (x : StageIn) (h : Memory.wf s.mem = true) : Formed (s.stageEnd x) := by
  unfold State.stageEnd
  split
  · exact h
  split
  case h_9 =>
    have ha := State.surveyRegs_formed s.boot.survey s h
    unfold State.endStage9
    split <;> simp_all [FormedApplied, Formed]
  all_goals simp -implicitDefEqProofs [Formed, h]

/-! Every command -/

theorem guarded_formed {ok : Bool} {s : State} {k : State → Res} (h : Memory.wf s.mem = true)
    (hk : ∀ a, Memory.wf a.mem = true → Formed (k a)) : Formed (guarded ok s k) := by
  unfold guarded
  split
  · unfold finish
    have ha := hk s.begun h
    split
    next t ht => rw [ht] at ha; simpa [Formed] using ha
    · trivial
    · trivial
  · trivial

theorem effect_formed {ok : Bool} {s : State} {k : State → State} (h : Memory.wf s.mem = true)
    (hk : ∀ a, Memory.wf a.mem = true → Memory.wf (k a).mem = true) : Formed (effect ok s k) :=
  guarded_formed h hk

theorem exec_formed (c : Instr) (s : State) (h : Memory.wf s.mem = true) : Formed (exec c s) := by
  cases c
  all_goals unfold exec
  case mgmtViewCtlRestore r v =>
    refine guarded_formed h fun a ha => ?_
    split
    · trivial
    · simp [Formed, ha]
  case mailboxWrite r addr val =>
    refine guarded_formed h fun a ha => ?_
    generalize (a.reaches r && a.coreRuns && a.ringOwned addr) = owned
    cases owned with
    | true => trivial
    | false => exact a.viaCore_memWf _ ha fun b hb => by simp [hb]
  case bifurcationWrite r val =>
    refine guarded_formed h fun a ha => ?_
    have hb := a.bifurWrite_formed ha (reqCode r) val
    split
    · unfold ackRes
      split <;> simp_all [Formed]
    · exact ha
  case registerWrite r addr val | pairLoWrite r addr val | pairHiWrite r addr val | compatWrite r addr val =>
    exact guarded_formed h fun a ha => a.busWrite_formed ha r addr val
  case glbLockWrite r val => exact guarded_formed h fun a ha => a.busWrite_formed ha r 0x20 val
  case cdrLock ls =>
    refine effect_formed h fun a ha => ?_
    dsimp only
    (repeat' split) <;> simp [ha]
  case getInfo v => exact guarded_formed h fun a ha => a.serve_formed ha v 1 fun _ _ _ hb => hb
  case read v ecc ns =>
    exact guarded_formed h fun a ha => a.serve_formed ha v 2 fun _ _ b hb => serveReads_formed _ _ _ b hb
  case write v => exact guarded_formed h fun a ha => a.serve_formed ha v 3 fun _ _ b hb => serveWrites_formed _ _ b hb
  case rmw v ue ns => exact guarded_formed h fun a ha => a.serve_formed ha v 4 fun _ _ b hb => b.doRmw_formed _ _ _ hb
  case resync v =>
    exact guarded_formed h fun a ha => a.serve_formed ha v 5 fun _ _ b hb => by simp [FormedServed, hb]
  case portSummary v =>
    exact guarded_formed h fun a ha => a.serve_formed ha v 6 fun _ _ b hb => b.doSummary_formed _ _ hb
  case heatRead v ecc =>
    exact guarded_formed h fun a ha => a.serve_formed ha v 7 fun _ _ b hb => b.doEntries_formed _ _ _ _ hb
  case zoomRead v ecc =>
    exact guarded_formed h fun a ha => a.serve_formed ha v 8 fun _ _ b hb => b.doEntries_formed _ _ _ _ hb
  case capRead v ecc =>
    exact guarded_formed h fun a ha => a.serve_formed ha v 9 fun _ _ b hb => b.doCap_formed _ _ _ hb
  case startupStageComplete inp => exact guarded_formed h fun a ha => a.stageEnd_formed inp ha
  case glbRstDevice | glbRstLantern | bootUpdCtlRevert =>
    exact effect_formed h fun a ha => a.viaBus_memWf _ ha fun b hb => by simp [hb]
  case quadCtlRst | phraseMemoryWrite | captureWindowWrite | heatCtlRel | heatPctlClr | heatZctlClr | heatWindowWrite =>
    exact effect_formed h fun a ha => a.viaCore_memWf _ ha fun b hb => by simp [hb]
  all_goals
    refine effect_formed h fun a ha => ?_
    simp -implicitDefEqProofs [ha]

/-- Settles O4: the front command runs on the state with the rest of the queue, whose memories are the same, and every
effect writes the memories by bytes set, ranges cleared or the empty memory (`exec_formed`). -/
theorem everyStepKeepsTheMemoryForm : Obligations.EveryStepKeepsTheMemoryForm := by
  unfold Obligations.EveryStepKeepsTheMemoryForm
  intro s t h hstep
  unfold step at hstep
  split at hstep
  · obtain rfl := Host.Outcome.next.inj hstep
    exact h
  case h_2 c rest hp =>
    exact (exec_formed c { s with pending := rest } h).of_next hstep

end Sys2Proof.Machine
end

section
/-! O42: requests to gate the secure domain (R34). -/
namespace Sys2Proof.Machine

/-- A command of one effect whose next state is known completes as that state says. -/
theorem Gives.of_result {c : Instr} {s t : State} {vs : Vals} {ps : List Part} {outs : List Out} {P : State → Prop}
    {ok : Bool} {k : State → State} (he : exec c s = effect ok s k) (hw : ok = true) (hk : k s.begun = t)
    (hq : t.raised = []) (ho : t.out = outs) (hp : P t) (hv : Holds vs t) (hf : Only (vs.parts ++ ps) s t) :
    Gives c s vs ps outs P := by
  subst hk
  exact Gives.of_effect he hw hq hv hf ho hp

@[simp] theorem b2n_le_one (b : Bool) : b2n b ≤ 1 := by cases b <;> decide

theorem State.secureGate_free (s : State) (g : Bool) (h : s.rd F.MGMT_SEC_STAT_SEC_HOLD 0 ≠ 1) :
    s.secureGate g = s.wrB F.PWR_DOM_STAT_SEC_GATED 0 g := by
  simp [State.secureGate, State.flag, h]

theorem State.secureGate_held (s : State) (g : Bool) (h : s.rd F.MGMT_SEC_STAT_SEC_HOLD 0 = 1) :
    s.secureGate g = ((s.setF F.PWR_DOM_STAT_SEC_DEFER 0).putSecDefer (some g)).emit .busy := by
  simp [State.secureGate, State.flag, h]

theorem State.secureRelease_none (s : State) (h : s.secDefer = none) :
    s.secureRelease = s.clr F.MGMT_SEC_STAT_SEC_HOLD 0 := by
  have hd : (s.clr F.MGMT_SEC_STAT_SEC_HOLD 0).secDefer = none := h
  simp [State.secureRelease, hd]

theorem State.secureRelease_some (s : State) (g : Bool) (h : s.secDefer = some g) :
    s.secureRelease = (((s.clr F.MGMT_SEC_STAT_SEC_HOLD 0).wrB F.PWR_DOM_STAT_SEC_GATED 0 g).clr
      F.PWR_DOM_STAT_SEC_DEFER 0).putSecDefer none := by
  have hd : (s.clr F.MGMT_SEC_STAT_SEC_HOLD 0).secDefer = some g := h
  simp [State.secureRelease, hd]

/-- Settles O42: the secure partition's hold, and on a release the deferred request, decide which writes the command makes
(`State.secureGate_free`, `secureGate_held`, `secureRelease_none`, `secureRelease_some`). -/
theorem secureGatingIsDeferredWhileHeld : Obligations.SecureGatingIsDeferredWhileHeld := by
  unfold Obligations.SecureGatingIsDeferredWhileHeld
  refine ⟨fun s g hq hh => ?_, fun s g hq hh => ?_, fun s hq hd => ?_, fun s g hq hd => ?_⟩
  · refine Gives.of_result (exec_secureGateRequest s g) rfl (s.begun.secureGate_free g hh) hq rfl trivial ?_ fun p hp => ?_
    · simp [Holds, State.wrB]
    · simp_all [Vals.parts, State.wrB]
  · refine Gives.of_result (exec_secureGateRequest s g) rfl (s.begun.secureGate_held g hh) hq rfl rfl ?_ fun p hp => ?_
    · simp [Holds, State.setF]
    · simp_all [Vals.parts, State.setF]
  · refine Gives.of_result (exec_secureDomainRelease s) rfl (s.begun.secureRelease_none hd) hq rfl trivial ?_ fun p hp => ?_
    · simp [Holds, State.clr]
    · simp_all [Vals.parts, State.clr]
  · refine Gives.of_result (exec_secureDomainRelease s) rfl (s.begun.secureRelease_some g hd) hq rfl rfl ?_ fun p hp => ?_
    · simp (disch := decide) [Holds, State.clr, State.wrB, State.rd_wr_fld]
    · simp_all [Vals.parts, State.clr, State.wrB]

end Sys2Proof.Machine
end

section
/-! O2: the state after reset (R39, R40): its tables are empty, so that every part reads as its reset value. -/
namespace Sys2Proof.Machine

@[simp] theorem State.rd_reset (f : Fld) (i : Nat) : State.reset.rd f i = f.reset i := rfl
@[simp] theorem State.rdByte_reset (a : Nat) : State.reset.rdByte a = 0 := rfl
@[simp] theorem State.lane_reset (k : Nat) : State.reset.lane k = {} := rfl

/-- Settles O2: a table with no entry reads as the Reset column (`State.rd_reset`). -/
theorem resetLeavesTheResetColumn : Obligations.ResetLeavesTheResetColumn := by
  unfold Obligations.ResetLeavesTheResetColumn
  refine ⟨State.rd_reset, ⟨rfl, rfl, Memory.wf_reset, rfl, rfl, rfl⟩, fun n a => ⟨?_, ?_, ?_, State.rdByte_reset a⟩⟩
  · exact State.rd_reset F.PORT_LINK_STAT_LTSSM n
  · exact State.rd_reset F.PORT_CTL_EN n
  · rw [State.lane_reset]

end Sys2Proof.Machine
end

section
/-! O7: accesses that the stopped core domain or the locked TAP does not serve (R30, R255, R361). -/
namespace Sys2Proof.Machine

theorem guarded_eq {ok : Bool} {s u : State} {k : State → Res} (hw : ok = true) (hk : k s.begun = .next u) :
    guarded ok s k = .next u.settle := by
  simp [guarded, hw, hk, finish]

theorem effect_eq {ok : Bool} {s u : State} {k : State → State} (hw : ok = true) (hk : k s.begun = u) :
    effect ok s k = .next u.settle := guarded_eq hw (congrArg _ hk)

theorem State.viaBus_unreached {s : State} {r : Requester} (h : s.reaches r = false) (k : State → State) :
    s.viaBus r k = s := by simp [State.viaBus, h]

theorem State.viaCore_unreached {s : State} {r : Requester} (h : s.reaches r = false) (k : State → State) :
    s.viaCore r k = s := by simp [State.viaCore, h]

theorem State.busWrite_unreached {s : State} {r : Requester} (h : s.reaches r = false) (addr val : Nat) :
    s.busWrite r addr val = .next s := by simp [State.busWrite, h]

theorem State.busRead_unreached {s : State} {r : Requester} (h : s.reaches r = false) (addr ns : Nat) :
    s.busRead r addr ns = s := by simp [State.busRead, h]

theorem State.viaCore_stopped {s : State} {r : Requester} (h : s.reaches r = true) (hc : s.coreRuns = false)
    (k : State → State) : s.viaCore r k = s.emit .busError := by simp [State.viaCore, h, hc]

theorem exec_unreached {c : Instr} {s : State} {r : Requester} (hw : c.wf = true) (hr : c.requester = some r)
    (hn : s.reaches r = false) : exec c s = .next s.begun.settle := by
  have hb : s.begun.reaches r = false := hn
  cases c <;> cases hr
  all_goals unfold exec
  case registerWrite | pairLoWrite | pairHiWrite | compatWrite | glbLockWrite =>
    exact guarded_eq hw (State.busWrite_unreached hb _ _)
  case snapshotLoRead | cwWbufRead => exact effect_eq hw (State.busRead_unreached hb _ _)
  case bifurcationWrite | mgmtViewCtlRestore | mailboxWrite =>
    refine guarded_eq hw ?_
    simp [State.viaBus_unreached hb, State.viaCore_unreached hb, hb]
  all_goals
    refine effect_eq hw ?_
    simp [State.viaBus_unreached hb, State.viaCore_unreached hb]

theorem exec_coreStopped {c : Instr} {s : State} {r : Requester} (hw : c.wf = true) (hr : c.requester = some r)
    (hc : c.ofCore = true) (hn : s.reaches r = true) (hs : s.coreRuns = false) :
    exec c s = .next (s.begun.emit .busError).settle := by
  have hb : s.begun.reaches r = true := hn
  have hd : s.begun.coreRuns = false := hs
  cases c <;> cases hr <;> cases hc
  all_goals unfold exec
  case mailboxWrite =>
    refine guarded_eq hw ?_
    simp [State.viaCore_stopped hb hd, hd]
  all_goals exact effect_eq hw (State.viaCore_stopped hb hd _)

/-- Settles O7: an access to the stopped core domain is only a bus error (`exec_coreStopped`), and the locked TAP is a
requester that reaches nothing (`exec_unreached`). -/
theorem stoppedDomainsAndLockedTapsAnswer : Obligations.StoppedDomainsAndLockedTapsAnswer := by
  unfold Obligations.StoppedDomainsAndLockedTapsAnswer
  refine ⟨fun c s r ⟨hq, hn⟩ ⟨hw, hr, hc, hs⟩ => ?_, fun c s hq ⟨hw, hr, hl⟩ => ?_⟩
  · have he := exec_coreStopped hw hr hc hn hs
    rw [State.settle_quiet _ (show (s.begun.emit .busError).raised = [] from hq)] at he
    exact ⟨_, he, Holds.nil _, fun p _ => by simp, rfl, trivial⟩
  · have hn : s.reaches .jtag = false := by simp [State.reaches, State.flag, hl]
    have he := exec_unreached hw hr hn
    rw [State.settle_quiet _ (show s.begun.raised = [] from hq)] at he
    exact ⟨_, he, Holds.nil _, fun p _ => by simp, rfl, trivial⟩

end Sys2Proof.Machine
end

section
/-! O14: what a quad reset changes of a spare that is calibrated with the quad. -/
namespace Sys2Proof.Machine

/-- Quad 0 is ungated and its one port disabled; spare 0 is POWERED and calibrated with quad 0, whose run has taken slice 3
of the spare's lane-side (64) out of service (R182, R288). -/
def State.spareInCalibration : State :=
  [(F.CLK_STAT_CPLL_LOCK, 0, 1), (F.PWR_DOM_STAT_QGATED, 0, 0), (F.PWR_DOM_STAT_SGATED, 0, 2), (F.GLB_BIFUR_QUAD0, 0, 1),
    (F.SPARE_STAT_STATE, 0, 1), (F.PWR_CAL_STAT_STATE, 0, 1), (F.LANE_SLICE_STAT_CALSLICE, 64, 3)].foldl
    (fun s w => s.wr w.1 w.2.1 w.2.2) State.reset

/-- The slice of a lane-side that is out of service in the state that a command leads to; 0x7F where none is. -/
def calSliceAfter (r : Res) (ls : Nat) : Nat :=
  match r with
  | .next t => t.rd F.LANE_SLICE_STAT_CALSLICE ls
  | _ => 0

/-- The abandoned run returns the spare's slice to service. -/
theorem State.spareInCalibration_returns :
    calSliceAfter (exec (.quadCtlRst .normal 0) State.spareInCalibration) 64 = 0x7F := by decide +kernel

/-- Refutes O14, by its first clause: a quad reset abandons the calibration run of the quad on every lane-side that the run
covers, and a powered spare is calibrated with the quad of its half's lowest present lane, so that the spare's lane-side
64 changes too, which is none of the quad's eight that the clause names. -/
theorem not_quadResetsWaitForTheirPorts : ¬ Obligations.QuadResetsWaitForTheirPorts := by
  unfold Obligations.QuadResetsWaitForTheirPorts
  rintro ⟨clause, -⟩
  obtain ⟨t, hexec, -, honly, -⟩ :=
    clause State.spareInCalibration .normal 0 (by decide +kernel) (by decide) (by decide +kernel)
  have hsame : t.rd F.LANE_SLICE_STAT_CALSLICE 64 = State.spareInCalibration.rd F.LANE_SLICE_STAT_CALSLICE 64 :=
    honly.rd (by decide +kernel)
  have hreturned : t.rd F.LANE_SLICE_STAT_CALSLICE 64 = 0x7F := by
    simpa only [hexec, calSliceAfter] using State.spareInCalibration_returns
  have hout : State.spareInCalibration.rd F.LANE_SLICE_STAT_CALSLICE 64 = 3 := by decide +kernel
  omega

end Sys2Proof.Machine
end

section
/-! O25: the link states of the companion sideband (R168 to R174). -/
namespace Sys2Proof.Machine

/-! Commands through the bus -/

theorem State.viaCore_served {s : State} {r : Requester} (h : s.reaches r = true) (hc : s.coreRuns = true)
    (k : State → State) : s.viaCore r k = (k s).emit .writeAck := by simp [State.viaCore, h, hc]

/-- A command of one effect in a running core domain that reports no event. -/
theorem Gives.of_core {c : Instr} {s t : State} {vs : Vals} {P : State → Prop} {ps : List Part} {ok : Bool} {r : Requester}
    {k : State → State} (he : exec c s = effect ok s fun a => a.viaCore r k) (hw : ok = true) (hr : CoreReady s r)
    (hk : k s.begun = t) (hq : t.raised = []) (ho : t.out = []) (hp : P (t.emit .writeAck)) (hv : Holds vs t)
    (hf : Only (vs.parts ++ ps) s t) : Gives c s vs ps [.writeAck] P := by
  obtain ⟨-, hn, hc⟩ := hr
  have hk : s.begun.viaCore r k = t.emit .writeAck := by rw [State.viaCore_served (s := s.begun) hn hc, hk]
  refine Gives.of_result he hw hk hq ?_ hp hv fun p hp => ?_
  · show t.out ++ _ = _
    rw [ho]
    rfl
  · simpa using hf p hp

theorem Only.of_begun {ps : List Part} {s t : State} (h : Only ps s.begun t) : Only ps s t :=
  fun p hp => Part.same_trans (Part.same_begun p s) (h p hp)

/-! Loops that change nothing -/

/-- No part of the state has changed, nor what it drives. -/
def Unmoved (s t : State) : Prop := Only [] s t ∧ t.out = s.out

theorem Unmoved.refl (s : State) : Unmoved s s := ⟨fun p _ => by simp, rfl⟩
theorem Unmoved.trans {s t u : State} (h : Unmoved s t) (k : Unmoved t u) : Unmoved s u :=
  ⟨h.1.trans k.1, k.2.trans h.2⟩
theorem Unmoved.only {ps : List Part} {s t u : State} (h : Only ps s t) (k : Unmoved t u) : Only ps s u :=
  (h.append k.1).mono (by simp)

theorem State.setPort_self (s : State) (n : Nat) : Unmoved s (s.setPort n (s.port n)) := by
  refine ⟨fun p _ => ?_, rfl⟩
  by_cases h : p = .port n
  · subst h
    exact s.port_setPort n _
  · exact Part.same_setPort s n _ h

theorem State.setSpare_self (s : State) (h : Nat) : Unmoved s (s.setSpare h (s.spare h)) := by
  refine ⟨fun p _ => ?_, rfl⟩
  by_cases hp : p = .spare h
  · subst hp
    exact SMap.get_set_self ..
  · exact Part.same_setSpare s h _ hp

theorem forUp_unmoved {f : Nat → State → State} (n : Nat) (s : State) (h : ∀ i < n, ∀ a, Unmoved s a → Unmoved a (f i a)) :
    Unmoved s (forUp n f s) :=
  forUp_keeps (Unmoved s) n (.refl s) fun i a hi ha => ha.trans (h i hi a ha)

/-! Leaving UP -/

/-- The CSB gives up its frames and numbers. -/
def State.csbDrop (s : State) : State :=
  (s.incBy F.CMP_CSB_CNT2_LOST 0 (lostFrames s.csb.q0 + lostFrames s.csb.q1 + lostFrames s.csb.un0
    + lostFrames s.csb.un1)).putCsb { s.csb with
      q0 := [], q1 := [], un0 := [], un1 := [], seq0 := 0, seq1 := 0, rx0 := 0, rx1 := 0, last0 := 255, last1 := 255,
      ackDue0 := false, ackDue1 := false, beaconDue := none }

/-- No JOIN is repeated any more. -/
def State.dropJoins (s : State) : State :=
  forUp 16 (fun n a => a.modPort n fun p => if p.rejoin then { p with joinWait := false, rejoin := false } else p) s

/-- The procedures of both spares are abandoned, and what the peer asked for is forgotten. -/
def State.dropProcedures (s : State) : State :=
  forUp 2 (fun h a => (a.modSpare h fun p => { p with peerWanted := [] }).abandonSpare h 6 false) s

theorem State.csbLeaveUp_eq (s : State) (next : Nat) :
    s.csbLeaveUp next = (s.csbDrop.dropJoins.wr F.CMP_CSB_STAT_STATE 0 next).dropProcedures := rfl

theorem State.dropJoins_unmoved (s : State) (h : ∀ n ∈ List.range 16, (s.port n).rejoin = false) :
    Unmoved s s.dropJoins := by
  refine forUp_unmoved 16 s fun n hn a ha => ?_
  have hp : a.port n = s.port n := ha.1.port (by simp)
  have hr := h n (List.mem_range.2 hn)
  rw [State.modPort, if_neg (by simp [hp, hr])]
  exact a.setPort_self n

theorem State.abandonSpare_idle (s : State) (h res : Nat) (now : Bool) (hs : s.spareState h < 2) :
    s.abandonSpare h res now = s := by
  have h23 : ¬(s.spareState h = 2 ∨ s.spareState h = 3) := by omega
  simp [State.abandonSpare, h23, show s.spareState h ≠ 5 by omega]

/-- No procedure of a spare is under way, and the peer has asked for none. -/
def State.sparesIdle (s : State) : Prop := ∀ h < 2, s.spareState h < 2 ∧ (s.spare h).peerWanted = []

theorem State.sparesIdle.of_only {ps : List Part} {s t : State} (hs : s.sparesIdle) (h : Only ps s t)
    (hf : ∀ k, Part.fld F.SPARE_STAT_STATE k ∉ ps) (hp : ∀ k, Part.spare k ∉ ps) : t.sparesIdle := fun k hk => by
  obtain ⟨hst, hw⟩ := hs k hk
  have hsp : t.spare k = s.spare k := h _ (hp k)
  exact ⟨lt_of_eq_of_lt (h.rd (hf k)) hst, by rw [hsp, hw]⟩

theorem State.dropProcedures_unmoved (s : State) (hs : s.sparesIdle) : Unmoved s s.dropProcedures := by
  refine forUp_unmoved 2 s fun h hh a ha => ?_
  obtain ⟨hst, hw⟩ := (hs.of_only ha.1 (by simp) (by simp)) h hh
  have hm : (a.modSpare h fun p => { p with peerWanted := [] }) = a.setSpare h (a.spare h) := by
    rw [State.modSpare, ← hw]
  rw [hm, State.abandonSpare_idle (a.setSpare h (a.spare h)) h 6 false hst]
  exact a.setSpare_self h

theorem State.csbLoss_down (s : State) (next : Nat) (h : s.csbUp = false) : s.csbLoss next = s := by simp [State.csbLoss, h]

/-- The numbers of the link layer start again. -/
abbrev NumbersRestart (t : State) : Prop := t.csb.seq0 = 0 ∧ t.csb.rx0 = 0 ∧ t.csb.last0 = 255

theorem State.csbDrop_only (s : State) : Only [.fld F.CMP_CSB_CNT2_LOST 0, .csb] s s.csbDrop := fun p hp => by
  obtain ⟨hf, hc⟩ : p ≠ .fld F.CMP_CSB_CNT2_LOST 0 ∧ p ≠ .csb := by simpa using hp
  simp [State.csbDrop, State.incBy, hf, hc]

theorem State.wr_only (s : State) (f : Fld) (i v : Nat) : Only [.fld f i] s (s.wr f i v) :=
  fun _ hp => Part.same_wr s f i v (by simpa using hp)

theorem Only.csb {ps : List Part} {s t : State} (h : Only ps s t) (hp : Part.csb ∉ ps) : t.csb = s.csb := h _ hp

/-- What leaving UP changes with nothing under way. -/
theorem State.csbLeaveUp_only (s : State) (next : Nat) (hp : ∀ n ∈ List.range 16, (s.port n).rejoin = false)
    (hs : s.sparesIdle) :
    Only [.fld F.CMP_CSB_CNT2_LOST 0, .csb, .fld F.CMP_CSB_STAT_STATE 0] s (s.csbLeaveUp next) ∧
    (s.csbLeaveUp next).rd F.CMP_CSB_STAT_STATE 0 = next % 8 ∧ (s.csbLeaveUp next).out = s.out ∧
    (s.csbLeaveUp next).csb = s.csbDrop.csb := by
  rw [State.csbLeaveUp_eq]
  have hj := s.csbDrop.dropJoins_unmoved hp
  generalize s.csbDrop.dropJoins = j at hj ⊢
  have hw := (s.csbDrop_only.append hj.1).append (j.wr_only F.CMP_CSB_STAT_STATE 0 next)
  have hd := State.dropProcedures_unmoved _ (hs.of_only hw (by
    simp [F.SPARE_STAT_STATE, F.CMP_CSB_CNT2_LOST, F.CMP_CSB_STAT_STATE]) (by simp))
  generalize (j.wr F.CMP_CSB_STAT_STATE 0 next).dropProcedures = t at hd ⊢
  refine ⟨(hw.append hd.1).mono (by simp), ?_, ?_, ?_⟩
  · rw [hd.1.rd (by simp), State.rd_wr_self]
    rfl
  · rw [hd.2, State.wr_out, hj.2]
    rfl
  · rw [hd.1.csb (by simp), State.wr_csb, hj.1.csb (by simp)]

/-- A loss from UP with nothing under way (R170). -/
theorem State.csbLoss_up (s : State) (hq : Quiet s) (hu : s.csbUp = true) (hp : ∀ n ∈ List.range 16, (s.port n).rejoin = false)
    (hs : s.sparesIdle) :
    Holds [(F.CMP_CSB_STAT_STATE, 0, 1), (F.CMP_CSB_CNT_DOWN, 0, min (s.rd F.CMP_CSB_CNT_DOWN 0 + 1) 0xFF)] (s.csbLoss 1) ∧
    Only [.fld F.CMP_CSB_STAT_STATE 0, .fld F.CMP_CSB_CNT_DOWN 0, .raised, .csb, .fld F.CMP_CSB_CNT2_LOST 0] s (s.csbLoss 1) ∧
    (s.csbLoss 1).raised = [⟨54, 0, 0, false⟩] ∧ (s.csbLoss 1).out = s.out ∧ NumbersRestart (s.csbLoss 1) := by
  obtain ⟨honly, hstate, hout, hcsb⟩ := s.csbLeaveUp_only 1 hp hs
  have he : s.csbLoss 1 = ((s.csbLeaveUp 1).inc F.CMP_CSB_CNT_DOWN 0).raise 54 0 0 := by simp [State.csbLoss, hu]
  rw [he]
  generalize s.csbLeaveUp 1 = t at honly hstate hout hcsb ⊢
  have hdown : t.rd F.CMP_CSB_CNT_DOWN 0 = s.rd F.CMP_CSB_CNT_DOWN 0 := honly.rd (by decide)
  have hraised : t.raised = [] := (honly.raised (by decide)).trans hq
  refine ⟨?_, ?_, ?_, hout, ?_⟩
  · refine Holds.cons ?_ (Holds.cons ?_ (Holds.nil _))
    · exact (State.rd_wr_fld _ _ (by decide)).trans hstate
    · show (t.inc F.CMP_CSB_CNT_DOWN 0).rd _ _ = _
      simp only [State.inc, State.incBy, State.rd_wr_self, satAdd, hdown]
      exact Nat.mod_eq_of_lt (by simp)
  · exact ((honly.append (State.incBy_only _ _ _ _)).append (State.raise_only _ _ _ _)).mono (by simp)
  · simp [State.raise, State.inc, State.incBy, hraised]
  · have h1 : ((t.inc F.CMP_CSB_CNT_DOWN 0).raise 54 0 0).csb = s.csbDrop.csb := hcsb
    rw [NumbersRestart, h1]
    exact ⟨rfl, rfl, rfl⟩

/-! Entering UP -/

theorem ptrDist_self (a : Nat) : ptrDist a a = 0 := by simp [ptrDist]

theorem State.requeueCsb_unmoved (s : State) (h : ∀ v ∈ List.range 17, (s.view v).handed = s.rd F.MGMT_VIEW_PTR_RSP_TX v) :
    Unmoved s s.requeueCsb := by
  refine forUp_unmoved 17 s fun v hv a ha => ?_
  have hview : a.view v = s.view v := ha.1 (.view v) (by simp)
  have htx : a.rd F.MGMT_VIEW_PTR_RSP_TX v = s.rd F.MGMT_VIEW_PTR_RSP_TX v := ha.1.rd (by simp)
  dsimp only
  rw [hview, htx, h v (List.mem_range.2 hv), ptrDist_self]
  exact .refl a

/-- Every associated port joins again. -/
def State.rejoinPorts (s : State) : State :=
  forUp 16 (fun n a =>
    if a.associated n then (a.sendJoin n).modPort n fun p => { p with joinWait := true, rejoin := true } else a) s

theorem State.rejoinPorts_unmoved (s : State) (h : ∀ n ∈ List.range 16, s.associated n = false) :
    Unmoved s s.rejoinPorts := by
  refine forUp_unmoved 16 s fun n hn a ha => ?_
  have hseg : a.rd F.CMP_PORT_STAT_SEG n = s.rd F.CMP_PORT_STAT_SEG n := ha.1.rd (by simp)
  have hassoc : a.associated n = false := by
    rw [← h n (List.mem_range.2 hn)]
    simp [State.associated, State.seg, hseg]
  simp [hassoc, Unmoved.refl]

/-- The link layer as the CSB enters UP. -/
def CsbSt.fresh (c : CsbSt) : CsbSt :=
  { c with
    q0 := [], q1 := [], un0 := [], un1 := [], seq0 := 0, seq1 := 0, rx0 := 0, rx1 := 0, last0 := 255, last1 := 255,
    ackDue0 := false, ackDue1 := false, beaconDue := none }

theorem State.csbEnterUp_eq (s : State) :
    s.csbEnterUp = ((s.putCsb s.csb.fresh).wr F.CMP_CSB_STAT_STATE 0 3).requeueCsb.rejoinPorts := rfl

theorem State.csbEnterUp_unmoved (s : State) (ha : ∀ n ∈ List.range 16, s.associated n = false)
    (hv : ∀ v ∈ List.range 17, (s.view v).handed = s.rd F.MGMT_VIEW_PTR_RSP_TX v) :
    Unmoved ((s.putCsb s.csb.fresh).wr F.CMP_CSB_STAT_STATE 0 3) s.csbEnterUp := by
  rw [State.csbEnterUp_eq]
  have hr : Unmoved ((s.putCsb s.csb.fresh).wr F.CMP_CSB_STAT_STATE 0 3) _ := State.requeueCsb_unmoved _ fun v hm => by
    rw [State.rd_wr_fld _ _ (by decide)]
    exact hv v hm
  refine hr.trans (State.rejoinPorts_unmoved _ fun n hm => ?_)
  have hseg := hr.1.rd (f := F.CMP_PORT_STAT_SEG) (i := n) (by simp)
  rw [State.rd_wr_fld _ _ (by decide)] at hseg
  rw [← ha n hm]
  simp only [State.associated, State.seg, hseg]
  rfl

/-- The fields that report the peer's HELLO. -/
def State.notePeer (s : State) (major minor cap : Nat) : State :=
  ((s.wr F.CMP_CSB_STAT_PEER_MAJOR 0 major).wr F.CMP_CSB_STAT_PEER_MINOR 0 minor).wr F.CMP_CSB_STAT_PEER_CAP 0 cap

theorem State.hello_same (s : State) (minor cap : Nat) (hs : s.rd F.CMP_CSB_STAT_STATE 0 = 2) :
    s.hello 1 minor cap = (s.notePeer 1 minor cap).csbEnterUp := by
  simp [State.hello, State.csbUp, hs, State.takeHello, State.peerMajor, State.notePeer]

theorem State.hello_other (s : State) (major minor cap : Nat) (hs : s.rd F.CMP_CSB_STAT_STATE 0 = 2) (hm : major < 16)
    (h1 : major ≠ 1) :
    s.hello major minor cap = (s.notePeer major minor cap).wr F.CMP_CSB_STAT_STATE 0 4 := by
  simp [State.hello, State.csbUp, hs, State.takeHello, State.peerMajor, State.notePeer, hm, h1]

theorem State.hello_early (s : State) (major minor cap : Nat) (hs : s.rd F.CMP_CSB_STAT_STATE 0 < 2) :
    s.hello major minor cap = s := by
  have h2 : s.rd F.CMP_CSB_STAT_STATE 0 ≠ 2 := by omega
  simp [State.hello, State.csbUp, h2, show s.rd F.CMP_CSB_STAT_STATE 0 ≠ 3 by omega]

theorem wf_hello {major minor role cap : Nat} (h1 : major < 256) (h2 : minor < 256) (h3 : role < 256) (h4 : cap < 256) :
    Wf.hello major minor role cap = true := by simp [Wf.hello, h1, h2, h3, h4]

theorem hello_entersUp (s : State) (minor role cap : Nat) (hq : Quiet s) (hw : minor < 256 ∧ role < 256 ∧ cap < 256)
    (hs : s.rd F.CMP_CSB_STAT_STATE 0 = 2) (ha : ∀ n ∈ List.range 16, s.associated n = false)
    (hv : ∀ v ∈ List.range 17, (s.view v).handed = s.rd F.MGMT_VIEW_PTR_RSP_TX v) :
    Gives (.hello 1 minor role cap) s [(F.CMP_CSB_STAT_STATE, 0, 3), (F.CMP_CSB_STAT_PEER_MAJOR, 0, 1),
      (F.CMP_CSB_STAT_PEER_MINOR, 0, minor), (F.CMP_CSB_STAT_PEER_CAP, 0, cap % 16)] [.csb] [] fun t => t.csb.seq0 = 0 ∧
      t.csb.rx0 = 0 ∧ t.csb.last0 = 255 ∧ t.csb.q0 = [] ∧ t.csb.un0 = [] := by
  obtain ⟨hmin, hrole, hcap⟩ := hw
  have hu := (s.begun.notePeer 1 minor (cap % 16)).csbEnterUp_unmoved (fun n hn => by
      rw [← ha n hn]
      simp (disch := decide) [State.associated, State.seg, State.notePeer, State.rd_wr_fld]) (fun v hm => by
      rw [State.notePeer]
      simpa (disch := decide) [State.rd_wr_fld] using hv v hm)
  refine Gives.of_result (exec_hello s 1 minor role cap) (wf_hello (by decide) hmin hrole hcap)
    (s.begun.hello_same minor (cap % 16) hs) ?_ ?_ ?_ ?_ ?_
  all_goals generalize (s.begun.notePeer 1 minor (cap % 16)).csbEnterUp = t at hu ⊢
  · exact (hu.1.raised (by simp)).trans hq
  · exact hu.2
  · rw [hu.1.csb (by simp)]
    exact ⟨rfl, rfl, rfl, rfl, rfl⟩
  · refine hu.1.holds ?_ (by simp)
    have hmod : minor % 256 = minor := Nat.mod_eq_of_lt hmin
    simp (disch := decide) [Holds, State.notePeer, State.rd_wr_fld, hmod]
  · refine Unmoved.only (fun p hp => ?_) hu
    simp_all [Vals.parts, State.notePeer]


theorem hello_mismatches (s : State) (major minor role cap : Nat) (hq : Quiet s)
    (hw : major < 16 ∧ minor < 256 ∧ role < 256 ∧ cap < 256 ∧ major ≠ 1) (hs : s.rd F.CMP_CSB_STAT_STATE 0 = 2) :
    Gives (.hello major minor role cap) s [(F.CMP_CSB_STAT_STATE, 0, 4), (F.CMP_CSB_STAT_PEER_MAJOR, 0, major),
      (F.CMP_CSB_STAT_PEER_MINOR, 0, minor), (F.CMP_CSB_STAT_PEER_CAP, 0, cap % 16)] [] [] anyState := by
  obtain ⟨hmaj, hmin, hrole, hcap, h1⟩ := hw
  refine Gives.of_result (exec_hello s major minor role cap) (wf_hello (by omega) hmin hrole hcap)
    (s.begun.hello_other major minor (cap % 16) hs hmaj h1) hq rfl trivial ?_ fun p hp => ?_
  · have hmod : minor % 256 = minor := Nat.mod_eq_of_lt hmin
    have hmod' : major % 16 = major := Nat.mod_eq_of_lt hmaj
    simp (disch := decide) [Holds, State.notePeer, State.rd_wr_fld, hmod, hmod']
  · simp_all [Vals.parts, State.notePeer]

/-! Enabling and resetting -/

theorem State.csbStart_off (s : State) (hc : s.coreRuns = true) (hs : s.rd F.CMP_CSB_STAT_STATE 0 = 0)
    (he : s.rd F.CMP_CSB_CTL_EN 0 = 1) (hx : s.rd F.CLK_STAT_XPLL_LOCK 0 = 1) :
    s.csbStart = s.wr F.CMP_CSB_STAT_STATE 0 1 := by
  simp [State.csbStart, State.flag, hc, hs, he, hx]

theorem State.csbStart_waits (s : State) (h : ¬(s.rd F.CMP_CSB_CTL_EN 0 = 1 ∧ s.rd F.CLK_STAT_XPLL_LOCK 0 = 1)) :
    s.csbStart = s := by
  simp only [State.csbStart, State.flag, beq_iff_eq]
  rw [if_neg (by tauto)]

theorem State.csbOff_down (s : State) (h : s.csbUp = false) : s.csbOff = s.wr F.CMP_CSB_STAT_STATE 0 0 := by
  simp [State.csbOff, h]

theorem State.csbEnable_same (s : State) (en : Bool) (h : s.flag F.CMP_CSB_CTL_EN 0 = en) : s.csbEnable en = s := by
  simp [State.csbEnable, h]

theorem State.csbEnable_off (s : State) (he : s.rd F.CMP_CSB_CTL_EN 0 = 1) (hu : s.csbUp = false) :
    s.csbEnable false = (s.clr F.CMP_CSB_CTL_EN 0).wr F.CMP_CSB_STAT_STATE 0 0 := by
  have hu' : (s.clr F.CMP_CSB_CTL_EN 0).csbUp = false := by
    simpa (disch := decide) [State.csbUp, State.clr, State.rd_wr_fld] using hu
  simp [State.csbEnable, State.flag, he, State.csbOff_down _ hu']

theorem State.csbEnable_on (s : State) (he : s.rd F.CMP_CSB_CTL_EN 0 ≠ 1) :
    s.csbEnable true = (s.setF F.CMP_CSB_CTL_EN 0).csbStart := by
  simp [State.csbEnable, State.flag, he]

theorem csbEnable_starts (s : State) (r : Requester) (hr : CoreReady s r)
    (h : s.rd F.CMP_CSB_CTL_EN 0 ≠ 1 ∧ s.rd F.CMP_CSB_STAT_STATE 0 = 0) :
    Gives (.cmpCsbCtlEn r true) s [(F.CMP_CSB_CTL_EN, 0, 1), (F.CMP_CSB_STAT_STATE, 0, if s.rd F.CLK_STAT_XPLL_LOCK 0 =
      1 then 1 else 0)] [] [.writeAck] anyState := by
  have hon := s.begun.csbEnable_on h.1
  have hc : (s.begun.setF F.CMP_CSB_CTL_EN 0).coreRuns = true := by
    simpa (disch := decide) [State.coreRuns, State.flag, State.setF, State.rd_wr_fld] using hr.2.2
  have hs : (s.begun.setF F.CMP_CSB_CTL_EN 0).rd F.CMP_CSB_STAT_STATE 0 = 0 := by
    simpa (disch := decide) [State.setF, State.rd_wr_fld] using h.2
  have hx' : (s.begun.setF F.CMP_CSB_CTL_EN 0).rd F.CLK_STAT_XPLL_LOCK 0 = s.rd F.CLK_STAT_XPLL_LOCK 0 := by
    simp (disch := decide) [State.setF, State.rd_wr_fld]
  by_cases hx : s.rd F.CLK_STAT_XPLL_LOCK 0 = 1
  · rw [State.csbStart_off _ hc hs (by simp [State.setF]) (hx'.trans hx)] at hon
    refine Gives.of_core (exec_cmpCsbCtlEn s r true) rfl hr hon hr.1 rfl trivial ?_ fun p hp => ?_
    · simp (disch := decide) [Holds, State.setF, State.rd_wr_fld, hx]
    · simp_all [Vals.parts, State.setF]
  · rw [State.csbStart_waits _ fun h => hx (hx'.symm.trans h.2)] at hon
    refine Gives.of_core (exec_cmpCsbCtlEn s r true) rfl hr hon hr.1 rfl trivial ?_ fun p hp => ?_
    · simp (disch := decide) [Holds, State.setF, State.rd_wr_fld, hx, h.2]
    · simp_all [Vals.parts, State.setF]


theorem State.csbReset_down (s : State) (hu : s.csbUp = false) :
    s.csbReset = ((s.wr F.CMP_CSB_STAT_STATE 0 0).putCsb {}).csbStart := by
  rw [State.csbReset, State.csbOff_down s hu]

theorem csbReset_starts (s : State) (r : Requester) (hr : CoreReady s r) (hu : s.csbUp = false) :
    Gives (.cmpCsbCtlRst r) s [(F.CMP_CSB_STAT_STATE, 0, if s.rd F.CMP_CSB_CTL_EN 0 = 1 ∧ s.rd F.CLK_STAT_XPLL_LOCK 0 =
      1 then 1 else 0)] [.csb] [.writeAck] fun t => t.csb = {} := by
  have hoff := s.begun.csbReset_down hu
  have hc : ((s.begun.wr F.CMP_CSB_STAT_STATE 0 0).putCsb {}).coreRuns = true := by
    have h := hr.2.2
    simp only [State.coreRuns, State.flag] at h ⊢
    simpa (disch := decide) [State.rd_wr_fld] using h
  have hs : ((s.begun.wr F.CMP_CSB_STAT_STATE 0 0).putCsb {}).rd F.CMP_CSB_STAT_STATE 0 = 0 := by simp
  have he : ((s.begun.wr F.CMP_CSB_STAT_STATE 0 0).putCsb {}).rd F.CMP_CSB_CTL_EN 0 = s.rd F.CMP_CSB_CTL_EN 0 := by
    simp (disch := decide) [State.rd_wr_fld]
  have hx : ((s.begun.wr F.CMP_CSB_STAT_STATE 0 0).putCsb {}).rd F.CLK_STAT_XPLL_LOCK 0 =
      s.rd F.CLK_STAT_XPLL_LOCK 0 := by
    simp (disch := decide) [State.rd_wr_fld]
  by_cases hstart : s.rd F.CMP_CSB_CTL_EN 0 = 1 ∧ s.rd F.CLK_STAT_XPLL_LOCK 0 = 1
  · rw [State.csbStart_off _ hc hs (he.trans hstart.1) (hx.trans hstart.2)] at hoff
    refine Gives.of_core (exec_cmpCsbCtlRst s r) rfl hr hoff hr.1 rfl rfl ?_ fun p hp => ?_
    · simp [Holds, hstart]
    · simp_all [Vals.parts]
  · rw [State.csbStart_waits _ (by rwa [he, hx])] at hoff
    refine Gives.of_core (exec_cmpCsbCtlRst s r) rfl hr hoff hr.1 rfl rfl ?_ fun p hp => ?_
    · simp [Holds, hstart]
    · simp_all [Vals.parts]

theorem csbLoss_reports (s : State) (hq : Quiet s) (hu : s.csbUp = true) (hp : ∀ n ∈ List.range 16, (s.port n).rejoin = false)
    (hs : s.sparesIdle) (c : Instr) (he : exec c s = effect true s fun a => a.csbLoss 1) :
    Reports c s [(F.CMP_CSB_STAT_STATE, 0, 1), (F.CMP_CSB_CNT_DOWN, 0, min (s.rd F.CMP_CSB_CNT_DOWN
      0 + 1) 0xFF)] [.csb, .fld F.CMP_CSB_CNT2_LOST 0] [⟨54, 0, 0, false⟩] [] NumbersRestart := by
  obtain ⟨hv, ho, hr, hout, hn⟩ := s.begun.csbLoss_up hq hu hp hs
  exact Reports.of_effect he rfl hv ho.of_begun hr hout hn

/-! Clearing the counters -/

section
variable (s : State) (fs : List Fld)

theorem State.clrAll_only (i : Nat) : Only (partsOf fs i) s (s.clrAll fs i) := by
  induction fs generalizing s with
  | nil => exact fun p _ => by simp [State.clrAll]
  | cons f t ih => exact ((s.wr_only f i 0).append (ih (s.clr f i))).mono (by simp [partsOf])

/-- No two fields of a list share a place in the register tables. -/
abbrev IdsDistinct (fs : List Fld) : Prop := ∀ f ∈ fs, ∀ g ∈ fs, g.id = f.id → g = f

theorem State.rd_clrAll_of_zero {f : Fld} {i : Nat} (hd : ∀ g ∈ fs, g.id = f.id → g = f) (h : s.rd f i = 0) :
    (s.clrAll fs i).rd f i = 0 := by
  induction fs generalizing s with
  | nil => exact h
  | cons g t ih =>
    refine ih (s.clr g i) (fun x hx => hd x (by simp [hx])) ?_
    by_cases hg : g.id = f.id
    · rw [hd g (by simp) hg]
      simp [State.clr]
    · rw [State.clr, State.rd_wr_fld _ _ hg, h]

theorem State.rd_clrAll {f : Fld} {i : Nat} (hf : f ∈ fs) (hd : IdsDistinct fs) : (s.clrAll fs i).rd f i = 0 := by
  induction fs generalizing s with
  | nil => cases hf
  | cons g t ih =>
    rcases List.mem_cons.1 hf with rfl | ht
    · exact State.rd_clrAll_of_zero (s.clr f i) t (fun x hx => hd f (by simp) x (by simp [hx])) (by simp [State.clr])
    · exact ih (s.clr g i) ht fun x hx y hy => hd x (by simp [hx]) y (by simp [hy])

theorem forUp_clrAll_only (n : Nat) :
    Only ((List.range n).flatMap (partsOf fs)) s (forUp n (fun k a => a.clrAll fs k) s) := by
  refine forUp_ind (fun i t => Only ((List.range i).flatMap (partsOf fs)) s t) n (fun p _ => by simp) fun i a _ h => ?_
  exact (h.append (a.clrAll_only fs i)).mono (by simp [List.range_succ])

theorem forUp_clrAll_holds (n : Nat) (hd : IdsDistinct fs) :
    Holds ((List.range n).flatMap fun k => fs.map fun f => (f, k, 0)) (forUp n (fun k a => a.clrAll fs k) s) := by
  refine forUp_ind (fun i t => Holds ((List.range i).flatMap fun k => fs.map fun f => (f, k, 0)) t) n
    (fun v hv => by simp at hv) fun i a _ h => ?_
  rw [List.range_succ, List.flatMap_append]
  refine List.forall_mem_append.2 ⟨(a.clrAll_only fs i).holds h fun v hv => ?_, fun v hv => ?_⟩
  · obtain ⟨k, hk, hv⟩ := List.mem_flatMap.1 hv
    obtain ⟨f, -, rfl⟩ := List.mem_map.1 hv
    have hne : k ≠ i := Nat.ne_of_lt (List.mem_range.1 hk)
    simp [partsOf, Ne.symm hne]
  · simp only [List.flatMap_cons, List.flatMap_nil, List.append_nil] at hv
    obtain ⟨f, hf, rfl⟩ := List.mem_map.1 hv
    exact a.rd_clrAll fs hf hd

end

theorem State.clrAll_out (s : State) (fs : List Fld) (i : Nat) : (s.clrAll fs i).out = s.out := by
  induction fs generalizing s with
  | nil => rfl
  | cons f t ih => exact ih (s.clr f i)

/-- What clearing the CSB's counters leaves. -/
theorem csbCounters_clear (s : State) (r : Requester) (hr : CoreReady s r) :
    Gives (.cmpCsbCtlCntClr r) s ((Reg.CMP_CSB_CNT.fields ++ Reg.CMP_CSB_CNT2.fields).map (fun f => (f, 0, 0)) ++
      (List.range 16).flatMap fun n => Reg.CMP_PORT_CNT.fields.map fun f => (f, n, 0)) [] [.writeAck] anyState := by
  have hcsb := (s.begun.clrAll_only (Reg.CMP_CSB_CNT.fields ++ Reg.CMP_CSB_CNT2.fields) 0).of_begun
  have hlink : Holds ((Reg.CMP_CSB_CNT.fields ++ Reg.CMP_CSB_CNT2.fields).map fun f => (f, 0, 0)) _ := fun v hv => by
    obtain ⟨f, hf, rfl⟩ := List.mem_map.1 hv
    exact s.begun.rd_clrAll _ hf (by decide)
  have hout := s.begun.clrAll_out (Reg.CMP_CSB_CNT.fields ++ Reg.CMP_CSB_CNT2.fields) 0
  have hk : s.begun.clrCsbCnt = forUp 16 (fun n a => a.clrAll Reg.CMP_PORT_CNT.fields n)
    (s.begun.clrAll (Reg.CMP_CSB_CNT.fields ++ Reg.CMP_CSB_CNT2.fields) 0) := rfl
  generalize s.begun.clrAll (Reg.CMP_CSB_CNT.fields ++ Reg.CMP_CSB_CNT2.fields) 0 = c at hcsb hlink hout hk
  have hports := forUp_clrAll_only c Reg.CMP_PORT_CNT.fields 16
  have honly := hcsb.append hports
  refine Gives.of_core (exec_cmpCsbCtlCntClr s r) rfl hr hk ?_ ?_ trivial ?_ ?_
  · exact (honly.raised (by decide)).trans hr.1
  · exact (forUp_eq State.out 16 c fun n a => a.clrAll_out _ n).trans hout
  · exact List.forall_mem_append.2 ⟨hports.holds hlink (by decide), forUp_clrAll_holds c _ 16 (by decide)⟩
  · exact honly.mono (by decide)

theorem State.sparesIdle.of_halves {s : State} (h : s.spareState 0 < 2 ∧ s.spareState 1 < 2 ∧ (s.spare 0).peerWanted = [] ∧
    (s.spare 1).peerWanted = []) : s.sparesIdle := by
  obtain ⟨h0, h1, w0, w1⟩ := h
  intro k hk
  interval_cases k
  · exact ⟨h0, w0⟩
  · exact ⟨h1, w1⟩

/-- A command whose effect leaves the state of the link as it finds it. -/
theorem Gives.of_nothing {c : Instr} {s : State} {ok : Bool} {k : State → State} (he : exec c s = effect ok s k)
    (hw : ok = true) (hq : Quiet s) (hk : k s.begun = s.begun) : Gives c s [] [] [] anyState :=
  Gives.of_result he hw hk hq rfl trivial (Holds.nil _) fun p _ => by simp

/-- Settles O25: by the link state, and where it is UP by what is under way, each event makes the writes that a lemma above
names. -/
theorem theSidebandMovesThroughItsStates : Obligations.TheSidebandMovesThroughItsStates := by
  unfold Obligations.TheSidebandMovesThroughItsStates
  refine ⟨fun s hq h => ?aligns, fun s hq h => ?unaligned, hello_entersUp, hello_mismatches,
    fun s major minor role cap hq hw hs => ?early, fun s hq h => ?timer, fun s hq h => ?noTimer,
    fun s r hr ⟨he, hu⟩ => ?disables, csbEnable_starts, fun s r en hr he => ?same, csbReset_starts,
    fun s hq hu _ hp hs => ?violation, fun s hq hu _ hp hs => ?timeout, fun s hq hu => ?down, csbCounters_clear⟩
  case aligns =>
    refine Gives.of_result (exec_csbAligned s) rfl (if_pos h) hq rfl trivial ?_ fun p hp => ?_
    · simp [Holds]
    · simp_all [Vals.parts]
  case unaligned => exact Gives.of_nothing (exec_csbAligned s) rfl hq (if_neg h)
  case early =>
    obtain ⟨hmaj, hmin, hrole, hcap⟩ := hw
    exact Gives.of_nothing (exec_hello s major minor role cap) (wf_hello hmaj hmin hrole hcap) hq
      (s.begun.hello_early major minor (cap % 16) hs)
  case timer =>
    refine Gives.of_result (exec_helloTimer s) rfl (if_pos h) hq rfl trivial (Holds.nil _) fun p _ => ?_
    simp [State.sendHello, State.emitPlain, State.sendFrame]
  case noTimer => exact Gives.of_nothing (exec_helloTimer s) rfl hq (if_neg h)
  case disables =>
    refine Gives.of_core (exec_cmpCsbCtlEn s r false) rfl hr (s.begun.csbEnable_off he hu) hr.1 rfl trivial ?_ fun p hp => ?_
    · simp (disch := decide) [Holds, State.clr, State.rd_wr_fld]
    · simp_all [Vals.parts, State.clr]
  case same =>
    exact Gives.of_core (exec_cmpCsbCtlEn s r en) rfl hr (s.begun.csbEnable_same en he) hr.1 rfl trivial (Holds.nil _)
      fun p _ => by simp
  case violation => exact csbLoss_reports s hq hu hp (.of_halves hs) _ (exec_csbCodeViolationLoss s)
  case timeout => exact csbLoss_reports s hq hu hp (.of_halves hs) _ (exec_lossTmo s)
  case down => exact Gives.of_nothing (exec_lossTmo s) rfl hq (s.begun.csbLoss_down 1 hu)

end Sys2Proof.Machine
end

section
/-! O10: resets of the device (R39 to R41, R330, R333): what they leave as the state right after reset has it. -/
namespace Sys2Proof.Machine

/-! Setting fields back to what they read after reset -/

/-- The state right after reset with memories that last. -/
abbrev State.resetWith (m : List Host.Cell) : State := State.reset.putMem m

theorem Part.same_wr_reset {m : List Host.Cell} (t : State) (f : Fld) (i v : Nat) (h : v % 2 ^ f.w = f.reset i) :
    Part.same (.fld f i) (.resetWith m) (t.wr f i v) := fun d => by
  show (t.regs.set (f.key i) (v % 2 ^ f.w) (f.reset i)).get (f.key i) d = d
  rw [SMap.set, if_pos h, SMap.get_erase_self]

theorem State.resetWith_rd (m : List Host.Cell) (f : Fld) (i : Nat) : (State.resetWith m).rd f i = f.reset i := rfl

/-- The fields that the levels of the QSTOP pins set. -/
def stopFields : List Fld :=
  [F.SUMP_QSTOP_STAT_A, F.SUMP_QSTOP_STAT_B, F.SUMP_QSTOP_STAT_DISAG, F.SUMP_QSTOP_STAT_QUIESCED]

theorem State.qstopLevels_released (t : State) (hd : t.flag F.SUMP_QSTOP_STAT_DISAG 0 = false) (hc : t.causes = []) :
    t.qstopLevels false false = t.clrAll stopFields 0 := by
  simp [State.qstopLevels, hd, State.condOff, hc, State.wrB, State.clr, b2n, State.clrAll, stopFields]

section
variable {ps : List Part} {m : List Host.Cell} {t : State} (h : Only ps (.resetWith m) t)
include h

/-- Setting a field back to its reset value leaves what was as after reset. -/
theorem Only.wr_reset (f : Fld) (i : Nat) {v : Nat} (hv : v % 2 ^ f.w = f.reset i) : Only ps (.resetWith m) (t.wr f i v) :=
  fun p hp => by
    by_cases hf : p = .fld f i
    · subst hf
      exact Part.same_wr_reset t f i v hv
    · exact Part.same_trans (h p hp) (Part.same_wr t f i v hf)

theorem Only.clrAll_reset (fs : List Fld) (i : Nat) (hz : ∀ f ∈ fs, f.reset i = 0) :
    Only ps (.resetWith m) (t.clrAll fs i) := by
  induction fs generalizing t with
  | nil => exact h
  | cons f l ih =>
    refine ih (h.wr_reset f i ?_) fun g hg => hz g (by simp [hg])
    rw [hz f (by simp)]
    exact Nat.zero_mod _

/-- With both PLLs unlocked the domains stay with the ring oscillator. -/
theorem Only.switchDomains (hx : t.flag F.CLK_STAT_XPLL_LOCK 0 = false) (hm : t.flag F.CLK_STAT_MPLL_LOCK 0 = false) :
    Only ps (.resetWith m) t.switchDomains := by
  have he : t.switchDomains = (t.wr F.CLK_STAT_SAFE_ON 0 0).wr F.CLK_STAT_MGMT_ON 0 0 := by
    have hm' : (t.wr F.CLK_STAT_SAFE_ON 0 0).flag F.CLK_STAT_MPLL_LOCK 0 = false := by
      rw [State.flag, State.rd_wr_fld _ _ (by decide)]
      exact hm
    simp [State.switchDomains, hx, State.wrB, b2n, hm']
  rw [he]
  exact (h.wr_reset _ _ rfl).wr_reset _ _ rfl

end

/-! What lasts -/

/-- The state right after reset, with what a reset keeps. -/
def State.blank (s : State) (por : Bool) : State where
  pending := s.pending
  mem := if por then [] else s.mem
  fresh := s.fresh
  out := (forUp 66 (fun ls a => a.setTx false ls) s).out
  porDrips := if por then 0 else s.porDrips
  tap := if por then none else s.tap
  boot := { flash := s.boot.flash, keys := s.boot.keys, area := s.boot.area }

/-- The parts of it that the state right after reset does not give. -/
def blankParts (por : Bool) : List Part := [.pending, .boot, .fresh] ++ if por then [] else [.porDrips, .tap]

theorem State.blank_only (s : State) (por : Bool) :
    Only (blankParts por) (.resetWith (if por then [] else s.mem)) (s.blank por) := by
  intro p hp
  cases p
  case pending | boot | fresh => simp [blankParts] at hp
  case porDrips | tap =>
    cases por
    · simp [blankParts] at hp
    · rfl
  case field | mirror => exact fun _ => rfl
  all_goals rfl

theorem forUp_only {f : Nat → State → State} (n : Nat) (s : State) {ps : List Part}
    (h : ∀ i < n, ∀ a, Only ps a (f i a)) : Only ps s (forUp n f s) :=
  forUp_keeps (Only ps s) n (fun p _ => by simp) fun i a hi ha => ha.trans (h i hi a)

theorem State.setPort_only (s : State) (n : Nat) (q : PortSt) : Only [.port n] s (s.setPort n q) :=
  fun _ hp => Part.same_setPort s n q (by simpa using hp)

/-- The levels of the pins. -/
def State.pinLevels (t s : State) : State :=
  forUp 16 (fun n a =>
    ((a.wr F.PORT_HP_STAT_PERST n (s.rd F.PORT_HP_STAT_PERST n)).wrB F.PORT_HP_STAT_PRSNT n (!(s.port n).prsntHigh)).modPort
      n fun p => { p with prsntHigh := (s.port n).prsntHigh }) t

theorem State.pinLevels_only (t s : State) : Only pinParts t (t.pinLevels s) := by
  refine forUp_only 16 t fun n hn a => ?_
  refine (((a.wr_only _ _ _).append (State.wr_only _ _ _ _)).append (State.setPort_only _ _ _)).mono fun p hp => ?_
  refine List.mem_flatMap.2 ⟨n, List.mem_range.2 hn, ?_⟩
  simpa using hp

/-- The sources that the clock monitor finds present. -/
def State.sources (t s : State) : State :=
  forUp 3 (fun k a => a.wr (F.srcOk k) 0 (s.rd (F.srcOk k) 0)) (t.modClk fun c => { c with lost := s.clk.lost })

def sourceParts : List Part := .clk :: (List.range 3).map fun k => .fld (F.srcOk k) 0

theorem State.sources_only (t s : State) : Only sourceParts t (t.sources s) := by
  have hclk : Only sourceParts t (t.modClk fun c => { c with lost := s.clk.lost }) := fun p hp =>
    Part.same_modClk t _ fun h => hp (by simp [h, sourceParts])
  refine hclk.trans (forUp_only 3 _ fun k hk a => (a.wr_only _ _ _).mono ?_)
  simpa [sourceParts] using ⟨k, hk, rfl⟩

theorem State.keepPins_eq (t s : State) (por : Bool) :
    t.keepPins s por = if por then t.pinLevels s else (t.pinLevels s).sources s := rfl

/-- The causes of earlier resets are written again as they were. -/
def State.keepCauses (t s : State) : State := F.rstCauses.foldl (fun a f => a.wr f 0 (s.rd f 0)) t

theorem foldl_wr_only (fs : List Fld) (v : Fld → Nat) (t : State) :
    Only (partsOf fs 0) t (fs.foldl (fun a f => a.wr f 0 (v f)) t) := by
  induction fs generalizing t with
  | nil => exact fun p _ => by simp
  | cons f l ih => exact ((t.wr_only f 0 (v f)).append (ih _)).mono (by simp [partsOf])

theorem State.keepCauses_only (t s : State) : Only (F.rstCauses.map (.fld · 0)) t (t.keepCauses s) :=
  foldl_wr_only F.rstCauses (fun f => s.rd f 0) t

/-- What a reset keeps, with the straps sampled. -/
def State.strapped (s : State) (por : Bool) (st : Straps) : State :=
  ((s.blank por).wr F.BOOT_STAT_BOOTSEL 0 st.bootsel).wr F.MGMT_BUS_STAT_STATIC_ADDR 0 (0x58 + st.addr)

/-- The levels that a reset keeps: of the pins, and where the power stays on of the sources and the causes. -/
def State.levels (t s : State) (por : Bool) : State :=
  if por then t.pinLevels s else ((t.pinLevels s).sources s).keepCauses s

def levelParts (por : Bool) : List Part :=
  pinParts ++ if por then [] else sourceParts ++ F.rstCauses.map (.fld · 0)

theorem State.levels_only (t s : State) (por : Bool) : Only (levelParts por) t (t.levels s por) := by
  cases por
  · exact (((t.pinLevels_only s).append (State.sources_only _ s)).append (State.keepCauses_only _ s)).mono
      (by simp [levelParts])
  · exact (t.pinLevels_only s).mono (by simp [levelParts])

/-- No pin or trip makes a reset device act. -/
abbrev NoStop (s : State) : Prop :=
  s.rd F.PWR_THERM_STAT_TRIP_NOW 0 ≠ 1 ∧ s.rd F.SUMP_QSTOP_STAT_A 0 ≠ 1 ∧ s.rd F.SUMP_QSTOP_STAT_B 0 ≠ 1

/-- The parts that the state right after a reset does not give. -/
def wipedParts (por : Bool) : List Part :=
  blankParts por ++ [.fld F.BOOT_STAT_BOOTSEL 0, .fld F.MGMT_BUS_STAT_STATIC_ADDR 0] ++ levelParts por

section
variable (s : State) (por : Bool) (st : Straps)

theorem State.levels_strapped_only :
    Only (wipedParts por) (.resetWith (if por then [] else s.mem)) ((s.strapped por st).levels s por) :=
  (((s.blank_only por).append (State.wr_only _ F.BOOT_STAT_BOOTSEL 0 st.bootsel)).append
    (State.wr_only _ F.MGMT_BUS_STAT_STATIC_ADDR 0 (0x58 + st.addr))).append (State.levels_only _ s por) |>.mono
      (by simp [wipedParts])

theorem State.wipe_eq (hn : NoStop s) : s.wipe por st = ((s.strapped por st).levels s por).clrAll stopFields 0 := by
  obtain ⟨ht, ha, hb⟩ := hn
  have hT : s.flag F.PWR_THERM_STAT_TRIP_NOW 0 = false := by simpa [State.flag] using ht
  have hA : s.flag F.SUMP_QSTOP_STAT_A 0 = false := by simpa [State.flag] using ha
  have hB : s.flag F.SUMP_QSTOP_STAT_B 0 = false := by simpa [State.flag] using hb
  have ho := s.levels_strapped_only por st
  have hdis : ((s.strapped por st).levels s por).flag F.SUMP_QSTOP_STAT_DISAG 0 = false := by
    rw [State.flag, ho.rd (by cases por <;> decide)]
    rfl
  rw [← State.qstopLevels_released _ hdis (ho .causes (by cases por <;> decide))]
  cases por <;>
    simp only [State.wipe, hA, hB, hT, State.keepPins_eq, State.strapped, State.levels, State.keepCauses, State.blank,
      Bool.false_eq_true, if_false, if_true]

theorem State.wipe_only (hn : NoStop s) :
    Only (wipedParts por) (.resetWith (if por then [] else s.mem)) (s.wipe por st) := by
  rw [s.wipe_eq por st hn]
  exact (s.levels_strapped_only por st).clrAll_reset stopFields 0 (by decide)

theorem State.wipe_strapped (hn : NoStop s) :
    Only (levelParts por ++ partsOf stopFields 0) (s.strapped por st) (s.wipe por st) := by
  rw [s.wipe_eq por st hn]
  exact (State.levels_only _ s por).append (State.clrAll_only _ stopFields 0)

theorem State.wipe_straps (hn : NoStop s) (hst : st.addr < 8 ∧ st.bootsel < 4) :
    Holds [(F.BOOT_STAT_BOOTSEL, 0, st.bootsel), (F.MGMT_BUS_STAT_STATIC_ADDR, 0, 0x58 + st.addr)] (s.wipe por st) := by
  refine (s.wipe_strapped por st hn).holds ?_ ?_
  rotate_left
  · simp only [List.forall_mem_cons]
    cases por <;> exact ⟨by decide, by decide, by simp⟩
  have hb : st.bootsel % 4 = st.bootsel := Nat.mod_eq_of_lt hst.2
  have ha : (0x58 + st.addr) % 128 = 0x58 + st.addr := Nat.mod_eq_of_lt (by omega)
  simp (disch := decide) [Holds, State.strapped, State.rd_wr_fld, hb, ha]

end


/-! Power-on resets -/

theorem State.strapped_boot (s : State) (por : Bool) (st : Straps) :
    (s.strapped por st).boot = { flash := s.boot.flash, keys := s.boot.keys, area := s.boot.area } := rfl

theorem Resets.of_wipe {c : Instr} {s t : State} {m : List Host.Cell} {vs : Vals} {ps qs : List Part} {P : State → Prop}
    {ok : Bool} {k : State → State} (he : exec c s = effect ok s k) (hw : ok = true) (hk : k s.begun = t)
    (ho : Only qs (.resetWith m) t) (hq : Part.raised ∉ qs) (hsub : ∀ p ∈ qs, p ∈ vs.parts ++ ps) (hv : Holds vs t) (hp : P t) :
    Resets c s (.resetWith m) vs ps P := by
  subst hk
  exact ⟨_, he.trans (effect_quiet hw s k (ho.raised hq)), hv, ho.mono hsub, hp⟩

theorem powerOn_resets (s : State) (st : Straps) (hst : st.addr < 8 ∧ st.bootsel < 4) (hn : NoStop s) :
    Resets (.powerOnReset st) s State.reset [(F.BOOT_STAT_BOOTSEL, 0, st.bootsel), (F.MGMT_BUS_STAT_STATIC_ADDR, 0, 0x58
      + st.addr), (F.GLB_RST_CAUSE_POR, 0, 1), (F.BOOT_STAT_STAGE, 0, 1)] (pinParts ++ [.pending, .boot, .fresh]) fun t
      => t.pending = s.pending ∧ t.fresh = s.fresh ∧ t.boot =
      { flash := s.boot.flash, keys := s.boot.keys, area := s.boot.area } := by
  have hw : Wf.powerOnReset st = true := by simp [Wf.powerOnReset, Straps.wf, hst]
  have ho := s.begun.wipe_only true st hn
  have hs := s.begun.wipe_strapped true st hn
  have hv := s.begun.wipe_straps true st hn hst
  refine Resets.of_wipe (m := []) (exec_powerOnReset s st) hw rfl ho (by decide) ?_ ?_ ?_
  · simp +contextual [wipedParts, blankParts, levelParts, Vals.parts]
  · exact List.forall_mem_append.2 ⟨hv, Holds.cons (ho.rd (by decide)) (Holds.cons (ho.rd (by decide)) (Holds.nil _))⟩
  · exact ⟨hs .pending (by decide), hs .fresh (by decide), hs .boot (by decide)⟩


theorem State.putHeld_only (s : State) (x : Bool) : Only [.held] s (s.putHeld x) :=
  fun _ hp => Part.same_putHeld s x (by simpa using hp)

theorem brownOut_resets (s : State) (rail : Nat) (hr : rail < 4) (hn : NoStop s) :
    Resets (.brownOut rail) s State.reset [(F.GLB_RST_CAUSE_POR, 0, 1), (F.BOOT_STAT_STAGE, 0, 1)] (pinParts ++
      [.pending, .boot, .fresh, .held, .fld F.BOOT_STAT_BOOTSEL 0, .fld F.MGMT_BUS_STAT_STATIC_ADDR 0]) fun t =>
      t.pending = s.pending ∧ t.boot.flash = s.boot.flash ∧ t.held = true := by
  have hw : Wf.brownOut rail = true := by simp [Wf.brownOut, hr]
  have ho := (s.begun.wipe_only true s.begun.lastStraps hn).append (State.putHeld_only _ true)
  have hs := (s.begun.wipe_strapped true s.begun.lastStraps hn).append (State.putHeld_only _ true)
  have hboot : ((s.begun.wipe true s.begun.lastStraps).putHeld true).boot = (s.begun.strapped true s.begun.lastStraps).boot :=
    hs .boot (by decide)
  refine Resets.of_wipe (m := []) (exec_brownOut s rail) hw rfl ho (by decide) ?_ ?_ ?_
  · simp +contextual [wipedParts, blankParts, levelParts, Vals.parts, or_imp]
  · exact Holds.cons (ho.rd (by decide)) (Holds.cons (ho.rd (by decide)) (Holds.nil _))
  · exact ⟨hs .pending (by decide), (congrArg BootSt.flash hboot).trans rfl, rfl⟩

/-! Resets that leave the power on -/

theorem State.switchDomains_only (t : State) :
    Only (partsOf [F.CLK_STAT_SAFE_ON, F.CLK_STAT_MGMT_ON] 0) t t.switchDomains :=
  (t.wr_only F.CLK_STAT_SAFE_ON 0 _).append (State.wr_only _ F.CLK_STAT_MGMT_ON 0 _)

/-- A reset's cause, and the boot ROM's choice of the crystal. -/
def State.warmSet (t : State) (cause : Fld) : State :=
  ((t.wr cause 0 1).wr F.CLK_SRC_SAFE 0 1).wr F.CLK_SRC_MGMT 0 1

theorem State.warmSet_only (t : State) (cause : Fld) :
    Only (partsOf [cause, F.CLK_SRC_SAFE, F.CLK_SRC_MGMT] 0) t (t.warmSet cause) :=
  ((t.wr_only cause 0 1).append (State.wr_only _ F.CLK_SRC_SAFE 0 1)).append (State.wr_only _ F.CLK_SRC_MGMT 0 1)

/-- The causes of the resets that leave the power on. -/
abbrev WarmCause (f : Fld) : Prop := f = F.GLB_RST_CAUSE_PIN ∨ f = F.GLB_RST_CAUSE_DEVICE

section
variable (s : State) (cause : Fld) (st : Straps)

theorem State.warmStart_eq :
    s.warmStart cause st = ((s.wipe false st).warmSet cause).switchDomains.wr F.BOOT_STAT_STAGE 0 3 := rfl

/-- The parts that the state right after a warm reset does not give. -/
def warmResetParts : List Part :=
  wipedParts false ++ partsOf [cause, F.CLK_SRC_SAFE, F.CLK_SRC_MGMT] 0 ++ [.fld F.BOOT_STAT_STAGE 0]

theorem State.warmStart_only (hn : NoStop s) (hc : WarmCause cause) :
    Only (warmResetParts cause) (.resetWith s.mem) (s.warmStart cause st) := by
  have hw := (s.wipe_only false st hn).append (State.warmSet_only _ cause)
  refine (hw.switchDomains ?_ ?_).append (State.wr_only _ F.BOOT_STAT_STAGE 0 3)
  · rw [State.flag, hw.rd (by rcases hc with rfl | rfl <;> decide)]
    rfl
  · rw [State.flag, hw.rd (by rcases hc with rfl | rfl <;> decide)]
    rfl

/-- What follows the wipe in a warm reset. -/
theorem State.warmStart_wiped : Only (partsOf ([cause, F.CLK_SRC_SAFE, F.CLK_SRC_MGMT] ++ [F.CLK_STAT_SAFE_ON,
    F.CLK_STAT_MGMT_ON, F.BOOT_STAT_STAGE]) 0) (s.wipe false st) (s.warmStart cause st) :=
  ((State.warmSet_only _ cause).append (State.switchDomains_only _)).append (State.wr_only _ F.BOOT_STAT_STAGE 0 3)

theorem State.warmStart_holds (hc : WarmCause cause) : Holds [(cause, 0, 1), (F.BOOT_STAT_STAGE, 0, 3),
    (F.CLK_SRC_SAFE, 0, 1), (F.CLK_SRC_MGMT, 0, 1)] (s.warmStart cause st) := by
  rcases hc with rfl | rfl <;>
    simp (disch := decide) [Holds, State.warmStart_eq, State.switchDomains, State.wrB, State.warmSet, State.rd_wr_fld]

end


theorem State.sources_lost (t s : State) : (t.sources s).clk.lost = s.clk.lost := by
  have h : (t.sources s).clk = { t.clk with lost := s.clk.lost } := forUp_eq State.clk 3 _ fun _ _ => rfl
  rw [h]

theorem State.keepCauses_por (t s : State) : (t.keepCauses s).rd F.GLB_RST_CAUSE_POR 0 = s.rd F.GLB_RST_CAUSE_POR 0 % 2 := by
  simp [State.keepCauses, F.rstCauses]

/-- Where the power stays on, the sources that are lost and the power-on cause last. -/
theorem State.wipe_keeps (s : State) (st : Straps) (hn : NoStop s) :
    (s.wipe false st).clk.lost = s.clk.lost ∧ (s.wipe false st).rd F.GLB_RST_CAUSE_POR 0 = s.rd F.GLB_RST_CAUSE_POR 0 % 2 := by
  rw [s.wipe_eq false st hn]
  have hstop := ((s.strapped false st).levels s false).clrAll_only stopFields 0
  have hclk : _ = ((s.strapped false st).levels s false).clk := hstop .clk (by decide)
  have hlev : ((s.strapped false st).levels s false).clk = (((s.strapped false st).pinLevels s).sources s).clk :=
    State.keepCauses_only _ s .clk (by decide)
  refine ⟨?_, (hstop.rd (by decide)).trans (State.keepCauses_por _ s)⟩
  rw [hclk, hlev, State.sources_lost]

theorem pin_resets (s : State) (st : Straps) (hst : st.addr < 8 ∧ st.bootsel < 4) (hn : NoStop s) :
    Resets (.pinReset st) s (State.reset.putMem s.mem) [(F.BOOT_STAT_BOOTSEL, 0, st.bootsel),
      (F.MGMT_BUS_STAT_STATIC_ADDR, 0, 0x58 + st.addr), (F.GLB_RST_CAUSE_PIN, 0, 1), (F.BOOT_STAT_STAGE, 0, 3),
      (F.CLK_SRC_SAFE, 0, 1), (F.CLK_SRC_MGMT, 0, 1)] (pinParts ++ warmParts) fun t => t.pending = s.pending ∧
      t.boot.flash = s.boot.flash ∧ t.tap = s.tap ∧ t.clk.lost = s.clk.lost ∧ t.rd F.GLB_RST_CAUSE_POR 0 = s.rd
      F.GLB_RST_CAUSE_POR 0 % 2 := by
  have hw : Wf.pinReset st = true := by simp [Wf.pinReset, Straps.wf, hst]
  have ho := s.begun.warmStart_only F.GLB_RST_CAUSE_PIN st hn (.inl rfl)
  have hwiped := s.begun.warmStart_wiped F.GLB_RST_CAUSE_PIN st
  have hs := (s.begun.wipe_strapped false st hn).append hwiped
  obtain ⟨hlost, hpor⟩ := s.begun.wipe_keeps st hn
  have hstraps := hwiped.holds (s.begun.wipe_straps false st hn hst) (by
    simp only [List.forall_mem_cons]
    exact ⟨by decide, by decide, by simp⟩)
  have hboot : (s.begun.warmStart F.GLB_RST_CAUSE_PIN st).boot = (s.begun.strapped false st).boot := hs .boot (by decide)
  have hclk : (s.begun.warmStart F.GLB_RST_CAUSE_PIN st).clk = (s.begun.wipe false st).clk := hwiped .clk (by decide)
  refine Resets.of_wipe (exec_pinReset s st) hw rfl ho (by decide) ?_ ?_ ?_
  · simp +contextual [warmResetParts, wipedParts, blankParts, levelParts, sourceParts, warmParts, partsOf, Vals.parts, or_imp]
  · exact List.forall_mem_append.2 ⟨hstraps, s.begun.warmStart_holds _ st (.inl rfl)⟩
  · exact ⟨hs .pending (by decide), (congrArg BootSt.flash hboot).trans rfl, hs .tap (by decide),
      (congrArg ClkSt.lost hclk).trans hlost, (hwiped.rd (by decide)).trans hpor⟩


theorem State.viaBus_served {s : State} {r : Requester} (h : s.reaches r = true) (k : State → State) :
    s.viaBus r k = (k s).emit .writeAck := by simp [State.viaBus, h]

theorem Only.emit {ps : List Part} {s t : State} (h : Only ps s t) (o : Out) : Only ps s (t.emit o) :=
  fun p hp => Part.same_trans (h p hp) (Part.same_emit p t o)

theorem State.askDeviceReset_open (s : State) (req : Nat) (h : s.rd F.GLB_LOCK_RST 0 ≠ 1) :
    s.askDeviceReset req = s.deviceReset := by simp [State.askDeviceReset, State.flag, h]

theorem device_resets (s : State) (r : Requester) (hr : BusReady s r) (hl : s.rd F.GLB_LOCK_RST 0 ≠ 1) (hn : NoStop s) :
    Resets (.glbRstDevice r) s (State.reset.putMem s.mem) [(F.GLB_RST_CAUSE_DEVICE, 0, 1), (F.BOOT_STAT_STAGE, 0, 3),
      (F.CLK_SRC_SAFE, 0, 1), (F.CLK_SRC_MGMT, 0, 1)] (pinParts ++ warmParts ++ [.fld F.BOOT_STAT_BOOTSEL 0, .fld
      F.MGMT_BUS_STAT_STATIC_ADDR 0]) fun t => t.pending = s.pending ∧ t.boot.flash = s.boot.flash ∧ t.tap = s.tap := by
  have hk : s.begun.viaBus r (fun a => a.askDeviceReset (reqCode r)) = s.begun.deviceReset.emit .writeAck := by
    rw [State.viaBus_served (s := s.begun) hr.2, State.askDeviceReset_open s.begun _ hl]
  have ho := s.begun.warmStart_only F.GLB_RST_CAUSE_DEVICE s.begun.lastStraps hn (.inr rfl)
  have hs := (s.begun.wipe_strapped false s.begun.lastStraps hn).append
    (s.begun.warmStart_wiped F.GLB_RST_CAUSE_DEVICE s.begun.lastStraps)
  have hv := s.begun.warmStart_holds F.GLB_RST_CAUSE_DEVICE s.begun.lastStraps (.inr rfl)
  rw [State.deviceReset] at hk
  generalize s.begun.warmStart F.GLB_RST_CAUSE_DEVICE s.begun.lastStraps = t at hk ho hs hv
  have hboot : t.boot = (s.begun.strapped false s.begun.lastStraps).boot := hs .boot (by decide)
  refine Resets.of_wipe (exec_glbRstDevice s r) rfl hk (ho.emit .writeAck) (by decide) ?_ hv ?_
  · simp +contextual [warmResetParts, wipedParts, blankParts, levelParts, sourceParts, warmParts, partsOf, Vals.parts, or_imp]
  · exact ⟨hs .pending (by decide), (congrArg BootSt.flash hboot).trans rfl, hs .tap (by decide)⟩

theorem State.refuse_again (s : State) (f : Fld) (req addr : Nat) (h : s.werrAny = true) :
    s.refuse f req addr = (s.setF f 0).putRefused true := by simp [State.refuse, h]

theorem Gives.of_bus {c : Instr} {s t : State} {vs : Vals} {P : State → Prop} {ps : List Part} {ok : Bool} {r : Requester}
    {k : State → State} (he : exec c s = effect ok s fun a => a.viaBus r k) (hw : ok = true) (hr : BusReady s r)
    (hk : k s.begun = t) (hq : t.raised = []) (ho : t.out = []) (hp : P (t.emit .writeAck)) (hv : Holds vs t)
    (hf : Only (vs.parts ++ ps) s t) : Gives c s vs ps [.writeAck] P := by
  have hk : s.begun.viaBus r k = t.emit .writeAck := by rw [State.viaBus_served (s := s.begun) hr.2, hk]
  refine Gives.of_result he hw hk hq ?_ hp hv (hf.emit _)
  show t.out ++ _ = _
  rw [ho]
  rfl

theorem lockedReset_refused (s : State) (r : Requester) (hr : BusReady s r) (hl : s.rd F.GLB_LOCK_RST 0 = 1)
    (ha : s.werrAny = true) :
    Gives (.glbRstDevice r) s [(F.GLB_WERR_GLB, 0, 1)] [] [.writeAck] fun t => t.refusedNow = true := by
  have hk : s.begun.askDeviceReset (reqCode r) = (s.begun.setF F.GLB_WERR_GLB 0).putRefused true := by
    have hf : s.begun.flag F.GLB_LOCK_RST 0 = true := by simp [State.flag, hl]
    rw [State.askDeviceReset, if_pos hf, State.refuse_again s.begun _ _ _ ha]
  refine Gives.of_bus (exec_glbRstDevice s r) rfl hr hk hr.1 rfl rfl ?_ fun p hp => ?_
  · simp [Holds, State.setF]
  · simp_all [Vals.parts, State.setF]

/-! Resets of the Lantern core -/

theorem State.setView_self (s : State) (v : Nat) : Unmoved s (s.setView v (s.view v)) := by
  refine ⟨fun p _ => ?_, rfl⟩
  by_cases h : p = .view v
  · subst h
    exact s.view_setView v _
  · exact Part.same_setView s v _ h

/-- The transmit engines start again with nothing on its way. -/
theorem State.rehand_unmoved (s : State) (v : Nat) (hh : (s.view v).handed = s.rd F.MGMT_VIEW_PTR_RSP_TX v)
    (hq : (s.view v).q3 = []) : Unmoved s (s.rehand v) := by
  have hm : (s.modView v fun w => { w with q3 := [] }) = s.setView v (s.view v) := by rw [State.modView, ← hq]
  rw [State.rehand, hm, hh, ptrDist_self]
  exact s.setView_self v

/-- No response is on its way to a transport. -/
abbrev NoneSent (s : State) : Prop :=
  ∀ v ∈ List.range 17, (s.view v).handed = s.rd F.MGMT_VIEW_PTR_RSP_TX v ∧ (s.view v).q3 = []

theorem State.rehandAll_unmoved (s : State) (h : NoneSent s) : Unmoved s (forUp 17 (fun v a => a.rehand v) s) := by
  refine forUp_unmoved 17 s fun v hv a ha => ?_
  obtain ⟨hh, hq⟩ := h v (List.mem_range.2 hv)
  have hview : a.view v = s.view v := ha.1 (.view v) (by simp)
  have htx : a.rd F.MGMT_VIEW_PTR_RSP_TX v = s.rd F.MGMT_VIEW_PTR_RSP_TX v := ha.1.rd (by simp)
  exact a.rehand_unmoved v (by rw [hview, htx, hh]) (by rw [hview, hq])

/-- What a Lantern reset clears, its cause noted (R39, R316, R326, R387). -/
def State.lanternCleared (s : State) (cause : Fld) : State :=
  let t := (((s.setF cause 0).clrAll [F.MGMT_STAT_LRUN, F.MGMT_SEC_STAT_SPDM] 0).clr F.SUMP_LWDOG_STAT_RUN 0).clr
    F.MGMT_SEC_STAT_SEC_HOLD 0
  let t := (t.putSnaps (t.snaps.filter fun e => e.1 % 4 == 2)).putSpdm {}
  let t := t.modBoot fun b => { b with lantern := some t.drip, newFw := false, pldm := {} }
  (t.putBus {}).clrAll [F.MGMT_STAT_BUS_MODE, F.MGMT_BUS_STAT_DA_VALID, F.MGMT_BUS_STAT_DYN_ADDR] 0

/-- The causes of a Lantern reset on its own. -/
abbrev LanternCause (f : Fld) : Prop := f = F.GLB_RST_CAUSE_LAN_REG ∨ f = F.GLB_RST_CAUSE_LAN_WDOG

/-- The fields that a Lantern reset clears. -/
def lanternFields : List Fld :=
  [F.MGMT_STAT_LRUN, F.MGMT_SEC_STAT_SPDM, F.SUMP_LWDOG_STAT_RUN, F.MGMT_SEC_STAT_SEC_HOLD, F.MGMT_STAT_BUS_MODE,
    F.MGMT_BUS_STAT_DA_VALID, F.MGMT_BUS_STAT_DYN_ADDR]

theorem State.warmPath_noFlash (s : State) (byAct : Bool) (h : s.boot.flash = none) : s.warmPath byAct = s := by
  simp [State.warmPath, h]

section
variable (s : State) (cause : Fld)

theorem State.lanternCleared_only :
    Only (partsOf (cause :: lanternFields) 0 ++ [.snaps, .spdm, .boot, .bus]) s (s.lanternCleared cause) := by
  intro p hp
  simp_all [State.lanternCleared, partsOf, lanternFields, State.clrAll, State.clr, State.setF]

theorem State.lanternCleared_noneSent (hc : LanternCause cause) (hs : NoneSent s) : NoneSent (s.lanternCleared cause) := by
  intro v hv
  have h := s.lanternCleared_only cause
  have hview : (s.lanternCleared cause).view v = s.view v := h (.view v) (by simp [partsOf])
  have hfld : Part.fld F.MGMT_VIEW_PTR_RSP_TX v ∉ partsOf (cause :: lanternFields) 0 := by
    refine fld_notMem_partsOf ?_
    rcases hc with rfl | rfl <;> decide
  rw [hview, h.rd (by simpa using hfld)]
  exact hs v hv

theorem State.lanternReset_eq (hc : LanternCause cause) (hf : s.boot.flash = none) (hd : s.secDefer = none) (hs : NoneSent s) :
    ∃ u, Unmoved (s.lanternCleared cause) u ∧ s.lanternReset cause false = u.wr F.MGMT_STAT_SMB_PEND 0 0 := by
  have hu := State.rehandAll_unmoved _ (s.lanternCleared_noneSent cause hc hs)
  refine ⟨_, hu, ?_⟩
  have hstop : (((s.setF cause 0).clrAll [F.MGMT_STAT_LRUN, F.MGMT_SEC_STAT_SPDM] 0).clr F.SUMP_LWDOG_STAT_RUN 0).secDefer
    = none := hd
  have he : s.lanternReset cause false =
      ((forUp 17 (fun v a => a.rehand v) (s.lanternCleared cause)).showPend).warmPath false := by
    simp only [State.lanternReset, State.secureRelease_none _ hstop, State.busRestart, State.lanternCleared]
  rw [he]
  generalize forUp 17 (fun v a => a.rehand v) (s.lanternCleared cause) = u at hu ⊢
  have hbus : u.bus = {} := hu.1 .bus (by simp)
  have hshow : u.showPend = u.wr F.MGMT_STAT_SMB_PEND 0 0 := by simp [State.showPend, hbus, State.wrB, b2n]
  have hboot : u.boot = (s.lanternCleared cause).boot := hu.1 .boot (by simp)
  rw [hshow, State.warmPath_noFlash]
  rw [State.wr_boot, hboot]
  exact hf

theorem State.lanternCleared_holds (hc : LanternCause cause) :
    Holds ((cause, 0, 1) :: lanternFields.map fun f => (f, 0, 0)) (s.lanternCleared cause) := by
  rcases hc with rfl | rfl <;>
    simp (disch := decide) [Holds, lanternFields, State.lanternCleared, State.clrAll, State.clr, State.setF, State.rd_wr_fld]

theorem State.lanternCleared_lantern (hc : LanternCause cause) :
    (s.lanternCleared cause).boot.lantern = some s.drip := by
  rcases hc with rfl | rfl <;>
    simp (disch := decide) [State.lanternCleared, State.clrAll, State.clr, State.setF, State.drip, State.rd_wr_fld]

theorem State.lanternCleared_services :
    (s.lanternCleared cause).out = s.out ∧ (s.lanternCleared cause).bus = {} ∧ (s.lanternCleared cause).spdm = {} ∧
    (s.lanternCleared cause).snaps = (s.snaps.filter fun e => e.1 % 4 == 2) ∧
    (s.lanternCleared cause).boot.wdog = s.boot.wdog := by
  simp only [State.lanternCleared, State.clrAll, List.foldl_cons, List.foldl_nil, State.clr, State.setF, State.wr_out,
    State.wr_bus, State.wr_spdm, State.wr_snaps, State.wr_boot]
  exact ⟨rfl, rfl, rfl, rfl, rfl⟩

/-- A Lantern reset where nothing was on its way and there is no flash to load from. -/
structure LanternStops (s t : State) (cause : Fld) : Prop where
  holds : Holds ((cause, 0, 1) :: (lanternFields ++ [F.MGMT_STAT_SMB_PEND]).map fun f => (f, 0, 0)) t
  only : Only (partsOf (cause :: lanternFields ++ [F.MGMT_STAT_SMB_PEND]) 0 ++ [.snaps, .spdm, .boot, .bus]) s t
  out : t.out = s.out
  lantern : t.boot.lantern = some s.drip
  wdog : t.boot.wdog = s.boot.wdog
  bus : t.bus = {}
  spdm : t.spdm = {}
  snaps : t.snaps = s.snaps.filter fun e => e.1 % 4 == 2

theorem State.lanternReset_stops (hc : LanternCause cause) (hf : s.boot.flash = none) (hd : s.secDefer = none)
    (hs : NoneSent s) : LanternStops s (s.lanternReset cause false) cause := by
  obtain ⟨u, hu, he⟩ := s.lanternReset_eq cause hc hf hd hs
  obtain ⟨hout, hbus, hspdm, hsnaps, hwdog⟩ := s.lanternCleared_services cause
  have hlantern := s.lanternCleared_lantern cause hc
  have hv := s.lanternCleared_holds cause hc
  have ho := s.lanternCleared_only cause
  rw [he]
  clear he
  generalize s.lanternCleared cause = c at hu hout hbus hspdm hsnaps hwdog hlantern hv ho
  have hboot : u.boot = c.boot := hu.1 .boot (by simp)
  have hw := u.wr_only F.MGMT_STAT_SMB_PEND 0 0
  have hcarried := (hu.1.append hw).holds hv (by
    rcases hc with rfl | rfl <;> decide)
  have hpend : (u.wr F.MGMT_STAT_SMB_PEND 0 0).rd F.MGMT_STAT_SMB_PEND 0 = 0 := by simp
  exact {
    holds := by
      rw [List.map_append, ← List.cons_append]
      exact List.forall_mem_append.2 ⟨hcarried, Holds.cons hpend (Holds.nil _)⟩
    only := ((ho.append hu.1).append hw).mono (by simp +contextual [partsOf, or_imp])
    out := hu.2.trans hout
    lantern := (congrArg BootSt.lantern hboot).trans hlantern
    wdog := (congrArg BootSt.wdog hboot).trans hwdog
    bus := (hu.1 .bus (by simp)).trans hbus
    spdm := (hu.1 .spdm (by simp)).trans hspdm
    snaps := (hu.1 .snaps (by simp)).trans hsnaps }

end

theorem lanternReset_gives (s : State) (r : Requester) (hr : BusReady s r) (hb : s.boot.flash = none ∧ s.secDefer = none)
    (hs : NoneSent s) :
    Gives (.glbRstLantern r) s ((F.GLB_RST_CAUSE_LAN_REG, 0, 1) :: (lanternFields ++ [F.MGMT_STAT_SMB_PEND]).map fun f =>
      (f, 0, 0)) [.boot, .snaps, .spdm, .bus] [.writeAck] fun t => t.boot.lantern = some s.drip ∧ t.bus = {} ∧
      t.spdm = {} ∧ t.snaps = s.snaps.filter fun e => e.1 % 4 == 2 := by
  have h := s.begun.lanternReset_stops F.GLB_RST_CAUSE_LAN_REG (.inl rfl) hb.1 hb.2 hs
  obtain ⟨t, hk⟩ : ∃ t, s.begun.lanternReset F.GLB_RST_CAUSE_LAN_REG false = t := ⟨_, rfl⟩
  rw [hk] at h
  refine Gives.of_bus (exec_glbRstLantern s r) rfl hr hk ?_ h.out ⟨h.lantern, h.bus, h.spdm, h.snaps⟩ h.holds ?_
  · exact (h.only.raised (by decide)).trans hr.1
  · exact h.only.of_begun.mono (by decide)

/-- The watchdog's count and report, before the Lantern core is reset. -/
def State.watchdogCounted (s : State) : State :=
  ((s.inc F.SUMP_LWDOG_STAT_EXP 0).raise 10 0 0).modBoot fun b => { b with wdog := true }

theorem State.watchdogCounted_only (s : State) :
    Only [.fld F.SUMP_LWDOG_STAT_EXP 0, .raised, .boot] s s.watchdogCounted := fun p hp => by
  simp_all [State.watchdogCounted, State.inc, State.incBy]

theorem State.watchdogCounted_rd (s : State) :
    s.watchdogCounted.rd F.SUMP_LWDOG_STAT_EXP 0 = min (s.rd F.SUMP_LWDOG_STAT_EXP 0 + 1) 0xFF := by
  show (s.inc F.SUMP_LWDOG_STAT_EXP 0).rd _ _ = _
  simp only [State.inc, State.incBy, State.rd_wr_self, satAdd]
  exact Nat.mod_eq_of_lt (by simp)

theorem State.watchdogExpires_running (s : State) (h : s.rd F.SUMP_LWDOG_STAT_RUN 0 = 1) :
    s.watchdogExpires = s.watchdogCounted.lanternReset F.GLB_RST_CAUSE_LAN_WDOG false := by
  simp [State.watchdogExpires, State.flag, h, State.watchdogCounted]

theorem State.watchdogExpires_stopped (s : State) (h : s.rd F.SUMP_LWDOG_STAT_RUN 0 ≠ 1) : s.watchdogExpires = s := by
  simp [State.watchdogExpires, State.flag, h]

theorem watchdog_reports (s : State) (hq : Quiet s) (hrun : s.rd F.SUMP_LWDOG_STAT_RUN 0 = 1)
    (hb : s.boot.flash = none ∧ s.secDefer = none) (hs : NoneSent s) :
    Reports .lanternWatchdog s ((F.SUMP_LWDOG_STAT_EXP, 0, min (s.rd F.SUMP_LWDOG_STAT_EXP 0 + 1) 0xFF) ::
      (F.GLB_RST_CAUSE_LAN_WDOG, 0, 1) :: (lanternFields ++ [F.MGMT_STAT_SMB_PEND]).map fun f => (f, 0, 0))
      [.boot, .snaps, .spdm, .bus] [⟨10, 0, 0, false⟩] [] fun t => t.boot.lantern = some s.drip ∧ t.boot.wdog = true := by
  have hcount := s.begun.watchdogCounted_only
  have hnone : NoneSent s.begun.watchdogCounted := fun v hv => by
    rw [hcount.rd (by simp [F.MGMT_VIEW_PTR_RSP_TX, F.SUMP_LWDOG_STAT_EXP])]
    exact hs v hv
  have h := State.lanternReset_stops _ F.GLB_RST_CAUSE_LAN_WDOG (.inr rfl) (by exact hb.1) (by exact hb.2) hnone
  have hexp := (h.only.rd (f := F.SUMP_LWDOG_STAT_EXP) (i := 0) (by decide)).trans s.begun.watchdogCounted_rd
  have hdrip : s.begun.watchdogCounted.drip = s.drip := by
    simp (disch := decide) [State.watchdogCounted, State.inc, State.incBy, State.drip, State.rd_wr_fld]
  have hraised : s.begun.watchdogCounted.raised = [⟨10, 0, 0, false⟩] := by
    simp [State.watchdogCounted, State.raise, State.inc, State.incBy, show s.raised = [] from hq]
  have hk := s.begun.watchdogExpires_running hrun
  refine Reports.of_effect (exec_lanternWatchdog s) rfl ?_ ?_ ?_ ?_ ?_ <;> rw [hk]
  · exact Holds.cons hexp h.holds
  · exact (hcount.append h.only).of_begun.mono (by simp [Vals.parts, partsOf, lanternFields])
  · exact (h.only.raised (by decide)).trans hraised
  · exact h.out
  · exact ⟨by rw [h.lantern, hdrip], h.wdog⟩

/-! Restarted firmware -/

theorem State.compactLog_roomy (s : State) (h : (s.boot.flash.all fun f => decide (16 ≤ flashFree f s.boot.area)) = true) :
    s.compactLog = s := by
  unfold State.compactLog
  split
  · rfl
  case h_2 f hf =>
    rw [hf] at h
    rw [if_pos (by simpa using h)]

theorem State.abortInProgress_none (s : State) (v : Nat) (h : s.rd F.MGMT_VIEW_STAT_INPROG v ≠ 1) :
    s.abortInProgress v = s := by simp [State.abortInProgress, State.flag, h]

/-- The firmware starts again with no request in progress and nothing to compact. -/
def State.restarted (s : State) : State :=
  ((((s.clrAll [F.BOOT_UPD_STAT_PSTATE, F.BOOT_UPD_STAT_COMP] 0).setF F.MGMT_STAT_LRUN 0).setF
    F.SUMP_LWDOG_STAT_RUN 0).clr F.SUMP_LWDOG_STAT_AGE 0).putLwTicks 0

theorem State.restarted_only (s : State) :
    Only (partsOf [F.BOOT_UPD_STAT_PSTATE, F.BOOT_UPD_STAT_COMP, F.MGMT_STAT_LRUN, F.SUMP_LWDOG_STAT_RUN,
      F.SUMP_LWDOG_STAT_AGE] 0 ++ [.lwTicks]) s s.restarted := fun p hp => by
  simp_all [State.restarted, partsOf, State.clrAll, State.clr, State.setF]

theorem State.restarted_holds (s : State) :
    Holds [(F.MGMT_STAT_LRUN, 0, 1), (F.SUMP_LWDOG_STAT_RUN, 0, 1), (F.SUMP_LWDOG_STAT_AGE, 0, 0),
      (F.BOOT_UPD_STAT_PSTATE, 0, 0), (F.BOOT_UPD_STAT_COMP, 0, 0)] s.restarted := by
  simp (disch := decide) [Holds, State.restarted, State.clrAll, State.clr, State.setF, State.rd_wr_fld]

theorem forUp_const {f : Nat → State → State} (n : Nat) (s : State) (h : ∀ i < n, f i s = s) : forUp n f s = s :=
  forUp_keeps (· = s) n rfl fun i a hi ha => by rw [ha, h i hi]

theorem State.lanternRestart_calm (s : State) (d : Nat) (hl : s.boot.lantern = some d ∧ s.boot.newFw = false)
    (hf : (s.boot.flash.all fun f => decide (16 ≤ flashFree f s.boot.area)) = true)
    (hi : ∀ v ∈ List.range 17, s.rd F.MGMT_VIEW_STAT_INPROG v ≠ 1) :
    s.lanternRestart = s.restarted.modBoot fun b => { b with lantern := none, newFw := false } := by
  have hruns : (s.clrAll [F.BOOT_UPD_STAT_PSTATE, F.BOOT_UPD_STAT_COMP] 0).firmwareRuns = s.restarted :=
    State.compactLog_roomy _ hf
  have haborts : forUp 17 (fun v a => a.abortInProgress v) s.restarted = s.restarted :=
    forUp_const 17 _ fun v hv => State.abortInProgress_none _ v (by
      rw [s.restarted_only.rd (by simp [partsOf, F.MGMT_VIEW_STAT_INPROG, F.BOOT_UPD_STAT_PSTATE, F.BOOT_UPD_STAT_COMP,
        F.MGMT_STAT_LRUN, F.SUMP_LWDOG_STAT_RUN, F.SUMP_LWDOG_STAT_AGE])]
      exact hi v (List.mem_range.2 hv))
  have hnew : s.restarted.boot.newFw = false := hl.2
  simp only [State.lanternRestart, hl.1, hruns, haborts, hnew, Bool.false_eq_true, if_false]

theorem State.lanternRestart_serving (s : State) (h : s.boot.lantern = none) : s.lanternRestart = s := by
  simp [State.lanternRestart, h]

theorem lanternRestart_gives (s : State) (d : Nat) (hq : Quiet s) (hl : s.boot.lantern = some d ∧ s.boot.newFw = false)
    (hf : (s.boot.flash.all fun f => decide (16 ≤ flashFree f s.boot.area)) = true)
    (hi : ∀ v ∈ List.range 17, s.rd F.MGMT_VIEW_STAT_INPROG v ≠ 1) :
    Gives .lanternRestart s [(F.MGMT_STAT_LRUN, 0, 1), (F.SUMP_LWDOG_STAT_RUN, 0, 1), (F.SUMP_LWDOG_STAT_AGE, 0, 0),
      (F.BOOT_UPD_STAT_PSTATE, 0, 0), (F.BOOT_UPD_STAT_COMP, 0, 0)] [.lwTicks, .boot] [] fun t => t.lwTicks = 0 ∧ t.boot
      = { s.boot with lantern := none } := by
  have hboot : ({ s.boot with lantern := none, newFw := false } : BootSt) = { s.boot with lantern := none } := by
    rw [← hl.2]
  refine Gives.of_result (exec_lanternRestart s) rfl (s.begun.lanternRestart_calm d hl hf hi) hq rfl ⟨rfl, hboot⟩
    s.begun.restarted_holds fun p hp => ?_
  obtain ⟨hparts, hb⟩ : p ∉ partsOf [F.BOOT_UPD_STAT_PSTATE, F.BOOT_UPD_STAT_COMP, F.MGMT_STAT_LRUN,
      F.SUMP_LWDOG_STAT_RUN, F.SUMP_LWDOG_STAT_AGE] 0 ++ [.lwTicks] ∧ p ≠ .boot := by
    simp_all [Vals.parts, partsOf]
  exact (Part.same_modBoot_iff s _ _ hb).2 (s.begun.restarted_only.of_begun p hparts)

/-- Settles O10: a reset leaves what the state right after reset has but for what it keeps (`State.wipe_only`,
`State.warmStart_only`), and a Lantern reset what `State.lanternReset_stops` says. -/
theorem resetsInitializeOrStopService : Obligations.ResetsInitializeOrStopService := by
  unfold Obligations.ResetsInitializeOrStopService
  refine ⟨powerOn_resets, brownOut_resets, pin_resets, device_resets, lockedReset_refused, lanternReset_gives, watchdog_reports,
    fun s hq h => ?stopped, lanternRestart_gives, fun s hq h => ?serving⟩
  case stopped => exact Gives.of_nothing (exec_lanternWatchdog s) rfl hq (s.begun.watchdogExpires_stopped h)
  case serving => exact Gives.of_nothing (exec_lanternRestart s) rfl hq (s.begun.lanternRestart_serving h)

end Sys2Proof.Machine
end
section
/-! O38: what a drip boundary changes of a quad whose phrase overran in the drip. -/
namespace Sys2Proof.Machine

/-- The core domain runs, no source of the sump reacts, the heat epoch has no length, and the phrase of quad 0 has reached
cycle 900 in the drip (PHRASE_OVERRUN, R71). -/
def State.phraseOverran : State :=
  let s := [(F.CLK_STAT_CPLL_LOCK, 1), (F.PWR_DOM_STAT_QGATED, 0), (F.HEAT_EPOCH_CFG_LEN, 0), (F.PHR_CTL_EN, 1),
    (F.PHR_STAT_RUN, 1)].foldl (fun s w => s.wr w.1 0 w.2) State.reset
  (forUp 128 (fun k a => a.wr F.SUMP_SRC_CFG_REACT k 0) s).modCal 0 fun c => { c with overrun := true }

/-- A boundary with every rail within its limits, at which quad 0's phrase has run for 900 cycles. -/
def overrunDrip : DripIn := ⟨750, 900, 1800, 0, [], [], [900, 0, 0, 0, 0, 0, 0, 0], [], false⟩

/-- The state once the timebase has advanced, the buckets are refilled and the schedule is done. -/
def State.overrunCounted : State :=
  { (State.phraseOverran.wr F.CLK_DRIP_LO_DRIP_LO 0 1).wr F.HEAT_EPOCH_AGE_DRIPS 0 1 with
    clk := { prev := [0] }
    ports := (List.range 16).map fun n =>
      (n, { tok3 := 32, tok4 := 64, tokP := 32, shape := 1077944352, police := 73760 })
    views := (List.range 17).map fun v => (v, { tok := 16, pol := some (if v = 0 then 32784 else 98320) }) }

/-- The state once the phrases of the drip have ended: no overrun is noted. -/
def State.overrunPassed : State :=
  { (State.overrunCounted.wr F.PHR_STAT_LAST_CYC 0 900).wr F.PHR_WDOG_MAX_CYC 0 900 with cals := [] }

/-- The state once the rails are sampled. -/
def State.overrunSampled : State :=
  ((State.overrunPassed.wr F.PWR_VMON0_VDDC 0 750).wr F.PWR_VMON0_VDDA 0 900).wr F.PWR_VMON1_VDDH 0 1800

/-! The boundary runs in stages, each cheap to evaluate. -/

theorem State.phraseOverran_counts : State.phraseOverran.dripStart.schedule = .overrunCounted := by decide +kernel

theorem State.overrunCounted_phraseDrip :
    (State.overrunCounted.rampDrip.phraseDrip overrunDrip).adaptDrip = .overrunPassed := by decide +kernel

theorem State.overrunPassed_spareDrip : forUp 2 (fun h a => a.spareDrip h) State.overrunPassed = .overrunPassed := by
  decide +kernel

theorem State.overrunPassed_pulseDrip : State.overrunPassed.pulseDrip = .overrunPassed := by decide +kernel

theorem State.overrunPassed_releaseDrip : State.overrunPassed.releaseDrip = .overrunPassed := by decide +kernel

theorem State.overrunPassed_passStart : State.overrunPassed.passStart = .overrunPassed := by decide +kernel

theorem State.overrunPassed_queueCaches : State.overrunPassed.queueCaches = .overrunPassed := by decide +kernel

/-- The mirrors of the state are as old as a mirror can be noted to be. -/
theorem State.overrunPassed_ageMirrors : State.overrunPassed.ageMirrors = .overrunPassed := by
  have hold : ∀ m ∈ Mirror.all, State.overrunPassed.ageReg m = .overrunPassed := by decide +kernel
  exact forEach_keeps (· = State.overrunPassed) Mirror.all rfl fun m hm a ha => ha ▸ hold m hm

theorem State.overrunPassed_rails :
    State.overrunPassed.rails overrunDrip.vddc overrunDrip.vdda overrunDrip.vddh overrunDrip.early = .overrunSampled := by
  decide +kernel

theorem State.overrunSampled_laneDrip : State.overrunSampled.laneDrip overrunDrip = .overrunSampled := by decide +kernel

theorem State.overrunSampled_capDrip :
    forUp 16 (fun n a => (a.capDrip n).qSample n) State.overrunSampled = .overrunSampled := by decide +kernel

theorem State.overrunSampled_sumpDrip :
    State.overrunSampled.sumpDrip.raised = [] ∧ (State.overrunSampled.sumpDrip.cal 0).overrun = false := by
  decide +kernel

/-- The state that the boundary leads to. -/
def State.overrunEnded : State :=
  let t := State.overrunSampled.sumpDrip
  { t.modClk fun c => { c with last := t.drip } with porDrips := t.porDrips + 1 }

theorem State.overrunEnded_raised : State.overrunEnded.raised = [] := by
  simpa only [State.overrunEnded, State.modClk] using State.overrunSampled_sumpDrip.1

theorem State.overrunEnded_cal : (State.overrunEnded.cal 0).overrun = false := by
  simpa only [State.overrunEnded, State.modClk, State.cal] using State.overrunSampled_sumpDrip.2

theorem State.overrunCounted_dripEnd : State.overrunCounted.dripEnd overrunDrip = .overrunEnded := by
  rw [State.dripEnd, State.overrunCounted_phraseDrip, State.overrunPassed_spareDrip, State.overrunPassed_pulseDrip,
    State.overrunPassed_releaseDrip, State.overrunPassed_passStart,
    State.overrunPassed_queueCaches, State.overrunPassed_ageMirrors, State.overrunPassed_rails,
    State.overrunSampled_laneDrip, State.overrunSampled_capDrip]
  rfl

theorem State.phraseOverran_dripBoundary : State.phraseOverran.dripBoundary overrunDrip = .overrunEnded := by
  have hruns : State.phraseOverran.coreRuns = true := by decide +kernel
  have hstill : State.overrunCounted.coreRuns = true := by decide +kernel
  simp only [State.dripBoundary, State.phraseOverran_counts, hruns, hstill, State.overrunCounted_dripEnd, Bool.not_true,
    Bool.false_eq_true, if_false, if_true]

theorem exec_overrunDrip : exec (.dripBoundary overrunDrip) State.phraseOverran = .next .overrunEnded := by
  have hwf : Wf.dripBoundary overrunDrip = true := by decide +kernel
  have hbegun : State.phraseOverran.begun = State.phraseOverran := by decide +kernel
  have hraised : (State.phraseOverran.begun.dripBoundary overrunDrip).raised = [] := by
    rw [hbegun, State.phraseOverran_dripBoundary]
    exact State.overrunEnded_raised
  rw [exec_dripBoundary, execDripBoundary, effect_quiet hwf _ (fun s => s.dripBoundary overrunDrip) hraised, hbegun,
    State.phraseOverran_dripBoundary]

/-- Refutes O38, by its second clause: the boundary drops the note of an overrun once the phrase has ended (R71), which
changes the calibration state of the quad, a part that the clause does not name; nor does its premise ask that no phrase
has overrun in the drip. -/
theorem not_boundariesMoveTheClockAndMirrorsFollow : ¬ Obligations.BoundariesMoveTheClockAndMirrorsFollow := by
  unfold Obligations.BoundariesMoveTheClockAndMirrorsFollow
  rintro ⟨-, clause, -⟩
  obtain ⟨t, hexec, -, honly, -⟩ :=
    clause State.phraseOverran overrunDrip (by decide +kernel) (by decide +kernel) (by decide +kernel)
  obtain rfl : State.overrunEnded = t := by simpa only [exec_overrunDrip, Host.Outcome.next.injEq] using hexec
  have hsame : State.overrunEnded.cal 0 = State.phraseOverran.cal 0 :=
    honly (.cal 0) (by simp [dripParts, Vals.parts, partsOf])
  have hends := State.overrunEnded_cal
  have hnoted : (State.phraseOverran.cal 0).overrun = true := by decide +kernel
  rw [hsame, hnoted] at hends
  cases hends

end Sys2Proof.Machine
end

section
/-! O15: lane counters, elastic buffers and the pattern checker (R58 to R60, R68, R69, R80). -/
namespace Sys2Proof.Machine

/-! Counters -/

theorem Holds.append {t : State} {vs ws : Vals} (h : Holds vs t) (k : Holds ws t) : Holds (vs ++ ws) t :=
  List.forall_mem_append.2 ⟨h, k⟩

theorem State.setF_only (s : State) (f : Fld) (i : Nat) : Only [.fld f i] s (s.setF f i) := s.wr_only f i 1
theorem State.clr_only (s : State) (f : Fld) (i : Nat) : Only [.fld f i] s (s.clr f i) := s.wr_only f i 0

/-- A counter stops at its largest value (R80). -/
theorem State.rd_incBy_sat (s : State) (f : Fld) (i n : Nat) :
    (s.incBy f i n).rd f i = min (s.rd f i + n) (2 ^ f.w - 1) := by
  have hpos : 0 < 2 ^ f.w := Nat.two_pow_pos _
  rw [State.incBy, State.rd_wr_self, satAdd]
  exact Nat.mod_eq_of_lt (by omega)

/-- A command that clears the fields of a list in the core domain. -/
theorem clears_gives {c : Instr} {s : State} {r : Requester} {ok : Bool} {fs : List Fld} {i : Nat} {vs : Vals}
    (he : exec c s = effect ok s fun a => a.viaCore r fun b => b.clrAll fs i) (hw : ok = true) (hr : CoreReady s r)
    (hd : IdsDistinct fs) (hvs : vs = fs.map fun f => (f, i, 0)) : Gives c s vs [] [.writeAck] anyState := by
  subst hvs
  have honly := (s.begun.clrAll_only fs i).of_begun
  refine Gives.of_core he hw hr rfl ((honly.raised (by simp [partsOf])).trans hr.1) (s.begun.clrAll_out fs i) trivial
    (fun v hv => ?_) (honly.mono (by simp [Vals.parts, partsOf]))
  obtain ⟨f, hf, rfl⟩ := List.mem_map.1 hv
  exact s.begun.rd_clrAll fs hf hd

/-! Elastic buffers -/

/-- The sticky watermark flags once a fill is known (R59). -/
abbrev ebFlags (s : State) (ls fill : Nat) : Vals :=
  [(F.LANE_EB_STAT_HWM, ls, if s.rd F.LANE_EB_CFG_HWM ls < fill then 1 else s.rd F.LANE_EB_STAT_HWM ls),
    (F.LANE_EB_STAT_LWM, ls, if fill < s.rd F.LANE_EB_CFG_LWM ls then 1 else s.rd F.LANE_EB_STAT_LWM ls)]

section
variable (s : State) (ls fill : Nat)

theorem State.ebFill_flags : Holds (ebFlags s ls fill) (s.ebFill ls fill) := by
  by_cases hh : s.rd F.LANE_EB_CFG_HWM ls < fill <;> by_cases hl : fill < s.rd F.LANE_EB_CFG_LWM ls <;>
    simp (disch := decide) [Holds, State.ebFill, State.setF, State.rd_wr_fld, hh, hl]

theorem State.ebFill_fill (h : fill ≤ 64) : (s.ebFill ls fill).rd F.LANE_EB_STAT_FILL ls = fill := by
  have hmod : fill % 128 = fill := Nat.mod_eq_of_lt (by omega)
  by_cases hh : s.rd F.LANE_EB_CFG_HWM ls < fill <;> by_cases hl : fill < s.rd F.LANE_EB_CFG_LWM ls <;>
    simp (disch := decide) [State.ebFill, State.setF, State.rd_wr_fld, hh, hl, hmod]

theorem State.ebFill_only :
    Only (partsOf [F.LANE_EB_STAT_FILL, F.LANE_EB_STAT_HWM, F.LANE_EB_STAT_LWM] ls) s (s.ebFill ls fill) := by
  intro p hp
  simp only [partsOf, List.map_cons, List.map_nil, List.mem_cons, List.not_mem_nil, or_false, not_or] at hp
  obtain ⟨hf, hh, hl⟩ := hp
  unfold State.ebFill
  dsimp only
  split <;> split <;> simp [State.setF, hf, hh, hl]

theorem State.ebFill_out : (s.ebFill ls fill).out = s.out := by
  unfold State.ebFill
  dsimp only
  split <;> split <;> rfl

end

/-- A command that notes a fill and then changes at most the fill. -/
theorem fill_gives {c : Instr} {s t : State} {ls fill x : Nat} {outs : List Out} {ok : Bool} {k : State → State}
    (he : exec c s = effect ok s k) (hw : ok = true) (hq : Quiet s) (hk : k s.begun = t)
    (hf : Only [.fld F.LANE_EB_STAT_FILL ls] (s.begun.ebFill ls fill) t) (hx : t.rd F.LANE_EB_STAT_FILL ls = x)
    (ho : t.out = (s.begun.ebFill ls fill).out ++ outs) :
    Gives c s ((F.LANE_EB_STAT_FILL, ls, x) :: ebFlags s ls fill) [] outs anyState := by
  have honly := ((s.begun.ebFill_only ls fill).append hf).of_begun
  refine Gives.of_result he hw hk ((honly.raised (by simp [partsOf])).trans hq) ?_ trivial
    (.cons hx (hf.holds (s.begun.ebFill_flags ls fill) ?_)) (honly.mono (by simp [partsOf, Vals.parts]))
  · rw [ho, State.ebFill_out]
    rfl
  · simp [F.LANE_EB_STAT_HWM, F.LANE_EB_STAT_LWM, F.LANE_EB_STAT_FILL]

theorem wf_skpOrderedSet {ls fill unit : Nat} (hl : ls < 66) (hf : fill ≤ 64) (hu : 0 < unit ∧ unit ≤ 64) :
    Wf.skpOrderedSet ls fill unit = true := by
  simp only [Wf.skpOrderedSet, Bool.and_eq_true, decide_eq_true_eq]
  omega

section
variable (s : State) (ls fill unit : Nat)

theorem State.skp_removes (h : 36 < fill) : s.skp ls fill unit =
    ((s.ebFill ls fill).wr F.LANE_EB_STAT_FILL ls (fill - unit)).emit (.skp ls (-(unit : Int))) := by
  simp [State.skp, h]

theorem State.skp_adds (h : fill < 28) : s.skp ls fill unit =
    ((s.ebFill ls fill).wr F.LANE_EB_STAT_FILL ls (min (fill + unit) 64)).emit (.skp ls unit) := by
  simp [State.skp, h, show ¬36 < fill by omega]

theorem State.skp_keeps (h : 28 ≤ fill ∧ fill ≤ 36) : s.skp ls fill unit = s.ebFill ls fill := by
  simp [State.skp, show ¬36 < fill by omega, show ¬fill < 28 by omega]

/-- What an error of a buffer changes after its fill is noted: re-centred, counted, reported (R60). -/
def State.ebRecentre : State := ((s.wr F.LANE_EB_STAT_FILL ls 32).inc F.LANE_ERR_CNT_EB_ERR ls).raise 36 ls 0

theorem State.ebError_eq (full : Bool) : s.ebError ls full = (s.ebFill ls (if full then 64 else 0)).ebRecentre ls := rfl

theorem State.ebRecentre_only :
    Only [.fld F.LANE_EB_STAT_FILL ls, .fld F.LANE_ERR_CNT_EB_ERR ls, .raised] s (s.ebRecentre ls) :=
  ((s.wr_only F.LANE_EB_STAT_FILL ls 32).append (State.incBy_only _ F.LANE_ERR_CNT_EB_ERR ls 1)).append
    (State.raise_only _ 36 ls 0)

theorem State.ebRecentre_holds : Holds [(F.LANE_EB_STAT_FILL, ls, 32),
    (F.LANE_ERR_CNT_EB_ERR, ls, min (s.rd F.LANE_ERR_CNT_EB_ERR ls + 1) 0xFFFF)] (s.ebRecentre ls) := by
  refine .cons ((State.rd_wr_fld _ _ (by decide)).trans (State.rd_wr_self ..)) (.cons ?_ (.nil _))
  refine (State.rd_incBy_sat ..).trans ?_
  rw [State.rd_wr_fld _ _ (by decide)]
  rfl

end

theorem ebError_reports (s : State) (ls : Nat) (full : Bool) (hq : Quiet s) (hl : ls < 66) :
    Reports (.elasticBufferError ls full) s ((F.LANE_EB_STAT_FILL, ls, 32) :: (F.LANE_ERR_CNT_EB_ERR, ls, min (s.rd
      F.LANE_ERR_CNT_EB_ERR ls + 1) 0xFFFF) :: ebFlags s ls (if full then 64 else 0)) [] [⟨36, ls, 0, false⟩] []
      anyState := by
  have hfill := s.begun.ebFill_only ls (if full then 64 else 0)
  have hflags := s.begun.ebFill_flags ls (if full then 64 else 0)
  have hout := s.begun.ebFill_out ls (if full then 64 else 0)
  have hcount := hfill.rd (f := F.LANE_ERR_CNT_EB_ERR) (i := ls) (fld_notMem_partsOf (by decide))
  have hraised := hfill.raised (by simp [partsOf])
  refine Reports.of_effect (exec_elasticBufferError s ls full) (by simpa [Wf.elasticBufferError] using hl) ?_ ?_ ?_ ?_ trivial
    <;> rw [State.ebError_eq]
  all_goals generalize s.begun.ebFill ls (if full then 64 else 0) = t at hfill hflags hcount hout hraised ⊢
  · have hown := t.ebRecentre_holds ls
    rw [hcount] at hown
    refine hown.append ((t.ebRecentre_only ls).holds hflags ?_)
    simp [F.LANE_EB_STAT_HWM, F.LANE_EB_STAT_LWM, F.LANE_EB_STAT_FILL, F.LANE_ERR_CNT_EB_ERR]
  · exact ((hfill.append (t.ebRecentre_only ls)).mono (by simp [partsOf, Vals.parts])).of_begun
  · rw [State.ebRecentre, State.raise_raised]
    exact congrArg (· ++ [_]) (hraised.trans hq)
  · exact hout

/-! The pattern checker -/

section
variable (s : State) (ls bits errs : Nat)

/-- The bits that a checker has counted (R69). -/
abbrev State.prbsBits : Nat :=
  s.rd F.LANE_PRBS_BITS_LO_BITS_LO ls + 2 ^ 32 * s.rd F.LANE_PRBS_BITS_HI_BITS_HI ls

/-- A counter of 48 bits in two fields stops at its largest value. -/
theorem State.inc48_holds (lo hi : Fld) (i n : Nat) (hlo : lo.w = 32) (hhi : hi.w = 16) (hne : hi.id ≠ lo.id) :
    Holds [(lo, i, min (s.rd lo i + 2 ^ 32 * s.rd hi i + n) (2 ^ 48 - 1) % 2 ^ 32),
      (hi, i, min (s.rd lo i + 2 ^ 32 * s.rd hi i + n) (2 ^ 48 - 1) / 2 ^ 32)] (s.inc48 lo hi i n) := by
  refine .cons ?_ (.cons ?_ (.nil _))
  · rw [State.inc48, State.rd_wr_fld _ _ hne, State.rd_wr_self, hlo, Nat.mod_mod]
  · rw [State.inc48, State.rd_wr_self, hhi]
    exact Nat.mod_eq_of_lt (by omega)

theorem State.inc48_only (lo hi : Fld) (i n : Nat) : Only [.fld lo i, .fld hi i] s (s.inc48 lo hi i n) :=
  (s.wr_only lo i _).append (State.wr_only _ hi i _)

theorem State.prbsCount_idle (h : s.rd F.LANE_PRBS_STAT_LOCK ls ≠ 1 ∨ s.prbsCan ls = false) :
    s.prbsCount ls bits errs = s := by
  refine if_neg fun hb => ?_
  simp only [State.flag, beq_iff_eq] at hb
  simp [hb] at h

/-- The counts of the errors and of the bits. -/
def State.prbsAdd : State :=
  (s.incBy F.LANE_PRBS_ERR_ERR ls errs).inc48 F.LANE_PRBS_BITS_LO_BITS_LO F.LANE_PRBS_BITS_HI_BITS_HI ls bits

theorem State.prbsCount_runs (h : s.rd F.LANE_PRBS_STAT_LOCK ls = 1 ∧ s.prbsCan ls = true) :
    s.prbsCount ls bits errs = if 2 ^ 48 - 1 ≤ s.prbsBits ls + bits then
      (s.prbsAdd ls bits errs).setF F.LANE_PRBS_STAT_SAT ls else s.prbsAdd ls bits errs := by
  have hl : s.flag F.LANE_PRBS_STAT_LOCK ls = true := by simp [State.flag, h.1]
  simp (disch := decide) [State.prbsCount, hl, h.2, State.incBy, State.rd_wr_fld, State.prbsAdd, State.prbsBits]

theorem State.prbsAdd_only : Only (partsOf [F.LANE_PRBS_ERR_ERR, F.LANE_PRBS_BITS_LO_BITS_LO, F.LANE_PRBS_BITS_HI_BITS_HI]
    ls) s (s.prbsAdd ls bits errs) := (s.incBy_only F.LANE_PRBS_ERR_ERR ls errs).append (State.inc48_only _ _ _ ls bits)

/-- The counts of a checker after more bits (R69). -/
abbrev prbsCounts : Vals :=
  [(F.LANE_PRBS_ERR_ERR, ls, min (s.rd F.LANE_PRBS_ERR_ERR ls + errs) (2 ^ 32 - 1)),
    (F.LANE_PRBS_BITS_LO_BITS_LO, ls, min (s.prbsBits ls + bits) (2 ^ 48 - 1) % 2 ^ 32),
    (F.LANE_PRBS_BITS_HI_BITS_HI, ls, min (s.prbsBits ls + bits) (2 ^ 48 - 1) / 2 ^ 32)]

theorem State.prbsAdd_holds : Holds (prbsCounts s ls bits errs) (s.prbsAdd ls bits errs) := by
  have hbits := (s.incBy F.LANE_PRBS_ERR_ERR ls errs).inc48_holds F.LANE_PRBS_BITS_LO_BITS_LO F.LANE_PRBS_BITS_HI_BITS_HI ls
    bits rfl rfl (by decide)
  have herr := s.incBy_only F.LANE_PRBS_ERR_ERR ls errs
  rw [herr.rd (by simp [F.LANE_PRBS_BITS_LO_BITS_LO, F.LANE_PRBS_ERR_ERR]),
    herr.rd (by simp [F.LANE_PRBS_BITS_HI_BITS_HI, F.LANE_PRBS_ERR_ERR])] at hbits
  refine .cons (((State.inc48_only _ _ _ ls bits).rd ?_).trans (s.rd_incBy_sat ..)) hbits
  simp [F.LANE_PRBS_BITS_LO_BITS_LO, F.LANE_PRBS_BITS_HI_BITS_HI, F.LANE_PRBS_ERR_ERR]

/-- SAT shows that the bits counted are at their largest value (R69). -/
abbrev prbsSat : Vals :=
  [(F.LANE_PRBS_STAT_SAT, ls, if 2 ^ 48 - 1 ≤ s.prbsBits ls + bits then 1 else s.rd F.LANE_PRBS_STAT_SAT ls)]

theorem State.prbsCount_moves (h : s.rd F.LANE_PRBS_STAT_LOCK ls = 1 ∧ s.prbsCan ls = true) :
    Holds (prbsCounts s ls bits errs ++ prbsSat s ls bits) (s.prbsCount ls bits errs) ∧
    Only (prbsCounts s ls bits errs ++ prbsSat s ls bits).parts s (s.prbsCount ls bits errs) ∧
    (s.prbsCount ls bits errs).out = s.out := by
  rw [s.prbsCount_runs ls bits errs h]
  have hadd := s.prbsAdd_only ls bits errs
  have hcounts := s.prbsAdd_holds ls bits errs
  split
  case isTrue hfull =>
    have hset := (s.prbsAdd ls bits errs).setF_only F.LANE_PRBS_STAT_SAT ls
    refine ⟨(hset.holds hcounts ?_).append (.cons ?_ (.nil _)), (hadd.append hset).mono (by simp [partsOf,
      Vals.parts]), rfl⟩
    · simp [F.LANE_PRBS_ERR_ERR, F.LANE_PRBS_BITS_LO_BITS_LO, F.LANE_PRBS_BITS_HI_BITS_HI, F.LANE_PRBS_STAT_SAT]
    · rw [if_pos hfull]
      exact State.rd_wr_self ..
  case isFalse hfull =>
    refine ⟨hcounts.append (.cons ?_ (.nil _)), hadd.mono (by simp +contextual [partsOf, Vals.parts, or_imp]), rfl⟩
    rw [if_neg hfull]
    exact hadd.rd (fld_notMem_partsOf (by decide))

end

theorem wf_prbsLockLoss {ls bits errs : Nat} (hl : ls < 66) (he : errs ≤ bits) : Wf.prbsLockLoss ls bits errs = true := by
  simp [Wf.prbsLockLoss, hl, he]

theorem prbsLockLoss_counts (s : State) (ls bits errs : Nat) (hq : Quiet s) (hl : ls < 66) (he : errs ≤ bits)
    (hc : s.rd F.LANE_PRBS_STAT_LOCK ls = 1 ∧ s.prbsCan ls = true) :
    Gives (.prbsLockLoss ls bits errs) s ((F.LANE_PRBS_STAT_LOCK, ls, 0) :: (prbsCounts s ls bits errs ++
      prbsSat s ls bits)) [] [] anyState := by
  obtain ⟨hholds, honly, hout⟩ := s.begun.prbsCount_moves ls bits errs hc
  have hclr := (s.begun.prbsCount ls bits errs).clr_only F.LANE_PRBS_STAT_LOCK ls
  refine Gives.of_effect (exec_prbsLockLoss s ls bits errs) (wf_prbsLockLoss hl he) ?_
    (.cons (State.rd_wr_self ..) (hclr.holds hholds ?_)) ?_ hout trivial
  · exact (honly.raised (by simp [Vals.parts])).trans hq
  · simp [F.LANE_PRBS_ERR_ERR, F.LANE_PRBS_BITS_LO_BITS_LO, F.LANE_PRBS_BITS_HI_BITS_HI, F.LANE_PRBS_STAT_SAT,
      F.LANE_PRBS_STAT_LOCK]
  · exact ((honly.append hclr).mono (by simp +contextual [Vals.parts, or_imp])).of_begun

theorem State.prbsLock_can (s : State) (ls : Nat) (h : s.prbsCan ls = true) :
    s.prbsLock ls = s.setF F.LANE_PRBS_STAT_LOCK ls := if_pos h

theorem State.prbsLock_cannot (s : State) (ls : Nat) (h : s.prbsCan ls ≠ true) : s.prbsLock ls = s := if_neg h

/-- Settles O15: each command makes the writes that a lemma above names, and reports only where a buffer ran empty or full. -/
theorem laneCountersFollowTheirEvents : Obligations.LaneCountersFollowTheirEvents := by
  unfold Obligations.LaneCountersFollowTheirEvents
  refine ⟨fun s r ls hr hl => ?clearErrors, fun s r ls hr hl => ?clearChecker, fun s ls fill hq hl hf => ?crossing,
    fun s ls fill unit hq hl hf hu => ?removes, fun s ls fill unit hq hl hf hu => ?adds,
    fun s ls fill unit hq hl hf hu => ?keeps, fun s ls full hq hl => ?error, fun s ls hq hl => ?locks,
    prbsLockLoss_counts, fun s ls bits errs hq hl he hc => ?uncounted⟩
  case clearErrors =>
    exact clears_gives (exec_laneRxCtlCntClr s r ls) (by simpa [Wf.laneRxCtlCntClr] using hl) hr (by decide) rfl
  case clearChecker =>
    exact clears_gives (exec_lanePrbsCtlClr s r ls) (by simpa [Wf.lanePrbsCtlClr] using hl) hr (by decide) rfl
  case crossing =>
    refine fill_gives (exec_ebWatermarkCrossing s ls fill) ?_ hq rfl (fun p _ => by simp) (s.begun.ebFill_fill ls fill hf)
      (by simp)
    simp only [Wf.ebWatermarkCrossing, Bool.and_eq_true, decide_eq_true_eq]
    omega
  case removes =>
    refine fill_gives (exec_skpOrderedSet s ls fill unit) (wf_skpOrderedSet hl hf.2 hu) hq
      (s.begun.skp_removes ls fill unit hf.1) ((State.wr_only _ _ _ _).emit _) ?_ rfl
    exact (State.rd_wr_self ..).trans (Nat.mod_eq_of_lt (by simp; omega))
  case adds =>
    refine fill_gives (exec_skpOrderedSet s ls fill unit) (wf_skpOrderedSet hl (by omega) hu) hq
      (s.begun.skp_adds ls fill unit hf) ((State.wr_only _ _ _ _).emit _) ?_ rfl
    exact (State.rd_wr_self ..).trans (Nat.mod_eq_of_lt (by simp))
  case keeps =>
    exact fill_gives (exec_skpOrderedSet s ls fill unit) (wf_skpOrderedSet hl (by omega) hu) hq
      (s.begun.skp_keeps ls fill unit hf) (fun p _ => by simp) (s.begun.ebFill_fill ls fill (by omega)) (by simp)
  case error =>
    have h := ebError_reports s ls full hq hl
    cases full <;> simpa [ebFlags] using h
  case locks =>
    have hw : Wf.prbsLock ls = true := by simpa [Wf.prbsLock] using hl
    by_cases hcan : s.prbsCan ls = true
    · refine Gives.of_result (exec_prbsLock s ls) hw (s.begun.prbsLock_can ls hcan) hq rfl trivial ?_
        (s.begun.setF_only _ _).of_begun
      simp [Holds, State.setF, hcan]
    · refine Gives.of_result (exec_prbsLock s ls) hw (s.begun.prbsLock_cannot ls hcan) hq rfl trivial ?_ fun p _ => by simp
      simp [Holds, hcan]
  case uncounted =>
    refine Gives.of_result (exec_prbsLockLoss s ls bits errs) (wf_prbsLockLoss hl he)
      (congrArg (fun t => State.clr t F.LANE_PRBS_STAT_LOCK ls) (s.begun.prbsCount_idle ls bits errs hc)) hq rfl trivial ?_
      (s.begun.clr_only _ ls).of_begun
    simp [Holds, State.clr]

end Sys2Proof.Machine
end

section
/-! O16: the adaptation state of a receiver (R50, R51, R77, R85, R111). -/
namespace Sys2Proof.Machine

/-- Fields with different numbers, for `simp` to tell the parts of a state apart. -/
theorem Fld.ids_differ {f g : Fld} (h : f.id ≠ g.id) : (f.id = g.id) = False := eq_false h

/-! Adaptation states -/

section
variable (s : State) (ls v : Nat)

theorem State.setAstate_ne (h : s.astate ls ≠ v) : s.setAstate ls v = s.wr F.LANE_RX_STAT_ASTATE ls v := if_neg h

theorem State.setAstate_only : Only [.fld F.LANE_RX_STAT_ASTATE ls] s (s.setAstate ls v) := by
  unfold State.setAstate
  split
  · exact fun p _ => by simp
  · exact s.wr_only _ _ _

theorem State.setAstate_same : s.setAstate ls (s.astate ls) = s := if_pos rfl

theorem State.setAstate_astate (h : v < 8 ∨ s.astate ls = v) : (s.setAstate ls v).rd F.LANE_RX_STAT_ASTATE ls = v := by
  by_cases hv : s.astate ls = v
  · subst hv
    rw [State.setAstate_same]
    rfl
  · rw [State.setAstate_ne s ls v hv]
    exact (State.rd_wr_self ..).trans (Nat.mod_eq_of_lt (h.resolve_right hv))

theorem State.setAstate_code (h : v < 8) : (s.setAstate ls v).rd F.LANE_RX_STAT_ASTATE ls = v :=
  s.setAstate_astate ls v (.inl h)

@[simp] theorem State.setAstate_out : (s.setAstate ls v).out = s.out := by unfold State.setAstate; split <;> rfl
@[simp] theorem State.setAstate_raised : (s.setAstate ls v).raised = s.raised := by unfold State.setAstate; split <;> rfl
@[simp] theorem State.setAstate_lane (k : Nat) : (s.setAstate ls v).lane k = s.lane k := by
  unfold State.setAstate; split <;> rfl

theorem State.setAstate_rd_fld {g : Fld} {j : Nat} (h : g.id ≠ F.LANE_RX_STAT_ASTATE.id) :
    (s.setAstate ls v).rd g j = s.rd g j := (s.setAstate_only ls v).rd (by simp [h])

@[simp] theorem Part.same_setAstate_iff {p : Part} (t : State) (h : p ≠ .fld F.LANE_RX_STAT_ASTATE ls) :
    p.same s (t.setAstate ls v) ↔ p.same s t := Part.same_iff (t.setAstate_only ls v p (by simpa using h))

end

section
variable (s : State) (ls : Nat)

/-- A margining step that waits for its set-up is forgotten (R105). -/
def State.dropRequest : State := s.modLane ls fun l => { l with marginReq := false }

theorem State.endMargin_free (h : s.flag F.LANE_SLICE_STAT_MARG ls = false) : s.endMargin ls = s.dropRequest ls :=
  if_neg fun k => Bool.false_ne_true (h.symm.trans k)

theorem State.endMargin_runs (h : s.flag F.LANE_SLICE_STAT_MARG ls = true) : s.endMargin ls =
    ((s.dropRequest ls).clr F.LANE_SLICE_STAT_MARG ls).wr F.LANE_SLICE_STAT_CALSLICE ls 0x7F := if_pos h

/-! FREEZE and RESTART (R51) -/

theorem State.setFreeze_on : s.setFreeze ls true =
    (s.setF F.LANE_RX_CTL_FREEZE ls).setAstate ls (if s.astate ls = 5 ∨ s.astate ls = 4 then 6 else s.astate ls) := by
  have ha : (s.setF F.LANE_RX_CTL_FREEZE ls).astate ls = s.astate ls := State.rd_wr_fld _ _ (by decide)
  show (if (s.setF F.LANE_RX_CTL_FREEZE ls).astate ls = 5 ∨ (s.setF F.LANE_RX_CTL_FREEZE ls).astate ls = 4 then
    (s.setF F.LANE_RX_CTL_FREEZE ls).setAstate ls 6 else s.setF F.LANE_RX_CTL_FREEZE ls) = _
  rw [ha]
  split
  · rfl
  · rw [← ha, State.setAstate_same]

theorem State.setFreeze_off : s.setFreeze ls false = (s.clr F.LANE_RX_CTL_FREEZE ls).setAstate ls
    (if s.astate ls = 6 ∧ s.rd F.LANE_SLICE_STAT_MARG ls ≠ 1 then 5 else s.astate ls) := by
  have ha : (s.clr F.LANE_RX_CTL_FREEZE ls).astate ls = s.astate ls := State.rd_wr_fld _ _ (by decide)
  have hm : (s.clr F.LANE_RX_CTL_FREEZE ls).rd F.LANE_SLICE_STAT_MARG ls = s.rd F.LANE_SLICE_STAT_MARG ls :=
    State.rd_wr_fld _ _ (by decide)
  have hf : (s.clr F.LANE_RX_CTL_FREEZE ls).rd F.LANE_RX_CTL_FREEZE ls = 0 := by simp [State.clr]
  show (s.clr F.LANE_RX_CTL_FREEZE ls).unfreeze ls = _
  unfold State.unfreeze
  simp only [State.flag, ha, hm, hf]
  split
  case isTrue h => rw [if_pos (by simpa using h)]
  case isFalse h => rw [if_neg (by simpa using h), ← ha, State.setAstate_same]

/-- The equalizer values of a receiver. -/
def startFields : List Fld := [F.LANE_RX_EQ_CTLE, F.LANE_RX_EQ_DFE1, F.LANE_RX_EQ_FFE_M1, F.LANE_RX_EQ_FFE_P1]

theorem State.startEq_only : Only (partsOf startFields ls) s (s.startEq ls) :=
  (((s.wr_only F.LANE_RX_EQ_CTLE ls _).append (State.wr_only _ F.LANE_RX_EQ_DFE1 ls _)).append
    (State.wr_only _ F.LANE_RX_EQ_FFE_M1 ls _)).append (State.wr_only _ F.LANE_RX_EQ_FFE_P1 ls _)

theorem State.startEq_holds : Holds (startVals s ls) (s.startEq ls) := by
  have hb : ∀ x lo, bits x lo 6 % 64 = bits x lo 6 := fun x lo => Nat.mod_mod _ _
  have hc : ∀ a b, min a (min b 36) % 64 = min a (min b 36) := fun a b => Nat.mod_eq_of_lt (by omega)
  simp (disch := decide) [Holds, State.startEq, startVals, State.flag, State.rd_wr_fld, hb, hc, apply_ite (· % 64)]

@[simp] theorem State.startEq_out : (s.startEq ls).out = s.out := rfl
@[simp] theorem State.startEq_lane (k : Nat) : (s.startEq ls).lane k = s.lane k := rfl

theorem State.restartLane_elsewhere (h : s.astate ls = 0 ∨ s.astate ls = 1 ∨ s.astate ls = 2 ∨ s.astate ls = 7) :
    s.restartLane ls = s := by
  refine if_neg ?_
  rcases h with h | h | h | h <;> simp [h]

/-- The state in which a restarted receiver takes its starting values. -/
def State.restartedLane : State :=
  ((s.dropRequest ls).setAstate ls 3).modLane ls fun l => { l with converged := false }

theorem State.restartLane_runs (h : 3 ≤ s.astate ls ∧ s.astate ls ≤ 6) (hm : s.flag F.LANE_SLICE_STAT_MARG ls = false) :
    s.restartLane ls = (s.restartedLane ls).startEq ls := by
  have hc : [3, 4, 5, 6].contains (s.astate ls) = true := by
    obtain ⟨hlo, hhi⟩ := h
    interval_cases s.astate ls <;> rfl
  rw [State.restartLane, if_pos hc, State.endMargin_free s ls hm]
  rfl

theorem State.restartedLane_only : Only [.fld F.LANE_RX_STAT_ASTATE ls, .lane ls] s (s.restartedLane ls) := fun p hp => by
  simp_all [State.restartedLane, State.dropRequest, State.modLane]

theorem State.restartedLane_lane : (s.restartedLane ls).lane ls = { s.lane ls with converged := false, marginReq := false } := by
  simp [State.restartedLane, State.dropRequest, State.modLane]

end

/-- The starting values depend on the rate and the preset hint of the receiver and on two of its controls. -/
theorem startVals_congr {ps : List Part} {s t : State} {ls : Nat} (h : Only ps s t)
    (hps : .fld F.LANE_RX_CTL_CTLE_MAX ls ∉ ps ∧ .fld F.LANE_RX_CTL_DFE_EN ls ∉ ps)
    (hrate : (t.lane ls).rate = (s.lane ls).rate) (hhint : (t.lane ls).hint = (s.lane ls).hint) :
    startVals t ls = startVals s ls := by
  unfold startVals State.flag
  rw [h.rd hps.1, h.rd hps.2, hrate, hhint]

/-- A write of FREEZE that moves the receiver to a state, its own or another. -/
theorem freeze_gives {s : State} {r : Requester} {ls v : Nat} {on : Bool} (hr : CoreReady s r) (hl : ls < 66)
    (hv : v < 8 ∨ s.astate ls = v) (hk : s.begun.setFreeze ls on = (s.begun.wrB F.LANE_RX_CTL_FREEZE ls on).setAstate ls v) :
    Gives (.laneRxCtlFreeze r ls on) s [(F.LANE_RX_CTL_FREEZE, ls, b2n on), (F.LANE_RX_STAT_ASTATE, ls, v)] []
      [.writeAck] anyState := by
  have ha : (s.begun.wrB F.LANE_RX_CTL_FREEZE ls on).astate ls = s.astate ls := State.rd_wr_fld _ _ (by decide)
  have honly := (s.begun.wr_only F.LANE_RX_CTL_FREEZE ls (b2n on)).append (State.setAstate_only _ ls v)
  refine Gives.of_core (exec_laneRxCtlFreeze s r ls on) (decide_eq_true hl) hr hk ?_ (State.setAstate_out ..) trivial
    (.cons ?_ (.cons ?_ (.nil _))) (honly.of_begun.mono (by simp [Vals.parts]))
  · exact (State.setAstate_raised ..).trans hr.1
  · rw [State.setAstate_rd_fld _ ls v (by decide), State.wrB, State.rd_wr_self]
    cases on <;> rfl
  · exact State.setAstate_astate _ ls v (by rwa [ha])

theorem restart_starts (s : State) (r : Requester) (ls : Nat) (hr : CoreReady s r) (hl : ls < 66)
    (ha : 3 ≤ s.astate ls ∧ s.astate ls ≤ 6) (hm : s.flag F.LANE_SLICE_STAT_MARG ls = false) :
    Gives (.laneRxCtlRestart r ls) s ((F.LANE_RX_STAT_ASTATE, ls, 3) :: startVals s ls) [.lane ls] [.writeAck] fun t =>
      t.lane ls = { s.lane ls with converged := false, marginReq := false } := by
  have honly := s.begun.restartedLane_only ls
  have hlane := s.begun.restartedLane_lane ls
  have hstate : (s.begun.restartedLane ls).rd F.LANE_RX_STAT_ASTATE ls = 3 :=
    (s.begun.dropRequest ls).setAstate_code ls 3 (by decide)
  have hvals : startVals (s.begun.restartedLane ls) ls = startVals s ls :=
    startVals_congr honly.of_begun (by simp (disch := decide) [Fld.ids_differ]) (by rw [hlane]; rfl) (by rw [hlane]; rfl)
  have hout : (s.begun.restartedLane ls).out = [] := by simp [State.restartedLane, State.dropRequest, State.modLane]
  have hk := s.begun.restartLane_runs ls ha hm
  generalize s.begun.restartedLane ls = u at honly hlane hstate hvals hout hk
  have hstart := u.startEq_only ls
  refine Gives.of_core (exec_laneRxCtlRestart s r ls) (decide_eq_true hl) hr hk ?_ hout hlane ?_ ?_
  · exact (honly.raised (by simp)).trans hr.1
  · exact .cons ((hstart.rd (fld_notMem_partsOf (by decide))).trans hstate) (hvals ▸ u.startEq_holds ls)
  · exact (honly.append hstart).of_begun.mono (by simp +contextual [partsOf, startFields, startVals, Vals.parts, or_imp])

/-! The lanes of a port -/

section
variable {ps : List Part} {s t : State} (h : Only ps s t) (hps : ∀ g : Fld, g.layout = true → ∀ i, Part.fld g i ∉ ps)
include h hps

/-- What leaves the fields of the layout alone leaves the width codes and the service of the spares. -/
theorem Only.layout : t.qcode = s.qcode ∧ t.spareState = s.spareState ∧ t.spareLane = s.spareLane :=
  ⟨funext fun q => h.rd (hps _ (F.quadCode_isLayout q) 0), funext fun k => h.rd (hps F.SPARE_STAT_STATE (by decide) k),
    funext fun k => h.rd (hps F.SPARE_STAT_LANE (by decide) k)⟩

theorem Only.portOfLs (ls : Nat) : t.portOfLs ls = s.portOfLs ls := by
  obtain ⟨hq, hs, hl⟩ := h.layout hps
  unfold State.portOfLs State.portOfLane State.laneOfLs
  rw [hq, hs, hl]

theorem Only.adaptEnabled (hl : ∀ n, Part.fld F.PORT_LINK_STAT_LTSSM n ∉ ps) (ls : Nat) :
    t.adaptEnabled ls = s.adaptEnabled ls := by
  have hn : t.ltssm = s.ltssm := funext fun n => h.rd (hl n)
  unfold State.adaptEnabled
  rw [h.portOfLs hps, hn]

theorem Only.oppositeLs (ls : Nat) : t.oppositeLs ls = s.oppositeLs ls := by
  obtain ⟨-, hs, hl⟩ := h.layout hps
  unfold State.oppositeLs State.innerOf State.laneOfLs
  rw [hs, hl]

theorem Only.sendLs {n : Nat} (hp : Part.port n ∉ ps) (inner : Bool) : t.sendLs n inner = s.sendLs n inner := by
  obtain ⟨hq, hs, hl⟩ := h.layout hps
  unfold State.sendLs State.width State.innerOf
  rw [hq, hs, hl, h.port hp]

end

section
variable (s : State) (ls n : Nat)

theorem State.forwardIdle_kept (idle : Bool) (h : ∀ n, s.portOfLs ls = some n → forwards (s.ltssm n) = false) :
    s.forwardIdle ls idle = s := by
  unfold State.forwardIdle
  split
  case h_1 n hn => exact if_neg (by simp [h n hn])
  case h_2 => rfl

theorem State.forwardIdle_sent (idle : Bool) (hp : s.portOfLs ls = some n) (hf : forwards (s.ltssm n) = true)
    (hs : idle = true ∨ s.oppositeLs ls ∈ s.sendLs n (decide (32 ≤ s.oppositeLs ls)))
    (ht : (s.lane (s.oppositeLs ls)).tx = idle) :
    s.forwardIdle ls idle = (s.modLane (s.oppositeLs ls) fun l => { l with tx := !idle }).emit
      (.txIdle (s.oppositeLs ls) idle) := by
  have hc : forwards (s.ltssm n) = true ∧ (idle = true ∨ (s.sendLs n (decide (32 ≤ s.oppositeLs ls))).contains
      (s.oppositeLs ls) = true) := ⟨hf, by simpa using hs⟩
  simp only [State.forwardIdle, hp]
  rw [if_pos hc, State.setTx, if_neg (by simp [ht]), Bool.not_not]

/-! Signal detect and its loss (R50, R77, R111) -/

theorem State.signalDetect_unheard (h : s.astate ls = 0 ∨ s.hears ls true = false) : s.signalDetect ls = s :=
  if_pos (by simpa using h)

theorem State.signalDetect_later (h : 1 < s.astate ls ∧ s.hears ls true = true) :
    s.signalDetect ls = s.setF F.LANE_RX_STAT_SIGDET ls := by
  have ha : (s.setF F.LANE_RX_STAT_SIGDET ls).astate ls = s.astate ls := State.rd_wr_fld _ _ (by decide)
  have h0 : s.astate ls ≠ 0 := by omega
  have h1 : s.astate ls ≠ 1 := by omega
  simp [State.signalDetect, h0, h.2, ha, h1]

/-- A receiver that hears the first signal. -/
def State.detected : State := (s.setF F.LANE_RX_STAT_SIGDET ls).wr F.LANE_RX_STAT_ASTATE ls 2

theorem State.detected_only : Only (partsOf [F.LANE_RX_STAT_SIGDET, F.LANE_RX_STAT_ASTATE] ls) s (s.detected ls) :=
  (s.setF_only _ _).append (State.wr_only _ _ _ _)

theorem State.signalDetect_first (h : s.astate ls = 1) (hh : s.hears ls true = true) :
    s.signalDetect ls = (s.detected ls).forwardIdle ls false := by
  have ha : (s.setF F.LANE_RX_STAT_SIGDET ls).astate ls = 1 := (State.rd_wr_fld _ _ (by decide)).trans h
  simp [State.signalDetect, h, hh, ha, State.setAstate_ne, State.detected]

theorem State.lossOfSignal_heard (h : s.astate ls ≠ 0 ∧ s.hears ls false = true) :
    s.lossOfSignal ls = (s.laneIdle ls).forwardIdle ls true := if_neg (by simp [h])

theorem State.laneIdle_free (h : s.astate ls ≠ 0) (hm : s.flag F.LANE_SLICE_STAT_MARG ls = false) :
    s.laneIdle ls = ((s.dropRequest ls).setAstate ls 1).clrAll [F.LANE_RX_STAT_CDR_LOCK, F.LANE_RX_STAT_SIGDET] ls := by
  rw [State.laneIdle, State.endMargin_free s ls hm]
  exact if_neg h

theorem State.laneIdle_only (h : s.astate ls ≠ 0) (hm : s.flag F.LANE_SLICE_STAT_MARG ls = false) :
    Only (partsOf [F.LANE_RX_STAT_ASTATE, F.LANE_RX_STAT_CDR_LOCK, F.LANE_RX_STAT_SIGDET] ls ++ [.lane ls]) s
      (s.laneIdle ls) := fun p hp => by
  rw [State.laneIdle_free s ls h hm]
  simp_all [partsOf, State.clrAll, State.clr, State.dropRequest, State.modLane]

theorem idle_layout (g : Fld) (hg : g.layout = true) (i : Nat) :
    Part.fld g i ∉ partsOf [F.LANE_RX_STAT_ASTATE, F.LANE_RX_STAT_CDR_LOCK, F.LANE_RX_STAT_SIGDET] ls ++ [.lane ls] := by
  simp [layout_notMem_partsOf (l := [F.LANE_RX_STAT_ASTATE, F.LANE_RX_STAT_CDR_LOCK, F.LANE_RX_STAT_SIGDET]) (by decide) ls g
    hg i]

theorem State.laneIdle_holds (h : s.astate ls ≠ 0) (hm : s.flag F.LANE_SLICE_STAT_MARG ls = false) :
    Holds [(F.LANE_RX_STAT_ASTATE, ls, 1), (F.LANE_RX_STAT_CDR_LOCK, ls, 0), (F.LANE_RX_STAT_SIGDET, ls, 0)]
      (s.laneIdle ls) ∧ (s.laneIdle ls).lane ls = { s.lane ls with marginReq := false } ∧ (s.laneIdle ls).out = s.out := by
  rw [State.laneIdle_free s ls h hm]
  simp (disch := decide) [Holds, State.clrAll, State.clr, State.dropRequest, State.modLane, State.rd_wr_fld,
    State.setAstate_code]

end

/-! Lock and adaptation (R50, R99) -/

section
variable (s : State) (ls : Nat)

theorem State.startAdapt_stays (h : s.astate ls ≠ 3 ∨ s.adaptEnabled ls = false) : s.startAdapt ls = s :=
  if_neg fun hb => by simp [hb] at h

theorem State.startAdapt_goes (h : s.astate ls = 3) (he : s.adaptEnabled ls = true) :
    s.startAdapt ls = s.setAstate ls (if s.rd F.LANE_RX_CTL_FREEZE ls = 1 then 6 else 4) := by
  rw [State.startAdapt, if_pos ⟨h, he⟩, State.flag]
  by_cases hf : s.rd F.LANE_RX_CTL_FREEZE ls = 1 <;> simp [hf]

/-- The CDR of an outer lane-side locks: no lock test and no hold waits for it (R162, R164). -/
theorem exec_cdrLock_outer (h : ls < 32) :
    exec (.cdrLock ls) s = effect (Wf.cdrLock ls) s fun a => (a.cdrLocked ls).startAdapt ls := by
  rw [exec_cdrLock, execCdrLock]
  congr 1
  funext a
  dsimp only
  split
  · exact if_neg (by omega)
  · rfl

/-- A receiver whose CDR has locked, in the state it goes to. -/
def State.cdrTaken (v : Nat) : State := (s.wr F.LANE_RX_STAT_ASTATE ls v).setF F.LANE_RX_STAT_CDR_LOCK ls

theorem State.cdrTaken_only (v : Nat) :
    Only (partsOf [F.LANE_RX_STAT_ASTATE, F.LANE_RX_STAT_CDR_LOCK] ls) s (s.cdrTaken ls v) :=
  (s.wr_only F.LANE_RX_STAT_ASTATE ls v).append (State.setF_only _ F.LANE_RX_STAT_CDR_LOCK ls)

theorem State.cdrTaken_holds {v : Nat} (h : v < 8) :
    Holds [(F.LANE_RX_STAT_ASTATE, ls, v), (F.LANE_RX_STAT_CDR_LOCK, ls, 1)] (s.cdrTaken ls v) := by
  have hmod : v % 8 = v := Nat.mod_eq_of_lt h
  simp (disch := decide) [Holds, State.cdrTaken, State.setF, State.rd_wr_fld, hmod]

/-- The values that a receiver locks with: those kept, or the starting ones (R50, R99). -/
abbrev lockVals : Vals := if (s.lane ls).converged = true then [] else startVals s ls

theorem State.cdrLocked_acquire (h : s.astate ls = 2) : s.cdrLocked ls =
    if (s.lane ls).converged = true then s.cdrTaken ls 3 else (s.cdrTaken ls 3).startEq ls := by
  unfold State.cdrLocked
  rw [if_pos h, State.setAstate_ne s ls 3 (by omega)]
  rfl

theorem State.cdrLocked_moves (h : s.astate ls = 2) :
    Holds ([(F.LANE_RX_STAT_ASTATE, ls, 3), (F.LANE_RX_STAT_CDR_LOCK, ls, 1)] ++ lockVals s ls) (s.cdrLocked ls) ∧
    Only (Vals.parts ([(F.LANE_RX_STAT_ASTATE, ls, 3), (F.LANE_RX_STAT_CDR_LOCK, ls, 1)] ++ lockVals s ls)) s
      (s.cdrLocked ls) ∧
    (s.cdrLocked ls).out = s.out := by
  have honly := s.cdrTaken_only ls 3
  have hholds := s.cdrTaken_holds ls (v := 3) (by decide)
  have hvals : startVals (s.cdrTaken ls 3) ls = startVals s ls := startVals_congr honly
    ⟨fld_notMem_partsOf (by decide), fld_notMem_partsOf (by decide)⟩ rfl rfl
  rw [s.cdrLocked_acquire ls h, lockVals]
  split
  case isTrue => exact ⟨hholds.append (.nil _), honly, rfl⟩
  case isFalse =>
    have hstart := (s.cdrTaken ls 3).startEq_only ls
    refine ⟨(hstart.holds hholds ?_).append (hvals ▸ (s.cdrTaken ls 3).startEq_holds ls), honly.append hstart, rfl⟩
    simp (disch := decide) [Fld.ids_differ, partsOf, startFields]

theorem State.cdrLocked_only (h : s.astate ls = 2) :
    Only (partsOf ([F.LANE_RX_STAT_ASTATE, F.LANE_RX_STAT_CDR_LOCK] ++ startFields) ls) s (s.cdrLocked ls) := by
  have honly := s.cdrTaken_only ls 3
  rw [s.cdrLocked_acquire ls h]
  split
  · exact honly.mono (by simp [partsOf])
  · exact honly.append ((s.cdrTaken ls 3).startEq_only ls)

theorem State.cdrLocked_adaptEnabled (h : s.astate ls = 2) : (s.cdrLocked ls).adaptEnabled ls = s.adaptEnabled ls :=
  (s.cdrLocked_only ls h).adaptEnabled (layout_notMem_partsOf (by decide) ls) (fun n => fld_notMem_partsOf (by decide)) ls

theorem lockVals_fields : ∀ v ∈ lockVals s ls, v.1 ∈ startFields := by
  unfold lockVals
  split <;> simp [startVals, startFields]

/-- An outer receiver that locks for the first time, and the state in which it goes on. -/
theorem cdrLock_gives {v : Nat} (hq : Quiet s) (hl : ls < 32) (ha : s.astate ls = 2) (hv : v < 8)
    (hk : (s.begun.cdrLocked ls).startAdapt ls = (s.begun.cdrLocked ls).setAstate ls v) :
    Gives (.cdrLock ls) s ([(F.LANE_RX_STAT_ASTATE, ls, v), (F.LANE_RX_STAT_CDR_LOCK, ls, 1)] ++ lockVals s ls) [] []
      anyState := by
  obtain ⟨hholds, honly, hout⟩ := s.begun.cdrLocked_moves ls ha
  have hraised := (s.begun.cdrLocked_only ls ha).raised (by simp [partsOf])
  have hset := (s.begun.cdrLocked ls).setAstate_only ls v
  obtain ⟨-, hrest⟩ := List.forall_mem_cons.1 hholds
  refine Gives.of_result (exec_cdrLock_outer s ls hl) (decide_eq_true (by omega)) hk ?_ ?_ trivial
    (.cons (State.setAstate_code _ ls v hv) (hset.holds hrest fun w hw => ?_)) ((honly.append hset).of_begun.mono ?_)
  · exact (State.setAstate_raised ..).trans (hraised.trans hq)
  · exact (State.setAstate_out ..).trans hout
  · have hne : ∀ f ∈ F.LANE_RX_STAT_CDR_LOCK :: startFields, f.id ≠ F.LANE_RX_STAT_ASTATE.id := by decide
    have hw' : w.1 ∈ F.LANE_RX_STAT_CDR_LOCK :: startFields := by
      rcases List.mem_cons.1 hw with rfl | hw
      · exact List.mem_cons_self ..
      · exact List.mem_cons_of_mem _ (lockVals_fields s ls w hw)
    simp [hne _ hw']
  · exact List.forall_mem_append.2 ⟨fun p hp => List.mem_append_left _ hp, by simp [Vals.parts]⟩

/-- The state to which a receiver that has lock again returns (R50, R51). -/
abbrev relockState : Nat := if s.rd F.LANE_RX_CTL_FREEZE ls = 1 then 6 else 5

theorem State.cdrLocked_relock (h : s.astate ls = 7) : s.cdrLocked ls = ((s.cdrTaken ls 5).wr F.LANE_RX_CTL_FREEZE ls
    (if s.rd F.LANE_RX_CTL_FREEZE ls = 1 then 1 else 0)).setAstate ls (relockState s ls) := by
  have ha : (s.cdrTaken ls 5).astate ls = 5 := s.cdrTaken_holds ls (v := 5) (by decide) _ (List.mem_cons_self ..)
  have h2 : s.astate ls ≠ 2 := by omega
  unfold State.cdrLocked
  rw [if_neg h2, if_pos h, State.setAstate_ne s ls 5 (by omega)]
  show (s.cdrTaken ls 5).setFreeze ls (s.flag F.LANE_RX_CTL_FREEZE ls) = _
  by_cases hf : s.rd F.LANE_RX_CTL_FREEZE ls = 1
  · have hflag : s.flag F.LANE_RX_CTL_FREEZE ls = true := by simp [State.flag, hf]
    rw [hflag, State.setFreeze_on, if_pos (.inl ha), relockState, if_pos hf, if_pos hf]
    rfl
  · have hflag : s.flag F.LANE_RX_CTL_FREEZE ls = false := by simp [State.flag, hf]
    rw [hflag, State.setFreeze_off, if_neg (by simp [ha]), relockState, if_neg hf, if_neg hf, ha]
    rfl

/-- A receiver that loses lock (R50). -/
def State.relocking : State :=
  (((s.setAstate ls 7).clr F.LANE_RX_STAT_CDR_LOCK ls).inc F.LANE_ERR_CNT_LOCK_LOSS ls).modLane ls fun l =>
    { l with relocks := l.relocks + 1 }

theorem State.lossOfLock_eq (h : s.astate ls = 5 ∨ s.astate ls = 6) : s.lossOfLock ls = (s.endMargin ls).relocking ls :=
  if_pos h

theorem State.relocking_only :
    Only (partsOf [F.LANE_RX_STAT_ASTATE, F.LANE_RX_STAT_CDR_LOCK, F.LANE_ERR_CNT_LOCK_LOSS] ls ++ [.lane ls]) s
      (s.relocking ls) := fun p hp => by
  simp_all [State.relocking, partsOf, State.clr, State.inc, State.incBy, State.modLane]

theorem State.relocking_holds : Holds [(F.LANE_RX_STAT_ASTATE, ls, 7), (F.LANE_RX_STAT_CDR_LOCK, ls, 0),
    (F.LANE_ERR_CNT_LOCK_LOSS, ls, min (s.rd F.LANE_ERR_CNT_LOCK_LOSS ls + 1) 0xFFFF)] (s.relocking ls) := by
  have hsat : ∀ a, min a 65535 % 65536 = min a 65535 := fun a => Nat.mod_eq_of_lt (by omega)
  simp (disch := decide) [Holds, State.relocking, State.clr, State.inc, State.incBy, State.modLane, State.rd_wr_fld,
    State.setAstate_code, State.setAstate_rd_fld, satAdd, hsat]

theorem State.relocking_lane :
    (s.relocking ls).lane ls = { s.lane ls with relocks := (s.lane ls).relocks + 1 } := by
  simp [State.relocking, State.clr, State.inc, State.incBy, State.modLane]

theorem State.relocking_out : (s.relocking ls).out = s.out := by
  simp [State.relocking, State.clr, State.inc, State.incBy, State.modLane]

theorem State.setLane_only (k : Nat) (x : LaneSt) : Only [.lane k] s (s.setLane k x) :=
  fun _ hp => Part.same_setLane s k x (by simpa using hp)

theorem State.dropRequest_only : Only [.lane ls] s (s.dropRequest ls) :=
  fun p hp => Part.same_setLane s ls _ (by simpa using hp)

theorem State.endMargin_only (h : s.flag F.LANE_SLICE_STAT_MARG ls = true) :
    Only (.lane ls :: partsOf [F.LANE_SLICE_STAT_MARG, F.LANE_SLICE_STAT_CALSLICE] ls) s (s.endMargin ls) := by
  rw [s.endMargin_runs ls h]
  exact ((s.dropRequest_only ls).append (State.clr_only _ F.LANE_SLICE_STAT_MARG ls)).append
    (State.wr_only _ F.LANE_SLICE_STAT_CALSLICE ls _)

theorem State.endMargin_holds (h : s.flag F.LANE_SLICE_STAT_MARG ls = true) :
    Holds [(F.LANE_SLICE_STAT_MARG, ls, 0), (F.LANE_SLICE_STAT_CALSLICE, ls, 0x7F)] (s.endMargin ls) := by
  rw [s.endMargin_runs ls h]
  simp (disch := decide) [Holds, State.clr, State.rd_wr_fld]

theorem State.endMargin_out (h : s.flag F.LANE_SLICE_STAT_MARG ls = true) : (s.endMargin ls).out = s.out := by
  rw [s.endMargin_runs ls h]
  rfl

/-- A receiver whose loops have converged (R49, R50). -/
def State.tracking (ctle dfe1 m1 p1 : Nat) : State :=
  (((((s.wr F.LANE_RX_EQ_CTLE ls ctle).wr F.LANE_RX_EQ_DFE1 ls dfe1).wr F.LANE_RX_EQ_FFE_M1 ls m1).wr
    F.LANE_RX_EQ_FFE_P1 ls p1).wr F.LANE_RX_STAT_ASTATE ls 5).modLane ls fun l => { l with converged := true }

theorem State.adaptConverged_eq (ctle dfe1 m1 p1 : Nat) (h : s.astate ls = 4) :
    s.adaptConverged ls ctle dfe1 m1 p1 = s.tracking ls (min ctle (min (s.rd F.LANE_RX_CTL_CTLE_MAX ls) 36))
      (if s.rd F.LANE_RX_CTL_DFE_EN ls = 1 then dfe1 else 0) m1 p1 := by
  have hd : ∀ v, (s.wr F.LANE_RX_EQ_CTLE ls v).rd F.LANE_RX_CTL_DFE_EN ls = s.rd F.LANE_RX_CTL_DFE_EN ls := fun v =>
    State.rd_wr_fld _ _ (by decide)
  have ha : ∀ a b c d, ((((s.wr F.LANE_RX_EQ_CTLE ls a).wr F.LANE_RX_EQ_DFE1 ls b).wr F.LANE_RX_EQ_FFE_M1 ls c).wr
      F.LANE_RX_EQ_FFE_P1 ls d).astate ls ≠ 5 := fun a b c d => by
    simp (disch := decide) only [State.astate, State.rd_wr_fld] at h ⊢
    omega
  simp [State.adaptConverged, h, State.flag, hd, State.setAstate_ne, ha, State.tracking]

theorem State.tracking_holds (ctle dfe1 m1 p1 : Nat) (h : ctle < 64 ∧ dfe1 < 64 ∧ m1 < 64 ∧ p1 < 64) :
    Holds [(F.LANE_RX_EQ_CTLE, ls, ctle), (F.LANE_RX_EQ_DFE1, ls, dfe1), (F.LANE_RX_EQ_FFE_M1, ls, m1),
      (F.LANE_RX_EQ_FFE_P1, ls, p1), (F.LANE_RX_STAT_ASTATE, ls, 5)] (s.tracking ls ctle dfe1 m1 p1) := by
  simp (disch := decide) [Holds, State.tracking, State.modLane, State.rd_wr_fld, Nat.mod_eq_of_lt, h]

theorem State.relockTimeout_eq :
    s.relockTimeout ls = s.setAstate ls (if s.astate ls = 7 then 2 else s.astate ls) := by
  unfold State.relockTimeout
  split
  · rfl
  · rw [State.setAstate_same]

end

/-! The commands -/

theorem signalDetect_detects (s : State) (ls : Nat) (hq : Quiet s) (hl : ls < 66) (ha : s.astate ls = 1)
    (hh : s.hears ls true = true) (hp : ∀ n, s.portOfLs ls = some n → forwards (s.ltssm n) = false) :
    Gives (.signalDetect ls) s [(F.LANE_RX_STAT_ASTATE, ls, 2), (F.LANE_RX_STAT_SIGDET, ls, 1)] [] [] anyState := by
  have honly := s.begun.detected_only ls
  have hlayout := layout_notMem_partsOf (l := [F.LANE_RX_STAT_SIGDET, F.LANE_RX_STAT_ASTATE]) (by decide) ls
  have hk : s.begun.signalDetect ls = s.begun.detected ls :=
    (s.begun.signalDetect_first ls ha hh).trans (State.forwardIdle_kept _ ls false fun n hn => by
      rw [State.ltssm, honly.rd (fld_notMem_partsOf (by decide))]
      exact hp n ((honly.portOfLs hlayout ls).symm.trans hn))
  refine Gives.of_result (exec_signalDetect s ls) (decide_eq_true hl) hk hq rfl trivial ?_ (honly.of_begun.mono ?_)
  · simp (disch := decide) [Holds, State.detected, State.setF, State.rd_wr_fld]
  · simp [partsOf, Vals.parts]

theorem signalDetect_sends (s : State) (ls n : Nat) (hq : Quiet s) (hl : ls < 66) (ha : s.astate ls = 1)
    (hp : s.portOfLs ls = some n) (hh : s.hears ls true = true) (hf : forwards (s.ltssm n) = true)
    (ho : s.oppositeLs ls ∈ s.sendLs n (decide (32 ≤ s.oppositeLs ls))) (ht : (s.lane (s.oppositeLs ls)).tx = false) :
    Gives (.signalDetect ls) s [(F.LANE_RX_STAT_ASTATE, ls, 2), (F.LANE_RX_STAT_SIGDET, ls, 1)] [.lane (s.oppositeLs
      ls)] [.txIdle (s.oppositeLs ls) false] fun t => t.lane (s.oppositeLs ls) =
      { s.lane (s.oppositeLs ls) with tx := true } := by
  have honly := s.begun.detected_only ls
  have hlayout := layout_notMem_partsOf (l := [F.LANE_RX_STAT_SIGDET, F.LANE_RX_STAT_ASTATE]) (by decide) ls
  have hopp := honly.oppositeLs hlayout ls
  have hk : s.begun.signalDetect ls = ((s.begun.detected ls).modLane (s.oppositeLs ls) fun l => { l with tx := true }).emit
      (.txIdle (s.oppositeLs ls) false) := by
    rw [s.begun.signalDetect_first ls ha hh, State.forwardIdle_sent _ ls n false, hopp]
    · rfl
    · rw [honly.portOfLs hlayout, State.begun_portOfLs, hp]
    · rw [State.ltssm, honly.rd (fld_notMem_partsOf (by decide))]
      exact hf
    · rw [hopp, honly.sendLs hlayout (by simp [partsOf])]
      exact .inr ho
    · rw [hopp]
      exact ht
  refine Gives.of_result (exec_signalDetect s ls) (decide_eq_true hl) hk hq rfl ?_ ?_ (((honly.append
    (State.setLane_only _ _ _)).emit _).of_begun.mono ?_)
  · simp [State.modLane, State.detected, State.setF]
  · simp (disch := decide) [Holds, State.detected, State.setF, State.modLane, State.rd_wr_fld]
  · simp [partsOf, Vals.parts]

theorem lossOfSignal_idles (s : State) (ls : Nat) (hq : Quiet s) (hl : ls < 66)
    (ha : s.astate ls ≠ 0 ∧ s.hears ls false = true) (hm : s.flag F.LANE_SLICE_STAT_MARG ls = false)
    (hp : ∀ n, s.portOfLs ls = some n → forwards (s.ltssm n) = false) :
    Gives (.lossOfSignal ls) s [(F.LANE_RX_STAT_ASTATE, ls, 1), (F.LANE_RX_STAT_CDR_LOCK, ls, 0),
      (F.LANE_RX_STAT_SIGDET, ls, 0)] [.lane ls] [] fun t => t.lane ls = { s.lane ls with marginReq := false } := by
  have honly := s.begun.laneIdle_only ls ha.1 hm
  obtain ⟨hholds, hlane, hout⟩ := s.begun.laneIdle_holds ls ha.1 hm
  have hk : s.begun.lossOfSignal ls = s.begun.laneIdle ls :=
    (s.begun.lossOfSignal_heard ls ha).trans (State.forwardIdle_kept _ ls true fun n hn => by
      rw [State.ltssm, honly.rd (by simp (disch := decide) [Fld.ids_differ, partsOf])]
      exact hp n ((honly.portOfLs (idle_layout ls) ls).symm.trans hn))
  exact Gives.of_result (exec_lossOfSignal s ls) (decide_eq_true hl) hk ((honly.raised (by simp [partsOf])).trans hq) hout
    hlane hholds (honly.of_begun.mono (by simp [partsOf, Vals.parts]))

theorem lossOfSignal_sends (s : State) (ls n : Nat) (hq : Quiet s) (hl : ls < 66)
    (ha : s.astate ls ≠ 0 ∧ s.hears ls false = true) (hm : s.flag F.LANE_SLICE_STAT_MARG ls = false)
    (hp : s.portOfLs ls = some n) (hf : forwards (s.ltssm n) = true) (ho : s.oppositeLs ls ≠ ls)
    (ht : (s.lane (s.oppositeLs ls)).tx = true) :
    Gives (.lossOfSignal ls) s [(F.LANE_RX_STAT_ASTATE, ls, 1), (F.LANE_RX_STAT_CDR_LOCK, ls, 0),
      (F.LANE_RX_STAT_SIGDET, ls, 0)] [.lane ls, .lane (s.oppositeLs ls)] [.txIdle (s.oppositeLs ls) true] fun t =>
      (t.lane (s.oppositeLs ls)).tx = false := by
  have honly := s.begun.laneIdle_only ls ha.1 hm
  obtain ⟨hholds, hlane, hout⟩ := s.begun.laneIdle_holds ls ha.1 hm
  have hopp := honly.oppositeLs (idle_layout ls) ls
  have hraised := honly.raised (by simp [partsOf])
  have hk : s.begun.lossOfSignal ls = ((s.begun.laneIdle ls).modLane (s.oppositeLs ls) fun l => { l with tx := false }).emit
      (.txIdle (s.oppositeLs ls) true) := by
    rw [s.begun.lossOfSignal_heard ls ha, State.forwardIdle_sent _ ls n true, hopp]
    · rfl
    · rw [honly.portOfLs (idle_layout ls), State.begun_portOfLs, hp]
    · rw [State.ltssm, honly.rd (by simp (disch := decide) [Fld.ids_differ, partsOf])]
      exact hf
    · exact .inl rfl
    · rw [hopp]
      exact (congrArg LaneSt.tx (honly (.lane (s.oppositeLs ls)) (by simp [partsOf, ho]))).trans ht
  have hset := (s.begun.laneIdle ls).setLane_only (s.oppositeLs ls)
    { (s.begun.laneIdle ls).lane (s.oppositeLs ls) with tx := false }
  refine Gives.of_result (exec_lossOfSignal s ls) (decide_eq_true hl) hk (hraised.trans hq) ?_ ?_
    (hset.holds hholds (by simp)) (((honly.append hset).emit _).of_begun.mono ?_)
  · exact congrArg (· ++ [_]) hout
  · simp [State.modLane]
  · simp [partsOf, Vals.parts]

theorem cdrLock_relocks (s : State) (ls : Nat) (hq : Quiet s) (hl : ls < 32) (ha : s.astate ls = 7) :
    Gives (.cdrLock ls) s [(F.LANE_RX_STAT_ASTATE, ls, relockState s ls), (F.LANE_RX_STAT_CDR_LOCK, ls, 1),
      (F.LANE_RX_CTL_FREEZE, ls, if s.rd F.LANE_RX_CTL_FREEZE ls = 1 then 1 else 0)] [] [] anyState := by
  have htaken := s.begun.cdrTaken_only ls 5
  have hset := (s.begun.cdrTaken ls 5).wr_only F.LANE_RX_CTL_FREEZE ls (if s.rd F.LANE_RX_CTL_FREEZE ls = 1 then 1 else 0)
  have hmove := ((s.begun.cdrTaken ls 5).wr F.LANE_RX_CTL_FREEZE ls (if s.rd F.LANE_RX_CTL_FREEZE ls = 1 then 1 else
    0)).setAstate_only ls (relockState s ls)
  have hstate : ∀ t : State, (t.setAstate ls (relockState s ls)).rd F.LANE_RX_STAT_ASTATE ls = relockState s ls := fun t =>
    t.setAstate_code ls _ (by unfold relockState; split <;> decide)
  have hk := s.begun.cdrLocked_relock ls ha
  have hstays : (s.begun.cdrLocked ls).startAdapt ls = s.begun.cdrLocked ls := by
    refine State.startAdapt_stays _ ls (.inl ?_)
    rw [hk]
    refine (hstate _).trans_ne ?_
    unfold relockState
    split <;> decide
  refine Gives.of_result (exec_cdrLock_outer s ls hl) (decide_eq_true (by omega)) (hstays.trans hk)
    ((State.setAstate_raised ..).trans hq) (State.setAstate_out ..) trivial (.cons (hstate _) ?_)
    (((htaken.append hset).append hmove).of_begun.mono (by simp [partsOf, Vals.parts]))
  refine .cons ?_ (.cons ?_ (.nil _)) <;> rw [State.setAstate_rd_fld _ _ _ (by decide)]
  · rw [State.rd_wr_fld _ _ (by decide)]
    exact s.begun.cdrTaken_holds ls (v := 5) (by decide) (F.LANE_RX_STAT_CDR_LOCK, ls, 1) (by simp)
  · rw [State.rd_wr_self]
    by_cases hf : s.rd F.LANE_RX_CTL_FREEZE ls = 1 <;> simp [hf]

theorem adaptConverged_tracks (s : State) (ls ctle dfe1 m1 p1 : Nat) (hq : Quiet s) (hl : ls < 66)
    (hv : ctle < 64 ∧ dfe1 < 64 ∧ m1 < 64 ∧ p1 < 64) (ha : s.astate ls = 4) :
    Gives (.adaptConverged ls ctle dfe1 m1 p1) s [(F.LANE_RX_EQ_CTLE, ls, min ctle (min (s.rd F.LANE_RX_CTL_CTLE_MAX ls)
      36)), (F.LANE_RX_EQ_DFE1, ls, if s.rd F.LANE_RX_CTL_DFE_EN ls = 1 then dfe1 else 0), (F.LANE_RX_EQ_FFE_M1, ls,
      m1), (F.LANE_RX_EQ_FFE_P1, ls, p1), (F.LANE_RX_STAT_ASTATE, ls, 5)] [.lane ls] [] fun t => t.lane ls =
      { s.lane ls with converged := true } := by
  have hc : min ctle (min (s.rd F.LANE_RX_CTL_CTLE_MAX ls) 36) < 64 := by omega
  have hd : (if s.rd F.LANE_RX_CTL_DFE_EN ls = 1 then dfe1 else 0) < 64 := by split <;> omega
  refine Gives.of_result (exec_adaptConverged s ls ctle dfe1 m1 p1) (by simp [Wf.adaptConverged, hl, hv])
    (s.begun.adaptConverged_eq ls ctle dfe1 m1 p1 ha) hq rfl ?_
    (s.begun.tracking_holds ls _ _ m1 p1 ⟨hc, hd, hv.2.2⟩) fun p hp => ?_
  · simp [State.tracking, State.modLane]
  · simp_all [Vals.parts, State.tracking, State.modLane]

theorem lossOfLock_relocks (s : State) (ls : Nat) (hq : Quiet s) (hl : ls < 66)
    (ha : s.astate ls = 5 ∨ s.astate ls = 6) (hm : s.flag F.LANE_SLICE_STAT_MARG ls = false) :
    Gives (.lossOfLock ls) s [(F.LANE_RX_STAT_ASTATE, ls, 7), (F.LANE_RX_STAT_CDR_LOCK, ls, 0),
      (F.LANE_ERR_CNT_LOCK_LOSS, ls, min (s.rd F.LANE_ERR_CNT_LOCK_LOSS ls + 1) 0xFFFF)] [.lane ls] [] fun t => t.lane
      ls = { s.lane ls with marginReq := false, relocks := (s.lane ls).relocks + 1 } := by
  have hk : s.begun.lossOfLock ls = (s.begun.dropRequest ls).relocking ls :=
    (s.begun.lossOfLock_eq ls ha).trans (congrArg (State.relocking · ls) (s.begun.endMargin_free ls hm))
  have honly := (s.begun.dropRequest_only ls).append ((s.begun.dropRequest ls).relocking_only ls)
  refine Gives.of_result (exec_lossOfLock s ls) (decide_eq_true hl) hk ((honly.raised (by simp [partsOf])).trans hq)
    (State.relocking_out ..) ?_ ((s.begun.dropRequest ls).relocking_holds ls)
    (honly.of_begun.mono (by simp [partsOf, Vals.parts]))
  simp [State.relocking_lane, State.dropRequest, State.modLane]

theorem lossOfLock_endsStep (s : State) (ls : Nat) (hq : Quiet s) (hl : ls < 66)
    (hm : s.flag F.LANE_SLICE_STAT_MARG ls = true) (ha : s.astate ls = 6) :
    Gives (.lossOfLock ls) s [(F.LANE_RX_STAT_ASTATE, ls, 7), (F.LANE_RX_STAT_CDR_LOCK, ls, 0), (F.LANE_SLICE_STAT_MARG,
      ls, 0), (F.LANE_SLICE_STAT_CALSLICE, ls, 0x7F), (F.LANE_ERR_CNT_LOCK_LOSS, ls, min (s.rd F.LANE_ERR_CNT_LOCK_LOSS
      ls + 1) 0xFFFF)] [.lane ls] [] anyState := by
  have hend := s.begun.endMargin_only ls hm
  have hmove := (s.begun.endMargin ls).relocking_only ls
  have honly := hend.append hmove
  have hcount := hend.rd (f := F.LANE_ERR_CNT_LOCK_LOSS) (i := ls) (by simp (disch := decide) [Fld.ids_differ, partsOf])
  have hfree := hmove.holds (s.begun.endMargin_holds ls hm) (by simp (disch := decide) [Fld.ids_differ, partsOf])
  have hlost := (s.begun.endMargin ls).relocking_holds ls
  rw [hcount] at hlost
  refine Gives.of_result (exec_lossOfLock s ls) (decide_eq_true hl) (s.begun.lossOfLock_eq ls (.inr ha))
    ((honly.raised (by simp [partsOf])).trans hq) ((State.relocking_out ..).trans (s.begun.endMargin_out ls hm)) trivial ?_
    (honly.of_begun.mono (by simp [partsOf, Vals.parts]))
  simp only [Holds, List.forall_mem_cons] at hlost hfree ⊢
  tauto

/-- Settles O16: by the adaptation state, and where the signal starts or ends by what the port forwards, each command makes
the moves that a lemma above names. -/
theorem receiversAreMovedAndHeld : Obligations.ReceiversAreMovedAndHeld := by
  unfold Obligations.ReceiversAreMovedAndHeld
  refine ⟨fun s r ls hr hl => ?freezes, fun s r ls hr hl => ?thaws, fun s r ls hr hl ha => ?noRestart, restart_starts,
    signalDetect_detects, fun s ls hq hl ha => ?hearsOn, fun s ls hq hl ha => ?unheard, signalDetect_sends,
    fun s ls hq hl ha he hl' => ?locks, fun s ls n hq hl ha hp he => ?adapts, cdrLock_relocks, lossOfSignal_idles,
    lossOfSignal_sends, adaptConverged_tracks, lossOfLock_relocks, lossOfLock_endsStep, fun s ls hq hl => ?timesOut⟩
  case freezes => exact freeze_gives hr hl (by split <;> simp) (s.begun.setFreeze_on ls)
  case thaws => exact freeze_gives hr hl (by split <;> simp) (s.begun.setFreeze_off ls)
  case noRestart =>
    exact Gives.of_core (exec_laneRxCtlRestart s r ls) (decide_eq_true hl) hr (s.begun.restartLane_elsewhere ls ha) hr.1 rfl
      trivial (Holds.nil _) fun p _ => by simp
  case hearsOn =>
    refine Gives.of_result (exec_signalDetect s ls) (decide_eq_true hl) (s.begun.signalDetect_later ls ha) hq rfl trivial ?_
      (s.begun.setF_only _ _).of_begun
    simp [Holds, State.setF]
  case unheard =>
    exact Gives.of_nothing (exec_signalDetect s ls) (decide_eq_true hl) hq (s.begun.signalDetect_unheard ls ha)
  case locks =>
    have hlock : (s.begun.cdrLocked ls).astate ls = 3 := (s.begun.cdrLocked_moves ls ha).1 _ (List.mem_cons_self ..)
    refine cdrLock_gives s ls hq hl' ha (by decide) ?_
    rw [State.startAdapt_stays _ ls (.inr ((s.begun.cdrLocked_adaptEnabled ls ha).trans he)), ← hlock, State.setAstate_same]
  case adapts =>
    have hlock : (s.begun.cdrLocked ls).astate ls = 3 := (s.begun.cdrLocked_moves ls ha).1 _ (List.mem_cons_self ..)
    have hen : s.adaptEnabled ls = true := by
      simp only [State.adaptEnabled, hp]
      exact he
    have hfreeze := (s.begun.cdrLocked_only ls ha).rd (f := F.LANE_RX_CTL_FREEZE) (i := ls) (fld_notMem_partsOf (by decide))
    refine cdrLock_gives s ls hq hl ha (by split <;> decide) ?_
    rw [State.startAdapt_goes _ ls hlock ((s.begun.cdrLocked_adaptEnabled ls ha).trans hen), hfreeze]
    rfl
  case timesOut =>
    refine Gives.of_result (exec_relockTimeout s ls) (decide_eq_true hl) (s.begun.relockTimeout_eq ls) ?_ ?_ trivial
      (.cons (State.setAstate_astate _ ls _ ?_) (.nil _)) (State.setAstate_only _ ls _).of_begun
    · exact (State.setAstate_raised ..).trans hq
    · exact State.setAstate_out ..
    · split <;> simp

end Sys2Proof.Machine
end

section
/-! O18: Phrase engines and their memory (R71, R72, R83). -/
namespace Sys2Proof.Machine

section
variable (s : State) (q : Nat)

theorem State.phraseEnable_on : s.phraseEnable q true = (s.setF F.PHR_CTL_EN q).clr F.PHR_STAT_HALTED q := rfl
theorem State.phraseEnable_off : s.phraseEnable q false = (s.clr F.PHR_CTL_EN q).clr F.PHR_STAT_RUN q := rfl

/-! The watchdog (R71) -/

/-- A phrase that still runs at cycle 900 is noted, counted and reported. -/
def State.overrunNoted : State :=
  ((((s.modCal q fun c => { c with overrun := true }).inc F.PHR_WDOG_OVR_CNT q).wr F.PHR_STAT_LAST_CYC q 900).wrMax
    F.PHR_WDOG_MAX_CYC q 900).raise 37 q 0

/-- With WD_HALT the engine halts. -/
def State.watchdogHalt : State :=
  if s.flag F.PHR_CTL_WD_HALT q then (s.setF F.PHR_STAT_HALTED q).clr F.PHR_STAT_RUN q else s

theorem State.overrunNoted_only : Only (partsOf [F.PHR_WDOG_OVR_CNT, F.PHR_STAT_LAST_CYC, F.PHR_WDOG_MAX_CYC] q ++
    [.raised, .cal q]) s (s.overrunNoted q) := fun p hp => by
  simp_all [State.overrunNoted, partsOf, State.inc, State.incBy, State.wrMax]

theorem State.overrunNoted_holds : Holds [(F.PHR_WDOG_OVR_CNT, q, min (s.rd F.PHR_WDOG_OVR_CNT q + 1) 0xFFFF),
    (F.PHR_STAT_LAST_CYC, q, 900), (F.PHR_WDOG_MAX_CYC, q, max (s.rd F.PHR_WDOG_MAX_CYC q) 900 % 1024)]
    (s.overrunNoted q) := by
  have hsat : ∀ a, min a 65535 % 65536 = min a 65535 := fun a => Nat.mod_eq_of_lt (by omega)
  have hcal : ∀ f : Fld, (s.modCal q fun c => { c with overrun := true }).rd f q = s.rd f q := fun _ => rfl
  simp (disch := decide) [Holds, State.overrunNoted, State.inc, State.incBy, State.wrMax, satAdd, State.rd_wr_fld, hsat, hcal]

theorem State.watchdogHalt_moves : Only (partsOf [F.PHR_STAT_HALTED, F.PHR_STAT_RUN] q) s (s.watchdogHalt q) ∧
    Holds [(F.PHR_STAT_HALTED, q, if s.rd F.PHR_CTL_WD_HALT q = 1 then 1 else s.rd F.PHR_STAT_HALTED q),
      (F.PHR_STAT_RUN, q, if s.rd F.PHR_CTL_WD_HALT q = 1 then 0 else s.rd F.PHR_STAT_RUN q)] (s.watchdogHalt q) ∧
    (s.watchdogHalt q).out = s.out := by
  unfold State.watchdogHalt State.flag
  by_cases h : s.rd F.PHR_CTL_WD_HALT q = 1
  · rw [if_pos (by simp [h])]
    refine ⟨(s.setF_only _ q).append (State.clr_only _ _ q), ?_, rfl⟩
    simp (disch := decide) [Holds, h, State.setF, State.clr, State.rd_wr_fld]
  · rw [if_neg (by simp [h])]
    refine ⟨fun p _ => by simp, ?_, rfl⟩
    simp [Holds, h]

theorem State.phraseOverrun_runs (h : s.rd F.PHR_STAT_RUN q = 1) :
    s.phraseOverrun q = (s.overrunNoted q).watchdogHalt q := by
  rw [State.phraseOverrun, if_neg (by simp [State.flag, h])]
  rfl

end

theorem phraseOverrun_reports (s : State) (q : Nat) (hq : Quiet s) (hl : q < 8) (hrun : s.rd F.PHR_STAT_RUN q = 1) :
    Reports (.phraseOverrun q) s [(F.PHR_WDOG_OVR_CNT, q, min (s.rd F.PHR_WDOG_OVR_CNT q + 1) 0xFFFF),
      (F.PHR_STAT_LAST_CYC, q, 900), (F.PHR_WDOG_MAX_CYC, q, max (s.rd F.PHR_WDOG_MAX_CYC q) 900 % 1024),
      (F.PHR_STAT_HALTED, q, if s.rd F.PHR_CTL_WD_HALT q = 1 then 1 else s.rd F.PHR_STAT_HALTED q), (F.PHR_STAT_RUN, q,
      if s.rd F.PHR_CTL_WD_HALT q = 1 then 0 else 1)] [.cal q] [⟨37, q, 0, false⟩] [] fun t => t.cal q =
      { s.cal q with overrun := true } := by
  have hnote := s.begun.overrunNoted_only q
  have hcounts := s.begun.overrunNoted_holds q
  have hcal : (s.begun.overrunNoted q).cal q = { s.cal q with overrun := true } := by
    simp [State.overrunNoted, State.inc, State.incBy, State.wrMax]
  have hraised : (s.begun.overrunNoted q).raised = [⟨37, q, 0, false⟩] := congrArg (· ++ [_]) hq
  obtain ⟨hhalt, hstates, hout⟩ := (s.begun.overrunNoted q).watchdogHalt_moves q
  have hkept : ∀ f ∈ [F.PHR_CTL_WD_HALT, F.PHR_STAT_HALTED, F.PHR_STAT_RUN], (s.begun.overrunNoted q).rd f q = s.rd f q := by
    intro f hf
    have hne := (by decide : ∀ f ∈ [F.PHR_CTL_WD_HALT, F.PHR_STAT_HALTED, F.PHR_STAT_RUN],
      ∀ g ∈ [F.PHR_WDOG_OVR_CNT, F.PHR_STAT_LAST_CYC, F.PHR_WDOG_MAX_CYC], f.id ≠ g.id) f hf
    exact hnote.rd (by simp [partsOf, hne])
  rw [hkept _ (by simp), hkept _ (by simp), hkept _ (by simp), hrun] at hstates
  have hk := s.begun.phraseOverrun_runs q hrun
  refine Reports.of_effect (exec_phraseOverrun s q) (decide_eq_true hl) ?_ ?_ ?_ ?_ ?_ <;> rw [hk]
  · exact (hhalt.holds hcounts (by simp (disch := decide) [Fld.ids_differ, partsOf])).append hstates
  · exact (hnote.append hhalt).of_begun.mono (by simp [partsOf, Vals.parts])
  · exact (hhalt.raised (by simp [partsOf])).trans hraised
  · exact hout
  · exact (hhalt (.cal q) (by simp [partsOf])).trans hcal

/-! Phrase-engine memory (R72) -/

/-- A part of the memory of an engine that a management write may not change: of an enabled engine, its active bank and its
data area. -/
abbrev phraseProtected (s : State) (addr : Nat) : Prop :=
  s.rd F.PHR_CTL_EN (phrQuad addr) = 1 ∧ (phrPart addr = 2 ∨ phrPart addr = s.rd F.PHR_STAT_ACT (phrQuad addr))

section
variable (s : State) (req addr val : Nat)

/-- A write to a bank makes it invalid. -/
def State.bankWritten : State :=
  if phrPart addr = 0 then s.clrAll [F.PHR_STAT_VALID_A, F.PHR_ID_ID_A] (phrQuad addr)
  else if phrPart addr = 1 then s.clrAll [F.PHR_STAT_VALID_B, F.PHR_ID_ID_B] (phrQuad addr)
  else s

theorem State.phraseWrite_stores (h : ¬phraseProtected s addr) :
    s.phraseWrite req addr val = (s.wrWord32 addr val).bankWritten addr :=
  if_neg fun hb => h ⟨by simpa [State.flag] using hb.1, hb.2⟩

theorem State.phraseWrite_refused (h : phraseProtected s addr) :
    s.phraseWrite req addr val = s.refuse F.GLB_WERR_QUAD req addr :=
  if_pos ⟨by simpa [State.flag] using h.1, h.2⟩

/-- What a write leaves of the validity of the banks and of the numbers of their phrases. -/
abbrev bankVals : Vals :=
  [(F.PHR_STAT_VALID_A, phrQuad addr, if phrPart addr = 0 then 0 else s.rd F.PHR_STAT_VALID_A (phrQuad addr)),
    (F.PHR_ID_ID_A, phrQuad addr, if phrPart addr = 0 then 0 else s.rd F.PHR_ID_ID_A (phrQuad addr)),
    (F.PHR_STAT_VALID_B, phrQuad addr, if phrPart addr = 1 then 0 else s.rd F.PHR_STAT_VALID_B (phrQuad addr)),
    (F.PHR_ID_ID_B, phrQuad addr, if phrPart addr = 1 then 0 else s.rd F.PHR_ID_ID_B (phrQuad addr))]

theorem State.bankWritten_moves : Holds (bankVals s addr) (s.bankWritten addr) ∧
    Only (bankVals s addr).parts s (s.bankWritten addr) ∧ (s.bankWritten addr).out = s.out ∧
    (s.bankWritten addr).mem = s.mem := by
  unfold State.bankWritten
  by_cases hA : phrPart addr = 0
  · rw [if_pos hA]
    refine ⟨?_, (s.clrAll_only _ _).mono (by simp [partsOf, Vals.parts]), rfl, rfl⟩
    simp (disch := decide) [Holds, hA, State.clrAll, State.clr, State.rd_wr_fld]
  rw [if_neg hA]
  by_cases hB : phrPart addr = 1
  · rw [if_pos hB]
    refine ⟨?_, (s.clrAll_only _ _).mono (by simp [partsOf, Vals.parts]), rfl, rfl⟩
    simp (disch := decide) [Holds, hB, State.clrAll, State.clr, State.rd_wr_fld]
  · rw [if_neg hB]
    refine ⟨?_, fun p _ => by simp, rfl, rfl⟩
    simp [Holds, hA, hB]

theorem State.wrWord32_only : Only [.byte addr, .byte (addr + 1), .byte (addr + 2), .byte (addr + 3)] s
    (s.wrWord32 addr val) := fun p hp => by simp_all

end

theorem wf_phraseMemoryWrite {r : Requester} {addr val : Nat} (ha : 0x100000 ≤ addr ∧ addr < 0x140000 ∧ addr % 4 = 0)
    (hv : val < 2 ^ 32) : Wf.phraseMemoryWrite r addr val = true := by
  simp only [Wf.phraseMemoryWrite, ha, hv, and_self, decide_true, Bool.and_self]

theorem phraseMemoryWrite_stores (s : State) (r : Requester) (addr val : Nat) (hr : CoreReady s r)
    (ha : 0x100000 ≤ addr ∧ addr < 0x140000 ∧ addr % 4 = 0) (hv : val < 2 ^ 32) (hp : ¬phraseProtected s addr) :
    Gives (.phraseMemoryWrite r addr val) s (bankVals s addr) [.byte addr, .byte (addr + 1), .byte (addr + 2), .byte
      (addr + 3)] [.writeAck] fun t => t.rdWord32 addr = val := by
  have hword := s.begun.wrWord32_only addr val
  obtain ⟨hholds, honly, hout, hmem⟩ := (s.begun.wrWord32 addr val).bankWritten_moves addr
  refine Gives.of_core (exec_phraseMemoryWrite s r addr val) (wf_phraseMemoryWrite ha hv) hr
    (s.begun.phraseWrite_stores (reqCode r) addr val hp) ?_ ?_ ?_ ?_ ((hword.append honly).of_begun.mono ?_)
  · exact ((hword.append honly).raised (by simp [Vals.parts])).trans hr.1
  · exact hout.trans (by simp)
  · rw [State.emit_rdWord32, State.rdWord32_congr hmem, State.rdWord32_wrWord32 _ addr val hv]
  · simpa only [bankVals, State.wrWord32_rd, State.begun_rd] using hholds
  · simp +contextual [Vals.parts, or_imp]

/-- Settles O18: by the quad's enable, halt and watchdog settings, and for memory by the part written, each command makes the
writes that a lemma above names. -/
theorem phraseEngineRunsAndStops : Obligations.PhraseEngineRunsAndStops := by
  unfold Obligations.PhraseEngineRunsAndStops
  refine ⟨fun s r q en hr hl => ?enable, fun s r q hr hl => ?clear, phraseOverrun_reports,
    fun s r addr val q region hr ha hv hqr hp => ?stores, fun s r addr val q region hr ha hv hqr hp hw => ?refuses⟩
  case enable =>
    cases en with
    | true =>
      refine Gives.of_core (exec_phrCtlEn s r q true) (decide_eq_true hl) hr (s.begun.phraseEnable_on q) hr.1 rfl trivial ?_
        fun p hp => ?_
      · simp (disch := decide) [Holds, State.setF, State.clr, State.rd_wr_fld, b2n]
      · simp_all [Vals.parts, State.setF, State.clr]
    | false =>
      refine Gives.of_core (exec_phrCtlEn s r q false) (decide_eq_true hl) hr (s.begun.phraseEnable_off q) hr.1 rfl trivial ?_
        fun p hp => ?_
      · simp (disch := decide) [Holds, State.clr, State.rd_wr_fld, b2n]
      · simp_all [Vals.parts, State.clr]
  case clear => exact clears_gives (exec_phrWdogClr s r q) (decide_eq_true hl) hr (by decide) rfl
  case stores =>
    obtain ⟨rfl, rfl⟩ := hqr
    exact phraseMemoryWrite_stores s r addr val hr ha hv hp
  case refuses =>
    obtain ⟨rfl, rfl⟩ := hqr
    have hk : s.begun.phraseWrite (reqCode r) addr val = (s.begun.setF F.GLB_WERR_QUAD 0).putRefused true :=
      (s.begun.phraseWrite_refused (reqCode r) addr val hp).trans (s.begun.refuse_again _ _ _ hw)
    refine Gives.of_core (exec_phraseMemoryWrite s r addr val) (wf_phraseMemoryWrite ha hv) hr hk hr.1 rfl rfl ?_ fun p hp => ?_
    · simp [Holds, State.setF]
    · simp_all [Vals.parts, State.setF]

end Sys2Proof.Machine
end

section
/-! O17: Lane Margining commands and the steps they ask for (R66, R88, R104, R105). -/
namespace Sys2Proof.Machine

/-! What a command is answered with -/

/-- A Lane Margining command names a receiver of the device on a lane of the port, whose link does not pass retimer
presence on (R88, R104). -/
structure NamesReceiver (s : State) (n lane rxnum : Nat) (inner : Bool) : Prop where
  side : s.marginSide n rxnum = some inner
  lane : (s.portLanes n).contains lane = true
  plain : s.rd F.PORT_LINK_STAT_XS_RTMR n ≠ 1

theorem NamesReceiver.begun {s : State} {n lane rxnum : Nat} {inner : Bool} (h : NamesReceiver s n lane rxnum inner) :
    NamesReceiver s.begun n lane rxnum inner := ⟨h.side, h.lane, h.plain⟩

/-- Lane Margining is enabled, at a rate that supports it (R104). -/
abbrev marginSupported (s : State) (n : Nat) : Prop := s.rd F.PORT_CFG_MARG_EN n = 1 ∧ 3 ≤ s.rate n

/-- The lane-side that a command for a side of a lane speaks of. -/
abbrev marginLs (s : State) (lane : Nat) (inner : Bool) : Nat := if inner then s.innerOf lane else outerLs lane

/-- What a command asks of a lane-side in L0, a response aside (R66, R105). -/
def State.marginAct (s : State) (n lane rxnum ls : Nat) : MarginAsk → State
  | .report p => s.emit (.marginReport n lane rxnum p (marginValue (s.rate n) p))
  | ask =>
    if s.rd F.LANE_SLICE_STAT_CALSTOP ls = 1 ∨ s.laneOffL0p n lane = true then s.emit (.margin n lane rxnum 1)
    else if ask = .step then (s.modLane ls fun l => { l with marginReq := true }).emit (.margin n lane rxnum 0)
    else ((s.endMargin ls).unfreeze ls).emit (.margin n lane rxnum 0)

section
variable {s : State} {n lane rxnum : Nat} {inner : Bool} {ask : MarginAsk}

theorem State.marginCommand_forwarded (h : s.marginSide n rxnum = none ∨ ask = .response) :
    s.marginCommand n lane rxnum ask = s.emit (.marginFwd n lane rxnum ask) := by
  rcases h with h | h <;> simp [State.marginCommand, h]

/-- A command for a receiver of the device is answered by what the port supports, then by its state. -/
theorem State.marginCommand_named (hn : NamesReceiver s n lane rxnum inner) (ha : ask ≠ .response) :
    s.marginCommand n lane rxnum ask =
      if s.rd F.PORT_CFG_MARG_EN n ≠ 1 ∨ s.rate n < 3 then s.emit (.margin n lane rxnum 2)
      else if s.ltssm n ≠ 8 then s.emit (.margin n lane rxnum 1)
      else s.marginAct n lane rxnum (marginLs s lane inner) ask := by
  obtain ⟨hside, hlane, hplain⟩ := hn
  simp only [List.contains_iff_mem] at hlane
  cases ask <;> simp [State.marginCommand, State.marginAct, hside, hlane, hplain, State.flag] at ha ⊢

theorem State.marginCommand_inL0 (hn : NamesReceiver s n lane rxnum inner) (ha : ask ≠ .response)
    (hs : marginSupported s n) (h : s.ltssm n = 8) :
    s.marginCommand n lane rxnum ask = s.marginAct n lane rxnum (marginLs s lane inner) ask := by
  rw [State.marginCommand_named hn ha, if_neg (by omega), if_neg (not_not.2 h)]

end

theorem wf_marginCommand {n lane rxnum : Nat} (ask : MarginAsk) (h : n < 16 ∧ lane < 32 ∧ rxnum < 8) :
    Wf.marginCommand n lane rxnum ask = true := by simp [Wf.marginCommand, h]

/-- A command that is only answered. -/
theorem marginCommand_answers {s : State} {n lane rxnum : Nat} {ask : MarginAsk} {o : Out} (hq : Quiet s)
    (hw : n < 16 ∧ lane < 32 ∧ rxnum < 8) (hk : s.begun.marginCommand n lane rxnum ask = s.begun.emit o) :
    Gives (.marginCommand n lane rxnum ask) s [] [] [o] anyState :=
  Gives.of_result (exec_marginCommand s n lane rxnum ask) (wf_marginCommand ask hw) hk hq rfl trivial (.nil _)
    fun p _ => by simp

/-! Steps (R51, R66, R105) -/

section
variable (s : State) (ls : Nat)

theorem State.unfreeze_tracks (h : s.astate ls = 6) (hf : s.rd F.LANE_RX_CTL_FREEZE ls ≠ 1)
    (hm : s.rd F.LANE_SLICE_STAT_MARG ls ≠ 1) : s.unfreeze ls = s.setAstate ls 5 :=
  if_pos (by simp [h, State.flag, hf, hm])

/-- A step set up: the spare slice at the margin offset, the receiver held. -/
def State.stepHeld : State :=
  (((s.setF F.LANE_SLICE_STAT_MARG ls).wr F.LANE_SLICE_STAT_CALSLICE ls (s.freeSpare ls)).modLane ls fun l =>
    { l with marginReq := false }).setAstate ls 6

/-- What the set-up of a step waits for, beside the step (R66, R71, R105). -/
structure StepCanStart (s : State) (ls n : Nat) : Prop where
  port : s.portOfLs ls = some n
  inL0 : s.ltssm n = 8
  noRotation : s.rd F.LANE_SLICE_STAT_CALSLICE ls = 0x7F
  calibrated : s.rd F.LANE_SLICE_STAT_CALSTOP ls ≠ 1
  hasLock : s.astate ls = 4 ∨ s.astate ls = 5 ∨ s.astate ls = 6
  inTime : s.phraseLate ls = false

theorem State.marginSetup_holds {n : Nat} (hc : StepCanStart s ls n) (hm : (s.lane ls).marginReq = true) :
    s.marginSetup ls = s.stepHeld ls := by
  obtain ⟨hport, hl0, hslice, hcal, hlock, hlate⟩ := hc
  have hstate : [4, 5, 6].contains (s.astate ls) = true := by
    rcases hlock with h | h | h <;> rw [h] <;> rfl
  simp only [State.marginSetup, hport]
  rw [if_pos (by simp only [hm, hl0, hslice, State.flag, hstate, hlate]; simpa using hcal)]
  rfl

/-- The slice that a step takes. -/
theorem State.freeSpare_eq : s.freeSpare ls =
    if s.rd F.LANE_SLICE_STAT_SUB1 ls = 0x7F ∧ (s.lane ls).badSlices.contains 65 = false then 65 else 64 := by
  simp [State.freeSpare]

theorem State.freeSpare_le : s.freeSpare ls ≤ 65 := by
  unfold State.freeSpare
  split <;> decide

theorem State.stepHeld_holds : Holds [(F.LANE_SLICE_STAT_MARG, ls, 1), (F.LANE_SLICE_STAT_CALSLICE, ls, s.freeSpare ls),
    (F.LANE_RX_STAT_ASTATE, ls, 6)] (s.stepHeld ls) := by
  have hslice : s.freeSpare ls % 128 = s.freeSpare ls := Nat.mod_eq_of_lt (by have := s.freeSpare_le ls; omega)
  simp (disch := decide) [Holds, State.stepHeld, State.setF, State.modLane, State.setAstate_code, State.setAstate_rd_fld,
    State.rd_wr_fld, hslice]

theorem State.stepHeld_only :
    Only (partsOf [F.LANE_SLICE_STAT_MARG, F.LANE_SLICE_STAT_CALSLICE, F.LANE_RX_STAT_ASTATE] ls ++ [.lane ls]) s
      (s.stepHeld ls) := fun p hp => by
  simp_all [State.stepHeld, State.setF, State.modLane, partsOf]

theorem State.stepHeld_lane : (s.stepHeld ls).lane ls = { s.lane ls with marginReq := false } := by
  simp [State.stepHeld, State.setF, State.modLane]

theorem State.stepHeld_out : (s.stepHeld ls).out = s.out := State.setAstate_out ..

/-- A step ended while its receiver is held by it alone. -/
theorem State.stepEnded (hm : s.flag F.LANE_SLICE_STAT_MARG ls = true)
    (ha : s.astate ls = 6 ∧ s.rd F.LANE_RX_CTL_FREEZE ls ≠ 1) :
    (s.endMargin ls).unfreeze ls = (s.endMargin ls).setAstate ls 5 := by
  have hend := s.endMargin_only ls hm
  have hfree := s.endMargin_holds ls hm _ (List.mem_cons_self ..)
  refine State.unfreeze_tracks _ ls ((hend.rd ?_).trans ha.1) ?_ (by simp [hfree])
  · simp (disch := decide) [Fld.ids_differ, partsOf]
  · rw [hend.rd (by simp (disch := decide) [Fld.ids_differ, partsOf])]
    exact ha.2

end

section
variable {s : State} {n lane rxnum ls : Nat} {inner : Bool} (hq : Quiet s) (hw : n < 16 ∧ lane < 32 ∧ rxnum < 8)
  (hn : NamesReceiver s n lane rxnum inner) (hs : marginSupported s n) (h0 : s.ltssm n = 8)
  (hls : ls = marginLs s lane inner)
include hn hs h0 hls

theorem begun_marginCommand {ask : MarginAsk} (ha : ask ≠ .response) :
    s.begun.marginCommand n lane rxnum ask = s.begun.marginAct n lane rxnum ls ask := by
  subst hls
  exact State.marginCommand_inL0 hn.begun ha hs h0

include hq hw

theorem reportCommand_answered (p : MarginParam) :
    Gives (.marginCommand n lane rxnum (.report p)) s [] [] [.marginReport n lane rxnum p (marginValue (s.rate n) p)]
      anyState :=
  marginCommand_answers hq hw (begun_marginCommand hn hs h0 hls (by simp))

theorem stepCommand_refused (h : s.rd F.LANE_SLICE_STAT_CALSTOP ls = 1 ∨ s.laneOffL0p n lane = true) :
    Gives (.marginCommand n lane rxnum .step) s [] [] [.margin n lane rxnum 1] anyState :=
  marginCommand_answers hq hw ((begun_marginCommand hn hs h0 hls (by simp)).trans (if_pos h))

variable (hc : s.rd F.LANE_SLICE_STAT_CALSTOP ls ≠ 1) (hp : s.laneOffL0p n lane = false)
include hc hp

theorem stepCommand_accepted :
    Gives (.marginCommand n lane rxnum .step) s [] [.lane ls] [.margin n lane rxnum 0] fun t =>
      t.lane ls = { s.lane ls with marginReq := true } := by
  have hk := (begun_marginCommand hn hs h0 hls (ask := .step) (by simp)).trans
    ((if_neg (not_or.2 ⟨hc, Bool.eq_false_iff.1 hp⟩)).trans (if_pos rfl))
  exact Gives.of_result (exec_marginCommand s n lane rxnum .step) (wf_marginCommand .step hw) hk hq rfl
    (State.lane_setLane ..) (.nil _) ((State.setLane_only s.begun _ _).of_begun.emit _)

theorem stopCommand_accepted (hm : s.rd F.LANE_SLICE_STAT_MARG ls = 1)
    (ha : s.astate ls = 6 ∧ s.rd F.LANE_RX_CTL_FREEZE ls ≠ 1) :
    Gives (.marginCommand n lane rxnum .stop) s [(F.LANE_SLICE_STAT_MARG, ls, 0), (F.LANE_SLICE_STAT_CALSLICE, ls, 0x7F),
      (F.LANE_RX_STAT_ASTATE, ls, 5)] [.lane ls] [.margin n lane rxnum 0] anyState := by
  have hk := (begun_marginCommand hn hs h0 hls (ask := .stop) (by simp)).trans
    ((if_neg (not_or.2 ⟨hc, Bool.eq_false_iff.1 hp⟩)).trans (if_neg (by simp)))
  have hf : s.begun.flag F.LANE_SLICE_STAT_MARG ls = true := by simpa [State.flag] using hm
  rw [State.stepEnded s.begun ls hf ha] at hk
  have hend := s.begun.endMargin_only ls hf
  have hfree := s.begun.endMargin_holds ls hf
  have hout := s.begun.endMargin_out ls hf
  generalize s.begun.endMargin ls = u at hend hfree hout hk
  have hset := u.setAstate_only ls 5
  have hraised := (hend.append hset).raised (by simp [partsOf])
  refine Gives.of_result (exec_marginCommand s n lane rxnum .stop) (wf_marginCommand .stop hw) hk (hraised.trans hq) ?_
    trivial ?_ (((hend.append hset).of_begun.emit _).mono (by simp [partsOf, Vals.parts]))
  · simp [State.emit, hout]
  · have hkept := hset.holds hfree (by simp (disch := decide) [Fld.ids_differ])
    exact hkept.append (.cons (u.setAstate_code ls 5 (by decide)) (.nil _))

end

theorem marginStepSetup_starts (s : State) (ls n : Nat) (hq : Quiet s) (hl : ls < 66) (hm : (s.lane ls).marginReq = true)
    (hc : StepCanStart s ls n) :
    Gives (.marginStepSetup ls) s [(F.LANE_SLICE_STAT_MARG, ls, 1), (F.LANE_SLICE_STAT_CALSLICE, ls, s.freeSpare ls),
      (F.LANE_RX_STAT_ASTATE, ls, 6)] [.lane ls] [] fun t => t.lane ls = { s.lane ls with marginReq := false } := by
  have honly := s.begun.stepHeld_only ls
  have hc' : StepCanStart s.begun ls n :=
    ⟨hc.port, hc.inL0, hc.noRotation, hc.calibrated, hc.hasLock, hc.inTime⟩
  exact Gives.of_result (exec_marginStepSetup s ls) (decide_eq_true hl) (s.begun.marginSetup_holds ls hc' hm)
    ((honly.raised (by simp [partsOf])).trans hq) (s.begun.stepHeld_out ls) (s.begun.stepHeld_lane ls)
    (s.begun.stepHeld_holds ls) honly.of_begun

/-- Settles O17: a command is forwarded, answered at once, or, in L0, answered by what it asks of its lane-side; a step
that can start takes the free spare slice and holds the receiver. -/
theorem marginingHoldsTheLane : Obligations.MarginingHoldsTheLane := by
  unfold Obligations.MarginingHoldsTheLane
  refine ⟨fun s n lane rxnum ask hq hw hf => ?forwarded, fun s n lane rxnum inner ask hq hw hside hlane hplain hno ha => ?unsupported,
    fun s n lane rxnum inner ask hq hw hside hlane hplain hs h0 ha => ?outsideL0,
    fun s n lane rxnum inner p hq hw hside hlane hplain hs h0 => ?reports,
    fun s n lane rxnum ls inner hq hw hside hlane hplain hs h0 hls => ?refusesStep,
    fun s n lane rxnum ls inner hq hw hside hlane hplain hs h0 hls => ?acceptsStep,
    fun s n lane rxnum ls inner hq hw hside hlane hplain hs h0 hls => ?stops,
    fun s ls n hq hl hport hm h0 hslice hcal hrun => ?setUp⟩
  case forwarded => exact marginCommand_answers hq hw (State.marginCommand_forwarded hf)
  case unsupported =>
    have hn : NamesReceiver s n lane rxnum inner := ⟨hside, hlane, hplain⟩
    exact marginCommand_answers hq hw ((State.marginCommand_named hn.begun ha).trans (if_pos hno))
  case outsideL0 =>
    have hb : ¬(s.rd F.PORT_CFG_MARG_EN n ≠ 1 ∨ s.rate n < 3) := by omega
    have hn : NamesReceiver s n lane rxnum inner := ⟨hside, hlane, hplain⟩
    exact marginCommand_answers hq hw ((State.marginCommand_named hn.begun ha).trans ((if_neg hb).trans (if_pos h0)))
  case reports => exact reportCommand_answered hq hw ⟨hside, hlane, hplain⟩ hs h0 rfl p
  case refusesStep => exact stepCommand_refused hq hw ⟨hside, hlane, hplain⟩ hs h0 hls
  case acceptsStep => exact stepCommand_accepted hq hw ⟨hside, hlane, hplain⟩ hs h0 hls
  case stops => exact stopCommand_accepted hq hw ⟨hside, hlane, hplain⟩ hs h0 hls
  case setUp =>
    exact s.freeSpare_eq ls ▸ marginStepSetup_starts s ls n hq hl hm ⟨hport, h0, hslice, hcal, hrun.1, hrun.2⟩

end Sys2Proof.Machine
end

section
/-! O13: what a reset by PERST_Nn drives where the width map gives a lane of the port to no port. -/
namespace Sys2Proof.Machine

/-- Quad 0 has the code of an eight-lane port and quad 1 that of no port, a map that R27 calls illegal. Port 0 is enabled,
with LTSSM at 2 and no receiver found yet; both quads have power, and the pattern generator of lane 4 is on. -/
def State.unmatchedQuad : State :=
  [(F.GLB_BIFUR_QUAD0, 0, 5), (F.PWR_DOM_STAT_QGATED, 0, 0), (F.PORT_CTL_EN, 0, 1), (F.PORT_LINK_STAT_LTSSM, 0, 2),
    (F.LANE_PRBS_CTL_GEN_EN, 4, 1)].foldl (fun s w => s.wr w.1 w.2.1 w.2.2) State.reset

/-- Lane 4 is within the width of port 0, but its own quad names no owner, so its generator drives it once the port is reset. -/
theorem State.unmatchedQuad_drives :
    outputsOf (exec (.perstAssert 0) State.unmatchedQuad) = [.txIdle 4 false] := by
  decide +kernel

/-- Refutes O13, by its second clause: where the code of a port's second quad does not go with that of its first, the lanes
of that quad have no owner, and a reset by PERST_Nn takes one whose pattern generator is on (LANE_PRBS_CTL.GEN_EN) out
of electrical idle, an output that the clause does not allow. The clause does not ask that the width map be legal. -/
theorem not_pinsReachThePorts : ¬ Obligations.PinsReachThePorts := by
  unfold Obligations.PinsReachThePorts
  rintro ⟨-, clause, -⟩
  obtain ⟨t, hexec, -, -, hout, -⟩ :=
    clause State.unmatchedQuad 0 (by decide +kernel) (by decide +kernel) (by decide +kernel) (by decide +kernel)
      (by decide +kernel) (by decide +kernel) (by decide +kernel)
  have hdrives : t.out = [.txIdle 4 false] := by
    simpa only [hexec, outputsOf] using State.unmatchedQuad_drives
  simp [hout] at hdrives

end Sys2Proof.Machine
end

section
/-! O19: receiver detection, training sets, L1 and retrains (R85 to R112): what each step changes of a port and of its
lane-sides, and the values that it leaves. -/
namespace Sys2Proof.Machine

/-! Changes within a list of parts -/

/-- No part but those listed has changed, and nothing more has been driven. -/
structure Within (ps : List Part) (s t : State) : Prop where
  only : Only ps s t
  out : t.out = s.out

section
variable {ps qs : List Part} {s t u : State}

theorem Within.refl (ps : List Part) (s : State) : Within ps s s := ⟨fun p _ => p.same_refl s, rfl⟩
theorem Within.trans (h : Within ps s t) (k : Within ps t u) : Within ps s u := ⟨h.only.trans k.only, k.out.trans h.out⟩
theorem Within.mono (h : Within ps s t) (hsub : ∀ p ∈ ps, p ∈ qs) : Within qs s t := ⟨h.only.mono hsub, h.out⟩

theorem Within.ite {c : Prop} [Decidable c] (h : Within ps s t) (k : Within ps s u) :
    Within ps s (if c then t else u) := by
  split
  · exact h
  · exact k

theorem forEach_within {α : Type} {f : α → State → State} (l : List α) (s : State)
    (h : ∀ x ∈ l, ∀ a, Within ps a (f x a)) : Within ps s (forEach l f s) :=
  forEach_keeps (Within ps s) l (.refl ps s) fun x hx a ha => ha.trans (h x hx a)

theorem State.wr_within (s : State) (f : Fld) (i v : Nat) : Within [.fld f i] s (s.wr f i v) := ⟨s.wr_only f i v, rfl⟩
theorem State.clrAll_within (s : State) (fs : List Fld) (i : Nat) : Within (partsOf fs i) s (s.clrAll fs i) :=
  ⟨s.clrAll_only fs i, s.clrAll_out fs i⟩
theorem State.modPort_within (s : State) (n : Nat) (f : PortSt → PortSt) : Within [.port n] s (s.modPort n f) :=
  ⟨s.setPort_only n _, rfl⟩
theorem State.modLane_within (s : State) (ls : Nat) (f : LaneSt → LaneSt) : Within [.lane ls] s (s.modLane ls f) :=
  ⟨s.setLane_only ls _, rfl⟩

/-- A pass that changes nothing for any element. -/
theorem forEach_id {σ α : Type} {f : α → σ → σ} (l : List α) (s : σ) (h : ∀ x ∈ l, f x s = s) : forEach l f s = s :=
  forEach_keeps (· = s) l rfl fun x hx _ ha => ha ▸ h x hx

/-- What the pass of an element brings about, and every other pass keeps, holds of each element at the end. -/
theorem forEach_each {σ α : Type} {f : α → σ → σ} (P : α → σ → Prop) (l : List α) (s : σ)
    (hset : ∀ x ∈ l, ∀ a, P x (f x a)) (hkeep : ∀ x ∈ l, ∀ y ∈ l, ∀ a, P x a → P x (f y a)) :
    ∀ x ∈ l, P x (forEach l f s) := by
  induction l generalizing s with
  | nil => simp
  | cons y t ih =>
    have hrest := ih (f y s) (fun x hx => hset x (by simp [hx])) fun x hx z hz => hkeep x (by simp [hx]) z (by simp [hz])
    have hfirst : P y (forEach t f (f y s)) :=
      forEach_keeps (P y) t (hset y (by simp) s) fun z hz a => hkeep y (by simp) z (by simp [hz]) a
    exact List.forall_mem_cons.2 ⟨hfirst, hrest⟩

end

/-! The parts that training may change -/

/-- The fields of a lane-side that entering electrical idle may change. -/
def idleFields : List Fld := [F.LANE_RX_STAT_ASTATE, F.LANE_RX_STAT_CDR_LOCK, F.LANE_RX_STAT_SIGDET, F.LANE_PRBS_STAT_LOCK,
  F.LANE_SLICE_STAT_MARG, F.LANE_SLICE_STAT_CALSLICE]

/-- The coefficients of a transmitter, with the preset they come from. -/
def coefFields : List Fld := [F.LANE_EQ_STAT_PRESET, F.LANE_EQ_STAT_CP1, F.LANE_EQ_STAT_C0, F.LANE_EQ_STAT_CM1,
  F.LANE_EQ_STAT_CM2]

/-- The fields of a port that training may change. -/
def portTrainFields : List Fld := [F.PORT_LINK_STAT_LTSSM, F.PORT_LINK_STAT_RATE, F.PORT_LINK_STAT_AWIDTH,
  F.PORT_FLIT_STAT_FMT, F.trials true, F.trials false, F.PORT_EQ_STAT_RATE] ++ Reg.PORT_TRN_CNT.fields ++ modeFields

/-- The fields of a lane-side that training may change. -/
def laneTrainFields : List Fld := idleFields ++ coefFields ++ [F.LANE_RX_STAT_POL_DET, F.LANE_RX_STAT_LOGICAL]

section
variable {l : List Nat} {fs : List Fld} {ls i : Nat} {g : Fld}

theorem fld_mem_laneFields (hl : ls ∈ l) (hg : g ∈ fs) : Part.fld g ls ∈ laneFields l fs :=
  List.mem_flatMap.2 ⟨ls, hl, List.mem_map_of_mem hg⟩

theorem fld_notMem_laneFields (h : ∀ f ∈ fs, f.id ≠ g.id) : Part.fld g i ∉ laneFields l fs := by
  intro hm
  obtain ⟨ls, -, hls⟩ := List.mem_flatMap.1 hm
  exact fld_notMem_partsOf h hls

theorem fld_notMem_portParts {n j : Nat} (h : ∀ f ∈ fs, f.id ≠ g.id) : Part.fld g i ∉ .port n :: partsOf fs j := fun hm =>
  (List.mem_cons.1 hm).elim (by simp) (fld_notMem_partsOf h)

theorem layout_notMem_portParts {n j : Nat} (h : ∀ f ∈ fs, f.layout = false) (g : Fld) (hg : g.layout = true) (i : Nat) :
    Part.fld g i ∉ .port n :: partsOf fs j :=
  fld_notMem_portParts fun f hf he => absurd ((h f hf).symm.trans (Fld.layout_congr he)) (by simp [hg])

theorem lane_notMem_laneFields : Part.lane i ∉ laneFields l fs := by simp [laneFields]
theorem port_notMem_laneFields : Part.port i ∉ laneFields l fs := by simp [laneFields]

end

section
variable {s : State} {n ls i : Nat} {fs : List Fld} {g : Fld}

/-- What a step on a lane-side of a port changes, where it stays within the given fields, is among the parts of idling. -/
theorem laneParts_sub_portLaneParts (hl : ls ∈ s.portLs n) (hfs : ∀ f ∈ fs, f ∈ idleFields) :
    ∀ p ∈ .lane ls :: partsOf fs ls, p ∈ portLaneParts s n := by
  refine List.forall_mem_cons.2 ⟨List.mem_append_left _ (List.mem_map_of_mem hl), fun p hp => List.mem_append_right _ ?_⟩
  obtain ⟨f, hf, rfl⟩ := List.mem_map.1 hp
  exact fld_mem_laneFields hl (hfs f hf)

theorem portLaneParts_sub_trainParts : ∀ p ∈ portLaneParts s n, p ∈ trainParts s n := fun _ hp =>
  List.mem_append_left _ (List.mem_append_left _ (List.mem_cons_of_mem _ hp))

theorem laneParts_sub_trainParts (hl : ls ∈ s.portLs n) (hfs : ∀ f ∈ fs, f ∈ laneTrainFields) :
    ∀ p ∈ .lane ls :: partsOf fs ls, p ∈ trainParts s n := by
  refine List.forall_mem_cons.2 ⟨portLaneParts_sub_trainParts _ (List.mem_append_left _ (List.mem_map_of_mem hl)),
    fun p hp => ?_⟩
  obtain ⟨f, hf, rfl⟩ := List.mem_map.1 hp
  have hf' := hfs f hf
  rw [laneTrainFields, List.append_assoc] at hf'
  rcases List.mem_append.1 hf' with hidle | hrest
  · exact portLaneParts_sub_trainParts _ (List.mem_append_right _ (fld_mem_laneFields hl hidle))
  · exact List.mem_append_left _ (List.mem_append_right _ (fld_mem_laneFields hl hrest))

theorem portParts_sub_trainParts (hfs : ∀ f ∈ fs, f ∈ portTrainFields) :
    ∀ p ∈ .port n :: partsOf fs n, p ∈ trainParts s n := by
  refine List.forall_mem_cons.2 ⟨List.mem_append_left _ (List.mem_append_left _ (List.mem_cons_self ..)), fun p hp => ?_⟩
  obtain ⟨f, hf, rfl⟩ := List.mem_map.1 hp
  exact List.mem_append_right _ (List.mem_map_of_mem (hfs f hf))

theorem fld_notMem_portLaneParts (h : ∀ f ∈ idleFields, f.id ≠ g.id) : Part.fld g i ∉ portLaneParts s n := fun hm =>
  (List.mem_append.1 hm).elim (by simp) (fld_notMem_laneFields h)

theorem fld_notMem_trainParts (h : ∀ f ∈ laneTrainFields ++ portTrainFields, f.id ≠ g.id) :
    Part.fld g i ∉ trainParts s n := by
  intro hm
  simp only [laneTrainFields, List.forall_mem_append] at h
  obtain ⟨⟨⟨hidle, hcoef⟩, hother⟩, hport⟩ := h
  rcases List.mem_append.1 hm with hm | hm
  · rcases List.mem_append.1 hm with hm | hm
    · rcases List.mem_cons.1 hm with hm | hm
      · cases hm
      · exact fld_notMem_portLaneParts hidle hm
    · exact fld_notMem_laneFields (List.forall_mem_append.2 ⟨hcoef, hother⟩) hm
  · exact fld_notMem_partsOf hport hm

theorem layout_notMem_trainParts (g : Fld) (hg : g.layout = true) (i : Nat) : Part.fld g i ∉ trainParts s n := by
  have hnone : ∀ f ∈ laneTrainFields ++ portTrainFields, f.layout = false := by decide
  refine fld_notMem_trainParts fun f hf he => ?_
  exact absurd ((hnone f hf).symm.trans (Fld.layout_congr he)) (by simp [hg])

theorem raised_notMem_trainParts : Part.raised ∉ trainParts s n := by
  simp [trainParts, portLaneParts, laneFields, partsOf]

end

/-! Lists of lane-sides -/

/-- The lane-sides of a list, with fields of each. -/
def lanesParts (l : List Nat) (fs : List Fld) : List Part := l.flatMap fun ls => .lane ls :: partsOf fs ls

section
variable {l : List Nat} {fs : List Fld} {g : Fld} {i : Nat} {s : State} {f : Nat → State → State}

theorem fld_notMem_lanesParts (h : ∀ f ∈ fs, f.id ≠ g.id) : Part.fld g i ∉ lanesParts l fs := by
  intro hm
  obtain ⟨ls, -, hls⟩ := List.mem_flatMap.1 hm
  exact (List.mem_cons.1 hls).elim (by simp) (fld_notMem_partsOf h)

theorem layout_notMem_lanesParts (h : ∀ f ∈ fs, f.layout = false) (g : Fld) (hg : g.layout = true) (i : Nat) :
    Part.fld g i ∉ lanesParts l fs :=
  fld_notMem_lanesParts fun f hf he => absurd ((h f hf).symm.trans (Fld.layout_congr he)) (by simp [hg])

theorem port_notMem_lanesParts : Part.port i ∉ lanesParts l fs := by simp [lanesParts, partsOf]

theorem lanesParts_sub_trainParts {n : Nat} (hl : ∀ ls ∈ l, ls ∈ s.portLs n) (hfs : ∀ f ∈ fs, f ∈ laneTrainFields) :
    ∀ p ∈ lanesParts l fs, p ∈ trainParts s n := by
  intro p hp
  obtain ⟨ls, hls, hp⟩ := List.mem_flatMap.1 hp
  exact laneParts_sub_trainParts (hl ls hls) hfs p hp

theorem forEach_lanesParts (h : ∀ ls a, Within (.lane ls :: partsOf fs ls) a (f ls a)) :
    Within (lanesParts l fs) s (forEach l f s) :=
  forEach_within l s fun ls hls a => (h ls a).mono fun _ hp => List.mem_flatMap.2 ⟨ls, hls, hp⟩

end

/-! Steps on a lane-side -/

section
variable (s : State) (ls : Nat)

theorem State.setAstate_within (v : Nat) : Within [.fld F.LANE_RX_STAT_ASTATE ls] s (s.setAstate ls v) :=
  ⟨s.setAstate_only ls v, s.setAstate_out ls v⟩

theorem State.endMargin_within :
    Within (.lane ls :: partsOf [F.LANE_SLICE_STAT_MARG, F.LANE_SLICE_STAT_CALSLICE] ls) s (s.endMargin ls) := by
  by_cases h : s.flag F.LANE_SLICE_STAT_MARG ls = true
  · exact ⟨s.endMargin_only ls h, s.endMargin_out ls h⟩
  · rw [s.endMargin_free ls (Bool.not_eq_true _ ▸ h)]
    exact (s.modLane_within ls _).mono (by simp)

theorem State.endMargin_lane : (s.endMargin ls).lane ls = { s.lane ls with marginReq := false } := by
  unfold State.endMargin
  dsimp only
  split <;> simp [State.modLane, State.clr]

/-- A receiver that goes to IDLE, whatever step ran. -/
theorem State.laneIdle_within : Within (.lane ls :: partsOf [F.LANE_SLICE_STAT_MARG, F.LANE_SLICE_STAT_CALSLICE,
    F.LANE_RX_STAT_ASTATE, F.LANE_RX_STAT_CDR_LOCK, F.LANE_RX_STAT_SIGDET] ls) s (s.laneIdle ls) := by
  refine .ite (.refl _ s) ?_
  refine (((s.endMargin_within ls).mono ?_).trans ((State.setAstate_within _ ls 1).mono ?_)).trans
    ((State.clrAll_within _ _ ls).mono ?_) <;> simp [partsOf]

theorem State.laneIdle_tx : ((s.laneIdle ls).lane ls).tx = (s.lane ls).tx := by
  unfold State.laneIdle
  split
  · rfl
  · have h := ((s.endMargin ls).setAstate ls 1).clrAll_only [F.LANE_RX_STAT_CDR_LOCK, F.LANE_RX_STAT_SIGDET] ls
    rw [show State.lane _ ls = _ from h (.lane ls) (by simp [partsOf]), State.setAstate_lane, State.endMargin_lane]

theorem State.laneIdle_astate : (s.laneIdle ls).astate ls = if s.astate ls = 0 then 0 else 1 := by
  by_cases h : s.astate ls = 0
  · rw [show s.laneIdle ls = s from if_pos h, if_pos h, h]
  · have hclr := ((s.endMargin ls).setAstate ls 1).clrAll_only [F.LANE_RX_STAT_CDR_LOCK, F.LANE_RX_STAT_SIGDET] ls
    rw [show s.laneIdle ls = _ from if_neg h, if_neg h]
    exact (hclr.rd (fld_notMem_partsOf (by decide))).trans (State.setAstate_code _ ls 1 (by decide))

theorem State.unfreeze_within : Within [.fld F.LANE_RX_STAT_ASTATE ls] s (s.unfreeze ls) :=
  .ite (s.setAstate_within ls 5) (.refl _ s)

theorem State.unfreeze_zero : (s.unfreeze ls).astate ls = 0 ↔ s.astate ls = 0 := by
  unfold State.unfreeze
  split
  case isTrue h =>
    have hfive : (s.setAstate ls 5).astate ls = 5 := s.setAstate_code ls 5 (by decide)
    omega
  case isFalse => rfl

theorem State.startAdapt_within : Within [.fld F.LANE_RX_STAT_ASTATE ls] s (s.startAdapt ls) :=
  .ite (.ite (s.setAstate_within ls 6) (s.setAstate_within ls 4)) (.refl _ s)

theorem State.rampWaiting_within : Within [.lane ls] s (s.rampWaiting ls) :=
  .ite (.refl _ s) (.ite (s.modLane_within ls _) (s.modLane_within ls _))

theorem State.rampWaiting_tx : ((s.rampWaiting ls).lane ls).tx = (s.lane ls).tx := by
  unfold State.rampWaiting
  split
  · rfl
  · split <;> simp [State.modLane]

theorem State.setCoefs_within (preset word : Nat) : Within (partsOf coefFields ls) s (s.setCoefs ls preset word) := by
  refine .ite (.refl _ s) ?_
  refine (((((s.wr_within _ ls _).mono ?_).trans ((State.wr_within _ _ ls _).mono ?_)).trans
    ((State.wr_within _ _ ls _).mono ?_)).trans ((State.wr_within _ _ ls _).mono ?_)).trans
    ((State.wr_within _ _ ls _).mono ?_) <;> simp [partsOf, coefFields]

theorem State.setPreset_within (p : Nat) : Within (partsOf coefFields ls) s (s.setPreset ls p) :=
  .ite (s.setCoefs_within ls _ _) (.refl _ s)

/-- LANE_TX_COEF overrides what training asks of the transmitter (R54, R78). -/
theorem State.setPreset_overridden (p : Nat) (h : s.flag F.LANE_TX_CTL_OVR ls = true) : s.setPreset ls p = s := by
  unfold State.setPreset State.setCoefs
  simp [h]

theorem State.recallCoefs_within (p : Nat) : Within (partsOf coefFields ls) s (s.recallCoefs ls p) :=
  .ite (s.setPreset_within ls p) (s.setCoefs_within ls _ _)

theorem State.laneToRate_within (rate : Nat) (comp : Bool) : Within (.lane ls :: partsOf [F.LANE_SLICE_STAT_MARG,
    F.LANE_SLICE_STAT_CALSLICE, F.LANE_RX_STAT_ASTATE, F.LANE_RX_STAT_CDR_LOCK] ls) s (s.laneToRate rate comp ls) := by
  unfold State.laneToRate
  extract_lets u
  have hu : Within (.lane ls :: partsOf [F.LANE_SLICE_STAT_MARG, F.LANE_SLICE_STAT_CALSLICE, F.LANE_RX_STAT_ASTATE,
      F.LANE_RX_STAT_CDR_LOCK] ls) s u :=
    ((s.endMargin_within ls).mono (by simp [partsOf])).trans ((State.modLane_within _ ls _).mono (by simp))
  refine .ite hu (hu.trans (((u.setAstate_within ls 2).mono ?_).trans ((State.wr_within _ _ ls 0).mono ?_))) <;>
    simp [partsOf]

theorem State.laneToRate_lane (rate : Nat) (comp : Bool) :
    ((s.laneToRate rate comp ls).lane ls).rate = rate ∧ ((s.laneToRate rate comp ls).lane ls).comp = comp := by
  unfold State.laneToRate
  dsimp only
  split <;> simp [State.modLane, State.clr]

end

/-! Steps on a port -/

section
variable (s : State) (n : Nat)

theorem State.retargetDir_within (d : Nat) (written : Bool) :
    Within [.port n, .fld (F.dgc d) n] s (s.retargetDir n d written) := by
  have hw : Within [.port n, .fld (F.dgc d) n] s (s.wr (F.dgc d) n (s.modeReason n d)) :=
    (s.wr_within _ n _).mono (by simp)
  exact .ite hw (hw.trans ((State.modPort_within _ n _).mono (by simp)))

theorem State.retargetDir_attempt (d : Nat) (written : Bool) :
    ((s.retargetDir n d written).port n).attempt = (s.port n).attempt := by
  unfold State.retargetDir
  dsimp only
  split
  · rfl
  · simp only [State.modPort, State.port_setPort, PortSt.setWant]
    split <;> rfl

theorem State.retarget_within (written : Bool) :
    Within (.port n :: partsOf modeFields n) s (s.retarget n written) := by
  refine (((s.retargetDir_within n 0 written).mono ?_).trans ((State.retargetDir_within _ n 1 written).mono ?_)).trans
    ((State.wr_within _ F.PORT_STAT_CMODE_PEND n _).mono ?_) <;> simp [partsOf, modeFields]

theorem State.retarget_attempt (written : Bool) : ((s.retarget n written).port n).attempt = (s.port n).attempt :=
  (State.retargetDir_attempt _ n 1 written).trans (s.retargetDir_attempt n 0 written)

theorem State.adaptPort_within :
    Within (laneFields (s.portLs n) [F.LANE_RX_STAT_ASTATE]) s (s.adaptPort n) :=
  forEach_within _ s fun ls hls a => (a.startAdapt_within ls).mono fun p hp => by
    rw [List.mem_singleton.1 hp]
    exact fld_mem_laneFields hls (by simp)

/-- A new state is recorded in two fields. -/
def State.recordState (v fmt : Nat) : State := (s.wr F.PORT_FLIT_STAT_FMT n fmt).wr F.PORT_LINK_STAT_LTSSM n v

theorem State.recordState_within (v fmt : Nat) :
    Within (partsOf [F.PORT_LINK_STAT_LTSSM, F.PORT_FLIT_STAT_FMT] n) s (s.recordState n v fmt) :=
  ((s.wr_within F.PORT_FLIT_STAT_FMT n fmt).mono (by simp [partsOf])).trans
    ((State.wr_within _ F.PORT_LINK_STAT_LTSSM n v).mono (by simp [partsOf]))

theorem State.recordState_holds (v fmt : Nat) : Holds [(F.PORT_LINK_STAT_LTSSM, n, v % 64), (F.PORT_FLIT_STAT_FMT, n, fmt % 4)]
    (s.recordState n v fmt) := by
  simp (disch := decide) [Holds, State.recordState, State.rd_wr_fld]

/-- What leaving L0 does before the new state is recorded (R290, R391). -/
def State.l0Left : State :=
  forEach (s.portLs n) (fun ls a => a.rampWaiting ls) (s.modPort n fun p => { p with l0Exit := s.drip })

theorem State.setLtssm_fromL0 {v : Nat} (h : s.ltssm n = 8) (hv : v ≠ 8) :
    s.setLtssm n v = (s.l0Left n).recordState n v 0 := by
  unfold State.setLtssm
  rw [if_pos ⟨h, hv⟩]
  show (s.l0Left n).recordState n v (if v = 8 then _ else 0) = _
  rw [if_neg hv]

theorem State.setLtssm_outsideL0 (v : Nat) (h : s.ltssm n ≠ 8) :
    s.setLtssm n v = s.recordState n v (if v = 8 then (s.port n).fmt else 0) := by
  unfold State.setLtssm
  rw [if_neg fun hb => h hb.1]
  rfl

theorem State.l0Left_within : Within (.port n :: (s.portLs n).map .lane) s (s.l0Left n) :=
  ((s.modPort_within n _).mono (by simp)).trans <| forEach_within _ _ fun ls hls a =>
    (a.rampWaiting_within ls).mono fun p hp => by
      rw [List.mem_singleton.1 hp]
      exact List.mem_cons_of_mem _ (List.mem_map_of_mem hls)

theorem State.l0Left_port : (s.l0Left n).port n = { s.port n with l0Exit := s.drip } := by
  refine forEach_keeps (fun (t : State) => t.port n = { s.port n with l0Exit := s.drip }) _ (State.port_setPort ..)
    fun ls _ a ha => ?_
  exact ((a.rampWaiting_within ls).only.port (by simp)).trans ha

theorem State.l0Left_tx (k : Nat) : ((s.l0Left n).lane k).tx = (s.lane k).tx := by
  refine forEach_keeps (fun (t : State) => (t.lane k).tx = (s.lane k).tx) _ rfl fun ls _ a ha => ?_
  by_cases hk : ls = k
  · subst hk
    exact (a.rampWaiting_tx ls).trans ha
  · have hsame := (a.rampWaiting_within ls).only (.lane k) (by simpa using Ne.symm hk)
    exact (congrArg LaneSt.tx hsame).trans ha

/-! Leaving L0 (R105, R125, R180) -/

theorem State.endPortMargins_within : Within (portLaneParts s n) s (s.endPortMargins n) :=
  forEach_within _ s fun ls hls a => .ite
    (((a.endMargin_within ls).mono (laneParts_sub_portLaneParts hls (by decide))).trans
      ((State.unfreeze_within _ ls).mono fun p hp => by
        rw [List.mem_singleton.1 hp]
        exact List.mem_append_right _ (fld_mem_laneFields hls (by simp))))
    (.refl _ a)

theorem State.abandonPortSpares_idle (h : s.spareState 0 < 2 ∧ s.spareState 1 < 2) : s.abandonPortSpares n = s := by
  refine forUp_keeps (· = s) 2 rfl fun k a hk ha => ?_
  subst ha
  have hidle : a.spareState k < 2 := by
    interval_cases k
    · exact h.1
    · exact h.2
  exact if_neg fun hb => absurd hb.1 (by omega)

/-- What leaving L0 changes of a port with no data stream and no procedure of a spare under way. -/
def State.calmLeft : State :=
  ((s.endPortMargins n).wr F.PORT_LINK_STAT_AWIDTH n (s.rd F.PORT_LINK_STAT_WIDTH n)).modPort n fun p =>
    { p with offLanes := 0 }

theorem State.leaveL0_calm (h : s.ltssm n = 8) (hn : NoStream s n) : s.leaveL0 n = s.calmLeft n := by
  have he := (s.endPortMargins_within n).only
  obtain ⟨hstream, h0, h1⟩ := hn
  have hport : (s.endPortMargins n).port n = s.port n := he.port (by simp [portLaneParts, laneFields])
  have hwidth : (s.endPortMargins n).rd F.PORT_LINK_STAT_WIDTH n = s.rd F.PORT_LINK_STAT_WIDTH n :=
    he.rd (fld_notMem_portLaneParts (by decide))
  have hspare : ∀ k, (s.endPortMargins n).spareState k = s.spareState k := fun k =>
    he.rd (fld_notMem_portLaneParts (by decide))
  have hstays : (s.endPortMargins n).streamEnd n = s.endPortMargins n := if_pos (by simp [hport, hstream])
  unfold State.leaveL0
  rw [if_neg (not_not.2 h), hstays, State.abandonPortSpares_idle _ n (by rw [hspare, hspare]; exact ⟨h0, h1⟩), State.calmLeft,
    ← hwidth]

end

/-! A training set that is let through (R85, R89) -/

section
variable (s : State) (n : Nat) (ts : TrainSet)

/-- The old state is left: Execution mode and a transition held back are over (R91, R93). -/
def State.phaseOver : State :=
  (s.modPort n fun p => { p with execO := none, execI := if p.attempt = .ceq then p.execI else none }).modPort n fun p =>
    { p with heldPhase := none }

theorem State.phaseOver_port : (s.phaseOver n).port n = { s.port n with
    execO := none, execI := if (s.port n).attempt = .ceq then (s.port n).execI else none, heldPhase := none } := by
  simp [State.phaseOver, State.modPort]

theorem State.phaseOver_within : Within [.port n] s (s.phaseOver n) :=
  (s.modPort_within n _).trans (State.modPort_within _ n _)

/-- The state of a port and that of a set for it, where the move between them is neither from L0 or equalization nor into
Recovery or a phase of equalization that the device executes. -/
structure PlainMove (s : State) (n : Nat) (ts : TrainSet) : Prop where
  moves : s.ltssm n ≠ ts.state
  notL0 : s.ltssm n ≠ 8
  notEq : s.ltssm n < 0x14
  noExec : ts.state < 0x14
  stays : isRecovery ts.state = true → isRecovery (s.ltssm n) = true

/-- A new state is recorded, and the lane-sides that have lock adapt where it lets them. -/
def State.entered (v fmt : Nat) : State := (s.recordState n v fmt).adaptPort n

theorem State.moveTo_plain {u : State} (h : PlainMove s n ts) (hu : (s.phaseOver n).onEntry n (s.ltssm n) ts = u)
    (hl : u.ltssm n = s.ltssm n) :
    s.moveTo n ts = u.entered n ts.state (if ts.state = 8 then (u.port n).fmt else 0) := by
  obtain ⟨-, h8, hold, hnew, hrec⟩ := h
  have hleave : s.leaveL0 n = s := if_pos h8
  have hkeep : ¬(ts.state = 0x16 ∨ ts.state = 0x17) := by omega
  have hphase : ¬(s.ltssm n = 0x15 ∨ s.ltssm n = 0x16 ∨ s.ltssm n = 0x17) := by omega
  have heq : ¬(0x14 ≤ s.ltssm n ∧ s.ltssm n ≤ 0x17 ∧
      (ts.state = 0x10 ∨ ts.state = 0x11 ∨ ts.state = 0x12 ∨ ts.state = 0x08)) := by omega
  have hin : ¬(isRecovery ts.state = true ∧ ¬isRecovery (s.ltssm n) = true) := fun hb => hb.2 (hrec hb.1)
  unfold State.moveTo
  dsimp only
  rw [hleave, if_neg hphase, if_neg heq, if_neg hkeep, if_neg hin]
  show (((s.phaseOver n).onEntry n (s.ltssm n) ts).setLtssm n ts.state).adaptPort n = _
  rw [hu, u.setLtssm_outsideL0 n ts.state (hl ▸ h8)]
  rfl

theorem State.entered_within (v fmt : Nat) : Within (partsOf [F.PORT_LINK_STAT_LTSSM, F.PORT_FLIT_STAT_FMT] n ++
    laneFields (s.portLs n) [F.LANE_RX_STAT_ASTATE]) s (s.entered n v fmt) := by
  have hls : (s.recordState n v fmt).portLs n = s.portLs n :=
    (State.wr_portLs _ _ n v (by decide) n).trans (s.wr_portLs _ n fmt (by decide) n)
  have hadapt := (s.recordState n v fmt).adaptPort_within n
  rw [hls] at hadapt
  exact ((s.recordState_within n v fmt).mono fun p hp => List.mem_append_left _ hp).trans
    (hadapt.mono fun p hp => List.mem_append_right _ hp)

theorem State.entered_holds (v fmt : Nat) :
    Holds [(F.PORT_LINK_STAT_LTSSM, n, v % 64), (F.PORT_FLIT_STAT_FMT, n, fmt % 4)] (s.entered n v fmt) :=
  ((s.recordState n v fmt).adaptPort_within n).only.holds (s.recordState_holds n v fmt) (by
    simp only [List.forall_mem_cons, List.not_mem_nil, false_imp_iff, implies_true, and_true]
    exact ⟨fld_notMem_laneFields (by decide), fld_notMem_laneFields (by decide)⟩)

theorem State.entered_port (v fmt m : Nat) : (s.entered n v fmt).port m = s.port m :=
  (s.entered_within n v fmt).only.port (by simp [partsOf, laneFields])

theorem State.entered_lane (v fmt k : Nat) : (s.entered n v fmt).lane k = s.lane k :=
  (s.entered_within n v fmt).only (.lane k) (by simp [partsOf, laneFields])

theorem enteredParts_sub_trainParts : ∀ p ∈ partsOf [F.PORT_LINK_STAT_LTSSM, F.PORT_FLIT_STAT_FMT] n ++
    laneFields (s.portLs n) [F.LANE_RX_STAT_ASTATE], p ∈ trainParts s n := by
  refine List.forall_mem_append.2 ⟨fun p hp => portParts_sub_trainParts (fs := [F.PORT_LINK_STAT_LTSSM,
    F.PORT_FLIT_STAT_FMT]) (by decide) p (List.mem_cons_of_mem _ hp), fun p hp => ?_⟩
  obtain ⟨ls, hls, hf⟩ := List.mem_flatMap.1 hp
  exact laneParts_sub_trainParts hls (fs := [F.LANE_RX_STAT_ASTATE]) (by decide) p (List.mem_cons_of_mem _ hf)

/-- What a set that is let through changes before anything is sent (R89). -/
def State.stepped : State :=
  let s := if s.ltssm n = ts.state then s else s.moveTo n ts
  let s := (((s.learnPos n ts).learnPolarity n ts).learnWidth n ts).learnFlit n ts
  let s := s.widthFallback n ts
  if ts.state = 0x04 then s.compliance n ts else s

theorem State.stepped_unlearned (h2 : ts.ts2 = false) (hw : ts.state ≠ 5 ∧ ts.state ≠ 0x11) : s.stepped n ts =
    let u := (if s.ltssm n = ts.state then s else s.moveTo n ts).learnPolarity n ts
    if ts.state = 4 then u.compliance n ts else u := by
  simp [State.stepped, State.learnPos, State.learnWidth, State.learnFlit, State.widthFallback, h2, hw]

theorem State.learnPolarity_later (h : ts.state ≠ 2 ∧ ts.state ≠ 3) : s.learnPolarity n ts = s :=
  if_neg fun hb => hb.elim h.1 h.2

theorem State.takeSet_stepped (h0 : ts.state ≠ 0) (ha : ((s.stepped n ts).port n).attempt = .none) : s.takeSet n ts =
    if ts.state = 0x13 then (s.stepped n ts).sendSet n ts else (s.stepped n ts).forwardSet n ts := by
  unfold State.takeSet
  have hgoes : ((s.stepped n ts).port n).attempt ≠ .fbStop := by simp [ha]
  rw [if_neg h0]
  show (if ((s.stepped n ts).port n).attempt = .fbStop then _ else _) = _
  rw [if_neg hgoes]
  split
  · rfl
  · exact if_neg fun hb => hb.1 ha

theorem State.forwardSet_sending (h : ∀ ls ∈ s.sendLs n (!ts.inner), (s.lane ls).tx = true) :
    s.forwardSet n ts = s.sendSet n ts :=
  congrArg (State.sendSet · n ts) (forEach_id _ s fun ls hls => if_pos (h ls hls))

theorem State.heldSide_free (ha : (s.port n).attempt = .none)
    (h : s.ltssm n = ts.state ∨ (s.ltssm n ≠ 0x16 ∧ s.ltssm n ≠ 0x17)) : s.heldSide n ts.state = none := by
  rcases h with h | ⟨h6, h7⟩
  · simp [State.heldSide, h]
  · simp [State.heldSide, ha, h6, h7]

end

/-- Outside equalization the set that goes out depends on two settings of the port. -/
theorem sentSet_congr {ps : List Part} {s u : State} {n : Nat} {ts : TrainSet} (h : Only ps s u)
    (hr : .fld F.PORT_CFG_MAX_RATE n ∉ ps) (hl : .fld F.PORT_CFG_L0P_EN n ∉ ps) (ht : ts.state < 0x14) :
    u.sentSet n ts = s.sentSet n ts := by
  have hno : ¬0x14 ≤ ts.state := by omega
  simp [State.sentSet, State.maxRate, State.flag, h.rd hr, h.rd hl, hno]

/-- A port follows a training set with no retrain or attempt under way. -/
structure FollowsSet (s : State) (n : Nat) (ts : TrainSet) : Prop where
  quiet : Quiet s
  wf : n < 16 ∧ ts.wf = true
  follows : s.follows n = true
  noRetrain : (s.port n).retraining = false
  noAttempt : (s.port n).attempt = .none
  plain : ts.ts2 = false
  free : s.ltssm n = ts.state ∨ (s.ltssm n ≠ 0x16 ∧ s.ltssm n ≠ 0x17)
  trains : ts.state ≠ 0

theorem trainSet_taken {s : State} {n : Nat} {ts : TrainSet} (h : FollowsSet s n ts) : s.trainSet n ts = s.takeSet n ts := by
  unfold State.trainSet
  rw [if_neg (by simp [h.follows]), if_neg (by simp [h.noRetrain]), s.heldSide_free n ts h.noAttempt h.free]

/-- A set that is let through and sent on. -/
theorem trainingSet_gives {s u : State} {n : Nat} {ts : TrainSet} {vs : Vals} {ps : List Part} {P : State → Prop}
    (h : FollowsSet s n ts) (hu : s.begun.stepped n ts = u) (hin : Within ps s.begun u) (hr : .raised ∉ ps)
    (ha : (u.port n).attempt = .none)
    (htx : ts.state = 0x13 ∨ ∀ ls ∈ u.sendLs n (!ts.inner), (u.lane ls).tx = true)
    (hs : u.sentSet n ts = s.sentSet n ts) (hv : Holds vs u)
    (hp : P (u.emit (.trainSet n (!ts.inner) (s.sentSet n ts)))) :
    Gives (.trainingSet n ts) s vs ps [.trainSet n (!ts.inner) (s.sentSet n ts)] P := by
  have hb : FollowsSet s.begun n ts :=
    ⟨h.quiet, h.wf, h.follows, h.noRetrain, h.noAttempt, h.plain, h.free, h.trains⟩
  have hsent : s.begun.trainSet n ts = u.emit (.trainSet n (!ts.inner) (s.sentSet n ts)) := by
    subst hu
    rw [trainSet_taken hb, State.takeSet_stepped _ n ts h.trains ha, ← hs]
    split
    case isTrue => rfl
    case isFalse h13 => exact State.forwardSet_sending _ n ts (htx.resolve_left h13)
  refine Gives.of_result (exec_trainingSet s n ts) (by simp [Wf.trainingSet, h.wf]) hsent
    ((hin.only.raised hr).trans h.quiet) (congrArg (· ++ [_]) hin.out) hp hv ?_
  exact (hin.only.of_begun.mono fun p hp => List.mem_append_right _ hp).emit _

/-! Polling (R55, R89) -/

theorem Only.innerOf {ps : List Part} {s t : State} (h : Only ps s t)
    (hps : ∀ g : Fld, g.layout = true → ∀ i, Part.fld g i ∉ ps) (l : Nat) : t.innerOf l = s.innerOf l := by
  obtain ⟨-, hs, hl⟩ := h.layout hps
  simp only [State.innerOf, hs, hl]

theorem Only.portLs {ps : List Part} {s t : State} (h : Only ps s t)
    (hps : ∀ g : Fld, g.layout = true → ∀ i, Part.fld g i ∉ ps) (n : Nat) : t.portLs n = s.portLs n := by
  simp only [State.portLs, h.sideLs hps]

theorem Only.width {ps : List Part} {s t : State} (h : Only ps s t)
    (hps : ∀ g : Fld, g.layout = true → ∀ i, Part.fld g i ∉ ps) (n : Nat) : t.width n = s.width n := by
  obtain ⟨hq, -, -⟩ := h.layout hps
  simp only [State.width, hq]

/-- The lanes that can send are those found and trained, without those that L0p turned off. -/
theorem Only.sendLs_of_lanes {ps : List Part} {s t : State} {n : Nat} (h : Only ps s t)
    (hps : ∀ g : Fld, g.layout = true → ∀ i, Part.fld g i ∉ ps) (ht : (t.port n).trained = (s.port n).trained)
    (ho : (t.port n).foundO = (s.port n).foundO) (hi : (t.port n).foundI = (s.port n).foundI)
    (hoff : (t.port n).offLanes = (s.port n).offLanes) (inner : Bool) : t.sendLs n inner = s.sendLs n inner := by
  simp only [State.sendLs, h.width hps, h.innerOf hps, ht, ho, hi, hoff]

section
variable (s : State) {n : Nat}

/-- The lanes of a port end with the last lane of the device. -/
theorem State.lane_lt (hn : n < 16) {k : Nat} (hk : k < s.width n) : firstLane n + k < 32 := by
  unfold State.width at hk
  unfold firstLane
  dsimp only at hk
  split_ifs at hk <;> omega

theorem State.innerOf_inj {l m : Nat} (hl : l < 32) (hm : m < 32) (h : s.innerOf l = s.innerOf m) : l = m := by
  unfold State.innerOf innerLs halfOf at h
  split at h <;> split at h
  case isTrue.isTrue hsl hsm =>
    have hhalf : l / 16 = m / 16 := by omega
    rw [← hsl.2, ← hsm.2, hhalf]
  all_goals omega

variable (n) (ts : TrainSet)

/-- The lane-side at which a training set arrives on a lane of a port. -/
abbrev heardLs (k : Nat) : Nat := if ts.inner then s.innerOf (firstLane n + k) else outerLs (firstLane n + k)

theorem heardLs_inj (hn : n < 16) {j k : Nat} (hj : j < s.width n) (hk : k < s.width n)
    (h : heardLs s n ts j = heardLs s n ts k) : j = k := by
  have hl := s.lane_lt hn hj
  have hm := s.lane_lt hn hk
  have hlane : firstLane n + j = firstLane n + k := by
    unfold heardLs at h
    split at h
    · exact s.innerOf_inj hl hm h
    · exact h
  omega

theorem heardLs_mem {k : Nat} (hk : k < s.width n) : heardLs s n ts k ∈ s.portLs n := by
  have hlane : firstLane n + k ∈ s.portLanes n := List.mem_map.2 ⟨k, List.mem_range.2 hk, Nat.add_comm ..⟩
  unfold heardLs
  split
  · exact List.mem_append_right _ (List.mem_map.2 ⟨_, hlane, rfl⟩)
  · exact List.mem_append_left _ (List.mem_map.2 ⟨_, hlane, rfl⟩)

/-- The polarity of one lane-side is learned. -/
def State.learnInverted (ls : Nat) (b : Bool) : State := (s.wrB F.LANE_RX_STAT_POL_DET ls b).setPolarity ls

theorem State.setPolarity_within (ls : Nat) : Within [.lane ls] s (s.setPolarity ls) := s.modLane_within ls _

theorem State.learnInverted_within (ls : Nat) (b : Bool) :
    Within (.lane ls :: partsOf [F.LANE_RX_STAT_POL_DET] ls) s (s.learnInverted ls b) :=
  ((s.wr_within F.LANE_RX_STAT_POL_DET ls (b2n b)).mono (by simp [partsOf])).trans
    ((State.setPolarity_within _ ls).mono (by simp))

theorem State.learnInverted_tx (ls : Nat) (b : Bool) (k : Nat) : ((s.learnInverted ls b).lane k).tx = (s.lane k).tx := by
  by_cases hk : k = ls
  · subst hk
    simp [State.learnInverted, State.setPolarity, State.modLane, State.wrB]
  · exact congrArg LaneSt.tx ((s.learnInverted_within ls b).only (.lane k) (by simp [hk, partsOf]))

theorem State.learnInverted_detected (ls : Nat) (b : Bool) :
    (s.learnInverted ls b).rd F.LANE_RX_STAT_POL_DET ls = b2n b := by
  refine (State.rd_wr_self s F.LANE_RX_STAT_POL_DET ls (b2n b)).trans ?_
  cases b <;> rfl

/-- What the lanes heard so far have told of their polarities. -/
structure Learning (i : Nat) (t : State) : Prop where
  within : Within (lanesParts (s.portLs n) [F.LANE_RX_STAT_POL_DET]) s t
  tx : ∀ k, (t.lane k).tx = (s.lane k).tx
  known : ∀ k < i, t.rd F.LANE_RX_STAT_POL_DET (heardLs s n ts k) = b2n (ts.inverted.contains k)

theorem State.learnPolarity_learns (hn : n < 16) (h : ts.state = 3) :
    Learning s n ts (s.width n) (s.learnPolarity n ts) := by
  rw [show s.learnPolarity n ts = _ from if_pos (.inr h)]
  refine forUp_ind (Learning s n ts) (s.width n) ⟨.refl _ s, fun _ => rfl, fun k hk => absurd hk (by omega)⟩ ?_
  intro i a hi ⟨hin, htx, hknown⟩
  have hls : (if ts.inner then a.innerOf (firstLane n + i) else outerLs (firstLane n + i)) = heardLs s n ts i := by
    rw [hin.only.innerOf (layout_notMem_lanesParts (by decide))]
  dsimp only
  rw [hls]
  have hstep := a.learnInverted_within (heardLs s n ts i) (ts.inverted.contains i)
  refine ⟨hin.trans (hstep.mono fun p hp => List.mem_flatMap.2 ⟨_, heardLs_mem s n ts hi, hp⟩),
    fun k => (a.learnInverted_tx _ _ k).trans (htx k), fun k hk => ?_⟩
  rcases Nat.lt_succ_iff_lt_or_eq.1 hk with hk | rfl
  · have hne : heardLs s n ts k ≠ heardLs s n ts i := fun he => by
      have := heardLs_inj s n ts hn (hk.trans hi) hi he
      omega
    exact (hstep.only.rd (by simp [partsOf, hne])).trans (hknown k hk)
  · exact a.learnInverted_detected _ _

end

/-- What has happened to a port that takes a set, up to its sending: the parts of training alone have changed, the same
lanes send as before, and no attempt is under way. -/
structure Ready (s u : State) (n : Nat) (ts : TrainSet) : Prop where
  within : Within (trainParts s n) s u
  lanes : u.sendLs n (!ts.inner) = s.sendLs n (!ts.inner)
  tx : ∀ k, (u.lane k).tx = (s.lane k).tx
  attempt : (u.port n).attempt = .none

/-- A set outside equalization that is sent on by lanes that all send already. -/
theorem trainingSet_forwards {s u : State} {n : Nat} {ts : TrainSet} {vs : Vals} {P : State → Prop}
    (h : FollowsSet s n ts) (ht : ts.state < 0x14) (htx : ∀ ls ∈ s.sendLs n (!ts.inner), (s.lane ls).tx = true)
    (hu : s.begun.stepped n ts = u) (hr : Ready s.begun u n ts) (hv : Holds vs u)
    (hp : P (u.emit (.trainSet n (!ts.inner) (s.sentSet n ts)))) :
    Gives (.trainingSet n ts) s vs (trainParts s n) [.trainSet n (!ts.inner) (s.sentSet n ts)] P := by
  obtain ⟨hin, hlanes, hkeep, ha⟩ := hr
  refine trainingSet_gives h hu hin raised_notMem_trainParts ha (.inr fun ls hls => ?_) ?_ hv hp
  · rw [hlanes] at hls
    exact (hkeep ls).trans (htx ls hls)
  · exact sentSet_congr hin.only.of_begun (fld_notMem_trainParts (by decide)) (fld_notMem_trainParts (by decide)) ht

/-- A port has moved to a new state, and beside what reports this only its own state has changed. -/
structure PortMoved (s t : State) (n v fmt : Nat) (p : PortSt) : Prop where
  within : Within (trainParts s n) s t
  port : t.port n = p
  lanes : ∀ k, t.lane k = s.lane k
  shows : Holds [(F.PORT_LINK_STAT_LTSSM, n, v % 64), (F.PORT_FLIT_STAT_FMT, n, fmt % 4)] t

theorem State.moveTo_portMoved {s u : State} {n : Nat} {ts : TrainSet} (h : PlainMove s n ts)
    (hu : (s.phaseOver n).onEntry n (s.ltssm n) ts = u) (hin : Within [.port n] s u) :
    PortMoved s (s.moveTo n ts) n ts.state (if ts.state = 8 then (u.port n).fmt else 0) (u.port n) := by
  rw [s.moveTo_plain n ts h hu (hin.only.rd (by simp))]
  have hls : u.portLs n = s.portLs n := hin.only.portLs (by simp) n
  have hentered := u.entered_within n ts.state (if ts.state = 8 then (u.port n).fmt else 0)
  rw [hls] at hentered
  refine ⟨(hin.mono fun p hp => ?_).trans (hentered.mono (enteredParts_sub_trainParts s n)), u.entered_port ..,
    fun k => (u.entered_lane ..).trans (hin.only (.lane k) (by simp)), u.entered_holds n _ _⟩
  rw [List.mem_singleton.1 hp]
  exact portParts_sub_trainParts (fs := []) (by simp) _ (List.mem_cons_self ..)

theorem pollingConfig_entered (s : State) (n : Nat) (ts : TrainSet) (h : FollowsSet s n ts) (hold : s.ltssm n = 2)
    (hnew : ts.state = 3) (htx : ∀ ls ∈ s.sendLs n (!ts.inner), (s.lane ls).tx = true) :
    Gives (.trainingSet n ts) s [(F.PORT_LINK_STAT_LTSSM, n, 3)] (trainParts s n) [.trainSet n (!ts.inner) (s.sentSet n
      ts)] fun t => ∀ k ∈ List.range (s.width n), (t.rd F.LANE_RX_STAT_POL_DET (heardLs s n ts k) = 1 ↔ k ∈ ts.inverted) := by
  have hmove : PlainMove s.begun n ts := by
    refine ⟨?_, ?_, ?_, ?_, ?_⟩ <;> simp [hold, hnew, isRecovery]
  have hk : s.begun.stepped n ts = (s.begun.moveTo n ts).learnPolarity n ts := by
    rw [State.stepped_unlearned _ n ts h.plain (by omega), if_neg hmove.moves]
    exact if_neg (by omega)
  obtain ⟨hin, hport, hlane, hshow⟩ := State.moveTo_portMoved (u := s.begun.phaseOver n) hmove
    (by simp [State.onEntry, hnew]) (s.begun.phaseOver_within n)
  generalize s.begun.moveTo n ts = v at hk hin hport hlane hshow
  obtain ⟨hlearn, hkeep, hknown⟩ := v.learnPolarity_learns n ts h.wf.1 hnew
  rw [hin.only.width layout_notMem_trainParts] at hknown
  have hlearnt : Within (trainParts s n) v (v.learnPolarity n ts) := hlearn.mono fun p hp => by
    rw [hin.only.portLs layout_notMem_trainParts] at hp
    exact lanesParts_sub_trainParts (fun _ hls => hls) (by decide) p hp
  have hall := hin.trans hlearnt
  have hportu : (v.learnPolarity n ts).port n = (s.begun.phaseOver n).port n :=
    (hlearn.only.port port_notMem_lanesParts).trans hport
  refine trainingSet_forwards h (by omega) htx hk ⟨hall, ?_, fun k => (hkeep k).trans (by rw [hlane]), ?_⟩
    (.cons ?_ (.nil _)) fun k hk => ?_
  · apply hall.only.sendLs_of_lanes layout_notMem_trainParts <;> rw [hportu, State.phaseOver_port]
  · rw [hportu, State.phaseOver_port]
    exact h.noAttempt
  · have hthree := hshow _ (List.mem_cons_self ..)
    rw [hnew] at hthree
    exact (hlearn.only.rd (fld_notMem_lanesParts (by decide))).trans hthree
  · have hls : heardLs v n ts k = heardLs s n ts k := by
      unfold heardLs
      rw [hin.only.innerOf layout_notMem_trainParts, State.begun_innerOf]
    have hval := hknown k (List.mem_range.1 hk)
    rw [hls] at hval
    rw [State.emit_rd, hval]
    cases hc : ts.inverted.contains k <;> simp_all [b2n]

/-! The entry to L0 (R89, R108, R121) -/

theorem l0_entered (s : State) (n : Nat) (ts : TrainSet) (h : FollowsSet s n ts) (hold : s.ltssm n = 0x12)
    (hnew : ts.state = 8) (htx : ∀ ls ∈ s.sendLs n (!ts.inner), (s.lane ls).tx = true) :
    Gives (.trainingSet n ts) s [(F.PORT_LINK_STAT_LTSSM, n, 8), (F.PORT_FLIT_STAT_FMT, n, (s.port n).fmt % 4)]
      (trainParts s n) [.trainSet n (!ts.inner) (s.sentSet n ts)] fun t => (t.port n).reachedL0 = true ∧ (t.port n).down
      = none ∧ (t.port n).noted = none := by
  have hmove : PlainMove s.begun n ts := by
    refine ⟨?_, ?_, ?_, ?_, ?_⟩ <;> simp [hold, hnew, isRecovery]
  have hk : s.begun.stepped n ts = s.begun.moveTo n ts := by
    rw [State.stepped_unlearned _ n ts h.plain (by omega), if_neg hmove.moves]
    exact (if_neg (by omega)).trans (State.learnPolarity_later _ n ts (by omega))
  obtain ⟨hin, hport, hlane, hshow⟩ := State.moveTo_portMoved
    (u := (s.begun.phaseOver n).modPort n fun p => { p with reachedL0 := true, noted := none, down := none, attrRun := false })
    hmove (by simp [State.onEntry, hnew]) ((s.begun.phaseOver_within n).trans (State.modPort_within _ n _))
  rw [State.modPort, State.port_setPort, State.phaseOver_port] at hport hshow
  rw [hnew, if_pos rfl] at hshow
  refine trainingSet_forwards h (by omega) htx hk ⟨hin, ?_, fun k => by rw [hlane], ?_⟩ hshow ?_
  · apply hin.only.sendLs_of_lanes layout_notMem_trainParts <;> rw [hport]
  · rw [hport]
    exact h.noAttempt
  · rw [State.emit_port, hport]
    exact ⟨rfl, rfl, rfl⟩

/-! A change of speed, and compliance (R53, R89, R95, R96) -/

/-- The count of speed changes once the port runs at a rate (R96, R120). -/
abbrev speedCount (s : State) (n rate : Nat) : Nat :=
  if s.rate n = rate then s.rd F.PORT_TRN_CNT_SPEED n else min (s.rd F.PORT_TRN_CNT_SPEED n + 1) 0xFF

section
variable (s : State) (n : Nat) (ts : TrainSet)

/-- The port takes a rate, and counts a change to another one. -/
def State.newRate (rate : Nat) : State :=
  let t := s.wr F.PORT_LINK_STAT_RATE n rate
  if s.rate n = rate then t else t.inc F.PORT_TRN_CNT_SPEED n

theorem State.newRate_within (rate : Nat) :
    Within (partsOf [F.PORT_LINK_STAT_RATE, F.PORT_TRN_CNT_SPEED] n) s (s.newRate n rate) := by
  have hr : Within (partsOf [F.PORT_LINK_STAT_RATE, F.PORT_TRN_CNT_SPEED] n) s (s.wr F.PORT_LINK_STAT_RATE n rate) :=
    (s.wr_within _ n rate).mono (by simp [partsOf])
  exact .ite hr (hr.trans ((State.wr_within _ _ n _).mono (by simp [partsOf])))

theorem State.newRate_holds {rate : Nat} (h : rate < 7) :
    Holds [(F.PORT_LINK_STAT_RATE, n, rate), (F.PORT_TRN_CNT_SPEED, n, speedCount s n rate)] (s.newRate n rate) := by
  have hmod : rate % 8 = rate := Nat.mod_eq_of_lt (by omega)
  have hsat : ∀ a, min a 255 % 256 = min a 255 := fun a => Nat.mod_eq_of_lt (by omega)
  unfold State.newRate speedCount
  by_cases hr : s.rate n = rate <;>
    simp (disch := decide) [Holds, hr, State.inc, State.incBy, satAdd, State.rd_wr_fld, hmod, hsat]

/-- A lane-side of an unassociated port at its new rate (R96). -/
def State.laneChanged (inner : Bool) (ls : Nat) : State :=
  ((s.laneToRate ts.rate false ls).recallCoefs ls (s.sidePreset n inner ts)).modLane ls fun l => { l with sixDb := ts.sixDb }

/-- The fields of a lane-side that a change of speed may change. -/
def speedFields : List Fld := [F.LANE_SLICE_STAT_MARG, F.LANE_SLICE_STAT_CALSLICE, F.LANE_RX_STAT_ASTATE,
  F.LANE_RX_STAT_CDR_LOCK] ++ coefFields

theorem State.laneChanged_within (inner : Bool) (ls : Nat) :
    Within (.lane ls :: partsOf speedFields ls) s (s.laneChanged n ts inner ls) :=
  (((s.laneToRate_within ls ts.rate false).mono (by simp [partsOf, speedFields])).trans
    ((State.recallCoefs_within _ ls _).mono (by simp [partsOf, speedFields, coefFields]))).trans
    ((State.modLane_within _ ls _).mono (by simp))

/-- The lane-side runs at the rate that the set names, and not at its companion rate. -/
abbrev RunsAt (ts : TrainSet) (k : Nat) (a : State) : Prop := (a.lane k).rate = ts.rate ∧ (a.lane k).comp = false

theorem State.laneChanged_runs (inner : Bool) (ls : Nat) : RunsAt ts ls (s.laneChanged n ts inner ls) := by
  have hcoef : ((s.laneToRate ts.rate false ls).recallCoefs ls (s.sidePreset n inner ts)).lane ls =
      (s.laneToRate ts.rate false ls).lane ls :=
    (State.recallCoefs_within _ ls _).only (.lane ls) (by simp [partsOf])
  simpa only [RunsAt, State.laneChanged, State.modLane, State.lane_setLane, hcoef] using s.laneToRate_lane ls ts.rate false

theorem State.laneChanged_keeps (inner : Bool) (ls k : Nat) (h : RunsAt ts k s) : RunsAt ts k (s.laneChanged n ts inner ls) := by
  by_cases hk : k = ls
  · subst hk
    exact s.laneChanged_runs n ts inner k
  · have hsame : (s.laneChanged n ts inner ls).lane k = s.lane k :=
      (s.laneChanged_within n ts inner ls).only (.lane k) (by simp [hk, partsOf])
    rwa [RunsAt, hsame]

/-- The lane-sides of a side at their new rate. -/
def State.sideChanged (inner : Bool) : State :=
  forEach (s.sideLs n inner) (fun ls b => b.laneChanged n ts inner ls) s

theorem State.sideChanged_within (inner : Bool) :
    Within (lanesParts (s.sideLs n inner) speedFields) s (s.sideChanged n ts inner) :=
  forEach_lanesParts fun ls a => a.laneChanged_within n ts inner ls

theorem State.sideChanged_runs (inner : Bool) : ∀ ls ∈ s.sideLs n inner, RunsAt ts ls (s.sideChanged n ts inner) :=
  forEach_each (RunsAt ts) _ s (fun ls _ a => a.laneChanged_runs n ts inner ls) fun k _ ls _ a =>
    a.laneChanged_keeps n ts inner ls k

theorem State.sideChanged_keeps (inner : Bool) (k : Nat) (h : RunsAt ts k s) : RunsAt ts k (s.sideChanged n ts inner) :=
  forEach_keeps (RunsAt ts k) _ h fun ls _ a => a.laneChanged_keeps n ts inner ls k

/-- What a change of speed forgets of a port that is not associated (R165). -/
def State.outerOnly : State := s.modPort n fun p => { p with innerComp := false, attempt := .none }

theorem State.speedChange_unassociated (ha : s.associated n = false) (htx : ∀ ls ∈ s.portLs n, (s.lane ls).tx = false) :
    s.speedChange n ts =
      (((((s.newRate n ts.rate).outerOnly n).sideChanged n ts false).sideChanged n ts true).retarget n false) := by
  have hsilent : s.portTx n false = s := forEach_id _ s fun ls hls => if_pos (htx ls hls)
  have hrate : (if s.rate n = ts.rate then s.wr F.PORT_LINK_STAT_RATE n ts.rate
      else (s.wr F.PORT_LINK_STAT_RATE n ts.rate).inc F.PORT_TRN_CNT_SPEED n) = s.newRate n ts.rate := rfl
  have hseg : (s.newRate n ts.rate).associated n = false := by
    have hr := (s.newRate_within n ts.rate).only.rd (f := F.CMP_PORT_STAT_SEG) (i := n) (fld_notMem_partsOf (by decide))
    rw [← ha, State.associated, State.associated, State.seg, State.seg, hr]
  have hdecide : (s.newRate n ts.rate).speedDecision n (s.rate n) ts.rate = (s.newRate n ts.rate).outerOnly n :=
    if_pos (by simp [hseg])
  have hcomp : (((s.newRate n ts.rate).outerOnly n).port n).innerComp = false := by
    simp [State.outerOnly, State.modPort]
  unfold State.speedChange
  dsimp only
  rw [hsilent, hrate, hdecide, hcomp]
  rfl

end

section
variable (s : State) (n : Nat) (ts : TrainSet)

theorem sideLs_sub_portLs (inner : Bool) : ∀ ls ∈ s.sideLs n inner, ls ∈ s.portLs n := fun ls hls => by
  cases inner
  · exact List.mem_append_left _ hls
  · exact List.mem_append_right _ hls

/-- A change of speed: what it changes beside the port's own rate, and the rate of every lane-side. -/
theorem State.sidesChanged_moves : Within (lanesParts (s.portLs n) speedFields) s
      ((s.sideChanged n ts false).sideChanged n ts true) ∧
    ∀ ls ∈ s.portLs n, RunsAt ts ls ((s.sideChanged n ts false).sideChanged n ts true) := by
  have houter := s.sideChanged_within n ts false
  have hside : (s.sideChanged n ts false).sideLs n true = s.sideLs n true :=
    houter.only.sideLs (layout_notMem_lanesParts (by decide)) n true
  have hinner := (s.sideChanged n ts false).sideChanged_within n ts true
  rw [hside] at hinner
  have hsub : ∀ inner, ∀ p ∈ lanesParts (s.sideLs n inner) speedFields, p ∈ lanesParts (s.portLs n) speedFields :=
    fun inner p hp => by
      obtain ⟨ls, hls, hp⟩ := List.mem_flatMap.1 hp
      exact List.mem_flatMap.2 ⟨ls, sideLs_sub_portLs s n inner ls hls, hp⟩
  refine ⟨(houter.mono (hsub false)).trans (hinner.mono (hsub true)), fun ls hls => ?_⟩
  rcases List.mem_append.1 hls with hls | hls
  · exact State.sideChanged_keeps _ n ts true ls (s.sideChanged_runs n ts false ls hls)
  · exact State.sideChanged_runs _ n ts true ls (hside ▸ hls)

end

theorem wf_rate {ts : TrainSet} (h : ts.wf = true) : ts.rate < 7 := by
  simp only [TrainSet.wf, Bool.and_eq_true, decide_eq_true_eq] at h
  omega

/-- The state of an unassociated port in which a change of speed leaves it, its lanes silent. -/
theorem speed_changed (s : State) (n : Nat) (ts : TrainSet) (hrate : ts.rate < 7) (ha : s.associated n = false)
    (htx : ∀ ls ∈ s.portLs n, (s.lane ls).tx = false) :
    Within (trainParts s n) s (s.speedChange n ts) ∧ (s.speedChange n ts).ltssm n = s.ltssm n ∧
    ((s.speedChange n ts).port n).attempt = .none ∧ (∀ ls ∈ s.portLs n, RunsAt ts ls (s.speedChange n ts)) ∧
    Holds [(F.PORT_LINK_STAT_RATE, n, ts.rate), (F.PORT_TRN_CNT_SPEED, n, speedCount s n ts.rate)] (s.speedChange n ts) := by
  rw [s.speedChange_unassociated n ts ha htx]
  have hnew : Within (.port n :: partsOf [F.PORT_LINK_STAT_RATE, F.PORT_TRN_CNT_SPEED] n) s
      ((s.newRate n ts.rate).outerOnly n) :=
    ((s.newRate_within n ts.rate).mono fun _ hp => List.mem_cons_of_mem _ hp).trans
      ((State.modPort_within _ n _).mono (by simp))
  have hshow : Holds _ ((s.newRate n ts.rate).outerOnly n) := s.newRate_holds n hrate
  have hnone : (((s.newRate n ts.rate).outerOnly n).port n).attempt = .none := by simp [State.outerOnly, State.modPort]
  have hls : ((s.newRate n ts.rate).outerOnly n).portLs n = s.portLs n :=
    hnew.only.portLs (layout_notMem_portParts (by decide)) n
  generalize (s.newRate n ts.rate).outerOnly n = v at hnew hshow hnone hls ⊢
  obtain ⟨hsides, hruns⟩ := v.sidesChanged_moves n ts
  rw [hls] at hsides hruns
  generalize (v.sideChanged n ts false).sideChanged n ts true = w at hsides hruns ⊢
  have hmodes := w.retarget_within n false
  have hkeep : ∀ f ∈ [F.PORT_LINK_STAT_LTSSM, F.PORT_LINK_STAT_RATE, F.PORT_TRN_CNT_SPEED],
      (w.retarget n false).rd f n = v.rd f n := fun f hf => by
    have hne := (by decide : ∀ f ∈ [F.PORT_LINK_STAT_LTSSM, F.PORT_LINK_STAT_RATE, F.PORT_TRN_CNT_SPEED],
      (∀ g ∈ speedFields, g.id ≠ f.id) ∧ ∀ g ∈ modeFields, g.id ≠ f.id) f hf
    exact (hmodes.only.rd (fld_notMem_portParts hne.2)).trans (hsides.only.rd (fld_notMem_lanesParts hne.1))
  refine ⟨((hnew.mono (portParts_sub_trainParts (by decide))).trans
    (hsides.mono (lanesParts_sub_trainParts (fun _ h => h) (by decide)))).trans
    (hmodes.mono (portParts_sub_trainParts (by decide))), ?_, ?_, fun ls h => ?_, ?_⟩
  · exact (hkeep _ (by simp)).trans (hnew.only.rd (fld_notMem_portParts (by decide)))
  · rw [w.retarget_attempt, hsides.only.port port_notMem_lanesParts]
    exact hnone
  · have hsame : (w.retarget n false).lane ls = w.lane ls := hmodes.only (.lane ls) (by simp [partsOf])
    rw [RunsAt, hsame]
    exact hruns ls h
  · simp only [Holds, List.forall_mem_cons, List.not_mem_nil, false_imp_iff, implies_true, and_true] at hshow ⊢
    exact ⟨(hkeep _ (by simp)).trans hshow.1, (hkeep _ (by simp)).trans hshow.2⟩

theorem recovSpeed_entered (s : State) (n : Nat) (ts : TrainSet) (h : FollowsSet s n ts) (ha : s.associated n = false)
    (hold : s.ltssm n = 0x11) (hnew : ts.state = 0x13) (htx : ∀ ls ∈ s.portLs n, (s.lane ls).tx = false) :
    Gives (.trainingSet n ts) s [(F.PORT_LINK_STAT_LTSSM, n, 0x13), (F.PORT_LINK_STAT_RATE, n, ts.rate),
      (F.PORT_TRN_CNT_SPEED, n, speedCount s n ts.rate)] (trainParts s n) [.trainSet n (!ts.inner) (s.sentSet n ts)]
      fun t => ∀ ls ∈ s.portLs n, RunsAt ts ls t := by
  have hmove : PlainMove s.begun n ts := by
    refine ⟨?_, ?_, ?_, ?_, ?_⟩ <;> simp [hold, hnew, isRecovery]
  have hk : s.begun.stepped n ts = s.begun.moveTo n ts := by
    rw [State.stepped_unlearned _ n ts h.plain (by omega), if_neg hmove.moves]
    exact (if_neg (by omega)).trans (State.learnPolarity_later _ n ts (by omega))
  have hover := s.begun.phaseOver_within n
  have hentry : (s.begun.phaseOver n).onEntry n (s.begun.ltssm n) ts = (s.begun.phaseOver n).speedChange n ts :=
    if_pos hnew
  have hplain := fun hl => s.begun.moveTo_plain n ts hmove hentry hl
  generalize s.begun.phaseOver n = v at hover hplain
  have hread : ∀ f i, v.rd f i = s.rd f i := fun f i => hover.only.rd (by simp)
  have hls : v.portLs n = s.portLs n := (hover.only.portLs (by simp) n).trans (s.begun_portLs n)
  have hlane : ∀ ls, v.lane ls = s.lane ls := fun ls => hover.only (.lane ls) (by simp)
  have hseg : v.associated n = false := by simpa only [State.associated, State.seg, hread] using ha
  have hcount : speedCount v n ts.rate = speedCount s n ts.rate := by
    unfold speedCount State.rate
    rw [hread, hread]
  have hparts : ∀ p ∈ trainParts v n, p ∈ trainParts s n := by
    simp only [trainParts, portLaneParts, hls, imp_self, implies_true]
  obtain ⟨hin, hltssm, hnone, hruns, hshow⟩ := speed_changed v n ts (wf_rate h.wf.2) hseg
    (by simpa only [hls, hlane] using htx)
  rw [hplain (hltssm.trans (hread _ n))] at hk
  rw [hcount] at hshow
  rw [hls] at hruns
  have hover : Within (trainParts s n) s.begun v := hover.mono fun p hp => by
    rw [List.mem_singleton.1 hp]
    exact portParts_sub_trainParts (fs := []) (by simp) _ (List.mem_cons_self ..)
  have hin := hin.mono hparts
  generalize v.speedChange n ts = u at hin hnone hruns hshow hk
  have hls : u.portLs n = s.portLs n := (hin.only.portLs layout_notMem_trainParts n).trans hls
  have hentered := u.entered_within n ts.state (if ts.state = 8 then (u.port n).fmt else 0)
  rw [hls] at hentered
  have hall := (hover.trans hin).trans (hentered.mono (enteredParts_sub_trainParts s n))
  have hstate := u.entered_holds n ts.state (if ts.state = 8 then (u.port n).fmt else 0) _ (List.mem_cons_self ..)
  refine trainingSet_gives h hk hall raised_notMem_trainParts ?_ (.inl hnew) ?_ (.cons (hstate.trans (by rw [hnew]))
    (hentered.only.holds hshow ?_)) fun ls hls => ?_
  · rw [u.entered_port]
    exact hnone
  · exact sentSet_congr hall.only.of_begun (fld_notMem_trainParts (by decide)) (fld_notMem_trainParts (by decide)) (by omega)
  · have hout : ∀ g ∈ [F.PORT_LINK_STAT_RATE, F.PORT_TRN_CNT_SPEED], ∀ i, Part.fld g i ∉ partsOf [F.PORT_LINK_STAT_LTSSM,
        F.PORT_FLIT_STAT_FMT] n ++ laneFields (s.portLs n) [F.LANE_RX_STAT_ASTATE] := fun g hg i hm => by
      have hne := (by decide : ∀ g ∈ [F.PORT_LINK_STAT_RATE, F.PORT_TRN_CNT_SPEED],
        (∀ f ∈ [F.PORT_LINK_STAT_LTSSM, F.PORT_FLIT_STAT_FMT], f.id ≠ g.id) ∧ ∀ f ∈ [F.LANE_RX_STAT_ASTATE], f.id ≠ g.id) g hg
      exact (List.mem_append.1 hm).elim (fld_notMem_partsOf hne.1) (fld_notMem_laneFields hne.2)
    exact List.forall_mem_cons.2 ⟨hout _ (by simp) n, List.forall_mem_cons.2 ⟨hout _ (by simp) n, by simp⟩⟩
  · rw [RunsAt, State.emit_lane, u.entered_lane]
    exact hruns ls hls

/-! Compliance (R53, R89) -/

section
variable (s : State) (n : Nat) (ts : TrainSet)

/-- The transmitters of a side take the preset that the set names for them. -/
def State.sidePresets (inner : Bool) : State :=
  forEach (s.sideLs n inner) (fun ls b => b.setPreset ls (b.sidePreset n inner ts)) s

theorem State.sidePresets_within (inner : Bool) :
    Within (laneFields (s.sideLs n inner) coefFields) s (s.sidePresets n ts inner) :=
  forEach_within _ s fun ls hls a => (a.setPreset_within ls _).mono fun p hp => by
    obtain ⟨f, hf, rfl⟩ := List.mem_map.1 hp
    exact fld_mem_laneFields hls hf

theorem State.sidePresets_overridden (inner : Bool) {k : Nat} (h : s.flag F.LANE_TX_CTL_OVR k = true) :
    (s.sidePresets n ts inner).flag F.LANE_TX_CTL_OVR k = true ∧ (s.sidePresets n ts inner).coefWord k = s.coefWord k := by
  refine forEach_keeps (fun t : State => t.flag F.LANE_TX_CTL_OVR k = true ∧ t.coefWord k = s.coefWord k) _ ⟨h, rfl⟩ ?_
  intro ls _ a ⟨hovr, hword⟩
  by_cases hk : k = ls
  · subst hk
    rw [State.setPreset_overridden _ _ _ hovr]
    exact ⟨hovr, hword⟩
  · have hin := (a.setPreset_within ls (a.sidePreset n inner ts)).only
    have hsame : ∀ f : Fld, (a.setPreset ls (a.sidePreset n inner ts)).rd f k = a.rd f k := fun f =>
      hin.rd (by simp [partsOf, Ne.symm hk])
    simp only [State.flag, State.coefWord, hsame] at hovr hword ⊢
    exact ⟨hovr, hword⟩

theorem State.namedPresets_eq : s.namedPresets n ts = (s.sidePresets n ts false).sidePresets n ts true := rfl

theorem State.namedPresets_within :
    Within (laneFields (s.portLs n) coefFields) s (s.namedPresets n ts) := by
  have houter := s.sidePresets_within n ts false
  have hinner := (s.sidePresets n ts false).sidePresets_within n ts true
  have hside : (s.sidePresets n ts false).sideLs n true = s.sideLs n true :=
    houter.only.sideLs (fun g hg i hm => by
      obtain ⟨ls, -, hls⟩ := List.mem_flatMap.1 hm
      exact layout_notMem_partsOf (by decide) ls g hg i hls) n true
  rw [hside] at hinner
  have hsub : ∀ inner, ∀ p ∈ laneFields (s.sideLs n inner) coefFields, p ∈ laneFields (s.portLs n) coefFields :=
    fun inner p hp => by
      obtain ⟨ls, hls, hp⟩ := List.mem_flatMap.1 hp
      exact List.mem_flatMap.2 ⟨ls, sideLs_sub_portLs s n inner ls hls, hp⟩
  rw [s.namedPresets_eq]
  exact (houter.mono (hsub false)).trans (hinner.mono (hsub true))

theorem State.namedPresets_overridden {k : Nat} (h : s.flag F.LANE_TX_CTL_OVR k = true) :
    (s.namedPresets n ts).coefWord k = s.coefWord k := by
  obtain ⟨hovr, hword⟩ := s.sidePresets_overridden n ts false h
  exact (State.sidePresets_overridden _ n ts true hovr).2.trans hword

/-- The lane-side drives the rate and the de-emphasis that the set names. -/
abbrev Complies (ts : TrainSet) (k : Nat) (a : State) : Prop := (a.lane k).rate = ts.rate ∧ (a.lane k).sixDb = ts.sixDb

/-- Every lane-side of the port takes the rate and the de-emphasis of the set. -/
def State.lanesComply : State :=
  forEach (s.portLs n) (fun ls a => a.modLane ls fun l => { l with rate := ts.rate, comp := false, sixDb := ts.sixDb }) s

theorem State.lanesComply_within : Within (lanesParts (s.portLs n) []) s (s.lanesComply n ts) :=
  forEach_lanesParts fun ls a => (a.modLane_within ls _).mono (by simp)

theorem State.modLane_ne {k ls : Nat} (f : LaneSt → LaneSt) (h : k ≠ ls) : (s.modLane ls f).lane k = s.lane k :=
  (s.modLane_within ls f).only (.lane k) (by simpa using h)

theorem State.lanesComply_complies : ∀ ls ∈ s.portLs n, Complies ts ls (s.lanesComply n ts) := by
  refine forEach_each (Complies ts) _ s (fun ls _ a => by simp [Complies, State.modLane]) fun k _ ls _ a hk => ?_
  by_cases h : k = ls
  · subst h
    simp [Complies, State.modLane]
  · rwa [Complies, a.modLane_ne _ h]

theorem State.lanesComply_tx (k : Nat) : ((s.lanesComply n ts).lane k).tx = (s.lane k).tx := by
  refine forEach_keeps (fun (t : State) => (t.lane k).tx = (s.lane k).tx) _ rfl fun ls _ a ha => ?_
  by_cases h : k = ls
  · subst h
    simpa [State.modLane] using ha
  · rwa [a.modLane_ne _ h]

/-- The port takes the rate of a compliance pattern (R89; log entry 99). -/
def State.complianceRate : State :=
  if s.rate n = ts.rate then s else (s.wr F.PORT_LINK_STAT_RATE n ts.rate).inc F.PORT_TRN_CNT_SPEED n

theorem State.complianceRate_within :
    Within (partsOf [F.PORT_LINK_STAT_RATE, F.PORT_TRN_CNT_SPEED] n) s (s.complianceRate n ts) :=
  .ite (.refl _ s) (((s.wr_within _ n _).mono (by simp [partsOf])).trans ((State.wr_within _ _ n _).mono (by simp [partsOf])))

theorem State.complianceRate_holds (h : ts.rate < 7) :
    Holds [(F.PORT_LINK_STAT_RATE, n, ts.rate), (F.PORT_TRN_CNT_SPEED, n, speedCount s n ts.rate)] (s.complianceRate n ts) := by
  by_cases hr : s.rate n = ts.rate
  · rw [State.complianceRate, speedCount, if_pos hr, if_pos hr]
    exact .cons hr (.cons rfl (.nil _))
  · have hnew : s.complianceRate n ts = s.newRate n ts.rate := (if_neg hr).trans (if_neg hr).symm
    exact hnew ▸ s.newRate_holds n h

theorem State.compliance_eq :
    s.compliance n ts = ((s.complianceRate n ts).lanesComply n ts).namedPresets n ts := rfl

end

theorem compliance_driven (s : State) (n : Nat) (ts : TrainSet) (h : FollowsSet s n ts) (hold : s.ltssm n = 4)
    (hnew : ts.state = 4) (htx : ∀ ls ∈ s.sendLs n (!ts.inner), (s.lane ls).tx = true) :
    Gives (.trainingSet n ts) s [(F.PORT_LINK_STAT_RATE, n, ts.rate), (F.PORT_TRN_CNT_SPEED, n, speedCount s n ts.rate)]
      (trainParts s n) [.trainSet n (!ts.inner) (s.sentSet n ts)] fun t => ∀ ls ∈ s.portLs n, (t.lane ls).rate = ts.rate ∧
      (t.lane ls).sixDb = ts.sixDb ∧ (s.flag F.LANE_TX_CTL_OVR ls = true → t.coefWord ls = s.coefWord ls) := by
  have hk : s.begun.stepped n ts = s.begun.compliance n ts := by
    have heq : s.begun.ltssm n = ts.state := hold.trans hnew.symm
    rw [State.stepped_unlearned _ n ts h.plain (by omega), if_pos heq, State.learnPolarity_later _ n ts (by omega)]
    exact if_pos hnew
  rw [State.compliance_eq] at hk
  have hrate := s.begun.complianceRate_within n ts
  have hshow := s.begun.complianceRate_holds n ts (wf_rate h.wf.2)
  have hls : (s.begun.complianceRate n ts).portLs n = s.portLs n :=
    hrate.only.portLs (layout_notMem_partsOf (by decide) n) n
  generalize s.begun.complianceRate n ts = v at hk hrate hshow hls
  have hlanes := v.lanesComply_within n ts
  have hcomply := v.lanesComply_complies n ts
  have htxs := v.lanesComply_tx n ts
  rw [hls] at hlanes hcomply
  have hlsw : (v.lanesComply n ts).portLs n = s.portLs n :=
    (hlanes.only.portLs (layout_notMem_lanesParts (by decide)) n).trans hls
  generalize v.lanesComply n ts = w at hk hlanes hcomply htxs hlsw
  have hpre := w.namedPresets_within n ts
  rw [hlsw] at hpre
  have hover := fun k hk => w.namedPresets_overridden n ts (k := k) hk
  generalize w.namedPresets n ts = u at hk hpre hover
  have hlane : ∀ k, u.lane k = w.lane k := fun k => hpre.only (.lane k) lane_notMem_laneFields
  have hsub : ∀ p ∈ laneFields (s.portLs n) coefFields, p ∈ trainParts s n := fun p hp => by
    obtain ⟨ls, hls, hp⟩ := List.mem_flatMap.1 hp
    exact laneParts_sub_trainParts hls (by decide) p (List.mem_cons_of_mem _ hp)
  have hall : Within (trainParts s n) s.begun u := ((hrate.mono fun p hp => portParts_sub_trainParts (by decide) p
    (List.mem_cons_of_mem _ hp)).trans (hlanes.mono (lanesParts_sub_trainParts (fun _ h => h) (by decide)))).trans
    (hpre.mono hsub)
  have hport : u.port n = s.port n := ((hpre.only.port port_notMem_laneFields).trans
    (hlanes.only.port port_notMem_lanesParts)).trans (hrate.only.port (by simp [partsOf]))
  refine trainingSet_forwards h (by omega) htx hk ⟨hall, ?_, fun k => ?_, hport ▸ h.noAttempt⟩ ?_ fun ls hl => ?_
  · apply hall.only.sendLs_of_lanes layout_notMem_trainParts <;> rw [hport] <;> rfl
  · rw [hlane, htxs]
    exact congrArg LaneSt.tx (hrate.only (.lane k) (by simp [partsOf]))
  · refine hpre.only.holds (hlanes.only.holds hshow ?_) ?_ <;>
      simp only [List.forall_mem_cons, List.not_mem_nil, false_imp_iff, implies_true, and_true]
    · exact ⟨fld_notMem_lanesParts (by simp), fld_notMem_lanesParts (by simp)⟩
    · exact ⟨fld_notMem_laneFields (by decide), fld_notMem_laneFields (by decide)⟩
  · obtain ⟨hr, hd⟩ := hcomply ls hl
    refine ⟨(congrArg LaneSt.rate (hlane ls)).trans hr, (congrArg LaneSt.sixDb (hlane ls)).trans hd, fun ho => ?_⟩
    have hsame : ∀ f ∈ F.LANE_TX_CTL_OVR :: coefFields, w.rd f ls = s.rd f ls := fun f hf => by
      have hne := (by decide : ∀ f ∈ F.LANE_TX_CTL_OVR :: coefFields, ∀ g ∈ [F.PORT_LINK_STAT_RATE, F.PORT_TRN_CNT_SPEED],
        g.id ≠ f.id) f hf
      exact (hlanes.only.rd (fld_notMem_lanesParts (by simp))).trans (hrate.only.rd (fld_notMem_partsOf hne))
    simp only [coefFields, List.forall_mem_cons, List.not_mem_nil, false_imp_iff, implies_true, and_true] at hsame
    obtain ⟨hovr, -, hcp1, hc0, hcm1, hcm2⟩ := hsame
    have hword : w.coefWord ls = s.coefWord ls := by simp only [State.coefWord, hcp1, hc0, hcm1, hcm2]
    exact (hover ls (by rwa [State.flag, hovr])).trans hword

/-! Receiver detection (R86) -/

/-- Outputs driven, and nothing else. -/
def State.driving (s : State) (outs : List Out) : State := { s with out := s.out ++ outs }

section
variable (s : State) (n o i : Nat)

theorem State.driving_emit (outs : List Out) (x : Out) : (s.driving outs).emit x = s.driving (outs ++ [x]) := by
  simp only [State.driving, State.emit, List.append_assoc]

theorem State.driving_only (outs : List Out) : Only [] s (s.driving outs) := fun p _ => by
  cases p
  case field | mirror => exact fun _ => rfl
  all_goals rfl

/-- The terminations that the pass over one lane switches on. -/
def laneTerms (k : Nat) : List Out :=
  (if bit i k ∧ ¬bit (s.port n).foundI k then [.term (outerLs (firstLane n + k)) true] else []) ++
    (if bit o k ∧ ¬bit (s.port n).foundO k then [.term (s.innerOf (firstLane n + k)) true] else [])

/-- The pass of receiver detection over the lanes of a port. -/
theorem State.detect_drives : forUp (s.width n) (fun k a =>
      let a := if bit i k ∧ ¬bit (s.port n).foundI k then a.emit (.term (outerLs (firstLane n + k)) true) else a
      if bit o k ∧ ¬bit (s.port n).foundO k then a.emit (.term (a.innerOf (firstLane n + k)) true) else a) s =
    s.driving (newTerms s n o i) := by
  refine forUp_ind (fun j t => t = s.driving ((List.range j).flatMap (laneTerms s n o i))) (s.width n)
    (by simp [State.driving]) fun j a _ ha => ?_
  subst ha
  rw [List.range_succ, List.flatMap_append, List.flatMap_singleton, laneTerms]
  have hinner : ∀ outs, (s.driving outs).innerOf (firstLane n + j) = s.innerOf (firstLane n + j) := fun _ => rfl
  by_cases hi : bit i j = true ∧ ¬bit (s.port n).foundI j = true <;>
    by_cases ho : bit o j = true ∧ ¬bit (s.port n).foundO j = true <;>
    simp only [if_pos, if_neg, hi, ho, not_false_eq_true, and_self, reduceCtorEq, State.driving_emit,
      hinner, List.append_assoc, List.append_nil, List.nil_append]

/-- What a detection leaves of a port. -/
def withFound (p : PortSt) (o i : Nat) : PortSt :=
  { p with foundO := o, foundI := i, detectRetries := if o &&& i ≠ 0 then p.detectRetries + 1 else 0 }

variable {s n o i} {outer inner : List Nat}

/-- What a detection in Detect leads to: in DETECT_ACTIVE the new state stands already. -/
theorem State.detect_searches (h : s.ltssm n ≤ 1 ∧ s.portClocked n = true ∧ s.safe = false ∧
      s.flag F.SUMP_QSTOP_STAT_QUIESCED 0 = false ∧ (s.port n).detectRetries ≤ 12)
    (ho : o = (s.port n).foundO ||| offBits outer (s.width n)) (hi : i = (s.port n).foundI ||| offBits inner (s.width n)) :
    s.detect n outer inner =
      let t := (s.driving (newTerms s n o i)).modPort n fun p => withFound p o i
      if t.ltssm n = 0 then t.setLtssm n 1 else t := by
  obtain ⟨hltssm, hclk, hsafe, hquiet, hretries⟩ := h
  subst ho hi
  have hgoes : ¬(s.ltssm n > 1 ∨ (!s.portClocked n) = true ∨ s.safe = true ∨
      s.flag F.SUMP_QSTOP_STAT_QUIESCED 0 = true ∨ (s.port n).detectRetries > 12) := by
    simp [hclk, hsafe, hquiet]
    omega
  unfold State.detect
  dsimp only
  rw [if_neg hgoes, State.detect_drives]
  rfl

end

theorem detectRetry_finds (s : State) (n o i : Nat) (outer inner : List Nat) (hq : Quiet s)
    (hwf : n < 16 ∧ (∀ k ∈ outer, k < 16) ∧ ∀ k ∈ inner, k < 16)
    (h : s.ltssm n ≤ 1 ∧ s.portClocked n = true ∧ s.safe = false ∧ s.flag F.SUMP_QSTOP_STAT_QUIESCED 0 = false ∧
      (s.port n).detectRetries ≤ 12)
    (ho : o = (s.port n).foundO ||| offBits outer (s.width n)) (hi : i = (s.port n).foundI ||| offBits inner (s.width n)) :
    Gives (.detectRetry n outer inner) s [(F.PORT_LINK_STAT_LTSSM, n, 1)] [.port n, .fld F.PORT_FLIT_STAT_FMT n]
      (newTerms s n o i) fun t => t.port n = { s.port n with
        foundO := o, foundI := i, detectRetries := if o &&& i = 0 then 0 else (s.port n).detectRetries + 1 } := by
  have hdetect := State.detect_searches (s := s.begun) h ho hi
  have hdriven := s.begun.driving_only (newTerms s n o i)
  have hout : (s.begun.driving (newTerms s n o i)).out = newTerms s n o i := rfl
  rw [show newTerms s.begun n o i = newTerms s n o i from rfl] at hdetect
  generalize s.begun.driving (newTerms s n o i) = u at hdetect hdriven hout
  have hfound := u.modPort_within n fun p => withFound p o i
  have hport : (u.modPort n fun p => withFound p o i).port n = withFound (s.port n) o i := by
    rw [State.modPort, State.port_setPort, hdriven.port (by simp), State.begun_port]
  generalize (u.modPort n fun p => withFound p o i) = v at hdetect hfound hport
  have hltssm : v.ltssm n = s.ltssm n :=
    (hfound.only.rd (by simp)).trans (hdriven.rd (by simp))
  have hstate : ∃ w, s.begun.detect n outer inner = w ∧ w.ltssm n = 1 ∧
      Within (partsOf [F.PORT_LINK_STAT_LTSSM, F.PORT_FLIT_STAT_FMT] n) v w := by
    refine ⟨_, hdetect, ?_⟩
    dsimp only
    by_cases h0 : v.ltssm n = 0
    · rw [if_pos h0, v.setLtssm_outsideL0 n 1 (by omega)]
      exact ⟨v.recordState_holds n 1 _ _ (List.mem_cons_self ..), v.recordState_within n 1 _⟩
    · rw [if_neg h0]
      exact ⟨by omega, .refl _ v⟩
  obtain ⟨w, hw, hone, hmoved⟩ := hstate
  have hall : Only [.fld F.PORT_LINK_STAT_LTSSM n, .port n, .fld F.PORT_FLIT_STAT_FMT n] s w := by
    refine Only.of_begun (((hdriven.mono (by simp)).trans (hfound.only.mono (by simp))).trans (hmoved.only.mono ?_))
    simp [partsOf]
  refine Gives.of_effect (k := fun s => s.detect n outer inner) (exec_detectRetry s n outer inner) ?_ ?_ ?_ ?_ ?_ ?_
  · simpa [Wf.detectRetry, offsWf, and_assoc] using hwf
  all_goals rw [hw]
  · exact (hall.raised (by simp)).trans hq
  · exact .cons hone (.nil _)
  · exact hall
  · rw [hmoved.out, hfound.out, hout]
  · rw [hmoved.only.port (by simp [partsOf]), hport, withFound]
    simp only [ne_eq, ite_not]

/-! Leaving L0 for L1 or Recovery (R101, R105, R112) -/

section
variable (s : State) (n : Nat)

theorem State.calmLeft_within :
    Within (.port n :: .fld F.PORT_LINK_STAT_AWIDTH n :: portLaneParts s n) s (s.calmLeft n) :=
  (((s.endPortMargins_within n).mono (by simp +contextual)).trans ((State.wr_within _ _ n _).mono (by simp))).trans
    ((State.modPort_within _ n _).mono (by simp))

theorem State.calmLeft_port : (s.calmLeft n).port n = { s.port n with offLanes := 0 } := by
  have hsame := (s.endPortMargins_within n).only.port (n := n) (by simp [portLaneParts, laneFields])
  simp [State.calmLeft, State.modPort, hsame]

theorem State.calmLeft_awidth :
    (s.calmLeft n).rd F.PORT_LINK_STAT_AWIDTH n = s.rd F.PORT_LINK_STAT_WIDTH n % 32 :=
  State.rd_wr_self (s.endPortMargins n) F.PORT_LINK_STAT_AWIDTH n _

theorem State.calmLeft_rd {f : Fld} {i : Nat} (h : ∀ g ∈ F.PORT_LINK_STAT_AWIDTH :: idleFields, g.id ≠ f.id) :
    (s.calmLeft n).rd f i = s.rd f i := by
  obtain ⟨hwidth, hidle⟩ := List.forall_mem_cons.1 h
  refine (s.calmLeft_within n).only.rd ?_
  simp [fld_notMem_portLaneParts hidle, hwidth.symm]

/-- The end of a margining step keeps the transmitter, and whether the receiver is off. -/
theorem State.calmLeft_lane (k : Nat) :
    ((s.calmLeft n).lane k).tx = (s.lane k).tx ∧ ((s.calmLeft n).astate k = 0 ↔ s.astate k = 0) := by
  have hmargins : ((s.endPortMargins n).lane k).tx = (s.lane k).tx ∧
      ((s.endPortMargins n).astate k = 0 ↔ s.astate k = 0) := by
    refine forEach_keeps (fun t : State => (t.lane k).tx = (s.lane k).tx ∧ (t.astate k = 0 ↔ s.astate k = 0)) _
      ⟨rfl, Iff.rfl⟩ fun ls _ a ⟨htx, hzero⟩ => ?_
    have hend := (a.endMargin_within ls).only
    have hthaw := ((a.endMargin ls).unfreeze_within ls).only
    have hastate : (a.endMargin ls).astate k = a.astate k :=
      hend.rd fun hm => (List.mem_cons.1 hm).elim (by simp) (fld_notMem_partsOf (by decide))
    split
    case isFalse => exact ⟨htx, hzero⟩
    case isTrue =>
      rw [show ((a.endMargin ls).unfreeze ls).lane k = _ from hthaw (.lane k) (by simp)]
      by_cases hk : k = ls
      · subst hk
        rw [a.endMargin_lane, (a.endMargin k).unfreeze_zero, hastate]
        exact ⟨htx, hzero⟩
      · rw [show (a.endMargin ls).lane k = _ from hend (.lane k) (by simp [hk, partsOf]),
          show ((a.endMargin ls).unfreeze ls).astate k = (a.endMargin ls).astate k from hthaw.rd (by simp [hk]), hastate]
        exact ⟨htx, hzero⟩
  refine ⟨hmargins.1, ?_⟩
  rw [← hmargins.2]
  simp (disch := decide) [State.calmLeft, State.astate, State.modPort, State.rd_wr_fld]

/-- A port in L0 moves to another state. -/
def State.l0Moved (v : Nat) : State := (s.l0Left n).recordState n v 0

/-- The fields that record the state of a port and its active width. -/
def stateFields : List Fld := [F.PORT_LINK_STAT_LTSSM, F.PORT_FLIT_STAT_FMT, F.PORT_LINK_STAT_AWIDTH]

/-- What a port that leaves L0 for a state with no data stream changes. -/
abbrev leavingParts : List Part := .port n :: portLaneParts s n ++ partsOf stateFields n

theorem State.calmLeft_leaving : Within (leavingParts s n) s (s.calmLeft n) := (s.calmLeft_within n).mono fun p hp => by
  simp only [List.mem_cons] at hp
  rcases hp with rfl | rfl | hp
  · simp
  · simp [partsOf, stateFields]
  · simp [hp]

theorem State.l0Moved_within (v : Nat) : Within (.port n :: (s.portLs n).map .lane ++
    partsOf [F.PORT_LINK_STAT_LTSSM, F.PORT_FLIT_STAT_FMT] n) s (s.l0Moved n v) :=
  ((s.l0Left_within n).mono fun _ hp => List.mem_append_left _ hp).trans
    ((State.recordState_within _ n v 0).mono fun _ hp => List.mem_append_right _ hp)

theorem State.l0Moved_leaving (v : Nat) : Within (leavingParts s n) s (s.l0Moved n v) := by
  refine (s.l0Moved_within n v).mono fun p hp => ?_
  rcases List.mem_append.1 hp with hp | hp
  · rcases List.mem_cons.1 hp with rfl | hp
    · simp
    · exact List.mem_append_left _ (List.mem_cons_of_mem _ (List.mem_append_left _ hp))
  · refine List.mem_append_right _ ?_
    simp only [partsOf, stateFields, List.map_cons, List.mem_cons] at hp ⊢
    tauto

theorem State.l0Moved_port (v : Nat) : (s.l0Moved n v).port n = { s.port n with l0Exit := s.drip } :=
  ((s.l0Left n).recordState_within n v 0).only.port (by simp [partsOf]) |>.trans (s.l0Left_port n)

theorem State.l0Moved_tx (v k : Nat) : ((s.l0Moved n v).lane k).tx = (s.lane k).tx := by
  have hsame : (s.l0Moved n v).lane k = (s.l0Left n).lane k :=
    ((s.l0Left n).recordState_within n v 0).only (.lane k) (by simp [partsOf])
  rw [hsame, s.l0Left_tx]

theorem State.l0Moved_rd (v : Nat) {f : Fld} {i : Nat}
    (h : ∀ g ∈ [F.PORT_LINK_STAT_LTSSM, F.PORT_FLIT_STAT_FMT], g.id ≠ f.id) : (s.l0Moved n v).rd f i = s.rd f i :=
  (s.l0Moved_within n v).only.rd fun hm => (List.mem_append.1 hm).elim (by simp) (fld_notMem_partsOf h)

theorem fld_notMem_leavingParts {g : Fld} {i : Nat} (h : ∀ f ∈ idleFields ++ stateFields, f.id ≠ g.id) :
    Part.fld g i ∉ leavingParts s n := by
  obtain ⟨hidle, hstate⟩ := List.forall_mem_append.1 h
  intro hm
  rcases List.mem_append.1 hm with hm | hm
  · exact (List.mem_cons.1 hm).elim (by simp) (fld_notMem_portLaneParts hidle)
  · exact fld_notMem_partsOf hstate hm

theorem layout_notMem_leavingParts (g : Fld) (hg : g.layout = true) (i : Nat) : Part.fld g i ∉ leavingParts s n := by
  have hnone : ∀ f ∈ idleFields ++ stateFields, f.layout = false := by decide
  exact fld_notMem_leavingParts s n fun f hf he => absurd ((hnone f hf).symm.trans (Fld.layout_congr he)) (by simp [hg])

theorem raised_notMem_leavingParts : Part.raised ∉ leavingParts s n := by
  simp [portLaneParts, laneFields, partsOf]

theorem leavingParts_congr {t : State} (h : t.portLs n = s.portLs n) : leavingParts t n = leavingParts s n := by
  simp only [leavingParts, portLaneParts, h]

/-! L1 (R101) -/

/-- The two sides of a port have no lane-side in common, and each lane of it one on each side. -/
theorem State.portLs_nodup (hn : n < 16) : (s.portLs n).Nodup := by
  have hlanes : (s.portLanes n).Nodup := List.nodup_range.map (add_left_injective _)
  have hlt : ∀ l ∈ s.portLanes n, l < 32 := fun l hl => by
    obtain ⟨k, hk, rfl⟩ := List.mem_map.1 hl
    rw [Nat.add_comm]
    exact s.lane_lt hn (List.mem_range.1 hk)
  have houters : s.sideLs n false = s.portLanes n := List.map_id _
  refine List.Nodup.append (houters ▸ hlanes)
    (hlanes.map_on fun l hl m hm h => s.innerOf_inj (hlt l hl) (hlt m hm) h) fun ls houter hinner => ?_
  obtain ⟨l, hl, rfl⟩ := List.mem_map.1 houter
  obtain ⟨m, -, hm⟩ := List.mem_map.1 hinner
  have hlow : l < 32 := hlt l hl
  have hhigh : 32 ≤ s.innerOf m := by
    unfold State.innerOf innerLs
    split <;> omega
  simp only [if_true, Bool.false_eq_true, if_false, outerLs] at hm
  omega

theorem State.setTx_flips {on : Bool} {ls : Nat} (h : (s.lane ls).tx ≠ on) :
    s.setTx on ls = (s.modLane ls fun l => { l with tx := on }).emit (.txIdle ls (!on)) := if_neg h

/-- The effect of switching off transmitters that send: each goes idle, and that is all. -/
theorem State.lanesSilenced {l : List Nat} (hl : l.Nodup) (htx : ∀ ls ∈ l, (s.lane ls).tx = true) :
    let t := forEach l (fun ls a => a.setTx false ls) s
    Only (l.map .lane) s t ∧ t.out = s.out ++ (l.map fun ls => .txIdle ls true) ∧ ∀ ls ∈ l, (t.lane ls).tx = false := by
  induction l generalizing s with
  | nil => exact ⟨fun p _ => p.same_refl s, (List.append_nil _).symm, by simp⟩
  | cons x l ih =>
    obtain ⟨hx, hl⟩ := List.nodup_cons.1 hl
    obtain ⟨hon, htx⟩ := List.forall_mem_cons.1 htx
    have hflip := s.setTx_flips (on := false) (ls := x) (by simp [hon])
    have hone : Only [.lane x] s (s.setTx false x) := hflip ▸ (s.modLane_within x _).only.emit _
    have hother : ∀ ls ∈ l, (s.setTx false x).lane ls = s.lane ls := fun ls hls =>
      hone (.lane ls) (by simpa using fun h : ls = x => hx (h ▸ hls))
    obtain ⟨honly, hout, hoff⟩ := ih (s.setTx false x) hl fun ls hls => (hother ls hls).symm ▸ htx ls hls
    refine ⟨(hone.append honly).mono (by simp), ?_, List.forall_mem_cons.2 ⟨?_, hoff⟩⟩
    · refine hout.trans ?_
      rw [hflip]
      simp [State.emit, State.modLane, State.setLane]
    · have hkept := honly (.lane x) (by simpa using hx)
      refine (congrArg LaneSt.tx hkept).trans ?_
      rw [hflip]
      simp [State.modLane]

theorem State.lanesIdle_within : Within (portLaneParts s n) s (forEach (s.portLs n) (fun ls a => a.laneIdle ls) s) :=
  forEach_within _ s fun ls hls a => (a.laneIdle_within ls).mono (laneParts_sub_portLaneParts hls (by decide))

/-- The state and the transmitter of a lane-side while others, or itself, go to IDLE. -/
theorem State.laneIdle_other (ls : Nat) {k : Nat} (h : k ≠ ls) :
    (s.laneIdle ls).lane k = s.lane k ∧ (s.laneIdle ls).astate k = s.astate k :=
  ⟨(s.laneIdle_within ls).only (.lane k) (by simp [h, partsOf]), (s.laneIdle_within ls).only.rd (by simp [h, partsOf])⟩

theorem State.lanesIdle_tx (l : List Nat) (k : Nat) :
    ((forEach l (fun ls a => a.laneIdle ls) s).lane k).tx = (s.lane k).tx := by
  refine forEach_keeps (fun t : State => (t.lane k).tx = (s.lane k).tx) l rfl fun ls _ a ha => ?_
  by_cases hk : k = ls
  · subst hk
    exact (a.laneIdle_tx k).trans ha
  · rwa [(a.laneIdle_other ls hk).1]

theorem State.lanesIdle_astate {l : List Nat} {k : Nat} (hk : k ∈ l) :
    (forEach l (fun ls a => a.laneIdle ls) s).astate k = if s.astate k = 0 then 0 else 1 := by
  have hzero : (forEach l (fun ls a => a.laneIdle ls) s).astate k = 0 ↔ s.astate k = 0 := by
    refine forEach_keeps (fun t : State => t.astate k = 0 ↔ s.astate k = 0) l Iff.rfl fun ls _ a ha => ?_
    by_cases h : k = ls
    · subst h
      rw [a.laneIdle_astate, ← ha]
      by_cases hz : a.astate k = 0 <;> simp [hz]
    · rwa [(a.laneIdle_other ls h).2]
  have hle : (forEach l (fun ls a => a.laneIdle ls) s).astate k ≤ 1 := by
    refine forEach_each (fun ls (t : State) => t.astate ls ≤ 1) l s (fun ls _ a => ?_) (fun x _ y _ a ha => ?_) k hk
    · rw [a.laneIdle_astate]
      split <;> omega
    · by_cases h : x = y
      · subst h
        rw [a.laneIdle_astate]
        split <;> omega
      · rwa [(a.laneIdle_other y h).2]
  split <;> omega

/-- A port that leaves L0 for L1 has ended its margining and has gone idle, on every lane. -/
def State.l1Silent : State := (s.calmLeft n).portTx n false

/-- The new state is recorded, and the receivers go to IDLE. -/
def State.l1Idle : State := forEach ((s.l0Moved n 0x0A).portLs n) (fun ls a => a.laneIdle ls) (s.l0Moved n 0x0A)

variable {s n}

theorem State.l1Entry_calm (h : s.ltssm n = 8) (hn : NoStream s n) : s.l1Entry n = (s.l1Silent n).l1Idle n := by
  have hltssm : (s.l1Silent n).ltssm n = 8 :=
    (forEach_eq (fun t : State => t.ltssm n) _ _ fun ls a => by unfold State.setTx; split <;> rfl).trans
      ((s.calmLeft_rd n (by decide)).trans h)
  have hmove : (s.l1Silent n).setLtssm n 0x0A = (s.l1Silent n).l0Moved n 0x0A :=
    State.setLtssm_fromL0 _ n hltssm (by decide)
  rw [State.l1Idle, ← hmove, State.l1Silent, ← s.leaveL0_calm n h hn]
  exact if_neg (not_not.2 h)

theorem State.l1Silent_goesIdle (hn : n < 16) (htx : ∀ ls ∈ s.portLs n, (s.lane ls).tx = true) :
    Only (leavingParts s n) s (s.l1Silent n) ∧
    (s.l1Silent n).out = s.out ++ ((s.portLs n).map fun ls => .txIdle ls true) ∧
    (s.l1Silent n).rd F.PORT_LINK_STAT_AWIDTH n = s.rd F.PORT_LINK_STAT_WIDTH n % 32 ∧
    ∀ ls ∈ s.portLs n, ((s.l1Silent n).lane ls).tx = false ∧ ((s.l1Silent n).astate ls = 0 ↔ s.astate ls = 0) := by
  have hleft := s.calmLeft_leaving n
  have hlanes := s.calmLeft_lane n
  have hls : (s.calmLeft n).portLs n = s.portLs n := hleft.only.portLs (layout_notMem_leavingParts _ n) n
  obtain ⟨hsilent, hout, hoff⟩ := (s.calmLeft n).lanesSilenced (l := (s.calmLeft n).portLs n)
    ((s.calmLeft n).portLs_nodup n hn) fun ls hl => (hlanes ls).1.trans (htx ls (hls ▸ hl))
  change Only _ _ (s.l1Silent n) at hsilent
  change (s.l1Silent n).out = _ at hout
  change ∀ ls ∈ _, ((s.l1Silent n).lane ls).tx = false at hoff
  rw [hls] at hsilent hout hoff
  refine ⟨hleft.only.trans (hsilent.mono fun p hp => ?_), hout.trans (by rw [hleft.out]),
    (hsilent.rd (by simp)).trans (s.calmLeft_awidth n), fun ls hl => ⟨hoff ls hl, ?_⟩⟩
  · exact List.mem_append_left _ (List.mem_cons_of_mem _ (List.mem_append_left _ hp))
  · have hastate : (s.l1Silent n).astate ls = (s.calmLeft n).astate ls := hsilent.rd (by simp)
    rw [hastate]
    exact (hlanes ls).2

variable (s n)

theorem State.l1Idle_rests : Within (leavingParts s n) s (s.l1Idle n) ∧
    Holds [(F.PORT_LINK_STAT_LTSSM, n, 0x0A), (F.PORT_FLIT_STAT_FMT, n, 0), (F.PORT_LINK_STAT_AWIDTH, n,
      s.rd F.PORT_LINK_STAT_AWIDTH n)] (s.l1Idle n) ∧
    ∀ ls ∈ s.portLs n, ((s.l1Idle n).lane ls).tx = (s.lane ls).tx ∧
      (s.l1Idle n).astate ls = if s.astate ls = 0 then 0 else 1 := by
  have hmoved := s.l0Moved_leaving n 0x0A
  have hls : (s.l0Moved n 0x0A).portLs n = s.portLs n := hmoved.only.portLs (layout_notMem_leavingParts s n) n
  have hidle := (s.l0Moved n 0x0A).lanesIdle_within n
  change Within _ _ (s.l1Idle n) at hidle
  have hshown : Holds [(F.PORT_LINK_STAT_LTSSM, n, 0x0A), (F.PORT_FLIT_STAT_FMT, n, 0), (F.PORT_LINK_STAT_AWIDTH, n,
      s.rd F.PORT_LINK_STAT_AWIDTH n)] (s.l0Moved n 0x0A) := by
    have hstate := (s.l0Left n).recordState_holds n 0x0A 0
    simp only [Holds, List.forall_mem_cons, List.not_mem_nil, false_imp_iff, implies_true, and_true] at hstate ⊢
    exact ⟨hstate.1, hstate.2, s.l0Moved_rd n 0x0A (by decide)⟩
  have hparts : portLaneParts (s.l0Moved n 0x0A) n = portLaneParts s n := by simp only [portLaneParts, hls]
  rw [hparts] at hidle
  refine ⟨hmoved.trans (hidle.mono fun p hp => List.mem_append_left _ (List.mem_cons_of_mem _ hp)),
    hidle.only.holds hshown ?_, fun ls hl => ⟨?_, ?_⟩⟩
  · simp only [List.forall_mem_cons, List.not_mem_nil, false_imp_iff, implies_true, and_true]
    exact ⟨fld_notMem_portLaneParts (by decide), fld_notMem_portLaneParts (by decide), fld_notMem_portLaneParts (by decide)⟩
  · exact (State.lanesIdle_tx _ _ ls).trans (s.l0Moved_tx n 0x0A ls)
  · have hastate : (s.l0Moved n 0x0A).astate ls = s.astate ls := s.l0Moved_rd n 0x0A (by decide)
    rw [State.l1Idle, State.lanesIdle_astate _ (hls.symm ▸ hl), hastate]

end

theorem l1_entered (s : State) (n : Nat) (hq : Quiet s) (h : n < 16 ∧ s.ltssm n = 8) (hn : NoStream s n)
    (htx : ∀ ls ∈ s.portLs n, (s.lane ls).tx = true) :
    Gives (.l1Entry n) s [(F.PORT_LINK_STAT_LTSSM, n, 0x0A), (F.PORT_FLIT_STAT_FMT, n, 0), (F.PORT_LINK_STAT_AWIDTH, n,
      s.rd F.PORT_LINK_STAT_WIDTH n % 32)] (.port n :: portLaneParts s n) ((s.portLs n).map fun ls => .txIdle ls true)
      fun t => ∀ ls ∈ s.portLs n, (t.lane ls).tx = false ∧ t.astate ls = (if s.astate ls = 0 then 0 else 1) := by
  obtain ⟨hlt, h8⟩ := h
  have hk := State.l1Entry_calm (s := s.begun) h8 hn
  obtain ⟨hsilent, hout, hwidth, hoff⟩ := State.l1Silent_goesIdle (s := s.begun) hlt htx
  generalize s.begun.l1Silent n = b at hk hsilent hout hwidth hoff
  have hls : b.portLs n = s.portLs n := hsilent.portLs (layout_notMem_leavingParts _ n) n
  obtain ⟨hidle, hshown, hrest⟩ := b.l1Idle_rests n
  rw [leavingParts_congr s n hls] at hidle
  rw [hwidth] at hshown
  rw [hls] at hrest
  have hall : Only (leavingParts s n) s (b.l1Idle n) := (hsilent.trans hidle.only).of_begun
  refine Gives.of_result (exec_l1Entry s n) (by simp [Wf.l1Entry, hlt]) hk ?_ (hidle.out.trans hout) (fun ls hl => ?_)
    hshown (hall.mono fun p hp => ?_)
  · exact (hall.raised (raised_notMem_leavingParts s n)).trans hq
  · obtain ⟨htxd, hastate⟩ := hrest ls hl
    obtain ⟨htxb, hzero⟩ := hoff ls hl
    exact ⟨htxd.trans htxb, hastate.trans (if_congr hzero rfl rfl)⟩
  · simp only [leavingParts, Vals.parts, partsOf, stateFields, List.mem_append, List.mem_cons, List.map_cons] at hp ⊢
    tauto

/-! A retrain (R112) -/

section
variable {s : State} {n : Nat}

theorem leavingParts_sub_trainParts : ∀ p ∈ leavingParts s n, p ∈ trainParts s n := fun p hp => by
  rcases List.mem_append.1 hp with hp | hp
  · exact List.mem_append_left _ (List.mem_append_left _ hp)
  · exact portParts_sub_trainParts (fs := stateFields) (by decide) p (List.mem_cons_of_mem _ hp)

/-- A port enters Recovery to train again: it is counted, the correction modes are to be applied, and the port sends TS1. -/
def State.retrains (s : State) (n : Nat) : State :=
  (((s.inc F.PORT_TRN_CNT_RECOV n).armModes n).modPort n fun p =>
    { p with retraining := true, retrO := false, retrI := false }).adaptPort n

/-- The state of a port that retrains. -/
def asRetraining (p : PortSt) : PortSt :=
  { p with armedOI := true, armedIO := true, retraining := true, retrO := false, retrI := false }

variable (s n)

theorem State.retrains_within : Within (trainParts s n) s (s.retrains n) := by
  have hcount : Within (partsOf [F.PORT_TRN_CNT_RECOV] n) s (s.inc F.PORT_TRN_CNT_RECOV n) := s.wr_within _ n _
  have hport : Within (.port n :: partsOf [F.PORT_TRN_CNT_RECOV] n) s
      (((s.inc F.PORT_TRN_CNT_RECOV n).armModes n).modPort n fun p =>
        { p with retraining := true, retrO := false, retrI := false }) :=
    ((hcount.mono fun _ hp => List.mem_cons_of_mem _ hp).trans ((State.modPort_within _ n _).mono (by simp))).trans
      ((State.modPort_within _ n _).mono (by simp))
  have hls := hport.only.portLs (layout_notMem_portParts (by decide)) n
  have hadapt := State.adaptPort_within (((s.inc F.PORT_TRN_CNT_RECOV n).armModes n).modPort n fun p =>
        { p with retraining := true, retrO := false, retrI := false }) n
  rw [hls] at hadapt
  exact (hport.mono (portParts_sub_trainParts (by decide))).trans (hadapt.mono fun p hp =>
    enteredParts_sub_trainParts s n p (List.mem_append_right _ hp))

theorem State.retrains_port : (s.retrains n).port n = asRetraining (s.port n) := by
  refine ((State.adaptPort_within _ n).only.port port_notMem_laneFields).trans ?_
  simp [State.modPort, State.armModes, asRetraining, State.inc, State.incBy]

theorem State.retrains_rd (f : Fld) (hf : f.id ≠ F.LANE_RX_STAT_ASTATE.id) :
    (s.retrains n).rd f n = (s.inc F.PORT_TRN_CNT_RECOV n).rd f n :=
  (State.adaptPort_within _ n).only.rd (fld_notMem_laneFields (by simpa using hf.symm))

variable {s n}

theorem State.enterRecovery_stays (hp : (s.port n).leavePend = false) :
    s.enterRecovery n = (s.inc F.PORT_TRN_CNT_RECOV n).armModes n := by
  refine if_neg ?_
  simp [State.armModes, State.modPort, State.inc, State.incBy, hp]

/-- What a retrain in L0 does. -/
theorem State.retrain_leaves (h : s.ltssm n = 8) (hn : NoStream s n) (hp : (s.port n).leavePend = false) :
    (s.retrain n).2 = ((((s.calmLeft n).l0Moved n 0x10).retrains n).emit (.ts1 n false)).emit (.ts1 n true) := by
  have hltssm : (s.calmLeft n).ltssm n = 8 := (s.calmLeft_rd n (by decide)).trans h
  have hpend : (((s.calmLeft n).l0Moved n 0x10).port n).leavePend = false := by
    rw [State.l0Moved_port, s.calmLeft_port]
    exact hp
  have hmove : (s.leaveL0 n).setLtssm n 0x10 = (s.calmLeft n).l0Moved n 0x10 := by
    rw [s.leaveL0_calm n h hn, State.setLtssm_fromL0 _ n hltssm (by decide)]
    rfl
  unfold State.retrain
  rw [if_neg (not_not.2 h), hmove, State.enterRecovery_stays hpend]
  rfl

end

theorem retrain_starts (s : State) (r : Requester) (n : Nat) (hr : CoreReady s r) (h : n < 16 ∧ s.ltssm n = 8)
    (hn : NoStream s n) (hp : (s.port n).leavePend = false) :
    Gives (.portCtlRetrain r n) s [(F.PORT_LINK_STAT_LTSSM, n, 0x10), (F.PORT_TRN_CNT_RECOV, n, min (s.rd
      F.PORT_TRN_CNT_RECOV n + 1) 0xFFFF)] (trainParts s n) [.ts1 n false, .ts1 n true, .writeAck] fun t => (t.port
      n).retraining = true ∧ (t.port n).armedOI = true ∧ (t.port n).armedIO = true := by
  obtain ⟨hq, hreach, hcore⟩ := hr
  obtain ⟨hlt, h8⟩ := h
  have hk := State.viaCore_served (s := s.begun) hreach hcore fun a => (a.retrain n).2
  rw [State.retrain_leaves (s := s.begun) h8 hn hp] at hk
  have hleft := s.begun.calmLeft_leaving n
  have hrecov : (s.begun.calmLeft n).rd F.PORT_TRN_CNT_RECOV n = s.rd F.PORT_TRN_CNT_RECOV n :=
    s.begun.calmLeft_rd n (by decide)
  generalize s.begun.calmLeft n = a at hk hleft hrecov
  have hlsa : a.portLs n = s.portLs n := hleft.only.portLs (layout_notMem_leavingParts _ n) n
  have hmoved := a.l0Moved_leaving n 0x10
  have hstate : (a.l0Moved n 0x10).rd F.PORT_LINK_STAT_LTSSM n = 0x10 :=
    (a.l0Left n).recordState_holds n 0x10 0 _ (List.mem_cons_self ..)
  have hrecovb := (a.l0Moved_rd n 0x10 (f := F.PORT_TRN_CNT_RECOV) (i := n) (by decide)).trans hrecov
  rw [leavingParts_congr s n hlsa] at hmoved
  generalize a.l0Moved n 0x10 = b at hk hmoved hstate hrecovb
  have hlsb : b.portLs n = s.portLs n := (hmoved.only.portLs (layout_notMem_leavingParts _ n) n).trans hlsa
  have hretrain := b.retrains_within n
  have hparts : trainParts b n = trainParts s n := by simp only [trainParts, portLaneParts, hlsb]
  rw [hparts] at hretrain
  have hport := b.retrains_port n
  have hread := b.retrains_rd n
  generalize b.retrains n = c at hk hretrain hport hread
  have hall : Within (trainParts s n) s.begun c :=
    ((hleft.trans hmoved).mono leavingParts_sub_trainParts).trans hretrain
  refine Gives.of_result (exec_portCtlRetrain s r n) (by simp [Wf.portCtlRetrain, hlt]) hk ?_ ?_ ?_ ?_ ?_
  · exact (hall.only.raised raised_notMem_trainParts).trans hq
  · simp only [State.emit, hall.out, State.begun_out, List.nil_append, List.cons_append]
  · simp only [State.emit_port, hport]
    exact ⟨rfl, rfl, rfl⟩
  · have hltssm : c.rd F.PORT_LINK_STAT_LTSSM n = 0x10 := by
      rw [hread _ (by decide), State.inc, State.incBy, State.rd_wr_fld _ _ (by decide), hstate]
    have hcount : c.rd F.PORT_TRN_CNT_RECOV n = min (s.rd F.PORT_TRN_CNT_RECOV n + 1) 0xFFFF := by
      rw [hread _ (by decide), State.inc, State.rd_incBy_sat, hrecovb]
      rfl
    exact .cons hltssm (.cons hcount (.nil _))
  · exact ((((hall.only.of_begun.mono fun p hp => List.mem_append_right _ hp).emit _).emit _).emit _)

/-! The other steps in L1, and a set of the port's own state -/

theorem l1_left (s : State) (n lane o : Nat) (inner : Bool) (hq : Quiet s)
    (h : n < 16 ∧ lane < 32 ∧ s.ltssm n = 0x0A ∧ o = (if inner then outerLs lane else s.innerOf lane))
    (hs : (s.sendLs n (!inner)).contains o = true ∧ (s.lane o).tx = false) :
    Gives (.l1Exit n inner lane) s [] [.lane o] [.txIdle o false] fun t => t.lane o = { s.lane o with tx := true } := by
  obtain ⟨hn, hlane, hstate, rfl⟩ := h
  obtain ⟨hsends, hidle⟩ := hs
  generalize ho : (if inner then outerLs lane else s.innerOf lane) = o at hsends hidle ⊢
  have hk : s.begun.l1Exit n inner lane =
      (s.begun.modLane o fun l => { l with tx := true }).emit (.txIdle o false) := by
    have hexit : s.begun.l1Exit n inner lane = s.begun.setTx true o := by
      subst ho
      exact if_pos ⟨hstate, hsends⟩
    rw [hexit, State.setTx_flips _ (by simp [hidle])]
    rfl
  have hset := (s.begun.modLane_within o fun l => { l with tx := true }).only
  refine Gives.of_result (exec_l1Exit s n inner lane) (by simp [Wf.l1Exit, hn, hlane]) hk ?_ rfl ?_ (.nil _)
    (hset.of_begun.emit _)
  · exact (hset.raised (by simp)).trans hq
  · rw [State.emit_lane, State.modLane, State.lane_setLane, State.begun_lane]

/-- A set of the state that the port is in is sent on, and nothing changes (R85, R89). -/
theorem ownState_forwarded (s : State) (n : Nat) (ts : TrainSet) (h : FollowsSet s n ts) (hsame : ts.state = s.ltssm n)
    (hst : ts.state ≠ 2 ∧ ts.state ≠ 3 ∧ ts.state ≠ 4 ∧ ts.state ≠ 5 ∧ ts.state ≠ 0x11)
    (htx : ∀ ls ∈ s.sendLs n (!ts.inner), (s.lane ls).tx = true) :
    Gives (.trainingSet n ts) s [] [] [.trainSet n (!ts.inner) (s.sentSet n ts)] anyState := by
  have heq : s.begun.ltssm n = ts.state := hsame.symm
  have hk : s.begun.stepped n ts = s.begun := by
    rw [State.stepped_unlearned _ n ts h.plain (by omega), if_pos heq, State.learnPolarity_later _ n ts (by omega)]
    exact if_neg (by omega)
  exact trainingSet_gives h hk (.refl [] _) (by simp) h.noAttempt (.inr htx) rfl (.nil _) trivial

/-- Settles O19: a lemma above says of each step what it does in the states that it acts in; elsewhere the step's guard
ends it. -/
theorem trainingSetsAreFollowed : Obligations.TrainingSetsAreFollowed := by
  unfold Obligations.TrainingSetsAreFollowed
  refine ⟨fun s n o i outer inner hq hwf h _ ⟨ho, hi⟩ => detectRetry_finds s n o i outer inner hq hwf h ho hi,
    fun s n outer inner hq hwf h => ?trained, fun s n ts hq hwf h => ?ignored,
    fun s n ts hq hwf ⟨hf, hr, ha⟩ ⟨hsame, h2, hst⟩ htx => ?own,
    fun s n ts hq hwf ⟨hf, hr, ha⟩ ⟨hold, hnew, h2⟩ htx _ => ?config,
    fun s n ts hq hwf ⟨hf, hr, ha⟩ ⟨hold, hnew, h2⟩ htx => ?l0,
    fun s n ts hq hwf ⟨hf, hr, ha, hseg⟩ ⟨hold, hnew, h2⟩ htx _ => ?speed,
    fun s n ts hq hwf ⟨hf, hr, ha⟩ ⟨hold, hnew, h2⟩ htx => ?compliance,
    fun s n hq h hn hl => l1_entered s n hq h hn fun ls hls => (hl ls hls).1,
    fun s n hq ⟨hn, h8⟩ => Gives.of_nothing (exec_l1Entry s n) (by simp [Wf.l1Entry, hn]) hq (if_pos h8),
    l1_left, fun s n lane inner hq ⟨hn, hlane, hno⟩ => ?silent, fun s n lane inner hq ⟨hn, hlane, hno⟩ => ?awake,
    retrain_starts, fun s r n hr ⟨hn, h8⟩ => ?noRetrain⟩
  case trained =>
    refine Gives.of_nothing (exec_detectRetry s n outer inner) ?_ hq (if_pos (.inl h))
    simpa [Wf.detectRetry, offsWf, and_assoc] using hwf
  case ignored =>
    refine Gives.of_nothing (exec_trainingSet s n ts) (by simp [Wf.trainingSet, hwf]) hq (if_pos ?_)
    exact Bool.not_eq_true' .. ▸ h
  case own => exact ownState_forwarded s n ts ⟨hq, hwf, hf, hr, ha, h2, .inl hsame.symm, by omega⟩ hsame (by omega) htx
  case config => exact pollingConfig_entered s n ts ⟨hq, hwf, hf, hr, ha, h2, .inr (by omega), by omega⟩ hold hnew htx
  case l0 => exact l0_entered s n ts ⟨hq, hwf, hf, hr, ha, h2, .inr (by omega), by omega⟩ hold hnew htx
  case speed => exact recovSpeed_entered s n ts ⟨hq, hwf, hf, hr, ha, h2, .inr (by omega), by omega⟩ hseg hold hnew htx
  case compliance => exact compliance_driven s n ts ⟨hq, hwf, hf, hr, ha, h2, .inl (by omega), by omega⟩ hold hnew htx
  case silent =>
    refine Gives.of_nothing (exec_l1Exit s n inner lane) (by simp [Wf.l1Exit, hn, hlane]) hq (if_neg fun hb => ?_)
    exact Bool.false_ne_true (hno.symm.trans hb.2)
  case awake =>
    exact Gives.of_nothing (exec_l1Exit s n inner lane) (by simp [Wf.l1Exit, hn, hlane]) hq (if_neg fun hb => hno hb.1)
  case noRetrain =>
    have hk : (s.begun.retrain n).2 = s.begun := congrArg Prod.snd (if_pos h8)
    exact Gives.of_core (exec_portCtlRetrain s r n) (by simp [Wf.portCtlRetrain, hn]) hr hk hr.1 rfl trivial (.nil _)
      fun p _ => p.same_begun s

end Sys2Proof.Machine
end

section
/-! O24: the capture buffer (R144 to R150). -/
namespace Sys2Proof.Machine

section
variable (s : State) (n : Nat)

/-! Arming, triggering and stopping (R145) -/

/-- The registers of a capture that starts: its place and loss count are 0, its generation is one up. -/
def State.capRestarted : State :=
  ((s.clrAll [F.PORT_CAP_STAT_WPTR, F.PORT_CAP_STAT_WRAP, F.PORT_CAP_LOST_LOST] n).incWrap F.PORT_CAP_STAT_GEN n).wr
    F.PORT_CAP_STAT_STATE n 1

theorem State.capRestarted_holds : Holds [(F.PORT_CAP_STAT_STATE, n, 1), (F.PORT_CAP_STAT_WPTR, n, 0),
    (F.PORT_CAP_STAT_WRAP, n, 0), (F.PORT_CAP_LOST_LOST, n, 0),
    (F.PORT_CAP_STAT_GEN, n, (s.rd F.PORT_CAP_STAT_GEN n + 1) % 2 ^ F.PORT_CAP_STAT_GEN.w)] (s.capRestarted n) := by
  simp (disch := decide) [Holds, State.capRestarted, State.clrAll, State.clr, State.incWrap, State.rd_wr_fld]

theorem State.capRestarted_only : Only (partsOf [F.PORT_CAP_STAT_STATE, F.PORT_CAP_STAT_WPTR, F.PORT_CAP_STAT_WRAP,
    F.PORT_CAP_LOST_LOST, F.PORT_CAP_STAT_GEN] n) s (s.capRestarted n) := fun p hp => by
  simp_all [partsOf, State.capRestarted, State.clrAll, State.clr, State.incWrap]

theorem State.capArm_starts (h : s.capState n = 0 ∨ s.capState n = 3) : s.capArm n =
    (s.capRestarted n).modPort n fun p => { p with capQueue := [], capLeft := 0, capLate := s.passed (s.capTarget n) } := by
  have hlate : ((s.clrAll [F.PORT_CAP_STAT_WPTR, F.PORT_CAP_STAT_WRAP, F.PORT_CAP_LOST_LOST] n).incWrap
      F.PORT_CAP_STAT_GEN n).capTarget n = s.capTarget n ∧ ((s.clrAll [F.PORT_CAP_STAT_WPTR, F.PORT_CAP_STAT_WRAP,
      F.PORT_CAP_LOST_LOST] n).incWrap F.PORT_CAP_STAT_GEN n).drip = s.drip := by
    simp (disch := decide) [State.drip, State.capTarget, State.clrAll, State.clr, State.incWrap, State.rd_wr_fld]
  rw [State.capArm, if_pos h]
  simp only [State.passed, hlate]
  rfl

theorem State.capArm_runs (h : s.capState n = 1 ∨ s.capState n = 2) : s.capArm n = s := if_neg (by omega)

theorem State.capTrigger_armed (h : s.capState n = 1) : s.capTrigger n =
    ((s.wr F.PORT_CAP_STAT_STATE n 2).wr F.PORT_CAP_TREC_TRIG_REC n (s.rd F.PORT_CAP_STAT_WPTR n)).modPort n
      fun p => { p with capLeft := s.capPost n } := if_pos h

theorem State.capTrigger_unarmed (h : s.capState n ≠ 1) : s.capTrigger n = s := if_neg h

theorem State.capStop_runs (h : s.capState n = 1 ∨ s.capState n = 2) :
    s.capStop n = s.wr F.PORT_CAP_STAT_STATE n 3 := if_pos h

theorem State.capStop_stands (h : ¬(s.capState n = 1 ∨ s.capState n = 2)) : s.capStop n = s := if_neg h

/-- Every record from the trigger on has been written. -/
abbrev capComplete (s : State) (n : Nat) : Prop :=
  s.capState n = 2 ∧ (s.port n).capLeft = 0 ∧ (s.port n).capQueue = []

theorem State.capDone_complete (h : capComplete s n) : s.capDone n = s.wr F.PORT_CAP_STAT_STATE n 3 := if_pos h

theorem State.capDone_incomplete (h : ¬capComplete s n) : s.capDone n = s := if_neg h

/-! Writing records (R144, R149) -/

theorem State.capWrite_empty (h : (s.port n).capQueue = []) : s.capWrite n = s := by simp [State.capWrite, h]

/-- The oldest queued record is stored, and WPTR moves on. -/
def State.capStored (x : List Nat) (q : List (List Nat)) : State :=
  ((s.modPort n fun p => { p with capQueue := q }).wrBytes (s.capAddr n (s.rd F.PORT_CAP_STAT_WPTR n)) x).wr
    F.PORT_CAP_STAT_WPTR n (s.rd F.PORT_CAP_STAT_WPTR n + 1)

theorem State.capWrite_stores {x : List Nat} {q : List (List Nat)} (hx : (s.port n).capQueue = x :: q)
    (hb : s.capBad n = false) (hw : s.rd F.PORT_CAP_STAT_WPTR n + 1 < s.capTotal n) :
    s.capWrite n = s.capStored n x q := by
  have hbad : (s.modPort n fun p => { p with capQueue := q }).capBad n = false := hb
  have htotal : ((s.modPort n fun p => { p with capQueue := q }).wrBytes (s.capAddr n (s.rd F.PORT_CAP_STAT_WPTR n))
      x).capTotal n = s.capTotal n := by simp [State.capTotal, State.capSegs, State.modPort]
  have hadvance : ∀ t : State, t.rd F.PORT_CAP_STAT_WPTR n + 1 < t.capTotal n →
      t.capAdvance n = t.wr F.PORT_CAP_STAT_WPTR n (t.rd F.PORT_CAP_STAT_WPTR n + 1) := fun t h => if_neg (by omega)
  have hwptr : ((s.modPort n fun p => { p with capQueue := q }).wrBytes (s.capAddr n (s.rd F.PORT_CAP_STAT_WPTR n))
      x).rd F.PORT_CAP_STAT_WPTR n = s.rd F.PORT_CAP_STAT_WPTR n := by simp [State.modPort]
  rw [State.capWrite, hx]
  simp only [hbad, Bool.false_eq_true, if_false]
  rw [hadvance _ (by rw [hwptr, htotal]; exact hw), hwptr, State.capStored]

/-- A capture has at most eight segments. -/
theorem State.capTotal_le : s.capTotal n ≤ 7280 := by
  simp only [State.capTotal, State.capSegs, clampNat]
  omega

theorem State.wrBytes_only (a : Nat) (l : List Nat) : Only (runParts a l.length) s (s.wrBytes a l) := fun _ hp =>
  Part.same_wrBytes s a l fun _ hk he => hp (he ▸ List.mem_map_of_mem (List.mem_range.2 hk))

theorem State.capStored_only (x : List Nat) (q : List (List Nat)) :
    Only (.fld F.PORT_CAP_STAT_WPTR n :: .port n :: runParts (s.capAddr n (s.rd F.PORT_CAP_STAT_WPTR n)) x.length) s
      (s.capStored n x q) :=
  (((s.setPort_only n _).append (State.wrBytes_only _ _ x)).append (State.wr_only _ _ n _)).mono (by
    simp +contextual [or_imp])

theorem State.capStored_port (x : List Nat) (q : List (List Nat)) :
    (s.capStored n x q).port n = { s.port n with capQueue := q } :=
  (((State.wrBytes_only _ _ x).append (State.wr_only _ _ n _)).port (by simp [runParts])).trans (s.port_setPort n _)

/-- The record is read where it was written, byte for byte. -/
theorem State.capStored_rdBytes {x : List Nat} (q : List (List Nat)) (hx : ∀ b ∈ x, b < 256) :
    (s.capStored n x q).rdBytes (s.capAddr n (s.rd F.PORT_CAP_STAT_WPTR n)) x.length = x := by
  rw [State.capStored, State.rdBytes_congr (State.wr_mem ..), State.rdBytes_wrBytes]
  exact (List.map_congr_left fun b hb => Nat.mod_eq_of_lt (hx b hb)).trans (List.map_id x)

end

theorem captureRecord_written (s : State) (n : Nat) (x : List Nat) (q : List (List Nat)) (a : Nat) (hq : Quiet s)
    (hn : n < 16) (hx : (s.port n).capQueue = x :: q ∧ x.length = 288 ∧ ∀ b ∈ x, b < 256)
    (ha : s.capBad n = false ∧ a = s.capAddr n (s.rd F.PORT_CAP_STAT_WPTR n))
    (hw : s.rd F.PORT_CAP_STAT_WPTR n + 1 < s.capTotal n) :
    Gives (.captureRecordWrite n) s [(F.PORT_CAP_STAT_WPTR, n, s.rd F.PORT_CAP_STAT_WPTR n + 1)] (.port n :: (List.range
      288).map fun k => .byte (a + k)) [] fun t => t.rdBytes a 288 = x ∧ t.port n = { s.port n with capQueue := q } := by
  obtain ⟨hqueue, hlen, hbytes⟩ := hx
  obtain ⟨hbad, rfl⟩ := ha
  have honly := s.begun.capStored_only n x q
  have hfit := s.capTotal_le n
  rw [hlen] at honly
  refine Gives.of_result (exec_captureRecordWrite s n) (decide_eq_true hn) (s.begun.capWrite_stores n hqueue hbad hw)
    ?_ ?_ ⟨?_, ?_⟩ ?_ honly.of_begun
  · simpa [State.capStored, State.modPort] using hq
  · simp [State.capStored, State.modPort]
  · rw [← hlen]
    exact s.begun.capStored_rdBytes n q hbytes
  · exact s.begun.capStored_port n x q
  · refine .cons ((State.rd_wr_self ..).trans (Nat.mod_eq_of_lt ?_)) (.nil _)
    rw [F.PORT_CAP_STAT_WPTR_width]
    simp only [State.begun_rd]
    omega

/-! The window (R150) -/

theorem State.capWindow_open (s : State) (req addr val : Nat) (h : s.capBusy = false) :
    s.capWindow req addr val = s.wrWord32 addr val := by simp [State.capWindow, h]

theorem State.capWindow_shut (s : State) (req addr val : Nat) (h : s.capBusy = true) :
    s.capWindow req addr val = s.refuse F.GLB_WERR_PORT req addr := if_pos h

theorem wf_captureWindowWrite {r : Requester} {addr val : Nat}
    (h : 0x500000 ≤ addr ∧ addr < 0x700000 ∧ addr % 4 = 0 ∧ val < 2 ^ 32) : Wf.captureWindowWrite r addr val = true := by
  obtain ⟨hlo, hhi, hword, hval⟩ := h
  simp only [Wf.captureWindowWrite, hlo, hhi, hword, hval, and_self, decide_true, Bool.and_self]

/-- Settles O24: by the state of the capture, each command makes the writes that a lemma above names. -/
theorem capturesRunAndStop : Obligations.CapturesRunAndStop := by
  unfold Obligations.CapturesRunAndStop
  refine ⟨fun s r n hr hn h => ?arms, fun s r n hr hn h => ?armIgnored, fun s r n hr hn h => ?forces,
    fun s r n hr hn h => ?forceIgnored, fun s r n hr hn => ?stops, captureRecord_written, fun s n hq hn h => ?noRecord,
    fun s n hq hn => ?completes, fun s r addr val hr hw h => ?stores, fun s r addr val hr hw ⟨hb, he⟩ => ?refuses⟩
  case arms =>
    have honly := s.begun.capRestarted_only n
    refine Gives.of_core (exec_portCapCtlArm s r n) (decide_eq_true hn) hr (s.begun.capArm_starts n h) ?_ rfl ?_
      (s.begun.capRestarted_holds n) ?_
    · exact (honly.raised (by simp [partsOf])).trans hr.1
    · have hport := honly.port (n := n) (by simp [partsOf])
      simp [State.modPort, hport]
    · exact ((honly.append (State.setPort_only _ n _)).of_begun.mono (by simp [partsOf, Vals.parts]))
  case armIgnored =>
    exact Gives.of_core (exec_portCapCtlArm s r n) (decide_eq_true hn) hr (s.begun.capArm_runs n h) hr.1 rfl trivial (.nil _)
      fun p _ => p.same_begun s
  case forces =>
    refine Gives.of_core (exec_portCapCtlForce s r n) (decide_eq_true hn) hr (s.begun.capTrigger_armed n h) hr.1 rfl ?_ ?_
      fun p hp => ?_
    · simp [State.modPort]
    · simp (disch := decide) [Holds, State.modPort, State.rd_wr_fld]
    · simp_all [Vals.parts, State.modPort]
  case forceIgnored =>
    exact Gives.of_core (exec_portCapCtlForce s r n) (decide_eq_true hn) hr (s.begun.capTrigger_unarmed n h) hr.1 rfl trivial
      (.nil _) fun p _ => p.same_begun s
  case stops =>
    by_cases h : s.capState n = 1 ∨ s.capState n = 2
    · refine Gives.of_core (exec_portCapCtlStop s r n) (decide_eq_true hn) hr (s.begun.capStop_runs n h) hr.1 rfl trivial ?_
        (s.begun.wr_only _ n 3).of_begun
      simp [Holds, h]
    · refine Gives.of_core (exec_portCapCtlStop s r n) (decide_eq_true hn) hr (s.begun.capStop_stands n h) hr.1 rfl trivial ?_
        fun p _ => p.same_begun s
      rw [if_neg h]
      exact .cons rfl (.nil _)
  case noRecord =>
    exact Gives.of_nothing (exec_captureRecordWrite s n) (decide_eq_true hn) hq (s.begun.capWrite_empty n h)
  case completes =>
    by_cases h : capComplete s n
    · refine Gives.of_result (exec_captureDone s n) (decide_eq_true hn) (s.begun.capDone_complete n h) hq rfl trivial ?_
        (s.begun.wr_only _ n 3).of_begun
      rw [if_pos h]
      exact .cons (State.rd_wr_self ..) (.nil _)
    · refine Gives.of_result (exec_captureDone s n) (decide_eq_true hn) (s.begun.capDone_incomplete n h) hq rfl trivial ?_
        fun p _ => p.same_begun s
      rw [if_neg h]
      exact .cons rfl (.nil _)
  case stores =>
    have ⟨_, _, _, hval⟩ := hw
    refine Gives.of_core (exec_captureWindowWrite s r addr val) (wf_captureWindowWrite hw) hr
      (s.begun.capWindow_open (reqCode r) addr val h) ?_ ?_ ?_ (.nil _) (s.begun.wrWord32_only addr val).of_begun
    · simpa using hr.1
    · simp
    · exact State.rdWord32_wrWord32 _ addr val hval
  case refuses =>
    have hk : s.begun.capWindow (reqCode r) addr val = (s.begun.setF F.GLB_WERR_PORT 0).putRefused true :=
      (s.begun.capWindow_shut (reqCode r) addr val hb).trans (s.begun.refuse_again _ _ _ he)
    refine Gives.of_core (exec_captureWindowWrite s r addr val) (wf_captureWindowWrite hw) hr hk hr.1 rfl rfl ?_ fun p hp => ?_
    · simp [Holds, State.setF]
    · simp_all [Vals.parts, State.setF]

end Sys2Proof.Machine
end

section
/-! O23: data streams, lock, and the Hold store's departures (R124, R125, R143, R209). -/
namespace Sys2Proof.Machine

/-! Losses of lock (R124, R125) -/

theorem F.lockLoss_ne_lock (d e : Nat) : (F.lockLoss d).id ≠ (F.lock e).id := by
  unfold F.lockLoss F.lock
  split <;> split <;> decide

theorem F.lockLoss_w (d : Nat) : (F.lockLoss d).w = 16 := by
  unfold F.lockLoss
  split <;> rfl

/-- A field that is neither a lock nor a count of its losses. -/
theorem lock_ids_differ {g : Fld} (d : Nat) (h : ∀ e < 2, (F.lock e).id ≠ g.id ∧ (F.lockLoss e).id ≠ g.id) :
    (F.lock d).id ≠ g.id ∧ (F.lockLoss d).id ≠ g.id := by
  by_cases hd : d = 0
  · exact hd ▸ h 0 (by decide)
  · have h1 := h 1 (by decide)
    simpa [F.lock, F.lockLoss, hd] using h1

section
variable (s : State) (n d : Nat)

/-- The flits of a direction are counted anew, and any sequence number may follow (R124, R128). -/
def FlitSt.restarted (e : FlitSt) : FlitSt := { e with goodRun := 0, provFlits := 0, failRun := 0, expected := none }

/-- A lost lock: 0, counted, reported, and the runs of flits begun anew. -/
def State.lockLost : State :=
  (((s.clr (F.lock d) n).inc (F.lockLoss d) n).raise 49 n d).modFl (flKey n d) FlitSt.restarted

theorem State.lockLost_only :
    Only [.fld (F.lock d) n, .fld (F.lockLoss d) n, .raised, .flit (flKey n d)] s (s.lockLost n d) := fun p hp => by
  simp_all [State.lockLost, State.clr, State.inc, State.incBy, State.modFl]

theorem State.lockLost_holds : Holds [(F.lock d, n, 0), (F.lockLoss d, n, min (s.rd (F.lockLoss d) n + 1) 0xFFFF)]
    (s.lockLost n d) := by
  have hread : ∀ f, (s.lockLost n d).rd f n = ((s.clr (F.lock d) n).inc (F.lockLoss d) n).rd f n := fun _ => rfl
  refine .cons ?_ (.cons ?_ (.nil _)) <;> rw [hread]
  · rw [State.inc, State.incBy, State.rd_wr_fld _ _ (F.lockLoss_ne_lock d d), State.clr, State.rd_wr_self]
    exact Nat.zero_mod _
  · rw [State.inc, State.rd_incBy_sat, State.clr, State.rd_wr_fld _ _ (F.lockLoss_ne_lock d d).symm, F.lockLoss_w]
    rfl

theorem State.lockLost_fl : (s.lockLost n d).fl (flKey n d) = (s.fl (flKey n d)).restarted := by
  simp [State.lockLost, State.modFl, State.clr, State.inc, State.incBy]

theorem State.loseLock_noCapture (h : s.rd F.PORT_CAP_CFG_TRIG n ≠ 4) : s.loseLock n d = s.lockLost n d := by
  obtain ⟨hlock, hloss⟩ := lock_ids_differ (g := F.PORT_CAP_CFG_TRIG) d (by decide)
  refine if_neg fun hc => h ?_
  exact ((s.lockLost_only n d).rd (by simp [hlock.symm, hloss.symm])).symm.trans hc.1

end

/-- A command that loses a lock whose loss triggers no capture. -/
theorem Reports.of_loseLock {c : Instr} {s : State} {n d : Nat} {ok : Bool} {k : State → State} {P : State → Prop}
    (he : exec c s = effect ok s k) (hw : ok = true) (hk : k s.begun = s.begun.loseLock n d) (hq : Quiet s)
    (ht : s.rd F.PORT_CAP_CFG_TRIG n ≠ 4) (hp : P (s.begun.lockLost n d)) :
    Reports c s [(F.lock d, n, 0), (F.lockLoss d, n, min (s.rd (F.lockLoss d) n + 1) 0xFFFF)] [.flit (flKey n d)]
      [⟨49, n, d, false⟩] [] P := by
  rw [State.loseLock_noCapture s.begun n d ht] at hk
  refine Reports.of_effect he hw ?_ ?_ ?_ ?_ ?_ <;> rw [hk]
  · exact s.begun.lockLost_holds n d
  · exact (s.begun.lockLost_only n d).of_begun
  · exact congrArg (· ++ [_]) hq
  · rfl
  · exact hp

theorem wf_portDir {n d : Nat} (h : n < 16 ∧ d < 2) : (decide (n < 16) && decide (d < 2)) = true := by simp [h]

/-! The start of a data stream (R24, R57, R124) -/

section
variable (s : State) (n : Nat)

theorem State.port_modPort (f : PortSt → PortSt) : (s.modPort n f).port n = f (s.port n) := s.port_setPort n _

theorem State.stopRows_within : Within [.port n, .fld F.CMP_PORT_STAT_ROWLOCK n] s (s.stopRows n) :=
  ((s.wr_within F.CMP_PORT_STAT_ROWLOCK n 0).mono (by simp)).trans ((State.modPort_within _ n _).mono (by simp))

theorem State.stopRows_rowlock : (s.stopRows n).rd F.CMP_PORT_STAT_ROWLOCK n = 0 :=
  s.rd_wr_self F.CMP_PORT_STAT_ROWLOCK n 0

theorem State.showRows_within : Within (partsOf [F.CMP_PORT_ROW_ROW_IN, F.CMP_PORT_ROW_ROW_OUT] n) s (s.showRows n) :=
  ((s.wr_within _ n _).mono (by simp [partsOf])).trans ((State.wr_within _ _ n _).mono (by simp [partsOf]))

/-- The mode of a direction at a data stream start: a change that may act takes effect (R24). -/
def State.startMode (d : Nat) : State :=
  if passPatch (s.rd (F.emode d) n) ((s.port n).want d) || (s.port n).armed d then s.applyMode n d else s

theorem State.startMode_within (d : Nat) : Within [.fld (F.emode d) n] s (s.startMode n d) :=
  .ite (s.wr_within _ n _) (.refl _ s)

theorem State.modesAtStart_eq : s.modesAtStart n =
    (((s.startMode n 0).startMode n 1).modPort n fun p => { p with armedOI := false, armedIO := false }).updPend n := rfl

theorem State.modesAtStart_within :
    Within (.port n :: partsOf [F.emode 0, F.emode 1, F.PORT_STAT_CMODE_PEND] n) s (s.modesAtStart n) := by
  rw [State.modesAtStart_eq]
  refine ((((s.startMode_within n 0).mono ?_).trans ((State.startMode_within _ n 1).mono ?_)).trans
    ((State.modPort_within _ n _).mono ?_)).trans ((State.wr_within _ F.PORT_STAT_CMODE_PEND n _).mono ?_) <;> simp [partsOf]

theorem State.modesAtStart_port :
    (s.modesAtStart n).port n = { s.port n with armedOI := false, armedIO := false } := by
  have h0 := (s.startMode_within n 0).only.port (n := n) (by simp)
  have h1 := ((s.startMode n 0).startMode_within n 1).only.port (n := n) (by simp)
  rw [State.modesAtStart_eq]
  simp [State.updPend, State.wrB, State.modPort, h0, h1]

/-- Retargeting the modes changes of the port only what waits and may act (R24). -/
theorem State.retarget_keeps {α : Type} (g : PortSt → α) (hg : ∀ p d v a, g (PortSt.setWant p d v a) = g p) (written : Bool) :
    g ((s.retarget n written).port n) = g (s.port n) := by
  have hdir : ∀ (t : State) d, g ((t.retargetDir n d written).port n) = g (t.port n) := fun t d => by
    unfold State.retargetDir
    dsimp only
    split
    · rfl
    · simp [State.modPort, hg]
  exact (hdir _ 1).trans (hdir s 0)

/-- The lock with which a direction starts (R57, R124): provisional where the device knows the flit format and the skew is
within the tolerance of the width. -/
abbrev startLock (s : State) (n skew : Nat) : Nat :=
  if ((s.port n).fmt = 1 ∨ (s.port n).fmt = 2) ∧ skew ≤ 800 * (s.width n - 1) then 1 else 0

/-- Both directions start their locks and count their flits anew. -/
def State.locksStarted (skO skI : Nat) : State :=
  (((s.wr (F.lock 0) n (startLock s n skO)).wr (F.lock 1) n (startLock s n skI)).modFl (flKey n 0) FlitSt.restarted).modFl
    (flKey n 1) FlitSt.restarted

/-- The stream runs with the modes that may act. -/
def State.streamRuns : State :=
  (((s.retarget n false).modPort n fun p => { p with stream := true }).modesAtStart n).showRows n

theorem State.modFl_within (k : Nat) (f : FlitSt → FlitSt) : Within [.flit k] s (s.modFl k f) :=
  ⟨fun _ hp => Part.same_setFl s k _ (by simpa using hp), rfl⟩

theorem State.locksStarted_within (skO skI : Nat) :
    Within ([.flit (flKey n 0), .flit (flKey n 1)] ++ partsOf [F.lock 0, F.lock 1] n) s (s.locksStarted n skO skI) := by
  refine ((((s.wr_within _ n _).mono ?_).trans ((State.wr_within _ _ n _).mono ?_)).trans
    ((State.modFl_within _ (flKey n 0) _).mono ?_)).trans ((State.modFl_within _ (flKey n 1) _).mono ?_) <;> simp [partsOf]

theorem startLock_fits (sk : Nat) : startLock s n sk % 4 = startLock s n sk := by
  unfold startLock
  split <;> rfl

theorem State.locksStarted_holds (skO skI : Nat) :
    Holds [(F.lock 0, n, startLock s n skO), (F.lock 1, n, startLock s n skI)] (s.locksStarted n skO skI) :=
  .cons (((State.rd_wr_fld _ _ (by decide)).trans (State.rd_wr_self ..)).trans (startLock_fits s n skO))
    (.cons ((State.rd_wr_self ..).trans (startLock_fits s n skI)) (.nil _))

theorem State.locksStarted_fl (skO skI : Nat) : (s.locksStarted n skO skI).fl (flKey n 0) = (s.fl (flKey n 0)).restarted ∧
    (s.locksStarted n skO skI).fl (flKey n 1) = (s.fl (flKey n 1)).restarted := by
  have hne : flKey n 1 ≠ flKey n 0 := by simp [flKey]
  simp [State.locksStarted, State.modFl, State.fl_setFl_ne _ _ hne, State.fl_setFl_ne _ _ hne.symm]

/-- The port with its rows stopped (R156, R165). -/
def PortSt.rowless (p : PortSt) : PortSt :=
  { p with rows := false, outPos := 0, inPos := 0, slotsOut := 0, slotsIn := 0, badRun := 0, errNum := 0, rqn := 0 }

theorem State.stopRows_port : (s.stopRows n).port n = (s.port n).rowless := s.port_setPort n _

theorem State.streamRuns_within : Within (.port n :: partsOf (F.emode 0 :: F.emode 1 :: F.CMP_PORT_ROW_ROW_IN ::
    F.CMP_PORT_ROW_ROW_OUT :: modeFields) n) s (s.streamRuns n) := by
  refine ((((s.retarget_within n false).mono ?_).trans ((State.modPort_within _ n _).mono ?_)).trans
    ((State.modesAtStart_within _ n).mono ?_)).trans ((State.showRows_within _ n).mono ?_) <;>
    simp +contextual [partsOf, modeFields, or_imp]

theorem State.streamRuns_port : ((s.streamRuns n).port n).stream = true ∧
    ((s.streamRuns n).port n).rows = (s.port n).rows := by
  have hrows := s.retarget_keeps n PortSt.rows (fun p d v a => by unfold PortSt.setWant; split <;> rfl) false
  have hshow : ∀ t : State, (t.showRows n).port n = t.port n := fun _ => rfl
  rw [State.streamRuns, hshow, State.modesAtStart_port]
  exact ⟨by simp [State.modPort], by simpa [State.modPort] using hrows⟩

theorem State.streamStart_noRows (skO skI : Nat) (h : s.ltssm n = 8 ∧ (s.port n).stream = false ∧ s.rowsStart n = false) :
    s.streamStart n skO skI = ((s.locksStarted n skO skI).stopRows n).streamRuns n := by
  obtain ⟨hl, hs, hr⟩ := h
  have hlock : ∀ sk, (if s.skewFits n sk then if (s.port n).fmt = 1 ∨ (s.port n).fmt = 2 then 1 else 0 else 0) =
      startLock s n sk := fun sk => by
    simp only [State.skewFits, decide_eq_true_eq, startLock, ite_and]
    split <;> split <;> rfl
  have hrows : ((s.locksStarted n skO skI).stopRows n).rowsStart n = false := by
    have hstart := (s.locksStarted_within n skO skI).only
    have hseg : ((s.locksStarted n skO skI).stopRows n).rd F.CMP_PORT_STAT_SEG n = s.rd F.CMP_PORT_STAT_SEG n :=
      ((State.stopRows_within _ n).only.rd (by simp (disch := decide) [Fld.ids_differ])).trans
        (hstart.rd (by simp (disch := decide) [Fld.ids_differ, partsOf]))
    have hport : ((s.locksStarted n skO skI).stopRows n).port n = (s.port n).rowless :=
      (State.stopRows_port _ n).trans (congrArg PortSt.rowless (hstart.port (by simp [partsOf])))
    simp only [State.rowsStart, hseg, hport]
    exact hr
  rw [State.streamStart, if_neg (by simp [hl, hs])]
  simp only [hlock]
  change (((if ((s.locksStarted n skO skI).stopRows n).rowsStart n = true then _ else
    (s.locksStarted n skO skI).stopRows n).retarget n false).modPort n _ |>.modesAtStart n).showRows n = _
  rw [hrows]
  rfl

theorem State.streamStart_elsewhere (skO skI : Nat) (h : s.ltssm n ≠ 8 ∨ (s.port n).stream = true) :
    s.streamStart n skO skI = s := if_pos h

end

theorem wf_dataStreamStart {n skO skI : Nat} (h : n < 16 ∧ skO < 2 ^ 32 ∧ skI < 2 ^ 32) :
    Wf.dataStreamStart n skO skI = true := by
  simp only [Wf.dataStreamStart, h, decide_true, Bool.and_self]

theorem dataStream_started (s : State) (n skO skI : Nat) (hq : Quiet s) (hw : n < 16 ∧ skO < 2 ^ 32 ∧ skI < 2 ^ 32)
    (h : s.ltssm n = 8 ∧ (s.port n).stream = false ∧ s.rowsStart n = false) :
    Gives (.dataStreamStart n skO skI) s [(F.lock 0, n, startLock s n skO), (F.lock 1, n, startLock s n skI),
      (F.CMP_PORT_STAT_ROWLOCK, n, 0)] (.port n :: .flit (flKey n 0) :: .flit (flKey n 1) :: partsOf (F.emode 0 ::
      F.emode 1 :: F.CMP_PORT_ROW_ROW_IN :: F.CMP_PORT_ROW_ROW_OUT :: modeFields) n) [] fun t =>
      (t.port n).stream = true ∧ (t.port n).rows = false ∧ (t.fl (flKey n 0)).failRun = 0 ∧ (t.fl (flKey n 1)).expected
      = none := by
  have hlocks := s.begun.locksStarted_within n skO skI
  have hvals := s.begun.locksStarted_holds n skO skI
  obtain ⟨hfl0, hfl1⟩ := s.begun.locksStarted_fl n skO skI
  have hk := s.begun.streamStart_noRows n skO skI h
  generalize s.begun.locksStarted n skO skI = a at hlocks hvals hfl0 hfl1 hk
  have hstop := a.stopRows_within n
  have hvals' := (hstop.only.holds hvals (by simp (disch := decide) [Fld.ids_differ])).append
    (.cons (a.stopRows_rowlock n) (.nil _))
  have hruns := (a.stopRows n).streamRuns_within n
  obtain ⟨hstream, hrows⟩ := (a.stopRows n).streamRuns_port n
  rw [a.stopRows_port n] at hrows
  have hfl : ∀ k, ((a.stopRows n).streamRuns n).fl k = a.fl k := fun k =>
    (hruns.only.fl (by simp [partsOf])).trans (hstop.only.fl (by simp))
  refine Gives.of_result (exec_dataStreamStart s n skO skI) (wf_dataStreamStart hw) hk ?_ ?_ ⟨hstream, hrows, ?_, ?_⟩
    (hruns.only.holds hvals' ?_) (((hlocks.only.append hstop.only).append hruns.only).of_begun.mono ?_)
  · exact (hruns.only.raised (by simp [partsOf])).trans ((hstop.only.raised (by simp)).trans
      ((hlocks.only.raised (by simp [partsOf])).trans hq))
  · exact hruns.out.trans (hstop.out.trans hlocks.out)
  · rw [hfl, hfl0]
    rfl
  · rw [hfl, hfl1]
    rfl
  · simp (disch := decide) [Fld.ids_differ, partsOf, modeFields]
  · simp +contextual [partsOf, Vals.parts, or_imp]

section
variable (s : State) (n : Nat)

/-! The end of a data stream (R125, R137, R211) -/

theorem State.streamEnd_stopped (h : (s.port n).stream = false) : s.streamEnd n = s := by simp [State.streamEnd, h]

theorem State.abortErrata_within : Within [.port n, .fld F.PORT_ERRATA_CNT_ABORT n] s (s.abortErrata n) :=
  ((s.wr_within F.PORT_ERRATA_CNT_ABORT n _).mono (by simp)).trans ((State.modPort_within _ n _).mono (by simp))

theorem State.abortReplay_within : Within [.port n, .fld F.CMP_RPL_CNT2_ABORT n] s (s.abortReplay n) :=
  ((s.wr_within F.CMP_RPL_CNT2_ABORT n _).mono (by simp)).trans ((State.modPort_within _ n _).mono (by simp))

theorem State.endHoldReqs_within : Within [.port n, .fld F.CMP_HOLD_CNT2_FAIL n] s (s.endHoldReqs n) :=
  ((s.wr_within F.CMP_HOLD_CNT2_FAIL n _).mono (by simp)).trans ((State.modPort_within _ n _).mono (by simp))

/-- Lock ends, and errata, replay and Hold requests are settled. -/
def State.workSettled : State :=
  (((s.clrAll [F.lock 0, F.lock 1] n).abortErrata n).abortReplay n).endHoldReqs n

theorem State.workSettled_within : Within (.port n :: partsOf [F.lock 0, F.lock 1, F.PORT_ERRATA_CNT_ABORT,
    F.CMP_RPL_CNT2_ABORT, F.CMP_HOLD_CNT2_FAIL] n) s (s.workSettled n) := by
  refine ((((s.clrAll_within _ n).mono ?_).trans ((State.abortErrata_within _ n).mono ?_)).trans
    ((State.abortReplay_within _ n).mono ?_)).trans ((State.endHoldReqs_within _ n).mono ?_) <;>
    simp +contextual [partsOf, or_imp]

theorem State.workSettled_locks : Holds [(F.lock 0, n, 0), (F.lock 1, n, 0)] (s.workSettled n) := by
  simp (disch := decide) [Holds, State.workSettled, State.endHoldReqs, State.abortReplay, State.abortErrata, State.modPort,
    State.incBy, State.clrAll, State.clr, State.rd_wr_fld]

theorem State.workSettled_store : ((s.workSettled n).port n).store = [] := by
  have hreqs : ∀ a : State, ((a.endHoldReqs n).port n).store = (a.port n).store := fun a => by
    rw [State.endHoldReqs, State.port_modPort]
    rfl
  rw [State.workSettled, hreqs, State.abortReplay, State.port_modPort]

/-- A data stream with nothing held ends. -/
def State.streamEnds : State := ((s.workSettled n).stopRows n).modPort n fun p => { p with stream := false }

theorem State.streamEnds_within : Within (.port n :: partsOf [F.lock 0, F.lock 1, F.CMP_PORT_STAT_ROWLOCK,
    F.PORT_ERRATA_CNT_ABORT, F.CMP_RPL_CNT2_ABORT, F.CMP_HOLD_CNT2_FAIL] n) s (s.streamEnds n) := by
  unfold State.streamEnds
  refine (((s.workSettled_within n).mono ?_).trans ((State.stopRows_within _ n).mono ?_)).trans
    ((State.modPort_within _ n _).mono ?_) <;> simp +contextual [partsOf, or_imp]

theorem State.streamEnds_holds : Holds [(F.lock 0, n, 0), (F.lock 1, n, 0), (F.CMP_PORT_STAT_ROWLOCK, n, 0)]
    (s.streamEnds n) := by
  have hlocks := (State.stopRows_within _ n).only.holds (s.workSettled_locks n)
    (by simp (disch := decide) [Fld.ids_differ])
  exact (State.modPort_within _ n _).only.holds (hlocks.append (.cons (State.stopRows_rowlock _ n) (.nil _))) (by simp)

theorem State.streamEnds_port : ((s.streamEnds n).port n).stream = false ∧ ((s.streamEnds n).port n).rows = false ∧
    ((s.streamEnds n).port n).store = [] := by
  have hstore := s.workSettled_store n
  rw [State.streamEnds, State.port_modPort, State.stopRows_port]
  generalize (s.workSettled n).port n = p at hstore ⊢
  exact ⟨rfl, rfl, hstore⟩

theorem State.streamEnd_noneHeld (h : (s.port n).stream = true ∧ (s.port n).held = [])
    (ha : s.rd F.HEAT_EXP_STAT_ACTIVE n ≠ 1) : s.streamEnd n = s.streamEnds n := by
  obtain ⟨hs, hh⟩ := h
  have hactive : ((s.workSettled n).stopRows n).rd F.HEAT_EXP_STAT_ACTIVE n = s.rd F.HEAT_EXP_STAT_ACTIVE n :=
    ((State.stopRows_within _ n).only.rd (by simp (disch := decide) [Fld.ids_differ])).trans
      ((s.workSettled_within n).only.rd (fld_notMem_portParts (by decide)))
  have hpause : ((s.workSettled n).stopRows n).pauseExport n = (s.workSettled n).stopRows n := by
    simp [State.pauseExport, State.flag, hactive, ha]
  rw [State.streamEnds, ← hpause]
  simp [State.streamEnd, hs, hh, State.departAll, State.workSettled]

end

/-! Departures from the Hold store (R126, R209, R210) -/

section
variable (s : State) (n : Nat)

theorem State.departHeld_empty (replace : Bool) (h : (s.port n).held = []) : s.departHeld n replace = s := by
  simp [State.departHeld, h]

theorem State.holdLeft_within (row index : Nat) :
    Within [.port n, .fld F.CMP_HOLD_CNT2_FAIL n] s (s.holdLeft n row index) := by
  unfold State.holdLeft
  refine ((s.wr_within F.CMP_HOLD_CNT2_FAIL n _).mono ?_).trans ((State.modPort_within _ n _).mono ?_) <;> simp

theorem State.holdLeft_held (row index : Nat) : ((s.holdLeft n row index).port n).held = (s.port n).held := by
  rw [State.holdLeft, State.port_modPort]
  rfl

/-- What leaves the locks, the runs of flits and LOSS_N alone leaves a direction with the lock it had. -/
theorem Only.locked {ps : List Part} {s t : State} (h : Only ps s t) (d : Nat) (hl : Part.fld (F.lock d) n ∉ ps)
    (hn : Part.fld F.PORT_FLIT_CFG_LOSS_N n ∉ ps) (hf : Part.flit (flKey n d) ∉ ps) : t.locked n d = s.locked n d := by
  unfold State.locked State.provOver State.lossDue State.lossN
  rw [h.rd hl, h.rd hn, h.fl hf]

/-- The oldest held flit is taken from the store. -/
def State.heldTaken (h : HeldFlit) (t : List HeldFlit) : State :=
  (s.modPort n fun p => { p with held := t }).holdLeft n h.row h.index

theorem State.heldTaken_within (h : HeldFlit) (t : List HeldFlit) :
    Within [.port n, .fld F.CMP_HOLD_CNT2_FAIL n] s (s.heldTaken n h t) := by
  refine ((s.modPort_within n _).mono ?_).trans (State.holdLeft_within _ n _ _)
  simp

theorem State.heldTaken_held (h : HeldFlit) (t : List HeldFlit) : ((s.heldTaken n h t).port n).held = t := by
  rw [State.heldTaken, State.holdLeft_held, State.port_modPort]

/-- Without lock the oldest held flit leaves as it was received (R126). -/
theorem State.departHeld_unlocked (replace : Bool) {h : HeldFlit} {t : List HeldFlit} (hh : (s.port n).held = h :: t)
    (hl : s.locked n 1 = false) : s.departHeld n replace = (s.heldTaken n h t).emit (.flit n 1 h.flit.bytes) := by
  have hlock : (s.heldTaken n h t).locked n 1 = false :=
    ((s.heldTaken_within n h t).only.locked n 1 (by simp (disch := decide) [Fld.ids_differ])
      (by simp (disch := decide) [Fld.ids_differ]) (by simp)).trans hl
  rw [State.departHeld, hh]
  change (match h.body, replace && (h.locked && (s.heldTaken n h t).locked n 1) with
    | some (b, info), true => _
    | _, _ => (State.emit (if h.locked && (s.heldTaken n h t).locked n 1 then _ else s.heldTaken n h t) _)) = _
  rw [hlock]
  simp

end

theorem holdDeparture_unlocked (s : State) (n : Nat) (h : HeldFlit) (hq : Quiet s) (hn : n < 16)
    (hh : (s.port n).held = [h]) (hl : s.locked n 1 = false) :
    Gives (.holdDeparture n) s [] [.port n, .fld F.CMP_HOLD_CNT2_FAIL n] [.flit n 1 h.flit.bytes] fun t => (t.port
      n).held = [] := by
  have htaken := s.begun.heldTaken_within n h []
  refine Gives.of_result (exec_holdDeparture s n) (decide_eq_true hn) (s.begun.departHeld_unlocked n true hh hl) ?_ ?_ ?_
    (.nil _) (htaken.only.of_begun.emit _)
  · exact (htaken.only.raised (by simp)).trans hq
  · rw [State.emit_out, htaken.out]
    rfl
  · rw [State.emit_port]
    exact s.begun.heldTaken_held n h []

/-! Clearing the counters (R143) -/

/-- Fields of `all` read 0 at the instances listed, no other part has changed, and nothing more has been driven. -/
structure Clears (all : List Fld) (xs : List (Fld × Nat)) (s t : State) : Prop where
  listed : ∀ x ∈ xs, x.1 ∈ all
  zero : ∀ x ∈ xs, t.rd x.1 x.2 = 0
  only : Only (xs.map fun x => .fld x.1 x.2) s t
  out : t.out = s.out

section
variable {all : List Fld} {xs ys : List (Fld × Nat)} {s t u : State} (hd : IdsDistinct all)
include hd

/-- What was cleared stays 0 through further clears, of the same fields too. -/
theorem Clears.trans (h : Clears all xs s t) (k : Clears all ys t u) : Clears all (xs ++ ys) s u := by
  refine ⟨List.forall_mem_append.2 ⟨h.listed, k.listed⟩, List.forall_mem_append.2 ⟨fun x hx => ?_, k.zero⟩,
    (h.only.append k.only).mono (by simp), k.out.trans h.out⟩
  by_cases hm : Part.fld x.1 x.2 ∈ ys.map fun y => Part.fld y.1 y.2
  · obtain ⟨y, hy, he⟩ := List.mem_map.1 hm
    obtain ⟨hid, hinst⟩ : y.1.id = x.1.id ∧ y.2 = x.2 := by simpa using he
    rw [← hd x.1 (h.listed x hx) y.1 (k.listed y hy) hid, ← hinst]
    exact k.zero y hy
  · exact (k.only.rd hm).trans (h.zero x hx)

theorem State.clrAll_clears (s : State) {fs : List Fld} (hfs : ∀ f ∈ fs, f ∈ all) (i : Nat) :
    Clears all (fs.map fun f => (f, i)) s (s.clrAll fs i) :=
  ⟨List.forall_mem_map.2 hfs,
    List.forall_mem_map.2 fun f hf => s.rd_clrAll fs hf fun g hg k hk => hd g (hfs g hg) k (hfs k hk),
    (s.clrAll_only fs i).mono (by simp [partsOf]), s.clrAll_out fs i⟩

theorem forUp_clears {xs : Nat → List (Fld × Nat)} {f : Nat → State → State} (n : Nat) (s : State)
    (h : ∀ i a, Clears all (xs i) a (f i a)) : Clears all ((List.range n).flatMap xs) s (forUp n f s) := by
  refine forUp_ind (fun i t => Clears all ((List.range i).flatMap xs) s t) n
    ⟨by simp, by simp, fun p _ => p.same_refl s, rfl⟩ fun i a _ ha => ?_
  simpa [List.range_succ] using Clears.trans hd ha (h i a)

end

/-- A command that clears counters in the core domain. -/
theorem Clears.gives {all : List Fld} {xs : List (Fld × Nat)} {c : Instr} {s : State} {r : Requester} {ok : Bool}
    {k : State → State} {vs : Vals} (he : exec c s = effect ok s fun a => a.viaCore r k) (hw : ok = true) (hr : CoreReady s r)
    (h : Clears all xs s.begun (k s.begun)) (hvs : vs.Perm (xs.map fun x => (x.1, x.2, 0))) :
    Gives c s vs [] [.writeAck] anyState := by
  refine Gives.of_core he hw hr rfl ((h.only.raised (by simp)).trans hr.1) h.out trivial (fun v hv => ?_)
    (h.only.of_begun.mono fun p hp => ?_)
  · obtain ⟨x, hx, rfl⟩ := List.mem_map.1 (hvs.mem_iff.1 hv)
    exact h.zero x hx
  · obtain ⟨x, hx, rfl⟩ := List.mem_map.1 hp
    exact List.mem_append_left _ (List.mem_map.2 ⟨_, hvs.mem_iff.2 (List.mem_map_of_mem hx), rfl⟩)

/-- The counters of corrected symbols by lane. -/
def laneSymbolCounters : List Fld := [F.PORT_FEC_LANE_ODD, F.PORT_FEC_LANE_EVEN]

/-- The counters of a port that CNT_CLR clears beside those of its directions and lanes. -/
def portFlitCounters : List Fld := [F.PORT_FLIT_LOCK_CNT_LOSS_IO, F.PORT_FLIT_LOCK_CNT_LOSS_OI, F.PORT_ERRATA_SENT_SENT,
  F.PORT_ERRATA_CNT_DROP, F.PORT_ERRATA_CNT_ABORT, F.PORT_ERRATA_STAT_LAG_MAX]

/-- The counters of the flit engines of a port, with their instances. -/
def flitCountersOf (n : Nat) : List (Fld × Nat) :=
  F.fecCounters.map (fun f => (f, flKey n 0)) ++ F.fecCounters.map (fun f => (f, flKey n 1)) ++
    (List.range 16).flatMap (fun m => laneSymbolCounters.map fun f => (f, 16 * n + m)) ++
    portFlitCounters.map fun f => (f, n)

theorem State.clrFlitCounters_clears (s : State) (n : Nat) :
    Clears (F.fecCounters ++ laneSymbolCounters ++ portFlitCounters) (flitCountersOf n) s (s.clrFlitCounters n) := by
  have hd : IdsDistinct (F.fecCounters ++ laneSymbolCounters ++ portFlitCounters) := by decide
  have hdirs := Clears.trans hd (State.clrAll_clears hd s (fs := F.fecCounters) (by decide) (flKey n 0))
    (State.clrAll_clears hd _ (fs := F.fecCounters) (by decide) (flKey n 1))
  have hlanes := Clears.trans hd hdirs (forUp_clears hd 16 _ fun m a =>
    State.clrAll_clears hd a (fs := laneSymbolCounters) (by decide) (16 * n + m))
  exact Clears.trans hd hlanes (State.clrAll_clears hd _ (fs := portFlitCounters) (by decide) n)

theorem flitCountersOf_perm (n : Nat) : List.Perm
    (F.fecCounters.flatMap (fun f => [(f, flKey n 0, 0), (f, flKey n 1, 0)]) ++ portFlitCounters.map (fun f => (f, n, 0)) ++
      (List.range 16).flatMap fun m => [(F.PORT_FEC_LANE_EVEN, 16 * n + m, 0), (F.PORT_FEC_LANE_ODD, 16 * n + m, 0)])
    ((flitCountersOf n).map fun x => (x.1, x.2, 0)) := by
  have hdirs := (List.flatMap_append_perm F.fecCounters (fun f => [(f, flKey n 0, 0)]) fun f => [(f, flKey n 1, 0)]).symm
  have hlanes : ((List.range 16).flatMap fun m => [(F.PORT_FEC_LANE_EVEN, 16 * n + m, 0), (F.PORT_FEC_LANE_ODD, 16 * n + m,
      0)]).Perm ((List.range 16).flatMap fun m => laneSymbolCounters.map fun f => (f, 16 * n + m, 0)) :=
    List.Perm.flatMap_left _ fun m _ => .swap ..
  have h := hdirs.append (List.perm_append_comm.trans (hlanes.append_right (portFlitCounters.map fun f => (f, n, 0))))
  simpa [flitCountersOf, List.map_flatMap, Function.comp_def, ← List.map_eq_flatMap] using h

/-- Settles O23: by the port's state, its locks and its Hold store, each event makes the writes that a lemma above names. -/
theorem streamsStartEndAndLoseLock : Obligations.StreamsStartEndAndLoseLock := by
  unfold Obligations.StreamsStartEndAndLoseLock
  refine ⟨fun s n skO skI hq hw h => ?starts, fun s n skO skI hq hw h => ?noStart, fun s n hq hn h ha => ?ends,
    fun s n hq hn h => ?noEnd, fun s n d hq hw ⟨hl, hf, ht⟩ => ?expires, fun s n d hq hw h => ?confirmed,
    fun s n d hq hw ⟨hl, hf, ht⟩ => ?loses, fun s n d hq hw h => ?keeps, fun s n d hq hw ⟨hl, ht⟩ => ?misplaced,
    fun s n d hq hw h => ?noLock, fun s n h hq hn ⟨hh, hl, _⟩ => holdDeparture_unlocked s n h hq hn hh hl,
    fun s n hq hn h => ?noneHeld, fun s r n hr hn => ?clears⟩
  case starts => exact dataStream_started s n skO skI hq hw h
  case noStart =>
    exact Gives.of_nothing (exec_dataStreamStart s n skO skI) (wf_dataStreamStart hw) hq (s.begun.streamStart_elsewhere n skO skI h)
  case ends =>
    obtain ⟨hs, hh, _⟩ := h
    have hends := s.begun.streamEnds_within n
    refine Gives.of_result (exec_dataStreamEnd s n) (decide_eq_true hn) (s.begun.streamEnd_noneHeld n ⟨hs, hh⟩ ha) ?_ hends.out
      (s.begun.streamEnds_port n) (s.begun.streamEnds_holds n) (hends.only.of_begun.mono ?_)
    · exact (hends.only.raised (by simp [partsOf])).trans hq
    · simp +contextual [partsOf, Vals.parts, or_imp]
  case noEnd => exact Gives.of_nothing (exec_dataStreamEnd s n) (decide_eq_true hn) hq (s.begun.streamEnd_stopped n h)
  case expires =>
    have hover : s.provOver n d = true := by simp [State.provOver, hl, hf]
    exact Reports.of_loseLock (exec_provisionalLockExpiry s n d) (wf_portDir hw) (if_pos hover) hq ht
      (s.begun.lockLost_fl n d)
  case confirmed =>
    have hnot : ¬s.provOver n d = true := by
      simp only [State.provOver, Bool.and_eq_true, beq_iff_eq, decide_eq_true_eq]
      omega
    exact Gives.of_nothing (exec_provisionalLockExpiry s n d) (wf_portDir hw) hq (if_neg hnot)
  case loses =>
    have hdue : s.lossDue n d = true := by simp [State.lossDue, hl, hf]
    exact Reports.of_loseLock (exec_lockLoss s n d) (wf_portDir hw) (if_pos hdue) hq ht trivial
  case keeps =>
    have hnot : ¬s.lossDue n d = true := by
      simp only [State.lossDue, Bool.and_eq_true, bne_iff_ne, decide_eq_true_eq]
      omega
    exact Gives.of_nothing (exec_lockLoss s n d) (wf_portDir hw) hq (if_neg hnot)
  case misplaced => exact Reports.of_loseLock (exec_orderedSetMisplaced s n d) (wf_portDir hw) (if_neg hl) hq ht trivial
  case noLock => exact Gives.of_nothing (exec_orderedSetMisplaced s n d) (wf_portDir hw) hq (if_pos h)
  case noneHeld =>
    exact Gives.of_nothing (exec_holdDeparture s n) (decide_eq_true hn) hq (s.begun.departHeld_empty n true h)
  case clears =>
    exact (s.begun.clrFlitCounters_clears n).gives (exec_portFlitCtlCntClr s r n) (decide_eq_true hn) hr (flitCountersOf_perm n)

end Sys2Proof.Machine
end

section
/-! O31: surplus slots, and errata past their deadline (R133 to R135, R158, R192 to R200, R207, R209, R214, R309). -/
namespace Sys2Proof.Machine

/-! The row of an outbound slot (R200, R213) -/

theorem forUp_within {f : Nat → State → State} {ps : List Part} (k : Nat) (s : State)
    (h : ∀ i < k, ∀ a, Within ps a (f i a)) : Within ps s (forUp k f s) :=
  forUp_keeps (Within ps s) k (.refl ps s) fun i a hi ha => ha.trans (h i hi a)

theorem Only.refl (ps : List Part) (s : State) : Only ps s s := fun p _ => p.same_refl s

/-- The watermark flags of the queues of a port. -/
abbrev watermarkParts (n : Nat) : List Part :=
  (List.range 5).flatMap fun c => partsOf [F.CMP_Q_STAT_DWM, F.CMP_Q_STAT_TWM] (5 * n + c)

section
variable (s : State) (n young : Nat)

theorem State.qCompare_within : Within (watermarkParts n) s (s.qCompare n) := by
  have hmem : ∀ c < 5, ∀ f ∈ [F.CMP_Q_STAT_DWM, F.CMP_Q_STAT_TWM], Part.fld f (5 * n + c) ∈ watermarkParts n :=
    fun c hc f hf => List.mem_flatMap.2 ⟨c, List.mem_range.2 hc, List.mem_map_of_mem hf⟩
  have hflag : ∀ c < 5, ∀ f ∈ [F.CMP_Q_STAT_DWM, F.CMP_Q_STAT_TWM], ∀ (a : State) (p : Prop) [Decidable p],
      Within (watermarkParts n) a (if p then a.setF f (5 * n + c) else a) := fun c hc f hf a p _ =>
    .ite ((a.wr_within f _ 1).mono (by simpa using hmem c hc f hf)) (.refl _ a)
  exact forUp_within 5 s fun c hc a =>
    (hflag c hc F.CMP_Q_STAT_DWM (by simp) a _).trans (hflag c hc F.CMP_Q_STAT_TWM (by simp) _ _)

/-- What stays pending grows older, and the next row begins. -/
def State.rowTaken : State := (s.ageQueues n young).modPort n fun p => { p with slotsOut := p.slotsOut + 1 }

theorem State.modView_within (v : Nat) (f : ViewSt → ViewSt) : Within [.view v] s (s.modView v f) :=
  ⟨fun _ hp => Part.same_setView s v _ (by simpa using hp), rfl⟩

theorem State.rowTaken_within : Within [.port n, .view (n + 1)] s (s.rowTaken n young) := by
  unfold State.rowTaken State.ageQueues
  refine (((s.modPort_within n _).mono ?_).trans ((State.modView_within _ (n + 1) _).mono ?_)).trans
    ((State.modPort_within _ n _).mono ?_) <;> simp

theorem State.rowTaken_port : ((s.rowTaken n young).port n).slotsOut = (s.port n).slotsOut + 1 ∧
    ((s.rowTaken n young).port n).errNum = (s.port n).errNum ∧
    ((s.rowTaken n young).port n).errata = (s.port n).errata.map fun e => { e with age := e.age + 1 } := by
  have hview : ∀ (t : State) f, (t.modView (n + 1) f).port n = t.port n := fun _ _ => rfl
  rw [State.rowTaken, State.port_modPort, State.ageQueues, hview, State.port_modPort]
  exact ⟨rfl, rfl, rfl⟩

theorem State.slotDecision_due (und uns : Nat) (ecc : Ecc)
    (h : (s.port n).rows = true ∧ (s.port n).outPos + und + uns = 32 * ((s.port n).slotsOut + 1)) :
    s.slotDecision n young und uns ecc = ((s.qCompare n).chooseSlot n young und ecc).rowTaken n young :=
  if_neg (by simp [h])

theorem State.slotDecision_notDue (und uns : Nat) (ecc : Ecc)
    (h : (s.port n).rows = false ∨ (s.port n).outPos + und + uns ≠ 32 * ((s.port n).slotsOut + 1)) :
    s.slotDecision n young und uns ecc = s :=
  if_pos (by simpa using h)

/-! The choice of a slot -/

theorem State.sendLow_fill (h : (s.heat n).chunk = none) : s.sendLow n = s.sendFill n := by simp [State.sendLow, h]

theorem State.sendUpper_fill (ecc : Ecc) (hr : (s.port n).refused = []) (hv : (s.view (n + 1)).q3 = [])
    (hc : (s.heat n).chunk = none) : s.sendUpper n ecc = s.sendFill n := by
  have hclass3 : s.sendClass3 n ecc = s.sendLow n := by simp [State.sendClass3, hr, hv]
  rw [State.sendUpper, hclass3, ite_self, s.sendLow_fill n hc]

/-- With nothing pending the slot is a Fill slot (R199, R200). -/
theorem State.chooseSlot_fill (und : Nat) (ecc : Ecc)
    (h : (s.port n).errata = [] ∧ (s.port n).holdReqs = [] ∧ (s.port n).rplReqs = [] ∧ (s.port n).refused = [])
    (hv : (s.view (n + 1)).q3 = []) (hc : (s.heat n).chunk = none) : s.chooseSlot n young und ecc = s.sendFill n := by
  obtain ⟨he, hh, hp, hr⟩ := h
  simp [State.chooseSlot, he, hh, hp, s.sendUpper_fill n ecc hr hv hc]

/-- The only erratum entry leaves in a slot, is counted, and its slot number is shown (R133, R134, R196). -/
def State.erratumSent (e : ErrEntry) : State :=
  (((s.sendSlot n ([65, 0] ++ leBytes (s.port n).errNum 2) e.bytes true).inc F.PORT_ERRATA_SENT_SENT n).wr
    F.PORT_ERRATA_STAT_ERR_SEQ n (s.port n).errNum).modPort n fun p =>
      { p with errNum := ((s.port n).errNum + 1) % 65536, errata := [] }

theorem State.erratumSent_out (e : ErrEntry) : (s.erratumSent n e).out =
    s.out ++ [.slot n (mkSlot n (s.outRow n) ([65, 0] ++ leBytes (s.port n).errNum 2) e.bytes true)] := rfl

theorem State.erratumSent_port (e : ErrEntry) :
    (s.erratumSent n e).port n = { s.port n with errNum := ((s.port n).errNum + 1) % 65536, errata := [] } :=
  State.port_modPort _ n _

theorem State.erratumSent_holds (e : ErrEntry) (h : (s.port n).errNum < 65536) :
    Holds [(F.PORT_ERRATA_SENT_SENT, n, min (s.rd F.PORT_ERRATA_SENT_SENT n + 1) 0xFFFFFFFF),
      (F.PORT_ERRATA_STAT_ERR_SEQ, n, (s.port n).errNum)] (s.erratumSent n e) :=
  .cons ((State.rd_wr_fld _ _ (by decide)).trans (State.rd_incBy_sat ..))
    (.cons ((State.rd_wr_self ..).trans (Nat.mod_eq_of_lt h)) (.nil _))

theorem State.erratumSent_only (e : ErrEntry) :
    Only [.fld F.PORT_ERRATA_SENT_SENT n, .fld F.PORT_ERRATA_STAT_ERR_SEQ n, .port n] s (s.erratumSent n e) :=
  ((((Only.refl [] s).emit _).append (State.incBy_only _ F.PORT_ERRATA_SENT_SENT n 1)).append
    (State.wr_only _ F.PORT_ERRATA_STAT_ERR_SEQ n _)).append (State.setPort_only _ n _)

theorem State.chooseSlot_erratum (und : Nat) (ecc : Ecc) {e : ErrEntry} (h : (s.port n).errata = [e])
    (hel : e.eligible (s.port n).slotsOut = true) (hi : e.issue ≠ 0) :
    s.chooseSlot n young und ecc = s.erratumSent n e := by
  have hsend : s.sendErrata n = s.erratumSent n e := by
    simp only [State.sendErrata, State.erratumSent, h, List.filter_cons, hel, if_true, List.filter_nil, errOrder,
      List.foldl_cons, List.foldl_nil, insertErr, List.take_succ_cons, List.take_nil, List.length_singleton,
      List.flatMap_cons, List.flatMap_nil, List.append_nil, if_neg hi, State.modPort]
    simp [State.inc, State.incBy, State.sendSlot, h]
  rw [State.chooseSlot, if_pos (by simp [h, hel]), hsend]

end

theorem wf_slotDecision {n und uns : Nat} {ecc : Ecc} (young : Nat) (h : n < 16 ∧ ecc.wf = true ∧ und ≤ 32 ∧ uns ≤ 32) :
    Wf.slotDecision n young ecc und uns = true := by simp [Wf.slotDecision, h]

/-- A decision sends the slot chosen and takes the next row. -/
theorem slotDecision_gives {s m t : State} {n young und uns : Nat} {ecc : Ecc} {vs : Vals} {outs : List Out}
    {P : State → Prop} (hq : Quiet s) (hw : n < 16 ∧ ecc.wf = true ∧ und ≤ 32 ∧ uns ≤ 32)
    (hdue : (s.port n).rows = true ∧ (s.port n).outPos + und + uns = 32 * ((s.port n).slotsOut + 1))
    (hm : s.begun.qCompare n = m) (ht : m.chooseSlot n young und ecc = t) (ho : t.out = outs) (hv : Holds vs t)
    (hf : Only (vs.parts ++ [.port n]) m t) (hp : P (t.rowTaken n young)) :
    Gives (.slotDecision n young ecc und uns) s vs (.port n :: .view (n + 1) :: watermarkParts n) outs P := by
  subst hm
  have hmarks := s.begun.qCompare_within n
  have hrow := t.rowTaken_within n young
  have honly := (hmarks.only.append hf).append hrow.only
  refine Gives.of_result (exec_slotDecision s n young ecc und uns) (wf_slotDecision young hw)
    ((s.begun.slotDecision_due n young und uns ecc hdue).trans (congrArg (State.rowTaken · n young) ht)) ?_
    (hrow.out.trans ho) hp (hrow.only.holds hv (by simp)) (honly.of_begun.mono ?_)
  · exact (honly.raised (by simp [partsOf, Vals.parts])).trans hq
  · simp +contextual [or_imp]

theorem fillSlot_sent (s : State) (n young und uns : Nat) (ecc : Ecc) (hq : Quiet s)
    (hw : n < 16 ∧ ecc.wf = true ∧ und ≤ 32 ∧ uns ≤ 32)
    (h : (s.port n).rows = true ∧ (s.port n).outPos + und + uns = 32 * ((s.port n).slotsOut + 1) ∧ (s.port n).errata = [] ∧
      (s.port n).holdReqs = [] ∧ (s.port n).rplReqs = [] ∧ (s.port n).refused = [])
    (hn : (s.view (n + 1)).q3 = [] ∧ (s.heat n).chunk = none) :
    Gives (.slotDecision n young ecc und uns) s [] (.port n :: .view (n + 1) :: watermarkParts n)
      [.slot n (mkSlot n (s.outRow n) [224, 0, 0, 0] [] false)] fun t =>
      (t.port n).slotsOut = (s.port n).slotsOut + 1 := by
  obtain ⟨hrows, hpos, hnone⟩ := h
  obtain ⟨hview, hchunk⟩ := hn
  have hmarks := s.begun.qCompare_within n
  have hport : (s.begun.qCompare n).port n = s.port n := hmarks.only.port (by simp [partsOf])
  have hv : (s.begun.qCompare n).view (n + 1) = s.view (n + 1) := hmarks.only (.view (n + 1)) (by simp [partsOf])
  have hc : (s.begun.qCompare n).heat n = s.heat n := hmarks.only (.heat n) (by simp [partsOf])
  generalize hm : s.begun.qCompare n = m at hmarks hport hv hc
  rw [← hport] at hnone
  rw [← hv] at hview
  rw [← hc] at hchunk
  refine slotDecision_gives hq hw ⟨hrows, hpos⟩ hm (m.chooseSlot_fill n young und ecc hnone hview hchunk) ?_ (.nil _)
    ((Only.refl _ m).emit _) ?_
  · rw [State.sendFill, State.sendSlot, State.emit_out, hmarks.out, State.outRow, hport]
    rfl
  · refine (State.rowTaken_port _ n young).1.trans ?_
    rw [State.sendFill, State.sendSlot, State.emit_port, hport]

theorem erratumSlot_sent (s : State) (n young und uns num : Nat) (ecc : Ecc) (e : ErrEntry) (hq : Quiet s)
    (hw : n < 16 ∧ ecc.wf = true ∧ und ≤ 32 ∧ uns ≤ 32)
    (h : (s.port n).rows = true ∧ (s.port n).outPos + und + uns = 32 * ((s.port n).slotsOut + 1) ∧ (s.port n).errata = [e] ∧
      e.eligible (s.port n).slotsOut = true ∧ e.issue ≠ 0)
    (hnum : num = (s.port n).errNum ∧ num < 65536) :
    Gives (.slotDecision n young ecc und uns) s [(F.PORT_ERRATA_SENT_SENT, n, min (s.rd F.PORT_ERRATA_SENT_SENT n + 1)
      0xFFFFFFFF), (F.PORT_ERRATA_STAT_ERR_SEQ, n, num)] (.port n :: .view (n + 1) :: watermarkParts n)
      [.slot n (mkSlot n (s.outRow n) ([65, 0] ++ leBytes num 2) e.bytes true)] fun t => (t.port n).errata = [] ∧
      (t.port n).errNum = (num + 1) % 65536 ∧ (t.port n).slotsOut = (s.port n).slotsOut + 1 := by
  obtain ⟨hrows, hpos, herr, hel, hi⟩ := h
  obtain ⟨rfl, hlt⟩ := hnum
  have hmarks := s.begun.qCompare_within n
  have hport : (s.begun.qCompare n).port n = s.port n := hmarks.only.port (by simp [partsOf])
  have hsent : (s.begun.qCompare n).rd F.PORT_ERRATA_SENT_SENT n = s.rd F.PORT_ERRATA_SENT_SENT n :=
    hmarks.only.rd (by simp (disch := decide) [partsOf, Fld.ids_differ])
  generalize hm : s.begun.qCompare n = m at hmarks hport hsent
  rw [← hport] at herr hel hlt
  refine slotDecision_gives hq hw ⟨hrows, hpos⟩ hm (m.chooseSlot_erratum n young und ecc herr hel hi) ?_ ?_
    (m.erratumSent_only n e) ?_
  · rw [m.erratumSent_out, hmarks.out, State.outRow, hport]
    rfl
  · rw [← hport, ← hsent]
    exact m.erratumSent_holds n e hlt
  · obtain ⟨hrow, hseq, hlist⟩ := (m.erratumSent n e).rowTaken_port n young
    rw [hrow, hseq, hlist, m.erratumSent_port, hport]
    exact ⟨rfl, rfl, rfl⟩

/-! Inbound slots (R158, R192, R193) -/

/-- The first byte of a slot of bytes. -/
theorem byteAt_zero {slot : List Nat} (h : bytesWf slot = true) : byteAt slot 0 = byte0 slot := by
  cases slot with
  | nil => rfl
  | cons b t =>
    have hb : b < 256 := by simpa using List.all_eq_true.1 h b (by simp)
    simpa [byteAt, byte0] using hb

theorem slotClass_eq {slot : List Nat} (h : bytesWf slot = true) : slotClass slot = byte0 slot / 32 :=
  congrArg (· / 32) (byteAt_zero h)

theorem wf_slot {n : Nat} {p : Prop} [Decidable p] (h : n < 16 ∧ p) : (decide (n < 16) && decide p) = true := by
  simpa using h

section
variable (s : State) (n : Nat)

/-- A slot ends the next inbound row. -/
def State.slotTaken : State := s.modPort n fun p => { p with slotsIn := p.slotsIn + 1 }

/-- A failed header is counted and lengthens the run of bad ones. -/
def State.headerFailed : State :=
  ((s.slotTaken n).inc F.CMP_PORT_CNT_BADSLOT n).modPort n fun p => { p with badRun := p.badRun + 1 }

/-- A good header ends the run of bad ones and locks the rows. -/
def State.headerTaken : State := ((s.slotTaken n).modPort n fun p => { p with badRun := 0 }).setF F.CMP_PORT_STAT_ROWLOCK n

theorem State.headerFailed_within : Within [.fld F.CMP_PORT_CNT_BADSLOT n, .port n] s (s.headerFailed n) := by
  unfold State.headerFailed State.slotTaken
  refine (((s.modPort_within n _).mono ?_).trans ((State.wr_within _ F.CMP_PORT_CNT_BADSLOT n _).mono ?_)).trans
    ((State.modPort_within _ n _).mono ?_) <;> simp

theorem State.headerFailed_port : (s.headerFailed n).port n =
    { s.port n with slotsIn := (s.port n).slotsIn + 1, badRun := (s.port n).badRun + 1 } := by
  have hinc : ((s.slotTaken n).inc F.CMP_PORT_CNT_BADSLOT n).port n = (s.slotTaken n).port n := rfl
  rw [State.headerFailed, State.port_modPort, hinc, State.slotTaken, State.port_modPort]

theorem State.headerFailed_badslot : (s.headerFailed n).rd F.CMP_PORT_CNT_BADSLOT n =
    min (s.rd F.CMP_PORT_CNT_BADSLOT n + 1) 0xFFFF := (s.slotTaken n).rd_incBy_sat F.CMP_PORT_CNT_BADSLOT n 1

theorem State.headerTaken_within : Within [.fld F.CMP_PORT_STAT_ROWLOCK n, .port n] s (s.headerTaken n) := by
  unfold State.headerTaken State.slotTaken
  refine (((s.modPort_within n _).mono ?_).trans ((State.modPort_within _ n _).mono ?_)).trans
    ((State.wr_within _ F.CMP_PORT_STAT_ROWLOCK n 1).mono ?_) <;> simp

theorem State.headerTaken_port : (s.headerTaken n).port n = { s.port n with slotsIn := (s.port n).slotsIn + 1, badRun := 0 } := by
  have hset : (s.headerTaken n).port n = ((s.slotTaken n).modPort n fun p => { p with badRun := 0 }).port n := rfl
  rw [hset, State.port_modPort, State.slotTaken, State.port_modPort]

theorem State.headerTaken_rowlock : (s.headerTaken n).rd F.CMP_PORT_STAT_ROWLOCK n = 1 :=
  State.rd_wr_self _ F.CMP_PORT_STAT_ROWLOCK n 1

/-- Only the lock of the rows is written. -/
theorem State.headerTaken_rd {f : Fld} (i : Nat) (h : F.CMP_PORT_STAT_ROWLOCK.id ≠ f.id) :
    (s.headerTaken n).rd f i = s.rd f i := State.rd_wr_fld _ _ h

variable (slot : List Nat) (arr : Option BodyArrival)

theorem State.inboundSlot_elsewhere (h : s.slotHere n = false) : s.inboundSlot n slot arr = s := by
  simp [State.inboundSlot, h]

theorem State.inboundSlot_headerFails (hh : s.slotHere n = true) (hc : hcrcOk n (s.inRow n) slot = false) :
    s.inboundSlot n slot arr = s.headerFailed n := by
  simp only [State.inboundSlot, hh, hc, Bool.not_true, Bool.not_false, Bool.true_or, if_true, Bool.false_eq_true, if_false]
  rfl

/-- A slot with a good header meets the checks of its class. -/
theorem State.inboundSlot_headerTaken (hh : s.slotHere n = true) (hc : hcrcOk n (s.inRow n) slot = true)
    (h5 : slotClass slot ≠ 5) (h6 : slotClass slot ≠ 6) : s.inboundSlot n slot arr =
      if !(s.headerTaken n).slotFits n slot then (s.headerTaken n).inc F.CMP_SLOT_CNT_MALF n
      else if 1 ≤ slotClass slot ∧ slotClass slot ≤ 4 ∧ !pcrcOk slot then (s.headerTaken n).inc F.CMP_SLOT_CNT_PAYBAD n
      else (s.headerTaken n).actSlot n slot arr := by
  rw [State.inboundSlot, if_neg (by simp [hh])]
  exact if_neg (by simp [hc, h5, h6])

theorem State.slotFits_headerTaken : (s.headerTaken n).slotFits n slot = s.slotFits n slot := by
  simp only [State.slotFits, s.headerTaken_rd n (f := F.PORT_STAT_EMODE_IO) n (by decide)]

theorem State.inboundSlot_malformed (hh : s.slotHere n = true) (hc : hcrcOk n (s.inRow n) slot = true)
    (h5 : slotClass slot ≠ 5) (h6 : slotClass slot ≠ 6) (hf : s.slotFits n slot = false) :
    s.inboundSlot n slot arr = (s.headerTaken n).inc F.CMP_SLOT_CNT_MALF n := by
  rw [s.inboundSlot_headerTaken n slot arr hh hc h5 h6, s.slotFits_headerTaken, hf]
  rfl

theorem State.inboundSlot_acts (hh : s.slotHere n = true) (hc : hcrcOk n (s.inRow n) slot = true)
    (h5 : slotClass slot ≠ 5) (h6 : slotClass slot ≠ 6) (hf : s.slotFits n slot = true)
    (hp : 1 ≤ slotClass slot → slotClass slot ≤ 4 → pcrcOk slot = true) :
    s.inboundSlot n slot arr = (s.headerTaken n).actSlot n slot arr := by
  rw [s.inboundSlot_headerTaken n slot arr hh hc h5 h6, s.slotFits_headerTaken, hf, if_neg (by simp)]
  exact if_neg fun ⟨h1, h4, hbad⟩ => by simp [hp h1 h4] at hbad

end

/-- A slot with a good header, whose further effect counts and changes the port's own state at most. -/
theorem goodSlot_gives {c : Instr} {s t : State} {n : Nat} {ok : Bool} {k : State → State} {vs : Vals} {P : State → Prop}
    (he : exec c s = effect ok s k) (hw : ok = true) (hq : Quiet s) (hk : k s.begun = t) (hv : Holds vs t)
    (hn : Part.fld F.CMP_PORT_STAT_ROWLOCK n ∉ vs.parts) (hf : Within (vs.parts ++ [.port n]) (s.begun.headerTaken n) t)
    (hp : P t) : Gives c s ((F.CMP_PORT_STAT_ROWLOCK, n, 1) :: vs) [.port n] [] P := by
  have hhead := s.begun.headerTaken_within n
  have honly := hhead.only.append hf.only
  refine Gives.of_result he hw hk ?_ (hf.out.trans hhead.out) hp (.cons ?_ hv) (honly.of_begun.mono ?_)
  · exact (honly.raised (by simp [Vals.parts])).trans hq
  · exact (hf.only.rd (by simpa using hn)).trans (s.begun.headerTaken_rowlock n)
  · simp +contextual [Vals.parts, or_imp]

theorem slotHeader_fails (s : State) (n : Nat) (slot : List Nat) (hq : Quiet s)
    (hw : n < 16 ∧ slot.length = 256 ∧ bytesWf slot = true ∧ byte0 slot / 32 ≠ 0)
    (h : s.slotHere n = true ∧ hcrcOk n (s.inRow n) slot = false) :
    Gives (.badSlot n slot) s [(F.CMP_PORT_CNT_BADSLOT, n, min (s.rd F.CMP_PORT_CNT_BADSLOT n + 1) 0xFFFF)] [.port n] []
      fun t => t.port n = { s.port n with slotsIn := (s.port n).slotsIn + 1, badRun := (s.port n).badRun + 1 } := by
  have hfail := s.begun.headerFailed_within n
  exact Gives.of_result (exec_badSlot s n slot) (wf_slot hw) (s.begun.inboundSlot_headerFails n slot none h.1 h.2)
    ((hfail.only.raised (by simp)).trans hq) hfail.out (s.begun.headerFailed_port n)
    (.cons (s.begun.headerFailed_badslot n) (.nil _)) hfail.only.of_begun

theorem fillSlot_taken (s : State) (n : Nat) (slot : List Nat) (hq : Quiet s)
    (hw : n < 16 ∧ slot.length = 256 ∧ bytesWf slot = true ∧ byte0 slot / 32 = 7)
    (h : s.slotHere n = true ∧ hcrcOk n (s.inRow n) slot = true) :
    Gives (.fillSlot n slot) s [(F.CMP_PORT_STAT_ROWLOCK, n, 1)] [.port n] [] fun t =>
      t.port n = { s.port n with slotsIn := (s.port n).slotsIn + 1, badRun := 0 } := by
  have hwf := wf_slot hw
  obtain ⟨-, -, hb, h7⟩ := hw
  have hclass : slotClass slot = 7 := (slotClass_eq hb).trans h7
  have hk : s.begun.inboundSlot n slot none = s.begun.headerTaken n := by
    rw [s.begun.inboundSlot_acts n slot none h.1 h.2 (by simp [hclass]) (by simp [hclass])
      (by simp [State.slotFits, hclass]) (by simp [hclass])]
    simp [State.actSlot, hclass]
  exact goodSlot_gives (exec_fillSlot s n slot) hwf hq hk (.nil _) (by simp [Vals.parts]) (.refl _ _)
    (s.begun.headerTaken_port n)

theorem State.slotFits_requests (s : State) (n : Nat) {slot : List Nat} (h : slotClass slot = 1) :
    s.slotFits n slot = (decide (1 ≤ byteAt slot 1) && decide (byteAt slot 1 ≤ 60)) := by
  simp [State.slotFits, h]

theorem replayRequest_malformed (s : State) (n : Nat) (slot : List Nat) (hq : Quiet s)
    (hw : n < 16 ∧ slot.length = 256 ∧ bytesWf slot = true ∧ byte0 slot / 32 = 1) (hclass : slotClass slot = 1)
    (h : s.slotHere n = true ∧ hcrcOk n (s.inRow n) slot = true) (hc : byteAt slot 1 = 0 ∨ 60 < byteAt slot 1) :
    Gives (.replayRequestSlot n slot) s [(F.CMP_PORT_STAT_ROWLOCK, n, 1), (F.CMP_SLOT_CNT_MALF, n, min (s.rd
      F.CMP_SLOT_CNT_MALF n + 1) 0xFFFF)] [.port n] [] anyState := by
  have hfit : s.begun.slotFits n slot = false := by
    simp only [State.slotFits_requests _ n hclass, Bool.and_eq_false_iff, decide_eq_false_iff_not]
    omega
  refine goodSlot_gives (exec_replayRequestSlot s n slot) (wf_slot hw) hq (s.begun.inboundSlot_malformed n slot none h.1 h.2
    (by simp [hclass]) (by simp [hclass]) hfit) (.cons ?_ (.nil _)) ?_ ?_ trivial
  · exact (State.rd_incBy_sat _ F.CMP_SLOT_CNT_MALF n 1).trans
      (by rw [State.headerTaken_rd _ n (f := F.CMP_SLOT_CNT_MALF) n (by decide)]; rfl)
  · simp (disch := decide) [Vals.parts, Fld.ids_differ]
  · exact (State.wr_within _ F.CMP_SLOT_CNT_MALF n _).mono (by simp [Vals.parts])

/-- One request of a class-1 slot joins the queue (R207). -/
theorem State.takeRequests_one (s : State) (n : Nat) (slot : List Nat) (h : byteAt slot 1 = 1)
    (hl : (s.port n).rplReqs.length < 64) : s.takeRequests n slot = s.modPort n fun p => { p with
      rplReqs := p.rplReqs ++ [{ row := leAt slot 6 2, index := byteAt slot 8 / 8, age := 0 }] } := by
  rw [State.takeRequests, h]
  exact if_neg (Nat.not_le_of_lt hl)

theorem replayRequest_queued (s : State) (n : Nat) (slot : List Nat) (hq : Quiet s)
    (hw : n < 16 ∧ slot.length = 256 ∧ bytesWf slot = true ∧ byte0 slot / 32 = 1) (hclass : slotClass slot = 1)
    (h : s.slotHere n = true ∧ hcrcOk n (s.inRow n) slot = true) (hp : pcrcOk slot = true) (hc : byteAt slot 1 = 1)
    (hl : (s.port n).rplReqs.length < 64) :
    Gives (.replayRequestSlot n slot) s [(F.CMP_PORT_STAT_ROWLOCK, n, 1)] [.port n] [] fun t => t.port n =
      { s.port n with
        slotsIn := (s.port n).slotsIn + 1, badRun := 0,
        rplReqs := (s.port n).rplReqs ++ [{ row := leAt slot 6 2, index := byteAt slot 8 / 8, age := 0 }] } := by
  have hport := s.begun.headerTaken_port n
  have hfit : s.begun.slotFits n slot = true := by simp [State.slotFits_requests _ n hclass, hc]
  have hact := s.begun.inboundSlot_acts n slot none h.1 h.2 (by simp [hclass]) (by simp [hclass]) hfit fun _ _ => hp
  have htake : (s.begun.headerTaken n).actSlot n slot none = (s.begun.headerTaken n).takeRequests n slot := by
    simp [State.actSlot, hclass]
  rw [htake, State.takeRequests_one _ n slot hc (by rw [hport]; exact hl)] at hact
  refine goodSlot_gives (exec_replayRequestSlot s n slot) (wf_slot hw) hq hact (.nil _) (by simp [Vals.parts])
    (State.modPort_within _ n _) ?_
  rw [State.port_modPort, hport]
  rfl

/-! Hold requests (R209, R210) -/

theorem Only.inTime {ps : List Part} {s t : State} (h : Only ps s t) {n : Nat}
    (hp : ∀ f ∈ [F.PORT_LINK_STAT_AWIDTH, F.PORT_LINK_STAT_RATE, F.CMP_HOLD_CFG_DELAY], Part.fld f n ∉ ps) (x : Nat) :
    t.inTime n x = s.inTime n x := by
  simp only [List.forall_mem_cons] at hp
  obtain ⟨hw, hr, hd, -⟩ := hp
  unfold State.inTime State.holdPs State.rate
  rw [h.rd hw, h.rd hr, h.rd hd]

/-- The body that answers the only Hold request replaces the flit it names. -/
def State.bodyTaken (s : State) (n : Nat) (q : HoldReq) (body : List Nat) (info : FlitInfo) : State :=
  ((s.endHold n q).inc F.CMP_HOLD_CNT_OK n).putBody n q body info

section
variable (s : State) (n : Nat) (q : HoldReq) (body : List Nat) (info : FlitInfo)

theorem State.bodyTaken_within : Within [.fld F.CMP_HOLD_CNT_OK n, .port n] s (s.bodyTaken n q body info) := by
  unfold State.bodyTaken State.endHold State.putBody
  refine (((s.modPort_within n _).mono ?_).trans ((State.wr_within _ F.CMP_HOLD_CNT_OK n _).mono ?_)).trans
    ((State.modPort_within _ n _).mono ?_) <;> simp

theorem State.bodyTaken_ok : (s.bodyTaken n q body info).rd F.CMP_HOLD_CNT_OK n =
    min (s.rd F.CMP_HOLD_CNT_OK n + 1) 0xFFFF := (s.endHold n q).rd_incBy_sat F.CMP_HOLD_CNT_OK n 1

theorem State.bodyTaken_port : (s.bodyTaken n q body info).port n =
    { s.port n with
      holdReqs := (s.port n).holdReqs.erase q
      held := (s.port n).held.map fun h =>
        if h.row = q.row ∧ h.index = q.index then { h with body := some (body, info) } else h } := by
  have hinc : ((s.endHold n q).inc F.CMP_HOLD_CNT_OK n).port n = (s.endHold n q).port n := rfl
  rw [State.bodyTaken, State.putBody, State.port_modPort, hinc, State.endHold, State.port_modPort]

theorem State.holdAnswer_inTime {slot : List Nat} {arr : BodyArrival} (hr : (s.port n).holdReqs = [q])
    (hrow : q.row = leAt slot 2 2) (hidx : q.index = byteAt slot 1 / 8) (hheld : q.held = true) (hb : byteAt slot 0 = 0)
    (ht : s.inTime n arr.ps = true) (hc : arr.crcOk = true) :
    s.holdAnswer n slot arr = s.bodyTaken n q (sliceBytes slot 6 250) arr.info := by
  have hin : (s.endHold n q).inTime n arr.ps = true :=
    ((s.modPort_within n _).only.inTime (by simp) arr.ps).trans ht
  simp [State.holdAnswer, hr, hrow, hidx, hb, bit, hheld, hin, hc, State.bodyTaken]

end

theorem body_replaces (s : State) (n : Nat) (slot : List Nat) (arr : BodyArrival) (q : HoldReq) (hq : Quiet s)
    (hw : n < 16 ∧ slot.length = 256 ∧ bytesWf slot = true ∧ byte0 slot / 32 = 0) (hb : byteAt slot 0 = 0)
    (h : s.slotHere n = true ∧ hcrcOk n (s.inRow n) slot = true ∧ s.rd F.PORT_STAT_EMODE_IO n = 3)
    (hr : (s.port n).holdReqs = [q] ∧ q.row = leAt slot 2 2 ∧ q.index = byteAt slot 1 / 8 ∧ q.held = true)
    (ht : s.inTime n arr.ps = true ∧ arr.crcOk = true) :
    Gives (.replaySlot n slot arr) s [(F.CMP_PORT_STAT_ROWLOCK, n, 1), (F.CMP_HOLD_CNT_OK, n, min (s.rd
      F.CMP_HOLD_CNT_OK n + 1) 0xFFFF)] [.port n] [] fun t => (t.port n).holdReqs = [] ∧ (t.port n).held = (s.port
      n).held.map fun h => if h.row = q.row ∧ h.index = q.index then
      { h with body := some (sliceBytes slot 6 250, arr.info) } else h := by
  obtain ⟨hhere, hcrc, hmode⟩ := h
  obtain ⟨hreq, hrow, hidx, hheld⟩ := hr
  have hclass : slotClass slot = 0 := by simp [slotClass, hb]
  have hport := s.begun.headerTaken_port n
  have hfit : s.begun.slotFits n slot = true := by simp [State.slotFits, hclass, hb, bit, hmode]
  have hact := s.begun.inboundSlot_acts n slot (some arr) hhere hcrc (by simp [hclass]) (by simp [hclass]) hfit
    (by simp [hclass])
  have hanswer : (s.begun.headerTaken n).actSlot n slot (some arr) = (s.begun.headerTaken n).holdAnswer n slot arr := by
    simp [State.actSlot, hclass]
  have hin : (s.begun.headerTaken n).inTime n arr.ps = true :=
    ((s.begun.headerTaken_within n).only.inTime (by simp (disch := decide) [Fld.ids_differ]) arr.ps).trans ht.1
  rw [hanswer, State.holdAnswer_inTime _ n q (by rw [hport]; exact hreq) hrow hidx hheld hb hin ht.2] at hact
  refine goodSlot_gives (exec_replaySlot s n slot arr) (wf_slot hw) hq hact (.cons ?_ (.nil _)) ?_
    (State.bodyTaken_within _ n q _ _) ?_
  · rw [State.bodyTaken_ok, State.headerTaken_rd _ n (f := F.CMP_HOLD_CNT_OK) n (by decide)]
    rfl
  · simp (disch := decide) [Vals.parts, Fld.ids_differ]
  · rw [State.bodyTaken_port, hport]
    exact ⟨(congrArg (List.erase · q) hreq).trans (by simp), rfl⟩

/-! A request in a class-3 slot (R204, R309, R310) -/

theorem setByte_length (l : List Nat) (o b : Nat) : (setByte l o b).length = l.length := by
  induction l generalizing o with
  | nil => rfl
  | cons x t ih => cases o <;> simp [setByte, ih]

theorem take_setByte (l : List Nat) (o b : Nat) : (setByte l o b).take o = l.take o := by
  induction l generalizing o with
  | nil => rfl
  | cons x t ih => cases o <;> simp [setByte, ih]

theorem State.rdBytes_take (s : State) (a : Nat) {m k : Nat} (h : m ≤ k) : (s.rdBytes a k).take m = s.rdBytes a m := by
  induction m generalizing a k with
  | zero => rfl
  | succ m ih =>
    obtain ⟨k, rfl⟩ : ∃ j, k = j + 1 := ⟨k - 1, by omega⟩
    simp [State.rdBytes, ih (a + 1) (Nat.le_of_succ_le_succ h)]

/-- The flags of an accepted request that meets the expected sequence number: its own, the marks 0 (R310). -/
def plainFlags (e : List Nat) : Nat := entryFlags e % 8 + entryFlags e / 32 * 32

/-- An accepted request as the ring holds it: its own bytes but for its flags and its route (R309). -/
def requestBytes (e route : List Nat) : List Nat := (setByte e 5 (plainFlags e)).take 120 ++ route ++ e.drop 124

theorem requestBytes_length {e route : List Nat} (he : e.length = 128) (hr : route.length = 4) :
    (requestBytes e route).length = 128 := by simp [requestBytes, setByte_length, he, hr]

theorem requestBytes_take {e route : List Nat} (he : e.length = 128) : (requestBytes e route).take 5 = e.take 5 := by
  have hlen : ((setByte e 5 (plainFlags e)).take 120).length = 120 := by simp [setByte_length, he]
  rw [requestBytes, List.append_assoc, List.take_append_of_le_length (by omega), List.take_take]
  exact take_setByte e 5 _

section
variable (s : State) (v : Nat) (e route : List Nat)

/-- A request with the expected sequence number joins the ring, and the next number is expected (R309, R310). -/
def State.requestTaken : State :=
  ((((s.wrBytes (reqAddr v (s.rd F.MGMT_VIEW_PTR_REQ_WR v)) (requestBytes e route)).incWrap F.MGMT_VIEW_PTR_REQ_WR v).inc
    F.MGMT_VIEW_CNT_ACCEPTED v).wr F.MGMT_VIEW_SEQ_QSEQ_NEXT v (s.rd F.MGMT_VIEW_SEQ_QSEQ_NEXT v + 1)).clr
    F.MGMT_VIEW_STAT_GAP_SENT v

theorem State.seqStep_ok (h : s.seqMark v e = .ok) : s.seqStep v e route = s.requestTaken v e route := by
  rw [State.seqStep, h]
  simp [State.acceptReq, State.requestTaken, requestBytes, plainFlags, b2n]

/-- The checks of a request that a class-3 slot carries, met (R309). -/
theorem State.request_admitted (n : Nat) (hn : n < 16) (h : Admits s (n + 1) e) (hp : s.present n = true) :
    s.request (n + 1) 4 0 0 e false = s.seqStep (n + 1) e (routeBytes 4 0 0) := by
  obtain ⟨hen, hcrc, hreq, hrun, hfrozen, hfull⟩ := h
  rw [State.request, if_neg (by omega), if_neg (by simp [hp]), if_neg (by simp [State.mayReach, hen]),
    if_neg (by simp [hcrc, hreq])]
  simp [hrun, hfrozen, hfull]

theorem State.requestTaken_within {e route : List Nat} (he : (requestBytes e route).length = 128) :
    Within (partsOf [F.MGMT_VIEW_PTR_REQ_WR, F.MGMT_VIEW_CNT_ACCEPTED, F.MGMT_VIEW_SEQ_QSEQ_NEXT, F.MGMT_VIEW_STAT_GAP_SENT]
      v ++ runParts (reqAddr v (s.rd F.MGMT_VIEW_PTR_REQ_WR v)) 128) s (s.requestTaken v e route) := by
  have hbytes : Within (runParts (reqAddr v (s.rd F.MGMT_VIEW_PTR_REQ_WR v)) 128) s
      (s.wrBytes (reqAddr v (s.rd F.MGMT_VIEW_PTR_REQ_WR v)) (requestBytes e route)) :=
    ⟨he ▸ State.wrBytes_only s _ _, State.wrBytes_out ..⟩
  unfold State.requestTaken
  refine ((((hbytes.mono ?_).trans ((State.wr_within _ _ v _).mono ?_)).trans ((State.wr_within _ _ v _).mono ?_)).trans
    ((State.wr_within _ _ v _).mono ?_)).trans ((State.wr_within _ _ v _).mono ?_) <;> simp +contextual [partsOf]

theorem State.requestTaken_holds : Holds [(F.MGMT_VIEW_PTR_REQ_WR, v, (s.rd F.MGMT_VIEW_PTR_REQ_WR v + 1) % 128),
    (F.MGMT_VIEW_CNT_ACCEPTED, v, min (s.rd F.MGMT_VIEW_CNT_ACCEPTED v + 1) 0xFFFF),
    (F.MGMT_VIEW_SEQ_QSEQ_NEXT, v, (s.rd F.MGMT_VIEW_SEQ_QSEQ_NEXT v + 1) % 65536), (F.MGMT_VIEW_STAT_GAP_SENT, v, 0)]
    (s.requestTaken v e route) := by
  refine .cons ?_ (.cons ?_ (.cons ?_ (.cons (State.rd_wr_self ..) (.nil _))))
  · simp (disch := decide) only [State.requestTaken, State.clr, State.inc, State.incBy, State.incWrap, State.rd_wr_fld,
      State.rd_wr_self, State.wrBytes_rd]
    rfl
  · simp (disch := decide) only [State.requestTaken, State.clr, State.inc, State.rd_wr_fld, State.rd_incBy_sat,
      State.incWrap, State.wrBytes_rd]
    rfl
  · simp (disch := decide) only [State.requestTaken, State.clr, State.rd_wr_fld, State.rd_wr_self]
    rfl

/-- The entry's first bytes stand in the ring as they came. -/
theorem State.requestTaken_rdBytes {e route : List Nat} (he : e.length = 128) (hr : route.length = 4)
    (hb : ∀ b ∈ e, b < 256) :
    (s.requestTaken v e route).rdBytes (reqAddr v (s.rd F.MGMT_VIEW_PTR_REQ_WR v)) 5 = e.take 5 := by
  have hmem : (s.requestTaken v e route).mem =
      (s.wrBytes (reqAddr v (s.rd F.MGMT_VIEW_PTR_REQ_WR v)) (requestBytes e route)).mem := by
    simp only [State.requestTaken, State.clr, State.inc, State.incBy, State.incWrap, State.wr_mem]
  have hread := s.rdBytes_wrBytes (reqAddr v (s.rd F.MGMT_VIEW_PTR_REQ_WR v)) (requestBytes e route)
  rw [requestBytes_length he hr] at hread
  rw [State.rdBytes_congr hmem, ← State.rdBytes_take _ _ (by decide : 5 ≤ 128), hread, ← List.map_take, requestBytes_take he]
  exact (List.map_congr_left fun b hm => Nat.mod_eq_of_lt (hb b (List.mem_of_mem_take hm))).trans (List.map_id _)

/-- A good header of a slot changes nothing that a request's checks ask. -/
theorem State.headerTaken_admits (n : Nat) : (Admits (s.headerTaken n) v e ↔ Admits s v e) ∧
    (s.headerTaken n).present n = s.present n ∧ (s.headerTaken n).seqMark v e = s.seqMark v e := by
  have hfull : (s.headerTaken n).reqFull v = s.reqFull v := by
    simp (disch := decide) only [State.reqFull, State.headerTaken_rd]
  refine ⟨?_, ?_, ?_⟩
  · simp (disch := decide) only [Admits, hfull, State.flag, State.headerTaken_rd]
  · refine congrArg (· != 0) ((s.headerTaken_within n).only.width (fun g hg i hm => ?_) n)
    obtain ⟨hid, -⟩ : g.id = F.CMP_PORT_STAT_ROWLOCK.id ∧ i = n := by simpa using hm
    rw [Fld.layout, hid] at hg
    exact absurd hg (by decide)
  · unfold State.seqMark State.flag
    rw [s.headerTaken_rd n v (by decide), s.headerTaken_rd n v (by decide)]

end

theorem sliceBytes_lt {slot : List Nat} (h : bytesWf slot = true) (o k : Nat) : ∀ b ∈ sliceBytes slot o k, b < 256 := by
  have hslot : ∀ b ∈ slot, b < 256 := by simpa [bytesWf] using h
  intro b hb
  rcases List.mem_append.1 hb with hm | hm
  · exact hslot b (List.mem_of_mem_drop (List.mem_of_mem_take hm))
  · rw [List.eq_of_mem_replicate hm]
    decide

theorem requestSlot_taken (s : State) (n : Nat) (slot e : List Nat) (hq : Quiet s)
    (hw : n < 16 ∧ slot.length = 256 ∧ bytesWf slot = true ∧ byte0 slot / 32 = 3)
    (hclass : slotClass slot = 3) (h1 : byteAt slot 1 = 0)
    (h : s.slotHere n = true ∧ hcrcOk n (s.inRow n) slot = true ∧ pcrcOk slot = true ∧ bit (s.port n).police 16 = false)
    (he : e = sliceBytes slot 6 128) (ha : Admits s (n + 1) e) (hp : s.present n = true) (hm : s.seqMark (n + 1) e = .ok)
    (hlen : e.length = 128) :
    Gives (.portViewMessageSlot n slot) s [(F.CMP_PORT_STAT_ROWLOCK, n, 1), (F.MGMT_VIEW_PTR_REQ_WR, n + 1, (s.rd
      F.MGMT_VIEW_PTR_REQ_WR (n + 1) + 1) % 128), (F.MGMT_VIEW_CNT_ACCEPTED, n + 1, min (s.rd F.MGMT_VIEW_CNT_ACCEPTED
      (n + 1) + 1) 0xFFFF), (F.MGMT_VIEW_SEQ_QSEQ_NEXT, n + 1, (s.rd F.MGMT_VIEW_SEQ_QSEQ_NEXT (n + 1) + 1) % 65536),
      (F.MGMT_VIEW_STAT_GAP_SENT, n + 1, 0)] (.port n :: runParts (reqAddr (n + 1) (s.rd F.MGMT_VIEW_PTR_REQ_WR (n + 1)))
      128) [] fun t => t.rdBytes (reqAddr (n + 1) (s.rd F.MGMT_VIEW_PTR_REQ_WR (n + 1))) 5 = e.take 5 := by
  obtain ⟨hhere, hcrc, hpcrc, hpolice⟩ := h
  have hwf := wf_slot hw
  obtain ⟨hn, -, hb, -⟩ := hw
  have hhead := s.begun.headerTaken_within n
  have hport := s.begun.headerTaken_port n
  obtain ⟨hadm, hpres, hmark⟩ := s.begun.headerTaken_admits (n + 1) e n
  have hrd : ∀ f, F.CMP_PORT_STAT_ROWLOCK.id ≠ f.id → (s.begun.headerTaken n).rd f (n + 1) = s.rd f (n + 1) :=
    fun f hf => s.begun.headerTaken_rd n (n + 1) hf
  have hlock := s.begun.headerTaken_rowlock n
  have hact := s.begun.inboundSlot_acts n slot none hhere hcrc (by simp [hclass]) (by simp [hclass])
    (by simp [State.slotFits, hclass, h1]) fun _ _ => hpcrc
  generalize s.begun.headerTaken n = t at hhead hport hadm hpres hmark hrd hlock hact
  have htake : t.actSlot n slot none = t.requestTaken (n + 1) e (routeBytes 4 0 0) := by
    rw [← t.seqStep_ok _ _ _ (hmark.trans hm), ← t.request_admitted e n hn (hadm.2 ha) (hpres.trans hp), he]
    simp [State.actSlot, hclass, State.takeMessage, hport, hpolice]
  have htaken := t.requestTaken_within (n + 1) (requestBytes_length (route := routeBytes 4 0 0) hlen rfl)
  have hvals := t.requestTaken_holds (n + 1) e (routeBytes 4 0 0)
  have hbytes := t.requestTaken_rdBytes (n + 1) (route := routeBytes 4 0 0) hlen rfl (he ▸ sliceBytes_lt hb 6 128)
  rw [hrd _ (by decide)] at htaken hbytes
  rw [hrd _ (by decide), hrd _ (by decide), hrd _ (by decide)] at hvals
  have honly := hhead.only.append htaken.only
  refine Gives.of_result (exec_portViewMessageSlot s n slot) hwf (hact.trans htake) ?_ (htaken.out.trans hhead.out)
    hbytes (.cons ?_ hvals) (honly.of_begun.mono ?_)
  · exact (honly.raised (by simp [partsOf, runParts])).trans hq
  · exact (htaken.only.rd (by simp (disch := decide) [partsOf, runParts, Fld.ids_differ])).trans hlock
  · simp +contextual [partsOf, Vals.parts, or_imp]

/-! Errata past their deadline (R135) -/

/-- The only erratum entry is dropped, counted and reported. -/
def State.erratumDropped (s : State) (n : Nat) : State :=
  ((s.modPort n fun p => { p with errata := [] }).inc F.PORT_ERRATA_CNT_DROP n).raise 51 n 0

theorem State.erratumDropped_only (s : State) (n : Nat) :
    Only [.fld F.PORT_ERRATA_CNT_DROP n, .raised, .port n] s (s.erratumDropped n) := by
  unfold State.erratumDropped State.inc
  refine (((s.modPort_within n _).only.append (State.incBy_only _ F.PORT_ERRATA_CNT_DROP n 1)).append
    (State.raise_only _ 51 n 0)).mono ?_
  simp

theorem State.erratumDropped_errata (s : State) (n : Nat) : ((s.erratumDropped n).port n).errata = [] := by
  have hport : (s.erratumDropped n).port n = (s.modPort n fun p => { p with errata := [] }).port n := rfl
  rw [hport, State.port_modPort]

theorem State.erratumDropped_drop (s : State) (n : Nat) : (s.erratumDropped n).rd F.PORT_ERRATA_CNT_DROP n =
    min (s.rd F.PORT_ERRATA_CNT_DROP n + 1) 0xFFFF :=
  (s.modPort n fun p => { p with errata := [] }).rd_incBy_sat F.PORT_ERRATA_CNT_DROP n 1

theorem State.errDeadline_late (s : State) (n : Nat) {e : ErrEntry} (h : (s.port n).errata = [e])
    (hl : e.due < (s.port n).slotsOut) : s.errDeadline n = s.erratumDropped n := by
  simp [State.errDeadline, State.erratumDropped, State.modPort, h, hl]

/-- Where no entry's deadline has passed every entry stays. -/
theorem State.errDeadline_none (s : State) (n : Nat) (h : ∀ e ∈ (s.port n).errata, (s.port n).slotsOut ≤ e.due) :
    s.errDeadline n = s.setPort n (s.port n) := by
  have hlate : ((s.port n).errata.filter fun e => e.due < (s.port n).slotsOut) = [] :=
    List.filter_eq_nil_iff.2 fun e he => by simpa using h e he
  have hkept : ((s.port n).errata.filter fun e => !(e.due < (s.port n).slotsOut)) = (s.port n).errata :=
    List.filter_eq_self.2 fun e he => by simpa using h e he
  rw [State.errDeadline, hlate, State.modPort, hkept]
  rfl

theorem erratum_dropped (s : State) (n : Nat) (e : ErrEntry) (hq : Quiet s) (hn : n < 16) (h : (s.port n).errata = [e])
    (hl : e.due < (s.port n).slotsOut) :
    Reports (.erratumDeadline n) s [(F.PORT_ERRATA_CNT_DROP, n, min (s.rd F.PORT_ERRATA_CNT_DROP n + 1) 0xFFFF)] [.port
      n] [⟨51, n, 0, false⟩] [] fun t => (t.port n).errata = [] := by
  have hk := s.begun.errDeadline_late n h hl
  refine Reports.of_effect (exec_erratumDeadline s n) (decide_eq_true hn) ?_ ?_ ?_ ?_ ?_ <;> rw [hk]
  · exact .cons (s.begun.erratumDropped_drop n) (.nil _)
  · exact (s.begun.erratumDropped_only n).of_begun
  · exact congrArg (· ++ [_]) hq
  · rfl
  · exact s.begun.erratumDropped_errata n

/-! Clearing the counters (R214) -/

theorem slotCounters_clear (s : State) (r : Requester) (hr : CoreReady s r) :
    Gives (.cmpSlotCtlCntClr r) s ((List.range 16).flatMap fun n => (Reg.CMP_RPL_SENT.fields ++ Reg.CMP_RPL_CNT.fields
      ++ Reg.CMP_RPL_CNT2.fields ++ Reg.CMP_HOLD_CNT.fields ++ Reg.CMP_HOLD_CNT2.fields ++ Reg.CMP_SLOT_CNT.fields ++
      Reg.CMP_POLICE_CNT.fields).map fun f => (f, n, 0)) [] [.writeAck] anyState := by
  have honly := forUp_clrAll_only s.begun (Reg.CMP_RPL_SENT.fields ++ Reg.CMP_RPL_CNT.fields ++ Reg.CMP_RPL_CNT2.fields ++
    Reg.CMP_HOLD_CNT.fields ++ Reg.CMP_HOLD_CNT2.fields ++ Reg.CMP_SLOT_CNT.fields ++ Reg.CMP_POLICE_CNT.fields) 16
  refine Gives.of_core (exec_cmpSlotCtlCntClr s r) rfl hr rfl ?_ ?_ trivial (forUp_clrAll_holds _ _ 16 (by decide))
    (honly.of_begun.mono ?_)
  · exact (honly.raised (by simp [partsOf])).trans hr.1
  · exact forUp_eq State.out 16 s.begun fun n a => a.clrAll_out _ n
  · simp only [Vals.parts, List.map_flatMap, List.map_map, List.append_nil]
    exact fun p hp => hp

/-- Settles O31: by the row's flits, what is pending and the slot's header and class, each slot makes the writes that a lemma
above names. -/
theorem slotsAreSentAndTaken : Obligations.SlotsAreSentAndTaken := by
  unfold Obligations.SlotsAreSentAndTaken
  refine ⟨fun s n young und uns ecc hq hw h => ?notDue, fillSlot_sent, erratumSlot_sent, fillSlot_taken, slotHeader_fails,
    fun s n slot hq ⟨hn, hl, hb⟩ h h7 => ?elsewhere,
    fun s n slot hq ⟨hn, hl, hb, h1, hc⟩ ⟨hh, hcrc, hp, hone, hroom⟩ =>
      replayRequest_queued s n slot hq ⟨hn, hl, hb, h1⟩ hc ⟨hh, hcrc⟩ hp hone hroom,
    fun s n slot hq ⟨hn, hl, hb, h1, hc⟩ ⟨hh, hcrc, hcount⟩ =>
      replayRequest_malformed s n slot hq ⟨hn, hl, hb, h1⟩ hc ⟨hh, hcrc⟩ hcount,
    fun s n slot arr q hq ⟨hn, hl, hb, h0, _, hzero⟩ => body_replaces s n slot arr q hq ⟨hn, hl, hb, h0⟩ hzero,
    fun s n v slot e hq ⟨hn, hl, hb, h3, hc, h1⟩ h ⟨hv, he, ha, hp⟩ ⟨hm, hlen⟩ => ?message,
    fun s n e hq hn ⟨he, hl⟩ => erratum_dropped s n e hq hn he hl, fun s n hq hn h => ?inTime, slotCounters_clear⟩
  case notDue =>
    exact Gives.of_nothing (exec_slotDecision s n young ecc und uns) (wf_slotDecision young hw) hq
      (s.begun.slotDecision_notDue n young und uns ecc h)
  case elsewhere =>
    exact Gives.of_nothing (exec_fillSlot s n slot) (wf_slot ⟨hn, hl, hb, h7⟩) hq (s.begun.inboundSlot_elsewhere n slot none h)
  case message =>
    subst hv
    exact requestSlot_taken s n slot e hq ⟨hn, hl, hb, h3⟩ hc h1 h he ha hp hm hlen
  case inTime =>
    obtain ⟨hsame, hout⟩ := s.begun.setPort_self n
    exact Gives.of_result (exec_erratumDeadline s n) (decide_eq_true hn) (s.begun.errDeadline_none n h)
      ((hsame.raised (by simp)).trans hq) hout trivial (.nil _) hsame.of_begun

end Sys2Proof.Machine
end
section
/-! What a step changes: the values it leaves, the parts it changes beside them, the events it reports and what it drives.
Steps compose, and a command completes as its steps say. -/
namespace Sys2Proof.Machine

/-- One state leads to another that holds the values; no part but the fields named and the parts listed has changed, the
events are reported and the outputs driven. -/
structure Changes (vs : Vals) (ps : List Part) (evs : List Ev) (outs : List Out) (s t : State) : Prop where
  holds : Holds vs t
  only : Only (.raised :: vs.parts ++ ps) s t
  raised : t.raised = s.raised ++ evs
  out : t.out = s.out ++ outs

section
variable {vs ws : Vals} {ps qs : List Part} {evs evs' : List Ev} {outs outs' : List Out} {s t u : State}

theorem Changes.refl (s : State) : Changes [] [] [] [] s s :=
  ⟨.nil s, .refl _ s, (List.append_nil _).symm, (List.append_nil _).symm⟩

/-- One step after the other, where the second leaves the values of the first. -/
theorem Changes.trans (h : Changes vs ps evs outs s t) (k : Changes ws qs evs' outs' t u)
    (hd : ∀ v ∈ vs, Part.fld v.1 v.2.1 ∉ ws.parts ++ qs := by
      simp (disch := decide) [Vals.parts, laneFields, partsOf, idleSpareParts, Fld.ids_differ]) :
    Changes (vs ++ ws) (ps ++ qs) (evs ++ evs') (outs ++ outs') s u where
  holds := List.forall_mem_append.2 ⟨k.only.holds h.holds fun v hv => by simpa using hd v hv, k.holds⟩
  only := (h.only.append k.only).mono (by simp +contextual [Vals.parts, or_imp])
  raised := by rw [k.raised, h.raised, List.append_assoc]
  out := by rw [k.out, h.out, List.append_assoc]

/-- Less is said of the values, and more parts may have changed. -/
theorem Changes.mono (h : Changes vs ps evs outs s t) (hvs : ∀ v ∈ ws, v ∈ vs)
    (hps : ∀ p ∈ vs.parts ++ ps, p ∈ ws.parts ++ qs) :
    Changes ws qs evs outs s t :=
  ⟨fun v hv => h.holds v (hvs v hv), h.only.mono fun p hp => by
    rcases List.mem_cons.1 hp with rfl | hp
    · simp
    · exact List.mem_cons_of_mem _ (hps p hp), h.raised, h.out⟩

/-- A field that no step writes reads as before. -/
theorem Changes.rd (h : Changes vs ps evs outs s t) {f : Fld} {i : Nat} (hp : Part.fld f i ∉ vs.parts ++ ps := by
    simp (disch := decide) [Vals.parts, laneFields, partsOf, idleSpareParts, Fld.ids_differ]) : t.rd f i = s.rd f i :=
  h.only.rd (by simpa using hp)

/-- Without events the list of events is unchanged. -/
theorem Changes.only_quiet (h : Changes vs ps [] outs s t) : Only (vs.parts ++ ps) s t := fun p hp => by
  by_cases hr : p = .raised
  · subst hr
    exact h.raised.trans (List.append_nil _)
  · exact h.only p (by simpa [hr] using hp)

theorem Within.changes (h : Within ps s t) (hr : Part.raised ∉ ps := by simp [partsOf]) : Changes [] ps [] [] s t :=
  ⟨.nil t, h.only.mono (by simp +contextual [Vals.parts]), by rw [h.only.raised hr, List.append_nil],
    by rw [h.out, List.append_nil]⟩

end

/-! The operations on the state -/

section
variable (s : State)

theorem State.wr_changes (f : Fld) (i v : Nat) (h : v % 2 ^ f.w = v) : Changes [(f, i, v)] [] [] [] s (s.wr f i v) :=
  ⟨.cons ((s.rd_wr_self f i v).trans h) (.nil _), (s.wr_only f i v).mono (by simp [Vals.parts]), (List.append_nil _).symm,
    (List.append_nil _).symm⟩

theorem State.inc_changes (f : Fld) (i : Nat) {x : Nat} (hx : s.rd f i = x) :
    Changes [(f, i, min (x + 1) (2 ^ f.w - 1))] [] [] [] s (s.inc f i) :=
  ⟨.cons (hx ▸ s.rd_incBy_sat f i 1) (.nil _), (s.incBy_only f i 1).mono (by simp [Vals.parts]), (List.append_nil _).symm,
    (List.append_nil _).symm⟩

theorem State.raise_changes (a b c : Nat) : Changes [] [] [⟨a, b, c, false⟩] [] s (s.raise a b c) :=
  ⟨.nil _, (s.raise_only a b c).mono (by simp), rfl, (List.append_nil _).symm⟩

theorem State.emit_changes (o : Out) : Changes [] [] [] [o] s (s.emit o) :=
  ⟨.nil _, (Only.refl _ s).emit o, (List.append_nil _).symm, rfl⟩

theorem State.putCsb_changes (x : CsbSt) : Changes [] [.csb] [] [] s (s.putCsb x) :=
  Within.changes ⟨fun _ hp => Part.same_putCsb s x (by simpa using hp), rfl⟩

theorem State.modSpare_changes (h : Nat) (f : SpareSt → SpareSt) : Changes [] [.spare h] [] [] s (s.modSpare h f) :=
  Within.changes ⟨fun _ hp => Part.same_setSpare s h _ (by simpa using hp), rfl⟩

theorem State.modLane_changes (ls : Nat) (f : LaneSt → LaneSt) : Changes [] [.lane ls] [] [] s (s.modLane ls f) :=
  (s.modLane_within ls f).changes

end

/-! Commands -/

section
variable {c : Instr} {s : State} {ok : Bool} {k : State → State} {vs : Vals} {ps : List Part} {evs : List Ev} {outs : List Out}
  {P : State → Prop}

theorem Changes.leaves {ws : Vals} {qs : List Part} {t : State} (h : Changes ws qs evs outs s t) (hp : P t)
    (hvs : ∀ v ∈ vs, v ∈ ws := by simp)
    (hps : ∀ p ∈ .raised :: ws.parts ++ qs, p ∈ vs.parts ++ ps := by simp +contextual [Vals.parts, or_imp]) :
    Leaves s t vs ps P :=
  ⟨fun v hv => h.holds v (hvs v hv), h.only.mono hps, hp⟩

theorem Changes.leaves_quiet {ws : Vals} {qs : List Part} {t : State} (h : Changes ws qs [] outs s t) (hp : P t)
    (hvs : ∀ v ∈ vs, v ∈ ws := by simp)
    (hps : ∀ p ∈ ws.parts ++ qs, p ∈ vs.parts ++ ps := by simp +contextual [Vals.parts, or_imp]) :
    Leaves s t vs ps P :=
  ⟨fun v hv => h.holds v (hvs v hv), h.only_quiet.mono hps, hp⟩

theorem Changes.gives (h : Changes vs ps [] outs s.begun (k s.begun)) (he : exec c s = effect ok s k) (hw : ok = true)
    (hq : Quiet s) (hp : P (k s.begun)) : Gives c s vs ps outs P :=
  Gives.of_effect he hw (h.raised.trans (by simp [hq])) h.holds h.only_quiet.of_begun (h.out.trans (List.nil_append _)) hp

theorem Changes.reports (h : Changes vs ps evs outs s.begun (k s.begun)) (he : exec c s = effect ok s k) (hw : ok = true)
    (hq : Quiet s) (hp : P (k s.begun)) : Reports c s vs ps evs outs P :=
  Reports.of_effect he hw h.holds (h.only.of_begun.mono (by simp +contextual [or_imp]))
    (h.raised.trans (by simp [hq])) (h.out.trans (List.nil_append _)) hp

/-! Commands in the core domain -/

/-- A served access is acknowledged. -/
theorem Changes.served (h : Changes vs ps evs [] s.begun (k s.begun)) {r : Requester} (hr : CoreReady s r) :
    Changes vs ps evs [.writeAck] s.begun (s.begun.viaCore r k) := by
  obtain ⟨-, hn, hc⟩ := hr
  rw [State.viaCore_served (s := s.begun) hn hc]
  simpa using h.trans (State.emit_changes _ .writeAck)

theorem Changes.gives_core {r : Requester} (h : Changes vs ps [] [] s.begun (k s.begun))
    (he : exec c s = effect ok s fun a => a.viaCore r k) (hw : ok = true) (hr : CoreReady s r)
    (hp : P ((k s.begun).emit .writeAck)) : Gives c s vs ps [.writeAck] P :=
  (h.served hr).gives he hw hr.1 (by rwa [State.viaCore_served (s := s.begun) hr.2.1 hr.2.2])

theorem Changes.reports_core {r : Requester} (h : Changes vs ps evs [] s.begun (k s.begun))
    (he : exec c s = effect ok s fun a => a.viaCore r k) (hw : ok = true) (hr : CoreReady s r)
    (hp : P ((k s.begun).emit .writeAck)) : Reports c s vs ps evs [.writeAck] P :=
  (h.served hr).reports he hw hr.1 (by rwa [State.viaCore_served (s := s.begun) hr.2.1 hr.2.2])

/-! Frames of the CSB (R172) -/

/-- The state in which the message of a frame that arrives in order is acted on. -/
def State.framed (s : State) (h : CsbHdr) : State := s.begun.putCsb (tookFrame s.csb h)

theorem State.csbAck_none {t : State} (h : t.csb.un0 = []) (num : Nat) : t.csbAck 0 num = t := by
  have hsame : { t.csb with un0 := [] } = t.csb := by rw [← h]
  simp only [State.csbAck, ackedBy, h, List.any_nil, Bool.false_eq_true, if_false, if_true, forEach, List.foldl_nil, hsame]
  rfl

theorem State.csbMsg_inOrder {h : CsbHdr} (hi : InOrder s h) (k : State → State) :
    s.begun.csbMsg h 0 k = k (s.framed h) := by
  obtain ⟨-, hvc, -, -, hup, hseq, hun⟩ := hi
  have hack : s.begun.csbAck 0 h.ack = s.begun := State.csbAck_none (t := s.begun) hun h.ack
  simp [State.csbMsg, State.csbAccept, hup, hvc, hack, ← hseq, State.csbTake, State.csbOwe, State.framed, tookFrame,
    State.putCsb]

theorem State.framed_changes (h : CsbHdr) : Changes [] [.csb] [] [] s.begun (s.framed h) := s.begun.putCsb_changes _

theorem CsbHdr.wf_of_inOrder {h : CsbHdr} (hi : InOrder s h) : h.wf = true := by
  obtain ⟨-, hvc, hseq, hack, -⟩ := hi
  simp [CsbHdr.wf, hvc, hseq, hack]

/-- The steps of a message that arrives in order, after its frame. -/
theorem Changes.after_frame {h : CsbHdr} (hc : Changes vs ps evs outs (s.framed h) (k (s.framed h))) (hi : InOrder s h) :
    Changes vs (.csb :: ps) evs outs s.begun (s.begun.csbMsg h 0 k) :=
  s.csbMsg_inOrder hi k ▸ ((s.framed_changes h).trans hc).mono (by simp) (by simp +contextual)

theorem Changes.gives_frame {h : CsbHdr} (hc : Changes vs ps [] outs (s.framed h) (k (s.framed h)))
    (he : exec c s = effect ok s fun a => a.csbMsg h 0 k) (hw : ok = true) (hi : InOrder s h) (hp : P (k (s.framed h))) :
    Gives c s vs (.csb :: ps) outs P :=
  (hc.after_frame hi).gives he hw hi.1 (s.csbMsg_inOrder hi k ▸ hp)

theorem Changes.reports_frame {h : CsbHdr} (hc : Changes vs ps evs outs (s.framed h) (k (s.framed h)))
    (he : exec c s = effect ok s fun a => a.csbMsg h 0 k) (hw : ok = true) (hi : InOrder s h) (hp : P (k (s.framed h))) :
    Reports c s vs (.csb :: ps) evs outs P :=
  (hc.after_frame hi).reports he hw hi.1 (s.csbMsg_inOrder hi k ▸ hp)

end

end Sys2Proof.Machine
end

section
/-! The operations on a spare (R175 to R181): what each changes of the spare, of its lane-side and of the lane that it serves. -/
namespace Sys2Proof.Machine

/-! Messages queued on virtual channel 0 (R172) -/

theorem State.csbSend_up {s : State} (h : s.csbUp = true) (type : Nat) (payload : List Nat) :
    s.csbSend type 0 payload = s.putCsb (queued0 s.csb type payload) := by
  simp [State.csbSend, State.csbQueue, h, queued0]

theorem State.csbSend_changes (s : State) (type vc : Nat) (payload : List Nat) :
    Changes [] [.csb] [] [] s (s.csbSend type vc payload) := by
  unfold State.csbSend State.csbQueue
  split
  · split <;> exact s.putCsb_changes _
  · exact (Changes.refl s).mono (by simp) (by simp [Vals.parts])

/-- The link stays UP while its state is not written. -/
theorem Changes.csbUp {vs : Vals} {ps : List Part} {evs : List Ev} {outs : List Out} {s t : State}
    (h : Changes vs ps evs outs s t) (hu : s.csbUp = true) (hp : Part.fld F.CMP_CSB_STAT_STATE 0 ∉ vs.parts ++ ps := by
      simp (disch := decide) [Vals.parts, laneFields, partsOf, idleSpareParts, Fld.ids_differ]) : t.csbUp = true :=
  (congrArg (· == 3) (h.rd hp)).trans hu

/-- The drip count stays while its fields are not written. -/
theorem Changes.drip {vs : Vals} {ps : List Part} {evs : List Ev} {outs : List Out} {s t : State}
    (h : Changes vs ps evs outs s t)
    (hp : Part.fld F.CLK_DRIP_LO_DRIP_LO 0 ∉ vs.parts ++ ps ∧ Part.fld F.CLK_DRIP_HI_DRIP_HI 0 ∉ vs.parts ++ ps := by
      simp (disch := decide) [Vals.parts, laneFields, partsOf, idleSpareParts, Fld.ids_differ]) : t.drip = s.drip := by
  obtain ⟨hlo, hhi⟩ := hp
  simp only [State.drip, h.rd hlo, h.rd hhi]

/-- The state of a spare that is not listed stays. -/
theorem Changes.spare {vs : Vals} {ps : List Part} {evs : List Ev} {outs : List Out} {s t : State} {k : Nat}
    (h : Changes vs ps evs outs s t) (hp : Part.spare k ∉ ps := by simp [laneFields, partsOf, idleSpareParts]) :
    t.spare k = s.spare k :=
  h.only (.spare k) (by simpa [Vals.parts] using hp)

/-- A lane-side that is not listed stays. -/
theorem Changes.lane {vs : Vals} {ps : List Part} {evs : List Ev} {outs : List Out} {s t : State} {ls : Nat}
    (h : Changes vs ps evs outs s t) (hp : Part.lane ls ∉ ps := by simp [laneFields, partsOf, idleSpareParts]) :
    t.lane ls = s.lane ls :=
  h.only (.lane ls) (by simpa [Vals.parts] using hp)

/-- The link layer, where it is not listed, stays. -/
theorem Changes.csb {vs : Vals} {ps : List Part} {evs : List Ev} {outs : List Out} {s t : State}
    (h : Changes vs ps evs outs s t) (hp : Part.csb ∉ ps := by simp [laneFields, partsOf, idleSpareParts]) : t.csb = s.csb :=
  h.only .csb (by simpa [Vals.parts] using hp)

@[simp] theorem State.modSpare_spareState (s : State) (h k : Nat) (f : SpareSt → SpareSt) :
    (s.modSpare h f).spareState k = s.spareState k := rfl
@[simp] theorem State.spare_modSpare (s : State) (h : Nat) (f : SpareSt → SpareSt) :
    (s.modSpare h f).spare h = f (s.spare h) := s.spare_setSpare h _
@[simp] theorem State.modSpare_lane (s : State) (h ls : Nat) (f : SpareSt → SpareSt) :
    (s.modSpare h f).lane ls = s.lane ls := rfl
@[simp] theorem State.lane_modLane (s : State) (ls : Nat) (f : LaneSt → LaneSt) :
    (s.modLane ls f).lane ls = f (s.lane ls) := s.lane_setLane ls _
@[simp] theorem State.modLane_spare (s : State) (ls k : Nat) (f : LaneSt → LaneSt) :
    (s.modLane ls f).spare k = s.spare k := rfl

/-! A request that finds no spare (R177) -/

theorem State.noSpare_changes (s : State) (h : Nat) {x : Nat} (hx : s.rd F.SPARE_CNT_NOSPARE 0 = x) :
    Changes [(F.SPARE_CNT_NOSPARE, 0, min (x + 1) 0xFF), (F.SPARE_STAT_LAST_RES, h, 2)] [] [⟨56, h, 0, false⟩] [] s
      (s.noSpare h) :=
  ((s.inc_changes F.SPARE_CNT_NOSPARE 0 hx).trans (State.wr_changes _ F.SPARE_STAT_LAST_RES h 2 rfl)).trans
    (State.raise_changes _ 56 h 0)

/-! Requests sent and granted (R178) -/

section
variable (s : State) (h : Nat) {l n c : Nat}

theorem State.nameSpare_changes (hl : l < 32) (hn : n < 16) (hc : c < 16) :
    Changes [(F.SPARE_STAT_LANE, h, l), (F.SPARE_STAT_PORT, h, n), (F.SPARE_STAT_CAUSE, h, c)] [] [] [] s
      (s.nameSpare h l n c) :=
  ((s.wr_changes F.SPARE_STAT_LANE h l (Nat.mod_eq_of_lt hl)).trans
    (State.wr_changes _ F.SPARE_STAT_PORT h n (Nat.mod_eq_of_lt hn))).trans
    (State.wr_changes _ F.SPARE_STAT_CAUSE h c (Nat.mod_eq_of_lt hc))

/-- A spare that is asked for is named and awaits its answer. -/
theorem State.sendSpareReq_changes (hl : l < 32) (hn : n < 16) (hc : c < 16) :
    Changes [(F.SPARE_STAT_LANE, h, l), (F.SPARE_STAT_PORT, h, n), (F.SPARE_STAT_CAUSE, h, c), (F.SPARE_STAT_STATE, h, 2)]
      [.csb, .spare h] [] [] s (s.sendSpareReq h l n c) := by
  unfold State.sendSpareReq
  exact (((s.nameSpare_changes h hl hn hc).trans (State.wr_changes _ F.SPARE_STAT_STATE h 2 rfl)).trans
    (State.csbSend_changes _ 0x30 0 [h, l, n])).trans (State.modSpare_changes _ h _)

theorem State.sendSpareReq_spare (hl : l < 32) (hn : n < 16) (hc : c < 16) :
    (s.sendSpareReq h l n c).spare h = { s.spare h with asked := true, start := s.drip } := by
  have hsent := ((s.nameSpare_changes h hl hn hc).trans (State.wr_changes _ F.SPARE_STAT_STATE h 2 rfl)).trans
    (State.csbSend_changes _ 0x30 0 [h, l, n])
  unfold State.sendSpareReq
  rw [State.spare_modSpare, hsent.spare, hsent.drip]

theorem State.sendSpareReq_csb (hu : s.csbUp = true) (hl : l < 32) (hn : n < 16) (hc : c < 16) :
    (s.sendSpareReq h l n c).csb = queued0 s.csb 0x30 [h, l, n] := by
  have hup := ((s.nameSpare_changes h hl hn hc).trans (State.wr_changes _ F.SPARE_STAT_STATE h 2 rfl)).csbUp hu
  unfold State.sendSpareReq
  rw [State.csbSend_up hup]
  rfl

/-- A spare that is granted while a calibration step has an element of it out waits (R291). -/
theorem State.grantSpare_waits (hc : s.rd F.LANE_SLICE_STAT_CALSLICE (64 + h) ≠ 0x7F) :
    s.grantSpare h = ((s.wr F.SPARE_STAT_LAST_RES h 1).wr F.SPARE_STAT_STATE h 2).modSpare h fun p =>
      { p with asked := false, waits := true } :=
  if_neg (by rwa [State.rd_wr_fld _ _ (by decide)])

theorem State.grantSpare_starts (hc : s.rd F.LANE_SLICE_STAT_CALSLICE (64 + h) = 0x7F) :
    s.grantSpare h = (s.wr F.SPARE_STAT_LAST_RES h 1).shadowSpare h :=
  if_pos (by rwa [State.rd_wr_fld _ _ (by decide)])

end

/-! The requests of a drip (R177) -/

/-- The request of the lower lane comes first, in whatever order the two were raised. -/
theorem lowestReq_pair {α : Type} {x y : Nat × α} (h : x.1 < y.1) :
    lowestReq [x, y] = some x ∧ lowestReq [y, x] = some x := by
  simp [lowestReq, h.le, h.not_ge]

/-- The requests of a drip are taken from where they wait. -/
def State.dripRequestsTaken (s : State) (h : Nat) : State := s.modSpare h fun p => { p with wanted := [], peerWanted := [] }

section
variable (s : State) (k : Nat) {l n c m i d : Nat} (hidle : s.spareState k = 1)
include hidle

/-- Of two requests of the device for an IDLE spare the lower lane's is sent, and the other finds no spare. -/
theorem State.arbitrate_pair (hlm : l < m) (hpeer : (s.spare k).peerWanted = [])
    (hw : (s.spare k).wanted = [(l, n, c), (m, i, d)] ∨ (s.spare k).wanted = [(m, i, d), (l, n, c)])
    (hl : s.sparable l = some n) (hm : s.sparable m = some i) :
    s.arbitrate k = ((s.dripRequestsTaken k).noSpare k).sendSpareReq k l n c := by
  obtain ⟨hlow, hlow'⟩ := lowestReq_pair (x := (l, n, c)) (y := (m, i, d)) hlm
  rcases hw with hw | hw
  · simp [State.arbitrate, hw, hpeer, hl, hm, hidle, hlow, forEach, State.dripRequestsTaken]
  · simp [State.arbitrate, hw, hpeer, hl, hm, hidle, hlow', forEach, State.dripRequestsTaken, hlm.ne']

/-- A request of the switch ASIC beside one of the device is answered busy. -/
theorem State.arbitrate_busy (hw : (s.spare k).wanted = [(l, n, c)]) (hpeer : (s.spare k).peerWanted = [(m, i)])
    (hl : s.sparable l = some n) (hm : s.sparable m = some i) :
    s.arbitrate k = (((s.dripRequestsTaken k).noSpare k).answerSpare k m 1).sendSpareReq k l n c := by
  simp [State.arbitrate, hw, hpeer, hl, hm, hidle, lowestReq, forEach, State.dripRequestsTaken]

/-- A request of the switch ASIC alone is granted. -/
theorem State.arbitrate_guest (hw : (s.spare k).wanted = []) (hpeer : (s.spare k).peerWanted = [(m, i)])
    (hm : s.sparable m = some i) :
    s.arbitrate k = ((((s.dripRequestsTaken k).nameSpare k m i 5).answerSpare k m 0).modSpare k fun p =>
      { p with start := (((s.dripRequestsTaken k).nameSpare k m i 5).answerSpare k m 0).drip }).grantSpare k := by
  simp [State.arbitrate, hw, hpeer, hm, hidle, lowestReq, forEach, State.dripRequestsTaken]

end

end Sys2Proof.Machine
end

section
/-! The copy that a spare sends of a lane (R178): a lane-side takes over the settings of another, and starts to send and to
acquire. -/
namespace Sys2Proof.Machine

/-! Values written anew -/

/-- An entry that reads differently from what its key reads as when unlisted is listed. -/
theorem SMap.get_of_listed {α : Type} {m : SMap α} {k : Nat} {d v : α} (h : m.get k d = v) (hv : v ≠ d) (e : α) :
    m.get k e = v := by
  induction m with
  | nil => exact absurd h.symm hv
  | cons x t ih =>
    obtain ⟨j, u⟩ := x
    by_cases hj : j = k
    · simpa [SMap.get, hj] using h
    · simp only [SMap.get, if_neg hj] at h ⊢
      exact ih h

/-- Writing to a field the value that it holds changes nothing, where that is not its reset value. -/
theorem State.wr_same_changes {s : State} {f : Fld} {i v : Nat} (h : s.rd f i = v) (hr : v ≠ f.reset i) (hw : v % 2 ^ f.w = v) :
    Changes [] [] [] [] s (s.wr f i v) := by
  refine Within.changes (ps := []) ⟨fun p _ => ?_, rfl⟩
  by_cases hp : p = .fld f i
  · subst hp
    refine fun e => (SMap.get_of_listed (d := f.reset i) ?_ hr e).trans (SMap.get_of_listed h hr e).symm
    exact (SMap.get_set_self _ _ _ _).trans hw
  · exact Part.same_wr s f i v hp

/-! What leaves the width codes leaves the ports on their lanes (R26) -/

theorem F.quadCode_ne (q : Nat) {f : Fld} (h : f.id.val < 616 ∨ 623 < f.id.val) : ((F.quadCode q).id = f.id) = False := by
  obtain ⟨hlo, hhi⟩ := F.quadCode_layout q
  exact eq_false fun he => by
    rw [he] at hlo hhi
    omega

theorem Changes.portOfLane {vs : Vals} {ps : List Part} {evs : List Ev} {outs : List Out} {s t : State}
    (h : Changes vs ps evs outs s t) (l : Nat) (hp : ∀ q, Part.fld (F.quadCode q) 0 ∉ vs.parts ++ ps := by
      simp (disch := decide) [Vals.parts, laneFields, partsOf, idleSpareParts, F.quadCode_ne]) :
    t.portOfLane l = s.portOfLane l := by
  have hq : t.qcode = s.qcode := funext fun q => h.rd (hp q)
  simp only [State.portOfLane, hq]

/-! Lane-sides -/

section
variable (s : State) (ls : Nat)

theorem State.setAstate_changes {v : Nat} (h : v < 8) :
    Changes [(F.LANE_RX_STAT_ASTATE, ls, v)] [] [] [] s (s.setAstate ls v) :=
  ⟨.cons (s.setAstate_code ls v h) (.nil _), (s.setAstate_only ls v).mono (by simp [Vals.parts]),
    by simp, by simp⟩

section
variable {ls : Nat} {on : Bool} (h : (s.lane ls).tx ≠ on)
include h

theorem State.setTx_changes : Changes [] [.lane ls] [] [.txIdle ls (!on)] s (s.setTx on ls) := by
  rw [State.setTx_flips s h]
  exact (s.modLane_changes ls _).trans (State.emit_changes _ _)

theorem State.setTx_lane : (s.setTx on ls).lane ls = { s.lane ls with tx := on } := by
  rw [State.setTx_flips s h]
  exact s.lane_modLane ls fun l => { l with tx := on }

end

theorem State.laneOff_changes : Changes [(F.LANE_RX_STAT_ASTATE, ls, 0), (F.LANE_RX_STAT_CDR_LOCK, ls, 0),
    (F.LANE_RX_STAT_SIGDET, ls, 0)] (.lane ls :: partsOf [F.LANE_SLICE_STAT_MARG, F.LANE_SLICE_STAT_CALSLICE] ls) [] [] s
    (s.laneOff ls) :=
  (((s.endMargin_within ls).changes.trans (State.setAstate_changes _ ls (by decide))).trans
    (State.wr_changes _ F.LANE_RX_STAT_CDR_LOCK ls 0 rfl)).trans (State.wr_changes _ F.LANE_RX_STAT_SIGDET ls 0 rfl)

end

/-! The settings of one lane-side taken over by another (R178) -/

section
variable (s : State) {src dst : Nat}

/-- Fields of one lane-side take over the values of another's. -/
def State.copyFields (s : State) (src dst : Nat) (fs : List Fld) : State := fs.foldl (fun a f => a.wr f dst (a.rd f src)) s

theorem State.copyFields_within (fs : List Fld) : Within (partsOf fs dst) s (s.copyFields src dst fs) := by
  induction fs generalizing s with
  | nil => exact .refl _ s
  | cons f t ih =>
    have h : Within [.fld f dst] s (s.wr f dst (s.rd f src)) := ⟨s.wr_only f dst _, rfl⟩
    exact (h.mono (by simp [partsOf])).trans ((ih _).mono fun p hp => List.mem_cons_of_mem _ hp)

theorem State.rd_copyFields {fs : List Fld} {f : Fld} (hne : dst ≠ src) (hf : f ∈ fs) (hd : IdsDistinct fs) :
    (s.copyFields src dst fs).rd f dst = s.rd f src % 2 ^ f.w := by
  induction fs generalizing s with
  | nil => cases hf
  | cons g t ih =>
    have hkept : (s.wr g dst (s.rd g src)).rd f src = s.rd f src := s.rd_wr_inst _ hne
    have hdt : IdsDistinct t := fun x hx y hy => hd x (by simp [hx]) y (by simp [hy])
    by_cases ht : f ∈ t
    · exact (ih _ ht hdt).trans (by rw [hkept])
    · obtain rfl : f = g := (List.mem_cons.1 hf).resolve_right ht
      refine (((s.wr f dst _).copyFields_within (src := src) t).only.rd ?_).trans (s.rd_wr_self f dst _)
      exact fld_notMem_partsOf fun g hg he => ht (hd f (by simp) g (by simp [hg]) he ▸ hg)

/-- The fields whose values a lane-side takes over. -/
def takenFields : List Fld := [F.LANE_RX_EQ_FFE_P1, F.LANE_RX_EQ_FFE_M1, F.LANE_RX_EQ_DFE1, F.LANE_RX_EQ_CTLE,
  F.LANE_EQ_STAT_PRESET, F.LANE_EQ_STAT_CP1, F.LANE_EQ_STAT_C0, F.LANE_EQ_STAT_CM1, F.LANE_EQ_STAT_CM2,
  F.LANE_RX_STAT_LOGICAL, F.LANE_RX_STAT_POL_DET]

/-- What a lane-side takes over beside its fields. -/
def LaneSt.takeOver (x y : LaneSt) : LaneSt :=
  { y with rate := x.rate, comp := x.comp, stored := x.stored, converged := false }

theorem State.takeOver_eq :
    s.takeOver src dst = (s.copyFields src dst takenFields).modLane dst (s.lane src).takeOver := by
  rw [← show (s.copyFields src dst takenFields).lane src = s.lane src from
    (s.copyFields_within takenFields).only (.lane src) (by simp [partsOf])]
  rfl

theorem State.takeOver_changes (hne : dst ≠ src) : Changes [(F.LANE_EQ_STAT_C0, dst, s.rd F.LANE_EQ_STAT_C0 src % 64)]
    (.lane dst :: laneFields [dst] [F.LANE_RX_EQ_FFE_P1, F.LANE_RX_EQ_FFE_M1, F.LANE_RX_EQ_DFE1, F.LANE_RX_EQ_CTLE,
      F.LANE_EQ_STAT_PRESET, F.LANE_EQ_STAT_CP1, F.LANE_EQ_STAT_CM1, F.LANE_EQ_STAT_CM2, F.LANE_RX_STAT_LOGICAL,
      F.LANE_RX_STAT_POL_DET]) [] [] s (s.takeOver src dst) := by
  have hcopied := (s.copyFields_within (src := src) (dst := dst) takenFields).changes.trans
    (State.modLane_changes _ dst (s.lane src).takeOver)
  rw [State.takeOver_eq]
  have hc0 : (s.copyFields src dst takenFields).rd F.LANE_EQ_STAT_C0 dst = s.rd F.LANE_EQ_STAT_C0 src % 64 :=
    s.rd_copyFields hne (by simp [takenFields]) (by decide)
  refine ⟨.cons ((State.modLane_changes _ dst _).rd.trans hc0) (.nil _), hcopied.only.mono ?_, hcopied.raised, hcopied.out⟩
  simp +contextual [partsOf, laneFields, takenFields, Vals.parts, or_imp]

theorem State.takeOver_lane : (s.takeOver src dst).lane dst = (s.lane src).takeOver (s.lane dst) := by
  rw [State.takeOver_eq, State.lane_modLane]
  exact congrArg _ ((s.copyFields_within takenFields).only (.lane dst) (by simp [partsOf]))

end

/-! The copy starts (R178) -/

/-- A spare whose copy starts. -/
def SpareSt.copyStarts (p : SpareSt) : SpareSt :=
  { p with asked := false, waits := false, copying := true, tracked := false }

/-- The spare sends a copy of the lane that it names, and its receiver starts to acquire. -/
def State.copySent (s : State) (h : Nat) : State :=
  (((s.takeOver (innerLs (s.spareLane h)) (64 + h)).setTx true (64 + h)).setAstate (64 + h) 2).wr F.SPARE_STAT_STATE h 3

theorem State.shadowSpare_eq (s : State) (h : Nat) : s.shadowSpare h = (s.copySent h).modSpare h SpareSt.copyStarts :=
  rfl

section
variable {s : State} {h l c0 : Nat} (hl : s.spareLane h = l) (hlt : l < 32) (htx : (s.lane (64 + h)).tx = false)
include hl hlt htx

theorem State.copySent_changes (hc0 : s.rd F.LANE_EQ_STAT_C0 (innerLs l) % 64 = c0) :
    Changes [(F.LANE_EQ_STAT_C0, 64 + h, c0), (F.LANE_RX_STAT_ASTATE, 64 + h, 2), (F.SPARE_STAT_STATE, h, 3)]
      (.lane (64 + h) :: laneFields [64 + h] [F.LANE_RX_EQ_FFE_P1, F.LANE_RX_EQ_FFE_M1, F.LANE_RX_EQ_DFE1, F.LANE_RX_EQ_CTLE,
        F.LANE_EQ_STAT_PRESET, F.LANE_EQ_STAT_CP1, F.LANE_EQ_STAT_CM1, F.LANE_EQ_STAT_CM2, F.LANE_RX_STAT_LOGICAL,
        F.LANE_RX_STAT_POL_DET]) [] [.txIdle (64 + h) false] s (s.copySent h) := by
  subst hl hc0
  have hne : 64 + h ≠ innerLs (s.spareLane h) := by unfold innerLs; omega
  have hon := State.setTx_changes (s.takeOver (innerLs (s.spareLane h)) (64 + h)) (on := true) (ls := 64 + h)
    (by simp [State.takeOver_lane, LaneSt.takeOver, htx])
  have hsent := (((s.takeOver_changes hne).trans hon).trans (State.setAstate_changes _ (64 + h) (v := 2) (by decide))).trans
    (State.wr_changes _ F.SPARE_STAT_STATE h 3 rfl)
  exact hsent.mono (by simp) (by simp +contextual [laneFields, Vals.parts, or_imp])

omit hlt in
theorem State.copySent_lane : (s.copySent h).lane (64 + h) =
    { (s.lane (innerLs l)).takeOver (s.lane (64 + h)) with tx := true } := by
  subst hl
  have hoff : ((s.takeOver (innerLs (s.spareLane h)) (64 + h)).lane (64 + h)).tx ≠ true := by
    simp [State.takeOver_lane, LaneSt.takeOver, htx]
  have hon := (((State.setAstate_changes _ (64 + h) (v := 2) (by decide)).trans
    (State.wr_changes _ F.SPARE_STAT_STATE h 3 rfl)).lane (ls := 64 + h)).trans
    (State.setTx_lane _ hoff)
  exact hon.trans (by rw [State.takeOver_lane])

/-- A grant that finds no element of the spare out for calibration starts the copy. -/
theorem State.grantSpare_copies (hcal : s.rd F.LANE_SLICE_STAT_CALSLICE (64 + h) = 0x7F)
    (hc0 : s.rd F.LANE_EQ_STAT_C0 (innerLs l) % 64 = c0) :
    Changes [(F.SPARE_STAT_STATE, h, 3), (F.SPARE_STAT_LAST_RES, h, 1), (F.LANE_RX_STAT_ASTATE, 64 + h, 2),
      (F.LANE_EQ_STAT_C0, 64 + h, c0)] (.spare h :: .lane (64 + h) :: laneFields [64 + h] [F.LANE_RX_EQ_FFE_P1,
      F.LANE_RX_EQ_FFE_M1, F.LANE_RX_EQ_DFE1, F.LANE_RX_EQ_CTLE, F.LANE_EQ_STAT_PRESET, F.LANE_EQ_STAT_CP1,
      F.LANE_EQ_STAT_CM1, F.LANE_EQ_STAT_CM2, F.LANE_RX_STAT_LOGICAL, F.LANE_RX_STAT_POL_DET]) [] [.txIdle (64 + h) false] s
      (s.grantSpare h) ∧
    (s.grantSpare h).spare h = (s.spare h).copyStarts ∧
    (s.grantSpare h).lane (64 + h) = { (s.lane (innerLs l)).takeOver (s.lane (64 + h)) with tx := true } := by
  have hres := s.wr_changes F.SPARE_STAT_LAST_RES h 1 rfl
  have hsent := hres.trans (State.copySent_changes (hres.rd.trans hl) hlt htx ((congrArg (· % 64) hres.rd).trans hc0))
  have hlane := State.copySent_lane (hres.rd.trans hl) htx
  rw [s.grantSpare_starts h hcal, State.shadowSpare_eq]
  generalize (s.wr F.SPARE_STAT_LAST_RES h 1).copySent h = t at hsent hlane ⊢
  have hcopy := hsent.trans (State.modSpare_changes t h SpareSt.copyStarts)
  exact ⟨hcopy.mono (by simp) (by simp +contextual [Vals.parts, or_imp]), by rw [State.spare_modSpare, hsent.spare], hlane⟩

end

end Sys2Proof.Machine
end

section
/-! A spare that serves no lane (R180, R181): the end of its copy, and of a procedure not yet ACTIVE. -/
namespace Sys2Proof.Machine

/-- A spare that is for a lane of a port and sends no copy. -/
structure NoCopy (s : State) (k l n : Nat) : Prop where
  lane : s.spareLane k = l
  port : s.portOfLane l = some n
  silent : (s.lane (64 + k)).tx = false

/-- A spare that sends no copy goes on so while neither its lane nor the width codes nor its lane-side change. -/
theorem Changes.noCopy {vs : Vals} {ps : List Part} {evs : List Ev} {outs : List Out} {s t : State} {k l n : Nat}
    (h : Changes vs ps evs outs s t) (hu : NoCopy s k l n) (hp : (∀ q, Part.fld (F.quadCode q) 0 ∉ vs.parts ++ ps) ∧
      Part.fld F.SPARE_STAT_LANE k ∉ vs.parts ++ ps ∧ Part.lane (64 + k) ∉ ps := by
        simp (disch := decide) [Vals.parts, partsOf, F.quadCode_ne, Fld.ids_differ]) : NoCopy t k l n := by
  obtain ⟨hq, hl, hk⟩ := hp
  refine ⟨(h.rd hl).trans hu.lane, (h.portOfLane l hq).trans hu.port, ?_⟩
  rw [h.lane hk]
  exact hu.silent

/-- SP0 or SP1 of the port. -/
theorem State.markSpare_changes {s : State} {k n : Nat} (hp : s.portOfLane (s.spareLane k) = some n) (on : Bool) :
    Changes [(if k = 0 then F.CMP_PORT_STAT_SP0 else F.CMP_PORT_STAT_SP1, n, b2n on)] [] [] [] s (s.markSpare k on) := by
  rw [show s.markSpare k on = s.wrB (if k = 0 then F.CMP_PORT_STAT_SP0 else F.CMP_PORT_STAT_SP1) n on by
    simp only [State.markSpare, hp]]
  exact s.wr_changes _ n (b2n on) (by cases on <;> split <;> rfl)

/-- The lane's own receiver is in service again where its port is enabled (R181). -/
def State.ownReceiver (s : State) (l : Nat) : State :=
  match s.portOfLane l with
  | some n => if s.rd F.LANE_RX_STAT_ASTATE (innerLs l) = 0 ∧ s.portEn n then s.setAstate (innerLs l) 1 else s
  | none => s

theorem State.ownReceiver_within (s : State) (l : Nat) :
    Within [.fld F.LANE_RX_STAT_ASTATE (innerLs l)] s (s.ownReceiver l) := by
  unfold State.ownReceiver
  split
  · exact .ite (s.setAstate_within _ 1) (.refl _ s)
  · exact .refl _ s

section
variable {s : State} {k l n : Nat} (hu : NoCopy s k l n)
include hu

theorem State.spareIdle_noCopy : s.spareIdle k =
    ((((s.laneOff (64 + k)).wr F.SPARE_STAT_STATE k 1).ownReceiver l).markSpare k false).modSpare k fun _ => {} := by
  obtain ⟨rfl, -, htx⟩ := hu
  simp only [State.spareIdle, State.setTx, htx, Bool.false_and, Bool.false_eq_true, if_false, if_true]
  rfl

/-- It is IDLE, its lane-side is OFF, and the lane's own receiver is in service. -/
theorem State.spareIdle_changes : Changes [(F.SPARE_STAT_STATE, k, 1)] (.spare k :: idleSpareParts k l n) [] [] s
    (s.spareIdle k) := by
  have hdown : Changes [] (.lane (64 + k) :: laneFields [64 + k] [F.LANE_RX_STAT_ASTATE, F.LANE_RX_STAT_CDR_LOCK,
      F.LANE_RX_STAT_SIGDET, F.LANE_SLICE_STAT_MARG, F.LANE_SLICE_STAT_CALSLICE]) [] [] s (s.laneOff (64 + k)) :=
    (s.laneOff_changes (64 + k)).mono (by simp) (by simp [laneFields, partsOf, Vals.parts])
  have hoff := (hdown.trans (State.wr_changes _ F.SPARE_STAT_STATE k 1 rfl)).trans (State.ownReceiver_within _ l).changes
  have hport : State.portOfLane _ (State.spareLane _ k) = some n :=
    (hoff.portOfLane _).trans ((congrArg s.portOfLane (hoff.rd.trans hu.lane)).trans hu.port)
  have hflag : Changes [] (partsOf [F.CMP_PORT_STAT_SP0, F.CMP_PORT_STAT_SP1] n) [] [] _ _ :=
    (State.markSpare_changes hport false).mono (by simp) (by split <;> simp [partsOf, Vals.parts])
  rw [State.spareIdle_noCopy hu]
  have hidle := (hoff.trans hflag).trans (State.modSpare_changes _ k fun _ => {})
  exact hidle.mono (by simp) (by simp +contextual [idleSpareParts, laneFields, partsOf, Vals.parts, or_imp])

theorem State.spareIdle_spare : (s.spareIdle k).spare k = {} := by
  rw [State.spareIdle_noCopy hu, State.spare_modSpare]

end

/-! A procedure not yet ACTIVE, abandoned while both receivers use the lane (R180) -/

/-- No receiver uses the spare, and its procedure is not over. -/
structure Unused (s : State) (k : Nat) : Prop where
  running : (s.spare k).ending = false
  own : (s.spare k).rxOwn = false
  peer : (s.spare k).rxPeer = false

/-- A failure is counted and reported. -/
def State.spareFails (s : State) (k res : Nat) : State :=
  ((s.inc F.SPARE_CNT_FAIL 0).wr F.SPARE_STAT_LAST_RES k res).raise 55 k 0

theorem State.spareFails_changes (s : State) (k : Nat) {res x : Nat} (hr : res < 16) (hx : s.rd F.SPARE_CNT_FAIL 0 = x) :
    Changes [(F.SPARE_CNT_FAIL, 0, min (x + 1) 0xFF), (F.SPARE_STAT_LAST_RES, k, res)] [] [⟨55, k, 0, false⟩] [] s
      (s.spareFails k res) :=
  ((s.inc_changes F.SPARE_CNT_FAIL 0 hx).trans (State.wr_changes _ F.SPARE_STAT_LAST_RES k res (Nat.mod_eq_of_lt hr))).trans
    (State.raise_changes _ 55 k 0)

section
variable {s : State} {k l n res x : Nat} (hu : Unused s k) (hst : s.spareState k = 2 ∨ s.spareState k = 3)
include hu hst

/-- The procedure is over at once. -/
theorem State.abandonSpare_unused (res : Nat) :
    ∃ f, s.abandonSpare k res false = ((s.spareFails k res).modSpare k f).spareIdle k := by
  obtain ⟨hend, hown, hpeer⟩ := hu
  refine ⟨fun p => { p with asked := false, waits := false, ending := true, rxOwn := p.rxOwn && !false,
                            rxPeer := p.rxPeer && !false && (s.spareFails k res).csbUp }, ?_⟩
  have hkept : (s.spareFails k res).spare k = s.spare k := rfl
  have hfails : ((s.inc F.SPARE_CNT_FAIL 0).wr F.SPARE_STAT_LAST_RES k res).raise 55 k 0 = s.spareFails k res := rfl
  simp only [State.abandonSpare, if_pos hst, hend, Bool.false_eq_true, if_false, Bool.false_and, hfails, hkept, hpeer]
  simp [State.spareEnd, hkept, hown, hpeer]

theorem State.abandonSpare_changes (hn : NoCopy s k l n) (hr : res < 16) (hx : s.rd F.SPARE_CNT_FAIL 0 = x) :
    Changes [(F.SPARE_STAT_STATE, k, 1), (F.SPARE_STAT_LAST_RES, k, res), (F.SPARE_CNT_FAIL, 0, min (x + 1) 0xFF)]
      (.spare k :: idleSpareParts k l n) [⟨55, k, 0, false⟩] [] s (s.abandonSpare k res false) := by
  obtain ⟨f, hf⟩ := State.abandonSpare_unused hu hst res
  have hfailed := (s.spareFails_changes k hr hx).trans (State.modSpare_changes _ k f)
  have hidle := hfailed.trans (State.spareIdle_changes (hfailed.noCopy hn))
  rw [hf]
  exact hidle.mono (by simp) (by simp +contextual [Vals.parts])

theorem State.abandonSpare_spare (hn : NoCopy s k l n) (hr : res < 16) : (s.abandonSpare k res false).spare k = {} := by
  obtain ⟨f, hf⟩ := State.abandonSpare_unused hu hst res
  have hfailed := (s.spareFails_changes k hr rfl).trans (State.modSpare_changes _ k f)
  rw [hf]
  exact State.spareIdle_spare (hfailed.noCopy hn)

end

/-- A request that is refused, or not answered, is counted and its procedure abandoned (R178, R180). -/
theorem State.spareRefused_changes {s : State} {k l n res x y : Nat} (hu : Unused s k) (hst : s.spareState k = 2)
    (hn : NoCopy s k l n) (hr : res < 16) (hx : s.rd F.SPARE_CNT_FAIL 0 = x) (hy : s.rd F.SPARE_CNT_REFUSED 0 = y) :
    Changes [(F.SPARE_STAT_STATE, k, 1), (F.SPARE_STAT_LAST_RES, k, res), (F.SPARE_CNT_REFUSED, 0, min (y + 1) 0xFF),
      (F.SPARE_CNT_FAIL, 0, min (x + 1) 0xFF)] (.spare k :: idleSpareParts k l n) [⟨55, k, 0, false⟩] [] s
      (s.spareRefused k res) ∧ (s.spareRefused k res).spare k = {} := by
  have hcount := s.inc_changes F.SPARE_CNT_REFUSED 0 hy
  have hst' : (s.inc F.SPARE_CNT_REFUSED 0).spareState k = 2 := hcount.rd.trans hst
  have hu' : Unused (s.inc F.SPARE_CNT_REFUSED 0) k := ⟨hu.running, hu.own, hu.peer⟩
  have hn' := hcount.noCopy hn
  have hover := hcount.trans (State.abandonSpare_changes hu' (.inl hst') hn' hr (hcount.rd.trans hx))
  exact ⟨hover.mono (by simp) (by simp +contextual [Vals.parts, or_imp]),
    State.abandonSpare_spare hu' (.inl hst') hn' hr⟩

/-- A request that is answered busy frees the spare and finds none (R177, R178). -/
theorem State.spareBusy_changes {s : State} {k l n x : Nat} (hn : NoCopy s k l n) (hx : s.rd F.SPARE_CNT_NOSPARE 0 = x) :
    Changes [(F.SPARE_STAT_STATE, k, 1), (F.SPARE_STAT_LAST_RES, k, 2), (F.SPARE_CNT_NOSPARE, 0, min (x + 1) 0xFF)]
      (.spare k :: idleSpareParts k l n) [⟨56, k, 0, false⟩] [] s ((s.spareIdle k).noSpare k) := by
  have hidle := State.spareIdle_changes hn
  exact (hidle.trans (State.noSpare_changes _ k (hidle.rd.trans hx))).mono (by simp) (by simp +contextual [Vals.parts])

end Sys2Proof.Machine
end

section
/-! O29: the requests of one drip (R174, R177, R178). -/
namespace Sys2Proof.Machine

theorem State.dripRequestsTaken_changes (s : State) (k : Nat) : Changes [] [.spare k] [] [] s (s.dripRequestsTaken k) :=
  s.modSpare_changes k _

theorem State.dripRequestsTaken_spare (s : State) (k : Nat) :
    (s.dripRequestsTaken k).spare k = { s.spare k with wanted := [], peerWanted := [] } := s.spare_modSpare k _

theorem State.answerSpare_changes (s : State) (k l res : Nat) : Changes [] [.csb] [] [] s (s.answerSpare k l res) :=
  s.csbSend_changes 0x31 0 [k, l, res]

theorem State.answerSpare_csb {s : State} (h : s.csbUp = true) (k l res : Nat) :
    (s.answerSpare k l res).csb = queued0 s.csb 0x31 [k, l, res] := by
  rw [State.answerSpare, State.csbSend_up h]
  rfl

/-- Settles O29: of the requests of a drip one is sent or granted, and the others are answered (`State.arbitrate_pair`,
`State.arbitrate_busy`, `State.arbitrate_guest`). -/
theorem spareRequestsAreArbitrated : Obligations.SpareRequestsAreArbitrated := by
  unfold Obligations.SpareRequestsAreArbitrated
  refine ⟨fun s k l n c m i d ⟨_, hlm, hm, hn, _, hc⟩ ⟨hq, hst, hu, hpeer⟩ hw ⟨hsl, hsm⟩ => ?pair,
    fun s k l n c m i ⟨_, hl, _, hn, _, hc⟩ ⟨hq, hst, hu⟩ ⟨hw, hpeer, hsl, hsm⟩ => ?busy,
    fun s k m i ⟨_, hm, hi⟩ ⟨hst, hu, hcal⟩ ⟨hw, hpeer, hsm⟩ => ?guest⟩
  case pair =>
    have hl : l < 32 := hlm.trans hm
    have hc' : c < 16 := by omega
    have hfree := (s.dripRequestsTaken_changes k).trans (State.noSpare_changes _ k (x := s.rd F.SPARE_CNT_NOSPARE 0) rfl)
    have hsent := hfree.trans (State.sendSpareReq_changes _ k hl hn hc')
    rw [s.arbitrate_pair k hst hlm hpeer hw hsl hsm]
    refine hsent.leaves ⟨?_, ?_, ?_⟩
    · rw [hsent.raised, hq]
      rfl
    · rw [State.sendSpareReq_csb _ k (hfree.csbUp hu) hl hn hc', hfree.csb]
    · rw [State.sendSpareReq_spare _ k hl hn hc', hfree.drip, ((s.dripRequestsTaken k).noSpare_changes k rfl).spare]
      simp [State.dripRequestsTaken, ← hpeer]
  case busy =>
    have hc' : c < 16 := by omega
    have hfree := (s.dripRequestsTaken_changes k).trans (State.noSpare_changes _ k (x := s.rd F.SPARE_CNT_NOSPARE 0) rfl)
    have hbusy := hfree.trans (State.answerSpare_changes _ k m 1)
    have hsent := hbusy.trans (State.sendSpareReq_changes _ k hl hn hc')
    rw [s.arbitrate_busy k hst hw hpeer hsl hsm]
    refine hsent.leaves ⟨?_, ?_, ?_⟩
    · rw [hsent.raised, hq]
      rfl
    · rw [State.sendSpareReq_csb _ k (hbusy.csbUp hu) hl hn hc', State.answerSpare_csb (hfree.csbUp hu), hfree.csb]
    · rw [State.sendSpareReq_spare _ k hl hn hc']
  case guest =>
    have hnamed := (s.dripRequestsTaken k).nameSpare_changes k hm hi (c := 5) (by decide)
    have hname := (s.dripRequestsTaken_changes k).trans hnamed
    have hanswer := hname.trans (State.answerSpare_changes _ k m 0)
    have hspare := (hnamed.trans (State.answerSpare_changes _ k m 0)).spare.trans (s.dripRequestsTaken_spare k)
    rw [s.arbitrate_guest k hst hw hpeer hsm]
    have hcsb := State.answerSpare_csb (hname.csbUp hu) k m 0
    generalize ((s.dripRequestsTaken k).nameSpare k m i 5).answerSpare k m 0 = t at hanswer hspare hcsb ⊢
    have hstart : Changes [] [.spare k] [] [] t (t.modSpare k fun p => { p with start := t.drip }) := t.modSpare_changes k _
    have hfound := hanswer.trans hstart
    rw [State.grantSpare_waits _ k fun he => hcal (hfound.rd.symm.trans he)]
    have hgrant := (hfound.trans (State.wr_changes _ F.SPARE_STAT_LAST_RES k 1 rfl)).trans
      (State.wr_changes _ F.SPARE_STAT_STATE k 2 rfl)
    refine (hgrant.trans (State.modSpare_changes _ k _)).leaves_quiet ⟨?_, ?_⟩
    · rw [← hname.csb, ← hcsb]
      rfl
    · simp [hspare, hanswer.drip, hw]

end Sys2Proof.Machine
end

section
/-! O28: requests for a spare (R172, R174, R176 to R178, R181). -/
namespace Sys2Proof.Machine

theorem State.sparable_associated {s : State} {l n : Nat} (h : s.sparable l = some n) : s.associated n = true := by
  unfold State.sparable at h
  split at h
  · split at h
    · obtain rfl : _ = n := Option.some.inj h
      simp_all
    · cases h
  · cases h

/-! Manual requests (R176) -/

theorem State.spareManual_waits {s : State} {l n : Nat} (hs : s.sparable l = some n) (hst : s.spareState (halfOf l) = 1) :
    s.spareManual l = s.modSpare (halfOf l) fun p => { p with wanted := p.wanted ++ [(l, n, 0)] } := by
  simp [State.spareManual, hs, State.askSpare, hst]

theorem State.spareManual_noSpare {s : State} {l n : Nat} (hs : s.sparable l = some n) (hst : s.spareState (halfOf l) ≠ 1) :
    s.spareManual l = s.noSpare (halfOf l) := by
  simp [State.spareManual, hs, State.askSpare, hst]

theorem State.spareManual_refused {s : State} {l : Nat} (hs : s.sparable l = none) :
    s.spareManual l = s.wr F.SPARE_STAT_LAST_RES (halfOf l) 7 := by
  simp [State.spareManual, hs]

/-! Answers (R178) -/

theorem State.spareRsp_unasked {s : State} {k : Nat} (h : (s.spare k).asked = false) (l res : Nat) :
    s.spareRsp k l res = s := if_pos (.inl (by simp [h]))

theorem State.spareRsp_requested {s : State} {k l : Nat} (ha : (s.spare k).asked = true) (hl : s.spareLane k = l)
    (hst : s.spareState k = 2) : s.spareRsp k l 0 = s.grantSpare k ∧ s.spareRsp k l 1 = (s.spareIdle k).noSpare k ∧
      s.spareRsp k l 2 = s.spareRefused k 3 := by
  simp [State.spareRsp, ha, hl, hst]

theorem State.spareRspTimeout_requested {s : State} {k : Nat} (ha : (s.spare k).asked = true) (hst : s.spareState k = 2) :
    s.spareRspTimeout k = s.spareRefused k 4 := by
  simp [State.spareRspTimeout, ha, hst]

/-! Requests of the switch ASIC (R174) -/

theorem State.spareReq_waits {s : State} {k l n : Nat} (hn : n < 16) (hl : l < 32) (hp : s.present n = true)
    (hen : s.flag F.SPARE_CFG_SW_REQ_EN 0 = true) (hs : s.sparable l = some n) (hk : k = halfOf l) (hst : s.spareState k = 1) :
    s.spareReq k l n = s.modSpare k fun p => { p with peerWanted := p.peerWanted ++ [(l, n)] } := by
  subst hk
  simp [State.spareReq, hn.not_ge, hl.not_ge, hp, State.sparable_associated hs, hen, hs, hst]

theorem State.spareReq_refused {s : State} {n : Nat} (hn : n < 16) (hp : s.present n = true) (ha : s.associated n = true)
    (hen : s.flag F.SPARE_CFG_SW_REQ_EN 0 = false) (k l : Nat) : s.spareReq k l n = s.answerSpare k l 2 := by
  simp [State.spareReq, hn.not_ge, hp, ha, hen]

theorem State.spareReq_unexpected {s : State} {n : Nat} (h : 16 ≤ n ∨ s.present n = false ∨ s.associated n = false)
    (k l : Nat) : s.spareReq k l n = s.unexp := if_pos (by simpa using h)

theorem Wf.spareRsp_inOrder {s : State} {h : CsbHdr} {k l res : Nat} (hi : InOrder s h) (hk : k < 2) (hl : l < 256)
    (hr : res < 256) : Wf.spareRsp h k l res = true := by
  simp [Wf.spareRsp, CsbHdr.wf_of_inOrder hi, hk, hl, hr]

theorem Wf.spareReq_inOrder {s : State} {h : CsbHdr} {k l n : Nat} (hi : InOrder s h) (hk : k < 2) (hl : l < 256)
    (hn : n < 256) : Wf.spareReq h k l n = true := by
  simp [Wf.spareReq, CsbHdr.wf_of_inOrder hi, hk, hl, hn]

/-- Settles O28: a request is queued for its drip or refused, and an answer starts the copy, lets it wait, or ends the
procedure, each with the changes of one operation on the spare. -/
theorem sparesAreRequestedAndAnswered : Obligations.SparesAreRequestedAndAnswered := by
  unfold Obligations.SparesAreRequestedAndAnswered
  refine ⟨fun s r l n k hr ⟨hl, _, hk⟩ ⟨hs, hst⟩ => ?waits, fun s r l hr hl hs => ?unsparable,
    fun s r l n k hr ⟨hl, _, hk⟩ ⟨hs, hst⟩ => ?inUse,
    fun s h k l hi ⟨hk, hl⟩ ⟨ha, hlane, hst, htx, _, hcal⟩ => ?granted,
    fun s h k l hi ⟨hk, hl⟩ ⟨ha, hlane, hst, hcal⟩ => ?calibrating,
    fun s h k l n hi ⟨hk, hl, _⟩ ⟨ha, hlane, hst, htx, hp⟩ => ?busy,
    fun s h k l n hi ⟨hk, hl, _⟩ ⟨ha, hend, hown, hpeer, hlane, hst, htx, hp⟩ => ?refused,
    fun s h k l res hi ⟨hk, hl, hres⟩ ha => ?unasked,
    fun s k l n hq ⟨hk, _, _⟩ ⟨ha, hend, hown, hpeer, hlane, hst, htx, hp⟩ => ?unanswered,
    fun s k hq hk ha => ?nothingAwaited,
    fun s h k l n hi ⟨hk, hl, hn⟩ ⟨hen, hs, hp, hhalf, hst⟩ => ?peerWaits,
    fun s h k l n hi ⟨hk, hl, hn⟩ ⟨hen, hp, ha⟩ => ?peerRefused,
    fun s h k l n hi ⟨hk, hl, hn⟩ hno => ?peerUnexpected⟩
  case waits =>
    subst hk
    have hwaits := State.spareManual_waits (s := s.begun) hs hst
    refine Changes.gives_core (k := fun a => a.spareManual l) ?_ (exec_spareCtlReq s r l)
      (by simpa [Wf.spareCtlReq] using hl) hr ?_
    · exact hwaits ▸ State.modSpare_changes _ _ _
    · rw [hwaits]
      exact s.begun.spare_modSpare _ fun p => { p with wanted := p.wanted ++ [(l, n, 0)] }
  case unsparable =>
    have hrefused := State.spareManual_refused (s := s.begun) hs
    refine Changes.gives_core (k := fun a => a.spareManual l) ?_ (exec_spareCtlReq s r l)
      (by simpa [Wf.spareCtlReq] using hl) hr trivial
    exact hrefused ▸ State.wr_changes _ F.SPARE_STAT_LAST_RES _ 7 rfl
  case inUse =>
    subst hk
    refine Changes.reports_core (k := fun a => a.spareManual l) ?_ (exec_spareCtlReq s r l)
      (by simpa [Wf.spareCtlReq] using hl) hr trivial
    exact State.spareManual_noSpare (s := s.begun) hs hst ▸ State.noSpare_changes _ _ rfl
  case granted =>
    obtain ⟨hgrant, -, -⟩ := State.spareRsp_requested (s := s.framed h) ha hlane hst
    obtain ⟨hcopy, hspare, hown⟩ := State.grantSpare_copies (s := s.framed h) hlane hl htx hcal
      (c0 := s.rd F.LANE_EQ_STAT_C0 (innerLs l) % 64) rfl
    refine Changes.gives_frame (k := fun a => a.spareRsp k l 0) (hgrant ▸ hcopy) (exec_spareRsp s h k l 0)
      (Wf.spareRsp_inOrder hi hk (by omega) (by decide)) hi ?_
    rw [hgrant]
    exact ⟨hcopy.csb.trans rfl, hspare, (congrArg LaneSt.rate hown).trans rfl, (congrArg LaneSt.tx hown).trans rfl⟩
  case calibrating =>
    obtain ⟨hgrant, -, -⟩ := State.spareRsp_requested (s := s.framed h) ha hlane hst
    rw [State.grantSpare_waits (s.framed h) k hcal] at hgrant
    have hres := (s.framed h).wr_changes F.SPARE_STAT_LAST_RES k 1 rfl
    have hsame := hres.trans (State.wr_same_changes (f := F.SPARE_STAT_STATE) (i := k) (v := 2) (hres.rd.trans hst)
      (show 2 ≠ 0 by decide) rfl)
    refine Changes.gives_frame (k := fun a => a.spareRsp k l 0) ?_ (exec_spareRsp s h k l 0)
      (Wf.spareRsp_inOrder hi hk (by omega) (by decide)) hi ?_
    · exact hgrant ▸ hsame.trans (State.modSpare_changes _ k _)
    · rw [hgrant]
      exact ⟨rfl, State.spare_modSpare _ k fun p => { p with asked := false, waits := true }⟩
  case busy =>
    obtain ⟨-, hfree, -⟩ := State.spareRsp_requested (s := s.framed h) ha hlane hst
    have hn : NoCopy (s.framed h) k l n := ⟨hlane, hp, htx⟩
    have hnone := State.spareBusy_changes hn rfl
    exact Changes.reports_frame (k := fun a => a.spareRsp k l 1) (hfree ▸ hnone) (exec_spareRsp s h k l 1)
      (Wf.spareRsp_inOrder hi hk (by omega) (by decide)) hi
      (hfree ▸ ⟨hnone.csb, (State.noSpare_changes _ k rfl).spare.trans (State.spareIdle_spare hn)⟩)
  case refused =>
    obtain ⟨-, -, hrefused⟩ := State.spareRsp_requested (s := s.framed h) ha hlane hst
    obtain ⟨hcounts, hspare⟩ := State.spareRefused_changes (s := s.framed h) (res := 3) ⟨hend, hown, hpeer⟩ hst
      ⟨hlane, hp, htx⟩ (by decide) rfl rfl
    exact Changes.reports_frame (k := fun a => a.spareRsp k l 2) (hrefused ▸ hcounts) (exec_spareRsp s h k l 2)
      (Wf.spareRsp_inOrder hi hk (by omega) (by decide)) hi (hrefused ▸ ⟨hcounts.csb, hspare⟩)
  case unasked =>
    have hnothing := State.spareRsp_unasked (s := s.framed h) ha l res
    refine Changes.gives_frame (k := fun a => a.spareRsp k l res) ?_ (exec_spareRsp s h k l res)
      (Wf.spareRsp_inOrder hi hk hl hres) hi ?_
    · simpa only [hnothing] using Changes.refl _
    · exact congrArg State.csb hnothing
  case unanswered =>
    have hrefused := State.spareRspTimeout_requested (s := s.begun) ha hst
    obtain ⟨hcounts, hspare⟩ := State.spareRefused_changes (s := s.begun) (res := 4) ⟨hend, hown, hpeer⟩ hst
      ⟨hlane, hp, htx⟩ (by decide) rfl rfl
    exact Changes.reports (k := fun a => a.spareRspTimeout k) (hrefused ▸ hcounts) (exec_spareRspTimeout s k)
      (by simpa [Wf.spareRspTimeout] using hk) hq (hrefused ▸ hspare)
  case nothingAwaited =>
    exact Gives.of_nothing (exec_spareRspTimeout s k) (by simpa [Wf.spareRspTimeout] using hk) hq
      (if_pos (by simpa using ha))
  case peerWaits =>
    have hwaits := State.spareReq_waits (s := s.framed h) hn hl hp hen hs hhalf hst
    refine Changes.gives_frame (k := fun a => a.spareReq k l n) ?_ (exec_spareReq s h k l n)
      (Wf.spareReq_inOrder hi hk (by omega) (by omega)) hi ?_
    · exact hwaits ▸ State.modSpare_changes _ k _
    · rw [hwaits]
      exact ⟨rfl, State.spare_modSpare _ k fun p => { p with peerWanted := p.peerWanted ++ [(l, n)] }⟩
  case peerRefused =>
    have hrefused := State.spareReq_refused (s := s.framed h) hn hp ha hen k l
    have hanswer : Changes [] [.csb] [] [] (s.framed h) ((s.framed h).spareReq k l n) :=
      hrefused ▸ State.answerSpare_changes _ k l 2
    refine Changes.gives (k := fun a => a.csbMsg h 0 fun a => a.spareReq k l n)
      ((hanswer.after_frame hi).mono (by simp) (by simp [Vals.parts])) (exec_spareReq s h k l n)
      (Wf.spareReq_inOrder hi hk hl (by omega)) hi.1 ?_
    rw [State.csbMsg_inOrder hi, hrefused]
    obtain ⟨-, -, -, -, hup, -⟩ := hi
    exact State.answerSpare_csb (s := s.framed h) hup k l 2
  case peerUnexpected =>
    have hunexp := State.spareReq_unexpected (s := s.framed h) hno k l
    refine Changes.gives_frame (k := fun a => a.spareReq k l n) ?_ (exec_spareReq s h k l n)
      (Wf.spareReq_inOrder hi hk hl hn) hi ?_
    · exact hunexp ▸ State.inc_changes _ F.CMP_CSB_CNT2_UNEXP 0 rfl
    · exact congrArg State.csb hunexp

end Sys2Proof.Machine
end

section
/-! What the passes of a loop leave of the lane-sides that they visit, one each. -/
namespace Sys2Proof.Machine

/-- The first passes have left their lane-sides with their values, and those of the others are as they were. -/
def LanesPassed (ls : Nat → Nat) (v : Nat → LaneSt) (n : Nat) (s : State) (k : Nat) (a : State) : Prop :=
  Within ((List.range n).map fun j => .lane (ls j)) s a ∧ (∀ i < k, a.lane (ls i) = v i) ∧
    ∀ i, k ≤ i → i < n → a.lane (ls i) = s.lane (ls i)

/-- Each pass changes one lane-side, no two the same: it finds that lane-side as it was, and what it leaves lasts. -/
theorem forUp_lanes {f : Nat → State → State} {ls : Nat → Nat} {v : Nat → LaneSt} (n : Nat) (s : State)
    (hinj : ∀ i < n, ∀ j < n, ls i = ls j → i = j)
    (hf : ∀ i < n, ∀ a, Only ((List.range n).map fun j => .lane (ls j)) s a → a.lane (ls i) = s.lane (ls i) →
      Within [.lane (ls i)] a (f i a) ∧ (f i a).lane (ls i) = v i) :
    Within ((List.range n).map fun j => .lane (ls j)) s (forUp n f s) ∧ ∀ i < n, (forUp n f s).lane (ls i) = v i := by
  have hpassed : LanesPassed ls v n s n (forUp n f s) := by
    refine forUp_ind (LanesPassed ls v n s) n ⟨.refl _ s, by simp, fun _ _ _ => rfl⟩ fun i a hi ⟨hin, hdone, hleft⟩ => ?_
    obtain ⟨hone, hv⟩ := hf i hi a hin.only (hleft i le_rfl hi)
    have hother : ∀ j < n, j ≠ i → (f i a).lane (ls j) = a.lane (ls j) := fun j hj hne =>
      hone.only (.lane (ls j)) (by simpa using fun he => hne (hinj j hj i hi he))
    refine ⟨hin.trans (hone.mono (by simpa using ⟨i, hi, rfl⟩)), fun j hj => ?_, fun j hij hj => ?_⟩
    · rcases Nat.lt_succ_iff_lt_or_eq.1 hj with hj | rfl
      · rw [hother j (by omega) (by omega), hdone j hj]
      · exact hv
    · rw [hother j hj (by omega), hleft j (by omega) hj]
  obtain ⟨hin, hdone, -⟩ := hpassed
  exact ⟨hin, hdone⟩

/-- What changes lane-sides alone. -/
theorem Only.of_lanes {ps : List Part} {s t : State} (h : Only ps s t) (hps : ∀ p ∈ ps, ∃ ls, p = .lane ls) :
    t.rd = s.rd ∧ t.port = s.port :=
  ⟨funext fun f => funext fun i => h.rd fun hm => by simpa using hps _ hm,
    funext fun n => h.port fun hm => by simpa using hps _ hm⟩

end Sys2Proof.Machine
end

section
/-! O30: bringing a spare into service, timing out, and releasing it (R175, R178 to R182, R189). -/
namespace Sys2Proof.Machine

/-! Steps without their predecessor -/

theorem State.spareTrack_idle {s : State} {k : Nat} (h : (s.spare k).copying = false) (offset : Nat) :
    s.spareTrack k offset = s := if_pos (.inl (by simp [h]))

theorem State.spareSwitch_untracked {s : State} {k : Nat} (ht : (s.spare k).tracked = false) (he : (s.spare k).ending = false) :
    s.spareSwitch k = s := by
  simp [State.spareSwitch, ht, he]

theorem State.spareRxOn_other {s : State} {k l : Nat} (h : s.spareLane k ≠ l) (uses : Bool) : s.spareRxOn k l uses = s :=
  if_pos h

theorem State.spareTimeout_idle {s : State} {k : Nat} (he : (s.spare k).ending = false)
    (hst : s.spareState k < 2 ∨ s.spareState k = 4) : s.spareTimeout k = s := by
  have hno : ¬(s.spareState k = 2 ∨ s.spareState k = 3 ∨ s.spareState k = 5) := by omega
  simp [State.spareTimeout, he, hno]

theorem State.spareTimeout_requested {s : State} {k : Nat} (he : (s.spare k).ending = false)
    (hst : s.spareState k = 2 ∨ s.spareState k = 3) : s.spareTimeout k = s.abandonSpare k 5 false := by
  have hrun : s.spareState k = 2 ∨ s.spareState k = 3 ∨ s.spareState k = 5 := by omega
  simp [State.spareTimeout, he, hrun]

theorem State.spareRelease_inactive {s : State} {k : Nat} (h : s.spareState k ≠ 4) : s.spareRelease k = s := if_pos h

theorem State.sparePowerUp_unneeded {s : State} {k : Nat} (h : s.spareState k ≠ 0 ∨ s.spareNeeded k = false) :
    s.sparePowerUp k = s := if_neg fun hp => h.elim (· hp.1) fun hn => Bool.false_ne_true (hn.symm.trans hp.2)

/-! The steps of R178 -/

section
variable {s : State} {k l n : Nat}

/-- The receiver that acquires reaches TRACK. -/
theorem State.spareTrack_changes (hc : (s.spare k).copying = true) (hst : s.spareState k = 3) (offset : Nat) :
    Changes [(F.LANE_RX_STAT_ASTATE, 64 + k, 5), (F.LANE_RX_STAT_CDR_LOCK, 64 + k, 1), (F.LANE_RX_STAT_SIGDET, 64 + k, 1)]
      [.lane (64 + k), .spare k] [] [] s (s.spareTrack k offset) ∧
    (s.spareTrack k offset).spare k = { s.spare k with tracked := true, offset := offset } ∧
    (s.spareTrack k offset).lane (64 + k) = { s.lane (64 + k) with converged := true } := by
  have hlock := ((s.setAstate_changes (64 + k) (v := 5) (by decide)).trans
    (State.wr_changes _ F.LANE_RX_STAT_CDR_LOCK (64 + k) 1 rfl)).trans (State.wr_changes _ F.LANE_RX_STAT_SIGDET (64 + k) 1 rfl)
  have htrack : s.spareTrack k offset = ((((s.setAstate (64 + k) 5).wr F.LANE_RX_STAT_CDR_LOCK (64 + k) 1).wr
      F.LANE_RX_STAT_SIGDET (64 + k) 1).modLane (64 + k) fun l => { l with converged := true }).modSpare k
        fun p => { p with tracked := true, offset := offset } := by
    simp [State.spareTrack, hc, hst, State.setF]
  rw [htrack]
  generalize ((s.setAstate (64 + k) 5).wr _ (64 + k) 1).wr _ (64 + k) 1 = t at hlock
  exact ⟨(hlock.trans (State.modLane_changes _ _ _)).trans (State.modSpare_changes _ k _), by simp [hlock.spare],
    by simp [hlock.lane]⟩

/-- The device's receiver changes over, and the peer's has not. -/
theorem State.spareSwitch_first (ht : (s.spare k).tracked = true) (hu : Unused s k) (hst : s.spareState k = 3) :
    s.spareSwitch k = (s.sendRxOn k (s.spareLane k) 1).modSpare k fun p => { p with rxOwn := true } := by
  obtain ⟨hend, hown, hpeer⟩ := hu
  have hsent : (s.sendRxOn k (s.spareLane k) 1).spare k = s.spare k :=
    (s.csbSend_changes 0x32 0 [k, s.spareLane k, 1]).spare
  simp [State.spareSwitch, ht, hend, hown, hst, State.spareProgress, hsent, hpeer]

/-- The peer's receiver changes over: the lane's own transmitter is no longer used. -/
def State.peerChanged (s : State) (k : Nat) : State :=
  (s.modSpare k fun p => { p with rxPeer := true }).setTx false (innerLs (s.spareLane k))

theorem State.spareRxOn_changed (hl : s.spareLane k = l) (hst : s.spareState k = 3) (hend : (s.spare k).ending = false) :
    s.spareRxOn k l true = (s.peerChanged k).spareProgress k := by
  subst hl
  simp [State.spareRxOn, hst, hend, State.peerChanged]

theorem State.peerChanged_changes (hl : s.spareLane k = l) (htx : (s.lane (innerLs l)).tx = true) :
    Changes [] [.spare k, .lane (innerLs l)] [] [.txIdle (innerLs l) true] s (s.peerChanged k) ∧
    (s.peerChanged k).spare k = { s.spare k with rxPeer := true } ∧ ((s.peerChanged k).lane (innerLs l)).tx = false := by
  subst hl
  have hon : ((s.modSpare k fun p => { p with rxPeer := true }).lane (innerLs (s.spareLane k))).tx ≠ false := by simp [htx]
  have hoff := State.setTx_changes _ hon
  refine ⟨(s.modSpare_changes k _).trans hoff, hoff.spare.trans (s.spare_modSpare k _), ?_⟩
  exact congrArg LaneSt.tx (State.setTx_lane _ hon)

/-- A spare whose copy has become the lane. -/
def SpareSt.inService (p : SpareSt) : SpareSt := { p with copying := false, tracked := false }

/-- A lane-side whose window starts anew. -/
def LaneSt.freshCounts (x : LaneSt) : LaneSt := { x with badWindows := 0, syms := 0, relocks := 0 }

/-- Both use the spare: it is ACTIVE. -/
theorem State.spareActive_changes {x : Nat} (hl : s.spareLane k = l) (hp : s.portOfLane l = some n)
    (hx : s.rd F.SPARE_CNT_GRANT 0 = x) :
    Changes [(F.SPARE_STAT_STATE, k, 4), (F.SPARE_CNT_GRANT, 0, min (x + 1) 0xFF),
      (if k = 0 then F.CMP_PORT_STAT_SP0 else F.CMP_PORT_STAT_SP1, n, 1), (F.LANE_RX_STAT_ASTATE, innerLs l, 0),
      (F.LANE_RX_STAT_CDR_LOCK, innerLs l, 0), (F.LANE_RX_STAT_SIGDET, innerLs l, 0)]
      (.spare k :: .lane (innerLs l) :: laneFields [innerLs l] [F.LANE_SLICE_STAT_MARG, F.LANE_SLICE_STAT_CALSLICE]) [] [] s
      (s.spareActive k) ∧
    (s.spareActive k).spare k = (s.spare k).inService := by
  subst hl
  have hoff := ((s.wr_changes F.SPARE_STAT_STATE k 4 rfl).trans (State.inc_changes _ F.SPARE_CNT_GRANT 0
    ((s.wr_changes F.SPARE_STAT_STATE k 4 rfl).rd.trans hx))).trans (State.laneOff_changes _ (innerLs (s.spareLane k)))
  have hport : State.portOfLane _ (State.spareLane _ k) = some n :=
    (hoff.portOfLane _).trans ((congrArg s.portOfLane hoff.rd).trans hp)
  have hmark := hoff.trans (State.markSpare_changes hport true) (by
    split <;> simp (disch := decide) [Vals.parts, Fld.ids_differ])
  have hactive : s.spareActive k = (((((s.wr F.SPARE_STAT_STATE k 4).inc F.SPARE_CNT_GRANT 0).laneOff
      (innerLs (s.spareLane k))).markSpare k true).modLane (innerLs (s.spareLane k)) LaneSt.freshCounts).modSpare k
      SpareSt.inService := rfl
  rw [hactive]
  generalize State.markSpare _ k true = t at hmark
  have hdone := (hmark.trans (State.modLane_changes t (innerLs (s.spareLane k)) LaneSt.freshCounts)).trans
    (State.modSpare_changes _ k SpareSt.inService)
  exact ⟨hdone.mono (by simp [b2n]) (by simp +contextual [Vals.parts, laneFields, partsOf, or_imp]), by simp [hmark.spare]⟩

end

/-! Release (R181) and power (R182) -/

section
variable {s : State} {k n : Nat}

theorem State.spareRelease_changes (hst : s.spareState k = 4) (hu : s.csbUp = true)
    (hp : s.portOfLane (s.spareLane k) = some n) :
    Changes [(F.SPARE_STAT_STATE, k, 5), (if k = 0 then F.CMP_PORT_STAT_SP0 else F.CMP_PORT_STAT_SP1, n, 0)] [.csb, .spare k]
      [] [] s (s.spareRelease k) ∧
    (s.spareRelease k).csb = queued0 s.csb 0x33 [k, s.spareLane k] ∧
    (s.spareRelease k).spare k = { s.spare k with asked := true, copying := false, tracked := false, start := s.drip } := by
  have hstate := s.wr_changes F.SPARE_STAT_STATE k 5 rfl
  have hport : State.portOfLane _ (State.spareLane _ k) = some n :=
    (hstate.portOfLane _).trans ((congrArg s.portOfLane hstate.rd).trans hp)
  have hmark := hstate.trans (State.markSpare_changes hport false) (by
    split <;> simp (disch := decide) [Vals.parts, Fld.ids_differ])
  have hup := hmark.csbUp hu (by split <;> simp (disch := decide) [Vals.parts, Fld.ids_differ])
  have hdrip := hmark.drip (by split <;> simp (disch := decide) [Vals.parts, Fld.ids_differ])
  have hrelease : s.spareRelease k =
      (((s.wr F.SPARE_STAT_STATE k 5).markSpare k false).csbSend 0x33 0 [k, s.spareLane k]).modSpare k fun p =>
        { p with asked := true, copying := false, tracked := false,
                 start := (((s.wr F.SPARE_STAT_STATE k 5).markSpare k false).csbSend 0x33 0 [k, s.spareLane k]).drip } :=
    if_neg (not_not.2 hst)
  rw [hrelease]
  generalize (s.wr F.SPARE_STAT_STATE k 5).markSpare k false = t at hmark hup hdrip
  rw [State.csbSend_up hup, ← hmark.csb, ← hdrip, ← hmark.spare]
  exact ⟨(hmark.trans (t.putCsb_changes _)).trans (State.modSpare_changes _ k _), rfl, State.spare_modSpare _ k fun p =>
    { p with asked := true, copying := false, tracked := false, start := t.drip }⟩

/-- A present port of the half that is in companion mode needs the spare (R182). -/
def State.companionIn (s : State) (h : Nat) : Bool :=
  (List.range 16).any fun n => s.present n && halfOf (firstLane n) == h && s.flag F.PORT_CFG_COMP n && s.seg n != 4

theorem State.spareNeeded_eq (s : State) (h : Nat) : s.spareNeeded h = (decide (s.spareState h ≥ 2) || s.companionIn h) := rfl

theorem State.companionIn_wr_spareState (s : State) (k v h : Nat) :
    (s.wr F.SPARE_STAT_STATE k v).companionIn h = s.companionIn h := by
  have hrd : ∀ f : Fld, f.id ≠ F.SPARE_STAT_STATE.id → ∀ i, (s.wr F.SPARE_STAT_STATE k v).rd f i = s.rd f i :=
    fun f hf i => s.rd_wr_fld v (Ne.symm hf)
  have hq : (s.wr F.SPARE_STAT_STATE k v).qcode = s.qcode := funext fun q => hrd _ (by simp (disch := decide) [F.quadCode_ne]) 0
  simp only [State.companionIn, State.present, State.width, State.flag, State.seg, hq, hrd F.PORT_CFG_COMP (by decide),
    hrd F.CMP_PORT_STAT_SEG (by decide)]

theorem State.gateSpares_needed (h : ∀ h < 2, ¬(s.spareState h = 1 ∧ ¬s.spareNeeded h)) :
    s.gateSpares = s.wr F.PWR_DOM_STAT_SGATED 0 (b2n (s.spareState 0 == 0) + 2 * b2n (s.spareState 1 == 0)) := by
  have hloop := forUp_const (f := fun h a =>
    if a.spareState h = 1 ∧ ¬a.spareNeeded h then (a.laneOff (64 + h)).wr F.SPARE_STAT_STATE h 0 else a) 2 s
    fun k hk => if_neg (h k hk)
  rw [State.gateSpares, hloop]

/-- The spare that is needed is IDLE, and the other stays as it is. -/
theorem State.sparePowerUp_changes (hk : k < 2) (hst : s.spareState k = 0) (hn : s.spareNeeded k = true)
    (hother : s.spareState (1 - k) ≠ 1 ∨ s.spareNeeded (1 - k) = true) :
    Changes [(F.SPARE_STAT_STATE, k, 1), (F.PWR_DOM_STAT_SGATED, 0, if s.spareState (1 - k) = 0 then 2 ^ (1 - k) else 0)] [] []
      [] s (s.sparePowerUp k) := by
  have hidle := s.wr_changes F.SPARE_STAT_STATE k 1 rfl
  have hself : (s.wr F.SPARE_STAT_STATE k 1).spareState k = 1 := s.rd_wr_self _ _ _
  have hrest : (s.wr F.SPARE_STAT_STATE k 1).spareState (1 - k) = s.spareState (1 - k) := s.rd_wr_inst _ (by omega)
  have hneeds : ∀ h, (s.wr F.SPARE_STAT_STATE k 1).companionIn h = s.companionIn h := s.companionIn_wr_spareState k 1
  have hlasts : ∀ h < 2, ¬((s.wr F.SPARE_STAT_STATE k 1).spareState h = 1 ∧
      ¬(s.wr F.SPARE_STAT_STATE k 1).spareNeeded h) := by
    intro h hh
    rcases (by omega : h = k ∨ h = 1 - k) with rfl | rfl
    · simpa [State.spareNeeded_eq, hneeds, hself, hst] using hn
    · rintro ⟨hidle', hno⟩
      rw [State.spareNeeded_eq, hneeds, hrest, ← State.spareNeeded_eq] at hno
      exact hother.elim (· (hrest.symm.trans hidle')) hno
  have hgated : b2n ((s.wr F.SPARE_STAT_STATE k 1).spareState 0 == 0) +
      2 * b2n ((s.wr F.SPARE_STAT_STATE k 1).spareState 1 == 0) = if s.spareState (1 - k) = 0 then 2 ^ (1 - k) else 0 := by
    interval_cases k <;> split <;> simp_all [b2n]
  have hup : s.sparePowerUp k = (s.wr F.SPARE_STAT_STATE k 1).wr F.PWR_DOM_STAT_SGATED 0
      (if s.spareState (1 - k) = 0 then 2 ^ (1 - k) else 0) := by
    rw [← hgated, State.sparePowerUp, if_pos ⟨hst, hn⟩, State.gateSpares_needed hlasts]
  rw [hup]
  exact hidle.trans (State.wr_changes _ F.PWR_DOM_STAT_SGATED 0 _ (by interval_cases k <;> split <;> rfl))

end

/-! Health and sparing windows (R175) -/

/-- The lane-sides that serve the inner side of the lanes. -/
abbrev State.innerParts (s : State) : List Part := (List.range 32).map fun l => .lane (s.innerOf l)

theorem State.innerParts_sub (s : State) : ∀ p ∈ s.innerParts, p ∈ (List.range 66).map Part.lane := by
  intro p hp
  obtain ⟨l, hl, rfl⟩ := List.mem_map.1 hp
  have hlt : s.innerOf l < 66 := by
    have := List.mem_range.1 hl
    unfold State.innerOf innerLs halfOf
    split <;> omega
  exact List.mem_map.2 ⟨_, List.mem_range.2 hlt, rfl⟩

/-- A lane-side at the end of a window, with its count of bad windows. -/
def LaneSt.windowEnds (x : LaneSt) (bad : Nat) : LaneSt :=
  { x with badWindows := bad, syms := 0, relocks := 0, healthAge := min (x.healthAge + 1) 2 }

section
variable {s a : State} {ps : List Part} (h : Only ps s a) (hps : ∀ p ∈ ps, ∃ ls, p = .lane ls)
include h hps

theorem Only.innerOf_of_lanes (l : Nat) : a.innerOf l = s.innerOf l :=
  h.innerOf (fun g _ i hm => by simpa using hps _ hm) l

theorem Only.sparable_of_lanes (l : Nat) : a.sparable l = s.sparable l := by
  obtain ⟨hrd, hport⟩ := h.of_lanes hps
  unfold State.sparable State.portOfLane State.qcode State.associated State.seg State.ltssm State.laneActive
  rw [hrd, hport]

theorem Only.laneFails_of_lanes {l : Nat} (hl : a.lane (s.innerOf l) = s.lane (s.innerOf l)) : a.laneFails l = s.laneFails l := by
  obtain ⟨hrd, -⟩ := h.of_lanes hps
  simp only [State.laneFails, h.innerOf_of_lanes hps, hl, hrd]

end

/-- The bad windows of a lane, counted where it fails (R175). -/
def State.badWindowsNext (s : State) (l : Nat) : Nat :=
  if (s.sparable l).isSome ∧ (s.laneFails l).isSome then (s.lane (s.innerOf l)).badWindows + 1 else 0

/-- The count of a lane-side's bad windows. -/
def State.setBadWindows (s : State) (ls n : Nat) : State := s.modLane ls fun x => { x with badWindows := n }

/-- A lane whose bad windows are too few to ask for a spare. -/
theorem State.windowLane_counts {s : State} {l : Nat} (h : (s.lane (s.innerOf l)).badWindows + 1 < s.rd F.SPARE_CFG_PERSIST 0) :
    s.windowLane l = (s.setBadWindows (s.innerOf l) (s.badWindowsNext l)).modLane (s.innerOf l) fun x =>
      x.windowEnds x.badWindows := by
  have hfew : ¬max (s.rd F.SPARE_CFG_PERSIST 0) 1 ≤ (s.lane (s.innerOf l)).badWindows + 1 := by omega
  unfold State.windowLane State.badWindowsNext
  cases s.sparable l <;> cases s.laneFails l
  case some.some n cause => simp [hfew, State.setBadWindows, State.modLane, LaneSt.windowEnds]
  all_goals simp [State.setBadWindows, State.modLane, LaneSt.windowEnds]

theorem State.setBadWindows_ends (s : State) (ls n : Nat) :
    let t := (s.setBadWindows ls n).modLane ls fun x => x.windowEnds x.badWindows
    Within [.lane ls] s t ∧ t.lane ls = (s.lane ls).windowEnds n := by
  refine ⟨(s.modLane_within ls _).trans (State.modLane_within _ ls _), ?_⟩
  simp [State.setBadWindows, LaneSt.windowEnds]

section
variable (s : State)

theorem State.spareWindow_auto (ha : s.flag F.SPARE_CFG_AUTO 0 = true)
    (hfew : ∀ l < 32, (s.lane (s.innerOf l)).badWindows + 1 < s.rd F.SPARE_CFG_PERSIST 0) :
    Within s.innerParts s s.spareWindow ∧ ∀ l < 32, s.spareWindow.lane (s.innerOf l) =
      (s.lane (s.innerOf l)).windowEnds (s.badWindowsNext l) := by
  rw [show s.spareWindow = forUp 32 (fun l a => a.windowLane l) s from if_pos ha]
  refine forUp_lanes 32 s (fun i hi j hj he => s.innerOf_inj hi hj he) fun l hl a h hlane => ?_
  have hps : ∀ p ∈ s.innerParts, ∃ ls, p = .lane ls := by simp +contextual
  have hin := h.innerOf_of_lanes hps l
  have hrd : a.rd F.SPARE_CFG_PERSIST 0 = s.rd F.SPARE_CFG_PERSIST 0 := congrFun₂ (h.of_lanes hps).1 _ _
  have hnext : a.badWindowsNext l = s.badWindowsNext l := by
    simp only [State.badWindowsNext, hin, hlane, h.sparable_of_lanes hps, h.laneFails_of_lanes hps hlane]
  rw [State.windowLane_counts (by rw [hin, hlane, hrd]; exact hfew l hl), hin, hnext, ← hlane]
  exact a.setBadWindows_ends _ _

theorem State.spareWindow_manual (ha : s.flag F.SPARE_CFG_AUTO 0 = false) :
    Within s.innerParts s s.spareWindow ∧ ∀ l < 32, s.spareWindow.lane (s.innerOf l) =
      (s.lane (s.innerOf l)).windowEnds 0 := by
  rw [show s.spareWindow = forUp 32 (fun l a => a.modLane (a.innerOf l) fun x => x.windowEnds 0) s from if_neg (by simp [ha])]
  refine forUp_lanes 32 s (fun i hi j hj he => s.innerOf_inj hi hj he) fun l hl a h hlane => ?_
  rw [h.innerOf_of_lanes (by simp +contextual) l, ← hlane]
  exact ⟨a.modLane_within _ _, a.lane_modLane _ fun x => x.windowEnds 0⟩

theorem State.laneHealth_lanes {n : Nat} (hn : n < 16) (counts : List Nat) :
    Within ((s.sideLs n true).map .lane) s (s.laneHealth n counts) ∧ ∀ i < s.width n,
      (s.laneHealth n counts).lane (s.innerOf (firstLane n + i)) =
        { s.lane (s.innerOf (firstLane n + i)) with health := counts.getD i 0, healthAge := 0 } := by
  have hsides : (s.sideLs n true).map Part.lane = (List.range (s.width n)).map fun i => .lane (s.innerOf (firstLane n + i)) := by
    simp [State.sideLs, State.portLanes, Nat.add_comm]
  rw [hsides]
  refine forUp_lanes (s.width n) s (fun i hi j hj he => ?_) fun i hi a h hlane => ?_
  · have := s.innerOf_inj (s.lane_lt hn hi) (s.lane_lt hn hj) he
    omega
  · rw [h.innerOf_of_lanes (by simp +contextual) _, ← hlane]
    refine ⟨a.modLane_within _ _, ?_⟩
    simp [List.headD_eq_head?_getD, List.head?_drop]

end

theorem Wf.spareRxOn_inOrder {s : State} {h : CsbHdr} {k l : Nat} (hi : InOrder s h) (hk : k < 2) (hl : l < 256) (uses : Bool) :
    Wf.spareRxOn h k l uses = true := by
  simp [Wf.spareRxOn, CsbHdr.wf_of_inOrder hi, hk, hl]

theorem Wf.laneHealth_inOrder {s : State} {h : CsbHdr} {n w : Nat} {counts : List Nat} (hi : InOrder s h)
    (hw : n < 16 ∧ w < 256 ∧ counts.length = 16 ∧ ∀ c ∈ counts, c < 2 ^ 16) : Wf.laneHealth h n w counts = true := by
  obtain ⟨hn, hw, hlen, hc⟩ := hw
  simpa [Wf.laneHealth, CsbHdr.wf_of_inOrder hi, hn, hw, hlen, wordsWf] using hc

/-- What LANE_HEALTH does once its frame is taken (R172, R175). -/
def State.takeHealth (s : State) (n : Nat) (counts : List Nat) : State :=
  if s.present n && (s.associated n || (s.port n).attempt != .none) then
    if s.associated n then s.laneHealth n counts else s.unexp
  else s.unexp

theorem State.takeHealth_associated {s : State} {n : Nat} (hp : s.present n = true) (ha : s.associated n = true)
    (counts : List Nat) : s.takeHealth n counts = s.laneHealth n counts := by
  simp [State.takeHealth, hp, ha]

theorem State.takeHealth_unassociated {s : State} {n : Nat} (ha : s.associated n = false) (hatt : (s.port n).attempt = .none)
    (counts : List Nat) : s.takeHealth n counts = s.unexp := by
  simp [State.takeHealth, ha, hatt]

/-- Settles O30: each step of the procedure, the timeout, the release and the window leave what the lemma above of its
operation says, and a step without its predecessor leaves the state as it is. -/
theorem sparesEnterAndLeaveService : Obligations.SparesEnterAndLeaveService := by
  unfold Obligations.SparesEnterAndLeaveService
  refine ⟨fun s k offset hq hk ⟨hc, hst⟩ => ?tracks, fun s k offset hq hk hc => ?notCopying,
    fun s k hq hk ⟨ht, hend, hown, hpeer, hst⟩ hu => ?changesOver, fun s k hq hk ⟨ht, hend⟩ => ?untracked,
    fun s h k l hi ⟨hk, hl⟩ ⟨hlane, hst, hend, hown, htx⟩ => ?peerFirst,
    fun s h k l n hi ⟨hk, hl, _⟩ ⟨hlane, hst, hend, hown, htx, hp⟩ => ?active,
    fun s h k l uses hi ⟨hk, hl⟩ hne => ?otherLane,
    fun s k l n hq ⟨hk, _, hlane⟩ ⟨hend, hown, hpeer, hst, htx, hp⟩ => ?timesOut,
    fun s k hq hk ⟨hend, hst⟩ => ?nothingTimed,
    fun s r n hr ⟨hst, hu, hp⟩ => ?release0, fun s r hr hst => ?inactive0,
    fun s r n hr ⟨hst, hu, hp⟩ => ?release1, fun s r hr hst => ?inactive1, fun s r hr => ?clears,
    fun s h n w counts hi hw ⟨hp, ha⟩ => ?health, fun s h n w counts hi hw ⟨ha, hatt⟩ => ?unexpected,
    fun s hq ha hfew => ?windowAuto, fun s hq ha => ?windowManual,
    fun s k hq hk ⟨hst, hn, hother⟩ => ?powersUp, fun s k hq hk h => ?unneeded⟩
  case tracks =>
    obtain ⟨htrack, hspare, hlane⟩ := State.spareTrack_changes (s := s.begun) hc hst offset
    exact Changes.gives (k := fun a => a.spareTrack k offset) (htrack.mono (by simp) (by simp +contextual [Vals.parts, or_imp]))
      (exec_spareTrack s k offset) (by simpa [Wf.spareTrack] using hk) hq ⟨hspare, hlane⟩
  case notCopying =>
    exact Gives.of_nothing (exec_spareTrack s k offset) (by simpa [Wf.spareTrack] using hk) hq
      (State.spareTrack_idle (s := s.begun) hc offset)
  case changesOver =>
    have hswitch := State.spareSwitch_first (s := s.begun) ht ⟨hend, hown, hpeer⟩ hst
    refine Changes.gives (k := fun a => a.spareSwitch k) ?_ (exec_spareSwitchover s k)
      (by simpa [Wf.spareSwitchover] using hk) hq ?_
    · exact hswitch ▸ (State.csbSend_changes _ 0x32 0 _).trans (State.modSpare_changes _ k _)
    · rw [hswitch, State.sendRxOn, State.csbSend_up (s := s.begun) hu]
      exact ⟨rfl, State.spare_modSpare _ k fun p => { p with rxOwn := true }⟩
  case untracked =>
    exact Gives.of_nothing (exec_spareSwitchover s k) (by simpa [Wf.spareSwitchover] using hk) hq
      (State.spareSwitch_untracked (s := s.begun) ht hend)
  case peerFirst =>
    have hchanged := State.spareRxOn_changed (s := s.framed h) hlane hst hend
    obtain ⟨hoff, hspare, hquiet⟩ := State.peerChanged_changes (s := s.framed h) hlane htx
    have hstays : ((s.framed h).peerChanged k).spareProgress k = (s.framed h).peerChanged k := by
      have hend' : ((s.framed h).spare k).ending = false := hend
      have hown' : ((s.framed h).spare k).rxOwn = false := hown
      simp [State.spareProgress, hspare, hend', hown']
    rw [hstays] at hchanged
    refine Changes.gives_frame (k := fun a => a.spareRxOn k l true) (hchanged ▸ hoff) (exec_spareRxOn s h k l true)
      (Wf.spareRxOn_inOrder hi hk (by omega) true) hi ?_
    rw [hchanged]
    exact ⟨hoff.csb.trans rfl, hspare, hquiet⟩
  case active =>
    have hchanged := State.spareRxOn_changed (s := s.framed h) hlane hst hend
    obtain ⟨hoff, hspare, -⟩ := State.peerChanged_changes (s := s.framed h) hlane htx
    obtain ⟨hactive, hserves⟩ := State.spareActive_changes (hoff.rd.trans hlane) ((hoff.portOfLane l).trans hp)
      (x := s.rd F.SPARE_CNT_GRANT 0) hoff.rd
    have hboth : ((s.framed h).peerChanged k).spareProgress k = ((s.framed h).peerChanged k).spareActive k := by
      have hend' : ((s.framed h).spare k).ending = false := hend
      have hown' : ((s.framed h).spare k).rxOwn = true := hown
      have hst' : ((s.framed h).peerChanged k).spareState k = 3 := hoff.rd.trans hst
      simp [State.spareProgress, hspare, hend', hown', hst']
    rw [hboth] at hchanged
    have hserve := hoff.trans hactive
    refine Changes.gives_frame (k := fun a => a.spareRxOn k l true) ?_ (exec_spareRxOn s h k l true)
      (Wf.spareRxOn_inOrder hi hk (by omega) true) hi ?_
    · rw [hchanged]
      exact hserve.mono (by simp) (by simp +contextual [Vals.parts, or_imp])
    · rw [hchanged]
      exact ⟨hserve.csb.trans rfl, by rw [hserves, hspare]; rfl⟩
  case otherLane =>
    have hnothing := State.spareRxOn_other (s := s.framed h) hne uses
    refine Changes.gives_frame (k := fun a => a.spareRxOn k l uses) ?_ (exec_spareRxOn s h k l uses)
      (Wf.spareRxOn_inOrder hi hk hl uses) hi (congrArg State.csb hnothing)
    simpa only [hnothing] using Changes.refl _
  case timesOut =>
    have hover := State.spareTimeout_requested (s := s.begun) hend hst
    have hu : Unused s.begun k := ⟨hend, hown, hpeer⟩
    have hn : NoCopy s.begun k l n := ⟨hlane.symm, hp, htx⟩
    exact Changes.reports (k := fun a => a.spareTimeout k) (hover ▸ State.abandonSpare_changes hu hst hn (by decide) rfl)
      (exec_spareTmo s k) (by simpa [Wf.spareTmo] using hk) hq (hover ▸ State.abandonSpare_spare hu hst hn (by decide))
  case nothingTimed =>
    exact Gives.of_nothing (exec_spareTmo s k) (by simpa [Wf.spareTmo] using hk) hq
      (State.spareTimeout_idle (s := s.begun) hend hst)
  case release0 =>
    obtain ⟨hrelease, hcsb, hspare⟩ := State.spareRelease_changes (s := s.begun) hst hu hp
    exact Changes.gives_core (k := fun a => a.spareRelease 0) hrelease (exec_spareCtlRelS0 s r) rfl hr ⟨hcsb, hspare⟩
  case inactive0 =>
    have hnothing := State.spareRelease_inactive (s := s.begun) hst
    exact Changes.gives_core (k := fun a => a.spareRelease 0) (by simpa only [hnothing] using Changes.refl _)
      (exec_spareCtlRelS0 s r) rfl hr trivial
  case release1 =>
    obtain ⟨hrelease, hcsb, hspare⟩ := State.spareRelease_changes (s := s.begun) hst hu hp
    exact Changes.gives_core (k := fun a => a.spareRelease 1) hrelease (exec_spareCtlRelS1 s r) rfl hr ⟨hcsb, hspare⟩
  case inactive1 =>
    have hnothing := State.spareRelease_inactive (s := s.begun) hst
    exact Changes.gives_core (k := fun a => a.spareRelease 1) (by simpa only [hnothing] using Changes.refl _)
      (exec_spareCtlRelS1 s r) rfl hr trivial
  case clears => exact clears_gives (exec_spareCtlCntClr s r) rfl hr (by decide) rfl
  case health =>
    have htake := State.takeHealth_associated (s := s.framed h) hp ha counts
    obtain ⟨hin, hlanes⟩ := (s.framed h).laneHealth_lanes hw.1 counts
    refine Changes.gives_frame (k := fun a => a.takeHealth n counts) (htake ▸ hin.changes) (exec_laneHealth s h n w counts)
      (Wf.laneHealth_inOrder hi hw) hi ?_
    rw [htake]
    refine ⟨(hin.changes.csb (by simp)).trans rfl, fun i hi => ?_⟩
    have hlane := hlanes i (List.mem_range.1 hi)
    exact ⟨congrArg LaneSt.health hlane, congrArg LaneSt.healthAge hlane⟩
  case unexpected =>
    have htake := State.takeHealth_unassociated (s := s.framed h) ha hatt counts
    exact Changes.gives_frame (k := fun a => a.takeHealth n counts) (htake ▸ State.inc_changes _ F.CMP_CSB_CNT2_UNEXP 0 rfl)
      (exec_laneHealth s h n w counts) (Wf.laneHealth_inOrder hi hw) hi (congrArg State.csb htake)
  case windowAuto =>
    obtain ⟨hin, hlanes⟩ := s.begun.spareWindow_auto ha fun l hl => hfew l (List.mem_range.2 hl)
    exact Changes.gives (k := State.spareWindow) (hin.mono s.begun.innerParts_sub).changes (exec_spareWindow s) rfl hq
      fun l hl => hlanes l (List.mem_range.1 hl)
  case windowManual =>
    obtain ⟨hin, hlanes⟩ := s.begun.spareWindow_manual ha
    exact Changes.gives (k := State.spareWindow) (hin.mono s.begun.innerParts_sub).changes (exec_spareWindow s) rfl hq
      fun l hl => hlanes l (List.mem_range.1 hl)
  case powersUp =>
    exact Changes.gives (k := fun a => a.sparePowerUp k) (State.sparePowerUp_changes (s := s.begun) hk hst hn hother)
      (exec_sparePowerUp s k) (by simpa [Wf.sparePowerUp] using hk) hq trivial
  case unneeded =>
    exact Gives.of_nothing (exec_sparePowerUp s k) (by simpa [Wf.sparePowerUp] using hk) hq
      (State.sparePowerUp_unneeded (s := s.begun) h)

end Sys2Proof.Machine
end

section
/-! O9: Fill slots (R190, R191, R199): what one is made of, and that a received one acts by its first six bytes. -/
namespace Sys2Proof.Machine

/-! The HCRC (R191) -/

theorem crc16Step_lt (c : Nat) : crc16Step c < 2 ^ 16 := by
  have hshift : c * 2 % 65536 < 2 ^ 16 := Nat.mod_lt _ (by decide)
  unfold crc16Step
  split
  · exact Nat.xor_lt_two_pow hshift (by decide)
  · exact hshift

theorem iter_keeps {α : Type} {P : α → Prop} {f : α → α} (hf : ∀ x, P x → P (f x)) (n : Nat) {x : α} (h : P x) :
    P (iter f n x) := by
  induction n generalizing x with
  | zero => exact h
  | succ n ih => exact ih (hf x h)

theorem crc16_lt (l : List Nat) : crc16 l < 2 ^ 16 := by
  refine List.foldlRecOn (motive := (· < 2 ^ 16)) l _ (by decide) fun c hc b _ => ?_
  exact iter_keeps (P := (· < 2 ^ 16)) (fun x _ => crc16Step_lt x) 8 (Nat.xor_lt_two_pow hc (by omega))

/-! The bytes of a slot -/

theorem ofLeBytes_leBytes {x n : Nat} (h : x < 256 ^ n) : ofLeBytes (leBytes x n) = x := by
  induction n generalizing x with
  | zero => rw [Nat.lt_one_iff.1 h]; rfl
  | succ n ih =>
    rw [leBytes, ofLeBytes, ih (Nat.div_lt_of_lt_mul (by rwa [← Nat.pow_succ'])), Nat.mod_mod, Nat.mod_add_div]

/-- A slot that the device sends has a valid HCRC (R190, R191). -/
theorem hcrcOk_mkSlot (n row a b c d : Nat) (payload : List Nat) (pcrc : Bool) :
    hcrcOk n row (mkSlot n row [a, b, c, d] payload pcrc) = true := by
  have hshape : ∃ rest, mkSlot n row [a, b, c, d] payload pcrc =
      a :: b :: c :: d :: (leBytes (slotHcrc row n [a, b, c, d]) 2 ++ rest) := by
    unfold mkSlot
    cases pcrc <;> exact ⟨_, by simp [leBytes]; rfl⟩
  obtain ⟨rest, hr⟩ := hshape
  have hlt : slotHcrc row n [a, b, c, d] < 256 ^ 2 := crc16_lt _
  have hslice : leAt (mkSlot n row [a, b, c, d] payload pcrc) 4 2 = slotHcrc row n [a, b, c, d] := by
    refine Eq.trans ?_ (ofLeBytes_leBytes hlt)
    rw [hr]
    simp [leAt, sliceBytes, leBytes]
  rw [hcrcOk, hslice, hr]
  simp

/-- A Fill slot, byte by byte (R199). -/
theorem fillSlot_bytes (n row : Nat) : mkSlot n row [224, 0, 0, 0] [] false =
    [224, 0, 0, 0] ++ leBytes (slotHcrc row n [224, 0, 0, 0]) 2 ++ List.replicate 250 0 := by
  simp [mkSlot, padTo]

/-- What lies within the part of two slots that is the same. -/
theorem leAt_congr {x y : List Nat} {k o n : Nat} (h : x.take k = y.take k) (hk : o + n ≤ k) : leAt x o n = leAt y o n := by
  have htake : ∀ z : List Nat, (z.drop o).take n = ((z.take k).drop o).take n := fun z => by
    rw [List.drop_take, List.take_take, Nat.min_eq_left (by omega)]
  simp only [leAt, sliceBytes, htake x, htake y, h]

theorem byteAt_congr {x y : List Nat} {k o : Nat} (h : x.take k = y.take k) (hk : o < k) : byteAt x o = byteAt y o := by
  have htake : ∀ z : List Nat, (z.drop o).headD 0 = ((z.take k).drop o).headD 0 := fun z => by
    obtain ⟨m, hm⟩ : ∃ m, k - o = m + 1 := ⟨k - o - 1, by omega⟩
    rw [List.drop_take, hm]
    cases z.drop o <;> rfl
  simp only [byteAt, htake x, htake y, h]

theorem hcrcOk_congr {x y : List Nat} (n row : Nat) (h : x.take 6 = y.take 6) : hcrcOk n row x = hcrcOk n row y := by
  have hhead : x.take 4 = y.take 4 := by simpa [List.take_take] using congrArg (List.take 4) h
  rw [hcrcOk, hcrcOk, hhead, leAt_congr h (by decide)]

/-! A received Fill slot -/

/-- A class-7 slot at its place is counted by its header, and by nothing else. -/
theorem State.inboundSlot_fill {s : State} {n : Nat} {slot : List Nat} (hh : s.slotHere n = true) (h7 : slotClass slot = 7) :
    s.inboundSlot n slot none = if hcrcOk n (s.inRow n) slot then s.headerTaken n else s.headerFailed n := by
  split
  next hc =>
    rw [s.inboundSlot_acts n slot none hh hc (by simp [h7]) (by simp [h7]) (by simp [State.slotFits, h7]) (by simp [h7])]
    simp [State.actSlot, h7]
  next hc => exact s.inboundSlot_headerFails n slot none hh (by simpa using hc)

/-- Settles O9: a Fill slot is sent as `fillSlot_sent` says, and of one received only the header acts
(`State.inboundSlot_fill`). -/
theorem fillSlotsCarryNothing : Obligations.FillSlotsCarryNothing := by
  unfold Obligations.FillSlotsCarryNothing
  refine ⟨fun s n young und uns ecc hq ⟨hn, he, hund, huns, hpos⟩ ⟨hrows, hnone⟩ hidle => ?sent,
    fun s n x y ⟨hn, hx, hy, hbx, hby⟩ ⟨h7, h6⟩ => ?ignored⟩
  case sent =>
    obtain ⟨t, hexec, -, -, hout, -⟩ :=
      fillSlot_sent s n young und uns ecc hq ⟨hn, he, hund, huns⟩ ⟨hrows, hpos, hnone⟩ hidle
    refine ⟨_, t, hexec, hout, ?_, ?_, ?_, hcrcOk_mkSlot .., ?_⟩ <;> rw [fillSlot_bytes]
    · rw [List.length_append, List.length_append, leBytes_length, List.length_replicate]
      rfl
    · rfl
    · rfl
    · rfl
  case ignored =>
    have hclass : slotClass x = 7 ∧ slotClass y = 7 := ⟨h7, by rwa [slotClass, ← byteAt_congr h6 (by decide)]⟩
    have hwf : Wf.fillSlot n x = true ∧ Wf.fillSlot n y = true :=
      ⟨wf_slot ⟨hn, hx, hbx, (slotClass_eq hbx).symm.trans hclass.1⟩,
        wf_slot ⟨hn, hy, hby, (slotClass_eq hby).symm.trans hclass.2⟩⟩
    have hsame : ∀ a : State, a.inboundSlot n x none = a.inboundSlot n y none := fun a => by
      cases hh : a.slotHere n with
      | false => rw [a.inboundSlot_elsewhere n x none hh, a.inboundSlot_elsewhere n y none hh]
      | true => rw [State.inboundSlot_fill hh hclass.1, State.inboundSlot_fill hh hclass.2, hcrcOk_congr n _ h6]
    rw [exec_fillSlot, exec_fillSlot, execFillSlot, execFillSlot, hwf.1, hwf.2]
    simp only [hsame]

end Sys2Proof.Machine
end

section
/-! The memories (R35): a range set to 0, a word written, and what lies outside either. -/
namespace Sys2Proof.Machine

theorem SMap.get_filter {α : Type} (m : SMap α) (p : Nat → Bool) (k : Nat) (d : α) :
    SMap.get (m.filter fun e => p e.1) k d = if p k then m.get k d else d := by
  induction m with
  | nil => simp [SMap.get]
  | cons e t ih =>
    obtain ⟨j, v⟩ := e
    by_cases hj : j = k
    · subst hj
      cases hp : p j <;> simp [SMap.get, hp, ih]
    · cases hp : p j <;> simp [SMap.get, hp, hj, ih]

theorem byte_mem_runParts {a n x : Nat} : Part.byte x ∈ runParts a n ↔ a ≤ x ∧ x < a + n := by
  simp only [runParts, List.mem_map, List.mem_range, Part.byte.injEq]
  exact ⟨fun ⟨k, hk, he⟩ => by omega, fun h => ⟨x - a, by omega, by omega⟩⟩

/-- A run of memory is made of bytes alone. -/
theorem notMem_runParts {p : Part} (h : ∀ x, p ≠ .byte x) (a n : Nat) : p ∉ runParts a n := fun hm => by
  obtain ⟨k, -, he⟩ := List.mem_map.1 hm
  exact h _ he.symm

section
variable (s : State)

theorem State.rdByte_zeroMem (lo n x : Nat) :
    (s.zeroMem lo n).rdByte x = if lo ≤ x ∧ x < lo + n then 0 else s.rdByte x := by
  have hget := SMap.get_filter s.mem (fun y => !(decide (lo ≤ y) && decide (y < lo + n))) x (0 : Byte)
  refine hget.trans ?_
  by_cases h : lo ≤ x ∧ x < lo + n
  · simp [h]
  · rw [if_neg h, if_pos (by simpa only [← Bool.decide_and, Bool.not_eq_true', decide_eq_false_iff_not] using h)]
    rfl

theorem State.zeroMem_changes (lo n : Nat) : Changes [] (runParts lo n) [] [] s (s.zeroMem lo n) := by
  refine Within.changes ⟨fun p hp => ?_, rfl⟩ (notMem_runParts (by simp) lo n)
  cases p
  case byte x => exact (s.rdByte_zeroMem lo n x).trans (if_neg fun h => hp (byte_mem_runParts.2 h))
  case field | mirror => exact fun _ => rfl
  all_goals rfl

theorem State.zeroMem_zero (lo n : Nat) : ReadsZero (s.zeroMem lo n) lo n := fun k hk =>
  (s.rdByte_zeroMem lo n (lo + k)).trans (if_pos ⟨Nat.le_add_right lo k, Nat.add_lt_add_left (List.mem_range.1 hk) lo⟩)

theorem State.wrWord32_changes (a v : Nat) : Changes [] (runParts a 4) [] [] s (s.wrWord32 a v) := by
  have honly := s.wrBytes_only a (leBytes v 4)
  rw [leBytes_length] at honly
  exact Within.changes ⟨honly, s.wrWord32_out a v⟩ (notMem_runParts (by simp) a 4)

end

/-- What leaves a run alone leaves it 0. -/
theorem Only.readsZero {ps : List Part} {s t : State} {a n : Nat} (h : Only ps s t)
    (hp : ∀ x, a ≤ x → x < a + n → Part.byte x ∉ ps) (hz : ReadsZero s a n) : ReadsZero t a n := fun k hk =>
  (h (.byte (a + k)) (hp _ (Nat.le_add_right a k) (Nat.add_lt_add_left (List.mem_range.1 hk) a))).trans (hz k hk)

end Sys2Proof.Machine
end

section
/-! The counter format (R225, R226): an entry and the LFSR keep within their bits. -/
namespace Sys2Proof.Machine

theorem lfsrStep_lt {x : Nat} (h : x < 65536) : lfsrStep x < 65536 := by
  have hbit := Nat.mod_lt (x ^^^ (x / 4) ^^^ (x / 8) ^^^ (x / 32)) (y := 2) (by decide)
  unfold lfsrStep
  omega

/-- An exponent, a mantissa and an LFSR within their bits. -/
def CounterFits (r : Nat × Nat × Nat) : Prop := r.1 < 16 ∧ r.2.1 < 4096 ∧ r.2.2 < 65536

theorem CounterFits.of_lt {e m x : Nat} (he : e < 16) (hm : m < 4096) (hx : x < 65536) : CounterFits (e, m, x) :=
  ⟨he, hm, hx⟩

theorem countUp_fits (fuel k : Nat) {e m x : Nat} (h : CounterFits (e, m, x)) : CounterFits (countUp fuel e m x k) := by
  induction fuel generalizing e m x k with
  | zero => exact h
  | succ fuel ih =>
    obtain ⟨he, hm, hx⟩ : e < 16 ∧ m < 4096 ∧ x < 65536 := h
    simp only [countUp]
    generalize (if e = 0 then 1 else 2 ^ (e - 1)) = step
    split
    · exact .of_lt he hm hx
    split
    next =>
      split
      next => exact .of_lt he (by decide) hx
      next htop => exact ih _ (.of_lt (by omega) (by decide) hx)
    next hk =>
      have hmant : m + k / step < 4096 := by
        have := Nat.div_lt_of_lt_mul (Nat.lt_of_not_le hk)
        omega
      split
      next => exact .of_lt he hmant hx
      have hround : (if lfsrStep x % step < k % step then m + k / step + 1 else m + k / step) ≤ 4096 := by split <;> omega
      generalize (if lfsrStep x % step < k % step then m + k / step + 1 else m + k / step) = m' at hround ⊢
      have hx' := lfsrStep_lt hx
      split
      next =>
        split
        next => exact .of_lt (by decide) (by decide) hx'
        next htop => exact .of_lt (by omega) (by decide) hx'
      next hfull => exact .of_lt he (by omega) hx'

theorem counterAdd_lt (c k : Nat) {x : Nat} (h : x < 65536) :
    (counterAdd c x k).1 < 65536 ∧ (counterAdd c x k).2 < 65536 := by
  obtain ⟨he, hm, hx⟩ := countUp_fits 17 k (e := c / 4096 % 16) (m := c % 4096) (x := x)
    ⟨Nat.mod_lt _ (by decide), Nat.mod_lt _ (by decide), h⟩
  exact ⟨by simp only [counterAdd]; omega, hx⟩

/-- An entry stays a word, and the LFSR 16 bits. -/
theorem entryAdd_lt (v rd wr : Nat) {x : Nat} (h : x < 65536) :
    (entryAdd v x rd wr).1 < 2 ^ 32 ∧ (entryAdd v x rd wr).2 < 65536 := by
  obtain ⟨hr, hx⟩ := counterAdd_lt (v / 65536 % 65536) rd h
  obtain ⟨hw, hx'⟩ := counterAdd_lt (v % 65536) wr hx
  exact ⟨by simp only [entryAdd]; omega, hx'⟩

end Sys2Proof.Machine
end

section
/-! O32: write-back, flush, exports and the heat windows (R201, R223, R226, R227, R233, R234, R240, R241, R246). -/
namespace Sys2Proof.Machine

theorem State.modHeat_changes (s : State) (p : Nat) (f : HeatP → HeatP) : Changes [] [.heat p] [] [] s (s.modHeat p f) :=
  Within.changes ⟨fun _ hp => Part.same_setHeat s p _ (by simpa using hp), rfl⟩

theorem State.modPort_changes (s : State) (n : Nat) (f : PortSt → PortSt) : Changes [] [.port n] [] [] s (s.modPort n f) :=
  (s.modPort_within n f).changes

theorem State.wr_masked_changes (s : State) (f : Fld) (i v : Nat) : Changes [(f, i, v % 2 ^ f.w)] [] [] [] s (s.wr f i v) :=
  ⟨.cons (s.rd_wr_self f i v) (.nil _), (s.wr_only f i v).mono (by simp [Vals.parts]), (List.append_nil _).symm,
    (List.append_nil _).symm⟩

theorem Clears.changes {all : List Fld} {xs : List (Fld × Nat)} {s t : State} (h : Clears all xs s t) :
    Changes (xs.map fun x => (x.1, x.2, 0)) [] [] [] s t where
  holds := List.forall_mem_map.2 h.zero
  only := h.only.mono (by simp +contextual [Vals.parts])
  raised := (h.only.raised (by simp)).trans (List.append_nil _).symm
  out := h.out.trans (List.append_nil _).symm

/-- A command that acts only while the core domain runs, and then finds nothing to do. -/
theorem Gives.of_idle {c : Instr} {s : State} {ok : Bool} {k : State → State} (he : exec c s = effect ok s fun a =>
    if a.coreRuns then k a else a) (hw : ok = true) (hq : Quiet s) (hk : s.coreRuns = true → k s.begun = s.begun) :
    Gives c s [] [] [] anyState := by
  refine Gives.of_nothing he hw hq ?_
  show (if s.coreRuns then _ else _) = _
  split
  · exact hk ‹_›
  · rfl

/-- A command that acts only while the core domain runs, which it does. -/
theorem Changes.gives_running {c : Instr} {s : State} {ok : Bool} {k : State → State} {vs : Vals} {ps : List Part}
    {outs : List Out} {P : State → Prop} (h : Changes vs ps [] outs s.begun (k s.begun))
    (he : exec c s = effect ok s fun a => if a.coreRuns then k a else a) (hw : ok = true) (hq : Quiet s)
    (hc : s.coreRuns = true) (hp : P (k s.begun)) : Gives c s vs ps outs P := by
  have hk : (if s.begun.coreRuns then k s.begun else s.begun) = k s.begun := if_pos hc
  refine Changes.gives (k := fun a => if a.coreRuns then k a else a) ?_ he hw hq ?_
  · exact hk.symm ▸ h
  · exact hk.symm ▸ hp

/-! Write-back (R226, R227) -/

section
variable {s : State} {p : Nat} {c : CacheEnt}

theorem State.writeBack_none (h : (s.heat p).wbq = []) (ecc : Ecc) : s.writeBack p ecc = s := by
  simp [State.writeBack, h]

theorem HeatP.drain_idle {h : HeatP} (hq : h.queue = []) (n : Nat) : HeatP.drain n h = h := by
  cases n <;> simp [HeatP.drain, HeatP.serve, hq]

/-- An entry that reads without error and is not shared takes its increments. -/
theorem State.mergeEntry_unshared (h : s.sharedEntry c.zoom c.idx = false) : s.mergeEntry p c .ok =
    (s.wrWord32 (heatAddr c.zoom c.bank c.idx) (entryAdd (s.rdWord32 (heatAddr c.zoom c.bank c.idx))
      (s.rd F.HEAT_PLFSR_STATE p) c.rd c.wr).1).wr F.HEAT_PLFSR_STATE p (entryAdd (s.rdWord32 (heatAddr c.zoom c.bank c.idx))
      (s.rd F.HEAT_PLFSR_STATE p) c.rd c.wr).2 := by
  simp [State.mergeEntry, State.writeEntry, Ecc.isUe, h]

/-- The only entry of the cache is written back, and no lookup waits for its place. -/
theorem State.writeBack_single (hw : (s.heat p).wbq = [c.key]) (hc : (s.heat p).cache = [c]) (hq : (s.heat p).queue = [])
    (ecc : Ecc) (hm : (s.mergeEntry p c ecc).heat p = s.heat p) :
    s.writeBack p ecc = (s.mergeEntry p c ecc).modHeat p fun h => { h with wbq := [], cache := [] } := by
  simp [State.writeBack, hw, hc, hq, State.modHeat, hm, HeatP.drain_idle]

theorem State.writeBack_changes {a : Nat} (ha : a = heatAddr c.zoom c.bank c.idx) (hw : (s.heat p).wbq = [c.key])
    (hc : (s.heat p).cache = [c]) (hq : (s.heat p).queue = []) (hs : s.sharedEntry c.zoom c.idx = false)
    (hl : s.rd F.HEAT_PLFSR_STATE p < 65536) :
    Changes [(F.HEAT_PLFSR_STATE, p, (entryAdd (s.rdWord32 a) (s.rd F.HEAT_PLFSR_STATE p) c.rd c.wr).2)]
      (runParts a 4 ++ [.heat p]) [] [] s (s.writeBack p .ok) ∧
    (s.writeBack p .ok).rdWord32 a = (entryAdd (s.rdWord32 a) (s.rd F.HEAT_PLFSR_STATE p) c.rd c.wr).1 ∧
    (s.writeBack p .ok).heat p = { s.heat p with wbq := [], cache := [] } := by
  subst ha
  obtain ⟨hword, hlfsr⟩ := entryAdd_lt (s.rdWord32 (heatAddr c.zoom c.bank c.idx)) c.rd c.wr hl
  have hmerge := State.mergeEntry_unshared (p := p) hs
  generalize entryAdd _ _ c.rd c.wr = r at hword hlfsr hmerge ⊢
  generalize heatAddr c.zoom c.bank c.idx = a at hmerge ⊢
  have hwrites := (s.wrWord32_changes a r.1).trans (State.wr_changes _ F.HEAT_PLFSR_STATE p r.2 (Nat.mod_eq_of_lt hlfsr))
  rw [← hmerge] at hwrites
  have hheat : (s.mergeEntry p c .ok).heat p = s.heat p :=
    hwrites.only (.heat p) (by simpa [Vals.parts] using notMem_runParts (by simp) a 4)
  rw [State.writeBack_single hw hc hq .ok hheat]
  refine ⟨(hwrites.trans (State.modHeat_changes _ p _)).mono (by simp) (by simp [Vals.parts]), ?_, ?_⟩
  · rw [State.modHeat, State.rdWord32_congr (State.setHeat_mem ..), hmerge, State.wr_rdWord32,
      State.rdWord32_wrWord32 _ _ _ hword]
  · rw [State.modHeat, State.heat_setHeat, hheat]

end

theorem writeBack_merges (s : State) (n a : Nat) (c : CacheEnt) (hq : Quiet s) (hn : n < 16 ∧ s.coreRuns = true)
    (ha : c.bank < 2 ∧ c.idx < (if c.zoom then 65536 else 262144) ∧ a = heatAddr c.zoom c.bank c.idx)
    (h : (s.heat n).wbq = [c.key] ∧ (s.heat n).cache = [c] ∧ (s.heat n).queue = [] ∧ s.sharedEntry c.zoom c.idx = false)
    (hl : s.rd F.HEAT_PLFSR_STATE n < 65536) :
    Gives (.cacheWriteBack n .ok) s [(F.HEAT_PLFSR_STATE, n, (entryAdd (s.rdWord32 a) (s.rd F.HEAT_PLFSR_STATE n) c.rd
      c.wr).2)] (.heat n :: runParts a 4) [] fun t => t.rdWord32 a = (entryAdd (s.rdWord32 a) (s.rd F.HEAT_PLFSR_STATE
      n) c.rd c.wr).1 ∧ (t.heat n).cache = [] ∧ (t.heat n).wbq = [] := by
  obtain ⟨hwbq, hcache, hqueue, hshared⟩ := h
  obtain ⟨-, -, haddr⟩ := ha
  obtain ⟨hchanges, hword, hheat⟩ := State.writeBack_changes (s := s.begun) haddr hwbq hcache hqueue hshared hl
  refine Changes.gives_running (k := fun a => a.writeBack n .ok) (hchanges.mono (fun v hv => hv) (by
    simp +contextual [Vals.parts, or_imp]))
    (exec_cacheWriteBack s n .ok) (decide_eq_true hn.1) hq hn.2 ⟨hword, ?_, ?_⟩ <;> rw [hheat]

/-! The end of FLUSHING (R233, R234) -/

section
variable {s : State}

theorem State.flushEnd_waits (h : s.rd F.HEAT_STAT_OSTATE 0 ≠ 0 ∨ s.flushed s.otherBank = false) : s.flushEnd = s :=
  if_pos (by simpa using h)

theorem State.flushEnd_clears (h : s.rd F.HEAT_STAT_OSTATE 0 = 0 ∧ s.flushed s.otherBank = true)
    (hr : s.flag F.HEAT_STAT_REL_PEND 0 = true) :
    s.flushEnd = ((s.clr F.HEAT_STAT_REL_PEND 0).clearBank s.otherBank).wr F.HEAT_STAT_OSTATE 0 2 := by
  simp [State.flushEnd, h, hr]

theorem State.flushEnd_freezes (h : s.rd F.HEAT_STAT_OSTATE 0 = 0 ∧ s.flushed s.otherBank = true)
    (hr : s.flag F.HEAT_STAT_REL_PEND 0 = false) :
    s.flushEnd = (forUp 16 (fun p a => a.startExport p) (s.wr F.HEAT_STAT_OSTATE 0 1)).expBusy := by
  simp [State.flushEnd, h, hr]

end

/-! Clearing a bank (R234) -/

section
variable (s : State) (b : Nat)

theorem fld_notMem_bankParts (f : Fld) (i : Nat) : Part.fld f i ∉ bankParts b := fun hm =>
  (List.mem_append.1 hm).elim (notMem_runParts (by simp) _ _) (notMem_runParts (by simp) _ _)

theorem fld_notMem_bankZeros {f : Fld} (h : ∀ g ∈ F.bankCounters, g.id ≠ f.id) (i : Nat) :
    Part.fld f i ∉ (bankZeros b).parts := by
  simp only [bankZeros, Vals.parts, List.map_flatMap, List.map_map, List.mem_flatMap, List.mem_map]
  rintro ⟨p, -, g, hg, he⟩
  simp only [Function.comp_apply, Part.field.injEq, Fld.key_inj] at he
  exact h g hg he.1

/-- The memory of a bank and its half of the zoom table set to 0. -/
def State.zeroBank : State := (s.zeroMem (heatAddr false b 0) 0x100000).zeroMem (heatAddr true b 0) 0x40000

theorem State.zeroBank_changes : Changes [] (bankParts b) [] [] s (s.zeroBank b) :=
  (s.zeroMem_changes _ _).trans (State.zeroMem_changes _ _ _) (by simp)

theorem State.zeroBank_zero : BankZero b (s.zeroBank b) := by
  refine ⟨fun k hk => ?_, State.zeroMem_zero _ _ _⟩
  refine (State.rdByte_zeroMem _ _ _ _).trans ?_
  rw [s.zeroMem_zero _ _ k hk, ite_self]

/-- The counters of a bank are cleared. -/
theorem clrBankCounters_changes : Changes (bankZeros b) [] [] [] s
    (forUp 16 (fun p a => a.clrAll F.bankCounters (2 * p + b)) s) := by
  have hclr := forUp_clears (all := F.bankCounters) (xs := fun p => F.bankCounters.map fun f => (f, 2 * p + b)) (by decide) 16 s
    fun p a => a.clrAll_clears (by decide) (fun _ hf => hf) (2 * p + b)
  have hzeros : bankZeros b = ((List.range 16).flatMap fun p => F.bankCounters.map fun f => (f, 2 * p + b)).map
      fun x => (x.1, x.2, 0) := by simp [bankZeros, List.map_flatMap, Function.comp_def]
  exact hzeros ▸ hclr.changes

theorem State.clearBank_changes :
    Changes (bankZeros b) (bankParts b) [] [] s (s.clearBank b) ∧ BankZero b (s.clearBank b) := by
  obtain ⟨hcounts, hzoom⟩ := s.zeroBank_zero b
  have hclr : Changes (bankZeros b) [] [] [] (s.zeroBank b) (s.clearBank b) := clrBankCounters_changes _ b
  have hbyte : ∀ x, Part.byte x ∉ (bankZeros b).parts ++ [] := fun x => by simp [Vals.parts]
  refine ⟨?_, hclr.only_quiet.readsZero (fun x _ _ => hbyte x) hcounts,
    hclr.only_quiet.readsZero (fun x _ _ => hbyte x) hzoom⟩
  exact List.append_nil (bankParts b) ▸ (s.zeroBank_changes b).trans hclr (by simp)

end

/-- The release that waited takes effect: the bank is in CLEARING. -/
theorem Changes.clearing {vs : Vals} {ps : List Part} {s t : State} (h : Changes vs ps [] [] (s.clr F.HEAT_STAT_REL_PEND 0) t)
    (hr : Part.fld F.HEAT_STAT_REL_PEND 0 ∉ vs.parts ++ ps) (ho : Part.fld F.HEAT_STAT_OSTATE 0 ∉ vs.parts) :
    Changes ((F.HEAT_STAT_OSTATE, 0, 2) :: (F.HEAT_STAT_REL_PEND, 0, 0) :: vs) ps [] [] s (t.wr F.HEAT_STAT_OSTATE 0 2) := by
  have hclear := (s.wr_changes F.HEAT_STAT_REL_PEND 0 0 rfl).trans h (by simpa using hr)
  have hstays : ∀ v ∈ (F.HEAT_STAT_REL_PEND, 0, 0) :: vs, Part.fld v.1 v.2.1 ≠ Part.fld F.HEAT_STAT_OSTATE 0 :=
    List.forall_mem_cons.2 ⟨by decide, fun v hv he => ho (List.mem_map.2 ⟨v, hv, he⟩)⟩
  refine (hclear.trans (t.wr_changes F.HEAT_STAT_OSTATE 0 2 rfl) fun v hv => ?_).mono ?_ ?_
  · simpa [Vals.parts] using hstays v hv
  · simp +contextual [or_imp]
  · simp +contextual [Vals.parts, or_imp]

theorem flushEnd_clears (s : State) (hq : Quiet s) (h : s.coreRuns = true ∧ s.rd F.HEAT_STAT_OSTATE 0 = 0 ∧
    s.flushed s.otherBank = true ∧ s.flag F.HEAT_STAT_REL_PEND 0 = true ∧ s.rd F.HEAT_STAT_LIVE 0 < 2) :
    Gives .flushEnd s ((F.HEAT_STAT_OSTATE, 0, 2) :: (F.HEAT_STAT_REL_PEND, 0, 0) :: bankZeros s.otherBank) (bankParts
      s.otherBank) [] fun t => BankZero s.otherBank t := by
  obtain ⟨hc, ho, hf, hr, -⟩ := h
  have hend : s.begun.flushEnd = ((s.begun.clr F.HEAT_STAT_REL_PEND 0).clearBank s.otherBank).wr F.HEAT_STAT_OSTATE 0 2 :=
    State.flushEnd_clears (s := s.begun) ⟨ho, hf⟩ hr
  obtain ⟨hclear, hcounts, hzoom⟩ := (s.begun.clr F.HEAT_STAT_REL_PEND 0).clearBank_changes s.otherBank
  have hrel : Part.fld F.HEAT_STAT_REL_PEND 0 ∉ (bankZeros s.otherBank).parts ++ bankParts s.otherBank := fun hm =>
    (List.mem_append.1 hm).elim (fld_notMem_bankZeros _ (by decide) 0) (fld_notMem_bankParts _ _ 0)
  have hall := hclear.clearing hrel (fld_notMem_bankZeros _ (by decide) 0)
  have hstate := State.wr_only ((s.begun.clr F.HEAT_STAT_REL_PEND 0).clearBank s.otherBank) F.HEAT_STAT_OSTATE 0 2
  rw [← hend] at hall hstate
  exact Changes.gives_running (k := State.flushEnd) hall (exec_flushEnd s) rfl hq hc
    ⟨hstate.readsZero (by simp) hcounts, hstate.readsZero (by simp) hzoom⟩

/-! Exports (R201, R241, R242) -/

theorem forUp_one {f : Nat → State → State} {n p : Nat} (s : State) (hp : p < n) (hs : ∀ i < n, i ≠ p → f i s = s)
    (ht : ∀ i < n, i ≠ p → f i (f p s) = f p s) : forUp n f s = f p s := by
  have h := forUp_ind (fun i a => a = if p < i then f p s else s) n (s := s) (f := f) (by simp) fun i a hi ha => by
    rcases Nat.lt_trichotomy p i with hlt | rfl | hgt
    · rw [ha, if_pos hlt, if_pos (by omega), ht i hi (by omega)]
    · rw [ha, if_neg (by omega), if_pos (by omega)]
    · rw [ha, if_neg (by omega), if_neg (by omega), hs i hi (by omega)]
  rw [h, if_pos hp]

/-- The configuration that exports latch. -/
def exportConfig : List Fld := [F.HEAT_PCFG_SPAN, F.HEAT_PCFG_REGION, F.HEAT_PRANGE_FIRST, F.HEAT_ZCTL_EN, F.HEAT_ZCFG_PORT,
  F.HEAT_ZCFG_EXPORT]

/-- A parser that exports a bank, with the configuration latched. -/
def State.latched (s : State) (p bank : Nat) (h : HeatP) : HeatP := { h with
  exBank := bank, exFirst := s.rd F.HEAT_PRANGE_FIRST p, exLen := s.partLen p, exZooms := s.exportZooms p, chunk := none }

theorem Only.latched {ps : List Part} {s t : State} (h : Only ps s t)
    (hp : ∀ f ∈ exportConfig, ∀ i, Part.fld f i ∉ ps) : t.latched = s.latched := by
  simp only [exportConfig, List.forall_mem_cons] at hp
  obtain ⟨hspan, hregion, hfirst, hen, hport, hexport, -⟩ := hp
  funext p bank x
  simp only [State.latched, State.partLen, State.partRegion, State.partSpan, State.exportZooms, State.flag, h.rd (hspan _),
    h.rd (hregion _), h.rd (hfirst _), h.rd (hen _), h.rd (hport _), h.rd (hexport _)]

section
variable {s : State} {p : Nat}

theorem State.startExport_off (h : s.rd F.HEAT_PCFG_EXPORT p ≠ 1) : s.startExport p = s := if_pos (by simp [State.flag, h])

/-- The fields that report what a partition exports, at its start. -/
def State.exportShown (s : State) (p : Nat) : State :=
  (((s.clrAll [F.HEAT_EXP_STAT_ZPH, F.HEAT_EXP_STAT_ZWIN, F.HEAT_EXP_STAT_NEXT] p).wr F.HEAT_EXP_STAT_EPOCH p
    (s.rd F.HEAT_BANK_EPOCH_EPOCH s.otherBank)).setF F.HEAT_EXP_STAT_ACTIVE p).wrB F.HEAT_EXP_STAT_WAIT p !(s.port p).rows

/-- What they read then: the epoch of the bank, and whether rows are waited for. -/
abbrev exportVals (s : State) (p : Nat) : Vals :=
  [(F.HEAT_EXP_STAT_ZPH, p, 0), (F.HEAT_EXP_STAT_ZWIN, p, 0), (F.HEAT_EXP_STAT_NEXT, p, 0),
    (F.HEAT_EXP_STAT_EPOCH, p, s.rd F.HEAT_BANK_EPOCH_EPOCH s.otherBank % 256), (F.HEAT_EXP_STAT_ACTIVE, p, 1),
    (F.HEAT_EXP_STAT_WAIT, p, if (s.port p).rows then 0 else 1)]

theorem State.exportShown_changes : Changes (exportVals s p) [] [] [] s (s.exportShown p) := by
  have hwait : ∀ a : State, Changes [(F.HEAT_EXP_STAT_WAIT, p, if (s.port p).rows then 0 else 1)] [] [] [] a
      (a.wrB F.HEAT_EXP_STAT_WAIT p !(s.port p).rows) := fun a => by
    cases (s.port p).rows
    · exact a.wr_changes F.HEAT_EXP_STAT_WAIT p 1 rfl
    · exact a.wr_changes F.HEAT_EXP_STAT_WAIT p 0 rfl
  have hzph := s.wr_changes F.HEAT_EXP_STAT_ZPH p 0 rfl
  have hzwin := hzph.trans (State.wr_changes _ F.HEAT_EXP_STAT_ZWIN p 0 rfl)
  have hnext := hzwin.trans (State.wr_changes _ F.HEAT_EXP_STAT_NEXT p 0 rfl)
  have hepoch := hnext.trans (State.wr_masked_changes _ F.HEAT_EXP_STAT_EPOCH p (s.rd F.HEAT_BANK_EPOCH_EPOCH s.otherBank))
  have hactive := hepoch.trans (State.wr_changes _ F.HEAT_EXP_STAT_ACTIVE p 1 rfl)
  exact hactive.trans (hwait _)

theorem State.startExport_on (he : s.rd F.HEAT_PCTL_EN p = 1) (hx : s.rd F.HEAT_PCFG_EXPORT p = 1)
    (ha : s.associated p = true) : s.startExport p = (s.exportShown p).modHeat p (s.latched p s.otherBank) := by
  have hshown : (s.exportShown p).latched = s.latched := State.exportShown_changes.only_quiet.latched (by
    simp (disch := decide) [exportConfig, Vals.parts, Fld.ids_differ])
  have hepoch : (s.clrAll [F.HEAT_EXP_STAT_ZPH, F.HEAT_EXP_STAT_ZWIN, F.HEAT_EXP_STAT_NEXT] p).rd F.HEAT_BANK_EPOCH_EPOCH
      s.otherBank = s.rd F.HEAT_BANK_EPOCH_EPOCH s.otherBank := (s.clrAll_only _ p).rd (fld_notMem_partsOf (by decide))
  rw [← hshown, State.startExport, if_neg (by
    simpa [State.flag, he, hx, State.associated, State.seg, or_iff_not_imp_left] using ha)]
  simp only [hepoch]
  rfl

theorem State.startExport_changes (he : s.rd F.HEAT_PCTL_EN p = 1) (hx : s.rd F.HEAT_PCFG_EXPORT p = 1)
    (ha : s.associated p = true) : Changes (exportVals s p) [.heat p] [] [] s (s.startExport p) ∧
    (s.startExport p).heat p = s.latched p s.otherBank (s.heat p) := by
  have hshown := State.exportShown_changes (s := s) (p := p)
  rw [State.startExport_on he hx ha]
  refine ⟨(hshown.trans (State.modHeat_changes _ p _)).mono (by simp) (by simp [Vals.parts]), ?_⟩
  rw [State.modHeat, State.heat_setHeat]
  exact congrArg _ (hshown.only (.heat p) (by simp [Vals.parts]))

end

theorem State.expBusy_off {s : State} (h : NoExport s) : Changes [(F.HEAT_STAT_EXP_BUSY, 0, 0)] [] [] [] s s.expBusy := by
  have hany : ((List.range 16).any fun p => s.flag F.HEAT_EXP_STAT_ACTIVE p) = false :=
    List.any_eq_false.2 fun p hp => by simpa [State.flag] using h p hp
  rw [State.expBusy, hany]
  exact s.wr_changes _ _ _ rfl

theorem State.expBusy_on {s : State} {p : Nat} (hp : p < 16) (h : s.rd F.HEAT_EXP_STAT_ACTIVE p = 1) :
    Changes [(F.HEAT_STAT_EXP_BUSY, 0, 1)] [] [] [] s s.expBusy := by
  have hany : ((List.range 16).any fun p => s.flag F.HEAT_EXP_STAT_ACTIVE p) = true :=
    List.any_eq_true.2 ⟨p, List.mem_range.2 hp, by simp [State.flag, h]⟩
  rw [State.expBusy, hany]
  exact s.wr_changes _ _ _ rfl

theorem flushEnd_freezes (s : State) (hq : Quiet s) (h : s.coreRuns = true ∧ s.rd F.HEAT_STAT_OSTATE 0 = 0 ∧
    s.flushed s.otherBank = true ∧ s.flag F.HEAT_STAT_REL_PEND 0 = false) (hn : NoExport s)
    (hx : ∀ p ∈ List.range 16, s.rd F.HEAT_PCFG_EXPORT p ≠ 1) :
    Gives .flushEnd s [(F.HEAT_STAT_OSTATE, 0, 1), (F.HEAT_STAT_EXP_BUSY, 0, 0)] [] [] anyState := by
  obtain ⟨hc, ho, hf, hr⟩ := h
  have hend : s.begun.flushEnd = _ := State.flushEnd_freezes (s := s.begun) ⟨ho, hf⟩ hr
  have hfrozen := s.begun.wr_changes F.HEAT_STAT_OSTATE 0 1 (by decide)
  rw [forUp_const 16 _ fun p hp => State.startExport_off (hfrozen.rd.trans_ne (hx p (List.mem_range.2 hp)))] at hend
  have hbusy := hfrozen.trans (State.expBusy_off fun p hp => hfrozen.rd.trans_ne (hn p hp))
  exact Changes.gives_running (k := State.flushEnd) (hend ▸ hbusy) (exec_flushEnd s) rfl hq hc trivial

theorem flushEnd_exports (s : State) (p : Nat) (hq : Quiet s) (h : s.coreRuns = true ∧ s.rd F.HEAT_STAT_OSTATE 0 = 0 ∧
    s.flushed s.otherBank = true ∧ s.flag F.HEAT_STAT_REL_PEND 0 = false)
    (hx : p < 16 ∧ s.rd F.HEAT_PCTL_EN p = 1 ∧ s.associated p = true ∧ ∀ q ∈ List.range 16,
      (s.rd F.HEAT_PCFG_EXPORT q = 1 ↔ q = p)) :
    Gives .flushEnd s [(F.HEAT_STAT_OSTATE, 0, 1), (F.HEAT_STAT_EXP_BUSY, 0, 1), (F.HEAT_EXP_STAT_ACTIVE, p, 1),
      (F.HEAT_EXP_STAT_WAIT, p, if (s.port p).rows then 0 else 1), (F.HEAT_EXP_STAT_EPOCH, p, s.rd
      F.HEAT_BANK_EPOCH_EPOCH s.otherBank % 256), (F.HEAT_EXP_STAT_NEXT, p, 0), (F.HEAT_EXP_STAT_ZPH, p, 0),
      (F.HEAT_EXP_STAT_ZWIN, p, 0)] [.heat p] [] fun t => t.heat p =
      { s.heat p with
        exBank := s.otherBank, exFirst := s.rd F.HEAT_PRANGE_FIRST p, exLen := s.partLen p, exZooms := s.exportZooms p,
        chunk := none } := by
  obtain ⟨hc, ho, hf, hr⟩ := h
  obtain ⟨hp, hen, ha, hexports⟩ := hx
  have hend : s.begun.flushEnd = _ := State.flushEnd_freezes (s := s.begun) ⟨ho, hf⟩ hr
  have hfrozen := s.begun.wr_changes F.HEAT_STAT_OSTATE 0 1 (by decide)
  have hlatched := hfrozen.only_quiet.latched (by simp (disch := decide) [exportConfig, Vals.parts, Fld.ids_differ])
  have hother : ∀ q < 16, q ≠ p → s.rd F.HEAT_PCFG_EXPORT q ≠ 1 := fun q hq' hne he =>
    hne ((hexports q (List.mem_range.2 hq')).1 he)
  have hbank : (s.begun.wr F.HEAT_STAT_OSTATE 0 1).otherBank = s.otherBank := congrArg (1 - ·) hfrozen.rd
  have hvals : exportVals (s.begun.wr F.HEAT_STAT_OSTATE 0 1) p = exportVals s p := by
    have hepoch : (s.begun.wr F.HEAT_STAT_OSTATE 0 1).rd F.HEAT_BANK_EPOCH_EPOCH s.otherBank =
      s.rd F.HEAT_BANK_EPOCH_EPOCH s.otherBank := hfrozen.rd
    rw [exportVals, hbank, hepoch]
    rfl
  generalize s.begun.wr F.HEAT_STAT_OSTATE 0 1 = a at hend hfrozen hlatched hbank hvals
  have hseg : a.seg p = s.seg p := hfrozen.rd
  obtain ⟨hstart, hheat⟩ := State.startExport_changes (s := a) (hfrozen.rd.trans hen)
    (hfrozen.rd.trans ((hexports p (List.mem_range.2 hp)).2 rfl)) (by rwa [State.associated, hseg])
  rw [forUp_one a hp (fun q hq' hne => State.startExport_off (hfrozen.rd.trans_ne (hother q hq' hne)))
    fun q hq' hne => State.startExport_off (hstart.rd.trans_ne (hfrozen.rd.trans_ne (hother q hq' hne)))] at hend
  have hbusy := State.expBusy_on hp (hstart.holds (F.HEAT_EXP_STAT_ACTIVE, p, 1) (by simp))
  rw [← hend] at hbusy
  rw [hvals] at hstart
  have hall := (hfrozen.trans hstart).trans hbusy
  refine Changes.gives_running (k := State.flushEnd) (hall.mono ?_ ?_) (exec_flushEnd s) rfl hq hc ?_
  · simp +contextual [or_imp]
  · simp +contextual [Vals.parts, or_imp]
  · rw [hbusy.only (.heat p) (by simp [Vals.parts]), hheat, hlatched, hbank, hfrozen.only (.heat p) (by simp [Vals.parts])]
    rfl

section
variable {s : State} {p : Nat}

/-- The bytes of an entry of a chunk; those of one past the end are 0 (R198). -/
def State.entryBytes (s : State) (bank : Nat) : Option (Bool × Nat) → List Nat
  | some (zoom, i) => leBytes (s.rdWord32 (heatAddr zoom bank i)) 4
  | none => [0, 0, 0, 0]

/-- No entry that two partitions share, and so none whose contents are unpredictable (R223). -/
def State.Unshared (s : State) (es : List (Option (Bool × Nat))) : Prop :=
  ∀ zoom i, some (zoom, i) ∈ es → s.sharedEntry zoom i = false

/-- Entries that are not shared are read in order, without error. -/
theorem State.readChunk_unshared (bank : Nat) {es : List (Option (Bool × Nat))} (h : s.Unshared es) :
    State.readChunk [] bank es s = (es.flatMap (s.entryBytes bank), s) := by
  induction es with
  | nil => rfl
  | cons e t ih =>
    have ht := ih fun zoom i hm => h zoom i (List.mem_cons_of_mem _ hm)
    match e with
    | none => simp [State.readChunk, ht, State.entryBytes, leBytes]
    | some (zoom, i) => simp [State.readChunk, ht, State.entryBytes, State.readEntry, h zoom i (by simp)]

theorem State.chunkReady_idle (h : s.rd F.HEAT_EXP_STAT_ACTIVE p ≠ 1 ∨ (s.heat p).chunk.isSome = true) (ue : List Nat) :
    s.chunkReady p ue = s := if_pos (by simpa [State.flag] using h)

/-- A parser with the bytes of the next chunk that it exports. -/
def State.chunkHeld (s : State) (p : Nat) : State := s.modHeat p fun h =>
  { h with chunk := some ((s.chunkEntries p).flatMap (s.entryBytes (s.heat p).exBank)) }

theorem State.chunkReady_reads (ha : s.rd F.HEAT_EXP_STAT_ACTIVE p = 1) (hc : (s.heat p).chunk = none)
    (hs : s.Unshared (s.chunkEntries p)) :
    s.chunkReady p [] = (s.chunkHeld p).modPort p fun q => { q with chunkAge := 0 } := by
  simp [State.chunkReady, State.chunkHeld, State.flag, ha, hc, State.readChunk_unshared _ hs, chunkUes, forEach]

end

theorem chunkReady_gives (s : State) (p : Nat) (hq : Quiet s) (hp : p < 16 ∧ s.coreRuns = true)
    (ha : s.rd F.HEAT_EXP_STAT_ACTIVE p = 1) (hn : (s.heat p).chunk = none) (hs : s.Unshared (s.chunkEntries p)) :
    Gives (.chunkReady p []) s [] [.heat p, .port p] [] fun t => (t.heat p).chunk = some ((s.chunkEntries p).flatMap
      (s.entryBytes (s.heat p).exBank)) ∧ (t.port p).chunkAge = 0 := by
  obtain ⟨hlt, hc⟩ := hp
  have hreads := State.chunkReady_reads (s := s.begun) ha hn hs
  have hheat : Changes [] [.heat p] [] [] s.begun (s.begun.chunkHeld p) := State.modHeat_changes _ p _
  have hport := (s.begun.chunkHeld p).modPort_changes p fun q => { q with chunkAge := 0 }
  refine Changes.gives_running (k := fun a => a.chunkReady p []) (hreads ▸ hheat.trans hport) (exec_chunkReady s p [])
    (decide_eq_true hlt) hq hc ⟨?_, ?_⟩ <;> simp only [hreads]
  · rw [hport.only (.heat p) (by simp [Vals.parts]), State.chunkHeld, State.modHeat, State.heat_setHeat]
    rfl
  · rw [State.port_modPort]

/-! HEAT_PLFSR and the windows (R240, R246) -/

section
variable {s : State}

theorem State.loadLfsr_changes (p v : Nat) :
    Changes [(F.HEAT_PLFSR_STATE, p, if v % 65536 = 0 then 0xACE1 else v % 65536)] [] [] [] s (s.loadLfsr p v) := by
  have hwrite := s.wr_masked_changes F.HEAT_PLFSR_STATE p (if v % 65536 = 0 then 0xACE1 else v)
  rwa [apply_ite (· % 2 ^ F.HEAT_PLFSR_STATE.w)] at hwrite

theorem State.heatWrite_stores (h : ∀ k ∈ List.range 16, s.rd F.HEAT_PCTL_EN k ≠ 1 ∧ s.rd F.HEAT_ZCTL_EN k ≠ 1)
    (req a v : Nat) : s.heatWrite req a v = s.wrWord32 a v := by
  refine if_neg fun hany => ?_
  obtain ⟨k, hk, hen⟩ := List.any_eq_true.1 hany
  obtain ⟨hp, hz⟩ := h k hk
  simp [State.flag, hp, hz] at hen

theorem State.heatWrite_refused (h : ¬∀ k ∈ List.range 16, s.rd F.HEAT_PCTL_EN k ≠ 1 ∧ s.rd F.HEAT_ZCTL_EN k ≠ 1)
    (req a v : Nat) : s.heatWrite req a v = s.refuse F.GLB_WERR_HEAT req a := by
  refine if_pos (List.any_eq_true.2 ?_)
  push Not at h
  obtain ⟨k, hk, hen⟩ := h
  exact ⟨k, hk, by simpa [State.flag, or_iff_not_imp_left] using hen⟩

/-- A refusal while another one is noted sets the flag of its block alone (R402). -/
theorem State.refuse_changes {f : Fld} (hf : f.w = 1) (h : s.werrAny = true) (req addr : Nat) :
    Changes [(f, 0, 1)] [] [] [] s (s.refuse f req addr) ∧ (s.refuse f req addr).refusedNow = true := by
  rw [State.refuse_again s f req addr h]
  have hflag := s.wr_changes f 0 1 (by rw [hf]; rfl)
  exact ⟨⟨hflag.holds, fun p hp => by simpa [State.setF] using hflag.only p hp, hflag.raised, hflag.out⟩, rfl⟩

theorem wf_heatWindowWrite {r : Requester} {a v : Nat} (h : 0x200000 ≤ a ∧ a < 0x480000 ∧ a % 4 = 0 ∧ v < 2 ^ 32) :
    Wf.heatWindowWrite r a v = true := by
  simp only [Wf.heatWindowWrite, h, and_self, decide_true, Bool.and_self]

end

/-- Settles O32: by the state of the parsers, of the bank, of the exports and of the partitions, each command makes the writes
that a lemma above names. -/
theorem heatUpdatesReachTheirBanks : Obligations.HeatUpdatesReachTheirBanks := by
  unfold Obligations.HeatUpdatesReachTheirBanks
  refine ⟨writeBack_merges, fun s n ecc hq hn h => ?nothingQueued,
    fun s hq ⟨hc, ho, hf, hr⟩ hn hx => flushEnd_freezes s hq ⟨hc, ho, hf, hr⟩ hn hx,
    fun s p hq h _ hx => flushEnd_exports s p hq h hx, flushEnd_clears, fun s hq h => ?waits,
    fun s p hq ⟨hp, hc, ha, hn⟩ hs => ?reads, fun s p ue hq hp h => ?noChunk, fun s r p v hr hw => ?loads,
    fun s r a v hr hw he => ?stores, fun s r a v hr hw he hany => ?refused⟩
  case nothingQueued =>
    refine Gives.of_idle (k := fun a => a.writeBack n ecc) (exec_cacheWriteBack s n ecc) (decide_eq_true hn) hq fun hc => ?_
    exact State.writeBack_none (s := s.begun) (h.resolve_right (by simp [hc])) ecc
  case waits =>
    refine Gives.of_idle (k := State.flushEnd) (exec_flushEnd s) rfl hq fun hc => ?_
    exact State.flushEnd_waits (s := s.begun) (h.resolve_left (by simp [hc]))
  case reads =>
    have hunshared : s.Unshared (s.chunkEntries p) := fun zoom i hm => (Bool.not_eq_true' _).mp (List.all_eq_true.1 hs _ hm)
    obtain ⟨t, hexec, hv, hsame, hout, hchunk, hage⟩ := chunkReady_gives s p hq ⟨hp, hc⟩ ha hn hunshared
    refine ⟨t, hexec, hv, hsame, hout, hchunk.trans (congrArg (fun g => some ((s.chunkEntries p).flatMap g)) ?_), hage⟩
    exact funext fun e => by cases e <;> rfl
  case noChunk =>
    refine Gives.of_idle (k := fun a => a.chunkReady p ue) (exec_chunkReady s p ue) (decide_eq_true hp) hq fun hc => ?_
    exact State.chunkReady_idle (s := s.begun) (h.resolve_left (by simp [hc])) ue
  case loads =>
    exact Changes.gives_core (k := fun a => a.loadLfsr p v) (State.loadLfsr_changes p v) (exec_heatPlfsrWrite s r p v)
      (by simpa [Wf.heatPlfsrWrite] using hw) hr trivial
  case stores =>
    have hstores := State.heatWrite_stores (s := s.begun) he (reqCode r) a v
    refine Changes.gives_core (k := fun b => b.heatWrite (reqCode r) a v) (hstores ▸ s.begun.wrWord32_changes a v)
      (exec_heatWindowWrite s r a v) (wf_heatWindowWrite hw) hr ?_
    obtain ⟨-, -, -, hv⟩ := hw
    rw [State.emit_rdWord32, hstores, State.rdWord32_wrWord32 _ a v hv]
  case refused =>
    have hrefused := State.heatWrite_refused (s := s.begun) he (reqCode r) a v
    obtain ⟨hflag, hnow⟩ := State.refuse_changes (s := s.begun) (f := F.GLB_WERR_HEAT) rfl hany (reqCode r) a
    exact Changes.gives_core (k := fun b => b.heatWrite (reqCode r) a v) (hrefused ▸ hflag) (exec_heatWindowWrite s r a v)
      (wf_heatWindowWrite hw) hr (hrefused ▸ hnow)

end Sys2Proof.Machine
end

section
/-! O33: releases of a bank, and clears of partitions, windows and counters (R224, R234, R238, R243, R245). -/
namespace Sys2Proof.Machine

/-! Releases of a bank (R234, R243) -/

section
variable {s : State}

/-- Without exports nothing is abandoned. -/
theorem State.startClearing_noExport (h : NoExport s) :
    s.startClearing = (s.clearBank s.otherBank).wr F.HEAT_STAT_OSTATE 0 2 := by
  have hidle : ∀ p < 16, s.abandonExport p = s := fun p hp =>
    if_neg (by simpa [State.flag] using h p (List.mem_range.2 hp))
  rw [State.startClearing, forUp_const (f := fun p a => a.abandonExport p) 16 s hidle]

theorem State.startClearing_changes (h : NoExport s) :
    Changes ((F.HEAT_STAT_OSTATE, 0, 2) :: bankZeros s.otherBank) (bankParts s.otherBank) [] [] s s.startClearing ∧
    BankZero s.otherBank s.startClearing := by
  obtain ⟨hclear, hcounts, hzoom⟩ := s.clearBank_changes s.otherBank
  have hstate := (s.clearBank s.otherBank).wr_changes F.HEAT_STAT_OSTATE 0 2 rfl
  have hall := hclear.trans hstate fun v hv he =>
    fld_notMem_bankZeros s.otherBank (f := F.HEAT_STAT_OSTATE) (by decide) 0
      (List.mem_map.2 ⟨v, hv, by simpa [Vals.parts] using he⟩)
  rw [State.startClearing_noExport h]
  refine ⟨hall.mono ?_ ?_, hstate.only_quiet.readsZero (by simp [Vals.parts]) hcounts,
    hstate.only_quiet.readsZero (by simp [Vals.parts]) hzoom⟩
  · simp +contextual [or_imp]
  · simp +contextual [Vals.parts, or_imp]

theorem State.releaseBank_frozen (h : s.rd F.HEAT_STAT_OSTATE 0 = 1) : s.releaseBank = s.startClearing := if_pos h

theorem State.releaseBank_flushing (h : s.rd F.HEAT_STAT_OSTATE 0 = 0) :
    s.releaseBank = s.setF F.HEAT_STAT_REL_PEND 0 := by
  simp [State.releaseBank, h]

theorem State.releaseBank_elsewhere (h : 2 ≤ s.rd F.HEAT_STAT_OSTATE 0) : s.releaseBank = s := by
  rw [State.releaseBank, if_neg (by omega), if_neg (by omega)]

/-- AUTO_RELEASE's effect: the bank starts clearing where AUTO_REL is 1, it is FROZEN, and its exports are all complete or
waiting (R243). -/
def State.autoReleased (s : State) : State :=
  if s.flag F.HEAT_CFG_AUTO_REL 0 && s.rd F.HEAT_STAT_OSTATE 0 == 1 && (List.range 16).all (fun p =>
      !s.flag F.HEAT_EXP_STAT_ACTIVE p || s.flag F.HEAT_EXP_STAT_WAIT p)
  then s.startClearing else s

theorem exec_autoReleased (s : State) : exec .autoRelease s = effect Wf.autoRelease s State.autoReleased := rfl

theorem State.autoReleased_frozen (ha : s.flag F.HEAT_CFG_AUTO_REL 0 = true) (ho : s.rd F.HEAT_STAT_OSTATE 0 = 1)
    (hn : NoExport s) : s.autoReleased = s.startClearing := by
  have hall : (List.range 16).all (fun p => !s.flag F.HEAT_EXP_STAT_ACTIVE p || s.flag F.HEAT_EXP_STAT_WAIT p) = true :=
    List.all_eq_true.2 fun p hp => by simp [State.flag, hn p hp]
  simp [State.autoReleased, ha, ho, hall]

theorem State.autoReleased_elsewhere (h : s.flag F.HEAT_CFG_AUTO_REL 0 = false ∨ s.rd F.HEAT_STAT_OSTATE 0 ≠ 1) :
    s.autoReleased = s := by
  rcases h with h | h <;> simp [State.autoReleased, h]

/-- CLEAR_END's effect: the bank in CLEARING is CLEAN (R234). -/
def State.cleared (s : State) : State := if s.rd F.HEAT_STAT_OSTATE 0 = 2 then s.wr F.HEAT_STAT_OSTATE 0 3 else s

theorem exec_cleared (s : State) : exec .clearEnd s = effect Wf.clearEnd s State.cleared := rfl

theorem State.cleared_changes : Changes [(F.HEAT_STAT_OSTATE, 0, if s.rd F.HEAT_STAT_OSTATE 0 = 2 then 3 else
    s.rd F.HEAT_STAT_OSTATE 0)] [] [] [] s s.cleared := by
  unfold State.cleared
  split
  · exact s.wr_changes F.HEAT_STAT_OSTATE 0 3 rfl
  · exact ⟨.cons rfl (.nil s), .refl _ s, (List.append_nil _).symm, (List.append_nil _).symm⟩

end

/-! Clears of a partition (R224) -/

section
variable {s : State} {p b i n : Nat}

theorem State.zeroMem_none (lo : Nat) : s.zeroMem lo 0 = s := by
  have hall : s.mem.filter (fun c => !(decide (lo ≤ c.1) && decide (c.1 < lo + 0))) = s.mem :=
    List.filter_eq_self.2 fun c _ => by simpa using Nat.lt_or_ge c.1 lo
  rw [State.zeroMem, hall]
  rfl

/-- A run that does not wrap is one range of the memory. -/
theorem State.clearEntries_straight (h : i + n ≤ 262144) :
    s.clearEntries b i n = s.zeroMem (heatAddr false b i) (4 * n) := by
  have hmin : min n (262144 - i) = n := Nat.min_eq_left (by omega)
  simp only [State.clearEntries, hmin, Nat.sub_self, Nat.mul_zero, State.zeroMem_none]

theorem State.partClearEnd_none (h : (s.heat p).clr = none) : s.partClearEnd p = s := by simp [State.partClearEnd, h]

theorem State.partClearEnd_changes (h : (s.heat p).clr = some (b, i, n)) (hn : i + n ≤ 262144) :
    Changes ((F.HEAT_PCTL_CLR_BUSY, p, 0) :: F.bankCounters.map fun f => (f, 2 * p + b, 0))
      (.heat p :: runParts (heatAddr false b i) (4 * n)) [] [] s (s.partClearEnd p) ∧
    ReadsZero (s.partClearEnd p) (heatAddr false b i) (4 * n) ∧ ((s.partClearEnd p).heat p).clr = none := by
  have hzero := s.zeroMem_zero (heatAddr false b i) (4 * n)
  have hrange := s.zeroMem_changes (heatAddr false b i) (4 * n)
  have hend : s.partClearEnd p = ((((s.clearEntries b i n).clrAll F.bankCounters (2 * p + b)).clr
      F.HEAT_PCTL_CLR_BUSY p).modHeat p fun h => { h with clr := none }) := by simp only [State.partClearEnd, h]
  rw [State.clearEntries_straight hn] at hend
  generalize s.zeroMem _ _ = t at hzero hrange hend
  have hcounters := (t.clrAll_clears (all := F.bankCounters) (by decide) (fun _ hf => hf) (2 * p + b)).changes
  have hbusy := hcounters.trans (State.wr_changes _ F.HEAT_PCTL_CLR_BUSY p 0 rfl) (by
    simp (disch := decide) [F.bankCounters, Vals.parts, Fld.ids_differ])
  have hdone := hbusy.trans (State.modHeat_changes _ p fun h => { h with clr := none }) (by simp [Vals.parts])
  rw [hend]
  refine ⟨(hrange.trans hdone (by simp)).mono ?_ ?_, hdone.only_quiet.readsZero (by simp [Vals.parts]) hzero, ?_⟩
  · simp +contextual [or_imp, F.bankCounters]
  · simp +contextual [Vals.parts, or_imp, F.bankCounters]
  · rw [State.modHeat, State.heat_setHeat]

theorem State.pctlWrite_clears (req addr : Nat) (h : (s.heat p).clr = none) :
    Changes [(F.HEAT_PCTL_EN, p, 0), (F.HEAT_PCTL_CLR_BUSY, p, 1)] [.heat p] [] [] s (s.pctlWrite req addr p false true) ∧
    (s.pctlWrite req addr p false true).heat p =
      { s.heat p with clr := some (s.liveBank, s.rd F.HEAT_PRANGE_FIRST p, s.partLen p) } := by
  have hoff := s.wr_changes F.HEAT_PCTL_EN p 0 rfl
  have hwrite : s.pctlWrite req addr p false true = (s.wr F.HEAT_PCTL_EN p 0).partClear p := rfl
  have hrun : ((s.wr F.HEAT_PCTL_EN p 0).liveBank, (s.wr F.HEAT_PCTL_EN p 0).rd F.HEAT_PRANGE_FIRST p,
      (s.wr F.HEAT_PCTL_EN p 0).partLen p) = (s.liveBank, s.rd F.HEAT_PRANGE_FIRST p, s.partLen p) := by
    simp (disch := decide) only [State.liveBank, State.partLen, State.partRegion, State.partSpan, State.rd_wr_fld]
  have hbusy := hoff.trans (State.wr_changes _ F.HEAT_PCTL_CLR_BUSY p 1 rfl)
  rw [hwrite, State.partClear, State.partClearEnd_none (s := s.wr F.HEAT_PCTL_EN p 0) h, hrun]
  refine ⟨hbusy.trans (State.modHeat_changes _ p _), ?_⟩
  exact State.heat_setHeat ..

end

/-! Clears of a window (R238) -/

section
variable {s : State} {z b : Nat}

theorem State.putZclr_changes (s : State) (x : SMap Nat) : Changes [] [.zclr] [] [] s (s.putZclr x) :=
  Within.changes ⟨fun _ hp => Part.same_putZclr s x (by simpa using hp), rfl⟩

theorem State.zoomClearEnd_none (h : s.zclr.get z 0 = 0) : s.zoomClearEnd z = s := by simp [State.zoomClearEnd, h]

theorem State.zoomClearEnd_changes (h : s.zclr.get z 0 = b + 1) :
    Changes [(F.HEAT_ZCTL_CLR_BUSY, z, 0)] (.zclr :: runParts (heatAddr true b (4096 * z)) 0x4000) [] [] s
      (s.zoomClearEnd z) ∧
    ReadsZero (s.zoomClearEnd z) (heatAddr true b (4096 * z)) 0x4000 ∧ (s.zoomClearEnd z).zclr = s.zclr.set z 0 0 := by
  have hzero := s.zeroMem_zero (heatAddr true b (4096 * z)) 0x4000
  have hrange := s.zeroMem_changes (heatAddr true b (4096 * z)) 0x4000
  have hend : s.zoomClearEnd z = ((s.zeroMem (heatAddr true b (4096 * z)) 0x4000).clr F.HEAT_ZCTL_CLR_BUSY z).putZclr
      (s.zclr.set z 0 0) := by simp only [State.zoomClearEnd, h]
  generalize s.zeroMem _ _ = t at hzero hrange hend
  have hdone := (t.wr_changes F.HEAT_ZCTL_CLR_BUSY z 0 rfl).trans (State.putZclr_changes _ (s.zclr.set z 0 0))
  rw [hend]
  refine ⟨(hrange.trans hdone (by simp)).mono ?_ ?_, hdone.only_quiet.readsZero (by simp [Vals.parts]) hzero, rfl⟩
  · simp
  · simp +contextual [Vals.parts, or_imp]

theorem State.zctlWrite_clears (req addr : Nat) (h : s.zclr.get z 0 = 0) :
    Changes [(F.HEAT_ZCTL_EN, z, 0), (F.HEAT_ZCTL_CLR_BUSY, z, 1)] [.zclr] [] [] s (s.zctlWrite req addr z false true) ∧
    (s.zctlWrite req addr z false true).zclr = s.zclr.set z (1 + s.liveBank) 0 := by
  have hoff := s.wr_changes F.HEAT_ZCTL_EN z 0 rfl
  have hwrite : s.zctlWrite req addr z false true = (s.wr F.HEAT_ZCTL_EN z 0).zoomClear z := rfl
  have hlive : (s.wr F.HEAT_ZCTL_EN z 0).liveBank = s.liveBank := hoff.rd
  have hbusy := hoff.trans (State.wr_changes _ F.HEAT_ZCTL_CLR_BUSY z 1 rfl)
  rw [hwrite, State.zoomClear, State.zoomClearEnd_none (s := s.wr F.HEAT_ZCTL_EN z 0) h, hlive]
  exact ⟨hbusy.trans (State.putZclr_changes _ _), rfl⟩

end

/-! Clearing the counters (R245) -/

/-- The counters that HEAT_CTL.CNT_CLR clears. -/
def heatCounters : List Fld :=
  [F.HEAT_SWAP_CNT_SWAPS, F.HEAT_SWAP_CNT_SWAP_SKIPPED, F.HEAT_EXP_CNT_DONE, F.HEAT_EXP_CNT_ABORT]

theorem State.clrHeatCnt_clears (s : State) : Clears heatCounters ([F.HEAT_SWAP_CNT_SWAPS, F.HEAT_SWAP_CNT_SWAP_SKIPPED].map
    (fun f => (f, 0)) ++ (List.range 16).flatMap fun p => [F.HEAT_EXP_CNT_DONE, F.HEAT_EXP_CNT_ABORT].map fun f => (f, p))
    s s.clrHeatCnt := by
  have hd : IdsDistinct heatCounters := by decide
  exact (s.clrAll_clears hd (by simp [heatCounters]) 0).trans hd
    (forUp_clears hd 16 _ fun p a => a.clrAll_clears hd (by simp [heatCounters]) p)

/-- Settles O33: by the state of the bank, and by the clear that is under way, each command makes the writes that a lemma
above names. -/
theorem banksAndWindowsAreCleared : Obligations.BanksAndWindowsAreCleared := by
  unfold Obligations.BanksAndWindowsAreCleared
  refine ⟨fun s r hr ⟨ho, _⟩ hn => ?releases, fun s r hr ho => ?pends, fun s r hr ho => ?released,
    fun s hq ⟨ha, ho, _⟩ hn => ?releasesItself, fun s hq h => ?staysHeld, fun s hq => ?clean,
    fun s r p hr hp hc => ?partition, fun s p b i n hq ⟨hp, _, _, hn⟩ ⟨hc, h⟩ => ?partitionEnds,
    fun s p hq hp h => ?noPartition, fun s r z hr hz hc => ?window, fun s z b hq ⟨hz, _⟩ ⟨hc, h⟩ => ?windowEnds,
    fun s z hq hz h => ?noWindow, fun s r hr => ?counters⟩
  case releases =>
    obtain ⟨hclears, hzero⟩ := State.startClearing_changes (s := s.begun) hn
    rw [← State.releaseBank_frozen (s := s.begun) ho] at hclears hzero
    exact Changes.gives_core hclears (exec_heatCtlRel s r) rfl hr hzero
  case pends =>
    have hpends := State.releaseBank_flushing (s := s.begun) ho
    exact Changes.gives_core (k := State.releaseBank) (hpends ▸ s.begun.wr_changes F.HEAT_STAT_REL_PEND 0 1 rfl)
      (exec_heatCtlRel s r) rfl hr trivial
  case released =>
    have hnothing := State.releaseBank_elsewhere (s := s.begun) ho
    exact Changes.gives_core (k := State.releaseBank) (by simpa only [hnothing] using Changes.refl _)
      (exec_heatCtlRel s r) rfl hr trivial
  case releasesItself =>
    obtain ⟨hclears, hzero⟩ := State.startClearing_changes (s := s.begun) hn
    rw [← State.autoReleased_frozen (s := s.begun) ha ho hn] at hclears hzero
    exact hclears.gives (exec_autoReleased s) rfl hq hzero
  case staysHeld => exact Gives.of_nothing (exec_autoReleased s) rfl hq (State.autoReleased_elsewhere (s := s.begun) h)
  case clean => exact (State.cleared_changes (s := s.begun)).gives (exec_cleared s) rfl hq trivial
  case partition =>
    obtain ⟨hstarts, hclr⟩ := State.pctlWrite_clears (s := s.begun) (reqCode r) (0x50100 + 0x40 * p) hc
    exact Changes.gives_core (k := fun a => a.pctlWrite (reqCode r) (0x50100 + 0x40 * p) p false true) hstarts
      (exec_heatPctlClr s r p) (decide_eq_true hp) hr hclr
  case partitionEnds =>
    obtain ⟨hclears, hzero⟩ := State.partClearEnd_changes (s := s.begun) h hn
    exact Changes.gives_running (k := fun a => a.partClearEnd p) hclears (exec_partitionClearEnd s p)
      (decide_eq_true hp) hq hc hzero
  case noPartition =>
    refine Gives.of_idle (k := fun a => a.partClearEnd p) (exec_partitionClearEnd s p) (decide_eq_true hp) hq fun hc => ?_
    exact State.partClearEnd_none (s := s.begun) (h.resolve_left (by simp [hc]))
  case window =>
    obtain ⟨hstarts, hclr⟩ := State.zctlWrite_clears (s := s.begun) (reqCode r) (0x50500 + 0x10 * z) hc
    exact Changes.gives_core (k := fun a => a.zctlWrite (reqCode r) (0x50500 + 0x10 * z) z false true) hstarts
      (exec_heatZctlClr s r z) (decide_eq_true hz) hr hclr
  case windowEnds =>
    obtain ⟨hclears, hzero⟩ := State.zoomClearEnd_changes (s := s.begun) h
    exact Changes.gives_running (k := fun a => a.zoomClearEnd z) hclears (exec_zoomClearEnd s z)
      (decide_eq_true hz) hq hc hzero
  case noWindow =>
    refine Gives.of_idle (k := fun a => a.zoomClearEnd z) (exec_zoomClearEnd s z) (decide_eq_true hz) hq fun hc => ?_
    exact State.zoomClearEnd_none (s := s.begun) (h.resolve_left (by simp [hc]))
  case counters =>
    refine s.begun.clrHeatCnt_clears.gives (exec_heatCtlCntClr s r) rfl hr (List.Perm.of_eq ?_)
    simp [List.map_flatMap]

end Sys2Proof.Machine
end

section
/-! O37: the schedule slots (R267, R269): arming and cancelling. -/
namespace Sys2Proof.Machine
-- as in the tests, each theorem is checked before the next one is read, so that few are held in memory at once
set_option Elab.async false

/-- A write that reaches the device does what its effect does, and is acknowledged. -/
theorem Changes.gives_bus {c : Instr} {s : State} {ok : Bool} {k : State → State} {vs : Vals} {ps : List Part}
    {P : State → Prop} {r : Requester} (h : Changes vs ps [] [] s.begun (k s.begun))
    (he : exec c s = effect ok s fun a => a.viaBus r k) (hw : ok = true) (hr : BusReady s r)
    (hp : P ((k s.begun).emit .writeAck)) : Gives c s vs ps [.writeAck] P :=
  Gives.of_bus he hw hr rfl (h.raised.trans (by simp [hr.1])) h.out hp h.holds h.only_quiet.of_begun

theorem State.modClk_changes (s : State) (f : ClkSt → ClkSt) : Changes [] [.clk] [] [] s (s.modClk f) :=
  Within.changes ⟨fun _ hp => Part.same_modClk s f (by simpa using hp), rfl⟩

section
variable {s : State} {k : Nat}

/-- What a slot reports of its last use. -/
def slotResults : List Fld :=
  [F.CLK_SCHED_STAT_LATE, F.CLK_SCHED_STAT_LATENESS, F.CLK_SCHED_STAT_RESULT, F.CLK_SCHED_STAT_FAILQ]

theorem State.slotCtl_arms (req : Nat) (hs : s.rd F.CLK_SCHED_STAT_STATE k ≠ 1) (h1 : 1 ≤ s.rd F.CLK_SCHED_CTL_ACTION k)
    (h6 : s.rd F.CLK_SCHED_CTL_ACTION k ≤ 6) :
    Changes ((F.CLK_SCHED_STAT_STATE, k, 1) :: slotResults.map fun f => (f, k, 0)) [.clk] [] [] s
      (s.slotCtl req k true false) ∧
    (s.slotCtl req k true false).clk = { s.clk with
      late := if (s.drip + 2 ^ 48 - s.slotTarget k) % 2 ^ 48 < 2 ^ 47 then k :: s.clk.late.filter (· != k)
        else s.clk.late.filter (· != k) } := by
  have ha : ¬(s.rd F.CLK_SCHED_CTL_ACTION k = 0 ∨ s.rd F.CLK_SCHED_CTL_ACTION k > 6) := by omega
  have hslot : s.slotCtl req k true false = ((s.clrAll slotResults k).wr F.CLK_SCHED_STAT_STATE k 1).modClk fun c =>
      { c with late := if s.passed (s.slotTarget k) then k :: c.late.filter (· != k) else c.late.filter (· != k) } := by
    simp only [State.slotCtl, State.armSlot, if_neg hs, if_neg ha, if_true]
    rfl
  have hclears := (State.clrAll_clears (by decide : IdsDistinct slotResults) s (fun _ hf => hf) k).changes
  have hclk : (s.clrAll slotResults k).clk = s.clk := hclears.only .clk (by simp [Vals.parts])
  rw [hslot]
  refine ⟨((hclears.trans (State.wr_changes _ F.CLK_SCHED_STAT_STATE k 1 rfl) ?_).trans
    (State.modClk_changes _ _)).mono ?_ ?_, ?_⟩
  · simp (disch := decide) [slotResults, Vals.parts, Fld.ids_differ]
  · simp
  · simp +contextual [slotResults, Vals.parts, or_imp]
  · simp only [State.modClk, State.wr_clk, hclk, State.passed, decide_eq_true_eq]

theorem State.slotCtl_cancels (req : Nat) (hs : s.rd F.CLK_SCHED_STAT_STATE k = 1) :
    Changes [(F.CLK_SCHED_STAT_STATE, k, 2), (F.CLK_SCHED_STAT_RESULT, k, 3)] [.clk] [] [] s (s.slotCtl req k false true) ∧
    (s.slotCtl req k false true).clk = { s.clk with late := s.clk.late.filter (· != k) } := by
  have hslot : s.slotCtl req k false true = ((s.wr F.CLK_SCHED_STAT_STATE k 2).wr F.CLK_SCHED_STAT_RESULT k 3).modClk fun c =>
      { c with late := c.late.filter (· != k) } := by
    simp only [State.slotCtl, State.cancelSlot, if_pos hs, if_true]
  rw [hslot]
  exact ⟨((s.wr_changes F.CLK_SCHED_STAT_STATE k 2 rfl).trans (State.wr_changes _ F.CLK_SCHED_STAT_RESULT k 3 rfl)).trans
    (State.modClk_changes _ _), rfl⟩

theorem State.slotCtl_noAction (req : Nat) (hs : s.rd F.CLK_SCHED_STAT_STATE k ≠ 1) (h0 : s.rd F.CLK_SCHED_CTL_ACTION k = 0) :
    s.slotCtl req k true false = s.refuse F.GLB_WERR_CLK req (0x1108 + 0x10 * k) := by
  simp [State.slotCtl, State.armSlot, hs, h0]

theorem State.slotCtl_armed (req : Nat) (hs : s.rd F.CLK_SCHED_STAT_STATE k = 1) : s.slotCtl req k true false = s := by
  simp [State.slotCtl, hs]

theorem State.slotCtl_notArmed (req : Nat) (hs : s.rd F.CLK_SCHED_STAT_STATE k ≠ 1) : s.slotCtl req k false true = s := by
  simp [State.slotCtl, hs]

end

/-- Settles O37: by the slot's state and, for ARM, by the action it names, each write does what a lemma above says. -/
theorem scheduleSlotsAreArmedAndCancelled : Obligations.ScheduleSlotsAreArmedAndCancelled := by
  unfold Obligations.ScheduleSlotsAreArmedAndCancelled
  refine ⟨fun s r k hr hk ⟨hs, h1, h6⟩ => ?arms, fun s r k hr hk ⟨hs, h0⟩ hany => ?noAction,
    fun s r k hr hk hs => ?armed, fun s r k hr hk hs => ?cancels, fun s r k hr hk hs => ?notArmed⟩
  case arms =>
    obtain ⟨harms, hclk⟩ := State.slotCtl_arms (s := s.begun) (reqCode r) hs h1 h6
    exact harms.gives_bus (k := fun a => a.slotCtl (reqCode r) k true false)
      (exec_clkSchedCtlArm s r k) (decide_eq_true hk) hr hclk
  case noAction =>
    obtain ⟨hrefused, hnow⟩ := State.refuse_changes (s := s.begun) (f := F.GLB_WERR_CLK) rfl hany (reqCode r)
      (0x1108 + 0x10 * k)
    rw [← State.slotCtl_noAction (s := s.begun) (reqCode r) hs h0] at hrefused hnow
    exact hrefused.gives_bus (k := fun a => a.slotCtl (reqCode r) k true false) (exec_clkSchedCtlArm s r k)
      (decide_eq_true hk) hr hnow
  case armed =>
    have hsame := State.slotCtl_armed (s := s.begun) (reqCode r) hs
    exact Changes.gives_bus (k := fun a => a.slotCtl (reqCode r) k true false) (hsame.symm ▸ Changes.refl _)
      (exec_clkSchedCtlArm s r k) (decide_eq_true hk) hr trivial
  case cancels =>
    obtain ⟨hcancels, hclk⟩ := State.slotCtl_cancels (s := s.begun) (reqCode r) hs
    exact hcancels.gives_bus (k := fun a => a.slotCtl (reqCode r) k false true) (exec_clkSchedCtlCancel s r k)
      (decide_eq_true hk) hr hclk
  case notArmed =>
    have hsame := State.slotCtl_notArmed (s := s.begun) (reqCode r) hs
    exact Changes.gives_bus (k := fun a => a.slotCtl (reqCode r) k false true) (hsame.symm ▸ Changes.refl _)
      (exec_clkSchedCtlCancel s r k) (decide_eq_true hk) hr trivial

end Sys2Proof.Machine
end

section
/-! O51: the firmware that stage 3 chooses where no Survey bank runs (R340, R341, R363). -/
namespace Sys2Proof.Machine
-- as in the tests, each theorem is checked before the next one is read, so that few are held in memory at once
set_option Elab.async false

/-! What stage 3 leaves -/

@[simp] theorem State.showFlash_boot (s : State) : s.showFlash.boot = s.boot := by
  unfold State.showFlash
  split <;> simp

@[simp] theorem State.showFlash_raised (s : State) : s.showFlash.raised = s.raised := by
  unfold State.showFlash
  split <;> simp

@[simp] theorem State.showFlash_bootsel (s : State) : s.showFlash.rd F.BOOT_STAT_BOOTSEL 0 = s.rd F.BOOT_STAT_BOOTSEL 0 := by
  unfold State.showFlash
  split
  · rfl
  · simp (disch := decide) only [State.rd_wr_fld]

@[simp] theorem State.flashWrite_raised (s : State) (k : Flash → Flash) : (s.flashWrite k).2.raised = s.raised := by
  unfold State.flashWrite State.refuse
  split
  · simp
  · split
    · split <;> simp [State.inc, State.incBy, State.setF]
    · simp [State.setF]

@[simp] theorem State.compactLog_raised (s : State) : s.compactLog.raised = s.raised := by
  unfold State.compactLog
  split
  · rfl
  · split
    · rfl
    · dsimp only
      split <;> simp

@[simp] theorem State.appendLog_raised (s : State) (t : RecType) (comp b : Nat) : (s.appendLog t comp b).raised = s.raised := by
  unfold State.appendLog State.compactFw
  split <;> simp

@[simp] theorem State.readFlash_boot (s : State) (f : Flash) : (s.readFlash f).boot =
    { s.boot with flash := some f, area := flashArea f } := by
  simp [State.readFlash, State.wrB]

@[simp] theorem State.readFlash_raised (s : State) (f : Flash) : (s.readFlash f).raised = s.raised := by
  simp [State.readFlash, State.wrB]

theorem State.readFlash_bootsel (s : State) (f : Flash) :
    (s.readFlash f).rd F.BOOT_STAT_BOOTSEL 0 = s.rd F.BOOT_STAT_BOOTSEL 0 := by
  unfold State.readFlash
  simp (disch := decide) only [State.showFlash_bootsel, State.wrB, State.rd_wr_fld]
  rfl

/-- A component none of whose banks runs is reported in BOOT_ERR alone (R341). -/
theorem State.applyChoice_none (s : State) (comp e b : Nat) :
    (s.applyChoice comp ⟨none, none, false, some (e, b)⟩).boot = s.boot ∧
      (s.applyChoice comp ⟨none, none, false, some (e, b)⟩).raised = s.raised := by
  simp [State.applyChoice, State.bootErr]

theorem State.applyChoice_trial_raised (s : State) (comp b : Nat) :
    (s.applyChoice comp ⟨some (b, true), some (.trial, b), false, none⟩).raised = s.raised := by
  simp [State.applyChoice]

/-- Stage 3 tries the pending firmware bank where a trial may follow, though no Survey bank runs (R340, R363). -/
theorem State.endStage3_triesFirmware {s : State} {f : Flash} {seen : FlashSeen} {e c b : Nat}
    (hseen : s.flashSeen seen = some f) (hsuits : flashSuits f = true)
    (hsel : s.rd F.BOOT_STAT_BOOTSEL 0 = 0) (hsv : choose f s.boot.keys 2 0 true = ⟨none, none, false, some (e, c)⟩)
    (hfw : choose f s.boot.keys 1 0 true = ⟨some (b, true), some (.trial, b), false, none⟩) :
    (s.endStage3 seen).boot.fw = some (b, true) ∧ (s.endStage3 seen).raised = s.raised := by
  obtain ⟨hboot, hraised⟩ := (s.readFlash f).applyChoice_none 2 e c
  simp [State.endStage3, hseen, hsuits, State.chooseBanks, State.readFlash_bootsel, hsel, hsv, hboot, hfw, hraised,
    State.applyChoice_trial_raised, State.recover, State.openWindow, State.setF]

/-- A command that ends stage 3. -/
theorem exec_stage3 {s : State} {x : StageIn} (h : InStage s 3 ∧ x.wf = true) :
    exec (.startupStageComplete x) s = .next (s.begun.endStage3 x.flash).settle := by
  obtain ⟨⟨-, hheld, hfailed, hstage⟩, hwf⟩ := h
  have hend : s.begun.stageEnd x = .next (s.begun.endStage3 x.flash) := by
    simp [State.stageEnd, hheld, hfailed, hstage]
  show (if x.wf then finish (s.begun.stageEnd x) else _) = _
  rw [if_pos hwf, hend]
  rfl

/-! The choice of a bank (R340) -/

section
variable {f : Flash} {keys : List Nat} {comp lowest : Nat} (mayTry : Bool)

theorem choose_none {e : Nat} (hreplay : flashReplay f comp = {}) (herr : ∀ b < 2, bankErr f keys comp lowest b = some e) :
    choose f keys comp lowest mayTry = ⟨none, none, false, some (e, 0)⟩ := by
  simp [choose, hreplay, herr]

/-- Bank 0, in force with no CONFIRMED record, runs where no trial may follow, and a pending bank 1 is tried where one may. -/
theorem choose_pending {d : List Nat} (hreplay : flashReplay f comp = { pend := some 1, verB := some d, any := true })
    (hdigest : bankDigest f comp 1 = d) (herr : ∀ b < 2, bankErr f keys comp lowest b = none) :
    choose f keys comp lowest mayTry =
      if mayTry then ⟨some (1, true), some (.trial, 1), false, none⟩ else ⟨some (0, false), none, false, none⟩ := by
  cases mayTry <;> simp [choose, hreplay, hdigest, herr, Replay.ver]

end

/-! Reading what was programmed -/

theorem SMap.get_append {α : Type} (m n : SMap α) (k : Nat) (d : α) : (m ++ n).get k d = m.get k (n.get k d) := by
  induction m with
  | nil => rfl
  | cons e t ih =>
    show (if e.1 = k then e.2 else SMap.get (t ++ n) k d) = _
    rw [ih]
    rfl

/-- The cells that bytes programmed from an address on leave (R337): an erased one reads 0xFF. -/
def programmed (a : Nat) : List Nat → SMap Nat
  | [] => []
  | b :: t => if b = 0xFF then programmed (a + 1) t else (a, b) :: programmed (a + 1) t

theorem programmed_get_outside (l : List Nat) {a k : Nat} (d : Nat) (h : k < a ∨ a + l.length ≤ k) :
    (programmed a l).get k d = d := by
  induction l generalizing a with
  | nil => rfl
  | cons b t ih =>
    rw [List.length_cons] at h
    have ht := ih (a := a + 1) (by omega)
    have hne : a ≠ k := by omega
    unfold programmed
    split
    · exact ht
    · exact (if_neg hne).trans ht

theorem programmed_get (l : List Nat) (a k : Nat) : (programmed a l).get (a + k) 0xFF = l.getD k 0xFF := by
  induction l generalizing a k with
  | nil => simp [programmed, SMap.get]
  | cons b t ih =>
    unfold programmed
    cases k with
    | zero =>
      split
      next hb => simp [hb, programmed_get_outside t (a := a + 1) (k := a) 0xFF (by omega)]
      next => exact if_pos rfl
    | succ k =>
      have ht := ih (a + 1) k
      rw [show a + 1 + k = a + (k + 1) by omega] at ht
      have hne : a ≠ a + (k + 1) := by omega
      split
      · exact ht
      · exact (if_neg hne).trans ht

theorem flashRead_image {f : Flash} {a : Nat} {l : List Nat}
    (h : ∀ k, k < l.length → f.cells.get (a + k) 0xFF = l.getD k 0xFF) {o n : Nat} (hn : o + n ≤ l.length) :
    flashRead f (a + o) n = (l.drop o).take n := by
  refine List.ext_getElem (by simp [flashRead]; omega) fun k hk _ => ?_
  have hk : k < n := by simpa [flashRead] using hk
  have hin : o + k < l.length := by omega
  simp [flashRead, Nat.add_assoc, h (o + k) hin, List.getElem?_eq_getElem hin]

theorem flashRead_erased {f : Flash} {a n : Nat} (h : ∀ k < n, f.cells.get (a + k) 0xFF = 0xFF) :
    flashRead f a n = List.replicate n 0xFF :=
  List.ext_getElem (by simp [flashRead]) fun k hk _ => by
    simpa [flashRead] using h k (by simpa [flashRead] using hk)

theorem slotsFrom_written {f : Flash} {area i : Nat} {l : List Nat} (n : Nat)
    (hread : flashRead f (areaBase area + 32 * i) 32 = l) (hl : l.all (· == 0xFF) = false) :
    slotsFrom f area (n + 1) i = l :: slotsFrom f area n (i + 1) := by
  simp only [slotsFrom, hread, hl, Bool.false_eq_true, if_false]

theorem slotsFrom_erased {f : Flash} {area i : Nat} (n : Nat)
    (h : ∀ k < 32, f.cells.get (areaBase area + 32 * i + k) 0xFF = 0xFF) : slotsFrom f area n i = [] := by
  cases n with
  | zero => rfl
  | succ n => simp [slotsFrom, flashRead_erased h]

/-! A device with no valid Survey and a firmware bank pending -/

/-- An entry of a section table (R347). -/
def sectionEntry (type offset length load : Nat) : List Nat :=
  [type, 0, 0, 0] ++ leBytes offset 4 ++ leBytes length 4 ++ leBytes load 4

/-- A firmware body: empty sections for the two partitions, and a phrase set with an empty program for every quad. -/
def smallFirmware : List Nat :=
  leBytes 3 4 ++ sectionEntry 1 52 0 0 ++ sectionEntry 2 52 0 0 ++ sectionEntry 3 52 256 0xFF ++
    List.replicate 8 0 ++ List.replicate 248 0xFF

/-- Its header (R342), with every byte of the digest, of the signature and of the rest 0xFF. -/
def smallHeader : List Nat :=
  leBytes 0x3234E5A1 4 ++ [1, 1, 0, 0] ++ leBytes 1 4 ++ leBytes smallFirmware.length 4 ++ List.replicate 240 0xFF

/-- What the crypto engine answers of the image: body and header have the digest, and the signature verifies (R342). -/
def smallCrypto : Crypto :=
  ⟨[(smallFirmware, hdrDigest smallHeader), (hdrSigned smallHeader, hdrDigest smallHeader)],
    [(0, hdrDigest smallHeader, hdrSig smallHeader)]⟩

/-- The records of the log (R338): firmware bank 1 was verified, and then became pending. -/
def verifiedRec : LogRec := ⟨.verified, 1, 1, 1, 1, List.replicate 16 0xFF⟩
def pendingRec : LogRec := ⟨.pending, 1, 1, 2, 1, List.replicate 16 0xFF⟩

/-- A flash that suits, with that log, no Survey, and the image in both firmware banks. -/
def pendingFlash : Flash :=
  ⟨0, 26, 1, true, programmed 0 (recBytes verifiedRec ++ recBytes pendingRec) ++
    (programmed (bankBase 1 0) (smallHeader ++ smallFirmware) ++ programmed (bankBase 1 1) (smallHeader ++ smallFirmware)),
    smallCrypto⟩

/-- The device in stage 3 after a reset that sampled BOOTSEL 0b00, no key slot written. -/
def State.atStage3 : State := State.reset.wr F.BOOT_STAT_STAGE 0 3

theorem State.atStage3_waits : InStage State.atStage3 3 := by decide +kernel

theorem State.atStage3_bootsel : State.atStage3.rd F.BOOT_STAT_BOOTSEL 0 = 0 := by decide +kernel

theorem pendingFlash_wf : pendingFlash.wf = true := by decide +kernel

theorem pendingFlash_suits : flashSuits pendingFlash = true := by decide +kernel

theorem logBytes_length : (recBytes verifiedRec ++ recBytes pendingRec).length = 64 := by decide +kernel

theorem imageBytes_length : (smallHeader ++ smallFirmware).length = 564 := by decide +kernel

/-! What is where in it -/

theorem pendingFlash_holdsLog (k : Nat) (hk : k < (recBytes verifiedRec ++ recBytes pendingRec).length) :
    pendingFlash.cells.get (0 + k) 0xFF = (recBytes verifiedRec ++ recBytes pendingRec).getD k 0xFF := by
  rw [logBytes_length] at hk
  rw [pendingFlash, SMap.get_append, SMap.get_append,
    programmed_get_outside _ (a := bankBase 1 1) _ (.inl (by show 0 + k < 0x300000; omega)),
    programmed_get_outside _ (a := bankBase 1 0) _ (.inl (by show 0 + k < 0x100000; omega)), programmed_get]

theorem pendingFlash_erased {a : Nat} (h : 64 ≤ a) (ha : a < 0x100000) : pendingFlash.cells.get a 0xFF = 0xFF := by
  rw [pendingFlash, SMap.get_append, SMap.get_append,
    programmed_get_outside _ (a := bankBase 1 1) _ (.inl (by show a < 0x300000; omega)),
    programmed_get_outside _ (a := bankBase 1 0) _ (.inl ha),
    programmed_get_outside _ (a := 0) _ (.inr (by rw [logBytes_length]; omega))]

theorem pendingFlash_holdsImage {b : Nat} (hb : b < 2) (k : Nat) (hk : k < (smallHeader ++ smallFirmware).length) :
    pendingFlash.cells.get (bankBase 1 b + k) 0xFF = (smallHeader ++ smallFirmware).getD k 0xFF := by
  rw [pendingFlash, SMap.get_append, SMap.get_append, programmed_get_outside (recBytes verifiedRec ++ recBytes pendingRec)]
  · rw [imageBytes_length] at hk
    interval_cases b
    · rw [programmed_get_outside _ (a := bankBase 1 1) _ (.inl (by show 0x100000 + k < 0x300000; omega)), programmed_get]
    · rw [programmed_get_outside _ (a := bankBase 1 0) _
        (.inr (by rw [imageBytes_length]; show 0x100000 + 564 ≤ 0x300000 + k; omega)), programmed_get]
  · rw [logBytes_length]
    simp only [bankBase, if_true]
    omega

theorem pendingFlash_log : flashLog pendingFlash = [verifiedRec, pendingRec] := by
  have hlog : areaUsed pendingFlash 0 = [recBytes verifiedRec, recBytes pendingRec] := by
    have hfirst := flashRead_image pendingFlash_holdsLog (o := 0) (n := 32) (by rw [logBytes_length]; omega)
    have hsecond := flashRead_image pendingFlash_holdsLog (o := 32) (n := 32) (by rw [logBytes_length])
    rw [areaUsed, show areaSlots = 2046 + 1 + 1 from rfl]
    rw [slotsFrom_written (area := 0) (i := 0) (l := recBytes verifiedRec) _ (hfirst.trans (by decide +kernel))
        (by decide +kernel),
      slotsFrom_written (area := 0) (i := 1) (l := recBytes pendingRec) _ (hsecond.trans (by decide +kernel))
        (by decide +kernel),
      slotsFrom_erased _ fun k hk => pendingFlash_erased (by simp only [areaBase]; omega) (by simp only [areaBase]; omega)]
  have hempty : areaUsed pendingFlash 1 = [] :=
    slotsFrom_erased _ fun k hk => pendingFlash_erased (by simp only [areaBase]; omega) (by simp only [areaBase]; omega)
  rw [flashLog, areaLog, areaLog, hlog, hempty]
  decide +kernel

theorem pendingFlash_header {b : Nat} (hb : b < 2) : bankHeader pendingFlash 1 b = smallHeader := by
  have hread := flashRead_image (pendingFlash_holdsImage hb) (o := 0) (n := 256) (by rw [imageBytes_length]; omega)
  exact hread.trans (by decide +kernel)

theorem pendingFlash_body {b : Nat} (hb : b < 2) : bankBody pendingFlash 1 b smallHeader = smallFirmware := by
  have hread := flashRead_image (pendingFlash_holdsImage hb) (o := 256) (n := 308) (by rw [imageBytes_length])
  have hlen : (if hdrLen smallHeader ≤ bodyLimit 1 then hdrLen smallHeader else 0) = 308 := by decide +kernel
  rw [bankBody, hlen]
  exact hread.trans (by decide +kernel)

theorem pendingFlash_noSurvey {b : Nat} (hb : b < 2) : bankErr pendingFlash [] 2 0 b = some 5 := by
  have herased : bankHeader pendingFlash 2 b = List.replicate 256 0xFF := by
    have hbase : bankBase 2 b = 0x40000 + 0x20000 * b := rfl
    exact flashRead_erased fun k hk => pendingFlash_erased (by omega) (by omega)
  have hform : headerForm [] 2 (List.replicate 256 0xFF) = false := by decide +kernel
  simp only [bankErr, herased, imageErr, hform, Bool.not_false, if_true, OfNat.ofNat_ne_one, if_false]

theorem pendingFlash_passes {b : Nat} (hb : b < 2) : bankErr pendingFlash [] 1 0 b = none := by
  rw [bankErr, pendingFlash_header hb, pendingFlash_body hb]
  decide +kernel

theorem pendingFlash_survey (mayTry : Bool) :
    choose pendingFlash [] 2 0 mayTry = ⟨none, none, false, some (5, 0)⟩ := by
  have hreplay : flashReplay pendingFlash 2 = {} := by
    rw [flashReplay, pendingFlash_log]
    decide +kernel
  exact choose_none mayTry hreplay fun _ hb => pendingFlash_noSurvey hb

theorem pendingFlash_firmware (mayTry : Bool) : choose pendingFlash [] 1 0 mayTry =
    if mayTry then ⟨some (1, true), some (.trial, 1), false, none⟩ else ⟨some (0, false), none, false, none⟩ := by
  have hreplay : flashReplay pendingFlash 1 = { pend := some 1, verB := some (List.replicate 16 0xFF), any := true } := by
    rw [flashReplay, pendingFlash_log]
    decide +kernel
  have hdigest : bankDigest pendingFlash 1 1 = List.replicate 16 0xFF := by
    rw [bankDigest, pendingFlash_header (by decide)]
    decide +kernel
  exact choose_pending mayTry hreplay hdigest fun _ hb => pendingFlash_passes hb

/-- A flash with no Survey bank that runs, whose firmware bank 0 would run without a trial and whose bank 1 with one,
contradicts the ninth clause: stage 3 chooses the trial. -/
theorem not_bootRomStagesRun_of_pending {f : Flash} (hwf : f.wf = true) (hsuits : flashSuits f = true)
    (hsv : choose f [] 2 0 true = ⟨none, none, false, some (5, 0)⟩)
    (huntried : choose f [] 1 0 false = ⟨some (0, false), none, false, none⟩)
    (htried : choose f [] 1 0 true = ⟨some (1, true), some (.trial, 1), false, none⟩) : ¬ Obligations.BootRomStagesRun := by
  unfold Obligations.BootRomStagesRun
  rintro ⟨-, -, -, -, -, -, -, -, clause, -⟩
  have hin : InStage State.atStage3 3 ∧ StageIn.wf ⟨.holds f, 0⟩ = true := ⟨State.atStage3_waits, hwf⟩
  obtain ⟨t, hexec, -, -, -, hboot⟩ := clause State.atStage3 ⟨.holds f, 0⟩ f 0 5 0 hin rfl hsuits ⟨hsv, by decide⟩ huntried
  obtain ⟨htrial, hquiet⟩ := State.endStage3_triesFirmware (s := State.atStage3.begun) (seen := .holds f) rfl hsuits
    State.atStage3_bootsel hsv htried
  rw [exec_stage3 hin, State.settle_quiet _ (hquiet.trans State.atStage3_waits.1)] at hexec
  rw [Host.Outcome.next.inj hexec, hboot] at htrial
  cases htrial

/-- Refutes O51, by its ninth clause: where no Survey bank runs, the clause has the firmware bank chosen as it is where no
trial may follow, but a reset that samples BOOTSEL 0b00 or 0b11 tries a pending bank (R340, R363). With no Survey in the
flash, firmware bank 0 in force and bank 1 verified and pending, stage 3 runs bank 1 as a trial. -/
theorem not_bootRomStagesRun : ¬ Obligations.BootRomStagesRun :=
  not_bootRomStagesRun_of_pending pendingFlash_wf pendingFlash_suits (pendingFlash_survey true)
    (pendingFlash_firmware false) (pendingFlash_firmware true)

end Sys2Proof.Machine
end

section
/-! O60: what a write of a pair leaves in a table of staging words that is not in canonical form. -/
namespace Sys2Proof.Machine
-- as in the tests, each theorem is checked before the next one is read, so that few are held in memory at once
set_option Elab.async false

/-- A state at the end of reset whose table of staging words lists CLK_TSYNC_LOAD_LO as having none, which is what an unlisted
register has. It stages as the canonical state does: nothing. -/
def State.listsNothingStaged : State := State.reset.putStaged [(0x103C, 0)]

/-- The staging words that a command leaves listed. -/
def stagedAfter (r : Res) : SMap Nat :=
  match r with
  | .next t => t.staged
  | _ => []

theorem State.listsNothingStaged_unlisted :
    stagedAfter (exec (.pairHiWrite .normal 0x1040 0) State.listsNothingStaged) = [] := by decide +kernel

/-- Refutes O60, by its sixth clause: in a state whose table lists the staging word of CLK_TSYNC_LOAD_LO as empty, a write of
CLK_TSYNC_LOAD_HI drops that entry, so that the staging words are not the same, though none is staged before and after.
The clause does not ask that the table be in canonical form, and fails where it is not. -/
theorem not_pairsSnapshotsAndTheWindow : ¬ Obligations.PairsSnapshotsAndTheWindow := by
  unfold Obligations.PairsSnapshotsAndTheWindow
  rintro ⟨-, -, -, -, -, clause, -⟩
  obtain ⟨t, hexec, -, honly, -⟩ :=
    clause State.listsNothingStaged .normal 0 (by decide +kernel) (by decide +kernel)
  have hkept : t.staged = [(0x103C, 0)] := honly .staged (by decide +kernel)
  have hgone : t.staged = [] := by simpa only [hexec, stagedAfter] using State.listsNothingStaged_unlisted
  simp [hgone] at hkept

end Sys2Proof.Machine
end
